-- ==== Sys2Proof/Word.lean ====
section
/-! DEFINITION. The word types of the RZ-4810: registers are 32 bits wide and little-endian (00 R19). -/

namespace Sys2Proof

/-- One byte. -/
abbrev Byte := BitVec 8

/-- A register word (00 R19). -/
abbrev Word := BitVec 32

/-- A string of bytes, first byte first. -/
abbrev Bytes := List Byte

/-- A sparse memory: strictly rising addresses, each with a byte that differs from the unlisted value. -/
abbrev Mem := List Host.Cell

end Sys2Proof
end

