-- ==== Sys2Proof/Syntax.lean ====
section
/-! DEFINITION. The commands of the RZ-4810: one constructor of `Instr` per row of spec/opcode_table.json,
with the operands the command's rule takes from outside the block. -/

namespace Sys2Proof

/-- Where a register access comes from (00 R25; 02 Table 2-13). -/
inductive Src where
  | host | cascade | jtag
  deriving DecidableEq, Repr

/-- Who reaches for a block: a register access of a source, or the SMBus target, which only reads (00 R25, 17 R454 and Table 17-5
SOURCE). -/
inductive Accessor where
  | bus (src : Src)
  | smbus
  deriving DecidableEq, Repr

/-- Who sent a Limium message: a host session, or a Chorus member's forwarded request (18 R476). -/
inductive Origin where
  | session (n : Fin 256)
  | chorus (m : Fin 16)
  deriving DecidableEq, Repr

/-- How a request reaches its unit: by a register write, or as the accepted message with a sequence number
(18 R475). -/
inductive Via where
  | reg (src : Src)
  | msg (o : Origin) (seq : Word)
  deriving DecidableEq, Repr

/-- A slot that executes (08 R251): a programmed entry in a frame for a tone, or a dynamic slot by its requester's TOP
and tag; with the samples by which it slipped. -/
inductive SlotRef where
  | prog (entry frame tone : Nat)
  | dyn (requester : Fin 32) (tag : BitVec 16)
  deriving DecidableEq, Repr

/-- What a NAND chip enable reports in its parameter page (12 R346, R347): bits per cell, main and spare bytes of a page,
LUNs, planes, pages per block, blocks per LUN, rated cycles, and its highest data rate as ANC_GEOM1.BUS codes it. -/
structure NandId where
  bits : Nat
  page : Nat
  spare : Nat
  luns : Nat
  planes : Nat
  pages : Nat
  blocks : Nat
  cycles : Nat
  rate : Nat
  deriving DecidableEq, Repr

/-- What a chip enable answers to READ ID and READ PARAMETER PAGE (12 R347): the bytes of its identifier, and the redundant copies of its
parameter page in their order, each with whether its ONFI CRC matches. -/
structure NandAnswer where
  id : List (BitVec 8)
  copies : List (Bool × NandId)
  deriving DecidableEq, Repr

/-- How the training of DRAM ends (11 R329): it passes, a stage does not converge, or the training check reads the unit at a device
address back wrong. -/
inductive TrainCheck where
  | passes | stage
  | mismatch (addr : Nat)
  deriving DecidableEq, Repr

/-- Words of engine memory in which bits have been upset by the time of an access: an aperture offset in each, and whether two of its bits
are (07 R245). -/
abbrev Upsets := List (BitVec 26 × Bool)

/-- What the surroundings add to a register write whose effect needs it: its instant, the bytes a CVU transfer had processed at an
ABORT, the instant of the next frame boundary, and new submission slots in host memory. -/
structure BusEnv where
  t : Nat
  done : Nat
  next : Nat
  slots : List (List (BitVec 8))
  deriving DecidableEq, Repr

/-- The commands of the RZ-4810, one constructor per row of spec/opcode_table.json, in its order. -/
inductive Instr where
  /-- POWER_ON_RESET: VDD_AO monitor asserts power-on reset, clearing everything on chip except OTP, boot flash and NAND. (R516) -/
  | powerOnReset
  /-- POWER_ON_RESET_RELEASE: Power-on reset releases 2 ms after VDD_AO rises above threshold; straps may be sampled and start-up begins. (R538) -/
  | powerOnResetRelease (straps : Fin 8) (t : Nat)
  /-- RESET_N: RESET_N held low for at least 1 us causes a warm reset with cause PIN. (R517) -/
  | resetN (low : Bool) (t : Nat)
  /-- WARM_RESET_RELEASE: Blocks leave warm reset 20 us after the last cause ends and start-up restarts. (R517) -/
  | warmResetRelease (straps : Fin 8) (t : Nat)
  /-- CORE_SUPPLY: VDD_CORE leaves its range and a warm reset with cause CORE_SUPPLY begins. (R527) -/
  | coreSupply (t : Nat)
  /-- CORE_SUPPLY_RECOVERED: VDD_CORE has been back in range for 1 ms and the held warm reset ends. (R527) -/
  | coreSupplyRecovered (t : Nat)
  /-- TRST_N: TRST_N low resets the JTAG TAP only. (R516) -/
  | trstN
  /-- PERST_ASSERT: PERST_N asserted closes every session, disables stream channels and resets the HIF. (R483) -/
  | perstAssert (t : Nat)
  /-- PERST_DEASSERT: PERST_N released sets the LINK hold and lets the HIF train the link. (R483) -/
  | perstDeassert (t : Nat)
  /-- HEADER_READ: Start-up header read from SPI flash completes and is accepted or refused with HEADER_BAD. (R519) -/
  | headerRead (t : Nat)
  /-- LINK_TRAINED: PCI Express link training completes and the HIF stops answering with retry status. (R524) -/
  | linkTrained (speed width : Fin 3) (t : Nat)
  /-- LINK_L1_ENTRY: Link enters L1 and the LINK hold lowers HOST's target to DOZE. (R449) -/
  | linkL1Entry (t : Nat)
  /-- LINK_L1_EXIT: Link leaves L1 and the LINK hold raises HOST to RUN. (R449) -/
  | linkL1Exit (t : Nat)
  /-- FRAME_BOUNDARY: A frame boundary opens a real or virtual frame and commits the boundary actions of Table 1-4 in order. (R44) -/
  | frameBoundary (t : Nat) (fadc madc : List (List Int)) (runs : List Nat) (cycles : Nat)
  /-- ACQUISITION_STOPPED: The last real frame is fully delivered or lost and the MRS enters STOPPED. (R265) -/
  | acquisitionStopped (t : Nat)
  /-- VIRTUAL_FRAME_TIMEOUT: No LAUNCH_IN edge within T_max, or T after a virtual frame, so the MRS opens a virtual frame. (R42) -/
  | virtualFrameTimeout (t : Nat) (fadc madc : List (List Int)) (runs : List Nat) (cycles : Nat)
  /-- LAUNCH_IN_EDGE: A LAUNCH_IN edge is stamped and accepted or ignored under T_min. (R42) -/
  | launchInEdge (stamp : Nat) (falling : Bool)
  /-- SLAVE_LAUNCH_REFERENCE: At stamp + L rounded up to a fast sample, the MRS opens the new frame and the PGU emits tone 0. (R41) -/
  | slaveLaunchReference (t : Nat) (fadc madc : List (List Int)) (runs : List Nat) (cycles : Nat)
  /-- TONE_LAUNCH: At launch reference + k x S tone k starts its chirp, truncating an older chirp of the same tone. (R100) -/
  | toneLaunch (k : Fin 16) (frame : Nat)
  /-- GATE_EDGE: A derived slot opens or closes GATE0 or GATE1. (R102) -/
  | gateEdge (n : Fin 2) (t2 : Nat)
  /-- LAUNCH_OUT_EDGE: A derived slot drives LAUNCH_OUT active or inactive. (R107) -/
  | launchOutEdge (t : Nat)
  /-- CAL_SEL_CHANGE: A derived slot drives CAL_SEL active or inactive during a calibration run. (R111) -/
  | calSelChange (t2 : Nat)
  /-- PGA_STEP: A gain-profile step changes the PGA code at its instant. (R132) -/
  | pgaStep (t : Nat)
  /-- BLANK_WINDOW_EDGE: A FAFE blanking window opens or closes after a tone launch instant. (R137) -/
  | blankWindowEdge (w : Fin 2) (t : Nat)
  /-- BLANK_IN_CHANGE: BLANK_IN changes level and blanking follows 8.0 ns later for FAFE, MAFE and VPF. (R137) -/
  | blankInChange (level : Bool) (t : Nat)
  /-- NOTIFY: A NOTIFY slot raises event ARG in a fixed block such as the TTU or VPF. (R252) -/
  | notify (ref : SlotRef)
  /-- GPIO_SET: A GPIO_SET slot drives a GPIO high. (R252) -/
  | gpioSet (ref : SlotRef)
  /-- GPIO_CLEAR: A GPIO_CLEAR slot drives a GPIO low. (R252) -/
  | gpioClear (ref : SlotRef)
  /-- DECISION: A DECISION slot closes a zone's interval, forms statistics and runs its trigger program. (R279) -/
  | decision (ref : SlotRef)
  /-- CAPTURE_OPEN: A CAPTURE_OPEN slot triggers a capture record. (R289) -/
  | captureOpen (ref : SlotRef)
  /-- TIMER: A TIMER slot decrements a zone's running timers and raises a TIMER event on expiry. (R283) -/
  | timer (ref : SlotRef)
  /-- SLOT_DOORBELL: A DOORBELL slot sets IPEND.DOORBELL in a group. (R252) -/
  | slotDoorbell (ref : SlotRef)
  /-- DYNAMIC_SLOT_REQUEST: A unit requests a dynamic slot, accepted or refused SLOT_RANGE, SLOT_PAST or SLOT_FULL. (R253) -/
  | dynamicSlotRequest (t : Nat) (requester : Fin 32) (frame : Nat) (off : Int) (action : Nat) (arg : Nat) (tag : BitVec 16)
  /-- DYNAMIC_SLOT_CANCEL: A requester cancels a dynamic slot by tag. (R253) -/
  | dynamicSlotCancel (t : Nat) (requester : Fin 32) (tag : BitVec 16)
  /-- BLOCK_DISPATCH: At a block's ready instant the MRS writes its dispatch descriptor or queues it, losing it if the queue is full. (R255) -/
  | blockDispatch (stream : Fin 8) (index frame : Nat) (fadc madc : List (List Int)) (t : Nat)
  /-- ACQ_START: Start acquisition by MRS_CTRL.START or message, entering STARTING. (R265) -/
  | acqStart (via : Via) (t : Nat)
  /-- ACQ_STOP: Stop acquisition by MRS_CTRL.STOP or message. (R265) -/
  | acqStop (via : Via) (t : Nat)
  /-- MRS_COUNT_CLR: MRS_CTRL.COUNT_CLR clears the MRS counters. (R265) -/
  | mrsCountClr (src : Src)
  /-- HEALTH_CLR: MRS_CTRL.HEALTH_CLR clears DEGRADED and LATE_RUN of every group. (R262) -/
  | healthClr (src : Src)
  /-- REBALANCE_RESET: MRS_CTRL.REBALANCE_RESET restores the ROUTING assignment at the next boundary. (R263) -/
  | rebalanceReset (src : Src)
  /-- IMAGE_BEGIN: Host begins an image load into PENDING, optionally with PERSIST. (R478) -/
  | imageBegin (o : Origin) (seq : Word)
  /-- IMAGE_CHUNK: Host writes a chunk of image bytes; FINAL marks data complete and starts validation. (R478) -/
  | imageChunk (o : Origin) (seq : Word)
  /-- BOOT_IMAGE_LOAD: SIL loads the boot slot from SPI flash, falling back to the other slot on failure. (R78) -/
  | bootImageLoad (t : Nat)
  /-- IMAGE_CHECKS_COMPLETE: Validation ends with READY and OK or EMPTY with the first failure code; LOAD_DONE set. (R80) -/
  | imageChecksComplete (written : Bool) (t : Nat)
  /-- SWITCH_NEXT: Switch request for the next boundary arms the PENDING image. (R81) -/
  | switchNext (via : Via) (t : Nat)
  /-- SWITCH_AT: Switch request for frame F arms the PENDING image or is refused TOO_LATE. (R81) -/
  | switchAt (via : Via) (t : Nat)
  /-- IMAGE_DISARM: Disarm returns an ARMED image to READY or is refused TOO_LATE. (R82) -/
  | imageDisarm (via : Via) (next t : Nat)
  /-- IMAGE_ABORT: Abort empties PENDING or is refused TOO_LATE. (R82) -/
  | imageAbort (via : Via) (next t : Nat)
  /-- IMAGE_STATE: Return SIL state, result and serials. (R477) -/
  | imageState (o : Origin) (seq : Word)
  /-- LOCK_CLR: SIL_CTRL.LOCK_CLR clears SIL_LOCK_COUNT. (R88) -/
  | lockClr (src : Src)
  /-- HEAVY_SWITCH_DRAIN_DONE: Engines finish every frame of the old image and the SIL starts writing engine memories. (R86) -/
  | heavySwitchDrainDone (t : Nat)
  /-- ENGINE_LOAD_COMPLETE: SIL completes loading a group's instruction and data memories and the group becomes LOADED. (R242) -/
  | engineLoadComplete (g : Fin 64) (t : Nat)
  /-- POINTER_RECORD_APPEND: After a persisted image's switch the SIL appends a pointer record to the SPI flash. (R76) -/
  | pointerRecordAppend
  /-- REGISTER_WRITE: A BAR0 write to a register with no row of its own sets fields by their access codes. (R20) -/
  | registerWrite (src : Src) (off : BitVec 24) (be : Fin 16) (w : Word) (env : BusEnv)
  /-- OFF_ACCESS: A register or aperture access to a block that is not on reads 0, is discarded and is logged in PMU_OFFLOG. (R454) -/
  | offAccess (src : Accessor) (aperture write : Bool) (off : BitVec 26) (t : Nat)
  /-- CAL_RUN: Host requests a calibration run by message or PGU_CTRL.CAL_REQ. (R113) -/
  | calRun (via : Via)
  /-- PGU_FAULT_CLR: PGU_CTRL.FAULT_CLR leaves FAULT to STOPPED or OFF. (R119) -/
  | pguFaultClr (src : Src)
  /-- PGU_COUNT_CLR: PGU_CTRL.COUNT_CLR clears the PGU counters. (R99) -/
  | pguCountClr (src : Src)
  /-- PDAC_PLL_LOCK: PDAC PLL locks after FAST_AFE reaches RUN and the PGU enters STOPPED. (R119) -/
  | pdacPllLock (t : Nat)
  /-- PLL_UNLOCK: PDAC PLL loses lock; PGU and FAFE react per their state tables. (R119) -/
  | pllUnlock (t : Nat)
  /-- FAFE_CAL_REQ: FAFE_CTRL.CAL_REQ starts a foreground converter calibration. (R141) -/
  | fafeCalReq (src : Src)
  /-- MAFE_CAL_REQ: MAFE_CTRL.CAL_REQ starts a medium-converter offset calibration. (R141) -/
  | mafeCalReq (src : Src)
  /-- ADC_CALIBRATION_DONE: A FAFE or MAFE calibration ends, entering READY or FAULT with ADC_CAL_FAIL. (R141) -/
  | adcCalibrationDone (mafe : Bool) (offsets skews : List Int) (t : Nat)
  /-- STEPCAL_REQ: FAFE_CTRL.STEPCAL_REQ starts measuring the gain-step factors. (R143) -/
  | stepcalReq (src : Src)
  /-- STEPCAL_DONE: Step-factor measurement completes and FAFE_STEPCAL is written. (R143) -/
  | stepcalDone (responses : List (Int × Int))
  /-- FAFE_COUNT_CLR: FAFE_CTRL.COUNT_CLR clears the FAFE saturation counts. (R139) -/
  | fafeCountClr (src : Src)
  /-- MAFE_COUNT_CLR: MAFE_CTRL.COUNT_CLR clears the MAFE saturation counts. (R140) -/
  | mafeCountClr (src : Src)
  /-- FAFE_FAULT_CLR: FAFE_CTRL.FAULT_CLR leaves FAULT. (R147) -/
  | fafeFaultClr (src : Src)
  /-- MAFE_FAULT_CLR: MAFE_CTRL.FAULT_CLR leaves FAULT. (R147) -/
  | mafeFaultClr (src : Src)
  /-- TF_EVALUATION: Within 20 ms of the trailing guard frame the PCX evaluates the run and stages or rejects each tone. (R160) -/
  | tfEvaluation (fadc madc : List (List Int)) (t : Nat)
  /-- TF_STAGE: Host stages transfer-function coefficients of a tone by message. (R161) -/
  | tfStage (o : Origin) (seq : Word)
  /-- TF_LOAD: Marks staged coefficients of tones below K as LOADED. (R161) -/
  | tfLoad (via : Via)
  /-- TF_COMMIT: Commits the stage, entering APPLYING. (R162) -/
  | tfCommit (via : Via)
  /-- TF_DISCARD: Discards the stage. (R161) -/
  | tfDiscard (via : Via)
  /-- TEMPLATE_BUILD_DONE: PCX finishes building the new templates and passes the coefficients to the ALM for a record. (R162) -/
  | templateBuildDone
  /-- PCX_FAULT_CLR: PCX_CTRL.FAULT_CLR leaves FAULT to READY. (R181) -/
  | pcxFaultClr (src : Src)
  /-- PCX_COUNT_CLR: PCX_CTRL.COUNT_CLR clears PCX_OVF_COUNT and PCX_EVENT_COUNT. (R155) -/
  | pcxCountClr (src : Src)
  /-- BANK_RELEASE: Engines release a shot-averager bank, letting a WAITING averager open a record. (R191) -/
  | bankRelease
  /-- NOP: No operation. (R215) -/
  | nop (e : Fin 64)
  /-- BR: Branch to TARGET with two delay slots. (R226) -/
  | br (e : Fin 64)
  /-- CALL: Branch with LNK set to the return index. (R226) -/
  | call (e : Fin 64)
  /-- RET: Branch to LNK. (R226) -/
  | ret (e : Fin 64)
  /-- LOOP: Start a hardware loop. (R223) -/
  | loop (e : Fin 64)
  /-- REP: Repeat the next instruction n times. (R225) -/
  | rep (e : Fin 64)
  /-- WAIT: Stop issue until an enabled interrupt is pending. (R227) -/
  | wait (e : Fin 64)
  /-- HALT: Halt the group. (R243) -/
  | halt (e : Fin 64)
  /-- RTI: Return from interrupt to bank 0. (R228) -/
  | rti (e : Fin 64)
  /-- FENCE: Block later memory accesses until earlier stores are visible. (R233) -/
  | fence (e : Fin 64)
  /-- TRAP: Fault the engine with TRAP and a code. (R244) -/
  | trap (e : Fin 64)
  /-- LOG: Post a firmware error code to the unit error log. (R215) -/
  | log (e : Fin 64)
  /-- ADD: 32-bit add. (R215) -/
  | add (e : Fin 64)
  /-- SUB: 32-bit subtract. (R215) -/
  | sub (e : Fin 64)
  /-- ADDS: Saturating 32-bit add. (R215) -/
  | adds (e : Fin 64)
  /-- SUBS: Saturating 32-bit subtract. (R215) -/
  | subs (e : Fin 64)
  /-- ADD2: Per-lane add. (R215) -/
  | add2 (e : Fin 64)
  /-- ADDS2: Per-lane saturating add. (R215) -/
  | adds2 (e : Fin 64)
  /-- SUB2: Per-lane subtract. (R215) -/
  | sub2 (e : Fin 64)
  /-- SUBS2: Per-lane saturating subtract. (R215) -/
  | subs2 (e : Fin 64)
  /-- AND: Bitwise AND. (R215) -/
  | and (e : Fin 64)
  /-- OR: Bitwise OR. (R215) -/
  | or (e : Fin 64)
  /-- XOR: Bitwise XOR. (R215) -/
  | xor (e : Fin 64)
  /-- SHL: Logical shift left. (R215) -/
  | shl (e : Fin 64)
  /-- SHR: Logical shift right. (R215) -/
  | shr (e : Fin 64)
  /-- SHRA: Arithmetic shift right. (R215) -/
  | shra (e : Fin 64)
  /-- MIN: Signed minimum. (R215) -/
  | min (e : Fin 64)
  /-- MAX: Signed maximum. (R215) -/
  | max (e : Fin 64)
  /-- ABS: Saturating absolute value. (R215) -/
  | abs (e : Fin 64)
  /-- MIN2: Per-lane minimum. (R215) -/
  | min2 (e : Fin 64)
  /-- MAX2: Per-lane maximum. (R215) -/
  | max2 (e : Fin 64)
  /-- SHRA2: Per-lane arithmetic shift right. (R215) -/
  | shra2 (e : Fin 64)
  /-- CMPEQ: Compare equal into a predicate. (R221) -/
  | cmpeq (e : Fin 64)
  /-- CMPLT: Compare less-than into a predicate. (R221) -/
  | cmplt (e : Fin 64)
  /-- CMPLE: Compare less-or-equal into a predicate. (R221) -/
  | cmple (e : Fin 64)
  /-- EXPW: Redundant sign bits of a word. (R218) -/
  | expw (e : Fin 64)
  /-- EXPH: Smaller redundant sign-bit count of two lanes. (R218) -/
  | exph (e : Fin 64)
  /-- CONJ: Negate the high lane with saturation. (R215) -/
  | conj (e : Fin 64)
  /-- CMAC: Complex multiply-accumulate. (R216) -/
  | cmac (e : Fin 64) (ecc : Upsets)
  /-- CMACJ: Complex multiply-accumulate with conjugate. (R216) -/
  | cmacj (e : Fin 64) (ecc : Upsets)
  /-- CRMAC: Two complex-by-real multiply-accumulates. (R216) -/
  | crmac (e : Fin 64) (ecc : Upsets)
  /-- DMAC: Dual dot-product accumulate. (R216) -/
  | dmac (e : Fin 64) (ecc : Upsets)
  /-- QMAC: Four lane products accumulated. (R216) -/
  | qmac (e : Fin 64) (ecc : Upsets)
  /-- RND32: Round and saturate an accumulator to 32 bits. (R217) -/
  | rnd32 (e : Fin 64)
  /-- RNDL: Round an accumulator into the low lane. (R217) -/
  | rndl (e : Fin 64)
  /-- RNDH: Round an accumulator into the high lane. (R217) -/
  | rndh (e : Fin 64)
  /-- EXPA: Redundant sign bits of an accumulator. (R218) -/
  | expa (e : Fin 64)
  /-- EXPB: Smallest EXPA over masked accumulators. (R218) -/
  | expb (e : Fin 64)
  /-- NORM: Normalise an accumulator left. (R217) -/
  | norm (e : Fin 64)
  /-- ASHR: Rounded arithmetic shift of an accumulator. (R217) -/
  | ashr (e : Fin 64)
  /-- ACLR: Clear masked accumulators. (R215) -/
  | aclr (e : Fin 64)
  /-- AADD: Add two accumulators with saturation. (R215) -/
  | aadd (e : Fin 64)
  /-- AMOV: Move a scaled register into an accumulator. (R215) -/
  | amov (e : Fin 64)
  /-- LD32: 32-bit load. (R232) -/
  | ld32 (e : Fin 64) (ecc : Upsets)
  /-- LD64: 64-bit load into a register pair. (R232) -/
  | ld64 (e : Fin 64) (ecc : Upsets)
  /-- LD16S: Sign-extending 16-bit load. (R232) -/
  | ld16s (e : Fin 64) (ecc : Upsets)
  /-- LD16U: Zero-extending 16-bit load. (R232) -/
  | ld16u (e : Fin 64) (ecc : Upsets)
  /-- ST32: 32-bit store. (R233) -/
  | st32 (e : Fin 64)
  /-- ST64: 64-bit store. (R233) -/
  | st64 (e : Fin 64)
  /-- ST16: Store the low lane. (R233) -/
  | st16 (e : Fin 64)
  /-- VEC: Magnitude and angle of a vector. (R219) -/
  | vec (e : Fin 64)
  /-- ROT: Rotate a vector by an angle. (R219) -/
  | rot (e : Fin 64)
  /-- SINCOS: Cosine and sine of an angle. (R219) -/
  | sincos (e : Fin 64)
  /-- RECIP: Reciprocal mantissa and shift. (R219) -/
  | recip (e : Fin 64)
  /-- RSQRT: Reciprocal square-root mantissa and shift. (R219) -/
  | rsqrt (e : Fin 64)
  /-- MOV: Register move. (R215) -/
  | mov (e : Fin 64)
  /-- MOVI: Load a 32-bit immediate. (R215) -/
  | movi (e : Fin 64)
  /-- SRD: Read a special register. (R215) -/
  | srd (e : Fin 64)
  /-- SWR: Write a special register. (R215) -/
  | swr (e : Fin 64)
  /-- LROT: Rotate a register across lanes. (R238) -/
  | lrot (e : Fin 64)
  /-- LBC: Broadcast a lane's register. (R238) -/
  | lbc (e : Fin 64)
  /-- LSUM: Saturated sum across lanes. (R238) -/
  | lsum (e : Fin 64)
  /-- LMIN: Minimum across lanes. (R238) -/
  | lmin (e : Fin 64)
  /-- LMAX: Maximum across lanes. (R238) -/
  | lmax (e : Fin 64)
  /-- RESULT_WRITEBACK: A result issued earlier lands in its register at the end of cycle t + L - 1. (R220) -/
  | resultWriteback (e : Fin 64)
  /-- INTERRUPT_ENTRY: An enabled pending interrupt is taken: EPC saved, bank 1 entered, handler at IVEC. (R228) -/
  | interruptEntry (e : Fin 64)
  /-- DISPQ_POP: Engine load from DISPQ pops the next dispatch descriptor address. (R234) -/
  | dispqPop (e : Fin 64)
  /-- OUTQ_PUSH: Engine store to OUTQ pushes an output descriptor; the MRS checks deadline and forwards the result. (R258) -/
  | outqPush (e : Fin 64)
  /-- DMA_GO: Engine store to DMA_CTRL.GO starts a DMA transfer, or faults DMA_RANGE. (R235) -/
  | dmaGo (e : Fin 64)
  /-- DMA_DONE: A DMA transfer completes and sets IPEND.DMA_DONE. (R227) -/
  | dmaDone (e : Fin 64) (ecc : Upsets)
  /-- DMA_STATUS_LOAD: Load of DMA_STATUS returns BUSY and REFUSED and clears REFUSED. (R234) -/
  | dmaStatusLoad (e : Fin 64)
  /-- HALT_REQ: GEA_CTRL.HALT_REQ requests a halt of the selected groups. (R243) -/
  | haltReq (src : Src)
  /-- HALT_COMPLETE: A halt request completes at the next interrupt point and sets HALTED. (R243) -/
  | haltComplete (e : Fin 64)
  /-- RESUME: GEA_CTRL.RESUME resumes the selected groups. (R243) -/
  | resume (src : Src)
  /-- GEA_FAULT_CLR: GEA_CTRL.FAULT_CLR reloads faulted groups when ACTIVE_COPY is 1. (R243) -/
  | geaFaultClr (src : Src)
  /-- GEA_DOORBELL: GEA_CTRL.DOORBELL sets IPEND.DOORBELL in the selected groups. (R227) -/
  | geaDoorbell (src : Src)
  /-- GEA_COUNT_CLR: GEA_CTRL.COUNT_CLR clears GEA_ECC_CORR. (R245) -/
  | geaCountClr (src : Src)
  /-- APERTURE_ACCESS: Host or SIL access to engine memory through the aperture, with IMEM_WRITE discard and ECC reporting. (R237) -/
  | apertureAccess (sil : Bool) (src : Src) (write : Bool) (off : BitVec 26) (data : List (BitVec 8)) (len : Nat) (ecc : Upsets) (t : Nat)
  /-- BAR2_ACCESS: A BAR2 window access served as DRAM, engine aperture or UNMAPPED. (R462) -/
  | bar2Access (write : Bool) (off : BitVec 28) (data : List (BitVec 8)) (len : Nat) (ecc : Upsets) (t : Nat)
  /-- ZONE_ADD: Host adds a zone; checked, committed by the ANC and applied at a boundary. (R273) -/
  | zoneAdd (o : Origin) (seq : Word)
  /-- ZONE_REMOVE: Host removes a zone. (R273) -/
  | zoneRemove (o : Origin) (seq : Word)
  /-- ZONE_READ: Return zone info, background and RMS. (R477) -/
  | zoneRead (o : Origin) (seq : Word)
  /-- STATS_RESET: ZNT_CTRL.STATS_RESET resets every zone's interval and background at the next boundary. (R279) -/
  | statsReset (src : Src)
  /-- ZNT_COUNT_CLR: ZNT_CTRL.COUNT_CLR clears ZNT_CHANGE_COUNT. (R274) -/
  | zntCountClr (src : Src)
  /-- ZNT_FAULT_CLR: ZNT_CTRL.FAULT_CLR leaves FAULT. (R297) -/
  | zntFaultClr (src : Src)
  /-- CAP_ARM: Arm a capture record by STU_CMD or message. (R288) -/
  | capArm (via : Via) (w : Word)
  /-- CAP_DISARM: Disarm a capture record. (R293) -/
  | capDisarm (via : Via) (w : Word)
  /-- CAP_TRIGGER: Trigger a capture record. (R289) -/
  | capTrigger (via : Via) (w : Word)
  /-- CAP_SET_LENGTH: Change a record's buffer length. (R294) -/
  | capSetLength (via : Via) (w : Word)
  /-- CAP_STATE: Return a record's state. (R477) -/
  | capState (o : Origin) (seq : Word)
  /-- CAPTURE_POST_COMPLETE: POST rows are fully written; the record enters CLOSING, measurements formed and delivery starts. (R290) -/
  | capturePostComplete (r : Fin 64)
  /-- CAPTURE_DELIVERY_DONE: Delivery of a capture record completes and it enters REARM. (R296) -/
  | captureDeliveryDone (r : Fin 64)
  /-- STU_COUNT_CLR: STU_CTRL.COUNT_CLR clears the STU counts. (R289) -/
  | stuCountClr (src : Src)
  /-- STU_FAULT_CLR: STU_CTRL.FAULT_CLR leaves FAULT. (R297) -/
  | stuFaultClr (src : Src)
  /-- TCE_BLOCK_INTAKE: TCE consumes a queued stream block of an archived channel, or drops it after 48 pushes. (R312) -/
  | tceBlockIntake
  /-- TCE_BLOCK_CODED: A lane finishes coding and verifying a Tadpole block and stages it with its tag. (R314) -/
  | tceBlockCoded (c : Fin 32) (flips : List Nat) (t : Nat)
  /-- TCE_COUNT_CLR: TCE_CTRL.COUNT_CLR clears the TCE counters. (R313) -/
  | tceCountClr (src : Src)
  /-- TCE_FAULT_CLR: TCE_CTRL.FAULT_CLR leaves FAULT. (R316) -/
  | tceFaultClr (src : Src)
  /-- DMC_INIT: DMC_CTRL.INIT checks configuration and starts the initialisation sequence. (R328) -/
  | dmcInit (src : Src)
  /-- DMC_INIT_COMPLETE: Training check and fill complete and the DMC enters READY, or freezes. (R328) -/
  | dmcInitComplete (check : TrainCheck) (mrr : Option (Nat × Nat × Nat)) (t : Nat)
  /-- DRAM_RESET: DMC_CTRL.DRAM_RESET requests a DRAM-domain reset, starting a new run and recovery. (R343) -/
  | dramReset (src : Src) (t : Nat)
  /-- DMC_COUNT_CLR: DMC_CTRL.COUNT_CLR clears DMC_ECC_CORR and DMC_REF_FORCED. (R332) -/
  | dmcCountClr (src : Src)
  /-- SCRUB_NOW: DMC_CTRL.SCRUB_NOW starts a scrub pass. (R327) -/
  | scrubNow (src : Src)
  /-- SCRUB_PERIOD: The scrub period expires and a pass starts. (R327) -/
  | scrubPeriod (t : Nat)
  /-- DMC_REQUEST: A granted DRAM request is served with in-line ECC check, correction or freeze. (R325) -/
  | dmcRequest (path : Word) (cls : Fin 6) (write : Bool) (addr : Nat) (data : Bytes) (len : Nat) (flips : List Nat)
  /-- REFRESH_INTERVAL: A rank's refresh interval timer expires, adding an owed refresh or forcing one. (R332) -/
  | refreshInterval (r : Fin 2) (t : Nat)
  /-- REFRESH_ISSUE: An owed refresh issues after 32 idle cycles. (R332) -/
  | refreshIssue (r : Fin 2) (t : Nat)
  /-- MR4_POLL: MR4 is polled and the refresh rate code and limit updated. (R331) -/
  | mr4Poll (r : Fin 2) (c0 c1 : Fin 8) (t : Nat)
  /-- ZQ_CALIBRATION: Every 128 ms the DMC runs ZQ calibration on each rank. (R330) -/
  | zqCalibration
  /-- ROW_IDLE_CLOSE: A row idle for IDLE_CLOSE x 8 tCTL is precharged. (R326) -/
  | rowIdleClose (bank : Fin 32) (t : Nat)
  /-- SR_ENTRY: DMC completes self-refresh entry, or goes straight to exit if a request is pending. (R337) -/
  | srEntry (read : List Nat)
  /-- SR_EXIT: Self-refresh exit completes and the DMC is READY again. (R338) -/
  | srExit
  /-- UNRETAINED_FILL_DONE: An unretained DRAM eighth has been filled after exit. (R339) -/
  | unretainedFillDone (e : Fin 16)
  /-- DMC_DIAG_READ: Read one raw physical burst through the diagnostic window. (R342) -/
  | dmcDiagRead (via : Via)
  /-- ARC_READ: Read an archive record by sequence with status OK, CHECK_REPAIRED or CORRUPT. (R367) -/
  | arcRead (o : Origin) (seq : Word) (flips : List (List (Nat × Nat)))
  /-- ARC_DELETE: Delete DATA and GAP records up to a sequence. (R370) -/
  | arcDelete (o : Origin) (seq : Word)
  /-- ARC_COMMIT: Commit now by message or ANC_CTRL.COMMIT_NOW. (R360) -/
  | arcCommit (via : Via)
  /-- ARC_FORMAT: Format the medium when the key is set. (R376) -/
  | arcFormat (via : Via)
  /-- ARC_INFO: Return archive sequences, free blocks and status. (R477) -/
  | arcInfo (o : Origin) (seq : Word)
  /-- PATROL_NOW: ANC_CTRL.PATROL_NOW starts a new patrol pass. (R374) -/
  | patrolNow (src : Src)
  /-- ANC_COUNT_CLR: ANC_CTRL.COUNT_CLR clears the ANC counters. (R367) -/
  | ancCountClr (src : Src)
  /-- ANC_FAULT_CLR: ANC_CTRL.FAULT_CLR leaves FAULT and mounts. (R364) -/
  | ancFaultClr (src : Src)
  /-- ANC_MOUNT: Mount completes: tables rebuilt from superblock, checkpoint and journal, gap records committed. (R364) -/
  | ancMount (id : List (Nat × NandAnswer)) (t : Nat)
  /-- FORMAT_COMPLETE: Format finishes writing both superblock copies. (R376) -/
  | formatComplete (bad failed : List Nat)
  /-- ARCHIVE_RECORD_SUBMIT: ZNT or ALM submits a ZONE_CHANGE, CAL_RECORD or ALM_HISTORY record to the ANC. (R357) -/
  | archiveRecordSubmit (kind : Fin 3) (t : Nat)
  /-- STAGED_RECORD_PROGRAM: ANC takes staged blocks into a record and programs its pages. (R355) -/
  | stagedRecordProgram (c : Fin 32)
  /-- PAGE_PROGRAM_DONE: A NAND page or erase completes with pass or fail. (R359) -/
  | pageProgramDone (fail : Bool)
  /-- NAND_OP_TIMEOUT: A NAND operation exceeds 10 x its maximum time, handled as FAIL with RESET. (R348) -/
  | nandOpTimeout
  /-- COMMIT_MS_EXPIRY: COMMIT_MS has passed since the first uncommitted program and a commit starts. (R360) -/
  | commitMsExpiry (t : Nat)
  /-- COMMIT_IN_FORCE: Both journal copies report pass and the commit is in force. (R359) -/
  | commitInForce (t : Nat)
  /-- CHECKPOINT_WRITTEN: A checkpoint finishes writing, is journaled and the superblock updated. (R362) -/
  | checkpointWritten
  /-- PATROL_READ: The paced patrol reads the next block and moves its records if needed. (R374) -/
  | patrolRead (flips : List (Nat × Nat))
  /-- NAND_ZQ_CALIBRATION: Every 128 ms in NV-DDR3 the ANC runs ZQ calibration long. (R348) -/
  | nandZqCalibration
  /-- FLUSH_COMPLETE: ANC flush completes and the ANC enters OFF. (R377) -/
  | flushComplete
  /-- PWRFAIL_ASSERT: PWRFAIL_N asserted while enabled; PWRFAIL hold set and the ANC commits and halts. (R457) -/
  | pwrfailAssert
  /-- PWRFAIL_RELEASE: PWRFAIL_N inactive for 10 ms without reset and the ANC mounts again. (R379) -/
  | pwrfailRelease
  /-- CVU_INIT: CVU_CHn_CMD.INIT sets the state to Init and COUNT to 0. (R386) -/
  | cvuInit (src : Src) (n : Fin 8)
  /-- CVU_GO: CVU_CHn_CMD.GO starts a DRAM transfer. (R383) -/
  | cvuGo (src : Src) (n : Fin 8)
  /-- CVU_ABORT: CVU_CHn_CMD.ABORT ends a transfer at a byte boundary. (R384) -/
  | cvuAbort (src : Src) (n : Fin 8) (done : Nat)
  /-- CVU_DATA_WRITE: A write to CVU_CHn_DATA submits bytes to the channel. (R383) -/
  | cvuDataWrite (src : Src) (n : Fin 8) (w : Word)
  /-- CVU_CFG_WRITE: A write to CVU_CHn_CFG that changes POLY resets state and COUNT. (R386) -/
  | cvuCfgWrite (src : Src) (n : Fin 8) (w : Word)
  /-- CVU_TRANSFER_DONE: A CVU transfer ends OK or DRAM_LOST. (R383) -/
  | cvuTransferDone (n : Fin 8)
  /-- CVU_COUNT_CLR: CVU_CTRL.COUNT_CLR clears CVU_REFUSED. (R384) -/
  | cvuCountClr (src : Src)
  /-- SET_NOW: Set the time scale at the next range-clock sample. (R397) -/
  | setNow (via : Via)
  /-- SET_AT_PPS: Set the time scale at the next accepted PPS edge. (R397) -/
  | setAtPps (via : Via)
  /-- CANCEL_SET: Cancel a pending set. (R397) -/
  | cancelSet (via : Via)
  /-- TTU_COUNT_CLR: TTU_CTRL.COUNT_CLR clears every TTU count register. (R409) -/
  | ttuCountClr (src : Src)
  /-- PPS_IN_EDGE: A PPS_IN edge is accepted or rejected and the time scale stepped or slewed. (R394) -/
  | ppsInEdge (stamp : Nat) (falling : Bool) (steer : Int)
  /-- PPS_MISSING: Three expected PPS edges pass without acceptance and the PPS is lost. (R391) -/
  | ppsMissing (t : Nat)
  /-- REFCLK_WINDOW: A 1 ms REFCLK counting window closes, qualifying or losing REFCLK and evaluating lock. (R391) -/
  | refclkWindow (freq : Nat) (steer : Int) (t : Nat)
  /-- REFCLK_TIMEOUT: No REFCLK edge for 1 us and REFCLK is lost. (R391) -/
  | refclkTimeout (t : Nat)
  /-- HOLD_LIMIT: Holdover lasts LIMIT minutes and HOLD_LIMIT is set. (R395) -/
  | holdLimit (t : Nat)
  /-- PPS_OUT_PULSE: At each whole second PPS_OUT goes active for WIDTH x 10 us. (R398) -/
  | ppsOutPulse (t : Nat)
  /-- OSC_OFFSET_REPORT: Once per hour of lock the oscillator offset passes to the ALM. (R396) -/
  | oscOffsetReport
  /-- TTU_NOW_READ: A read of TTU_NOW_LO latches the time scale. (R390) -/
  | ttuNowRead (src : Src)
  /-- EV_EDGE: An EV input edge is stamped, held off, queued and passed to interval units. (R400) -/
  | evEdge (c : Fin 4) (falling : Bool) (stamp : Nat) (gate ungated : Bool)
  /-- STUCK: An EV input stays active beyond STUCK_US and the channel disarms. (R401) -/
  | stuck (c : Fin 4) (t : Nat)
  /-- HF_WINDOW: A 1 us HF window closes, releasing or discarding its stamps with OVERRANGE. (R402) -/
  | hfWindow (h : Fin 4) (edges : List (Nat × Bool)) (t : Nat)
  /-- TTU_ARM: A write to TTU_ARM arms or disarms SLOT-mode channels. (R403) -/
  | ttuArm (src : Src) (mask : Word)
  /-- STAMP_QUEUE_READ: Reading a channel or interval queue W0 latches an entry and W2 removes it. (R405) -/
  | stampQueueRead (src : Src) (q : Fin 12) (w : Fin 3)
  /-- IU_CFG_WRITE: A write to TTU_IUu_CFG or _N discards the partial block and pending lists. (R407) -/
  | iuCfgWrite (src : Src) (u : Fin 4) (n : Bool) (w : Word)
  /-- IU_MEAN_READ: A read of TTU_IUu_MEAN_LO freezes the result set. (R407) -/
  | iuMeanRead (src : Src) (u : Fin 4)
  /-- IU_COUNT_READ: A read of TTU_IUu_COUNT releases the freeze and latches a held block. (R407) -/
  | iuCountRead (src : Src) (u : Fin 4)
  /-- IU_WINDOW_EXPIRY: A pending stamp older than IU_WINDOW expires. (R406) -/
  | iuWindowExpiry (u : Fin 4) (stamp : Nat)
  /-- TDC_CALIBRATION: A channel's TDC calibration completes, arming it or raising CAL_FAIL. (R411) -/
  | tdcCalibration (c : Fin 8) (ok : Bool)
  /-- VPF_CONVERSION: A ΣΔ conversion completes and is discarded, averaged, or ends a phase or result. (R416) -/
  | vpfConversion (code : Int) (open_ : Bool) (t : Nat)
  /-- VPF_EXC_WRITE: A write to VPF_CHc_EXC changes excitation, as a switch if inside a phase. (R418) -/
  | vpfExcWrite (src : Src) (c : Fin 8) (w : Word) (t : Nat)
  /-- PAUSE: VPF_CTRL.PAUSE pauses after the result in progress. (R427) -/
  | pause (src : Src)
  /-- VPF_RESUME: VPF_CTRL.RESUME resumes scanning. (R427) -/
  | vpfResume (src : Src)
  /-- VPF_CAL_REQ: VPF_CTRL.CAL_REQ starts recalibration. (R427) -/
  | vpfCalReq (src : Src)
  /-- VPF_FAULT_CLR: VPF_CTRL.FAULT_CLR leaves FAULT to CALIBRATING. (R427) -/
  | vpfFaultClr (src : Src)
  /-- VPF_COUNT_CLR: VPF_CTRL.COUNT_CLR clears VPF_DISCARD. (R416) -/
  | vpfCountClr (src : Src)
  /-- VPF_CALIBRATION_DONE: VPF calibration ends, entering SCANNING, IDLE or FAULT. (R427) -/
  | vpfCalibrationDone (offsets gains : List Int) (t : Nat)
  /-- MAINS_SYNC_EDGE: A MAINS_SYNC edge updates the mains period and lock. (R417) -/
  | mainsSyncEdge (t : Nat)
  /-- MAINS_TIMEOUT: No MAINS_SYNC edge for 100 ms and the mains reference is lost. (R417) -/
  | mainsTimeout (t : Nat)
  /-- REFERENCE_COMPARISON: Hourly R_INT against R_S comparison at a scan boundary, passed to the ALM. (R424) -/
  | referenceComparison (t : Nat)
  /-- DLK_TRANSACT: Queue a host DriverLink transaction by HOST_GO or message. (R437) -/
  | dlkTransact (via : Via)
  /-- SAFE: DLK_CTRL.SAFE broadcasts SAFE and enters SAFE. (R442) -/
  | safe (src : Src)
  /-- DLK_RESUME: DLK_CTRL.RESUME leaves SAFE to INIT. (R442) -/
  | dlkResume (src : Src)
  /-- DLK_FAULT_CLR: DLK_CTRL.FAULT_CLR leaves FAULT to INIT if checks pass. (R442) -/
  | dlkFaultClr (src : Src)
  /-- DLK_COUNT_CLR: DLK_CTRL.COUNT_CLR clears the DLK counters. (R432) -/
  | dlkCountClr (src : Src)
  /-- STATUS_POLL: POLL_US expires and a STATUS poll of a device is due. (R436) -/
  | statusPoll (d : Fin 32) (t : Nat)
  /-- POST_DIAG_READ: 1 us after a DIAG frame's launch the DLK starts a post-diagnostic STATUS read. (R440) -/
  | postDiagRead (t : Nat)
  /-- DLK_RESPONSE: A device response is accepted and the transaction's effects applied, including derating. (R433) -/
  | dlkResponse (bytes : List Byte) (t : Nat)
  /-- DLK_RESPONSE_TIMEOUT: No accepted response in time; the DLK retries or marks failure and NO_RESPONSE. (R433) -/
  | dlkResponseTimeout (t : Nat)
  /-- POWER_VOTE: Host updates its power vote by message or PMU_HOST_VOTE. (R448) -/
  | powerVote (via : Via) (w : Word)
  /-- UNIT_VOTE: A unit changes its vote and the PMU resolves targets. (R448) -/
  | unitVote (voter : Fin 96) (d : Fin 13) (v : Fin 4)
  /-- POWER_STEP_COMPLETE: A domain's power step completes and the next step or queued target starts. (R452) -/
  | powerStepComplete (d : Fin 13) (t : Nat)
  /-- DMC_PORT_RELEASE: No DMC port request for DMC_IDLE_US and the DMC_PORT hold releases. (R449) -/
  | dmcPortRelease (t : Nat)
  /-- OFFLOG_READ: Reading PMU_OFFLOG_W0 latches the oldest entry and W3 removes it. (R455) -/
  | offlogRead (src : Src) (w : Fin 4)
  /-- PMU_COUNT_CLR: PMU_CTRL.COUNT_CLR clears STEPS and LOST. (R452) -/
  | pmuCountClr (src : Src)
  /-- OFFLOG_CLR: PMU_CTRL.OFFLOG_CLR empties PMU_OFFLOG. (R455) -/
  | offlogClr (src : Src)
  /-- SQ_TAIL_WRITE: Host writes a session's SQ tail and the HIF reads new slots. (R465) -/
  | sqTailWrite (n : Fin 256) (tail : Fin 4096) (slots : List (List Byte))
  /-- CQ_HEAD_WRITE: Host returns CQ slots, letting a stalled session resume. (R465) -/
  | cqHeadWrite (n : Fin 256) (head : Fin 4096)
  /-- SESSION_OPEN: Open a session on the lowest free number. (R468) -/
  | sessionOpen (o : Origin) (seq : Word)
  /-- SESSION_CLOSE: Close a session. (R468) -/
  | sessionClose (via : Via) (n : Fin 256)
  /-- SESSION_REOPEN: Reset a session's expected SEQ and violation history, ending quarantine. (R471) -/
  | sessionReopen (via : Via) (n : Fin 256)
  /-- SESSION0_OPEN: HIF_SESS_CTRL OP OPEN opens session 0 from the S0 registers. (R468) -/
  | session0Open (src : Src) (n : Fin 256)
  /-- ECHO: Return the request data. (R477) -/
  | echo (o : Origin) (seq : Word)
  /-- UNIT_STATUS: Return a unit's status word. (R477) -/
  | unitStatus (o : Origin) (seq : Word)
  /-- ERROR_LOG: Copy a unit's error log to a host buffer, optionally clearing it. (R478) -/
  | errorLog (o : Origin) (seq : Word)
  /-- IDENTITY: Return chip ID, run and die identity. (R477) -/
  | identity (o : Origin) (seq : Word)
  /-- ALM_SUMMARY: Copy the Almanac summary to a host buffer. (R514) -/
  | almSummary (o : Origin) (seq : Word)
  /-- VIOLATION_LOG: Drain violation log entries to a host buffer. (R478) -/
  | violationLog (o : Origin) (seq : Word)
  /-- VLOG_READ: Reading HIF_VLOG_W0 latches the oldest violation and W3 removes it. (R472) -/
  | vlogRead (src : Src) (w : Fin 4)
  /-- REG_READ: Read BAR0 registers by message. (R478) -/
  | regRead (o : Origin) (seq : Word) (t : Nat)
  /-- REG_WRITE: Write BAR0 registers by message. (R478) -/
  | regWrite (o : Origin) (seq : Word) (env : BusEnv)
  /-- CASCADE_INFO: Return group identity and membership map. (R477) -/
  | cascadeInfo (o : Origin) (seq : Word)
  /-- HIF_COUNT_CLR: HIF_CTRL.COUNT_CLR clears stream drop and violation counts. (R480) -/
  | hifCountClr (src : Src)
  /-- VLOG_CLR: HIF_CTRL.VLOG_CLR empties the violation log. (R472) -/
  | vlogClr (src : Src)
  /-- STREAM_ENABLE: Setting HIF_STRc_CFG.EN enables a stream ring or is refused BAD_ARG. (R479) -/
  | streamEnable (src : Src) (c : Fin 32) (w : Word)
  /-- STREAM_RD_WRITE: Host advances HIF_STRc_RD, freeing ring space. (R479) -/
  | streamRdWrite (src : Src) (c : Fin 32) (w : Word)
  /-- STREAM_RECORD_WRITE: HIF writes a block as a stream record when room exists, updates WR and signals the vector. (R479) -/
  | streamRecordWrite (c : Fin 32)
  /-- STREAM_DROP: A block waiting for host ring room past its limit is dropped for the host. (R480) -/
  | streamDrop (c : Fin 32)
  /-- MSIX_UNMASK: Unmasking a pending MSI-X vector sends its message. (R463) -/
  | msixUnmask (v : Fin 64)
  /-- SMBUS_BLOCK_READ: SMBus Block Read of an identity or health command. (R482) -/
  | smbusBlockRead (cmd : BitVec 8) (t : Nat)
  /-- TRAIN: CSP_CTRL.TRAIN starts Chorus training. (R486) -/
  | train (src : Src)
  /-- TRAINING_END: Training ends and the chip becomes HEAD, MEMBER or STANDALONE. (R486) -/
  | trainingEnd (map : BitVec 16) (die : BitVec 128) (up : BitVec 2)
  /-- CC_REQ: CSP_CTRL.CC_REQ starts a cascade-wide commit. (R493) -/
  | ccReq (src : Src)
  /-- CC_PERIOD_EXPIRY: CC_PERIOD seconds pass and the head starts a cascade-wide commit. (R493) -/
  | ccPeriodExpiry (t : Nat)
  /-- CC_TIMEOUT: Replies are late and the cascade commit aborts. (R494) -/
  | ccTimeout (t : Nat)
  /-- REOPEN: CSP_CTRL.REOPEN ends a source member's quarantine. (R489) -/
  | reopen (src : Src) (m : Fin 16)
  /-- CSP_COUNT_CLR: CSP_CTRL.COUNT_CLR clears CSP error and retry counts. (R485) -/
  | cspCountClr (src : Src)
  /-- HELLO: A HELLO frame is received from a neighbour. (R486) -/
  | hello (port : Fin 2) (die : BitVec 128) (head : Bool)
  /-- ENUM: An ENUM frame assigns the next member index and is forwarded. (R486) -/
  | enum (port : Fin 2) (index : Fin 16)
  /-- REQUEST: A forwarded REQUEST frame is checked and executed. (R488) -/
  | request (port : Fin 2) (b : List Byte)
  /-- ANSWER: An ANSWER frame returns a member's result to the head. (R488) -/
  | answer (port : Fin 2) (b : List Byte)
  /-- DATA: A DATA frame carries host-buffer bytes. (R488) -/
  | data (port : Fin 2) (b : List Byte) (o : Origin) (seq : Word)
  /-- TRACE: A TRACE frame writes a partner Raman record to a slot and rings the thermal group. (R492) -/
  | trace (port : Fin 2) (b : List Byte)
  /-- PREPARE: A member commits its archive and replies PREPARED. (R493) -/
  | prepare (cc : Word)
  /-- PREPARED: The head receives a PREPARED reply and appends the cascade record when all arrived. (R493) -/
  | prepared (m : Fin 16) (cc : Word) (commit last : Nat)
  /-- CHORUS_NAK: A NAK frame is received for an offending sequence. (R488) -/
  | chorusNak (b : List Byte)
  /-- CHORUS_CRC_REJECT: A Chorus frame with a bad CRC is discarded and counted. (R485) -/
  | chorusCrcReject
  /-- HOP_RETRANSMIT: An unacknowledged frame is retransmitted after 2 us, the link going down after 8 failures. (R485) -/
  | hopRetransmit (port : Fin 2) (made : Fin 9)
  /-- HELLO_TIMER: An idle link sends HELLO every 100 us. (R490) -/
  | helloTimer (port : Fin 2)
  /-- ENUM_TIMEOUT: The ENUM token does not return within 1 ms and the head numbers out of CS1 as a chain. (R486) -/
  | enumTimeout (last : Fin 16)
  /-- MEMBER_LOST: No frame from a member for 1 ms and it is lost. (R490) -/
  | memberLost (m : Fin 16)
  /-- LINK_DOWN: A Chorus link goes down and retraining starts 1 ms later. (R486) -/
  | linkDown (port : Fin 2) (later : Bool)
  /-- CAL_RECORD_APPEND: Append a calibration record formed from the chain head, optionally applying it. (R504) -/
  | calRecordAppend (o : Origin) (seq : Word)
  /-- CAL_RECORD_READ: Read a calibration record, epoch 0 returning the factory record. (R501) -/
  | calRecordRead (o : Origin) (seq : Word)
  /-- RUN_RECORD_STORED: The ALM's run record is stored or both sectors fail, fixing the first switch boundary. (R499) -/
  | runRecordStored (fails : Fin 3) (t : Nat)
  /-- POWERED_MINUTE: Each minute the ALM adds powered and stress minutes, writing a run record every 60. (R500) -/
  | poweredMinute (stored : Bool) (t : Nat)
  /-- INDICATOR_SAMPLE: An ageing indicator is sampled and its prediction updated. (R512) -/
  | indicatorSample (id : Fin 64) (t : Nat)
  /-- HISTORY_SUBMIT: 1 ms after the first pending event the ALM submits buffered history entries to the ANC. (R510) -/
  | historySubmit (t : Nat)
  /-- EPOCH_LOAD_COMPLETE: The ALM finishes loading the epoch in force after a mount and becomes READY. (R507) -/
  | epochLoadComplete (t : Nat)
  /-- FLUSH: ALM_CTRL.FLUSH submits buffered entries now. (R510) -/
  | flush (src : Src)
  /-- ALM_COUNT_CLR: ALM_CTRL.COUNT_CLR clears ALM_HIST_STAT.LOST. (R510) -/
  | almCountClr (src : Src)
  /-- WARM_REQ: GLB_CTRL.WARM_REQ causes a warm reset if the key is set, else BAD_KEY. (R517) -/
  | warmReq (src : Src) (t : Nat)
  /-- CAUSE_CLR: GLB_CTRL.CAUSE_CLR clears GLB_RESET_CAUSE. (R516) -/
  | causeClr (src : Src)
  /-- GLB_COUNT_CLR: GLB_CTRL.COUNT_CLR clears GLB_RESET_COUNT and BAD_KICKS. (R525) -/
  | glbCountClr (src : Src)
  /-- WDT_ENABLE: Setting GLB_WDT_CFG.EN starts the watchdog. (R525) -/
  | wdtEnable (src : Src) (t : Nat)
  /-- WDT_KICK: A write to GLB_WDT_KICK restarts the count or counts a bad kick. (R525) -/
  | wdtKick (src : Src) (w : Word) (t : Nat)
  /-- WDT_WARN: Half the watchdog timeout remains and WDT_WARN is set. (R525) -/
  | wdtWarn (t : Nat)
  /-- WDT_EXPIRY: The watchdog expires and a warm reset follows, after a flush when FLUSH is set. (R526) -/
  | wdtExpiry (t : Nat)
  /-- FLUSH_RESET_TIMEOUT: The ANC reaches HALTED or 2 ms pass after a flushing expiry and the warm reset follows. (R526) -/
  | flushResetTimeout (t : Nat)
  /-- TJ_SAMPLE: Junction temperature is sampled every 1 ms, raising TJ_HIGH or a thermal trip. (R528) -/
  | tjSample (tj : Int) (t : Nat)
  /-- CHIRP_END: A tone's chirp ends after LEN PDAC samples; once the chirps of the open frame are done, a stopping PGU passes from RUNNING to STOPPED. (R97) -/
  | chirpEnd (k : Fin 16)
  /-- ACTIVE_COPY_REWRITE_DONE: After a DRAM-domain reset, the SIL finishes rewriting the ACTIVE bank copy from the SPI slot; this sets ACTIVE_COPY, drops the SIL's CORE vote and lets a heavy restart switch finish its engine load. (R91) -/
  | activeCopyRewriteDone
  /-- HOST_DMA_COMPLETE: A host-buffer transfer ends with successful completions, an error completion or a completion timeout; the D answer is written, or HOST_DMA is reported and nothing is changed. (R474) -/
  | hostDmaComplete (o : Origin) (seq : Word) (ok : Bool) (data : List (BitVec 8)) (t : Nat)
  /-- NAND_PAGE_READ_DONE: A NAND READ PAGE completes and its codewords are decoded for a host read, a move or a mount. (R367) -/
  | nandPageReadDone (page : Nat) (flips : List Nat)
  /-- BUS_MASTER_ENABLE: The host sets Bus Master Enable in configuration space; the HIF then acts on the doorbells it remembered while the bit was 0. (R460) -/
  | busMasterEnable (msix mask : Bool) (slots : List (List (List Byte)))
  deriving DecidableEq, Repr

end Sys2Proof
end

