-- ==== Sys2Proof/Config.lean ====
section
/-! DEFINITION. What one RZ-4810 fixes for life, and the free values of the model: constants with no body,
so that nothing can be proved of what the spec leaves open. -/

namespace Sys2Proof

/-- The one-time-programmable fuses of a chip (02 R68, 20 R496): the die identity with its check value, the
key slots with their enable fuses, and the REQUIRE fuse. -/
structure Otp where
  dieId : BitVec 128
  keys : List (BitVec 128)
  keyEnable : BitVec 4
  require : Bool
  /-- The factory record as stored, and whether its CRC-32C matches (20 R501). -/
  factory : List (BitVec 8)
  factoryOk : Bool
  /-- Oscillator trim in 1e-12 (R395), R_INT and its standard uncertainty in micro-ohm (15 R421). -/
  trim : Int
  rInt : Nat
  uRInt : Nat
  /-- Dyzia's PCI-SIG vendor identifier (18 R460) and JEP106 manufacturer code (22 R554). -/
  vendor : BitVec 16
  jep106 : BitVec 11
  /-- The baseline samples of the burn-in: indicator 1 to 4, hours and value as binary64 codes (R501, R511). -/
  baseline : List (Nat × Nat × Nat)
  deriving DecidableEq, Repr, Inhabited

namespace Config

/-- The fuses of this chip (02 R68, 20 R496). The spec gives no values: they are free. -/
opaque otp : Otp

/-- Whether the PGU's cosine, and its sine, of a 16-bit phase is the 18-bit neighbour above the exact value rather than the one below
(03 R97: exact to 18 bits; the spec prints no table and no rounding). -/
opaque trigUp : BitVec 16 → Bool × Bool

/-- Which of five fast samples of the monotonic count the medium converters sample (04 R127 leaves it open). -/
opaque madcGrid : Nat → Fin 5

/-- Which of the 64 cached check bursts the DMC evicts; the argument is a counter of the state (11 R324 leaves it open). -/
opaque checkVictim : Nat → Nat

/-- What the DMC returns for a unit whose syndrome has the form of a single-bit error and names no bit, by its data and the syndrome
(11 R322 states no result). -/
opaque eccNoBit : Nat → Nat → List (BitVec 8)

/-- Drift of a rank's DQS interval since training as an MR4 poll reads it, in 1/256 UI; the argument is a counter of the state (11 R330). -/
opaque dqsDrift : Nat → Int

/-- A byte the spec leaves undefined; the argument is a counter of the state. -/
opaque freeByte : Nat → BitVec 8

/-- Noise and residual error of a converter's code, by converter (0 to 3 fast, 4 to 7 medium) and sample instant (04 R126, R128). -/
opaque adcNoise : Nat → Nat → Int

/-- Tap `i` of the DDC filter for K tones, where these meet 04 Table 4-4, which gives the response and prints no taps. -/
opaque ddcTap (k i : Nat) : Float

/-- Deviation in units of 1/16 LSB of a part of a tone-stream sample from its exact value, by tone, stream, index and part (04 R145 states
no rounding). -/
opaque ddcError (k pol j part : Nat) : Int

/-- Deviation of a part of a compressed sample from the sum, by tone, polarisation, index and part (05 R155 bounds it by -100 dB of full
scale). -/
opaque pcxError (k pol : Nat) (c : Int) (part : Nat) : Int

/-- Deviation of a product value of the Rayleigh or thermal program set from the exact one in LSB of its format, by product, cell or bin,
field and the exact value's binary64 code (05 R151, 06 R184 bound it by 2). -/
opaque programError (product cell fld exact : Nat) : Int

/-- NU_B0 and U_NU_B0 of a position before the first segment's START (06 R206 states none). -/
opaque noSegment : Float × Float

/-- Tile shared-memory offset of an averager bank, by tile and bank (06 R188 gives its size alone). -/
opaque avgBank (tile bank : Nat) : Nat

/-- Whether an image, by its ENGINE_PROGRAM payload, links the Rayleigh program set (05 R150: the spec prints no mark of it). -/
opaque linksRayleigh : List (BitVec 8) → Bool

/-- Response of a sub-band that holds no transform bin, by taps and sub-band (05 R160 states none). -/
opaque emptyBand (n q : Nat) : Float × Float

/-- The bytes of a block's input in engine memory, from its compressed samples with their marks, or its medium samples with their
descriptors, as numbers (08 Table 8-2: the layout is the program's). -/
opaque packInput : List Int → List (BitVec 8)

/-- A factor of a step measurement that found no response at a code, by code and polarisation (04 R143). -/
opaque noFactor : Nat → Nat → BitVec 32

/-- Engine-local address of a block's input and DRAM device address of its spill slot, by group and block (08 Table 8-2:
the layout is the image compiler's). -/
opaque inputAddr : Nat → Nat → BitVec 32
opaque spillSlot : Nat → BitVec 33

/-- A group's spill region: device address and bytes (07 R235: the DRAM plan's). -/
opaque spillRegion : Nat → Nat × Nat

/-- Deviation of an SFU result from the exact one, in its last bits, by result and operands (07 R219 bounds it): 0 VEC magnitude,
1 VEC angle, 2 and 3 ROT, 4 SINCOS cosine, 5 its sine, 6 RECIP, 7 RSQRT. -/
opaque sfuError : Nat → BitVec 32 → BitVec 32 → BitVec 32 → Int

/-- Device address of a capture record's buffer, and of an archived channel's staging ring (09 R287, 10 R313: the DRAM plan's; the spec
gives their sizes alone). -/
opaque captureArea (record : Nat) : Nat
opaque stagingArea (channel : Nat) : Nat

/-- The matches by which the TCE codes a block at a step, from EFFORT, T_g, the step, the history newest first and the samples: START,
LENGTH, BACK, SOURCE each (10 R306: its own search). -/
opaque tadMatches (effort tg step : Nat) (history : List (List Int)) (samples : List Int) : List (Nat × Nat × Nat × Nat)

/-- Address step of a MAC instruction's load with PMODE 1, by the instruction word: the layout has no OFF16 (07 R213). -/
opaque macStep : Nat → BitVec 32

/-- Engine-local address by which an engine outside the lowest member's quad receives a dispatch descriptor, by engine and ring
entry: its ring lies in a memory that engine does not reach (07 R234, 08 R256). -/
opaque farRing : Nat → Nat → BitVec 32

/-- Temperature in degC of the ITS-90 reference function at W_r, where the iteration converges (15 Table 15-3: the spec names
the function and prints no coefficients). -/
opaque its90 (wr : Float) : Option Float

/-- Thermo-electric voltage in volts of a thermocouple type (5 K, 6 N, 7 S) at a temperature in degC, and the temperature of a
voltage (15 Table 15-3: IEC 60584, not printed). -/
opaque tcVolts (curve : Nat) (t : Float) : Float
opaque tcTemp (curve : Nat) (v : Float) : Option Float

end Config
end Sys2Proof
end

