-- ==== Sys2Proof/Machine/Bits.lean ====
section
/-! DEFINITION. Bit fields, two's complement, little-endian byte order, CRC-32C, integer square root,
saturating counts and canonical sparse tables: the plain helpers every meaning is written with. -/

namespace Sys2Proof.Machine

/-- Bytes take the place of others from an offset on. -/
def putBytes (b : List (BitVec 8)) (off : Nat) (v : List (BitVec 8)) : List (BitVec 8) := b.take off ++ v ++ b.drop (off + v.length)

/-- The unsigned value of bits [hi:lo] of a word (00 R11). -/
def bitsOf (w : Word) (hi lo : Nat) : Nat := (w.toNat >>> lo) % 2 ^ (hi + 1 - lo)

/-- The word with bits [hi:lo] replaced by the low bits of `n`. -/
def setBits (w : Word) (hi lo n : Nat) : Word :=
  let m := BitVec.ofNat 32 (2 ^ (hi + 1) - 2 ^ lo)
  (w &&& ~~~m) ||| (BitVec.ofNat 32 (n % 2 ^ (hi + 1 - lo)) <<< lo)

/-- Bit `i` of a natural number. -/
def bitAt (n i : Nat) : Bool := (n >>> i) % 2 = 1

/-- A natural number's low `k` bits read as a two's-complement number. -/
def signed (k n : Nat) : Int :=
  let m := n % 2 ^ k
  if m < 2 ^ (k - 1) then (m : Int) else (m : Int) - (2 ^ k : Nat)

/-- The two's-complement code of an integer in `k` bits (wraps). -/
def unsigned (k : Nat) (z : Int) : Nat := (z % ((2 ^ k : Nat) : Int)).toNat

/-- An integer forced into the range of `k`-bit two's complement (saturates). -/
def satInt (k : Nat) (z : Int) : Int :=
  let top : Int := ((2 ^ (k - 1) : Nat) : Int)
  if z ≥ top then top - 1 else if z < -top then -top else z

/-- One more, staying at `top`. -/
def satSucc (top n : Nat) : Nat := if n < top then n + 1 else top

/-- A sum that stays at `top`. -/
def satAdd (top n k : Nat) : Nat := min top (n + k)

/-- The value of a little-endian byte string (00 R19). -/
def leNat : Bytes → Nat
  | [] => 0
  | b :: bs => b.toNat + 256 * leNat bs

/-- The first `n` little-endian bytes of a value. -/
def leBytes : Nat → Nat → Bytes
  | 0, _ => []
  | n + 1, v => BitVec.ofNat 8 v :: leBytes n (v / 256)

/-- A word from a natural number. -/
def w32 (n : Nat) : Word := BitVec.ofNat 32 n

/-- `k` bytes of a byte string from an offset, read little-endian; absent bytes read 0. -/
def field (bs : Bytes) (off k : Nat) : Nat := leNat ((bs.drop off).take k)

/-- `n` zero bytes. -/
def zeros (n : Nat) : Bytes := List.replicate n 0

/-- A byte string cut or zero-filled to `n` bytes. -/
def fitBytes (n : Nat) (bs : Bytes) : Bytes := (bs ++ zeros (n - bs.length)).take n

/-- One bit of a reflected CRC of width `k`. -/
def crcBit {k : Nat} (poly c : BitVec k) : BitVec k :=
  if c.getLsbD 0 then (c >>> 1) ^^^ poly else c >>> 1

/-- `n` bits of a reflected CRC. -/
def crcBits {k : Nat} (poly : BitVec k) : Nat → BitVec k → BitVec k
  | 0, c => c
  | n + 1, c => crcBits poly n (crcBit poly c)

/-- One byte of a reflected CRC (13 R381). -/
def crcByte {k : Nat} (poly c : BitVec k) (b : Byte) : BitVec k :=
  crcBits poly 8 (c ^^^ b.setWidth k)

/-- A reflected CRC over a byte string. -/
def crcRun {k : Nat} (poly : BitVec k) : BitVec k → Bytes → BitVec k
  | c, [] => c
  | c, b :: bs => crcRun poly (crcByte poly c b) bs

/-- CRC-32C, reflected polynomial 0x82F63B78, initial and final value all ones (13 R381). -/
def crc32c (bs : Bytes) : Word := ~~~ (crcRun (0x82F63B78 : BitVec 32) (BitVec.allOnes 32) bs)

/-- Integer square root by bits, from bit `k` down. -/
def isqrtFrom : Nat → Nat → Nat → Nat
  | 0, _, r => r
  | k + 1, n, r => if (r + 2 ^ k) * (r + 2 ^ k) ≤ n then isqrtFrom k n (r + 2 ^ k) else isqrtFrom k n r

/-- The largest natural number whose square does not exceed `n`, for `n` below 2^256. -/
def isqrt (n : Nat) : Nat := isqrtFrom 128 n 0

/-- Quotient rounded to nearest, halves away from zero. DESIGN CHOICE (log 177). -/
def roundDiv (a : Int) (b : Nat) : Int :=
  if a ≥ 0 then (2 * a + b) / (2 * b) else - ((-2 * a + b) / (2 * b))

/-- Reading a sparse table: the listed value, or what an unlisted key reads as. -/
def tabGet {α : Type} (dflt : Nat → α) : List (Nat × α) → Nat → α
  | [], k => dflt k
  | (k', v) :: t, k => if k = k' then v else tabGet dflt t k

/-- Writing a sparse table: keys stay in rising order, and a value equal to what the unlisted key reads as
removes the entry. -/
def tabPut {α : Type} [DecidableEq α] (dflt : Nat → α) : List (Nat × α) → Nat → α → List (Nat × α)
  | [], k, v => if v = dflt k then [] else [(k, v)]
  | (k', v') :: t, k, v =>
    if k = k' then (if v = dflt k then t else (k, v) :: t)
    else if k < k' then (if v = dflt k then (k', v') :: t else (k, v) :: (k', v') :: t)
    else (k', v') :: tabPut dflt t k v

/-- Every key of a table lies above a bound, keys rise strictly, and no entry equals its unlisted value. -/
def tabWfFrom {α : Type} [DecidableEq α] (dflt : Nat → α) : Option Nat → List (Nat × α) → Bool
  | _, [] => true
  | lo, (k, v) :: t =>
    (match lo with | some l => decide (l < k) | none => true) && decide (v ≠ dflt k) && tabWfFrom dflt (some k) t

/-- The canonical form of a sparse table. -/
def tabWf {α : Type} [DecidableEq α] (dflt : Nat → α) (t : List (Nat × α)) : Bool := tabWfFrom dflt none t

/-- Entries whose key satisfies `p` are dropped (they read as unlisted afterwards). -/
def tabDrop {α : Type} (p : Nat → Bool) (t : List (Nat × α)) : List (Nat × α) := t.filter (fun e => !p e.1)

/-- Consecutive bytes of a sparse memory. -/
def memBytes (dflt : Nat → Byte) (m : Mem) : Nat → Nat → Bytes
  | _, 0 => []
  | a, n + 1 => tabGet dflt m a :: memBytes dflt m (a + 1) n

/-- Writing consecutive bytes into a sparse memory. -/
def memPut (dflt : Nat → Byte) (m : Mem) : Nat → Bytes → Mem
  | _, [] => m
  | a, b :: bs => memPut dflt (tabPut dflt m a b) (a + 1) bs

/-- The list with position `i` changed by `f` (unchanged where `i` is outside it). -/
def modAt {α : Type} (l : List α) (i : Nat) (f : α → α) : List α :=
  match l[i]? with
  | some x => l.set i (f x)
  | none => l

/-- A number lies in a range, ends included. -/
def inRange (lo hi n : Nat) : Bool := decide (lo ≤ n) && decide (n ≤ hi)

/-- The last `n` elements of a list. -/
def lastN {α : Type} (n : Nat) (l : List α) : List α := l.drop (l.length - n)

/-- The insertion of an element by a rising Nat key. -/
def insertBy {α : Type} (key : α → Nat) (x : α) : List α → List α
  | [] => [x]
  | y :: t => if key x ≤ key y then x :: y :: t else y :: insertBy key x t

/-- Insertion sort by a Nat key (stable for rising insertion). -/
def sortBy {α : Type} (key : α → Nat) (l : List α) : List α := l.foldr (insertBy key) []

end Sys2Proof.Machine
end

