-- ==== Sys2Proof/Machine/RegMap.lean ====
section
/-! DEFINITION. The BAR0 register map: every register's offset, index ranges, reset value and fields with
their access codes, as the register tables of the block chapters and 23_register_index.md R563, R565 and
R566 give them. The names keep the spec's own spelling: `R.PGU_TONE_CFG` is an offset,
`F.PGU_TONE_CFG.LEN` a field of it; a lower-case index letter is an argument. -/

namespace Sys2Proof.Machine

/-- Access codes of a register field (00 Table 0-4). -/
inductive Access where
  | rw | ro | w1c | w1s | wo | rws | rwl
  deriving DecidableEq, Repr

/-- A run of bits of a register with one access code. -/
structure RegField where
  hi : Nat
  lo : Nat
  acc : Access
  deriving DecidableEq, Repr

/-- A family of registers: the offsets `base + i * s1 + j * s2` for `i < n1`, `j < n2`. -/
structure RegFam where
  base : Nat
  n1 : Nat
  s1 : Nat
  n2 : Nat
  s2 : Nat
  reset : Nat
  fields : List RegField
  deriving DecidableEq, Repr

/-- A named field: the register's offset and the bit range. -/
structure Fld where
  reg : Nat
  hi : Nat
  lo : Nat
  deriving DecidableEq, Repr

namespace R

abbrev GLB_CHIP_ID : Nat := 0x0
abbrev GLB_CTRL : Nat := 0x4
abbrev GLB_RESET_KEY : Nat := 0x8
abbrev GLB_RESET_CAUSE : Nat := 0xC
abbrev GLB_RESET_COUNT : Nat := 0x10
abbrev GLB_STARTUP : Nat := 0x14
abbrev GLB_WDT_CFG : Nat := 0x18
abbrev GLB_WDT_KICK : Nat := 0x1C
abbrev GLB_WDT_STATUS : Nat := 0x20
abbrev GLB_TJ : Nat := 0x24
abbrev GLB_IRQ_STATUS : Nat := 0x28
abbrev GLB_IRQ_ENABLE : Nat := 0x2C
abbrev PMU_CTRL : Nat := 0x100000
abbrev PMU_STATUS : Nat := 0x100004
abbrev PMU_CFG : Nat := 0x100008
abbrev PMU_ENABLE : Nat := 0x10000C
abbrev PMU_FLOOR : Nat := 0x100010
abbrev PMU_RETAIN : Nat := 0x100014
abbrev PMU_HOST_VOTE : Nat := 0x100018
abbrev PMU_IRQ_STATUS : Nat := 0x100020
abbrev PMU_IRQ_ENABLE : Nat := 0x100024
abbrev PMU_STEP_MASK : Nat := 0x100028
abbrev PMU_OFFLOG_STAT : Nat := 0x10002C
abbrev PMU_OFFLOG_W0 : Nat := 0x100030
abbrev PMU_OFFLOG_W1 : Nat := 0x100034
abbrev PMU_OFFLOG_W2 : Nat := 0x100038
abbrev PMU_OFFLOG_W3 : Nat := 0x10003C
abbrev PMU_VOTEo (i : Nat) : Nat := 0x100040 + 0x4 * i
abbrev PMU_DOMd_STATUS (i : Nat) : Nat := 0x100100 + 0x4 * i
abbrev SIL_CTRL : Nat := 0x200000
abbrev SIL_STATE : Nat := 0x200004
abbrev SIL_RESULT : Nat := 0x200008
abbrev SIL_ACTIVE_SERIAL : Nat := 0x20000C
abbrev SIL_PENDING_SERIAL : Nat := 0x200010
abbrev SIL_SWITCH_FRAME_LO : Nat := 0x200014
abbrev SIL_SWITCH_FRAME_HI : Nat := 0x200018
abbrev SIL_LAST_SWITCH_LO : Nat := 0x20001C
abbrev SIL_LAST_SWITCH_HI : Nat := 0x200020
abbrev SIL_KEY_CFG : Nat := 0x200024
abbrev SIL_LOCK_COUNT : Nat := 0x200028
abbrev SIL_LOCK_ADDR : Nat := 0x20002C
abbrev SIL_LOCK_SRC : Nat := 0x200030
abbrev SIL_LOCK_FRAME_LO : Nat := 0x200034
abbrev SIL_LOCK_FRAME_HI : Nat := 0x200038
abbrev SIL_IRQ_STATUS : Nat := 0x20003C
abbrev SIL_IRQ_ENABLE : Nat := 0x200040
abbrev SIL_HEAVY_VIRTUAL : Nat := 0x200044
abbrev MRS_CTRL : Nat := 0x300000
abbrev MRS_STATUS : Nat := 0x300004
abbrev MRS_FRAME_LO : Nat := 0x300008
abbrev MRS_FRAME_HI : Nat := 0x30000C
abbrev MRS_PERIOD : Nat := 0x300010
abbrev MRS_BINS : Nat := 0x300014
abbrev MRS_GEOM : Nat := 0x300018
abbrev MRS_GROUP_INDEX : Nat := 0x30001C
abbrev MRS_SLAVE_L : Nat := 0x300020
abbrev MRS_TMIN : Nat := 0x300024
abbrev MRS_TMAX : Nat := 0x300028
abbrev MRS_DEADLINE : Nat := 0x30002C
abbrev MRS_LAUNCH_IGNORED : Nat := 0x300030
abbrev MRS_VIRTUAL_COUNT : Nat := 0x300034
abbrev MRS_SLOT_SLIP : Nat := 0x300038
abbrev MRS_LATE_COUNT : Nat := 0x30003C
abbrev MRS_MOVE_COUNT : Nat := 0x300040
abbrev MRS_LOST_COUNT : Nat := 0x300044
abbrev MRS_IRQ_STATUS : Nat := 0x300048
abbrev MRS_IRQ_ENABLE : Nat := 0x30004C
abbrev MRS_GROUPg_STATUS (i : Nat) : Nat := 0x300100 + 0x4 * i
abbrev MRS_BLOCK_MAPj (i : Nat) : Nat := 0x301000 + 0x4 * i
abbrev PGU_CTRL : Nat := 0x400000
abbrev PGU_STATUS : Nat := 0x400004
abbrev PGU_TONE_CFG : Nat := 0x400008
abbrev PGU_STAGGER : Nat := 0x40000C
abbrev PGU_DAC_FS : Nat := 0x400010
abbrev PGU_IQ_OFFSET : Nat := 0x400014
abbrev PGU_IQ_GAIN : Nat := 0x400018
abbrev PGU_GATEn_CFG (i : Nat) : Nat := 0x400020 + 0x10 * i
abbrev PGU_GATEn_START (i : Nat) : Nat := 0x400024 + 0x10 * i
abbrev PGU_GATEn_WIDTH (i : Nat) : Nat := 0x400028 + 0x10 * i
abbrev PGU_DIAG_CFG : Nat := 0x400040
abbrev PGU_CAL_CFG : Nat := 0x400044
abbrev PGU_CAL_STATUS : Nat := 0x400048
abbrev PGU_LAUNCH_CFG : Nat := 0x40004C
abbrev PGU_CLIP_COUNT : Nat := 0x400050
abbrev PGU_EVENT_COUNT : Nat := 0x400054
abbrev PGU_DIAG_COUNT : Nat := 0x400058
abbrev PGU_IRQ_STATUS : Nat := 0x40005C
abbrev PGU_IRQ_ENABLE : Nat := 0x400060
abbrev PGU_TONEk_FSTART (i : Nat) : Nat := 0x400100 + 0x10 * i
abbrev PGU_TONEk_RATE (i : Nat) : Nat := 0x400104 + 0x10 * i
abbrev PGU_TONEk_AMP (i : Nat) : Nat := 0x400108 + 0x10 * i
abbrev FAFE_CTRL : Nat := 0x500000
abbrev FAFE_STATUS : Nat := 0x500004
abbrev FAFE_CFG : Nat := 0x500008
abbrev FAFE_PROFILE_COUNT : Nat := 0x50000C
abbrev FAFE_BLANKn_POS (i : Nat) : Nat := 0x500010 + 0x8 * i
abbrev FAFE_BLANKn_LEN (i : Nat) : Nat := 0x500014 + 0x8 * i
abbrev FAFE_SAT_COUNTn (i : Nat) : Nat := 0x500020 + 0x4 * i
abbrev FAFE_CALn (i : Nat) : Nat := 0x500030 + 0x4 * i
abbrev FAFE_STEPi (i : Nat) : Nat := 0x500040 + 0x4 * i
abbrev FAFE_IRQ_STATUS : Nat := 0x500080
abbrev FAFE_IRQ_ENABLE : Nat := 0x500084
abbrev FAFE_STEPCALc_X (i : Nat) : Nat := 0x500140 + 0x8 * i
abbrev FAFE_STEPCALc_Y (i : Nat) : Nat := 0x500144 + 0x8 * i
abbrev DDC_CORRc_X (i : Nat) : Nat := 0x500100 + 0x8 * i
abbrev DDC_CORRc_Y (i : Nat) : Nat := 0x500104 + 0x8 * i
abbrev DDC_TONEk_NCO (i : Nat) : Nat := 0x500200 + 0x4 * i
abbrev PCX_CTRL : Nat := 0x600000
abbrev PCX_STATUS : Nat := 0x600004
abbrev PCX_RANGE : Nat := 0x600008
abbrev PCX_COUNT : Nat := 0x60000C
abbrev PCX_TF_CFG : Nat := 0x600010
abbrev PCX_TF_SOURCE : Nat := 0x600014
abbrev PCX_TF_STAGE_SRC : Nat := 0x600018
abbrev PCX_TF_DELAY : Nat := 0x60001C
abbrev PCX_RAY_CFG : Nat := 0x600020
abbrev PCX_RAY_LAMBDA : Nat := 0x600024
abbrev PCX_RAY_XI : Nat := 0x600028
abbrev PCX_RAY_SLEW : Nat := 0x60002C
abbrev PCX_GAUGE : Nat := 0x600030
abbrev PCX_CSR : Nat := 0x600034
abbrev PCX_OVF_COUNT : Nat := 0x600038
abbrev PCX_EVENT_COUNT : Nat := 0x60003C
abbrev PCX_IRQ_STATUS : Nat := 0x600040
abbrev PCX_IRQ_ENABLE : Nat := 0x600044
abbrev PCX_TF_DIFFk (i : Nat) : Nat := 0x600100 + 0x4 * i
abbrev PCX_TF_STAGEk_q (i : Nat) (j : Nat) : Nat := 0x601000 + 0x100 * i + 0x4 * j
abbrev PCX_TF_ACTIVEk_q (i : Nat) (j : Nat) : Nat := 0x602000 + 0x100 * i + 0x4 * j
abbrev MAFE_CTRL : Nat := 0x700000
abbrev MAFE_STATUS : Nat := 0x700004
abbrev MAFE_CFG : Nat := 0x700008
abbrev MAFE_SAT_COUNTn (i : Nat) : Nat := 0x700020 + 0x4 * i
abbrev MAFE_CALn (i : Nat) : Nat := 0x700030 + 0x4 * i
abbrev MAFE_IRQ_STATUS : Nat := 0x700080
abbrev MAFE_IRQ_ENABLE : Nat := 0x700084
abbrev GEA_CTRL : Nat := 0x800000
abbrev GEA_SEL_LO : Nat := 0x800004
abbrev GEA_SEL_HI : Nat := 0x800008
abbrev GEA_GROUPING : Nat := 0x80000C
abbrev GEA_USED_LO : Nat := 0x800010
abbrev GEA_USED_HI : Nat := 0x800014
abbrev GEA_ECC_CORR : Nat := 0x800018
abbrev GEA_ECC_ADDR : Nat := 0x80001C
abbrev GEA_IRQ_STATUS : Nat := 0x800020
abbrev GEA_IRQ_ENABLE : Nat := 0x800024
abbrev GEA_ENGk_STATE (i : Nat) : Nat := 0x800100 + 0x4 * i
abbrev ZNT_CTRL : Nat := 0x900000
abbrev ZNT_STATUS : Nat := 0x900004
abbrev ZNT_CFG : Nat := 0x900008
abbrev ZNT_STATE_BASE : Nat := 0x90000C
abbrev ZNT_STATE_BYTES : Nat := 0x900010
abbrev ZNT_BANDS : Nat := 0x900014
abbrev ZNT_ZONE_COUNT : Nat := 0x900018
abbrev ZNT_WATCHED : Nat := 0x90001C
abbrev ZNT_SEL : Nat := 0x900020
abbrev ZNT_ZINFO : Nat := 0x900024
abbrev ZNT_ZBG : Nat := 0x900028
abbrev ZNT_ZRMS : Nat := 0x90002C
abbrev ZNT_CHANGE_COUNT : Nat := 0x900030
abbrev ZNT_IRQ_STATUS : Nat := 0x900034
abbrev ZNT_IRQ_ENABLE : Nat := 0x900038
abbrev ZNT_BANDq_COEFi (i : Nat) (j : Nat) : Nat := 0x900100 + 0x20 * i + 0x4 * j
abbrev STU_CTRL : Nat := 0xA00000
abbrev STU_STATUS : Nat := 0xA00004
abbrev STU_CFG : Nat := 0xA00008
abbrev STU_CMD : Nat := 0xA0000C
abbrev STU_ARG_PRE : Nat := 0xA00010
abbrev STU_ARG_POST : Nat := 0xA00014
abbrev STU_ARG_LEN : Nat := 0xA00018
abbrev STU_RESULT : Nat := 0xA0001C
abbrev STU_MISSED_COUNT : Nat := 0xA00020
abbrev STU_DEAD_COUNT : Nat := 0xA00024
abbrev STU_DROPPED_COUNT : Nat := 0xA00028
abbrev STU_LOST_COUNT : Nat := 0xA0002C
abbrev STU_IRQ_STATUS : Nat := 0xA00030
abbrev STU_IRQ_ENABLE : Nat := 0xA00034
abbrev STU_SEL : Nat := 0xA00038
abbrev STU_ZSTATE : Nat := 0xA0003C
abbrev STU_ZCOUNT : Nat := 0xA00040
abbrev STU_ZTIMER : Nat := 0xA00044
abbrev STU_RECr_STATE (i : Nat) : Nat := 0xA00100 + 0x4 * i
abbrev TCE_CTRL : Nat := 0xB00000
abbrev TCE_STATUS : Nat := 0xB00004
abbrev TCE_BLOCK_COUNT : Nat := 0xB00008
abbrev TCE_RAW_COUNT : Nat := 0xB0000C
abbrev TCE_VERIFY_COUNT : Nat := 0xB00010
abbrev TCE_STALL_CYCLES_LO : Nat := 0xB00014
abbrev TCE_STALL_CYCLES_HI : Nat := 0xB00018
abbrev TCE_DROP_COUNT : Nat := 0xB0001C
abbrev TCE_IRQ_STATUS : Nat := 0xB00020
abbrev TCE_IRQ_ENABLE : Nat := 0xB00024
abbrev TCE_CHc_CFG (i : Nat) : Nat := 0xB00100 + 0x8 * i
abbrev TCE_CHc_BOUND (i : Nat) : Nat := 0xB00104 + 0x8 * i
abbrev TCE_CHc_STEP (i : Nat) : Nat := 0xB00200 + 0x4 * i
abbrev ANC_CTRL : Nat := 0xC00000
abbrev ANC_STATUS : Nat := 0xC00004
abbrev ANC_FORMAT_KEY : Nat := 0xC00008
abbrev ANC_GEOM0 : Nat := 0xC0000C
abbrev ANC_GEOM1 : Nat := 0xC00010
abbrev ANC_ENDURANCE : Nat := 0xC00014
abbrev ANC_NEXT_SEQ_LO : Nat := 0xC00018
abbrev ANC_NEXT_SEQ_HI : Nat := 0xC0001C
abbrev ANC_COMMIT_SEQ_LO : Nat := 0xC00020
abbrev ANC_COMMIT_SEQ_HI : Nat := 0xC00024
abbrev ANC_OLDEST_SEQ_LO : Nat := 0xC00028
abbrev ANC_OLDEST_SEQ_HI : Nat := 0xC0002C
abbrev ANC_FREE : Nat := 0xC00030
abbrev ANC_BAD : Nat := 0xC00034
abbrev ANC_ERASE_MAX : Nat := 0xC00038
abbrev ANC_ERASE_MIN : Nat := 0xC0003C
abbrev ANC_UNCOMMITTED : Nat := 0xC00040
abbrev ANC_REPAIRED : Nat := 0xC00044
abbrev ANC_CORRUPT : Nat := 0xC00048
abbrev ANC_MOVED : Nat := 0xC0004C
abbrev ANC_CORR_MAX : Nat := 0xC00050
abbrev ANC_PATROL : Nat := 0xC00054
abbrev ANC_DROP : Nat := 0xC00058
abbrev ANC_IRQ_STATUS : Nat := 0xC0005C
abbrev ANC_IRQ_ENABLE : Nat := 0xC00060
abbrev ANC_POL0 : Nat := 0xC00080
abbrev ANC_POL1 : Nat := 0xC00084
abbrev ANC_POL2 : Nat := 0xC00088
abbrev ANC_POL3 : Nat := 0xC0008C
abbrev ANC_POL4 : Nat := 0xC00090
abbrev DMC_CTRL : Nat := 0xD00000
abbrev DMC_STATUS : Nat := 0xD00004
abbrev DMC_REF_STATUS : Nat := 0xD00008
abbrev DMC_GEOM : Nat := 0xD0000C
abbrev DMC_TIMING0 : Nat := 0xD00010
abbrev DMC_TIMING1 : Nat := 0xD00014
abbrev DMC_TIMING2 : Nat := 0xD00018
abbrev DMC_TIMING3 : Nat := 0xD0001C
abbrev DMC_REF_CFG : Nat := 0xD00020
abbrev DMC_PAGE_CFG : Nat := 0xD00024
abbrev DMC_ECC_CFG : Nat := 0xD00028
abbrev DMC_PASR : Nat := 0xD0002C
abbrev DMC_ECC_CORR : Nat := 0xD00030
abbrev DMC_ECC_ADDR_LO : Nat := 0xD00034
abbrev DMC_ECC_ADDR_HI : Nat := 0xD00038
abbrev DMC_REF_FORCED : Nat := 0xD0003C
abbrev DMC_FRZ_CAUSE : Nat := 0xD00040
abbrev DMC_FRZ_ADDR_LO : Nat := 0xD00044
abbrev DMC_FRZ_ADDR_HI : Nat := 0xD00048
abbrev DMC_FRZ_REQ : Nat := 0xD0004C
abbrev DMC_FRZ_SYND : Nat := 0xD00050
abbrev DMC_DIAG_ADDR_LO : Nat := 0xD00054
abbrev DMC_DIAG_ADDR_HI : Nat := 0xD00058
abbrev DMC_DIAG_CTRL : Nat := 0xD0005C
abbrev DMC_DIAG_DATAi (i : Nat) : Nat := 0xD00060 + 0x4 * i
abbrev DMC_IRQ_STATUS : Nat := 0xD00080
abbrev DMC_IRQ_ENABLE : Nat := 0xD00084
abbrev DMC_HISTi_LO (i : Nat) : Nat := 0xD00100 + 0x8 * i
abbrev DMC_HISTi_HI (i : Nat) : Nat := 0xD00104 + 0x8 * i
abbrev CVU_CTRL : Nat := 0xD80000
abbrev CVU_IRQ_STATUS : Nat := 0xD80004
abbrev CVU_IRQ_ENABLE : Nat := 0xD80008
abbrev CVU_REFUSED : Nat := 0xD8000C
abbrev CVU_CHn_CFG (i : Nat) : Nat := 0xD80100 + 0x40 * i
abbrev CVU_CHn_CMD (i : Nat) : Nat := 0xD80104 + 0x40 * i
abbrev CVU_CHn_DATA (i : Nat) : Nat := 0xD80108 + 0x40 * i
abbrev CVU_CHn_SRC_LO (i : Nat) : Nat := 0xD8010C + 0x40 * i
abbrev CVU_CHn_SRC_HI (i : Nat) : Nat := 0xD80110 + 0x40 * i
abbrev CVU_CHn_LEN (i : Nat) : Nat := 0xD80114 + 0x40 * i
abbrev CVU_CHn_STATE_LO (i : Nat) : Nat := 0xD80118 + 0x40 * i
abbrev CVU_CHn_STATE_HI (i : Nat) : Nat := 0xD8011C + 0x40 * i
abbrev CVU_CHn_COUNT_LO (i : Nat) : Nat := 0xD80120 + 0x40 * i
abbrev CVU_CHn_COUNT_HI (i : Nat) : Nat := 0xD80124 + 0x40 * i
abbrev CVU_CHn_RESULT_LO (i : Nat) : Nat := 0xD80128 + 0x40 * i
abbrev CVU_CHn_RESULT_HI (i : Nat) : Nat := 0xD8012C + 0x40 * i
abbrev CVU_CHn_STATUS (i : Nat) : Nat := 0xD80130 + 0x40 * i
abbrev TTU_CTRL : Nat := 0xE00000
abbrev TTU_STATUS : Nat := 0xE00004
abbrev TTU_REF_CFG : Nat := 0xE00008
abbrev TTU_PPS_CFG : Nat := 0xE0000C
abbrev TTU_HOLD_CFG : Nat := 0xE00010
abbrev TTU_SET_LO : Nat := 0xE00014
abbrev TTU_SET_HI : Nat := 0xE00018
abbrev TTU_NOW_LO : Nat := 0xE0001C
abbrev TTU_NOW_HI : Nat := 0xE00020
abbrev TTU_NOW_FRAC : Nat := 0xE00024
abbrev TTU_PHASE_ERR : Nat := 0xE00028
abbrev TTU_FREQ_OFFSET : Nat := 0xE0002C
abbrev TTU_OSC_OFFSET : Nat := 0xE00030
abbrev TTU_PPS_REJECT : Nat := 0xE00034
abbrev TTU_STEP_COUNT : Nat := 0xE00038
abbrev TTU_IRQ_STATUS : Nat := 0xE0003C
abbrev TTU_IRQ_ENABLE : Nat := 0xE00040
abbrev TTU_ARM : Nat := 0xE00044
abbrev TTU_CHc_CFG (i : Nat) : Nat := 0xE00100 + 0x40 * i
abbrev TTU_CHc_TIMING (i : Nat) : Nat := 0xE00104 + 0x40 * i
abbrev TTU_CHc_STATUS (i : Nat) : Nat := 0xE00108 + 0x40 * i
abbrev TTU_CHc_DROP_COUNT (i : Nat) : Nat := 0xE0010C + 0x40 * i
abbrev TTU_CHc_HOLDOFF_COUNT (i : Nat) : Nat := 0xE00110 + 0x40 * i
abbrev TTU_CHc_STAMP_COUNT (i : Nat) : Nat := 0xE00114 + 0x40 * i
abbrev TTU_CHc_Q_W0 (i : Nat) : Nat := 0xE00118 + 0x40 * i
abbrev TTU_CHc_Q_W1 (i : Nat) : Nat := 0xE0011C + 0x40 * i
abbrev TTU_CHc_Q_W2 (i : Nat) : Nat := 0xE00120 + 0x40 * i
abbrev TTU_CHc_HF_FREQ (i : Nat) : Nat := 0xE00124 + 0x40 * i
abbrev TTU_CHc_EVENT_COUNT (i : Nat) : Nat := 0xE00128 + 0x40 * i
abbrev TTU_IUu_CFG (i : Nat) : Nat := 0xE00400 + 0x80 * i
abbrev TTU_IUu_N (i : Nat) : Nat := 0xE00404 + 0x80 * i
abbrev TTU_IUu_STATUS (i : Nat) : Nat := 0xE00408 + 0x80 * i
abbrev TTU_IUu_Q_W0 (i : Nat) : Nat := 0xE0040C + 0x80 * i
abbrev TTU_IUu_Q_W1 (i : Nat) : Nat := 0xE00410 + 0x80 * i
abbrev TTU_IUu_Q_W2 (i : Nat) : Nat := 0xE00414 + 0x80 * i
abbrev TTU_IUu_MEAN_LO (i : Nat) : Nat := 0xE00418 + 0x80 * i
abbrev TTU_IUu_MEAN_HI (i : Nat) : Nat := 0xE0041C + 0x80 * i
abbrev TTU_IUu_SD (i : Nat) : Nat := 0xE00420 + 0x80 * i
abbrev TTU_IUu_MIN_LO (i : Nat) : Nat := 0xE00424 + 0x80 * i
abbrev TTU_IUu_MIN_HI (i : Nat) : Nat := 0xE00428 + 0x80 * i
abbrev TTU_IUu_MAX_LO (i : Nat) : Nat := 0xE0042C + 0x80 * i
abbrev TTU_IUu_MAX_HI (i : Nat) : Nat := 0xE00430 + 0x80 * i
abbrev TTU_IUu_COUNT (i : Nat) : Nat := 0xE00434 + 0x80 * i
abbrev TTU_IUu_FLAGCOUNT (i : Nat) : Nat := 0xE00438 + 0x80 * i
abbrev TTU_IUu_EXPIRED (i : Nat) : Nat := 0xE0043C + 0x80 * i
abbrev TTU_IUu_WINDOW (i : Nat) : Nat := 0xE00440 + 0x80 * i
abbrev VPF_CTRL : Nat := 0xE80000
abbrev VPF_STATUS : Nat := 0xE80004
abbrev VPF_CFG : Nat := 0xE80008
abbrev VPF_RING : Nat := 0xE8000C
abbrev VPF_RS : Nat := 0xE80010
abbrev VPF_MAINS : Nat := 0xE80014
abbrev VPF_DISCARD : Nat := 0xE80018
abbrev VPF_IRQ_STATUS : Nat := 0xE8001C
abbrev VPF_IRQ_ENABLE : Nat := 0xE80020
abbrev VPF_CHc_CFG (i : Nat) : Nat := 0xE80100 + 0x40 * i
abbrev VPF_CHc_EXC (i : Nat) : Nat := 0xE80104 + 0x40 * i
abbrev VPF_CHc_LEAD (i : Nat) : Nat := 0xE80108 + 0x40 * i
abbrev VPF_CHc_COEF0 (i : Nat) : Nat := 0xE8010C + 0x40 * i
abbrev VPF_CHc_COEF1 (i : Nat) : Nat := 0xE80110 + 0x40 * i
abbrev VPF_CHc_COEF2 (i : Nat) : Nat := 0xE80114 + 0x40 * i
abbrev VPF_CHc_COEF3 (i : Nat) : Nat := 0xE80118 + 0x40 * i
abbrev VPF_CHc_VALUE (i : Nat) : Nat := 0xE8011C + 0x40 * i
abbrev VPF_CHc_RAW (i : Nat) : Nat := 0xE80120 + 0x40 * i
abbrev VPF_CHc_INFO (i : Nat) : Nat := 0xE80124 + 0x40 * i
abbrev VPF_CHc_AUX (i : Nat) : Nat := 0xE80128 + 0x40 * i
abbrev DLK_CTRL : Nat := 0xEC0000
abbrev DLK_STATUS : Nat := 0xEC0004
abbrev DLK_CFG : Nat := 0xEC0008
abbrev DLK_ERR_COUNT : Nat := 0xEC000C
abbrev DLK_HOST_REQ : Nat := 0xEC0010
abbrev DLK_HOST_RESULT : Nat := 0xEC0014
abbrev DLK_HOST_DATAi (i : Nat) : Nat := 0xEC0020 + 0x4 * i
abbrev DLK_IRQ_STATUS : Nat := 0xEC0040
abbrev DLK_IRQ_ENABLE : Nat := 0xEC0044
abbrev DLK_DEVd_STATUS (i : Nat) : Nat := 0xEC0100 + 0x10 * i
abbrev DLK_DEVd_SETPOINT (i : Nat) : Nat := 0xEC0104 + 0x10 * i
abbrev DLK_DEVd_CURRENT (i : Nat) : Nat := 0xEC0108 + 0x10 * i
abbrev DLK_DEVd_COUNT (i : Nat) : Nat := 0xEC010C + 0x10 * i
abbrev HIF_CTRL : Nat := 0xF00000
abbrev HIF_STATUS : Nat := 0xF00004
abbrev HIF_WIN_BASE_LO : Nat := 0xF00008
abbrev HIF_WIN_BASE_HI : Nat := 0xF0000C
abbrev HIF_S0_SQ_LO : Nat := 0xF00010
abbrev HIF_S0_SQ_HI : Nat := 0xF00014
abbrev HIF_S0_CQ_LO : Nat := 0xF00018
abbrev HIF_S0_CQ_HI : Nat := 0xF0001C
abbrev HIF_S0_CFG : Nat := 0xF00020
abbrev HIF_SESS_CTRL : Nat := 0xF00024
abbrev HIF_SESS_NEXT : Nat := 0xF00028
abbrev HIF_SESS_SEL : Nat := 0xF0002C
abbrev HIF_SESS_INFO : Nat := 0xF00030
abbrev HIF_SESS_EXPECT : Nat := 0xF00034
abbrev HIF_VLOG_STAT : Nat := 0xF00038
abbrev HIF_VLOG_W0 : Nat := 0xF0003C
abbrev HIF_VLOG_W1 : Nat := 0xF00040
abbrev HIF_VLOG_W2 : Nat := 0xF00044
abbrev HIF_VLOG_W3 : Nat := 0xF00048
abbrev HIF_IRQ_MAPm (i : Nat) : Nat := 0xF00050 + 0x4 * i
abbrev HIF_IRQN_MASK : Nat := 0xF00068
abbrev HIF_IRQ_STATUS : Nat := 0xF0006C
abbrev HIF_IRQ_ENABLE : Nat := 0xF00070
abbrev HIF_SQ_TAILs (i : Nat) : Nat := 0xF01000 + 0x4 * i
abbrev HIF_CQ_HEADs (i : Nat) : Nat := 0xF01400 + 0x4 * i
abbrev HIF_STRc_BASE_LO (i : Nat) : Nat := 0xF02000 + 0x20 * i
abbrev HIF_STRc_BASE_HI (i : Nat) : Nat := 0xF02004 + 0x20 * i
abbrev HIF_STRc_CFG (i : Nat) : Nat := 0xF02008 + 0x20 * i
abbrev HIF_STRc_WPTR_LO (i : Nat) : Nat := 0xF0200C + 0x20 * i
abbrev HIF_STRc_WPTR_HI (i : Nat) : Nat := 0xF02010 + 0x20 * i
abbrev HIF_STRc_RD (i : Nat) : Nat := 0xF02014 + 0x20 * i
abbrev HIF_STRc_WR (i : Nat) : Nat := 0xF02018 + 0x20 * i
abbrev HIF_STRc_DROP (i : Nat) : Nat := 0xF0201C + 0x20 * i
abbrev MSIX_TABLEv_ADDR_LO (i : Nat) : Nat := 0xF30000 + 0x10 * i
abbrev MSIX_TABLEv_ADDR_HI (i : Nat) : Nat := 0xF30004 + 0x10 * i
abbrev MSIX_TABLEv_DATA (i : Nat) : Nat := 0xF30008 + 0x10 * i
abbrev MSIX_TABLEv_CONTROL (i : Nat) : Nat := 0xF3000C + 0x10 * i
abbrev MSIX_PBAi (i : Nat) : Nat := 0xF31000 + 0x4 * i
abbrev CSP_CTRL : Nat := 0xF40000
abbrev CSP_STATUS : Nat := 0xF40004
abbrev CSP_CFG : Nat := 0xF40008
abbrev CSP_MAP : Nat := 0xF4000C
abbrev CSP_GROUP_IDi (i : Nat) : Nat := 0xF40010 + 0x4 * i
abbrev CSP_CC : Nat := 0xF40020
abbrev CSP_DE_CFG : Nat := 0xF40024
abbrev CSP_DE_BASE_LO : Nat := 0xF40028
abbrev CSP_DE_BASE_HI : Nat := 0xF4002C
abbrev CSP_PORTp_STATUS (i : Nat) : Nat := 0xF40030 + 0x4 * i
abbrev CSP_ERR_COUNT : Nat := 0xF40038
abbrev CSP_IRQ_STATUS : Nat := 0xF4003C
abbrev CSP_IRQ_ENABLE : Nat := 0xF40040
abbrev ALM_CTRL : Nat := 0xF80000
abbrev ALM_STATUS : Nat := 0xF80004
abbrev ALM_DIE_IDi (i : Nat) : Nat := 0xF80008 + 0x4 * i
abbrev ALM_RUN : Nat := 0xF80018
abbrev ALM_POWERED : Nat := 0xF8001C
abbrev ALM_EPOCH : Nat := 0xF80020
abbrev ALM_EPOCH_HEAD : Nat := 0xF80024
abbrev ALM_EPOCH_PENDING : Nat := 0xF80028
abbrev ALM_CFG : Nat := 0xF8002C
abbrev ALM_HIST_STAT : Nat := 0xF80030
abbrev ALM_IND_SEL : Nat := 0xF80034
abbrev ALM_IND_INFO : Nat := 0xF80038
abbrev ALM_IND_VALUE : Nat := 0xF8003C
abbrev ALM_IND_LIMIT : Nat := 0xF80040
abbrev ALM_IND_REMAIN_NOM : Nat := 0xF80044
abbrev ALM_IND_REMAIN_EARLY : Nat := 0xF80048
abbrev ALM_IRQ_STATUS : Nat := 0xF8004C
abbrev ALM_IRQ_ENABLE : Nat := 0xF80050

end R

namespace F

abbrev GLB_CHIP_ID.PART_NUMBER : Fld := ⟨R.GLB_CHIP_ID, 31, 16⟩
abbrev GLB_CHIP_ID.MAJOR_REV : Fld := ⟨R.GLB_CHIP_ID, 15, 12⟩
abbrev GLB_CHIP_ID.MINOR_REV : Fld := ⟨R.GLB_CHIP_ID, 11, 8⟩
abbrev GLB_CTRL.CAUSE_CLR : Fld := ⟨R.GLB_CTRL, 0, 0⟩
abbrev GLB_CTRL.WARM_REQ : Fld := ⟨R.GLB_CTRL, 1, 1⟩
abbrev GLB_CTRL.COUNT_CLR : Fld := ⟨R.GLB_CTRL, 2, 2⟩
abbrev GLB_RESET_KEY.KEY : Fld := ⟨R.GLB_RESET_KEY, 31, 0⟩
abbrev GLB_RESET_CAUSE.POR : Fld := ⟨R.GLB_RESET_CAUSE, 0, 0⟩
abbrev GLB_RESET_CAUSE.PIN : Fld := ⟨R.GLB_RESET_CAUSE, 1, 1⟩
abbrev GLB_RESET_CAUSE.WDT : Fld := ⟨R.GLB_RESET_CAUSE, 2, 2⟩
abbrev GLB_RESET_CAUSE.SOFT : Fld := ⟨R.GLB_RESET_CAUSE, 3, 3⟩
abbrev GLB_RESET_CAUSE.CORE_SUPPLY : Fld := ⟨R.GLB_RESET_CAUSE, 4, 4⟩
abbrev GLB_RESET_CAUSE.THERMAL : Fld := ⟨R.GLB_RESET_CAUSE, 5, 5⟩
abbrev GLB_RESET_CAUSE.DRAM : Fld := ⟨R.GLB_RESET_CAUSE, 6, 6⟩
abbrev GLB_RESET_CAUSE.PERST : Fld := ⟨R.GLB_RESET_CAUSE, 7, 7⟩
abbrev GLB_RESET_COUNT.WARM : Fld := ⟨R.GLB_RESET_COUNT, 15, 0⟩
abbrev GLB_RESET_COUNT.DRAM : Fld := ⟨R.GLB_RESET_COUNT, 31, 16⟩
abbrev GLB_STARTUP.PHASE : Fld := ⟨R.GLB_STARTUP, 2, 0⟩
abbrev GLB_STARTUP.BOOT_SRC : Fld := ⟨R.GLB_STARTUP, 3, 3⟩
abbrev GLB_STARTUP.SMB_STRAP : Fld := ⟨R.GLB_STARTUP, 5, 4⟩
abbrev GLB_STARTUP.HEADER_VALID : Fld := ⟨R.GLB_STARTUP, 6, 6⟩
abbrev GLB_STARTUP.AUTO_START : Fld := ⟨R.GLB_STARTUP, 7, 7⟩
abbrev GLB_STARTUP.CODE : Fld := ⟨R.GLB_STARTUP, 15, 8⟩
abbrev GLB_STARTUP.DETAIL : Fld := ⟨R.GLB_STARTUP, 31, 16⟩
abbrev GLB_WDT_CFG.TIMEOUT_MS : Fld := ⟨R.GLB_WDT_CFG, 15, 0⟩
abbrev GLB_WDT_CFG.EN : Fld := ⟨R.GLB_WDT_CFG, 16, 16⟩
abbrev GLB_WDT_CFG.FLUSH : Fld := ⟨R.GLB_WDT_CFG, 17, 17⟩
abbrev GLB_WDT_KICK.KICK : Fld := ⟨R.GLB_WDT_KICK, 31, 0⟩
abbrev GLB_WDT_STATUS.REMAIN_MS : Fld := ⟨R.GLB_WDT_STATUS, 15, 0⟩
abbrev GLB_WDT_STATUS.BAD_KICKS : Fld := ⟨R.GLB_WDT_STATUS, 31, 16⟩
abbrev GLB_TJ.TJ : Fld := ⟨R.GLB_TJ, 15, 0⟩
abbrev GLB_TJ.TJ_MAX : Fld := ⟨R.GLB_TJ, 31, 16⟩
abbrev GLB_IRQ_STATUS.WDT_WARN : Fld := ⟨R.GLB_IRQ_STATUS, 0, 0⟩
abbrev GLB_IRQ_STATUS.TJ_HIGH : Fld := ⟨R.GLB_IRQ_STATUS, 1, 1⟩
abbrev GLB_IRQ_STATUS.STARTUP_DONE : Fld := ⟨R.GLB_IRQ_STATUS, 2, 2⟩
abbrev GLB_IRQ_STATUS.START_FAIL : Fld := ⟨R.GLB_IRQ_STATUS, 3, 3⟩
abbrev GLB_IRQ_ENABLE.ENABLE : Fld := ⟨R.GLB_IRQ_ENABLE, 3, 0⟩
abbrev PMU_CTRL.COUNT_CLR : Fld := ⟨R.PMU_CTRL, 0, 0⟩
abbrev PMU_CTRL.OFFLOG_CLR : Fld := ⟨R.PMU_CTRL, 1, 1⟩
abbrev PMU_STATUS.PWRFAIL : Fld := ⟨R.PMU_STATUS, 0, 0⟩
abbrev PMU_STATUS.BOOT : Fld := ⟨R.PMU_STATUS, 1, 1⟩
abbrev PMU_STATUS.CODE : Fld := ⟨R.PMU_STATUS, 15, 8⟩
abbrev PMU_STATUS.DETAIL : Fld := ⟨R.PMU_STATUS, 23, 16⟩
abbrev PMU_CFG.PWRFAIL_EN : Fld := ⟨R.PMU_CFG, 0, 0⟩
abbrev PMU_CFG.DMC_IDLE_US : Fld := ⟨R.PMU_CFG, 15, 8⟩
abbrev PMU_ENABLE.EN : Fld := ⟨R.PMU_ENABLE, 12, 0⟩
abbrev PMU_FLOOR.FLOOR : Fld := ⟨R.PMU_FLOOR, 25, 0⟩
abbrev PMU_RETAIN.BANKS : Fld := ⟨R.PMU_RETAIN, 15, 0⟩
abbrev PMU_RETAIN.IMEM : Fld := ⟨R.PMU_RETAIN, 19, 16⟩
abbrev PMU_HOST_VOTE.VOTE : Fld := ⟨R.PMU_HOST_VOTE, 25, 0⟩
abbrev PMU_IRQ_STATUS.OFF_ACCESS : Fld := ⟨R.PMU_IRQ_STATUS, 0, 0⟩
abbrev PMU_IRQ_STATUS.STEP : Fld := ⟨R.PMU_IRQ_STATUS, 1, 1⟩
abbrev PMU_IRQ_STATUS.PWRFAIL : Fld := ⟨R.PMU_IRQ_STATUS, 2, 2⟩
abbrev PMU_IRQ_STATUS.DISABLED_VOTE : Fld := ⟨R.PMU_IRQ_STATUS, 3, 3⟩
abbrev PMU_IRQ_ENABLE.ENABLE : Fld := ⟨R.PMU_IRQ_ENABLE, 3, 0⟩
abbrev PMU_STEP_MASK.MASK : Fld := ⟨R.PMU_STEP_MASK, 12, 0⟩
abbrev PMU_OFFLOG_STAT.LOST : Fld := ⟨R.PMU_OFFLOG_STAT, 15, 0⟩
abbrev PMU_OFFLOG_STAT.FILL : Fld := ⟨R.PMU_OFFLOG_STAT, 22, 16⟩
abbrev PMU_OFFLOG_W0.WORD : Fld := ⟨R.PMU_OFFLOG_W0, 31, 0⟩
abbrev PMU_OFFLOG_W1.WORD : Fld := ⟨R.PMU_OFFLOG_W1, 31, 0⟩
abbrev PMU_OFFLOG_W2.WORD : Fld := ⟨R.PMU_OFFLOG_W2, 31, 0⟩
abbrev PMU_OFFLOG_W3.WORD : Fld := ⟨R.PMU_OFFLOG_W3, 31, 0⟩
abbrev PMU_VOTEo.VOTE (i : Nat) : Fld := ⟨R.PMU_VOTEo i, 25, 0⟩
abbrev PMU_DOMd_STATUS.STATE (i : Nat) : Fld := ⟨R.PMU_DOMd_STATUS i, 1, 0⟩
abbrev PMU_DOMd_STATUS.RESOLVED (i : Nat) : Fld := ⟨R.PMU_DOMd_STATUS i, 3, 2⟩
abbrev PMU_DOMd_STATUS.BUSY (i : Nat) : Fld := ⟨R.PMU_DOMd_STATUS i, 4, 4⟩
abbrev PMU_DOMd_STATUS.TARGET (i : Nat) : Fld := ⟨R.PMU_DOMd_STATUS i, 6, 5⟩
abbrev PMU_DOMd_STATUS.Q_VALID (i : Nat) : Fld := ⟨R.PMU_DOMd_STATUS i, 7, 7⟩
abbrev PMU_DOMd_STATUS.QUEUED (i : Nat) : Fld := ⟨R.PMU_DOMd_STATUS i, 9, 8⟩
abbrev PMU_DOMd_STATUS.HOLDS (i : Nat) : Fld := ⟨R.PMU_DOMd_STATUS i, 13, 10⟩
abbrev PMU_DOMd_STATUS.DISABLED (i : Nat) : Fld := ⟨R.PMU_DOMd_STATUS i, 14, 14⟩
abbrev PMU_DOMd_STATUS.STEPS (i : Nat) : Fld := ⟨R.PMU_DOMd_STATUS i, 31, 16⟩
abbrev SIL_CTRL.SWITCH_NEXT : Fld := ⟨R.SIL_CTRL, 0, 0⟩
abbrev SIL_CTRL.SWITCH_AT : Fld := ⟨R.SIL_CTRL, 1, 1⟩
abbrev SIL_CTRL.DISARM : Fld := ⟨R.SIL_CTRL, 2, 2⟩
abbrev SIL_CTRL.ABORT : Fld := ⟨R.SIL_CTRL, 3, 3⟩
abbrev SIL_CTRL.LOCK_CLR : Fld := ⟨R.SIL_CTRL, 4, 4⟩
abbrev SIL_STATE.PENDING_STATE : Fld := ⟨R.SIL_STATE, 2, 0⟩
abbrev SIL_STATE.ACTIVE_VALID : Fld := ⟨R.SIL_STATE, 3, 3⟩
abbrev SIL_STATE.ACTIVE_PERSISTENT : Fld := ⟨R.SIL_STATE, 4, 4⟩
abbrev SIL_STATE.ACTIVE_COPY : Fld := ⟨R.SIL_STATE, 5, 5⟩
abbrev SIL_STATE.PENDING_HEAVY : Fld := ⟨R.SIL_STATE, 6, 6⟩
abbrev SIL_STATE.BOOT_SLOT : Fld := ⟨R.SIL_STATE, 7, 7⟩
abbrev SIL_STATE.BOOT_SOURCE : Fld := ⟨R.SIL_STATE, 9, 8⟩
abbrev SIL_RESULT.CODE : Fld := ⟨R.SIL_RESULT, 7, 0⟩
abbrev SIL_RESULT.DETAIL : Fld := ⟨R.SIL_RESULT, 23, 8⟩
abbrev SIL_ACTIVE_SERIAL.SERIAL : Fld := ⟨R.SIL_ACTIVE_SERIAL, 31, 0⟩
abbrev SIL_PENDING_SERIAL.SERIAL : Fld := ⟨R.SIL_PENDING_SERIAL, 31, 0⟩
abbrev SIL_SWITCH_FRAME_LO.FRAME_LO : Fld := ⟨R.SIL_SWITCH_FRAME_LO, 31, 0⟩
abbrev SIL_SWITCH_FRAME_HI.FRAME_HI : Fld := ⟨R.SIL_SWITCH_FRAME_HI, 15, 0⟩
abbrev SIL_LAST_SWITCH_LO.FRAME_LO : Fld := ⟨R.SIL_LAST_SWITCH_LO, 31, 0⟩
abbrev SIL_LAST_SWITCH_HI.FRAME_HI : Fld := ⟨R.SIL_LAST_SWITCH_HI, 15, 0⟩
abbrev SIL_KEY_CFG.SLOT_ENABLE : Fld := ⟨R.SIL_KEY_CFG, 3, 0⟩
abbrev SIL_KEY_CFG.REQUIRE : Fld := ⟨R.SIL_KEY_CFG, 4, 4⟩
abbrev SIL_LOCK_COUNT.COUNT : Fld := ⟨R.SIL_LOCK_COUNT, 15, 0⟩
abbrev SIL_LOCK_ADDR.OFFSET : Fld := ⟨R.SIL_LOCK_ADDR, 23, 0⟩
abbrev SIL_LOCK_SRC.SOURCE : Fld := ⟨R.SIL_LOCK_SRC, 1, 0⟩
abbrev SIL_LOCK_SRC.BIN : Fld := ⟨R.SIL_LOCK_SRC, 25, 8⟩
abbrev SIL_LOCK_FRAME_LO.FRAME_LO : Fld := ⟨R.SIL_LOCK_FRAME_LO, 31, 0⟩
abbrev SIL_LOCK_FRAME_HI.FRAME_HI : Fld := ⟨R.SIL_LOCK_FRAME_HI, 15, 0⟩
abbrev SIL_IRQ_STATUS.LOAD_DONE : Fld := ⟨R.SIL_IRQ_STATUS, 0, 0⟩
abbrev SIL_IRQ_STATUS.SWITCH_DONE : Fld := ⟨R.SIL_IRQ_STATUS, 1, 1⟩
abbrev SIL_IRQ_STATUS.LOCK_VIOL : Fld := ⟨R.SIL_IRQ_STATUS, 2, 2⟩
abbrev SIL_IRQ_STATUS.BOOT_FALLBACK : Fld := ⟨R.SIL_IRQ_STATUS, 3, 3⟩
abbrev SIL_IRQ_ENABLE.ENABLE : Fld := ⟨R.SIL_IRQ_ENABLE, 3, 0⟩
abbrev SIL_HEAVY_VIRTUAL.FRAMES : Fld := ⟨R.SIL_HEAVY_VIRTUAL, 15, 0⟩
abbrev MRS_CTRL.START : Fld := ⟨R.MRS_CTRL, 0, 0⟩
abbrev MRS_CTRL.STOP : Fld := ⟨R.MRS_CTRL, 1, 1⟩
abbrev MRS_CTRL.COUNT_CLR : Fld := ⟨R.MRS_CTRL, 2, 2⟩
abbrev MRS_CTRL.HEALTH_CLR : Fld := ⟨R.MRS_CTRL, 3, 3⟩
abbrev MRS_CTRL.REBALANCE_RESET : Fld := ⟨R.MRS_CTRL, 4, 4⟩
abbrev MRS_STATUS.STATE : Fld := ⟨R.MRS_STATUS, 2, 0⟩
abbrev MRS_STATUS.SLAVE : Fld := ⟨R.MRS_STATUS, 3, 3⟩
abbrev MRS_STATUS.VIRTUAL : Fld := ⟨R.MRS_STATUS, 4, 4⟩
abbrev MRS_STATUS.CODE : Fld := ⟨R.MRS_STATUS, 15, 8⟩
abbrev MRS_STATUS.DETAIL : Fld := ⟨R.MRS_STATUS, 31, 16⟩
abbrev MRS_FRAME_LO.FRAME_LO : Fld := ⟨R.MRS_FRAME_LO, 31, 0⟩
abbrev MRS_FRAME_HI.FRAME_HI : Fld := ⟨R.MRS_FRAME_HI, 15, 0⟩
abbrev MRS_PERIOD.T : Fld := ⟨R.MRS_PERIOD, 20, 0⟩
abbrev MRS_BINS.COUNT : Fld := ⟨R.MRS_BINS, 18, 0⟩
abbrev MRS_GEOM.PITCH : Fld := ⟨R.MRS_GEOM, 7, 0⟩
abbrev MRS_GEOM.K_CODE : Fld := ⟨R.MRS_GEOM, 10, 8⟩
abbrev MRS_GEOM.MODE : Fld := ⟨R.MRS_GEOM, 11, 11⟩
abbrev MRS_GEOM.GAUGE : Fld := ⟨R.MRS_GEOM, 18, 12⟩
abbrev MRS_GROUP_INDEX.N_G : Fld := ⟨R.MRS_GROUP_INDEX, 31, 0⟩
abbrev MRS_SLAVE_L.L : Fld := ⟨R.MRS_SLAVE_L, 15, 0⟩
abbrev MRS_TMIN.T_MIN : Fld := ⟨R.MRS_TMIN, 20, 0⟩
abbrev MRS_TMAX.T_MAX : Fld := ⟨R.MRS_TMAX, 21, 0⟩
abbrev MRS_DEADLINE.FRAMES : Fld := ⟨R.MRS_DEADLINE, 3, 0⟩
abbrev MRS_LAUNCH_IGNORED.COUNT : Fld := ⟨R.MRS_LAUNCH_IGNORED, 31, 0⟩
abbrev MRS_VIRTUAL_COUNT.COUNT : Fld := ⟨R.MRS_VIRTUAL_COUNT, 31, 0⟩
abbrev MRS_SLOT_SLIP.SLIPS : Fld := ⟨R.MRS_SLOT_SLIP, 15, 0⟩
abbrev MRS_SLOT_SLIP.REFUSED : Fld := ⟨R.MRS_SLOT_SLIP, 31, 16⟩
abbrev MRS_LATE_COUNT.COUNT : Fld := ⟨R.MRS_LATE_COUNT, 31, 0⟩
abbrev MRS_MOVE_COUNT.MOVES : Fld := ⟨R.MRS_MOVE_COUNT, 15, 0⟩
abbrev MRS_MOVE_COUNT.NO_TARGET : Fld := ⟨R.MRS_MOVE_COUNT, 31, 16⟩
abbrev MRS_LOST_COUNT.COUNT : Fld := ⟨R.MRS_LOST_COUNT, 31, 0⟩
abbrev MRS_IRQ_STATUS.LATE : Fld := ⟨R.MRS_IRQ_STATUS, 0, 0⟩
abbrev MRS_IRQ_STATUS.MOVED : Fld := ⟨R.MRS_IRQ_STATUS, 1, 1⟩
abbrev MRS_IRQ_STATUS.DEGRADED : Fld := ⟨R.MRS_IRQ_STATUS, 2, 2⟩
abbrev MRS_IRQ_STATUS.LOST : Fld := ⟨R.MRS_IRQ_STATUS, 3, 3⟩
abbrev MRS_IRQ_STATUS.STARTED : Fld := ⟨R.MRS_IRQ_STATUS, 4, 4⟩
abbrev MRS_IRQ_STATUS.STOPPED : Fld := ⟨R.MRS_IRQ_STATUS, 5, 5⟩
abbrev MRS_IRQ_ENABLE.ENABLE : Fld := ⟨R.MRS_IRQ_ENABLE, 5, 0⟩
abbrev MRS_GROUPg_STATUS.LOAD (i : Nat) : Fld := ⟨R.MRS_GROUPg_STATUS i, 7, 0⟩
abbrev MRS_GROUPg_STATUS.LATE_RUN (i : Nat) : Fld := ⟨R.MRS_GROUPg_STATUS i, 15, 8⟩
abbrev MRS_GROUPg_STATUS.HEALTH (i : Nat) : Fld := ⟨R.MRS_GROUPg_STATUS i, 19, 16⟩
abbrev MRS_GROUPg_STATUS.BLOCKS (i : Nat) : Fld := ⟨R.MRS_GROUPg_STATUS i, 30, 20⟩
abbrev MRS_BLOCK_MAPj.GROUP0 (i : Nat) : Fld := ⟨R.MRS_BLOCK_MAPj i, 7, 0⟩
abbrev MRS_BLOCK_MAPj.GROUP1 (i : Nat) : Fld := ⟨R.MRS_BLOCK_MAPj i, 15, 8⟩
abbrev MRS_BLOCK_MAPj.GROUP2 (i : Nat) : Fld := ⟨R.MRS_BLOCK_MAPj i, 23, 16⟩
abbrev MRS_BLOCK_MAPj.GROUP3 (i : Nat) : Fld := ⟨R.MRS_BLOCK_MAPj i, 31, 24⟩
abbrev PGU_CTRL.CAL_REQ : Fld := ⟨R.PGU_CTRL, 0, 0⟩
abbrev PGU_CTRL.FAULT_CLR : Fld := ⟨R.PGU_CTRL, 1, 1⟩
abbrev PGU_CTRL.COUNT_CLR : Fld := ⟨R.PGU_CTRL, 2, 2⟩
abbrev PGU_STATUS.STATE : Fld := ⟨R.PGU_STATUS, 1, 0⟩
abbrev PGU_STATUS.PLL_LOCK : Fld := ⟨R.PGU_STATUS, 2, 2⟩
abbrev PGU_STATUS.DIAG_ACTIVE : Fld := ⟨R.PGU_STATUS, 3, 3⟩
abbrev PGU_STATUS.CODE : Fld := ⟨R.PGU_STATUS, 15, 8⟩
abbrev PGU_STATUS.DETAIL : Fld := ⟨R.PGU_STATUS, 23, 16⟩
abbrev PGU_TONE_CFG.K_CODE : Fld := ⟨R.PGU_TONE_CFG, 2, 0⟩
abbrev PGU_TONE_CFG.LEN : Fld := ⟨R.PGU_TONE_CFG, 30, 16⟩
abbrev PGU_STAGGER.S : Fld := ⟨R.PGU_STAGGER, 20, 0⟩
abbrev PGU_DAC_FS.FS : Fld := ⟨R.PGU_DAC_FS, 2, 0⟩
abbrev PGU_IQ_OFFSET.I_OFFSET : Fld := ⟨R.PGU_IQ_OFFSET, 9, 0⟩
abbrev PGU_IQ_OFFSET.Q_OFFSET : Fld := ⟨R.PGU_IQ_OFFSET, 25, 16⟩
abbrev PGU_IQ_GAIN.Q_GAIN : Fld := ⟨R.PGU_IQ_GAIN, 15, 0⟩
abbrev PGU_IQ_GAIN.Q_SKEW : Fld := ⟨R.PGU_IQ_GAIN, 31, 16⟩
abbrev PGU_GATEn_CFG.MODE (i : Nat) : Fld := ⟨R.PGU_GATEn_CFG i, 1, 0⟩
abbrev PGU_GATEn_CFG.POL (i : Nat) : Fld := ⟨R.PGU_GATEn_CFG i, 2, 2⟩
abbrev PGU_GATEn_CFG.DIAG_EN (i : Nat) : Fld := ⟨R.PGU_GATEn_CFG i, 3, 3⟩
abbrev PGU_GATEn_START.START (i : Nat) : Fld := ⟨R.PGU_GATEn_START i, 22, 0⟩
abbrev PGU_GATEn_WIDTH.WIDTH (i : Nat) : Fld := ⟨R.PGU_GATEn_WIDTH i, 14, 0⟩
abbrev PGU_DIAG_CFG.INTERVAL_EXP : Fld := ⟨R.PGU_DIAG_CFG, 4, 0⟩
abbrev PGU_CAL_CFG.GPIO : Fld := ⟨R.PGU_CAL_CFG, 3, 0⟩
abbrev PGU_CAL_CFG.POL : Fld := ⟨R.PGU_CAL_CFG, 4, 4⟩
abbrev PGU_CAL_CFG.GPIO_EN : Fld := ⟨R.PGU_CAL_CFG, 5, 5⟩
abbrev PGU_CAL_CFG.COUNT_EXP : Fld := ⟨R.PGU_CAL_CFG, 8, 6⟩
abbrev PGU_CAL_CFG.SETTLE : Fld := ⟨R.PGU_CAL_CFG, 15, 9⟩
abbrev PGU_CAL_CFG.INTERVAL : Fld := ⟨R.PGU_CAL_CFG, 31, 16⟩
abbrev PGU_CAL_STATUS.PHASE : Fld := ⟨R.PGU_CAL_STATUS, 2, 0⟩
abbrev PGU_CAL_STATUS.FRAMES_DONE : Fld := ⟨R.PGU_CAL_STATUS, 10, 3⟩
abbrev PGU_CAL_STATUS.SKIPPED : Fld := ⟨R.PGU_CAL_STATUS, 31, 16⟩
abbrev PGU_LAUNCH_CFG.OUT_EN : Fld := ⟨R.PGU_LAUNCH_CFG, 0, 0⟩
abbrev PGU_LAUNCH_CFG.OUT_POL : Fld := ⟨R.PGU_LAUNCH_CFG, 1, 1⟩
abbrev PGU_LAUNCH_CFG.IN_EDGE : Fld := ⟨R.PGU_LAUNCH_CFG, 2, 2⟩
abbrev PGU_LAUNCH_CFG.WIDTH : Fld := ⟨R.PGU_LAUNCH_CFG, 15, 8⟩
abbrev PGU_LAUNCH_CFG.DELAY : Fld := ⟨R.PGU_LAUNCH_CFG, 31, 16⟩
abbrev PGU_CLIP_COUNT.COUNT : Fld := ⟨R.PGU_CLIP_COUNT, 31, 0⟩
abbrev PGU_EVENT_COUNT.TRUNCATED : Fld := ⟨R.PGU_EVENT_COUNT, 15, 0⟩
abbrev PGU_EVENT_COUNT.DIAG_POSTPONED : Fld := ⟨R.PGU_EVENT_COUNT, 31, 16⟩
abbrev PGU_DIAG_COUNT.COUNT : Fld := ⟨R.PGU_DIAG_COUNT, 31, 0⟩
abbrev PGU_IRQ_STATUS.FAULT : Fld := ⟨R.PGU_IRQ_STATUS, 0, 0⟩
abbrev PGU_IRQ_STATUS.CAL_DONE : Fld := ⟨R.PGU_IRQ_STATUS, 1, 1⟩
abbrev PGU_IRQ_STATUS.CAL_ABORTED : Fld := ⟨R.PGU_IRQ_STATUS, 2, 2⟩
abbrev PGU_IRQ_STATUS.CLIP : Fld := ⟨R.PGU_IRQ_STATUS, 3, 3⟩
abbrev PGU_IRQ_STATUS.TRUNCATED : Fld := ⟨R.PGU_IRQ_STATUS, 4, 4⟩
abbrev PGU_IRQ_ENABLE.ENABLE : Fld := ⟨R.PGU_IRQ_ENABLE, 4, 0⟩
abbrev PGU_TONEk_FSTART.FSTART (i : Nat) : Fld := ⟨R.PGU_TONEk_FSTART i, 31, 0⟩
abbrev PGU_TONEk_RATE.RATE (i : Nat) : Fld := ⟨R.PGU_TONEk_RATE i, 31, 0⟩
abbrev PGU_TONEk_AMP.AMP (i : Nat) : Fld := ⟨R.PGU_TONEk_AMP i, 15, 0⟩
abbrev PGU_TONEk_AMP.PHASE0 (i : Nat) : Fld := ⟨R.PGU_TONEk_AMP i, 31, 16⟩
abbrev FAFE_CTRL.CAL_REQ : Fld := ⟨R.FAFE_CTRL, 0, 0⟩
abbrev FAFE_CTRL.COUNT_CLR : Fld := ⟨R.FAFE_CTRL, 1, 1⟩
abbrev FAFE_CTRL.STEPCAL_REQ : Fld := ⟨R.FAFE_CTRL, 2, 2⟩
abbrev FAFE_CTRL.FAULT_CLR : Fld := ⟨R.FAFE_CTRL, 3, 3⟩
abbrev FAFE_STATUS.STATE : Fld := ⟨R.FAFE_STATUS, 1, 0⟩
abbrev FAFE_STATUS.STEPCAL_VALID : Fld := ⟨R.FAFE_STATUS, 2, 2⟩
abbrev FAFE_STATUS.CODE : Fld := ⟨R.FAFE_STATUS, 15, 8⟩
abbrev FAFE_STATUS.DETAIL : Fld := ⟨R.FAFE_STATUS, 23, 16⟩
abbrev FAFE_CFG.CONV_EN : Fld := ⟨R.FAFE_CFG, 3, 0⟩
abbrev FAFE_CFG.BLANK_IN_EN : Fld := ⟨R.FAFE_CFG, 4, 4⟩
abbrev FAFE_CFG.BLANK_IN_POL : Fld := ⟨R.FAFE_CFG, 5, 5⟩
abbrev FAFE_CFG.FIXED_CODE : Fld := ⟨R.FAFE_CFG, 8, 6⟩
abbrev FAFE_CFG.PROFILE_EN : Fld := ⟨R.FAFE_CFG, 9, 9⟩
abbrev FAFE_PROFILE_COUNT.N : Fld := ⟨R.FAFE_PROFILE_COUNT, 4, 0⟩
abbrev FAFE_BLANKn_POS.POS (i : Nat) : Fld := ⟨R.FAFE_BLANKn_POS i, 20, 0⟩
abbrev FAFE_BLANKn_LEN.LEN (i : Nat) : Fld := ⟨R.FAFE_BLANKn_LEN i, 15, 0⟩
abbrev FAFE_BLANKn_LEN.MASK (i : Nat) : Fld := ⟨R.FAFE_BLANKn_LEN i, 19, 16⟩
abbrev FAFE_SAT_COUNTn.COUNT (i : Nat) : Fld := ⟨R.FAFE_SAT_COUNTn i, 31, 0⟩
abbrev FAFE_CALn.OFFSET (i : Nat) : Fld := ⟨R.FAFE_CALn i, 15, 0⟩
abbrev FAFE_CALn.SKEW (i : Nat) : Fld := ⟨R.FAFE_CALn i, 31, 16⟩
abbrev FAFE_STEPi.U (i : Nat) : Fld := ⟨R.FAFE_STEPi i, 20, 0⟩
abbrev FAFE_STEPi.CODE (i : Nat) : Fld := ⟨R.FAFE_STEPi i, 26, 24⟩
abbrev FAFE_IRQ_STATUS.CAL_DONE : Fld := ⟨R.FAFE_IRQ_STATUS, 0, 0⟩
abbrev FAFE_IRQ_STATUS.FAULT : Fld := ⟨R.FAFE_IRQ_STATUS, 1, 1⟩
abbrev FAFE_IRQ_STATUS.SATURATED : Fld := ⟨R.FAFE_IRQ_STATUS, 2, 2⟩
abbrev FAFE_IRQ_STATUS.STEPCAL_DONE : Fld := ⟨R.FAFE_IRQ_STATUS, 3, 3⟩
abbrev FAFE_IRQ_ENABLE.ENABLE : Fld := ⟨R.FAFE_IRQ_ENABLE, 3, 0⟩
abbrev FAFE_STEPCALc_X.FACTOR (i : Nat) : Fld := ⟨R.FAFE_STEPCALc_X i, 31, 0⟩
abbrev FAFE_STEPCALc_Y.FACTOR (i : Nat) : Fld := ⟨R.FAFE_STEPCALc_Y i, 31, 0⟩
abbrev DDC_CORRc_X.RE (i : Nat) : Fld := ⟨R.DDC_CORRc_X i, 15, 0⟩
abbrev DDC_CORRc_X.IM (i : Nat) : Fld := ⟨R.DDC_CORRc_X i, 31, 16⟩
abbrev DDC_CORRc_Y.RE (i : Nat) : Fld := ⟨R.DDC_CORRc_Y i, 15, 0⟩
abbrev DDC_CORRc_Y.IM (i : Nat) : Fld := ⟨R.DDC_CORRc_Y i, 31, 16⟩
abbrev DDC_TONEk_NCO.NCO (i : Nat) : Fld := ⟨R.DDC_TONEk_NCO i, 31, 0⟩
abbrev PCX_CTRL.TF_LOAD : Fld := ⟨R.PCX_CTRL, 0, 0⟩
abbrev PCX_CTRL.TF_COMMIT : Fld := ⟨R.PCX_CTRL, 1, 1⟩
abbrev PCX_CTRL.TF_DISCARD : Fld := ⟨R.PCX_CTRL, 2, 2⟩
abbrev PCX_CTRL.COUNT_CLR : Fld := ⟨R.PCX_CTRL, 3, 3⟩
abbrev PCX_CTRL.FAULT_CLR : Fld := ⟨R.PCX_CTRL, 4, 4⟩
abbrev PCX_STATUS.STATE : Fld := ⟨R.PCX_STATUS, 1, 0⟩
abbrev PCX_STATUS.TF_STATE : Fld := ⟨R.PCX_STATUS, 3, 2⟩
abbrev PCX_STATUS.CODE : Fld := ⟨R.PCX_STATUS, 15, 8⟩
abbrev PCX_STATUS.DETAIL : Fld := ⟨R.PCX_STATUS, 23, 16⟩
abbrev PCX_RANGE.FIRST_BIN : Fld := ⟨R.PCX_RANGE, 17, 0⟩
abbrev PCX_COUNT.COUNT : Fld := ⟨R.PCX_COUNT, 18, 0⟩
abbrev PCX_TF_CFG.AUTO_APPLY : Fld := ⟨R.PCX_TF_CFG, 0, 0⟩
abbrev PCX_TF_SOURCE.SOURCE : Fld := ⟨R.PCX_TF_SOURCE, 31, 0⟩
abbrev PCX_TF_STAGE_SRC.SOURCE : Fld := ⟨R.PCX_TF_STAGE_SRC, 31, 0⟩
abbrev PCX_TF_DELAY.DELAY : Fld := ⟨R.PCX_TF_DELAY, 23, 0⟩
abbrev PCX_RAY_CFG.PHASE_EN : Fld := ⟨R.PCX_RAY_CFG, 0, 0⟩
abbrev PCX_RAY_CFG.STRAIN_EN : Fld := ⟨R.PCX_RAY_CFG, 1, 1⟩
abbrev PCX_RAY_CFG.LEGACY_EN : Fld := ⟨R.PCX_RAY_CFG, 2, 2⟩
abbrev PCX_RAY_CFG.H : Fld := ⟨R.PCX_RAY_CFG, 6, 4⟩
abbrev PCX_RAY_CFG.ALPHA_EXP : Fld := ⟨R.PCX_RAY_CFG, 11, 8⟩
abbrev PCX_RAY_CFG.LEGACY_TONE : Fld := ⟨R.PCX_RAY_CFG, 15, 12⟩
abbrev PCX_RAY_CFG.FADE_FLOOR : Fld := ⟨R.PCX_RAY_CFG, 23, 16⟩
abbrev PCX_RAY_LAMBDA.LAMBDA : Fld := ⟨R.PCX_RAY_LAMBDA, 20, 0⟩
abbrev PCX_RAY_XI.XI : Fld := ⟨R.PCX_RAY_XI, 16, 0⟩
abbrev PCX_RAY_SLEW.LIMIT : Fld := ⟨R.PCX_RAY_SLEW, 15, 0⟩
abbrev PCX_GAUGE.G : Fld := ⟨R.PCX_GAUGE, 6, 0⟩
abbrev PCX_CSR.C_SR : Fld := ⟨R.PCX_CSR, 31, 0⟩
abbrev PCX_OVF_COUNT.COUNT : Fld := ⟨R.PCX_OVF_COUNT, 31, 0⟩
abbrev PCX_EVENT_COUNT.REJECTED : Fld := ⟨R.PCX_EVENT_COUNT, 15, 0⟩
abbrev PCX_EVENT_COUNT.BUSY : Fld := ⟨R.PCX_EVENT_COUNT, 31, 16⟩
abbrev PCX_IRQ_STATUS.TF_STAGED : Fld := ⟨R.PCX_IRQ_STATUS, 0, 0⟩
abbrev PCX_IRQ_STATUS.TF_APPLIED : Fld := ⟨R.PCX_IRQ_STATUS, 1, 1⟩
abbrev PCX_IRQ_STATUS.TF_REJECTED : Fld := ⟨R.PCX_IRQ_STATUS, 2, 2⟩
abbrev PCX_IRQ_STATUS.FAULT : Fld := ⟨R.PCX_IRQ_STATUS, 3, 3⟩
abbrev PCX_IRQ_STATUS.OVERFLOW : Fld := ⟨R.PCX_IRQ_STATUS, 4, 4⟩
abbrev PCX_IRQ_ENABLE.ENABLE : Fld := ⟨R.PCX_IRQ_ENABLE, 4, 0⟩
abbrev PCX_TF_DIFFk.DELAY (i : Nat) : Fld := ⟨R.PCX_TF_DIFFk i, 23, 0⟩
abbrev PCX_TF_DIFFk.RHO (i : Nat) : Fld := ⟨R.PCX_TF_DIFFk i, 31, 24⟩
abbrev PCX_TF_STAGEk_q.RE (i : Nat) (j : Nat) : Fld := ⟨R.PCX_TF_STAGEk_q i j, 15, 0⟩
abbrev PCX_TF_STAGEk_q.IM (i : Nat) (j : Nat) : Fld := ⟨R.PCX_TF_STAGEk_q i j, 31, 16⟩
abbrev PCX_TF_ACTIVEk_q.RE (i : Nat) (j : Nat) : Fld := ⟨R.PCX_TF_ACTIVEk_q i j, 15, 0⟩
abbrev PCX_TF_ACTIVEk_q.IM (i : Nat) (j : Nat) : Fld := ⟨R.PCX_TF_ACTIVEk_q i j, 31, 16⟩
abbrev MAFE_CTRL.CAL_REQ : Fld := ⟨R.MAFE_CTRL, 0, 0⟩
abbrev MAFE_CTRL.COUNT_CLR : Fld := ⟨R.MAFE_CTRL, 1, 1⟩
abbrev MAFE_CTRL.STEPCAL_REQ : Fld := ⟨R.MAFE_CTRL, 2, 2⟩
abbrev MAFE_CTRL.FAULT_CLR : Fld := ⟨R.MAFE_CTRL, 3, 3⟩
abbrev MAFE_STATUS.STATE : Fld := ⟨R.MAFE_STATUS, 1, 0⟩
abbrev MAFE_STATUS.STEPCAL_VALID : Fld := ⟨R.MAFE_STATUS, 2, 2⟩
abbrev MAFE_STATUS.CODE : Fld := ⟨R.MAFE_STATUS, 15, 8⟩
abbrev MAFE_STATUS.DETAIL : Fld := ⟨R.MAFE_STATUS, 23, 16⟩
abbrev MAFE_CFG.CH_EN : Fld := ⟨R.MAFE_CFG, 3, 0⟩
abbrev MAFE_CFG.RANGE : Fld := ⟨R.MAFE_CFG, 7, 4⟩
abbrev MAFE_CFG.BLANK_FOLLOW : Fld := ⟨R.MAFE_CFG, 8, 8⟩
abbrev MAFE_SAT_COUNTn.COUNT (i : Nat) : Fld := ⟨R.MAFE_SAT_COUNTn i, 31, 0⟩
abbrev MAFE_CALn.OFFSET (i : Nat) : Fld := ⟨R.MAFE_CALn i, 15, 0⟩
abbrev MAFE_IRQ_STATUS.CAL_DONE : Fld := ⟨R.MAFE_IRQ_STATUS, 0, 0⟩
abbrev MAFE_IRQ_STATUS.FAULT : Fld := ⟨R.MAFE_IRQ_STATUS, 1, 1⟩
abbrev MAFE_IRQ_STATUS.SATURATED : Fld := ⟨R.MAFE_IRQ_STATUS, 2, 2⟩
abbrev MAFE_IRQ_STATUS.STEPCAL_DONE : Fld := ⟨R.MAFE_IRQ_STATUS, 3, 3⟩
abbrev MAFE_IRQ_ENABLE.ENABLE : Fld := ⟨R.MAFE_IRQ_ENABLE, 3, 0⟩
abbrev GEA_CTRL.HALT_REQ : Fld := ⟨R.GEA_CTRL, 0, 0⟩
abbrev GEA_CTRL.RESUME : Fld := ⟨R.GEA_CTRL, 1, 1⟩
abbrev GEA_CTRL.FAULT_CLR : Fld := ⟨R.GEA_CTRL, 2, 2⟩
abbrev GEA_CTRL.DOORBELL : Fld := ⟨R.GEA_CTRL, 3, 3⟩
abbrev GEA_CTRL.COUNT_CLR : Fld := ⟨R.GEA_CTRL, 4, 4⟩
abbrev GEA_SEL_LO.SEL : Fld := ⟨R.GEA_SEL_LO, 31, 0⟩
abbrev GEA_SEL_HI.SEL : Fld := ⟨R.GEA_SEL_HI, 31, 0⟩
abbrev GEA_GROUPING.QUAD_FUSED : Fld := ⟨R.GEA_GROUPING, 15, 0⟩
abbrev GEA_GROUPING.TILE_FUSED : Fld := ⟨R.GEA_GROUPING, 19, 16⟩
abbrev GEA_GROUPING.ARRAY_FUSED : Fld := ⟨R.GEA_GROUPING, 20, 20⟩
abbrev GEA_USED_LO.USED : Fld := ⟨R.GEA_USED_LO, 31, 0⟩
abbrev GEA_USED_HI.USED : Fld := ⟨R.GEA_USED_HI, 31, 0⟩
abbrev GEA_ECC_CORR.COUNT : Fld := ⟨R.GEA_ECC_CORR, 31, 0⟩
abbrev GEA_ECC_ADDR.OFFSET : Fld := ⟨R.GEA_ECC_ADDR, 25, 0⟩
abbrev GEA_ECC_ADDR.UNCORR : Fld := ⟨R.GEA_ECC_ADDR, 31, 31⟩
abbrev GEA_IRQ_STATUS.FAULT : Fld := ⟨R.GEA_IRQ_STATUS, 0, 0⟩
abbrev GEA_IRQ_STATUS.HALTED : Fld := ⟨R.GEA_IRQ_STATUS, 1, 1⟩
abbrev GEA_IRQ_STATUS.ECC_CORR : Fld := ⟨R.GEA_IRQ_STATUS, 2, 2⟩
abbrev GEA_IRQ_STATUS.ECC_UNCORR : Fld := ⟨R.GEA_IRQ_STATUS, 3, 3⟩
abbrev GEA_IRQ_STATUS.IMEM_WRITE : Fld := ⟨R.GEA_IRQ_STATUS, 4, 4⟩
abbrev GEA_IRQ_ENABLE.ENABLE : Fld := ⟨R.GEA_IRQ_ENABLE, 4, 0⟩
abbrev GEA_ENGk_STATE.STATE (i : Nat) : Fld := ⟨R.GEA_ENGk_STATE i, 2, 0⟩
abbrev GEA_ENGk_STATE.BANK (i : Nat) : Fld := ⟨R.GEA_ENGk_STATE i, 3, 3⟩
abbrev GEA_ENGk_STATE.CODE (i : Nat) : Fld := ⟨R.GEA_ENGk_STATE i, 15, 8⟩
abbrev GEA_ENGk_STATE.PC (i : Nat) : Fld := ⟨R.GEA_ENGk_STATE i, 27, 16⟩
abbrev ZNT_CTRL.COUNT_CLR : Fld := ⟨R.ZNT_CTRL, 0, 0⟩
abbrev ZNT_CTRL.FAULT_CLR : Fld := ⟨R.ZNT_CTRL, 1, 1⟩
abbrev ZNT_CTRL.STATS_RESET : Fld := ⟨R.ZNT_CTRL, 2, 2⟩
abbrev ZNT_STATUS.STATE : Fld := ⟨R.ZNT_STATUS, 1, 0⟩
abbrev ZNT_STATUS.CODE : Fld := ⟨R.ZNT_STATUS, 15, 8⟩
abbrev ZNT_STATUS.DETAIL : Fld := ⟨R.ZNT_STATUS, 31, 16⟩
abbrev ZNT_CFG.STATS_CHANNEL : Fld := ⟨R.ZNT_CFG, 4, 0⟩
abbrev ZNT_CFG.STATS_EN : Fld := ⟨R.ZNT_CFG, 5, 5⟩
abbrev ZNT_STATE_BASE.OFFSET : Fld := ⟨R.ZNT_STATE_BASE, 21, 0⟩
abbrev ZNT_STATE_BASE.TILE : Fld := ⟨R.ZNT_STATE_BASE, 23, 22⟩
abbrev ZNT_STATE_BYTES.BYTES : Fld := ⟨R.ZNT_STATE_BYTES, 22, 0⟩
abbrev ZNT_BANDS.NB : Fld := ⟨R.ZNT_BANDS, 2, 0⟩
abbrev ZNT_ZONE_COUNT.ZONES : Fld := ⟨R.ZNT_ZONE_COUNT, 12, 0⟩
abbrev ZNT_WATCHED.BINS : Fld := ⟨R.ZNT_WATCHED, 18, 0⟩
abbrev ZNT_SEL.ZONE : Fld := ⟨R.ZNT_SEL, 11, 0⟩
abbrev ZNT_SEL.BAND : Fld := ⟨R.ZNT_SEL, 13, 12⟩
abbrev ZNT_ZINFO.KIND : Fld := ⟨R.ZNT_ZINFO, 1, 0⟩
abbrev ZNT_ZINFO.DEPTH : Fld := ⟨R.ZNT_ZINFO, 5, 2⟩
abbrev ZNT_ZINFO.PARENT : Fld := ⟨R.ZNT_ZINFO, 17, 6⟩
abbrev ZNT_ZINFO.ROOT : Fld := ⟨R.ZNT_ZINFO, 18, 18⟩
abbrev ZNT_ZINFO.BAND_MASK : Fld := ⟨R.ZNT_ZINFO, 22, 19⟩
abbrev ZNT_ZINFO.BG_EXP : Fld := ⟨R.ZNT_ZINFO, 26, 23⟩
abbrev ZNT_ZBG.BG_RMS : Fld := ⟨R.ZNT_ZBG, 31, 0⟩
abbrev ZNT_ZRMS.RMS : Fld := ⟨R.ZNT_ZRMS, 31, 0⟩
abbrev ZNT_CHANGE_COUNT.APPLIED : Fld := ⟨R.ZNT_CHANGE_COUNT, 15, 0⟩
abbrev ZNT_CHANGE_COUNT.REFUSED : Fld := ⟨R.ZNT_CHANGE_COUNT, 31, 16⟩
abbrev ZNT_IRQ_STATUS.FAULT : Fld := ⟨R.ZNT_IRQ_STATUS, 0, 0⟩
abbrev ZNT_IRQ_STATUS.CHANGE_APPLIED : Fld := ⟨R.ZNT_IRQ_STATUS, 1, 1⟩
abbrev ZNT_IRQ_STATUS.CHANGE_REFUSED : Fld := ⟨R.ZNT_IRQ_STATUS, 2, 2⟩
abbrev ZNT_IRQ_STATUS.E_SAT : Fld := ⟨R.ZNT_IRQ_STATUS, 3, 3⟩
abbrev ZNT_IRQ_ENABLE.ENABLE : Fld := ⟨R.ZNT_IRQ_ENABLE, 3, 0⟩
abbrev ZNT_BANDq_COEFi.COEF (i : Nat) (j : Nat) : Fld := ⟨R.ZNT_BANDq_COEFi i j, 31, 0⟩
abbrev STU_CTRL.COUNT_CLR : Fld := ⟨R.STU_CTRL, 0, 0⟩
abbrev STU_CTRL.FAULT_CLR : Fld := ⟨R.STU_CTRL, 1, 1⟩
abbrev STU_STATUS.STATE : Fld := ⟨R.STU_STATUS, 1, 0⟩
abbrev STU_STATUS.CODE : Fld := ⟨R.STU_STATUS, 15, 8⟩
abbrev STU_STATUS.DETAIL : Fld := ⟨R.STU_STATUS, 31, 16⟩
abbrev STU_CFG.CAPTURE_CHANNEL : Fld := ⟨R.STU_CFG, 4, 0⟩
abbrev STU_CFG.CAPTURE_EN : Fld := ⟨R.STU_CFG, 5, 5⟩
abbrev STU_CFG.EVENT_CHANNEL : Fld := ⟨R.STU_CFG, 12, 8⟩
abbrev STU_CFG.EVENT_EN : Fld := ⟨R.STU_CFG, 13, 13⟩
abbrev STU_CMD.RECORD : Fld := ⟨R.STU_CMD, 5, 0⟩
abbrev STU_CMD.OP : Fld := ⟨R.STU_CMD, 10, 8⟩
abbrev STU_CMD.USE_ARGS : Fld := ⟨R.STU_CMD, 11, 11⟩
abbrev STU_ARG_PRE.PRE : Fld := ⟨R.STU_ARG_PRE, 23, 0⟩
abbrev STU_ARG_POST.POST : Fld := ⟨R.STU_ARG_POST, 23, 0⟩
abbrev STU_ARG_LEN.ROWS : Fld := ⟨R.STU_ARG_LEN, 23, 0⟩
abbrev STU_RESULT.CODE : Fld := ⟨R.STU_RESULT, 7, 0⟩
abbrev STU_RESULT.RECORD : Fld := ⟨R.STU_RESULT, 13, 8⟩
abbrev STU_MISSED_COUNT.COUNT : Fld := ⟨R.STU_MISSED_COUNT, 31, 0⟩
abbrev STU_DEAD_COUNT.COUNT : Fld := ⟨R.STU_DEAD_COUNT, 31, 0⟩
abbrev STU_DROPPED_COUNT.COUNT : Fld := ⟨R.STU_DROPPED_COUNT, 31, 0⟩
abbrev STU_LOST_COUNT.COUNT : Fld := ⟨R.STU_LOST_COUNT, 31, 0⟩
abbrev STU_IRQ_STATUS.FAULT : Fld := ⟨R.STU_IRQ_STATUS, 0, 0⟩
abbrev STU_IRQ_STATUS.TRIGGERED : Fld := ⟨R.STU_IRQ_STATUS, 1, 1⟩
abbrev STU_IRQ_STATUS.CAPTURE_DONE : Fld := ⟨R.STU_IRQ_STATUS, 2, 2⟩
abbrev STU_IRQ_STATUS.MISSED : Fld := ⟨R.STU_IRQ_STATUS, 3, 3⟩
abbrev STU_IRQ_STATUS.DEAD : Fld := ⟨R.STU_IRQ_STATUS, 4, 4⟩
abbrev STU_IRQ_STATUS.CAPTURE_LOST : Fld := ⟨R.STU_IRQ_STATUS, 5, 5⟩
abbrev STU_IRQ_ENABLE.ENABLE : Fld := ⟨R.STU_IRQ_ENABLE, 5, 0⟩
abbrev STU_SEL.ZONE : Fld := ⟨R.STU_SEL, 11, 0⟩
abbrev STU_ZSTATE.STATE : Fld := ⟨R.STU_ZSTATE, 2, 0⟩
abbrev STU_ZSTATE.DEAD_NOW : Fld := ⟨R.STU_ZSTATE, 3, 3⟩
abbrev STU_ZSTATE.NO_PROGRAM : Fld := ⟨R.STU_ZSTATE, 4, 4⟩
abbrev STU_ZSTATE.DEAD : Fld := ⟨R.STU_ZSTATE, 31, 16⟩
abbrev STU_ZCOUNT.COUNTER0 : Fld := ⟨R.STU_ZCOUNT, 15, 0⟩
abbrev STU_ZCOUNT.COUNTER1 : Fld := ⟨R.STU_ZCOUNT, 31, 16⟩
abbrev STU_ZTIMER.TIMER0 : Fld := ⟨R.STU_ZTIMER, 15, 0⟩
abbrev STU_ZTIMER.TIMER1 : Fld := ⟨R.STU_ZTIMER, 31, 16⟩
abbrev STU_RECr_STATE.STATE (i : Nat) : Fld := ⟨R.STU_RECr_STATE i, 2, 0⟩
abbrev STU_RECr_STATE.LEN_PENDING (i : Nat) : Fld := ⟨R.STU_RECr_STATE i, 3, 3⟩
abbrev STU_RECr_STATE.REARM_CANCELLED (i : Nat) : Fld := ⟨R.STU_RECr_STATE i, 4, 4⟩
abbrev STU_RECr_STATE.LENGTH (i : Nat) : Fld := ⟨R.STU_RECr_STATE i, 31, 8⟩
abbrev TCE_CTRL.COUNT_CLR : Fld := ⟨R.TCE_CTRL, 0, 0⟩
abbrev TCE_CTRL.FAULT_CLR : Fld := ⟨R.TCE_CTRL, 1, 1⟩
abbrev TCE_STATUS.STATE : Fld := ⟨R.TCE_STATUS, 1, 0⟩
abbrev TCE_STATUS.CODE : Fld := ⟨R.TCE_STATUS, 15, 8⟩
abbrev TCE_STATUS.DETAIL : Fld := ⟨R.TCE_STATUS, 31, 16⟩
abbrev TCE_BLOCK_COUNT.COUNT : Fld := ⟨R.TCE_BLOCK_COUNT, 31, 0⟩
abbrev TCE_RAW_COUNT.COUNT : Fld := ⟨R.TCE_RAW_COUNT, 31, 0⟩
abbrev TCE_VERIFY_COUNT.COUNT : Fld := ⟨R.TCE_VERIFY_COUNT, 31, 0⟩
abbrev TCE_STALL_CYCLES_LO.CYCLES_LO : Fld := ⟨R.TCE_STALL_CYCLES_LO, 31, 0⟩
abbrev TCE_STALL_CYCLES_HI.CYCLES_HI : Fld := ⟨R.TCE_STALL_CYCLES_HI, 31, 0⟩
abbrev TCE_DROP_COUNT.COUNT : Fld := ⟨R.TCE_DROP_COUNT, 31, 0⟩
abbrev TCE_IRQ_STATUS.FAULT : Fld := ⟨R.TCE_IRQ_STATUS, 0, 0⟩
abbrev TCE_IRQ_STATUS.VERIFY_FAIL : Fld := ⟨R.TCE_IRQ_STATUS, 1, 1⟩
abbrev TCE_IRQ_STATUS.RAW : Fld := ⟨R.TCE_IRQ_STATUS, 2, 2⟩
abbrev TCE_IRQ_STATUS.DROP : Fld := ⟨R.TCE_IRQ_STATUS, 3, 3⟩
abbrev TCE_IRQ_ENABLE.ENABLE : Fld := ⟨R.TCE_IRQ_ENABLE, 3, 0⟩
abbrev TCE_CHc_CFG.ARCHIVE_EN (i : Nat) : Fld := ⟨R.TCE_CHc_CFG i, 0, 0⟩
abbrev TCE_CHc_CFG.RATIO (i : Nat) : Fld := ⟨R.TCE_CHc_CFG i, 2, 1⟩
abbrev TCE_CHc_CFG.EFFORT (i : Nat) : Fld := ⟨R.TCE_CHc_CFG i, 5, 3⟩
abbrev TCE_CHc_CFG.GEOM (i : Nat) : Fld := ⟨R.TCE_CHc_CFG i, 6, 6⟩
abbrev TCE_CHc_CFG.BIN_EXP (i : Nat) : Fld := ⟨R.TCE_CHc_CFG i, 10, 7⟩
abbrev TCE_CHc_CFG.QW_MODE (i : Nat) : Fld := ⟨R.TCE_CHc_CFG i, 12, 11⟩
abbrev TCE_CHc_BOUND.E (i : Nat) : Fld := ⟨R.TCE_CHc_BOUND i, 23, 0⟩
abbrev TCE_CHc_STEP.LADDER (i : Nat) : Fld := ⟨R.TCE_CHc_STEP i, 6, 0⟩
abbrev TCE_CHc_STEP.QSTEP (i : Nat) : Fld := ⟨R.TCE_CHc_STEP i, 31, 8⟩
abbrev ANC_CTRL.FORMAT : Fld := ⟨R.ANC_CTRL, 0, 0⟩
abbrev ANC_CTRL.COMMIT_NOW : Fld := ⟨R.ANC_CTRL, 1, 1⟩
abbrev ANC_CTRL.PATROL_NOW : Fld := ⟨R.ANC_CTRL, 2, 2⟩
abbrev ANC_CTRL.COUNT_CLR : Fld := ⟨R.ANC_CTRL, 3, 3⟩
abbrev ANC_CTRL.FAULT_CLR : Fld := ⟨R.ANC_CTRL, 4, 4⟩
abbrev ANC_STATUS.STATE : Fld := ⟨R.ANC_STATUS, 2, 0⟩
abbrev ANC_STATUS.PWRFAIL : Fld := ⟨R.ANC_STATUS, 3, 3⟩
abbrev ANC_STATUS.CODE : Fld := ⟨R.ANC_STATUS, 15, 8⟩
abbrev ANC_STATUS.DETAIL : Fld := ⟨R.ANC_STATUS, 31, 16⟩
abbrev ANC_FORMAT_KEY.KEY : Fld := ⟨R.ANC_FORMAT_KEY, 31, 0⟩
abbrev ANC_GEOM0.TARGETS : Fld := ⟨R.ANC_GEOM0, 7, 0⟩
abbrev ANC_GEOM0.LUNS : Fld := ⟨R.ANC_GEOM0, 9, 8⟩
abbrev ANC_GEOM0.PLANES : Fld := ⟨R.ANC_GEOM0, 10, 10⟩
abbrev ANC_GEOM0.PAGE : Fld := ⟨R.ANC_GEOM0, 11, 11⟩
abbrev ANC_GEOM0.PAGES : Fld := ⟨R.ANC_GEOM0, 27, 16⟩
abbrev ANC_GEOM1.BLOCKS : Fld := ⟨R.ANC_GEOM1, 16, 0⟩
abbrev ANC_GEOM1.BUS : Fld := ⟨R.ANC_GEOM1, 19, 17⟩
abbrev ANC_ENDURANCE.CYCLES : Fld := ⟨R.ANC_ENDURANCE, 23, 0⟩
abbrev ANC_NEXT_SEQ_LO.SEQ : Fld := ⟨R.ANC_NEXT_SEQ_LO, 31, 0⟩
abbrev ANC_NEXT_SEQ_HI.SEQ : Fld := ⟨R.ANC_NEXT_SEQ_HI, 31, 0⟩
abbrev ANC_COMMIT_SEQ_LO.SEQ : Fld := ⟨R.ANC_COMMIT_SEQ_LO, 31, 0⟩
abbrev ANC_COMMIT_SEQ_HI.SEQ : Fld := ⟨R.ANC_COMMIT_SEQ_HI, 31, 0⟩
abbrev ANC_OLDEST_SEQ_LO.SEQ : Fld := ⟨R.ANC_OLDEST_SEQ_LO, 31, 0⟩
abbrev ANC_OLDEST_SEQ_HI.SEQ : Fld := ⟨R.ANC_OLDEST_SEQ_HI, 31, 0⟩
abbrev ANC_FREE.BLOCKS : Fld := ⟨R.ANC_FREE, 21, 0⟩
abbrev ANC_BAD.FACTORY : Fld := ⟨R.ANC_BAD, 15, 0⟩
abbrev ANC_BAD.GROWN : Fld := ⟨R.ANC_BAD, 31, 16⟩
abbrev ANC_ERASE_MAX.COUNT : Fld := ⟨R.ANC_ERASE_MAX, 23, 0⟩
abbrev ANC_ERASE_MIN.COUNT : Fld := ⟨R.ANC_ERASE_MIN, 23, 0⟩
abbrev ANC_UNCOMMITTED.KIB : Fld := ⟨R.ANC_UNCOMMITTED, 16, 0⟩
abbrev ANC_REPAIRED.COUNT : Fld := ⟨R.ANC_REPAIRED, 31, 0⟩
abbrev ANC_CORRUPT.COUNT : Fld := ⟨R.ANC_CORRUPT, 31, 0⟩
abbrev ANC_MOVED.COUNT : Fld := ⟨R.ANC_MOVED, 31, 0⟩
abbrev ANC_CORR_MAX.BITS : Fld := ⟨R.ANC_CORR_MAX, 6, 0⟩
abbrev ANC_PATROL.NEXT : Fld := ⟨R.ANC_PATROL, 20, 0⟩
abbrev ANC_PATROL.BEHIND : Fld := ⟨R.ANC_PATROL, 31, 31⟩
abbrev ANC_DROP.COUNT : Fld := ⟨R.ANC_DROP, 31, 0⟩
abbrev ANC_IRQ_STATUS.FAULT : Fld := ⟨R.ANC_IRQ_STATUS, 0, 0⟩
abbrev ANC_IRQ_STATUS.MOUNTED : Fld := ⟨R.ANC_IRQ_STATUS, 1, 1⟩
abbrev ANC_IRQ_STATUS.CHECK_REPAIRED : Fld := ⟨R.ANC_IRQ_STATUS, 2, 2⟩
abbrev ANC_IRQ_STATUS.CORRUPT : Fld := ⟨R.ANC_IRQ_STATUS, 3, 3⟩
abbrev ANC_IRQ_STATUS.GROWN_BAD : Fld := ⟨R.ANC_IRQ_STATUS, 4, 4⟩
abbrev ANC_IRQ_STATUS.FULL : Fld := ⟨R.ANC_IRQ_STATUS, 5, 5⟩
abbrev ANC_IRQ_STATUS.HALTED : Fld := ⟨R.ANC_IRQ_STATUS, 6, 6⟩
abbrev ANC_IRQ_STATUS.JOURNAL_SHORT : Fld := ⟨R.ANC_IRQ_STATUS, 7, 7⟩
abbrev ANC_IRQ_ENABLE.ENABLE : Fld := ⟨R.ANC_IRQ_ENABLE, 7, 0⟩
abbrev ANC_POL0.RECORD_BLOCKS : Fld := ⟨R.ANC_POL0, 15, 0⟩
abbrev ANC_POL0.COMMIT_MIB : Fld := ⟨R.ANC_POL0, 23, 16⟩
abbrev ANC_POL0.STAGING_MIB : Fld := ⟨R.ANC_POL0, 31, 24⟩
abbrev ANC_POL1.COMMIT_MS : Fld := ⟨R.ANC_POL1, 15, 0⟩
abbrev ANC_POL1.CHECKPOINT_COMMITS : Fld := ⟨R.ANC_POL1, 31, 16⟩
abbrev ANC_POL2.FULL_POLICY : Fld := ⟨R.ANC_POL2, 0, 0⟩
abbrev ANC_POL2.MAX_RATE : Fld := ⟨R.ANC_POL2, 3, 1⟩
abbrev ANC_POL2.PATROL_DAYS : Fld := ⟨R.ANC_POL2, 15, 8⟩
abbrev ANC_POL2.REFRESH_BITS : Fld := ⟨R.ANC_POL2, 23, 16⟩
abbrev ANC_POL2.RESERVE : Fld := ⟨R.ANC_POL2, 31, 24⟩
abbrev ANC_POL3.RETENTION_DAYS : Fld := ⟨R.ANC_POL3, 15, 0⟩
abbrev ANC_POL3.WL_DELTA : Fld := ⟨R.ANC_POL3, 31, 16⟩
abbrev ANC_POL4.RD_LIMIT : Fld := ⟨R.ANC_POL4, 23, 0⟩
abbrev DMC_CTRL.INIT : Fld := ⟨R.DMC_CTRL, 0, 0⟩
abbrev DMC_CTRL.DRAM_RESET : Fld := ⟨R.DMC_CTRL, 1, 1⟩
abbrev DMC_CTRL.COUNT_CLR : Fld := ⟨R.DMC_CTRL, 2, 2⟩
abbrev DMC_CTRL.SCRUB_NOW : Fld := ⟨R.DMC_CTRL, 3, 3⟩
abbrev DMC_STATUS.STATE : Fld := ⟨R.DMC_STATUS, 2, 0⟩
abbrev DMC_STATUS.FROZEN : Fld := ⟨R.DMC_STATUS, 3, 3⟩
abbrev DMC_STATUS.CODE : Fld := ⟨R.DMC_STATUS, 15, 8⟩
abbrev DMC_STATUS.DETAIL : Fld := ⟨R.DMC_STATUS, 31, 16⟩
abbrev DMC_REF_STATUS.RATE0 : Fld := ⟨R.DMC_REF_STATUS, 2, 0⟩
abbrev DMC_REF_STATUS.RATE1 : Fld := ⟨R.DMC_REF_STATUS, 6, 4⟩
abbrev DMC_REF_STATUS.OWED0 : Fld := ⟨R.DMC_REF_STATUS, 11, 8⟩
abbrev DMC_REF_STATUS.OWED1 : Fld := ⟨R.DMC_REF_STATUS, 15, 12⟩
abbrev DMC_GEOM.DENSITY : Fld := ⟨R.DMC_GEOM, 1, 0⟩
abbrev DMC_GEOM.RANKS : Fld := ⟨R.DMC_GEOM, 2, 2⟩
abbrev DMC_GEOM.DATA_RATE : Fld := ⟨R.DMC_GEOM, 5, 3⟩
abbrev DMC_TIMING0.TRCD : Fld := ⟨R.DMC_TIMING0, 7, 0⟩
abbrev DMC_TIMING0.TRPPB : Fld := ⟨R.DMC_TIMING0, 15, 8⟩
abbrev DMC_TIMING0.TRPAB : Fld := ⟨R.DMC_TIMING0, 23, 16⟩
abbrev DMC_TIMING0.TRAS : Fld := ⟨R.DMC_TIMING0, 31, 24⟩
abbrev DMC_TIMING1.TFAW : Fld := ⟨R.DMC_TIMING1, 7, 0⟩
abbrev DMC_TIMING1.TRRD : Fld := ⟨R.DMC_TIMING1, 15, 8⟩
abbrev DMC_TIMING1.TWR : Fld := ⟨R.DMC_TIMING1, 23, 16⟩
abbrev DMC_TIMING1.TWTR : Fld := ⟨R.DMC_TIMING1, 31, 24⟩
abbrev DMC_TIMING2.RL : Fld := ⟨R.DMC_TIMING2, 7, 0⟩
abbrev DMC_TIMING2.WL : Fld := ⟨R.DMC_TIMING2, 15, 8⟩
abbrev DMC_TIMING2.TRTP : Fld := ⟨R.DMC_TIMING2, 19, 16⟩
abbrev DMC_TIMING2.TRFCAB : Fld := ⟨R.DMC_TIMING2, 29, 20⟩
abbrev DMC_TIMING3.TREFI : Fld := ⟨R.DMC_TIMING3, 11, 0⟩
abbrev DMC_TIMING3.TXSR : Fld := ⟨R.DMC_TIMING3, 21, 12⟩
abbrev DMC_REF_CFG.MODE : Fld := ⟨R.DMC_REF_CFG, 0, 0⟩
abbrev DMC_REF_CFG.FIXED_INTERVAL : Fld := ⟨R.DMC_REF_CFG, 15, 4⟩
abbrev DMC_REF_CFG.MR4_POLL : Fld := ⟨R.DMC_REF_CFG, 31, 16⟩
abbrev DMC_PAGE_CFG.HINTc : Fld := ⟨R.DMC_PAGE_CFG, 11, 0⟩
abbrev DMC_PAGE_CFG.IDLE_CLOSE : Fld := ⟨R.DMC_PAGE_CFG, 23, 16⟩
abbrev DMC_ECC_CFG.WRITEBACK : Fld := ⟨R.DMC_ECC_CFG, 0, 0⟩
abbrev DMC_ECC_CFG.SCRUB_EN : Fld := ⟨R.DMC_ECC_CFG, 1, 1⟩
abbrev DMC_ECC_CFG.PERIOD : Fld := ⟨R.DMC_ECC_CFG, 15, 8⟩
abbrev DMC_PASR.KEEP0 : Fld := ⟨R.DMC_PASR, 7, 0⟩
abbrev DMC_PASR.KEEP1 : Fld := ⟨R.DMC_PASR, 15, 8⟩
abbrev DMC_ECC_CORR.COUNT : Fld := ⟨R.DMC_ECC_CORR, 31, 0⟩
abbrev DMC_ECC_ADDR_LO.ADDR_LO : Fld := ⟨R.DMC_ECC_ADDR_LO, 31, 0⟩
abbrev DMC_ECC_ADDR_HI.ADDR_HI : Fld := ⟨R.DMC_ECC_ADDR_HI, 0, 0⟩
abbrev DMC_REF_FORCED.COUNT : Fld := ⟨R.DMC_REF_FORCED, 31, 0⟩
abbrev DMC_FRZ_CAUSE.CAUSE : Fld := ⟨R.DMC_FRZ_CAUSE, 2, 0⟩
abbrev DMC_FRZ_CAUSE.CLASS : Fld := ⟨R.DMC_FRZ_CAUSE, 5, 3⟩
abbrev DMC_FRZ_CAUSE.MR : Fld := ⟨R.DMC_FRZ_CAUSE, 15, 8⟩
abbrev DMC_FRZ_CAUSE.EXPECTED : Fld := ⟨R.DMC_FRZ_CAUSE, 23, 16⟩
abbrev DMC_FRZ_CAUSE.READ : Fld := ⟨R.DMC_FRZ_CAUSE, 31, 24⟩
abbrev DMC_FRZ_ADDR_LO.ADDR_LO : Fld := ⟨R.DMC_FRZ_ADDR_LO, 31, 0⟩
abbrev DMC_FRZ_ADDR_HI.ADDR_HI : Fld := ⟨R.DMC_FRZ_ADDR_HI, 0, 0⟩
abbrev DMC_FRZ_REQ.PATH : Fld := ⟨R.DMC_FRZ_REQ, 31, 0⟩
abbrev DMC_FRZ_SYND.SYNDROME : Fld := ⟨R.DMC_FRZ_SYND, 9, 0⟩
abbrev DMC_FRZ_SYND.TAG_DIFF : Fld := ⟨R.DMC_FRZ_SYND, 15, 10⟩
abbrev DMC_DIAG_ADDR_LO.ADDR_LO : Fld := ⟨R.DMC_DIAG_ADDR_LO, 31, 0⟩
abbrev DMC_DIAG_ADDR_HI.ADDR_HI : Fld := ⟨R.DMC_DIAG_ADDR_HI, 0, 0⟩
abbrev DMC_DIAG_CTRL.READ : Fld := ⟨R.DMC_DIAG_CTRL, 0, 0⟩
abbrev DMC_DIAG_CTRL.BUSY : Fld := ⟨R.DMC_DIAG_CTRL, 1, 1⟩
abbrev DMC_DIAG_CTRL.REFUSED : Fld := ⟨R.DMC_DIAG_CTRL, 2, 2⟩
abbrev DMC_DIAG_DATAi.DATA (i : Nat) : Fld := ⟨R.DMC_DIAG_DATAi i, 31, 0⟩
abbrev DMC_IRQ_STATUS.FROZEN : Fld := ⟨R.DMC_IRQ_STATUS, 0, 0⟩
abbrev DMC_IRQ_STATUS.ECC_CORR : Fld := ⟨R.DMC_IRQ_STATUS, 1, 1⟩
abbrev DMC_IRQ_STATUS.TEMP_HOT : Fld := ⟨R.DMC_IRQ_STATUS, 2, 2⟩
abbrev DMC_IRQ_STATUS.TEMP_LIMIT : Fld := ⟨R.DMC_IRQ_STATUS, 3, 3⟩
abbrev DMC_IRQ_STATUS.READY : Fld := ⟨R.DMC_IRQ_STATUS, 4, 4⟩
abbrev DMC_IRQ_ENABLE.ENABLE : Fld := ⟨R.DMC_IRQ_ENABLE, 4, 0⟩
abbrev DMC_HISTi_LO.CMD (i : Nat) : Fld := ⟨R.DMC_HISTi_LO i, 3, 0⟩
abbrev DMC_HISTi_LO.CHANNEL (i : Nat) : Fld := ⟨R.DMC_HISTi_LO i, 4, 4⟩
abbrev DMC_HISTi_LO.RANK (i : Nat) : Fld := ⟨R.DMC_HISTi_LO i, 5, 5⟩
abbrev DMC_HISTi_LO.BANK (i : Nat) : Fld := ⟨R.DMC_HISTi_LO i, 8, 6⟩
abbrev DMC_HISTi_LO.ROW (i : Nat) : Fld := ⟨R.DMC_HISTi_LO i, 25, 9⟩
abbrev DMC_HISTi_LO.COLUMN (i : Nat) : Fld := ⟨R.DMC_HISTi_LO i, 31, 26⟩
abbrev DMC_HISTi_HI.CLASS (i : Nat) : Fld := ⟨R.DMC_HISTi_HI i, 2, 0⟩
abbrev DMC_HISTi_HI.CYCLE (i : Nat) : Fld := ⟨R.DMC_HISTi_HI i, 31, 3⟩
abbrev CVU_CTRL.COUNT_CLR : Fld := ⟨R.CVU_CTRL, 0, 0⟩
abbrev CVU_IRQ_STATUS.DONE : Fld := ⟨R.CVU_IRQ_STATUS, 7, 0⟩
abbrev CVU_IRQ_STATUS.ERROR : Fld := ⟨R.CVU_IRQ_STATUS, 15, 8⟩
abbrev CVU_IRQ_ENABLE.ENABLE : Fld := ⟨R.CVU_IRQ_ENABLE, 15, 0⟩
abbrev CVU_REFUSED.COUNT : Fld := ⟨R.CVU_REFUSED, 31, 0⟩
abbrev CVU_CHn_CFG.POLY (i : Nat) : Fld := ⟨R.CVU_CHn_CFG i, 1, 0⟩
abbrev CVU_CHn_CFG.DATA_BYTES (i : Nat) : Fld := ⟨R.CVU_CHn_CFG i, 3, 2⟩
abbrev CVU_CHn_CMD.INIT (i : Nat) : Fld := ⟨R.CVU_CHn_CMD i, 0, 0⟩
abbrev CVU_CHn_CMD.GO (i : Nat) : Fld := ⟨R.CVU_CHn_CMD i, 1, 1⟩
abbrev CVU_CHn_CMD.ABORT (i : Nat) : Fld := ⟨R.CVU_CHn_CMD i, 2, 2⟩
abbrev CVU_CHn_DATA.DATA (i : Nat) : Fld := ⟨R.CVU_CHn_DATA i, 31, 0⟩
abbrev CVU_CHn_SRC_LO.ADDR_LO (i : Nat) : Fld := ⟨R.CVU_CHn_SRC_LO i, 31, 0⟩
abbrev CVU_CHn_SRC_HI.ADDR_HI (i : Nat) : Fld := ⟨R.CVU_CHn_SRC_HI i, 0, 0⟩
abbrev CVU_CHn_LEN.BYTES (i : Nat) : Fld := ⟨R.CVU_CHn_LEN i, 31, 0⟩
abbrev CVU_CHn_STATE_LO.STATE (i : Nat) : Fld := ⟨R.CVU_CHn_STATE_LO i, 31, 0⟩
abbrev CVU_CHn_STATE_HI.STATE (i : Nat) : Fld := ⟨R.CVU_CHn_STATE_HI i, 31, 0⟩
abbrev CVU_CHn_COUNT_LO.COUNT (i : Nat) : Fld := ⟨R.CVU_CHn_COUNT_LO i, 31, 0⟩
abbrev CVU_CHn_COUNT_HI.COUNT (i : Nat) : Fld := ⟨R.CVU_CHn_COUNT_HI i, 31, 0⟩
abbrev CVU_CHn_RESULT_LO.RESULT (i : Nat) : Fld := ⟨R.CVU_CHn_RESULT_LO i, 31, 0⟩
abbrev CVU_CHn_RESULT_HI.RESULT (i : Nat) : Fld := ⟨R.CVU_CHn_RESULT_HI i, 31, 0⟩
abbrev CVU_CHn_STATUS.BUSY (i : Nat) : Fld := ⟨R.CVU_CHn_STATUS i, 0, 0⟩
abbrev CVU_CHn_STATUS.CODE (i : Nat) : Fld := ⟨R.CVU_CHn_STATUS i, 15, 8⟩
abbrev TTU_CTRL.SET_NOW : Fld := ⟨R.TTU_CTRL, 0, 0⟩
abbrev TTU_CTRL.SET_AT_PPS : Fld := ⟨R.TTU_CTRL, 1, 1⟩
abbrev TTU_CTRL.CANCEL_SET : Fld := ⟨R.TTU_CTRL, 2, 2⟩
abbrev TTU_CTRL.COUNT_CLR : Fld := ⟨R.TTU_CTRL, 3, 3⟩
abbrev TTU_STATUS.LOCK_STATE : Fld := ⟨R.TTU_STATUS, 7, 0⟩
abbrev TTU_STATUS.REF_OK : Fld := ⟨R.TTU_STATUS, 8, 8⟩
abbrev TTU_STATUS.PPS_OK : Fld := ⟨R.TTU_STATUS, 9, 9⟩
abbrev TTU_STATUS.SET_PENDING : Fld := ⟨R.TTU_STATUS, 10, 10⟩
abbrev TTU_STATUS.OSC_VALID : Fld := ⟨R.TTU_STATUS, 11, 11⟩
abbrev TTU_STATUS.CODE : Fld := ⟨R.TTU_STATUS, 19, 12⟩
abbrev TTU_STATUS.DETAIL : Fld := ⟨R.TTU_STATUS, 29, 20⟩
abbrev TTU_REF_CFG.REF_EN : Fld := ⟨R.TTU_REF_CFG, 0, 0⟩
abbrev TTU_REF_CFG.REF_FREQ : Fld := ⟨R.TTU_REF_CFG, 1, 1⟩
abbrev TTU_REF_CFG.PPS_EN : Fld := ⟨R.TTU_REF_CFG, 2, 2⟩
abbrev TTU_REF_CFG.PPS_EDGE : Fld := ⟨R.TTU_REF_CFG, 3, 3⟩
abbrev TTU_REF_CFG.BW : Fld := ⟨R.TTU_REF_CFG, 7, 4⟩
abbrev TTU_REF_CFG.STEP_LIMIT : Fld := ⟨R.TTU_REF_CFG, 15, 8⟩
abbrev TTU_PPS_CFG.WIDTH : Fld := ⟨R.TTU_PPS_CFG, 15, 0⟩
abbrev TTU_PPS_CFG.OUT_EN : Fld := ⟨R.TTU_PPS_CFG, 16, 16⟩
abbrev TTU_PPS_CFG.OUT_POL : Fld := ⟨R.TTU_PPS_CFG, 17, 17⟩
abbrev TTU_HOLD_CFG.AVG_S : Fld := ⟨R.TTU_HOLD_CFG, 15, 0⟩
abbrev TTU_HOLD_CFG.LIMIT : Fld := ⟨R.TTU_HOLD_CFG, 31, 16⟩
abbrev TTU_SET_LO.NS_LO : Fld := ⟨R.TTU_SET_LO, 31, 0⟩
abbrev TTU_SET_HI.NS_HI : Fld := ⟨R.TTU_SET_HI, 31, 0⟩
abbrev TTU_NOW_LO.NS_LO : Fld := ⟨R.TTU_NOW_LO, 31, 0⟩
abbrev TTU_NOW_HI.NS_HI : Fld := ⟨R.TTU_NOW_HI, 31, 0⟩
abbrev TTU_NOW_FRAC.FRAC : Fld := ⟨R.TTU_NOW_FRAC, 8, 0⟩
abbrev TTU_PHASE_ERR.E : Fld := ⟨R.TTU_PHASE_ERR, 31, 0⟩
abbrev TTU_FREQ_OFFSET.STEER : Fld := ⟨R.TTU_FREQ_OFFSET, 31, 0⟩
abbrev TTU_OSC_OFFSET.OFFSET : Fld := ⟨R.TTU_OSC_OFFSET, 31, 0⟩
abbrev TTU_PPS_REJECT.COUNT : Fld := ⟨R.TTU_PPS_REJECT, 31, 0⟩
abbrev TTU_STEP_COUNT.COUNT : Fld := ⟨R.TTU_STEP_COUNT, 31, 0⟩
abbrev TTU_IRQ_STATUS.LOCK_CHANGE : Fld := ⟨R.TTU_IRQ_STATUS, 0, 0⟩
abbrev TTU_IRQ_STATUS.STEPPED : Fld := ⟨R.TTU_IRQ_STATUS, 1, 1⟩
abbrev TTU_IRQ_STATUS.REF_LOST : Fld := ⟨R.TTU_IRQ_STATUS, 2, 2⟩
abbrev TTU_IRQ_STATUS.PPS_LOST : Fld := ⟨R.TTU_IRQ_STATUS, 3, 3⟩
abbrev TTU_IRQ_STATUS.HOLD_LIMIT : Fld := ⟨R.TTU_IRQ_STATUS, 4, 4⟩
abbrev TTU_IRQ_STATUS.QUEUE_DROP : Fld := ⟨R.TTU_IRQ_STATUS, 5, 5⟩
abbrev TTU_IRQ_STATUS.STUCK : Fld := ⟨R.TTU_IRQ_STATUS, 6, 6⟩
abbrev TTU_IRQ_STATUS.OVERRANGE : Fld := ⟨R.TTU_IRQ_STATUS, 7, 7⟩
abbrev TTU_IRQ_STATUS.STATS_DONE : Fld := ⟨R.TTU_IRQ_STATUS, 8, 8⟩
abbrev TTU_IRQ_STATUS.CAL_FAIL : Fld := ⟨R.TTU_IRQ_STATUS, 9, 9⟩
abbrev TTU_IRQ_ENABLE.ENABLE : Fld := ⟨R.TTU_IRQ_ENABLE, 9, 0⟩
abbrev TTU_ARM.ARM : Fld := ⟨R.TTU_ARM, 7, 0⟩
abbrev TTU_ARM.DISARM : Fld := ⟨R.TTU_ARM, 15, 8⟩
abbrev TTU_CHc_CFG.EDGE (i : Nat) : Fld := ⟨R.TTU_CHc_CFG i, 1, 0⟩
abbrev TTU_CHc_CFG.ARM_MODE (i : Nat) : Fld := ⟨R.TTU_CHc_CFG i, 3, 2⟩
abbrev TTU_CHc_CFG.GATE (i : Nat) : Fld := ⟨R.TTU_CHc_CFG i, 5, 4⟩
abbrev TTU_CHc_CFG.GATE_POL (i : Nat) : Fld := ⟨R.TTU_CHc_CFG i, 6, 6⟩
abbrev TTU_CHc_CFG.QUEUE_EN (i : Nat) : Fld := ⟨R.TTU_CHc_CFG i, 7, 7⟩
abbrev TTU_CHc_CFG.DIV (i : Nat) : Fld := ⟨R.TTU_CHc_CFG i, 11, 8⟩
abbrev TTU_CHc_CFG.THRESH (i : Nat) : Fld := ⟨R.TTU_CHc_CFG i, 19, 12⟩
abbrev TTU_CHc_CFG.HYST (i : Nat) : Fld := ⟨R.TTU_CHc_CFG i, 21, 20⟩
abbrev TTU_CHc_TIMING.HOLDOFF (i : Nat) : Fld := ⟨R.TTU_CHc_TIMING i, 15, 0⟩
abbrev TTU_CHc_TIMING.STUCK_US (i : Nat) : Fld := ⟨R.TTU_CHc_TIMING i, 31, 16⟩
abbrev TTU_CHc_STATUS.ARMED (i : Nat) : Fld := ⟨R.TTU_CHc_STATUS i, 0, 0⟩
abbrev TTU_CHc_STATUS.STUCK (i : Nat) : Fld := ⟨R.TTU_CHc_STATUS i, 1, 1⟩
abbrev TTU_CHc_STATUS.OVERRANGE (i : Nat) : Fld := ⟨R.TTU_CHc_STATUS i, 2, 2⟩
abbrev TTU_CHc_STATUS.LEVEL (i : Nat) : Fld := ⟨R.TTU_CHc_STATUS i, 3, 3⟩
abbrev TTU_CHc_STATUS.FILL (i : Nat) : Fld := ⟨R.TTU_CHc_STATUS i, 28, 16⟩
abbrev TTU_CHc_DROP_COUNT.COUNT (i : Nat) : Fld := ⟨R.TTU_CHc_DROP_COUNT i, 31, 0⟩
abbrev TTU_CHc_HOLDOFF_COUNT.COUNT (i : Nat) : Fld := ⟨R.TTU_CHc_HOLDOFF_COUNT i, 31, 0⟩
abbrev TTU_CHc_STAMP_COUNT.COUNT (i : Nat) : Fld := ⟨R.TTU_CHc_STAMP_COUNT i, 31, 0⟩
abbrev TTU_CHc_Q_W0.WORD (i : Nat) : Fld := ⟨R.TTU_CHc_Q_W0 i, 31, 0⟩
abbrev TTU_CHc_Q_W1.WORD (i : Nat) : Fld := ⟨R.TTU_CHc_Q_W1 i, 31, 0⟩
abbrev TTU_CHc_Q_W2.WORD (i : Nat) : Fld := ⟨R.TTU_CHc_Q_W2 i, 31, 0⟩
abbrev TTU_CHc_HF_FREQ.KHZ (i : Nat) : Fld := ⟨R.TTU_CHc_HF_FREQ i, 31, 0⟩
abbrev TTU_CHc_EVENT_COUNT.STUCK (i : Nat) : Fld := ⟨R.TTU_CHc_EVENT_COUNT i, 15, 0⟩
abbrev TTU_CHc_EVENT_COUNT.OVERRANGE (i : Nat) : Fld := ⟨R.TTU_CHc_EVENT_COUNT i, 31, 16⟩
abbrev TTU_IUu_CFG.EN (i : Nat) : Fld := ⟨R.TTU_IUu_CFG i, 0, 0⟩
abbrev TTU_IUu_CFG.MODE (i : Nat) : Fld := ⟨R.TTU_IUu_CFG i, 1, 1⟩
abbrev TTU_IUu_CFG.START (i : Nat) : Fld := ⟨R.TTU_IUu_CFG i, 4, 2⟩
abbrev TTU_IUu_CFG.STOP (i : Nat) : Fld := ⟨R.TTU_IUu_CFG i, 7, 5⟩
abbrev TTU_IUu_CFG.QUEUE_EN (i : Nat) : Fld := ⟨R.TTU_IUu_CFG i, 8, 8⟩
abbrev TTU_IUu_N.N (i : Nat) : Fld := ⟨R.TTU_IUu_N i, 23, 0⟩
abbrev TTU_IUu_STATUS.FILL (i : Nat) : Fld := ⟨R.TTU_IUu_STATUS i, 12, 0⟩
abbrev TTU_IUu_STATUS.RESULT_NEW (i : Nat) : Fld := ⟨R.TTU_IUu_STATUS i, 13, 13⟩
abbrev TTU_IUu_STATUS.FROZEN (i : Nat) : Fld := ⟨R.TTU_IUu_STATUS i, 14, 14⟩
abbrev TTU_IUu_STATUS.DROP (i : Nat) : Fld := ⟨R.TTU_IUu_STATUS i, 31, 16⟩
abbrev TTU_IUu_Q_W0.WORD (i : Nat) : Fld := ⟨R.TTU_IUu_Q_W0 i, 31, 0⟩
abbrev TTU_IUu_Q_W1.WORD (i : Nat) : Fld := ⟨R.TTU_IUu_Q_W1 i, 31, 0⟩
abbrev TTU_IUu_Q_W2.WORD (i : Nat) : Fld := ⟨R.TTU_IUu_Q_W2 i, 31, 0⟩
abbrev TTU_IUu_MEAN_LO.MEAN (i : Nat) : Fld := ⟨R.TTU_IUu_MEAN_LO i, 31, 0⟩
abbrev TTU_IUu_MEAN_HI.MEAN (i : Nat) : Fld := ⟨R.TTU_IUu_MEAN_HI i, 31, 0⟩
abbrev TTU_IUu_SD.SD (i : Nat) : Fld := ⟨R.TTU_IUu_SD i, 31, 0⟩
abbrev TTU_IUu_MIN_LO.MIN (i : Nat) : Fld := ⟨R.TTU_IUu_MIN_LO i, 31, 0⟩
abbrev TTU_IUu_MIN_HI.MIN (i : Nat) : Fld := ⟨R.TTU_IUu_MIN_HI i, 31, 0⟩
abbrev TTU_IUu_MAX_LO.MAX (i : Nat) : Fld := ⟨R.TTU_IUu_MAX_LO i, 31, 0⟩
abbrev TTU_IUu_MAX_HI.MAX (i : Nat) : Fld := ⟨R.TTU_IUu_MAX_HI i, 31, 0⟩
abbrev TTU_IUu_COUNT.N (i : Nat) : Fld := ⟨R.TTU_IUu_COUNT i, 23, 0⟩
abbrev TTU_IUu_FLAGCOUNT.ORDER (i : Nat) : Fld := ⟨R.TTU_IUu_FLAGCOUNT i, 15, 0⟩
abbrev TTU_IUu_FLAGCOUNT.UNDERRES (i : Nat) : Fld := ⟨R.TTU_IUu_FLAGCOUNT i, 31, 16⟩
abbrev TTU_IUu_EXPIRED.COUNT (i : Nat) : Fld := ⟨R.TTU_IUu_EXPIRED i, 31, 0⟩
abbrev TTU_IUu_WINDOW.NS (i : Nat) : Fld := ⟨R.TTU_IUu_WINDOW i, 31, 0⟩
abbrev VPF_CTRL.PAUSE : Fld := ⟨R.VPF_CTRL, 0, 0⟩
abbrev VPF_CTRL.RESUME : Fld := ⟨R.VPF_CTRL, 1, 1⟩
abbrev VPF_CTRL.COUNT_CLR : Fld := ⟨R.VPF_CTRL, 2, 2⟩
abbrev VPF_CTRL.FAULT_CLR : Fld := ⟨R.VPF_CTRL, 3, 3⟩
abbrev VPF_CTRL.CAL_REQ : Fld := ⟨R.VPF_CTRL, 4, 4⟩
abbrev VPF_STATUS.STATE : Fld := ⟨R.VPF_STATUS, 2, 0⟩
abbrev VPF_STATUS.MAINS_LOCK : Fld := ⟨R.VPF_STATUS, 3, 3⟩
abbrev VPF_STATUS.CHANNEL : Fld := ⟨R.VPF_STATUS, 6, 4⟩
abbrev VPF_STATUS.CODE : Fld := ⟨R.VPF_STATUS, 15, 8⟩
abbrev VPF_STATUS.DETAIL : Fld := ⟨R.VPF_STATUS, 23, 16⟩
abbrev VPF_CFG.MAINS_MODE : Fld := ⟨R.VPF_CFG, 1, 0⟩
abbrev VPF_CFG.REF_SRC : Fld := ⟨R.VPF_CFG, 3, 3⟩
abbrev VPF_CFG.NPLC : Fld := ⟨R.VPF_CFG, 7, 4⟩
abbrev VPF_CFG.EXTRA : Fld := ⟨R.VPF_CFG, 11, 8⟩
abbrev VPF_CFG.NAVG_EXP : Fld := ⟨R.VPF_CFG, 14, 12⟩
abbrev VPF_CFG.BLANK_IN_EN : Fld := ⟨R.VPF_CFG, 15, 15⟩
abbrev VPF_CFG.BLANK_IN_POL : Fld := ⟨R.VPF_CFG, 16, 16⟩
abbrev VPF_CFG.STREAM_CHANNEL : Fld := ⟨R.VPF_CFG, 21, 17⟩
abbrev VPF_CFG.STREAM_EN : Fld := ⟨R.VPF_CFG, 22, 22⟩
abbrev VPF_CFG.CJ_AGE : Fld := ⟨R.VPF_CFG, 30, 23⟩
abbrev VPF_RING.OFFSET : Fld := ⟨R.VPF_RING, 21, 0⟩
abbrev VPF_RING.TILE : Fld := ⟨R.VPF_RING, 23, 22⟩
abbrev VPF_RING.RING_EN : Fld := ⟨R.VPF_RING, 24, 24⟩
abbrev VPF_RS.RS : Fld := ⟨R.VPF_RS, 31, 0⟩
abbrev VPF_MAINS.PERIOD : Fld := ⟨R.VPF_MAINS, 23, 0⟩
abbrev VPF_DISCARD.COUNT : Fld := ⟨R.VPF_DISCARD, 31, 0⟩
abbrev VPF_IRQ_STATUS.FAULT : Fld := ⟨R.VPF_IRQ_STATUS, 0, 0⟩
abbrev VPF_IRQ_STATUS.RESULT : Fld := ⟨R.VPF_IRQ_STATUS, 1, 1⟩
abbrev VPF_IRQ_STATUS.INVALID : Fld := ⟨R.VPF_IRQ_STATUS, 2, 2⟩
abbrev VPF_IRQ_STATUS.MAINS_CHANGE : Fld := ⟨R.VPF_IRQ_STATUS, 3, 3⟩
abbrev VPF_IRQ_STATUS.CAL_DONE : Fld := ⟨R.VPF_IRQ_STATUS, 4, 4⟩
abbrev VPF_IRQ_ENABLE.ENABLE : Fld := ⟨R.VPF_IRQ_ENABLE, 4, 0⟩
abbrev VPF_CHc_CFG.EN (i : Nat) : Fld := ⟨R.VPF_CHc_CFG i, 0, 0⟩
abbrev VPF_CHc_CFG.WIRING (i : Nat) : Fld := ⟨R.VPF_CHc_CFG i, 2, 1⟩
abbrev VPF_CHc_CFG.CURVE (i : Nat) : Fld := ⟨R.VPF_CHc_CFG i, 5, 3⟩
abbrev VPF_CHc_CFG.REVERSE (i : Nat) : Fld := ⟨R.VPF_CHc_CFG i, 6, 6⟩
abbrev VPF_CHc_CFG.AUTO (i : Nat) : Fld := ⟨R.VPF_CHc_CFG i, 7, 7⟩
abbrev VPF_CHc_CFG.RANGE (i : Nat) : Fld := ⟨R.VPF_CHc_CFG i, 9, 8⟩
abbrev VPF_CHc_CFG.CJ (i : Nat) : Fld := ⟨R.VPF_CHc_CFG i, 12, 10⟩
abbrev VPF_CHc_EXC.MICROAMP (i : Nat) : Fld := ⟨R.VPF_CHc_EXC i, 10, 0⟩
abbrev VPF_CHc_LEAD.MOHM (i : Nat) : Fld := ⟨R.VPF_CHc_LEAD i, 23, 0⟩
abbrev VPF_CHc_COEF0.COEF (i : Nat) : Fld := ⟨R.VPF_CHc_COEF0 i, 31, 0⟩
abbrev VPF_CHc_COEF1.COEF (i : Nat) : Fld := ⟨R.VPF_CHc_COEF1 i, 31, 0⟩
abbrev VPF_CHc_COEF2.COEF (i : Nat) : Fld := ⟨R.VPF_CHc_COEF2 i, 31, 0⟩
abbrev VPF_CHc_COEF3.COEF (i : Nat) : Fld := ⟨R.VPF_CHc_COEF3 i, 31, 0⟩
abbrev VPF_CHc_VALUE.VALUE (i : Nat) : Fld := ⟨R.VPF_CHc_VALUE i, 31, 0⟩
abbrev VPF_CHc_RAW.RAW (i : Nat) : Fld := ⟨R.VPF_CHc_RAW i, 31, 0⟩
abbrev VPF_CHc_INFO.FLAGS (i : Nat) : Fld := ⟨R.VPF_CHc_INFO i, 15, 0⟩
abbrev VPF_CHc_INFO.RANGE (i : Nat) : Fld := ⟨R.VPF_CHc_INFO i, 17, 16⟩
abbrev VPF_CHc_INFO.SEQ (i : Nat) : Fld := ⟨R.VPF_CHc_INFO i, 31, 24⟩
abbrev VPF_CHc_AUX.AUX (i : Nat) : Fld := ⟨R.VPF_CHc_AUX i, 31, 0⟩
abbrev DLK_CTRL.SAFE : Fld := ⟨R.DLK_CTRL, 0, 0⟩
abbrev DLK_CTRL.RESUME : Fld := ⟨R.DLK_CTRL, 1, 1⟩
abbrev DLK_CTRL.FAULT_CLR : Fld := ⟨R.DLK_CTRL, 2, 2⟩
abbrev DLK_CTRL.HOST_GO : Fld := ⟨R.DLK_CTRL, 3, 3⟩
abbrev DLK_CTRL.COUNT_CLR : Fld := ⟨R.DLK_CTRL, 4, 4⟩
abbrev DLK_STATUS.STATE : Fld := ⟨R.DLK_STATUS, 2, 0⟩
abbrev DLK_STATUS.CODE : Fld := ⟨R.DLK_STATUS, 15, 8⟩
abbrev DLK_STATUS.DETAIL : Fld := ⟨R.DLK_STATUS, 20, 16⟩
abbrev DLK_CFG.POLL_US : Fld := ⟨R.DLK_CFG, 15, 0⟩
abbrev DLK_CFG.WD_MS : Fld := ⟨R.DLK_CFG, 23, 16⟩
abbrev DLK_CFG.RETRIES : Fld := ⟨R.DLK_CFG, 25, 24⟩
abbrev DLK_ERR_COUNT.CRC : Fld := ⟨R.DLK_ERR_COUNT, 15, 0⟩
abbrev DLK_ERR_COUNT.TIMEOUT : Fld := ⟨R.DLK_ERR_COUNT, 31, 16⟩
abbrev DLK_HOST_REQ.ADDR : Fld := ⟨R.DLK_HOST_REQ, 4, 0⟩
abbrev DLK_HOST_REQ.CMD : Fld := ⟨R.DLK_HOST_REQ, 15, 8⟩
abbrev DLK_HOST_REQ.LEN : Fld := ⟨R.DLK_HOST_REQ, 21, 16⟩
abbrev DLK_HOST_RESULT.BUSY : Fld := ⟨R.DLK_HOST_RESULT, 0, 0⟩
abbrev DLK_HOST_RESULT.FAILED : Fld := ⟨R.DLK_HOST_RESULT, 1, 1⟩
abbrev DLK_HOST_RESULT.LEN : Fld := ⟨R.DLK_HOST_RESULT, 7, 2⟩
abbrev DLK_HOST_RESULT.DEV_STATUS : Fld := ⟨R.DLK_HOST_RESULT, 15, 8⟩
abbrev DLK_HOST_DATAi.DATA (i : Nat) : Fld := ⟨R.DLK_HOST_DATAi i, 31, 0⟩
abbrev DLK_IRQ_STATUS.FAULT : Fld := ⟨R.DLK_IRQ_STATUS, 0, 0⟩
abbrev DLK_IRQ_STATUS.DRIVER : Fld := ⟨R.DLK_IRQ_STATUS, 1, 1⟩
abbrev DLK_IRQ_STATUS.DERATE : Fld := ⟨R.DLK_IRQ_STATUS, 2, 2⟩
abbrev DLK_IRQ_STATUS.HOST_DONE : Fld := ⟨R.DLK_IRQ_STATUS, 3, 3⟩
abbrev DLK_IRQ_ENABLE.ENABLE : Fld := ⟨R.DLK_IRQ_ENABLE, 3, 0⟩
abbrev DLK_DEVd_STATUS.DRV (i : Nat) : Fld := ⟨R.DLK_DEVd_STATUS i, 3, 0⟩
abbrev DLK_DEVd_STATUS.DERATED (i : Nat) : Fld := ⟨R.DLK_DEVd_STATUS i, 4, 4⟩
abbrev DLK_DEVd_STATUS.ENABLED (i : Nat) : Fld := ⟨R.DLK_DEVd_STATUS i, 5, 5⟩
abbrev DLK_DEVd_STATUS.TEMP (i : Nat) : Fld := ⟨R.DLK_DEVd_STATUS i, 31, 16⟩
abbrev DLK_DEVd_SETPOINT.IN_FORCE (i : Nat) : Fld := ⟨R.DLK_DEVd_SETPOINT i, 15, 0⟩
abbrev DLK_DEVd_SETPOINT.NOMINAL (i : Nat) : Fld := ⟨R.DLK_DEVd_SETPOINT i, 31, 16⟩
abbrev DLK_DEVd_CURRENT.CURRENT (i : Nat) : Fld := ⟨R.DLK_DEVd_CURRENT i, 15, 0⟩
abbrev DLK_DEVd_COUNT.DERATE_EVENTS (i : Nat) : Fld := ⟨R.DLK_DEVd_COUNT i, 15, 0⟩
abbrev DLK_DEVd_COUNT.NO_RESPONSE (i : Nat) : Fld := ⟨R.DLK_DEVd_COUNT i, 31, 16⟩
abbrev HIF_CTRL.COUNT_CLR : Fld := ⟨R.HIF_CTRL, 0, 0⟩
abbrev HIF_CTRL.VLOG_CLR : Fld := ⟨R.HIF_CTRL, 1, 1⟩
abbrev HIF_STATUS.LINK : Fld := ⟨R.HIF_STATUS, 1, 0⟩
abbrev HIF_STATUS.SPEED : Fld := ⟨R.HIF_STATUS, 3, 2⟩
abbrev HIF_STATUS.WIDTH : Fld := ⟨R.HIF_STATUS, 5, 4⟩
abbrev HIF_STATUS.CODE : Fld := ⟨R.HIF_STATUS, 15, 8⟩
abbrev HIF_STATUS.DETAIL : Fld := ⟨R.HIF_STATUS, 31, 16⟩
abbrev HIF_WIN_BASE_LO.ADDR : Fld := ⟨R.HIF_WIN_BASE_LO, 31, 20⟩
abbrev HIF_WIN_BASE_HI.ADDR : Fld := ⟨R.HIF_WIN_BASE_HI, 2, 0⟩
abbrev HIF_S0_SQ_LO.ADDR : Fld := ⟨R.HIF_S0_SQ_LO, 31, 0⟩
abbrev HIF_S0_SQ_HI.ADDR : Fld := ⟨R.HIF_S0_SQ_HI, 31, 0⟩
abbrev HIF_S0_CQ_LO.ADDR : Fld := ⟨R.HIF_S0_CQ_LO, 31, 0⟩
abbrev HIF_S0_CQ_HI.ADDR : Fld := ⟨R.HIF_S0_CQ_HI, 31, 0⟩
abbrev HIF_S0_CFG.SQ_LOG2 : Fld := ⟨R.HIF_S0_CFG, 3, 0⟩
abbrev HIF_S0_CFG.CQ_LOG2 : Fld := ⟨R.HIF_S0_CFG, 7, 4⟩
abbrev HIF_S0_CFG.WINDOW : Fld := ⟨R.HIF_S0_CFG, 14, 8⟩
abbrev HIF_S0_CFG.VECTOR : Fld := ⟨R.HIF_S0_CFG, 21, 16⟩
abbrev HIF_SESS_CTRL.SESSION : Fld := ⟨R.HIF_SESS_CTRL, 7, 0⟩
abbrev HIF_SESS_CTRL.OP : Fld := ⟨R.HIF_SESS_CTRL, 9, 8⟩
abbrev HIF_SESS_NEXT.SEQ : Fld := ⟨R.HIF_SESS_NEXT, 31, 0⟩
abbrev HIF_SESS_SEL.SESSION : Fld := ⟨R.HIF_SESS_SEL, 7, 0⟩
abbrev HIF_SESS_INFO.STATE : Fld := ⟨R.HIF_SESS_INFO, 1, 0⟩
abbrev HIF_SESS_INFO.OUTSTANDING : Fld := ⟨R.HIF_SESS_INFO, 8, 2⟩
abbrev HIF_SESS_INFO.VIOL : Fld := ⟨R.HIF_SESS_INFO, 31, 16⟩
abbrev HIF_SESS_EXPECT.E : Fld := ⟨R.HIF_SESS_EXPECT, 31, 0⟩
abbrev HIF_VLOG_STAT.OVERFLOW : Fld := ⟨R.HIF_VLOG_STAT, 15, 0⟩
abbrev HIF_VLOG_STAT.FILL : Fld := ⟨R.HIF_VLOG_STAT, 26, 16⟩
abbrev HIF_VLOG_W0.WORD : Fld := ⟨R.HIF_VLOG_W0, 31, 0⟩
abbrev HIF_VLOG_W1.WORD : Fld := ⟨R.HIF_VLOG_W1, 31, 0⟩
abbrev HIF_VLOG_W2.WORD : Fld := ⟨R.HIF_VLOG_W2, 31, 0⟩
abbrev HIF_VLOG_W3.WORD : Fld := ⟨R.HIF_VLOG_W3, 31, 0⟩
abbrev HIF_IRQ_MAPm.VECTOR0 (i : Nat) : Fld := ⟨R.HIF_IRQ_MAPm i, 5, 0⟩
abbrev HIF_IRQ_MAPm.EN0 (i : Nat) : Fld := ⟨R.HIF_IRQ_MAPm i, 7, 7⟩
abbrev HIF_IRQ_MAPm.VECTOR1 (i : Nat) : Fld := ⟨R.HIF_IRQ_MAPm i, 13, 8⟩
abbrev HIF_IRQ_MAPm.EN1 (i : Nat) : Fld := ⟨R.HIF_IRQ_MAPm i, 15, 15⟩
abbrev HIF_IRQ_MAPm.VECTOR2 (i : Nat) : Fld := ⟨R.HIF_IRQ_MAPm i, 21, 16⟩
abbrev HIF_IRQ_MAPm.EN2 (i : Nat) : Fld := ⟨R.HIF_IRQ_MAPm i, 23, 23⟩
abbrev HIF_IRQ_MAPm.VECTOR3 (i : Nat) : Fld := ⟨R.HIF_IRQ_MAPm i, 29, 24⟩
abbrev HIF_IRQ_MAPm.EN3 (i : Nat) : Fld := ⟨R.HIF_IRQ_MAPm i, 31, 31⟩
abbrev HIF_IRQN_MASK.MASK : Fld := ⟨R.HIF_IRQN_MASK, 21, 0⟩
abbrev HIF_IRQ_STATUS.VIOLATION : Fld := ⟨R.HIF_IRQ_STATUS, 0, 0⟩
abbrev HIF_IRQ_STATUS.QUARANTINE : Fld := ⟨R.HIF_IRQ_STATUS, 1, 1⟩
abbrev HIF_IRQ_STATUS.HOST_DMA : Fld := ⟨R.HIF_IRQ_STATUS, 2, 2⟩
abbrev HIF_IRQ_STATUS.UNMAPPED : Fld := ⟨R.HIF_IRQ_STATUS, 3, 3⟩
abbrev HIF_IRQ_STATUS.STREAM_DROP : Fld := ⟨R.HIF_IRQ_STATUS, 4, 4⟩
abbrev HIF_IRQ_STATUS.LINK_CHANGE : Fld := ⟨R.HIF_IRQ_STATUS, 5, 5⟩
abbrev HIF_IRQ_ENABLE.ENABLE : Fld := ⟨R.HIF_IRQ_ENABLE, 5, 0⟩
abbrev HIF_SQ_TAILs.TAIL (i : Nat) : Fld := ⟨R.HIF_SQ_TAILs i, 11, 0⟩
abbrev HIF_CQ_HEADs.HEAD (i : Nat) : Fld := ⟨R.HIF_CQ_HEADs i, 11, 0⟩
abbrev HIF_STRc_BASE_LO.ADDR (i : Nat) : Fld := ⟨R.HIF_STRc_BASE_LO i, 31, 0⟩
abbrev HIF_STRc_BASE_HI.ADDR (i : Nat) : Fld := ⟨R.HIF_STRc_BASE_HI i, 31, 0⟩
abbrev HIF_STRc_CFG.EN (i : Nat) : Fld := ⟨R.HIF_STRc_CFG i, 0, 0⟩
abbrev HIF_STRc_CFG.SIZE_LOG2 (i : Nat) : Fld := ⟨R.HIF_STRc_CFG i, 5, 1⟩
abbrev HIF_STRc_CFG.VECTOR (i : Nat) : Fld := ⟨R.HIF_STRc_CFG i, 11, 6⟩
abbrev HIF_STRc_WPTR_LO.ADDR (i : Nat) : Fld := ⟨R.HIF_STRc_WPTR_LO i, 31, 0⟩
abbrev HIF_STRc_WPTR_HI.ADDR (i : Nat) : Fld := ⟨R.HIF_STRc_WPTR_HI i, 31, 0⟩
abbrev HIF_STRc_RD.RD (i : Nat) : Fld := ⟨R.HIF_STRc_RD i, 31, 0⟩
abbrev HIF_STRc_WR.WR (i : Nat) : Fld := ⟨R.HIF_STRc_WR i, 31, 0⟩
abbrev HIF_STRc_DROP.COUNT (i : Nat) : Fld := ⟨R.HIF_STRc_DROP i, 31, 0⟩
abbrev MSIX_TABLEv_ADDR_LO.ADDR (i : Nat) : Fld := ⟨R.MSIX_TABLEv_ADDR_LO i, 31, 0⟩
abbrev MSIX_TABLEv_ADDR_HI.ADDR (i : Nat) : Fld := ⟨R.MSIX_TABLEv_ADDR_HI i, 31, 0⟩
abbrev MSIX_TABLEv_DATA.DATA (i : Nat) : Fld := ⟨R.MSIX_TABLEv_DATA i, 31, 0⟩
abbrev MSIX_TABLEv_CONTROL.MASK (i : Nat) : Fld := ⟨R.MSIX_TABLEv_CONTROL i, 0, 0⟩
abbrev MSIX_PBAi.PENDING (i : Nat) : Fld := ⟨R.MSIX_PBAi i, 31, 0⟩
abbrev CSP_CTRL.TRAIN : Fld := ⟨R.CSP_CTRL, 0, 0⟩
abbrev CSP_CTRL.CC_REQ : Fld := ⟨R.CSP_CTRL, 1, 1⟩
abbrev CSP_CTRL.REOPEN : Fld := ⟨R.CSP_CTRL, 2, 2⟩
abbrev CSP_CTRL.REOPEN_MEMBER : Fld := ⟨R.CSP_CTRL, 6, 3⟩
abbrev CSP_CTRL.COUNT_CLR : Fld := ⟨R.CSP_CTRL, 7, 7⟩
abbrev CSP_STATUS.STATE : Fld := ⟨R.CSP_STATUS, 2, 0⟩
abbrev CSP_STATUS.RING : Fld := ⟨R.CSP_STATUS, 3, 3⟩
abbrev CSP_STATUS.INDEX : Fld := ⟨R.CSP_STATUS, 7, 4⟩
abbrev CSP_STATUS.CODE : Fld := ⟨R.CSP_STATUS, 15, 8⟩
abbrev CSP_STATUS.DETAIL : Fld := ⟨R.CSP_STATUS, 23, 16⟩
abbrev CSP_CFG.EN : Fld := ⟨R.CSP_CFG, 0, 0⟩
abbrev CSP_CFG.HEAD : Fld := ⟨R.CSP_CFG, 1, 1⟩
abbrev CSP_CFG.CC_TIMEOUT : Fld := ⟨R.CSP_CFG, 15, 8⟩
abbrev CSP_CFG.CC_PERIOD : Fld := ⟨R.CSP_CFG, 31, 16⟩
abbrev CSP_MAP.MAP : Fld := ⟨R.CSP_MAP, 15, 0⟩
abbrev CSP_MAP.MEMBERS : Fld := ⟨R.CSP_MAP, 20, 16⟩
abbrev CSP_GROUP_IDi.DIE_ID (i : Nat) : Fld := ⟨R.CSP_GROUP_IDi i, 31, 0⟩
abbrev CSP_CC.CC : Fld := ⟨R.CSP_CC, 31, 0⟩
abbrev CSP_DE_CFG.PARTNER : Fld := ⟨R.CSP_DE_CFG, 3, 0⟩
abbrev CSP_DE_CFG.EN : Fld := ⟨R.CSP_DE_CFG, 4, 4⟩
abbrev CSP_DE_BASE_LO.ADDR_LO : Fld := ⟨R.CSP_DE_BASE_LO, 31, 0⟩
abbrev CSP_DE_BASE_HI.ADDR_HI : Fld := ⟨R.CSP_DE_BASE_HI, 0, 0⟩
abbrev CSP_PORTp_STATUS.LINK (i : Nat) : Fld := ⟨R.CSP_PORTp_STATUS i, 1, 0⟩
abbrev CSP_PORTp_STATUS.LANES (i : Nat) : Fld := ⟨R.CSP_PORTp_STATUS i, 5, 2⟩
abbrev CSP_PORTp_STATUS.RETRY (i : Nat) : Fld := ⟨R.CSP_PORTp_STATUS i, 31, 16⟩
abbrev CSP_ERR_COUNT.CRC_REJECT : Fld := ⟨R.CSP_ERR_COUNT, 15, 0⟩
abbrev CSP_ERR_COUNT.VIOLATIONS : Fld := ⟨R.CSP_ERR_COUNT, 31, 16⟩
abbrev CSP_IRQ_STATUS.MAP_CHANGE : Fld := ⟨R.CSP_IRQ_STATUS, 0, 0⟩
abbrev CSP_IRQ_STATUS.MEMBER_LOST : Fld := ⟨R.CSP_IRQ_STATUS, 1, 1⟩
abbrev CSP_IRQ_STATUS.CC_DONE : Fld := ⟨R.CSP_IRQ_STATUS, 2, 2⟩
abbrev CSP_IRQ_STATUS.CC_ABORTED : Fld := ⟨R.CSP_IRQ_STATUS, 3, 3⟩
abbrev CSP_IRQ_STATUS.QUARANTINE : Fld := ⟨R.CSP_IRQ_STATUS, 4, 4⟩
abbrev CSP_IRQ_STATUS.TRAIN_EVENT : Fld := ⟨R.CSP_IRQ_STATUS, 5, 5⟩
abbrev CSP_IRQ_ENABLE.ENABLE : Fld := ⟨R.CSP_IRQ_ENABLE, 5, 0⟩
abbrev ALM_CTRL.COUNT_CLR : Fld := ⟨R.ALM_CTRL, 0, 0⟩
abbrev ALM_CTRL.FLUSH : Fld := ⟨R.ALM_CTRL, 1, 1⟩
abbrev ALM_STATUS.STATE : Fld := ⟨R.ALM_STATUS, 2, 0⟩
abbrev ALM_STATUS.ID_VALID : Fld := ⟨R.ALM_STATUS, 3, 3⟩
abbrev ALM_STATUS.FACTORY_VALID : Fld := ⟨R.ALM_STATUS, 4, 4⟩
abbrev ALM_STATUS.RUN_UNSTORED : Fld := ⟨R.ALM_STATUS, 5, 5⟩
abbrev ALM_STATUS.NO_ARCHIVE : Fld := ⟨R.ALM_STATUS, 6, 6⟩
abbrev ALM_STATUS.CODE : Fld := ⟨R.ALM_STATUS, 15, 8⟩
abbrev ALM_STATUS.DETAIL : Fld := ⟨R.ALM_STATUS, 31, 16⟩
abbrev ALM_DIE_IDi.DIE_ID (i : Nat) : Fld := ⟨R.ALM_DIE_IDi i, 31, 0⟩
abbrev ALM_RUN.RUN : Fld := ⟨R.ALM_RUN, 31, 0⟩
abbrev ALM_POWERED.MINUTES : Fld := ⟨R.ALM_POWERED, 31, 0⟩
abbrev ALM_EPOCH.EPOCH : Fld := ⟨R.ALM_EPOCH, 31, 0⟩
abbrev ALM_EPOCH_HEAD.EPOCH : Fld := ⟨R.ALM_EPOCH_HEAD, 31, 0⟩
abbrev ALM_EPOCH_PENDING.EPOCH : Fld := ⟨R.ALM_EPOCH_PENDING, 31, 0⟩
abbrev ALM_CFG.WARN_HOURS : Fld := ⟨R.ALM_CFG, 31, 0⟩
abbrev ALM_HIST_STAT.FILL : Fld := ⟨R.ALM_HIST_STAT, 9, 0⟩
abbrev ALM_HIST_STAT.LOST : Fld := ⟨R.ALM_HIST_STAT, 31, 16⟩
abbrev ALM_IND_SEL.ID : Fld := ⟨R.ALM_IND_SEL, 5, 0⟩
abbrev ALM_IND_INFO.STATE : Fld := ⟨R.ALM_IND_INFO, 2, 0⟩
abbrev ALM_IND_INFO.MODEL : Fld := ⟨R.ALM_IND_INFO, 3, 3⟩
abbrev ALM_IND_INFO.N : Fld := ⟨R.ALM_IND_INFO, 31, 8⟩
abbrev ALM_IND_VALUE.VALUE : Fld := ⟨R.ALM_IND_VALUE, 31, 0⟩
abbrev ALM_IND_LIMIT.LIMIT : Fld := ⟨R.ALM_IND_LIMIT, 31, 0⟩
abbrev ALM_IND_REMAIN_NOM.HOURS : Fld := ⟨R.ALM_IND_REMAIN_NOM, 31, 0⟩
abbrev ALM_IND_REMAIN_EARLY.HOURS : Fld := ⟨R.ALM_IND_REMAIN_EARLY, 31, 0⟩
abbrev ALM_IRQ_STATUS.EPOCH_APPLIED : Fld := ⟨R.ALM_IRQ_STATUS, 0, 0⟩
abbrev ALM_IRQ_STATUS.EOL_WARN : Fld := ⟨R.ALM_IRQ_STATUS, 1, 1⟩
abbrev ALM_IRQ_STATUS.HIST_LOST : Fld := ⟨R.ALM_IRQ_STATUS, 2, 2⟩
abbrev ALM_IRQ_STATUS.CHAIN : Fld := ⟨R.ALM_IRQ_STATUS, 3, 3⟩
abbrev ALM_IRQ_ENABLE.ENABLE : Fld := ⟨R.ALM_IRQ_ENABLE, 3, 0⟩

end F

/-- Registers of block GLB. -/
def famsGLB : List RegFam := [
  ⟨0x0, 1, 0x4, 1, 0x4, 0x48102100, [⟨31, 0, .ro⟩]⟩,
  ⟨0x4, 1, 0x4, 1, 0x4, 0x0, [⟨2, 0, .wo⟩, ⟨31, 3, .ro⟩]⟩,
  ⟨0x8, 1, 0x4, 1, 0x4, 0x0, [⟨31, 0, .rw⟩]⟩,
  ⟨0xC, 1, 0x4, 1, 0x4, 0x1, [⟨31, 0, .ro⟩]⟩,
  ⟨0x10, 1, 0x4, 1, 0x4, 0x0, [⟨31, 0, .ro⟩]⟩,
  ⟨0x14, 1, 0x4, 1, 0x4, 0x0, [⟨31, 0, .ro⟩]⟩,
  ⟨0x18, 1, 0x4, 1, 0x4, 0x3E8, [⟨15, 0, .rw⟩, ⟨16, 16, .w1s⟩, ⟨17, 17, .rw⟩, ⟨31, 18, .ro⟩]⟩,
  ⟨0x1C, 1, 0x4, 1, 0x4, 0x0, [⟨31, 0, .wo⟩]⟩,
  ⟨0x20, 1, 0x4, 1, 0x4, 0x0, [⟨31, 0, .ro⟩]⟩,
  ⟨0x24, 1, 0x4, 1, 0x4, 0x0, [⟨31, 0, .ro⟩]⟩,
  ⟨0x28, 1, 0x4, 1, 0x4, 0x0, [⟨3, 0, .w1c⟩, ⟨31, 4, .ro⟩]⟩,
  ⟨0x2C, 1, 0x4, 1, 0x4, 0x0, [⟨3, 0, .rw⟩, ⟨31, 4, .ro⟩]⟩]

/-- Registers of block PMU. -/
def famsPMU : List RegFam := [
  ⟨0x100000, 1, 0x4, 1, 0x4, 0x0, [⟨1, 0, .wo⟩, ⟨31, 2, .ro⟩]⟩,
  ⟨0x100004, 1, 0x4, 1, 0x4, 0x0, [⟨31, 0, .ro⟩]⟩,
  ⟨0x100008, 1, 0x4, 1, 0x4, 0x6400, [⟨0, 0, .rwl⟩, ⟨7, 1, .ro⟩, ⟨15, 8, .rwl⟩, ⟨31, 16, .ro⟩]⟩,
  ⟨0x10000C, 1, 0x4, 1, 0x4, 0x1FFF, [⟨12, 0, .rwl⟩, ⟨31, 13, .ro⟩]⟩,
  ⟨0x100010, 1, 0x4, 1, 0x4, 0x3FFFFFC, [⟨25, 0, .rwl⟩, ⟨31, 26, .ro⟩]⟩,
  ⟨0x100014, 1, 0x4, 1, 0x4, 0x0, [⟨19, 0, .rwl⟩, ⟨31, 20, .ro⟩]⟩,
  ⟨0x100018, 1, 0x4, 1, 0x4, 0x3FFFFFC, [⟨25, 0, .rw⟩, ⟨31, 26, .ro⟩]⟩,
  ⟨0x100020, 1, 0x4, 1, 0x4, 0x0, [⟨3, 0, .w1c⟩, ⟨31, 4, .ro⟩]⟩,
  ⟨0x100024, 1, 0x4, 1, 0x4, 0x0, [⟨3, 0, .rw⟩, ⟨31, 4, .ro⟩]⟩,
  ⟨0x100028, 1, 0x4, 1, 0x4, 0x0, [⟨12, 0, .rw⟩, ⟨31, 13, .ro⟩]⟩,
  ⟨0x10002C, 1, 0x4, 1, 0x4, 0x0, [⟨31, 0, .ro⟩]⟩,
  ⟨0x100030, 1, 0x4, 1, 0x4, 0x0, [⟨31, 0, .ro⟩]⟩,
  ⟨0x100034, 1, 0x4, 1, 0x4, 0x0, [⟨31, 0, .ro⟩]⟩,
  ⟨0x100038, 1, 0x4, 1, 0x4, 0x0, [⟨31, 0, .ro⟩]⟩,
  ⟨0x10003C, 1, 0x4, 1, 0x4, 0x0, [⟨31, 0, .ro⟩]⟩,
  ⟨0x100040, 8, 0x4, 1, 0x4, 0x3FFFFFC, [⟨31, 0, .ro⟩]⟩,
  ⟨0x100100, 1, 0x4, 1, 0x4, 0x0, [⟨31, 0, .ro⟩]⟩,
  ⟨0x100104, 12, 0x4, 1, 0x4, 0x6F, [⟨31, 0, .ro⟩]⟩]

/-- Registers of block SIL. -/
def famsSIL : List RegFam := [
  ⟨0x200000, 1, 0x4, 1, 0x4, 0x0, [⟨4, 0, .wo⟩, ⟨31, 5, .ro⟩]⟩,
  ⟨0x200004, 1, 0x4, 1, 0x4, 0x0, [⟨31, 0, .ro⟩]⟩,
  ⟨0x200008, 1, 0x4, 1, 0x4, 0x0, [⟨31, 0, .ro⟩]⟩,
  ⟨0x20000C, 1, 0x4, 1, 0x4, 0x0, [⟨31, 0, .ro⟩]⟩,
  ⟨0x200010, 1, 0x4, 1, 0x4, 0x0, [⟨31, 0, .ro⟩]⟩,
  ⟨0x200014, 1, 0x4, 1, 0x4, 0x0, [⟨31, 0, .rw⟩]⟩,
  ⟨0x200018, 1, 0x4, 1, 0x4, 0x0, [⟨15, 0, .rw⟩, ⟨31, 16, .ro⟩]⟩,
  ⟨0x20001C, 1, 0x4, 1, 0x4, 0x0, [⟨31, 0, .ro⟩]⟩,
  ⟨0x200020, 1, 0x4, 1, 0x4, 0x0, [⟨31, 0, .ro⟩]⟩,
  ⟨0x200024, 1, 0x4, 1, 0x4, 0x0, [⟨4, 0, .rws⟩, ⟨31, 5, .ro⟩]⟩,
  ⟨0x200028, 1, 0x4, 1, 0x4, 0x0, [⟨31, 0, .ro⟩]⟩,
  ⟨0x20002C, 1, 0x4, 1, 0x4, 0x0, [⟨31, 0, .ro⟩]⟩,
  ⟨0x200030, 1, 0x4, 1, 0x4, 0x0, [⟨31, 0, .ro⟩]⟩,
  ⟨0x200034, 1, 0x4, 1, 0x4, 0x0, [⟨31, 0, .ro⟩]⟩,
  ⟨0x200038, 1, 0x4, 1, 0x4, 0x0, [⟨31, 0, .ro⟩]⟩,
  ⟨0x20003C, 1, 0x4, 1, 0x4, 0x0, [⟨3, 0, .w1c⟩, ⟨31, 4, .ro⟩]⟩,
  ⟨0x200040, 1, 0x4, 1, 0x4, 0x0, [⟨3, 0, .rw⟩, ⟨31, 4, .ro⟩]⟩,
  ⟨0x200044, 1, 0x4, 1, 0x4, 0x0, [⟨31, 0, .ro⟩]⟩]

/-- Registers of block MRS, part 1. -/
def famsMRS1 : List RegFam := [
  ⟨0x300000, 1, 0x4, 1, 0x4, 0x0, [⟨4, 0, .wo⟩, ⟨31, 5, .ro⟩]⟩,
  ⟨0x300004, 1, 0x4, 1, 0x4, 0x0, [⟨31, 0, .ro⟩]⟩,
  ⟨0x300008, 1, 0x4, 1, 0x4, 0x0, [⟨31, 0, .ro⟩]⟩,
  ⟨0x30000C, 1, 0x4, 1, 0x4, 0x0, [⟨31, 0, .ro⟩]⟩,
  ⟨0x300010, 1, 0x4, 1, 0x4, 0x0, [⟨20, 0, .rwl⟩, ⟨31, 21, .ro⟩]⟩,
  ⟨0x300014, 1, 0x4, 1, 0x4, 0x0, [⟨18, 0, .rwl⟩, ⟨31, 19, .ro⟩]⟩,
  ⟨0x300018, 1, 0x4, 1, 0x4, 0x0, [⟨18, 0, .rwl⟩, ⟨31, 19, .ro⟩]⟩,
  ⟨0x30001C, 1, 0x4, 1, 0x4, 0x0, [⟨31, 0, .rwl⟩]⟩,
  ⟨0x300020, 1, 0x4, 1, 0x4, 0x0, [⟨15, 0, .rwl⟩, ⟨31, 16, .ro⟩]⟩,
  ⟨0x300024, 1, 0x4, 1, 0x4, 0x0, [⟨20, 0, .rwl⟩, ⟨31, 21, .ro⟩]⟩,
  ⟨0x300028, 1, 0x4, 1, 0x4, 0x0, [⟨21, 0, .rwl⟩, ⟨31, 22, .ro⟩]⟩,
  ⟨0x30002C, 1, 0x4, 1, 0x4, 0x2, [⟨3, 0, .rwl⟩, ⟨31, 4, .ro⟩]⟩,
  ⟨0x300030, 1, 0x4, 1, 0x4, 0x0, [⟨31, 0, .ro⟩]⟩,
  ⟨0x300034, 1, 0x4, 1, 0x4, 0x0, [⟨31, 0, .ro⟩]⟩,
  ⟨0x300038, 1, 0x4, 1, 0x4, 0x0, [⟨31, 0, .ro⟩]⟩,
  ⟨0x30003C, 1, 0x4, 1, 0x4, 0x0, [⟨31, 0, .ro⟩]⟩,
  ⟨0x300040, 1, 0x4, 1, 0x4, 0x0, [⟨31, 0, .ro⟩]⟩,
  ⟨0x300044, 1, 0x4, 1, 0x4, 0x0, [⟨31, 0, .ro⟩]⟩,
  ⟨0x300048, 1, 0x4, 1, 0x4, 0x0, [⟨5, 0, .w1c⟩, ⟨31, 6, .ro⟩]⟩,
  ⟨0x30004C, 1, 0x4, 1, 0x4, 0x0, [⟨5, 0, .rw⟩, ⟨31, 6, .ro⟩]⟩]

/-- Registers of block MRS, part 2. -/
def famsMRS2 : List RegFam := [
  ⟨0x300100, 64, 0x4, 1, 0x4, 0x30000, [⟨31, 0, .ro⟩]⟩,
  ⟨0x301000, 260, 0x4, 1, 0x4, 0xFFFFFFFF, [⟨31, 0, .ro⟩]⟩]

/-- Registers of block MRS. -/
def famsMRS : List RegFam := famsMRS1 ++ famsMRS2

/-- Registers of block PGU, part 1. -/
def famsPGU1 : List RegFam := [
  ⟨0x400000, 1, 0x4, 1, 0x4, 0x0, [⟨2, 0, .wo⟩, ⟨31, 3, .ro⟩]⟩,
  ⟨0x400004, 1, 0x4, 1, 0x4, 0x0, [⟨31, 0, .ro⟩]⟩,
  ⟨0x400008, 1, 0x4, 1, 0x4, 0x0, [⟨2, 0, .rwl⟩, ⟨15, 3, .ro⟩, ⟨30, 16, .rwl⟩, ⟨31, 31, .ro⟩]⟩,
  ⟨0x40000C, 1, 0x4, 1, 0x4, 0x0, [⟨31, 0, .ro⟩]⟩,
  ⟨0x400010, 1, 0x4, 1, 0x4, 0x0, [⟨2, 0, .rwl⟩, ⟨31, 3, .ro⟩]⟩,
  ⟨0x400014, 1, 0x4, 1, 0x4, 0x0, [⟨9, 0, .rwl⟩, ⟨15, 10, .ro⟩, ⟨25, 16, .rwl⟩, ⟨31, 26, .ro⟩]⟩,
  ⟨0x400018, 1, 0x4, 1, 0x4, 0x8000, [⟨31, 0, .rwl⟩]⟩,
  ⟨0x400020, 2, 0x10, 1, 0x4, 0x0, [⟨3, 0, .rwl⟩, ⟨31, 4, .ro⟩]⟩,
  ⟨0x400024, 2, 0x10, 1, 0x4, 0x0, [⟨22, 0, .rwl⟩, ⟨31, 23, .ro⟩]⟩,
  ⟨0x400028, 2, 0x10, 1, 0x4, 0x0, [⟨14, 0, .rwl⟩, ⟨31, 15, .ro⟩]⟩,
  ⟨0x400040, 1, 0x4, 1, 0x4, 0xC, [⟨4, 0, .rwl⟩, ⟨31, 5, .ro⟩]⟩,
  ⟨0x400044, 1, 0x4, 1, 0x4, 0x1400, [⟨31, 0, .rwl⟩]⟩,
  ⟨0x400048, 1, 0x4, 1, 0x4, 0x0, [⟨31, 0, .ro⟩]⟩,
  ⟨0x40004C, 1, 0x4, 1, 0x4, 0x0, [⟨2, 0, .rwl⟩, ⟨7, 3, .ro⟩, ⟨31, 8, .rwl⟩]⟩,
  ⟨0x400050, 1, 0x4, 1, 0x4, 0x0, [⟨31, 0, .ro⟩]⟩,
  ⟨0x400054, 1, 0x4, 1, 0x4, 0x0, [⟨31, 0, .ro⟩]⟩,
  ⟨0x400058, 1, 0x4, 1, 0x4, 0x0, [⟨31, 0, .ro⟩]⟩,
  ⟨0x40005C, 1, 0x4, 1, 0x4, 0x0, [⟨4, 0, .w1c⟩, ⟨31, 5, .ro⟩]⟩,
  ⟨0x400060, 1, 0x4, 1, 0x4, 0x0, [⟨4, 0, .rw⟩, ⟨31, 5, .ro⟩]⟩,
  ⟨0x400100, 16, 0x10, 1, 0x4, 0x0, [⟨31, 0, .rwl⟩]⟩]

/-- Registers of block PGU, part 2. -/
def famsPGU2 : List RegFam := [
  ⟨0x400104, 16, 0x10, 1, 0x4, 0x0, [⟨31, 0, .rwl⟩]⟩,
  ⟨0x400108, 16, 0x10, 1, 0x4, 0x0, [⟨31, 0, .rwl⟩]⟩]

/-- Registers of block PGU. -/
def famsPGU : List RegFam := famsPGU1 ++ famsPGU2

/-- Registers of block FAFE. -/
def famsFAFE : List RegFam := [
  ⟨0x500000, 1, 0x4, 1, 0x4, 0x0, [⟨3, 0, .wo⟩, ⟨31, 4, .ro⟩]⟩,
  ⟨0x500004, 1, 0x4, 1, 0x4, 0x0, [⟨31, 0, .ro⟩]⟩,
  ⟨0x500008, 1, 0x4, 1, 0x4, 0xF, [⟨9, 0, .rwl⟩, ⟨31, 10, .ro⟩]⟩,
  ⟨0x50000C, 1, 0x4, 1, 0x4, 0x1, [⟨4, 0, .rwl⟩, ⟨31, 5, .ro⟩]⟩,
  ⟨0x500010, 2, 0x8, 1, 0x4, 0x0, [⟨20, 0, .rwl⟩, ⟨31, 21, .ro⟩]⟩,
  ⟨0x500014, 2, 0x8, 1, 0x4, 0x0, [⟨19, 0, .rwl⟩, ⟨31, 20, .ro⟩]⟩,
  ⟨0x500020, 4, 0x4, 1, 0x4, 0x0, [⟨31, 0, .ro⟩]⟩,
  ⟨0x500030, 4, 0x4, 1, 0x4, 0x0, [⟨31, 0, .ro⟩]⟩,
  ⟨0x500040, 16, 0x4, 1, 0x4, 0x0, [⟨20, 0, .rwl⟩, ⟨23, 21, .ro⟩, ⟨26, 24, .rwl⟩, ⟨31, 27, .ro⟩]⟩,
  ⟨0x500080, 1, 0x4, 1, 0x4, 0x0, [⟨3, 0, .w1c⟩, ⟨31, 4, .ro⟩]⟩,
  ⟨0x500084, 1, 0x4, 1, 0x4, 0x0, [⟨3, 0, .rw⟩, ⟨31, 4, .ro⟩]⟩,
  ⟨0x500140, 8, 0x8, 1, 0x4, 0x0, [⟨31, 0, .ro⟩]⟩,
  ⟨0x500144, 8, 0x8, 1, 0x4, 0x0, [⟨31, 0, .ro⟩]⟩]

/-- Registers of block DDC. -/
def famsDDC : List RegFam := [
  ⟨0x500100, 8, 0x8, 1, 0x4, 0x4000, [⟨31, 0, .rwl⟩]⟩,
  ⟨0x500104, 8, 0x8, 1, 0x4, 0x4000, [⟨31, 0, .rwl⟩]⟩,
  ⟨0x500200, 16, 0x4, 1, 0x4, 0x0, [⟨31, 0, .rwl⟩]⟩]

/-- Registers of block PCX, part 1. -/
def famsPCX1 : List RegFam := [
  ⟨0x600000, 1, 0x4, 1, 0x4, 0x0, [⟨4, 0, .wo⟩, ⟨31, 5, .ro⟩]⟩,
  ⟨0x600004, 1, 0x4, 1, 0x4, 0x0, [⟨31, 0, .ro⟩]⟩,
  ⟨0x600008, 1, 0x4, 1, 0x4, 0x0, [⟨17, 0, .rwl⟩, ⟨31, 18, .ro⟩]⟩,
  ⟨0x60000C, 1, 0x4, 1, 0x4, 0x0, [⟨18, 0, .rwl⟩, ⟨31, 19, .ro⟩]⟩,
  ⟨0x600010, 1, 0x4, 1, 0x4, 0x0, [⟨0, 0, .rwl⟩, ⟨31, 1, .ro⟩]⟩,
  ⟨0x600014, 1, 0x4, 1, 0x4, 0x0, [⟨31, 0, .ro⟩]⟩,
  ⟨0x600018, 1, 0x4, 1, 0x4, 0x0, [⟨31, 0, .ro⟩]⟩,
  ⟨0x60001C, 1, 0x4, 1, 0x4, 0x0, [⟨31, 0, .ro⟩]⟩,
  ⟨0x600020, 1, 0x4, 1, 0x4, 0x100800, [⟨2, 0, .rwl⟩, ⟨3, 3, .ro⟩, ⟨6, 4, .rwl⟩, ⟨7, 7, .ro⟩, ⟨23, 8, .rwl⟩, ⟨31, 24, .ro⟩]⟩,
  ⟨0x600024, 1, 0x4, 1, 0x4, 0x17A6B0, [⟨20, 0, .rwl⟩, ⟨31, 21, .ro⟩]⟩,
  ⟨0x600028, 1, 0x4, 1, 0x4, 0xC7AE, [⟨16, 0, .rwl⟩, ⟨31, 17, .ro⟩]⟩,
  ⟨0x60002C, 1, 0x4, 1, 0x4, 0x4B66, [⟨15, 0, .rwl⟩, ⟨31, 16, .ro⟩]⟩,
  ⟨0x600030, 1, 0x4, 1, 0x4, 0x0, [⟨31, 0, .ro⟩]⟩,
  ⟨0x600034, 1, 0x4, 1, 0x4, 0x0, [⟨31, 0, .ro⟩]⟩,
  ⟨0x600038, 1, 0x4, 1, 0x4, 0x0, [⟨31, 0, .ro⟩]⟩,
  ⟨0x60003C, 1, 0x4, 1, 0x4, 0x0, [⟨31, 0, .ro⟩]⟩,
  ⟨0x600040, 1, 0x4, 1, 0x4, 0x0, [⟨4, 0, .w1c⟩, ⟨31, 5, .ro⟩]⟩,
  ⟨0x600044, 1, 0x4, 1, 0x4, 0x0, [⟨4, 0, .rw⟩, ⟨31, 5, .ro⟩]⟩,
  ⟨0x600100, 16, 0x4, 1, 0x4, 0x0, [⟨31, 0, .ro⟩]⟩,
  ⟨0x601000, 16, 0x100, 64, 0x4, 0x4000, [⟨31, 0, .rw⟩]⟩]

/-- Registers of block PCX, part 2. -/
def famsPCX2 : List RegFam := [
  ⟨0x602000, 16, 0x100, 64, 0x4, 0x4000, [⟨31, 0, .ro⟩]⟩]

/-- Registers of block PCX. -/
def famsPCX : List RegFam := famsPCX1 ++ famsPCX2

/-- Registers of block MAFE. -/
def famsMAFE : List RegFam := [
  ⟨0x700000, 1, 0x4, 1, 0x4, 0x0, [⟨3, 0, .wo⟩, ⟨31, 4, .ro⟩]⟩,
  ⟨0x700004, 1, 0x4, 1, 0x4, 0x0, [⟨31, 0, .ro⟩]⟩,
  ⟨0x700008, 1, 0x4, 1, 0x4, 0xF, [⟨8, 0, .rwl⟩, ⟨31, 9, .ro⟩]⟩,
  ⟨0x700020, 4, 0x4, 1, 0x4, 0x0, [⟨31, 0, .ro⟩]⟩,
  ⟨0x700030, 4, 0x4, 1, 0x4, 0x0, [⟨31, 0, .ro⟩]⟩,
  ⟨0x700080, 1, 0x4, 1, 0x4, 0x0, [⟨3, 0, .w1c⟩, ⟨31, 4, .ro⟩]⟩,
  ⟨0x700084, 1, 0x4, 1, 0x4, 0x0, [⟨3, 0, .rw⟩, ⟨31, 4, .ro⟩]⟩]

/-- Registers of block GEA. -/
def famsGEA : List RegFam := [
  ⟨0x800000, 1, 0x4, 1, 0x4, 0x0, [⟨4, 0, .wo⟩, ⟨31, 5, .ro⟩]⟩,
  ⟨0x800004, 1, 0x4, 1, 0x4, 0x0, [⟨31, 0, .rw⟩]⟩,
  ⟨0x800008, 1, 0x4, 1, 0x4, 0x0, [⟨31, 0, .rw⟩]⟩,
  ⟨0x80000C, 1, 0x4, 1, 0x4, 0x0, [⟨20, 0, .rwl⟩, ⟨31, 21, .ro⟩]⟩,
  ⟨0x800010, 1, 0x4, 1, 0x4, 0x0, [⟨31, 0, .ro⟩]⟩,
  ⟨0x800014, 1, 0x4, 1, 0x4, 0x0, [⟨31, 0, .ro⟩]⟩,
  ⟨0x800018, 1, 0x4, 1, 0x4, 0x0, [⟨31, 0, .ro⟩]⟩,
  ⟨0x80001C, 1, 0x4, 1, 0x4, 0x0, [⟨31, 0, .ro⟩]⟩,
  ⟨0x800020, 1, 0x4, 1, 0x4, 0x0, [⟨4, 0, .w1c⟩, ⟨31, 5, .ro⟩]⟩,
  ⟨0x800024, 1, 0x4, 1, 0x4, 0x0, [⟨4, 0, .rw⟩, ⟨31, 5, .ro⟩]⟩,
  ⟨0x800100, 64, 0x4, 1, 0x4, 0x0, [⟨31, 0, .ro⟩]⟩]

/-- Registers of block ZNT. -/
def famsZNT : List RegFam := [
  ⟨0x900000, 1, 0x4, 1, 0x4, 0x0, [⟨2, 0, .wo⟩, ⟨31, 3, .ro⟩]⟩,
  ⟨0x900004, 1, 0x4, 1, 0x4, 0x0, [⟨31, 0, .ro⟩]⟩,
  ⟨0x900008, 1, 0x4, 1, 0x4, 0x0, [⟨5, 0, .rwl⟩, ⟨31, 6, .ro⟩]⟩,
  ⟨0x90000C, 1, 0x4, 1, 0x4, 0x0, [⟨23, 0, .rwl⟩, ⟨31, 24, .ro⟩]⟩,
  ⟨0x900010, 1, 0x4, 1, 0x4, 0x0, [⟨22, 0, .rwl⟩, ⟨31, 23, .ro⟩]⟩,
  ⟨0x900014, 1, 0x4, 1, 0x4, 0x1, [⟨2, 0, .rwl⟩, ⟨31, 3, .ro⟩]⟩,
  ⟨0x900018, 1, 0x4, 1, 0x4, 0x0, [⟨31, 0, .ro⟩]⟩,
  ⟨0x90001C, 1, 0x4, 1, 0x4, 0x0, [⟨31, 0, .ro⟩]⟩,
  ⟨0x900020, 1, 0x4, 1, 0x4, 0x0, [⟨13, 0, .rw⟩, ⟨31, 14, .ro⟩]⟩,
  ⟨0x900024, 1, 0x4, 1, 0x4, 0x0, [⟨31, 0, .ro⟩]⟩,
  ⟨0x900028, 1, 0x4, 1, 0x4, 0x0, [⟨31, 0, .ro⟩]⟩,
  ⟨0x90002C, 1, 0x4, 1, 0x4, 0x0, [⟨31, 0, .ro⟩]⟩,
  ⟨0x900030, 1, 0x4, 1, 0x4, 0x0, [⟨31, 0, .ro⟩]⟩,
  ⟨0x900034, 1, 0x4, 1, 0x4, 0x0, [⟨3, 0, .w1c⟩, ⟨31, 4, .ro⟩]⟩,
  ⟨0x900038, 1, 0x4, 1, 0x4, 0x0, [⟨3, 0, .rw⟩, ⟨31, 4, .ro⟩]⟩,
  ⟨0x900100, 4, 0x20, 5, 0x4, 0x0, [⟨31, 0, .rwl⟩]⟩]

/-- Registers of block STU. -/
def famsSTU : List RegFam := [
  ⟨0xA00000, 1, 0x4, 1, 0x4, 0x0, [⟨1, 0, .wo⟩, ⟨31, 2, .ro⟩]⟩,
  ⟨0xA00004, 1, 0x4, 1, 0x4, 0x0, [⟨31, 0, .ro⟩]⟩,
  ⟨0xA00008, 1, 0x4, 1, 0x4, 0x0, [⟨5, 0, .rwl⟩, ⟨7, 6, .ro⟩, ⟨13, 8, .rwl⟩, ⟨31, 14, .ro⟩]⟩,
  ⟨0xA0000C, 1, 0x4, 1, 0x4, 0x0, [⟨31, 0, .wo⟩]⟩,
  ⟨0xA00010, 1, 0x4, 1, 0x4, 0x0, [⟨23, 0, .rw⟩, ⟨31, 24, .ro⟩]⟩,
  ⟨0xA00014, 1, 0x4, 1, 0x4, 0x0, [⟨23, 0, .rw⟩, ⟨31, 24, .ro⟩]⟩,
  ⟨0xA00018, 1, 0x4, 1, 0x4, 0x0, [⟨23, 0, .rw⟩, ⟨31, 24, .ro⟩]⟩,
  ⟨0xA0001C, 1, 0x4, 1, 0x4, 0x0, [⟨31, 0, .ro⟩]⟩,
  ⟨0xA00020, 1, 0x4, 1, 0x4, 0x0, [⟨31, 0, .ro⟩]⟩,
  ⟨0xA00024, 1, 0x4, 1, 0x4, 0x0, [⟨31, 0, .ro⟩]⟩,
  ⟨0xA00028, 1, 0x4, 1, 0x4, 0x0, [⟨31, 0, .ro⟩]⟩,
  ⟨0xA0002C, 1, 0x4, 1, 0x4, 0x0, [⟨31, 0, .ro⟩]⟩,
  ⟨0xA00030, 1, 0x4, 1, 0x4, 0x0, [⟨5, 0, .w1c⟩, ⟨31, 6, .ro⟩]⟩,
  ⟨0xA00034, 1, 0x4, 1, 0x4, 0x0, [⟨5, 0, .rw⟩, ⟨31, 6, .ro⟩]⟩,
  ⟨0xA00038, 1, 0x4, 1, 0x4, 0x0, [⟨11, 0, .rw⟩, ⟨31, 12, .ro⟩]⟩,
  ⟨0xA0003C, 1, 0x4, 1, 0x4, 0x0, [⟨31, 0, .ro⟩]⟩,
  ⟨0xA00040, 1, 0x4, 1, 0x4, 0x0, [⟨31, 0, .ro⟩]⟩,
  ⟨0xA00044, 1, 0x4, 1, 0x4, 0x0, [⟨31, 0, .ro⟩]⟩,
  ⟨0xA00100, 64, 0x4, 1, 0x4, 0x0, [⟨31, 0, .ro⟩]⟩]

/-- Registers of block TCE. -/
def famsTCE : List RegFam := [
  ⟨0xB00000, 1, 0x4, 1, 0x4, 0x0, [⟨1, 0, .wo⟩, ⟨31, 2, .ro⟩]⟩,
  ⟨0xB00004, 1, 0x4, 1, 0x4, 0x0, [⟨31, 0, .ro⟩]⟩,
  ⟨0xB00008, 1, 0x4, 1, 0x4, 0x0, [⟨31, 0, .ro⟩]⟩,
  ⟨0xB0000C, 1, 0x4, 1, 0x4, 0x0, [⟨31, 0, .ro⟩]⟩,
  ⟨0xB00010, 1, 0x4, 1, 0x4, 0x0, [⟨31, 0, .ro⟩]⟩,
  ⟨0xB00014, 1, 0x4, 1, 0x4, 0x0, [⟨31, 0, .ro⟩]⟩,
  ⟨0xB00018, 1, 0x4, 1, 0x4, 0x0, [⟨31, 0, .ro⟩]⟩,
  ⟨0xB0001C, 1, 0x4, 1, 0x4, 0x0, [⟨31, 0, .ro⟩]⟩,
  ⟨0xB00020, 1, 0x4, 1, 0x4, 0x0, [⟨3, 0, .w1c⟩, ⟨31, 4, .ro⟩]⟩,
  ⟨0xB00024, 1, 0x4, 1, 0x4, 0x0, [⟨3, 0, .rw⟩, ⟨31, 4, .ro⟩]⟩,
  ⟨0xB00100, 32, 0x8, 1, 0x4, 0x0, [⟨12, 0, .rwl⟩, ⟨31, 13, .ro⟩]⟩,
  ⟨0xB00104, 32, 0x8, 1, 0x4, 0x0, [⟨23, 0, .rwl⟩, ⟨31, 24, .ro⟩]⟩,
  ⟨0xB00200, 32, 0x4, 1, 0x4, 0x0, [⟨31, 0, .ro⟩]⟩]

/-- Registers of block ANC, part 1. -/
def famsANC1 : List RegFam := [
  ⟨0xC00000, 1, 0x4, 1, 0x4, 0x0, [⟨4, 0, .wo⟩, ⟨31, 5, .ro⟩]⟩,
  ⟨0xC00004, 1, 0x4, 1, 0x4, 0x0, [⟨31, 0, .ro⟩]⟩,
  ⟨0xC00008, 1, 0x4, 1, 0x4, 0x0, [⟨31, 0, .rw⟩]⟩,
  ⟨0xC0000C, 1, 0x4, 1, 0x4, 0x0, [⟨31, 0, .ro⟩]⟩,
  ⟨0xC00010, 1, 0x4, 1, 0x4, 0x0, [⟨31, 0, .ro⟩]⟩,
  ⟨0xC00014, 1, 0x4, 1, 0x4, 0x0, [⟨31, 0, .ro⟩]⟩,
  ⟨0xC00018, 1, 0x4, 1, 0x4, 0x0, [⟨31, 0, .ro⟩]⟩,
  ⟨0xC0001C, 1, 0x4, 1, 0x4, 0x0, [⟨31, 0, .ro⟩]⟩,
  ⟨0xC00020, 1, 0x4, 1, 0x4, 0x0, [⟨31, 0, .ro⟩]⟩,
  ⟨0xC00024, 1, 0x4, 1, 0x4, 0x0, [⟨31, 0, .ro⟩]⟩,
  ⟨0xC00028, 1, 0x4, 1, 0x4, 0x0, [⟨31, 0, .ro⟩]⟩,
  ⟨0xC0002C, 1, 0x4, 1, 0x4, 0x0, [⟨31, 0, .ro⟩]⟩,
  ⟨0xC00030, 1, 0x4, 1, 0x4, 0x0, [⟨31, 0, .ro⟩]⟩,
  ⟨0xC00034, 1, 0x4, 1, 0x4, 0x0, [⟨31, 0, .ro⟩]⟩,
  ⟨0xC00038, 1, 0x4, 1, 0x4, 0x0, [⟨31, 0, .ro⟩]⟩,
  ⟨0xC0003C, 1, 0x4, 1, 0x4, 0x0, [⟨31, 0, .ro⟩]⟩,
  ⟨0xC00040, 1, 0x4, 1, 0x4, 0x0, [⟨31, 0, .ro⟩]⟩,
  ⟨0xC00044, 1, 0x4, 1, 0x4, 0x0, [⟨31, 0, .ro⟩]⟩,
  ⟨0xC00048, 1, 0x4, 1, 0x4, 0x0, [⟨31, 0, .ro⟩]⟩,
  ⟨0xC0004C, 1, 0x4, 1, 0x4, 0x0, [⟨31, 0, .ro⟩]⟩]

/-- Registers of block ANC, part 2. -/
def famsANC2 : List RegFam := [
  ⟨0xC00050, 1, 0x4, 1, 0x4, 0x0, [⟨31, 0, .ro⟩]⟩,
  ⟨0xC00054, 1, 0x4, 1, 0x4, 0x0, [⟨31, 0, .ro⟩]⟩,
  ⟨0xC00058, 1, 0x4, 1, 0x4, 0x0, [⟨31, 0, .ro⟩]⟩,
  ⟨0xC0005C, 1, 0x4, 1, 0x4, 0x0, [⟨7, 0, .w1c⟩, ⟨31, 8, .ro⟩]⟩,
  ⟨0xC00060, 1, 0x4, 1, 0x4, 0x0, [⟨7, 0, .rw⟩, ⟨31, 8, .ro⟩]⟩,
  ⟨0xC00080, 1, 0x4, 1, 0x4, 0x18200400, [⟨31, 0, .rwl⟩]⟩,
  ⟨0xC00084, 1, 0x4, 1, 0x4, 0x1000064, [⟨31, 0, .rwl⟩]⟩,
  ⟨0xC00088, 1, 0x4, 1, 0x4, 0x14301E08, [⟨3, 0, .rwl⟩, ⟨7, 4, .ro⟩, ⟨31, 8, .rwl⟩]⟩,
  ⟨0xC0008C, 1, 0x4, 1, 0x4, 0x3E8016D, [⟨31, 0, .rwl⟩]⟩,
  ⟨0xC00090, 1, 0x4, 1, 0x4, 0x7A120, [⟨23, 0, .rwl⟩, ⟨31, 24, .ro⟩]⟩]

/-- Registers of block ANC. -/
def famsANC : List RegFam := famsANC1 ++ famsANC2

/-- Registers of block DMC, part 1. -/
def famsDMC1 : List RegFam := [
  ⟨0xD00000, 1, 0x4, 1, 0x4, 0x0, [⟨3, 0, .wo⟩, ⟨31, 4, .ro⟩]⟩,
  ⟨0xD00004, 1, 0x4, 1, 0x4, 0x0, [⟨31, 0, .ro⟩]⟩,
  ⟨0xD00008, 1, 0x4, 1, 0x4, 0x0, [⟨31, 0, .ro⟩]⟩,
  ⟨0xD0000C, 1, 0x4, 1, 0x4, 0x0, [⟨5, 0, .rw⟩, ⟨31, 6, .ro⟩]⟩,
  ⟨0xD00010, 1, 0x4, 1, 0x4, 0x0, [⟨31, 0, .rw⟩]⟩,
  ⟨0xD00014, 1, 0x4, 1, 0x4, 0x0, [⟨31, 0, .rw⟩]⟩,
  ⟨0xD00018, 1, 0x4, 1, 0x4, 0x0, [⟨29, 0, .rw⟩, ⟨31, 30, .ro⟩]⟩,
  ⟨0xD0001C, 1, 0x4, 1, 0x4, 0x0, [⟨21, 0, .rw⟩, ⟨31, 22, .ro⟩]⟩,
  ⟨0xD00020, 1, 0x4, 1, 0x4, 0x3E80000, [⟨0, 0, .rw⟩, ⟨3, 1, .ro⟩, ⟨31, 4, .rw⟩]⟩,
  ⟨0xD00024, 1, 0x4, 1, 0x4, 0x100AAA, [⟨11, 0, .rw⟩, ⟨15, 12, .ro⟩, ⟨23, 16, .rw⟩, ⟨31, 24, .ro⟩]⟩,
  ⟨0xD00028, 1, 0x4, 1, 0x4, 0x1803, [⟨1, 0, .rw⟩, ⟨7, 2, .ro⟩, ⟨15, 8, .rw⟩, ⟨31, 16, .ro⟩]⟩,
  ⟨0xD0002C, 1, 0x4, 1, 0x4, 0x0, [⟨15, 0, .rw⟩, ⟨31, 16, .ro⟩]⟩,
  ⟨0xD00030, 1, 0x4, 1, 0x4, 0x0, [⟨31, 0, .ro⟩]⟩,
  ⟨0xD00034, 1, 0x4, 1, 0x4, 0x0, [⟨31, 0, .ro⟩]⟩,
  ⟨0xD00038, 1, 0x4, 1, 0x4, 0x0, [⟨31, 0, .ro⟩]⟩,
  ⟨0xD0003C, 1, 0x4, 1, 0x4, 0x0, [⟨31, 0, .ro⟩]⟩,
  ⟨0xD00040, 1, 0x4, 1, 0x4, 0x0, [⟨31, 0, .ro⟩]⟩,
  ⟨0xD00044, 1, 0x4, 1, 0x4, 0x0, [⟨31, 0, .ro⟩]⟩,
  ⟨0xD00048, 1, 0x4, 1, 0x4, 0x0, [⟨31, 0, .ro⟩]⟩,
  ⟨0xD0004C, 1, 0x4, 1, 0x4, 0x0, [⟨31, 0, .ro⟩]⟩]

/-- Registers of block DMC, part 2. -/
def famsDMC2 : List RegFam := [
  ⟨0xD00050, 1, 0x4, 1, 0x4, 0x0, [⟨31, 0, .ro⟩]⟩,
  ⟨0xD00054, 1, 0x4, 1, 0x4, 0x0, [⟨31, 0, .rw⟩]⟩,
  ⟨0xD00058, 1, 0x4, 1, 0x4, 0x0, [⟨0, 0, .rw⟩, ⟨31, 1, .ro⟩]⟩,
  ⟨0xD0005C, 1, 0x4, 1, 0x4, 0x0, [⟨0, 0, .wo⟩, ⟨31, 1, .ro⟩]⟩,
  ⟨0xD00060, 8, 0x4, 1, 0x4, 0x0, [⟨31, 0, .ro⟩]⟩,
  ⟨0xD00080, 1, 0x4, 1, 0x4, 0x0, [⟨4, 0, .w1c⟩, ⟨31, 5, .ro⟩]⟩,
  ⟨0xD00084, 1, 0x4, 1, 0x4, 0x0, [⟨4, 0, .rw⟩, ⟨31, 5, .ro⟩]⟩,
  ⟨0xD00100, 32, 0x8, 1, 0x4, 0x0, [⟨31, 0, .ro⟩]⟩,
  ⟨0xD00104, 32, 0x8, 1, 0x4, 0x0, [⟨31, 0, .ro⟩]⟩]

/-- Registers of block DMC. -/
def famsDMC : List RegFam := famsDMC1 ++ famsDMC2

/-- Registers of block CVU. -/
def famsCVU : List RegFam := [
  ⟨0xD80000, 1, 0x4, 1, 0x4, 0x0, [⟨0, 0, .wo⟩, ⟨31, 1, .ro⟩]⟩,
  ⟨0xD80004, 1, 0x4, 1, 0x4, 0x0, [⟨15, 0, .w1c⟩, ⟨31, 16, .ro⟩]⟩,
  ⟨0xD80008, 1, 0x4, 1, 0x4, 0x0, [⟨15, 0, .rw⟩, ⟨31, 16, .ro⟩]⟩,
  ⟨0xD8000C, 1, 0x4, 1, 0x4, 0x0, [⟨31, 0, .ro⟩]⟩,
  ⟨0xD80100, 8, 0x40, 1, 0x4, 0x0, [⟨3, 0, .rw⟩, ⟨31, 4, .ro⟩]⟩,
  ⟨0xD80104, 8, 0x40, 1, 0x4, 0x0, [⟨31, 0, .wo⟩]⟩,
  ⟨0xD80108, 8, 0x40, 1, 0x4, 0x0, [⟨31, 0, .wo⟩]⟩,
  ⟨0xD8010C, 8, 0x40, 1, 0x4, 0x0, [⟨31, 0, .rw⟩]⟩,
  ⟨0xD80110, 8, 0x40, 1, 0x4, 0x0, [⟨0, 0, .rw⟩, ⟨31, 1, .ro⟩]⟩,
  ⟨0xD80114, 8, 0x40, 1, 0x4, 0x0, [⟨31, 0, .rw⟩]⟩,
  ⟨0xD80118, 8, 0x40, 1, 0x4, 0xFFFFFFFF, [⟨31, 0, .rw⟩]⟩,
  ⟨0xD8011C, 8, 0x40, 1, 0x4, 0x0, [⟨31, 0, .rw⟩]⟩,
  ⟨0xD80120, 8, 0x40, 1, 0x4, 0x0, [⟨31, 0, .rw⟩]⟩,
  ⟨0xD80124, 8, 0x40, 1, 0x4, 0x0, [⟨31, 0, .rw⟩]⟩,
  ⟨0xD80128, 8, 0x40, 1, 0x4, 0x0, [⟨31, 0, .ro⟩]⟩,
  ⟨0xD8012C, 8, 0x40, 1, 0x4, 0x0, [⟨31, 0, .ro⟩]⟩,
  ⟨0xD80130, 8, 0x40, 1, 0x4, 0x0, [⟨31, 0, .ro⟩]⟩]

/-- Registers of block TTU, part 1. -/
def famsTTU1 : List RegFam := [
  ⟨0xE00000, 1, 0x4, 1, 0x4, 0x0, [⟨3, 0, .wo⟩, ⟨31, 4, .ro⟩]⟩,
  ⟨0xE00004, 1, 0x4, 1, 0x4, 0x0, [⟨31, 0, .ro⟩]⟩,
  ⟨0xE00008, 1, 0x4, 1, 0x4, 0x130, [⟨15, 0, .rws⟩, ⟨31, 16, .ro⟩]⟩,
  ⟨0xE0000C, 1, 0x4, 1, 0x4, 0x2710, [⟨17, 0, .rws⟩, ⟨31, 18, .ro⟩]⟩,
  ⟨0xE00010, 1, 0x4, 1, 0x4, 0x3C0258, [⟨31, 0, .rws⟩]⟩,
  ⟨0xE00014, 1, 0x4, 1, 0x4, 0x0, [⟨31, 0, .rws⟩]⟩,
  ⟨0xE00018, 1, 0x4, 1, 0x4, 0x0, [⟨31, 0, .rws⟩]⟩,
  ⟨0xE0001C, 1, 0x4, 1, 0x4, 0x0, [⟨31, 0, .ro⟩]⟩,
  ⟨0xE00020, 1, 0x4, 1, 0x4, 0x0, [⟨31, 0, .ro⟩]⟩,
  ⟨0xE00024, 1, 0x4, 1, 0x4, 0x0, [⟨31, 0, .ro⟩]⟩,
  ⟨0xE00028, 1, 0x4, 1, 0x4, 0x0, [⟨31, 0, .ro⟩]⟩,
  ⟨0xE0002C, 1, 0x4, 1, 0x4, 0x0, [⟨31, 0, .ro⟩]⟩,
  ⟨0xE00030, 1, 0x4, 1, 0x4, 0x0, [⟨31, 0, .ro⟩]⟩,
  ⟨0xE00034, 1, 0x4, 1, 0x4, 0x0, [⟨31, 0, .ro⟩]⟩,
  ⟨0xE00038, 1, 0x4, 1, 0x4, 0x0, [⟨31, 0, .ro⟩]⟩,
  ⟨0xE0003C, 1, 0x4, 1, 0x4, 0x0, [⟨9, 0, .w1c⟩, ⟨31, 10, .ro⟩]⟩,
  ⟨0xE00040, 1, 0x4, 1, 0x4, 0x0, [⟨9, 0, .rw⟩, ⟨31, 10, .ro⟩]⟩,
  ⟨0xE00044, 1, 0x4, 1, 0x4, 0x0, [⟨31, 0, .wo⟩]⟩,
  ⟨0xE00100, 8, 0x40, 1, 0x4, 0x0, [⟨21, 0, .rw⟩, ⟨31, 22, .ro⟩]⟩,
  ⟨0xE00104, 8, 0x40, 1, 0x4, 0x1, [⟨31, 0, .rw⟩]⟩]

/-- Registers of block TTU, part 2. -/
def famsTTU2 : List RegFam := [
  ⟨0xE00108, 8, 0x40, 1, 0x4, 0x0, [⟨31, 0, .ro⟩]⟩,
  ⟨0xE0010C, 8, 0x40, 1, 0x4, 0x0, [⟨31, 0, .ro⟩]⟩,
  ⟨0xE00110, 8, 0x40, 1, 0x4, 0x0, [⟨31, 0, .ro⟩]⟩,
  ⟨0xE00114, 8, 0x40, 1, 0x4, 0x0, [⟨31, 0, .ro⟩]⟩,
  ⟨0xE00118, 8, 0x40, 1, 0x4, 0x0, [⟨31, 0, .ro⟩]⟩,
  ⟨0xE0011C, 8, 0x40, 1, 0x4, 0x0, [⟨31, 0, .ro⟩]⟩,
  ⟨0xE00120, 8, 0x40, 1, 0x4, 0x0, [⟨31, 0, .ro⟩]⟩,
  ⟨0xE00124, 8, 0x40, 1, 0x4, 0x0, [⟨31, 0, .ro⟩]⟩,
  ⟨0xE00128, 8, 0x40, 1, 0x4, 0x0, [⟨31, 0, .ro⟩]⟩,
  ⟨0xE00400, 4, 0x80, 1, 0x4, 0x0, [⟨8, 0, .rw⟩, ⟨31, 9, .ro⟩]⟩,
  ⟨0xE00404, 4, 0x80, 1, 0x4, 0x0, [⟨23, 0, .rw⟩, ⟨31, 24, .ro⟩]⟩,
  ⟨0xE00408, 4, 0x80, 1, 0x4, 0x0, [⟨31, 0, .ro⟩]⟩,
  ⟨0xE0040C, 4, 0x80, 1, 0x4, 0x0, [⟨31, 0, .ro⟩]⟩,
  ⟨0xE00410, 4, 0x80, 1, 0x4, 0x0, [⟨31, 0, .ro⟩]⟩,
  ⟨0xE00414, 4, 0x80, 1, 0x4, 0x0, [⟨31, 0, .ro⟩]⟩,
  ⟨0xE00418, 4, 0x80, 1, 0x4, 0x0, [⟨31, 0, .ro⟩]⟩,
  ⟨0xE0041C, 4, 0x80, 1, 0x4, 0x0, [⟨31, 0, .ro⟩]⟩,
  ⟨0xE00420, 4, 0x80, 1, 0x4, 0x0, [⟨31, 0, .ro⟩]⟩,
  ⟨0xE00424, 4, 0x80, 1, 0x4, 0x0, [⟨31, 0, .ro⟩]⟩,
  ⟨0xE00428, 4, 0x80, 1, 0x4, 0x0, [⟨31, 0, .ro⟩]⟩]

/-- Registers of block TTU, part 3. -/
def famsTTU3 : List RegFam := [
  ⟨0xE0042C, 4, 0x80, 1, 0x4, 0x0, [⟨31, 0, .ro⟩]⟩,
  ⟨0xE00430, 4, 0x80, 1, 0x4, 0x0, [⟨31, 0, .ro⟩]⟩,
  ⟨0xE00434, 4, 0x80, 1, 0x4, 0x0, [⟨31, 0, .ro⟩]⟩,
  ⟨0xE00438, 4, 0x80, 1, 0x4, 0x0, [⟨31, 0, .ro⟩]⟩,
  ⟨0xE0043C, 4, 0x80, 1, 0x4, 0x0, [⟨31, 0, .ro⟩]⟩,
  ⟨0xE00440, 4, 0x80, 1, 0x4, 0x0, [⟨31, 0, .rw⟩]⟩]

/-- Registers of block TTU. -/
def famsTTU : List RegFam := famsTTU1 ++ famsTTU2 ++ famsTTU3

/-- Registers of block VPF. -/
def famsVPF : List RegFam := [
  ⟨0xE80000, 1, 0x4, 1, 0x4, 0x0, [⟨4, 0, .wo⟩, ⟨31, 5, .ro⟩]⟩,
  ⟨0xE80004, 1, 0x4, 1, 0x4, 0x0, [⟨31, 0, .ro⟩]⟩,
  ⟨0xE80008, 1, 0x4, 1, 0x4, 0xA000010, [⟨1, 0, .rwl⟩, ⟨2, 2, .ro⟩, ⟨30, 3, .rwl⟩, ⟨31, 31, .ro⟩]⟩,
  ⟨0xE8000C, 1, 0x4, 1, 0x4, 0x0, [⟨24, 0, .rwl⟩, ⟨31, 25, .ro⟩]⟩,
  ⟨0xE80010, 1, 0x4, 1, 0x4, 0x5F5E100, [⟨31, 0, .rwl⟩]⟩,
  ⟨0xE80014, 1, 0x4, 1, 0x4, 0x0, [⟨31, 0, .ro⟩]⟩,
  ⟨0xE80018, 1, 0x4, 1, 0x4, 0x0, [⟨31, 0, .ro⟩]⟩,
  ⟨0xE8001C, 1, 0x4, 1, 0x4, 0x0, [⟨4, 0, .w1c⟩, ⟨31, 5, .ro⟩]⟩,
  ⟨0xE80020, 1, 0x4, 1, 0x4, 0x0, [⟨4, 0, .rw⟩, ⟨31, 5, .ro⟩]⟩,
  ⟨0xE80100, 8, 0x40, 1, 0x4, 0x0, [⟨12, 0, .rwl⟩, ⟨31, 13, .ro⟩]⟩,
  ⟨0xE80104, 8, 0x40, 1, 0x4, 0x0, [⟨10, 0, .rw⟩, ⟨31, 11, .ro⟩]⟩,
  ⟨0xE80108, 8, 0x40, 1, 0x4, 0x0, [⟨23, 0, .rwl⟩, ⟨31, 24, .ro⟩]⟩,
  ⟨0xE8010C, 8, 0x40, 1, 0x4, 0x0, [⟨31, 0, .rwl⟩]⟩,
  ⟨0xE80110, 8, 0x40, 1, 0x4, 0x0, [⟨31, 0, .rwl⟩]⟩,
  ⟨0xE80114, 8, 0x40, 1, 0x4, 0x0, [⟨31, 0, .rwl⟩]⟩,
  ⟨0xE80118, 8, 0x40, 1, 0x4, 0x0, [⟨31, 0, .rwl⟩]⟩,
  ⟨0xE8011C, 8, 0x40, 1, 0x4, 0x80000000, [⟨31, 0, .ro⟩]⟩,
  ⟨0xE80120, 8, 0x40, 1, 0x4, 0x0, [⟨31, 0, .ro⟩]⟩,
  ⟨0xE80124, 8, 0x40, 1, 0x4, 0x0, [⟨31, 0, .ro⟩]⟩,
  ⟨0xE80128, 8, 0x40, 1, 0x4, 0x0, [⟨31, 0, .ro⟩]⟩]

/-- Registers of block DLK. -/
def famsDLK : List RegFam := [
  ⟨0xEC0000, 1, 0x4, 1, 0x4, 0x0, [⟨4, 0, .wo⟩, ⟨31, 5, .ro⟩]⟩,
  ⟨0xEC0004, 1, 0x4, 1, 0x4, 0x0, [⟨31, 0, .ro⟩]⟩,
  ⟨0xEC0008, 1, 0x4, 1, 0x4, 0x642710, [⟨25, 0, .rwl⟩, ⟨31, 26, .ro⟩]⟩,
  ⟨0xEC000C, 1, 0x4, 1, 0x4, 0x0, [⟨31, 0, .ro⟩]⟩,
  ⟨0xEC0010, 1, 0x4, 1, 0x4, 0x0, [⟨4, 0, .rw⟩, ⟨7, 5, .ro⟩, ⟨21, 8, .rw⟩, ⟨31, 22, .ro⟩]⟩,
  ⟨0xEC0014, 1, 0x4, 1, 0x4, 0x0, [⟨31, 0, .ro⟩]⟩,
  ⟨0xEC0020, 8, 0x4, 1, 0x4, 0x0, [⟨31, 0, .rw⟩]⟩,
  ⟨0xEC0040, 1, 0x4, 1, 0x4, 0x0, [⟨3, 0, .w1c⟩, ⟨31, 4, .ro⟩]⟩,
  ⟨0xEC0044, 1, 0x4, 1, 0x4, 0x0, [⟨3, 0, .rw⟩, ⟨31, 4, .ro⟩]⟩,
  ⟨0xEC0110, 31, 0x10, 1, 0x4, 0x0, [⟨31, 0, .ro⟩]⟩,
  ⟨0xEC0114, 31, 0x10, 1, 0x4, 0x0, [⟨31, 0, .ro⟩]⟩,
  ⟨0xEC0118, 31, 0x10, 1, 0x4, 0x0, [⟨31, 0, .ro⟩]⟩,
  ⟨0xEC011C, 31, 0x10, 1, 0x4, 0x0, [⟨31, 0, .ro⟩]⟩]

/-- Registers of block HIF, part 1. -/
def famsHIF1 : List RegFam := [
  ⟨0xF00000, 1, 0x4, 1, 0x4, 0x0, [⟨1, 0, .wo⟩, ⟨31, 2, .ro⟩]⟩,
  ⟨0xF00004, 1, 0x4, 1, 0x4, 0x0, [⟨31, 0, .ro⟩]⟩,
  ⟨0xF00008, 1, 0x4, 1, 0x4, 0x0, [⟨19, 0, .ro⟩, ⟨31, 20, .rw⟩]⟩,
  ⟨0xF0000C, 1, 0x4, 1, 0x4, 0x0, [⟨2, 0, .rw⟩, ⟨31, 3, .ro⟩]⟩,
  ⟨0xF00010, 1, 0x4, 1, 0x4, 0x0, [⟨31, 0, .rw⟩]⟩,
  ⟨0xF00014, 1, 0x4, 1, 0x4, 0x0, [⟨31, 0, .rw⟩]⟩,
  ⟨0xF00018, 1, 0x4, 1, 0x4, 0x0, [⟨31, 0, .rw⟩]⟩,
  ⟨0xF0001C, 1, 0x4, 1, 0x4, 0x0, [⟨31, 0, .rw⟩]⟩,
  ⟨0xF00020, 1, 0x4, 1, 0x4, 0x0, [⟨14, 0, .rw⟩, ⟨15, 15, .ro⟩, ⟨21, 16, .rw⟩, ⟨31, 22, .ro⟩]⟩,
  ⟨0xF00024, 1, 0x4, 1, 0x4, 0x0, [⟨31, 0, .wo⟩]⟩,
  ⟨0xF00028, 1, 0x4, 1, 0x4, 0x0, [⟨31, 0, .rw⟩]⟩,
  ⟨0xF0002C, 1, 0x4, 1, 0x4, 0x0, [⟨7, 0, .rw⟩, ⟨31, 8, .ro⟩]⟩,
  ⟨0xF00030, 1, 0x4, 1, 0x4, 0x0, [⟨31, 0, .ro⟩]⟩,
  ⟨0xF00034, 1, 0x4, 1, 0x4, 0x0, [⟨31, 0, .ro⟩]⟩,
  ⟨0xF00038, 1, 0x4, 1, 0x4, 0x0, [⟨31, 0, .ro⟩]⟩,
  ⟨0xF0003C, 1, 0x4, 1, 0x4, 0x0, [⟨31, 0, .ro⟩]⟩,
  ⟨0xF00040, 1, 0x4, 1, 0x4, 0x0, [⟨31, 0, .ro⟩]⟩,
  ⟨0xF00044, 1, 0x4, 1, 0x4, 0x0, [⟨31, 0, .ro⟩]⟩,
  ⟨0xF00048, 1, 0x4, 1, 0x4, 0x0, [⟨31, 0, .ro⟩]⟩,
  ⟨0xF00050, 6, 0x4, 1, 0x4, 0x0, [⟨5, 0, .rw⟩, ⟨6, 6, .ro⟩, ⟨13, 7, .rw⟩, ⟨14, 14, .ro⟩, ⟨21, 15, .rw⟩, ⟨22, 22, .ro⟩, ⟨29, 23, .rw⟩, ⟨30, 30, .ro⟩, ⟨31, 31, .rw⟩]⟩]

/-- Registers of block HIF, part 2. -/
def famsHIF2 : List RegFam := [
  ⟨0xF00068, 1, 0x4, 1, 0x4, 0x0, [⟨21, 0, .rw⟩, ⟨31, 22, .ro⟩]⟩,
  ⟨0xF0006C, 1, 0x4, 1, 0x4, 0x0, [⟨5, 0, .w1c⟩, ⟨31, 6, .ro⟩]⟩,
  ⟨0xF00070, 1, 0x4, 1, 0x4, 0x0, [⟨5, 0, .rw⟩, ⟨31, 6, .ro⟩]⟩,
  ⟨0xF01000, 256, 0x4, 1, 0x4, 0x0, [⟨31, 0, .wo⟩]⟩,
  ⟨0xF01400, 256, 0x4, 1, 0x4, 0x0, [⟨31, 0, .wo⟩]⟩,
  ⟨0xF02000, 32, 0x20, 1, 0x4, 0x0, [⟨31, 0, .rw⟩]⟩,
  ⟨0xF02004, 32, 0x20, 1, 0x4, 0x0, [⟨31, 0, .rw⟩]⟩,
  ⟨0xF02008, 32, 0x20, 1, 0x4, 0x0, [⟨11, 0, .rw⟩, ⟨31, 12, .ro⟩]⟩,
  ⟨0xF0200C, 32, 0x20, 1, 0x4, 0x0, [⟨31, 0, .rw⟩]⟩,
  ⟨0xF02010, 32, 0x20, 1, 0x4, 0x0, [⟨31, 0, .rw⟩]⟩,
  ⟨0xF02014, 32, 0x20, 1, 0x4, 0x0, [⟨31, 0, .rw⟩]⟩,
  ⟨0xF02018, 32, 0x20, 1, 0x4, 0x0, [⟨31, 0, .ro⟩]⟩,
  ⟨0xF0201C, 32, 0x20, 1, 0x4, 0x0, [⟨31, 0, .ro⟩]⟩,
  ⟨0xF30000, 64, 0x10, 1, 0x4, 0x0, [⟨31, 0, .rw⟩]⟩,
  ⟨0xF30004, 64, 0x10, 1, 0x4, 0x0, [⟨31, 0, .rw⟩]⟩,
  ⟨0xF30008, 64, 0x10, 1, 0x4, 0x0, [⟨31, 0, .rw⟩]⟩,
  ⟨0xF3000C, 64, 0x10, 1, 0x4, 0x1, [⟨0, 0, .rw⟩, ⟨31, 1, .ro⟩]⟩,
  ⟨0xF31000, 2, 0x4, 1, 0x4, 0x0, [⟨31, 0, .ro⟩]⟩]

/-- Registers of block HIF. -/
def famsHIF : List RegFam := famsHIF1 ++ famsHIF2

/-- Registers of block CSP. -/
def famsCSP : List RegFam := [
  ⟨0xF40000, 1, 0x4, 1, 0x4, 0x0, [⟨31, 0, .wo⟩]⟩,
  ⟨0xF40004, 1, 0x4, 1, 0x4, 0x0, [⟨31, 0, .ro⟩]⟩,
  ⟨0xF40008, 1, 0x4, 1, 0x4, 0x500, [⟨1, 0, .rwl⟩, ⟨7, 2, .ro⟩, ⟨31, 8, .rwl⟩]⟩,
  ⟨0xF4000C, 1, 0x4, 1, 0x4, 0x0, [⟨31, 0, .ro⟩]⟩,
  ⟨0xF40010, 4, 0x4, 1, 0x4, 0x0, [⟨31, 0, .ro⟩]⟩,
  ⟨0xF40020, 1, 0x4, 1, 0x4, 0x0, [⟨31, 0, .ro⟩]⟩,
  ⟨0xF40024, 1, 0x4, 1, 0x4, 0x0, [⟨4, 0, .rwl⟩, ⟨31, 5, .ro⟩]⟩,
  ⟨0xF40028, 1, 0x4, 1, 0x4, 0x0, [⟨31, 0, .rwl⟩]⟩,
  ⟨0xF4002C, 1, 0x4, 1, 0x4, 0x0, [⟨0, 0, .rwl⟩, ⟨31, 1, .ro⟩]⟩,
  ⟨0xF40030, 2, 0x4, 1, 0x4, 0x0, [⟨31, 0, .ro⟩]⟩,
  ⟨0xF40038, 1, 0x4, 1, 0x4, 0x0, [⟨31, 0, .ro⟩]⟩,
  ⟨0xF4003C, 1, 0x4, 1, 0x4, 0x0, [⟨5, 0, .w1c⟩, ⟨31, 6, .ro⟩]⟩,
  ⟨0xF40040, 1, 0x4, 1, 0x4, 0x0, [⟨5, 0, .rw⟩, ⟨31, 6, .ro⟩]⟩]

/-- Registers of block ALM. -/
def famsALM : List RegFam := [
  ⟨0xF80000, 1, 0x4, 1, 0x4, 0x0, [⟨1, 0, .wo⟩, ⟨31, 2, .ro⟩]⟩,
  ⟨0xF80004, 1, 0x4, 1, 0x4, 0x0, [⟨31, 0, .ro⟩]⟩,
  ⟨0xF80008, 4, 0x4, 1, 0x4, 0x0, [⟨31, 0, .ro⟩]⟩,
  ⟨0xF80018, 1, 0x4, 1, 0x4, 0x0, [⟨31, 0, .ro⟩]⟩,
  ⟨0xF8001C, 1, 0x4, 1, 0x4, 0x0, [⟨31, 0, .ro⟩]⟩,
  ⟨0xF80020, 1, 0x4, 1, 0x4, 0x0, [⟨31, 0, .ro⟩]⟩,
  ⟨0xF80024, 1, 0x4, 1, 0x4, 0x0, [⟨31, 0, .ro⟩]⟩,
  ⟨0xF80028, 1, 0x4, 1, 0x4, 0x0, [⟨31, 0, .ro⟩]⟩,
  ⟨0xF8002C, 1, 0x4, 1, 0x4, 0x223E, [⟨31, 0, .rwl⟩]⟩,
  ⟨0xF80030, 1, 0x4, 1, 0x4, 0x0, [⟨31, 0, .ro⟩]⟩,
  ⟨0xF80034, 1, 0x4, 1, 0x4, 0x0, [⟨5, 0, .rw⟩, ⟨31, 6, .ro⟩]⟩,
  ⟨0xF80038, 1, 0x4, 1, 0x4, 0x0, [⟨31, 0, .ro⟩]⟩,
  ⟨0xF8003C, 1, 0x4, 1, 0x4, 0x0, [⟨31, 0, .ro⟩]⟩,
  ⟨0xF80040, 1, 0x4, 1, 0x4, 0x7FC00000, [⟨31, 0, .rw⟩]⟩,
  ⟨0xF80044, 1, 0x4, 1, 0x4, 0x0, [⟨31, 0, .ro⟩]⟩,
  ⟨0xF80048, 1, 0x4, 1, 0x4, 0x0, [⟨31, 0, .ro⟩]⟩,
  ⟨0xF8004C, 1, 0x4, 1, 0x4, 0x0, [⟨3, 0, .w1c⟩, ⟨31, 4, .ro⟩]⟩,
  ⟨0xF80050, 1, 0x4, 1, 0x4, 0x0, [⟨3, 0, .rw⟩, ⟨31, 4, .ro⟩]⟩]

/-- The families of the block whose range of 23 Table 23-1 holds the offset. -/
def famsAt (off : Nat) : List RegFam :=
  if off < 0x100000 then famsGLB else if off < 0x200000 then famsPMU else if off < 0x300000 then famsSIL
  else if off < 0x400000 then famsMRS else if off < 0x500000 then famsPGU
  else if off < 0x600000 then famsFAFE ++ famsDDC else if off < 0x700000 then famsPCX
  else if off < 0x800000 then famsMAFE else if off < 0x900000 then famsGEA else if off < 0xA00000 then famsZNT
  else if off < 0xB00000 then famsSTU else if off < 0xC00000 then famsTCE else if off < 0xD00000 then famsANC
  else if off < 0xD80000 then famsDMC else if off < 0xE00000 then famsCVU else if off < 0xE80000 then famsTTU
  else if off < 0xEC0000 then famsVPF else if off < 0xF00000 then famsDLK else if off < 0xF40000 then famsHIF
  else if off < 0xF80000 then famsCSP else if off < 0xFC0000 then famsALM else []

/-- Whether an offset is one of a family's registers. -/
def RegFam.has (f : RegFam) (off : Nat) : Bool :=
  let d := off - f.base
  decide (f.base ≤ off) && decide (d / f.s1 < f.n1) && decide (d % f.s1 % f.s2 = 0) && decide (d % f.s1 / f.s2 < f.n2)

/-- The family an offset belongs to; none where 23 R564 says the offset names no register. -/
def famOf (off : Nat) : Option RegFam := (famsAt off).find? (·.has off)

/-- The reset value of the register at an offset (23 R566, Table 23-3); 0 where there is no register. -/
def resetWord (off : Nat) : BitVec 32 :=
  match famOf off with
  | some f => BitVec.ofNat 32 f.reset
  | none => 0

/-- The bits of a field as a mask. -/
def RegField.mask (f : RegField) : BitVec 32 := BitVec.ofNat 32 (2 ^ (f.hi + 1) - 2 ^ f.lo)

/-- The bits of a register that carry an access code. -/
def RegFam.maskOf (f : RegFam) (a : Access) : BitVec 32 :=
  f.fields.foldl (fun m x => if x.acc = a then m ||| x.mask else m) 0

/-- What a 32-bit write leaves in a register, field by field (00 Table 0-4, R20): `locked` is whether an
image is ACTIVE. A WO field stores nothing. -/
def RegFam.applyWrite (f : RegFam) (locked : Bool) (old w : BitVec 32) : BitVec 32 :=
  let set := f.maskOf .rw ||| f.maskOf .rws ||| (if locked then 0 else f.maskOf .rwl)
  let old1 := (old &&& ~~~set) ||| (w &&& set)
  (old1 &&& ~~~(w &&& f.maskOf .w1c)) ||| (w &&& f.maskOf .w1s)

/-- What a warm reset leaves in a register by its access codes alone: RWS fields keep their value, all
others take their reset value (00 Table 0-4, R22). -/
def RegFam.warmValue (f : RegFam) (old : BitVec 32) : BitVec 32 :=
  (old &&& f.maskOf .rws) ||| (BitVec.ofNat 32 f.reset &&& ~~~(f.maskOf .rws))

end Sys2Proof.Machine
end

