-- ==== Sys2Proof/Machine/State.lean ====
section
/-! DEFINITION. The state of the RZ-4810 as plain data, the reasons a step could stop, and the state after
power-on reset. Registers live in one canonical list of offset and value (`regs`); what the spec gives the
machine beside its registers stands in one structure per block. -/

namespace Sys2Proof.Machine

/-- Reasons a step could stop with a fault. No command of the spec stops the machine. -/
inductive Fault where
  /-- Raised by no meaning: every condition the spec calls a fault is a state of the block that raises it. Safe. -/
  | none
  deriving DecidableEq, Repr

/-- Reasons a step could be refused. -/
inductive Refusal where
  /-- Raised by an arm of exec whose command has no meaning yet. Safe: the step stops. -/
  | notModelled (mnemonic : String)
  deriving DecidableEq, Repr

/-- One entry of a unit's error log (01 R56). -/
structure LogEntry where
  frame : Nat
  code : Nat
  bin : Nat
  rep : Nat
  path : Nat
  deriving DecidableEq, Repr

/-- A unit's error log: at most 16 entries, oldest first, and LOG_OVERFLOW (01 R53, R56). -/
structure UnitLog where
  entries : List LogEntry
  overflow : Bool
  deriving DecidableEq, Repr

/-- The states of a TAP controller (22 R554: the port follows IEEE 1149.1). -/
inductive Tap where
  | testLogicReset | runTestIdle
  | selectDr | captureDr | shiftDr | exit1Dr | pauseDr | exit2Dr | updateDr
  | selectIr | captureIr | shiftIr | exit1Ir | pauseIr | exit2Ir | updateIr
  deriving DecidableEq, Repr

/-- Reset, supply, watchdog and start-up state beside the GLB registers (21 R516-R528). -/
structure GlbSt where
  /-- State of the JTAG TAP controller (22 R554: IEEE 1149.1). -/
  tap : Tap
  /-- Power-on reset is asserted. -/
  porHeld : Bool
  /-- The straps have been sampled since power-on (R518). -/
  strapsTaken : Bool
  /-- A warm reset is in progress (R517). -/
  warm : Bool
  /-- Causes that still hold the warm reset: RESET_N low, VDD_CORE out of range, junction too hot. -/
  pinLow : Bool
  coreLow : Bool
  hot : Bool
  /-- Instant at which the latest cause of a warm reset ended (R517). -/
  ended : Nat
  /-- Monotonic count at which the watchdog expires; none while it does not run (R525). -/
  wdtEnd : Option Nat
  /-- The timeout in force since the latest kick, in fast samples (R525). -/
  wdtLen : Nat
  /-- A flushing expiry waits for the ANC: the GLB_RESET_CAUSE bit it will set (R526, R528). -/
  flushCause : Option Nat
  /-- Instant of that expiry. -/
  flushAt : Nat
  /-- TJ_HIGH may be raised (R528). -/
  tjArmed : Bool
  /-- A temperature has been sampled since power-on. -/
  tjTaken : Bool
  /-- The accepted start-up header, empty without one (R519). -/
  header : Bytes
  deriving DecidableEq, Repr

/-- Power management state beside the PMU registers (17). -/
structure PmuSt where
  /-- Unit votes: key 13 x unit + domain, unlisted OFF = 3 (R448). -/
  votes : List (Nat × Nat)
  /-- Holds BOOT, SWITCH, DMC_PORT and PWRFAIL of Table 17-3 stand (R449). -/
  bootHold : Bool
  switchHold : Bool
  dmcPortHold : Bool
  pwrfailHold : Bool
  /-- PWRFAIL_N is asserted at the pin. -/
  pwrfailPin : Bool
  /-- The PMU_OFFLOG ring, oldest first, each entry its four words (R455). -/
  offlog : List (List Word)
  /-- The entry latched by a read of PMU_OFFLOG_W0. -/
  offLatch : List Word
  deriving DecidableEq, Repr

/-- A Limium session (18 R465-R471). Indexes are slot numbers. -/
structure Session where
  sqAddr : Nat
  cqAddr : Nat
  sqLog2 : Nat
  cqLog2 : Nat
  window : Nat
  vector : Nat
  quarantined : Bool
  /-- Expected sequence number E. -/
  expect : Word
  /-- Next SQ slot the HIF reads, and the tail the host wrote. -/
  sqHead : Nat
  sqTail : Nat
  /-- Next CQ slot the HIF writes, slots the host has not returned, and PHASE. -/
  cqTail : Nat
  cqUsed : Nat
  phase : Bool
  /-- Violations and QUARANTINED answers. -/
  viol : Nat
  /-- Instants of the latest violations, newest first, at most 64. -/
  hist : List Nat
  /-- Slots of the ring as the host last handed them over, not yet read (the CQ had no room). -/
  unread : List Bytes
  /-- Answers that wait for a CQ slot. -/
  heldAnswers : List Bytes
  deriving DecidableEq, Repr

/-- An accepted request that has not been answered (18 R469, 19 R488). -/
structure Req where
  origin : Origin
  seq : Word
  opcode : Nat
  member : Nat
  payload : Bytes
  /-- Its session has closed: the effect stands, the answer is discarded (18 R468). -/
  orphan : Bool
  /-- SESSION and SEQ of its header, copied into its answer; a forwarded request is known by its frame's SEQ. -/
  copy : Nat × Word
  deriving DecidableEq, Repr

/-- What a host-buffer transfer does when it ends well (18 R474, R478). -/
inductive DmaKind where
  /-- Image bytes for the PENDING bank from an offset; the last chunk carries FINAL. -/
  | imageChunk (off : Nat) (final : Bool)
  /-- A calibration record to append, applied when asked. -/
  | calAppend (apply : Bool)
  /-- Bytes for the host buffer and the answer's payload. -/
  | toHost (bytes payload : Bytes)
  /-- The same for an error log that is then emptied (unit paths). -/
  | errorLog (bytes payload : Bytes) (clear : List Nat)
  /-- The same for `n` drained violation log entries. -/
  | vlog (bytes payload : Bytes) (n : Nat)
  /-- Bytes of a host buffer that the head sends to a member as DATA frames (19 R488). -/
  | forward (member : Nat)
  deriving DecidableEq, Repr

/-- A host-buffer transfer in progress. -/
structure Transfer where
  origin : Origin
  seq : Word
  addr : Nat
  len : Nat
  /-- STATUS of the answer on success: CODE, SOURCE and DETAIL. -/
  code : Nat
  source : Nat
  detail : Nat
  kind : DmaKind
  deriving DecidableEq, Repr

/-- Where a waiting stream block came from (18 R480). -/
inductive BlockFrom where
  | dram
  /-- An engine group's output: the group, its pushes with this one, and the bytes' place in engine memory. -/
  | engine (group : Nat) (pushes : Nat) (place : Option (Nat × Nat))
  | block
  deriving DecidableEq, Repr

/-- A block waiting for room in a host ring: its bytes, and the spans of DRAM that follow them (09 R296). -/
structure WaitBlock where
  chan : Nat
  from_ : BlockFrom
  /-- Channel block number. -/
  seq : Nat
  data : Bytes
  spans : List (Nat × Nat)
  deriving DecidableEq, Repr

/-- Delivery state of a stream channel (18 R479). -/
structure StreamSt where
  seq : Nat
  dropBefore : Bool
  deriving DecidableEq, Repr

/-- Host interface state beside the HIF registers (18). -/
structure HifSt where
  /-- PERST_N is asserted. -/
  perst : Bool
  /-- Bus Master Enable, MSI-X Enable and MSI-X Function Mask of the configuration space (R460, R463). -/
  busMaster : Bool
  msixOn : Bool
  msixMask : Bool
  /-- Open sessions by number. -/
  sessions : List (Nat × Session)
  /-- Accepted, unanswered requests, oldest first. -/
  reqs : List Req
  /-- Host-buffer transfers in progress, oldest first (R474). -/
  transfers : List Transfer
  /-- The violation log, oldest first, and its read latch (R472). -/
  vlog : List (List Word)
  vlogLatch : List Word
  /-- Delivery state of the stream channels, by channel (R479). -/
  streams : List (Nat × StreamSt)
  /-- Stream blocks that wait for their ring or for bus mastering, oldest first (R480). -/
  waiting : List WaitBlock
  /-- Source levels as last seen (R463). -/
  levels : BitVec 22
  /-- Doorbells remembered while Bus Master Enable is 0: session and tail (R460). -/
  doorbells : List (Nat × Nat)
  /-- Configuration requests are answered with retry status (21 R524). -/
  retry : Bool
  deriving DecidableEq, Repr

/-- One gate's settings: MODE, START and WIDTH in PDAC samples of 0.4 ns, DIAG_EN (03 R102). -/
structure GateCfg where
  mode : Nat
  start : Int
  width : Nat
  diag : Bool
  deriving DecidableEq, Repr

/-- One tone's settings (03 R97). -/
structure ToneCfg where
  fstart : Word
  rate : Word
  amp : Nat
  phase0 : Nat
  /-- DDC_TONEk_NCO (04 R144). -/
  nco : Word
  deriving DecidableEq, Repr

/-- The probe settings a frame runs under (01 R44): period, tone count, stagger and marker in fast samples,
chirp length in PDAC samples. -/
structure FrameCfg where
  period : Nat
  k : Nat
  stagger : Nat
  len : Nat
  bins : Nat
  pitch : Nat
  tones : List ToneCfg
  gates : List GateCfg
  outEn : Bool
  outDelay : Nat
  outWidth : Nat
  deriving DecidableEq, Repr

/-- A stream channel of STREAM_POLICY (18 R481). -/
structure Channel where
  chan : Nat
  dest : Nat
  product : Nat
  maxBlock : Nat
  vector : Nat
  deriving DecidableEq, Repr

/-- What the Rayleigh program set goes by in a frame (05 R165-R177): G, ALPHA_EXP, FADE_FLOOR, the slew limit in 2^-13 rad, LEGACY_TONE,
the products enabled (bit 0 PHASE, 1 STRAIN_RATE, 2 LEGACY), C_SR as a binary64 code and the sources of the templates. -/
structure RayRules where
  gauge : Nat
  alphaExp : Nat
  floor : Nat
  slew : Nat
  legacyTone : Nat
  enables : Nat
  csr : Nat
  source : Word
  deriving DecidableEq, Repr

/-- A zone of ZONE_TREE (09 Table 9-1) with the BAND_MASK and BG_EXP DETECTOR_BANDS gives it (R281). -/
structure Zone where
  number : Nat
  parent : Nat
  kind : Nat
  program : Nat
  flags : Nat
  first : Nat
  last : Nat
  bandMask : Nat
  bgExp : Nat
  deriving DecidableEq, Repr

/-- What a frame's processing goes by, however late it completes (01 R44, 02 R83): the Rayleigh window and H, the deadline, the
stream policy, and CFG and BOUND of the archived channels. -/
structure FrameRules where
  firstBin : Nat
  count : Nat
  h : Nat
  deadline : Nat
  policy : List Channel
  archive : List (Nat × Word × Word)
  ray : RayRules
  /-- Group of each block (08 R261), and the SCHEDULE payload (08 R252). -/
  groups : List Nat
  schedule : Bytes
  /-- Zones with the bands and coefficients of their filters (09 R274, R277). -/
  zones : List Zone
  nb : Nat
  coef : List (List Int)
  deriving DecidableEq, Repr

/-- A frame that has opened: number, launch reference, whether it is real, DIAG, CAL or a guard frame of a
calibration run, whether its acquisition is discarded by a fault, its settings and its header (01 R35-R38). -/
structure FrameRec where
  num : Nat
  launch : Nat
  real : Bool
  diag : Bool
  cal : Bool
  guardFrame : Bool
  lost : Bool
  /-- Stamp of the LAUNCH_IN edge that opened it, in 1/512 ns; whether it was opened for want of one (01 R41, R42). -/
  edge : Option Nat
  missing : Bool
  /-- A tracker reset takes effect in this frame, and the frame of the latest one (05 R169). -/
  reset : Bool
  track : Nat
  cfg : FrameCfg
  rules : FrameRules
  header : Bytes
  deriving DecidableEq, Repr

/-- A chirp in progress (03 R97): its tone and frame, the PDAC sample of its start, and P, F and n. -/
structure Chirp where
  tone : Nat
  frame : Nat
  start : Nat
  len : Nat
  cfg : ToneCfg
  phase : Word
  freq : BitVec 36
  n : Nat
  deriving DecidableEq, Repr

/-- Probe generation state beside the PGU registers (03). Instants marked "half" count PDAC samples. -/
structure PguSt where
  /-- Chirps in progress (R97). -/
  chirps : List Chirp
  /-- First PDAC sample not yet synthesised (half), and the latest PDAC codes. -/
  synthAt : Nat
  pdac : Int × Int
  /-- Output levels: GATE0 and GATE1 open, LAUNCH_OUT and CAL_SEL active. -/
  gates : List Bool
  launchOut : Bool
  calSel : Bool
  /-- A stop waits for the chirps of the open frame. -/
  stopping : Bool
  /-- Calibration run: instant of the latest state entry, launch references of the leading guard frame and
  of the latest measuring frame (R111). -/
  calEntered : Nat
  calLead : Nat
  calLast : Nat
  /-- A postponed DIAG frame is pending (R117). -/
  diagPending : Bool
  deriving DecidableEq, Repr

/-- A gain profile: PROFILE_EN, FIXED_CODE and the steps (position, code) (04 R130). -/
structure Profile where
  en : Bool
  fixed : Nat
  steps : List (Nat × Nat)
  deriving DecidableEq, Repr

/-- A fast sample after the correction of R133 and blanking: X, Y and the monitor tap (FADC0 alone, 05 R158) as complex values, and
the SATURATED and BLANKED marks of X and Y (R137-R139). -/
structure FastSample where
  x : Int × Int
  y : Int × Int
  tap : Int × Int
  sat : Bool × Bool
  blank : Bool × Bool
  deriving DecidableEq, Repr

/-- A medium sample: its instant, and code and saturation of each channel; a blanked one holds code 0 (R128, R140). -/
structure MedSample where
  at_ : Nat
  codes : List (Int × Bool)
  blank : Bool
  deriving DecidableEq, Repr

/-- Converter state beside the FAFE, DDC and MAFE registers (04). -/
structure AfeSt where
  /-- PGA code in force. -/
  pga : Nat
  /-- The old image's profile and the last fast sample it governs (R136). -/
  oldProfile : Option (Profile × Nat)
  /-- Blanking windows open. -/
  windows : List Bool
  /-- BLANK_IN level changes, newest first: instant and level (R137). -/
  blankEdges : List (Nat × Bool)
  /-- First fast sample not yet taken; the fast samples taken in stretches (first instant, samples), and the medium samples, newest
  first, as far back as the processing of a frame reaches (R124, R127). -/
  upTo : Nat
  fast : List (Nat × List FastSample)
  med : List MedSample
  /-- Instants of the steps that the PGA took, newest first (R132, R134). -/
  steps : List Nat
  /-- A step-factor measurement is in progress (R143). -/
  stepcal : Bool
  /-- Instant at which each tone's DDC phase accumulator was set to 0 (R144). -/
  ncoStart : List (Nat × Nat)
  /-- MADC descriptors of the latest real frame: channel, word 0, word 1 (R129). -/
  madcDesc : List (Nat × Word × Word)
  /-- Spells outside RUN that have ended since the samples last taken: domain (6 or 7), first and next instant; and since when FAST_AFE and
  MED_AFE, where they are not in RUN, have been out of it (R148). -/
  asleep : List (Nat × Nat × Nat)
  since : Nat × Nat
  deriving DecidableEq, Repr

/-- What defines a tone's template (05 R154): its plan as the PGU and the DDC hold it, and the 64 coefficients. -/
structure ToneTpl where
  cfg : ToneCfg
  len : Nat
  k : Nat
  coefs : List Word
  deriving DecidableEq, Repr

/-- What the PCX holds of a calibration run (05 R158): launch references of its leading guard frame, of its latest measuring frame and of
the last one averaged, whether the run has ended (CAL_DONE), the frames averaged, and the sums of the X-stream samples by tone. -/
structure CalMean where
  lead : Nat
  last : Nat
  upTo : Nat
  ended : Bool
  count : Nat
  sums : List (List (Int × Int))
  deriving DecidableEq, Repr

/-- Pulse compression state beside the PCX registers (05). -/
structure PcxSt where
  /-- Template sets of tones 0 to 15, newest first, each with the launch reference from which it correlates, and the second template
  bank (R154, R162). -/
  banks : List (Nat × List ToneTpl)
  second : Option (List ToneTpl)
  /-- The measurements of the run in progress and of ended runs that wait for their evaluation, oldest first (R158, R160). -/
  means : List CalMean
  /-- A commit refused NOT_MOUNTED is retried at the next boundary (R505). -/
  retry : Bool
  /-- The templates are being built; the append waits at the ALM; the committed epoch whose apply request
  stands (R162). -/
  building : Bool
  appending : Bool
  epoch : Option Nat
  deriving DecidableEq, Repr

/-- One bank of a Gecko lane (07 Table 7-1). -/
structure Bank where
  dr : List Word
  ac : List (BitVec 40)
  esr : Word
  lc : Nat
  ec : Nat
  rrb : Nat
  lnk : Nat
  lstart : Nat
  lend : Nat
  /-- A hardware loop is active (R223). -/
  active : Bool
  pd : BitVec 8
  ad : List Word
  md : List Word
  ba : List Word
  cl : List Word
  deriving DecidableEq, Repr

/-- A lane's DMA channel (07 Table 7-7). -/
structure Dma where
  dram : Nat
  localAddr : Nat
  len : Nat
  toLocal : Bool
  busy : Bool
  refused : Bool
  deriving DecidableEq, Repr

/-- A Gecko engine as a lane: both banks and its DMA channel (07 R212, R238). -/
structure Lane where
  b0 : Bank
  b1 : Bank
  dma : Dma
  deriving DecidableEq, Repr

/-- Where a result in flight lands, with its value (07 R220): a data register by its physical number, one lane of
it, an accumulator with its saturation, a predicate, or a special register. -/
inductive Landing where
  | dr (n : Nat) (v : Word)
  | drLow (n : Nat) (v : BitVec 16)
  | drHigh (n : Nat) (v : BitVec 16)
  | ac (n : Nat) (v : BitVec 40) (ov : Bool)
  | pred (n : Nat) (b : Bool)
  | flags (set clear : Word)
  | sr (n : Nat) (v : Word)
  deriving DecidableEq, Repr

/-- A result in flight: the cycle at whose end it lands, its lane, its bank, and whether a MAC made it. -/
structure Flight where
  due : Nat
  lane : Nat
  bank1 : Bool
  mac : Bool
  landing : Landing
  deriving DecidableEq, Repr

/-- An instruction stream: a fused group's, or one independent engine's (07 R238). It is known by its lowest
engine. -/
structure Thread where
  pc : Nat
  epc : Nat
  ivec : Nat
  imask : Nat
  /-- IPEND bits 1 to 3; bit 0 follows the dispatch ring (R227). -/
  ipend : Nat
  cycle : Nat
  bank1 : Bool
  /-- Delay slots still to issue, the target, and whether it is RTI's. -/
  slots : Option (Nat × Nat × Bool)
  /-- Issues left of a repeated instruction (R225). -/
  rep : Option Nat
  flights : List Flight
  /-- A halt request waits for an interrupt point (R243). -/
  halting : Bool
  deriving DecidableEq, Repr

/-- Engine array state beside the GEA registers (07). -/
structure GeaSt where
  /-- Sequencer of each instruction stream, by its lowest engine (Table 7-1, R220-R230). -/
  threads : List (Nat × Thread)
  /-- Banks, DMA channel and counters of each engine (Table 7-1, R236). -/
  lanes : List (Nat × Lane)
  /-- Engine memories by aperture offset; an unlisted byte reads 0 (Table 7-8). -/
  mem : Mem
  /-- Groups whose halt request is not yet complete. -/
  halts : List Nat
  /-- Tiles back from KEEP: retained instruction memories and banks are not reloaded (R246). -/
  kept : List (Nat × Nat)
  /-- 64-bit words of engine memory with upset bits not overwritten since: aperture offset, and whether two bits are upset (R245). -/
  upsets : List (Nat × Bool)
  deriving DecidableEq, Repr

/-- What the frames of a record's span carried (06 Table 6-4): DERATED in one of them, the latest LOCK_STATE, and whether it varied. -/
structure SpanMarks where
  derated : Bool
  lock : Option Nat
  lockChanged : Bool
  deriving DecidableEq, Repr

/-- A Raman record of the shot averager (06 R188-R191): cells as AS sum, S sum, SATURATED, BLANKED; the header of the frame that closed
it, empty while it is open. -/
structure RamanRec where
  bank : Nat
  count : Nat
  skipped : Nat
  exp : Nat
  phaseSum : Nat
  phaseMin : Nat
  phaseMax : Nat
  first : Nat
  last : Nat
  gap : Bool
  isPartial : Bool
  backward : Bool
  cells : List (Int × Int × Bool × Bool)
  span : SpanMarks
  header : Bytes
  deriving DecidableEq, Repr

/-- A Brillouin record (06 R202): first and last frame, included and excluded frames; `next` counts candidates until the next processed
frame; MADC phases of the included frames; the spectrum of each cell, P[m] as binary64 codes. -/
structure BrilRec where
  first : Nat
  last : Nat
  count : Nat
  skipped : Nat
  next : Nat
  isPartial : Bool
  gap : Bool
  phaseSum : Nat
  phaseMin : Nat
  phaseMax : Nat
  spectra : List (List Nat)
  /-- A DMC freeze stalled its spectra (R211). -/
  stalled : Bool
  span : SpanMarks
  header : Bytes
  deriving DecidableEq, Repr

/-- A closed record that waits for its conversion: source 1 Raman or 2 Brillouin, closing boundary, the frame that closed it, the record, the
record of the opposite direction that closed immediately before it (06 R199), and what it was taken under: parameter block, constants
and metres per fast sample as a binary64 code. -/
structure ThermDue where
  source : Nat
  first : Nat
  last : Nat
  close : Nat
  frame : FrameRec
  raman : Option RamanRec
  partner : Option RamanRec
  bril : Option BrilRec
  params : Bytes
  store : Bytes
  mps : Nat
  deriving DecidableEq, Repr

/-- The temperatures of a converted Raman record (06 R204, R205): its run and span, and T in K with u_T as binary64 codes per valid cell; REF_STALE. -/
structure RamanTemps where
  run : Nat
  first : Nat
  last : Nat
  stale : Bool
  cells : List (Option (Nat × Nat))
  deriving DecidableEq, Repr

/-- The shot averager and the thermal program set's state machine (06 Tables 6-3, 6-9). -/
structure ThermSt where
  /-- Program set: 0 IDLE, 1 RUNNING, 2 PARAM_FAULT; latest code and DETAIL. -/
  prog : Nat
  code : Nat
  detail : Nat
  /-- Averager: 0 IDLE, 1 ACCUMULATING, 2 WAITING. -/
  avg : Nat
  open_ : Option RamanRec
  /-- Closed records that hold a bank, oldest first. -/
  closed : List RamanRec
  /-- Records closed and not yet dispatched, and those dispatched and not yet taken by the program set. -/
  due : List ThermDue
  jobs : List ThermDue
  /-- The open Brillouin record. -/
  bril : Option BrilRec
  /-- Closed Brillouin records that wait for their Raman record. -/
  brilWait : List ThermDue
  /-- Temperatures of the Raman records converted so far, newest first: the newest 8, and those that a Brillouin record not yet converted
  may be paired with. -/
  temps : List RamanTemps
  /-- The Raman record that closed last, and whether the next to open is forward, after a close event (R198, R199). -/
  prev : Option RamanRec
  forward : Bool
  /-- Excluded frames of the next record, and frames still settling after a DIR_SEL change. -/
  skippedNext : Nat
  /-- Frames still settling after a DIR_SEL change, and the direction of the latest frame. -/
  settle : Nat
  backward : Bool
  /-- Counters of the status block. -/
  ramanRecords : Nat
  brilRecords : Nat
  skipped : Nat
  rescales : Nat
  late : Nat
  fitFail : Nat
  /-- The parameter block as read at the last start or switch, and the calibration record and the metres per fast sample (a binary64 code)
  under which the open records run, as the last checks took them (R186, R187). -/
  params : Bytes
  store : Bytes
  mps : Nat
  deriving DecidableEq, Repr

/-- Product blocks that a program set has formed for a frame's block and that its pushes take in order (05 R151, 06 R184). -/
structure ProductOut where
  frame : Nat
  block : Nat
  product : Nat
  data : List Bytes
  deriving DecidableEq, Repr

/-- What the Rayleigh program set keeps of a bin (05 R166, R171), numbers as binary64 codes: A[k], M, whether no instant has been good since
the tracker reset, a gap, Psi, psi_g, pred, the faded run and the last 4 increments of good instants. -/
structure RayBin where
  a : List (Nat × Nat)
  m : Nat
  first : Bool
  gap : Bool
  psi : Nat
  good : Nat
  pred : Nat
  run : Nat
  hist : List Nat
  deriving DecidableEq, Repr

/-- What it keeps of a block by its first bin: run, frame of the latest tracker reset, latest frame processed, nominal time of its last
instant, and the bins. -/
structure RayBlock where
  bin : Nat
  run : Nat
  reset : Nat
  last : Nat
  lastAt : Nat
  bins : List RayBin
  deriving DecidableEq, Repr

/-- Input of a bin: the gauge products of the frame's instants and of those of its neighbours that exist (05 R165, R167), as binary64 codes,
and the marks SATURATED, BLANKED and STEP_ADJ. -/
structure RayInBin where
  before : List (Nat × Nat)
  own : List (Nat × Nat)
  after : List (Nat × Nat)
  sat : Bool
  blank : Bool
  step : Bool
  deriving DecidableEq, Repr

/-- Input of a dispatched Rayleigh block (05 R150, R167). -/
structure RayInput where
  block : Nat
  first : Nat
  frame : FrameRec
  bins : List RayInBin
  deriving DecidableEq, Repr

/-- What a dynamic slot's requester receives in the end (08 R253). -/
structure DynSlot where
  tag : Nat
  requester : Nat
  frame : Nat
  offset : Int
  action : Nat
  arg : Nat
  deriving DecidableEq, Repr

/-- A dispatched block (08 Table 8-2), with the header of its frame. -/
structure Dispatch where
  group : Nat
  frame : Nat
  block : Nat
  stream : Nat
  firstBin : Nat
  binCount : Nat
  flags : Nat
  gapFrames : Nat
  deadline : Nat
  /-- Instant of the ready event, for the order of dispatch. -/
  ready : Nat
  header : Bytes
  deriving DecidableEq, Repr

/-- An engine group's scheduling state (08 R256-R264). -/
structure GroupSt where
  /-- Ring: written, not yet popped; popped and not FINAL. -/
  ring : List Dispatch
  open_ : List Dispatch
  /-- Ring entries written and popped since the load. -/
  written : Nat
  popped : Nat
  pushes : Nat
  /-- RUNNING cycles and all cycles of the frames that count for LOAD, newest first, at most 16. -/
  load : List (Nat × Nat)
  /-- Late frames in a row that count for a move, and the first frame that counts. -/
  moveRun : Nat
  moveFrom : Nat
  /-- Late blocks by frame, not yet judged at their deadline boundary. -/
  lateFrames : List Nat
  /-- Frames that had a block here, with their deadline boundary frame. -/
  frames : List (Nat × Nat)
  /-- A fault whose blocks are still to be moved at the next boundary (R264). -/
  faulted : Bool
  deriving DecidableEq, Repr

/-- A block of ROUTING's table (08 R256, R261). -/
structure BlockSt where
  /-- Frames lost since its last completed frame, latest first; a descriptor has carried the latest of them. -/
  lost : List Nat
  told : Bool
  /-- Group whose ring took its latest descriptor; none before the first. -/
  home : Option Nat
  /-- Frame of its latest ready event, and the group that took it. -/
  last : Option Nat
  group : Nat
  /-- Stream channels its outputs have gone to. -/
  chans : List Nat
  deriving DecidableEq, Repr

/-- What a record's header says of its span (12 Table 12-3): CAL_EPOCH, IMAGE_SERIAL and LOCK_STATE of its first frame. -/
structure SpanHead where
  epoch : Nat
  serial : Nat
  lock : Nat
  deriving DecidableEq, Repr

/-- A gap to be recorded: CAUSE of 12 Table 12-5, channel (32 = every archived channel), block, span in run and
frame, and what held at its first frame. -/
structure GapNote where
  cause : Nat
  chan : Nat
  block : Nat
  firstRun : Nat
  first : Nat
  endRun : Nat
  end_ : Nat
  head : SpanHead
  deriving DecidableEq, Repr

/-- Scheduler state beside the MRS registers (08). -/
structure MrsSt where
  /-- A run has opened its first frame. -/
  open_ : Bool
  /-- A START is pending: the instant at which every unit was ready and checked. -/
  readyAt : Option Nat
  /-- Instant of an accepted STOP. -/
  stopAt : Option Nat
  /-- A restart switch requests START (21 R530). -/
  autoStart : Bool
  /-- Frame at which acquisition was lost since the last real frame (R37, R120), and the CAUSE. -/
  gapFrom : Option (Nat × Nat × Nat)
  /-- Stamp of the latest accepted LAUNCH_IN edge, in 1/512 ns. -/
  lastEdge : Option Nat
  /-- Launch references and stamps of accepted edges that have not opened their frames, oldest first. -/
  pendRefs : List (Nat × Nat)
  /-- Opened frames, newest first: the latest 128 and those whose processing is not complete. -/
  frames : List FrameRec
  /-- Outstanding dynamic slots (R253). -/
  dyn : List DynSlot
  /-- Dispatch ring, load and health bookkeeping of each engine group (R254-R262). -/
  groups : List (Nat × GroupSt)
  /-- Blocks of the ROUTING table: lost frames and latest ready event (R255, R257). -/
  blocks : List (Nat × BlockSt)
  /-- The MRS's own queue of descriptors, oldest first (R256). -/
  queue : List Dispatch
  /-- A REBALANCE_RESET waits for the next boundary (R263). -/
  rebalance : Bool
  /-- The latest sample at which a programmed or dynamic slot executed, and how many did (R251). -/
  lanes : Nat × Nat
  /-- Place in the lanes' order of the programmed slot that executed last (R251). -/
  slotKey : Nat
  /-- Tracker and unwrap state of the Rayleigh program set, held in engine memory and its spill (05 R166-R171, R182). -/
  ray : List RayBlock
  /-- What it makes of blocks whose FINAL push has not come, newest first, and inputs of blocks not yet taken (08 R258). -/
  rayNext : List (Nat × RayBlock)
  rayIn : List RayInput
  /-- Product blocks formed and not yet pushed (05 R151, 06 R184). -/
  expect : List ProductOut
  deriving DecidableEq, Repr

/-- A TTU input channel (14 R400-R405). Stamps are monotonic counts of 1/512 ns. -/
structure TtuChan where
  /-- The TDC calibration has passed since CORE last reached RUN (R411). -/
  calibrated : Bool
  stuck : Bool
  /-- Marks of the next entry. -/
  gap : Bool
  dropped : Bool
  stepped : Bool
  /-- Latest accepted stamp. -/
  last : Option Nat
  /-- SLOT-mode arms and disarms, newest first, each with the first stamp it governs. -/
  slotEdges : List (Nat × Bool)
  queue : List (List Word)
  latch : List Word
  /-- GAP for the interval units: set with `gap`, cleared by the next stamp (R406). -/
  gapIu : Bool
  /-- The TDC calibration has failed since CORE last reached RUN (R411). -/
  calFailed : Bool
  /-- Stamp of the latest edge of an EV input, whatever its direction (R401). -/
  edgeAt : Nat
  /-- Edges an HF prescaler has counted since its latest output edge (R402). -/
  div : Nat
  /-- First stamp of a SLOT-mode disarm that has not taken effect yet (R403). -/
  slotOff : Option Nat
  deriving DecidableEq, Repr

/-- A TTU interval unit (14 R406-R408). -/
structure TtuUnit where
  starts : List Nat
  stops : List Nat
  prev : Option Nat
  gap : Bool
  /-- Partial block: n, x0, S1, S2, minimum, maximum and flag counts. -/
  n : Nat
  x0 : Int
  s1 : Int
  s2 : Int
  mn : Int
  mx : Int
  order : Nat
  under : Nat
  queue : List (List Word)
  latch : List Word
  dropped : Bool
  /-- A block held while the result set is frozen: MEAN_LO to FLAGCOUNT. -/
  held : Option (List Word)
  deriving DecidableEq, Repr

/-- Time base and interval state beside the TTU registers (14). -/
structure TtuSt where
  /-- Time scale minus monotonic count, in 1/2560 ns (R389), from fast sample `stepAt` on, and before it. -/
  offset : Int
  oldOffset : Int
  stepAt : Nat
  /-- The time scale stepped or was set since the latest launch reference (Table 14-1). -/
  stepped : Bool
  /-- Good REFCLK windows in a row, at most 16; errors and windows of the second in progress; good seconds in
  a row, at most 2. -/
  refRun : Nat
  winSum : Int
  winCount : Nat
  goodSecs : Nat
  /-- Steering sum of the second in progress, and mean steering of locked seconds, newest first. -/
  steerSum : Int
  lockedSecs : List Int
  /-- Latest accepted PPS edge; accepted edges in a row, at most 4; small and large phase errors in a row. -/
  ppsLast : Option Nat
  ppsRun : Nat
  ppsGood : Nat
  ppsBad : Nat
  /-- Slew part of the steering (R394). -/
  slew : Int
  /-- Monotonic count of the entry to HOLDOVER. -/
  holdSince : Option Nat
  /-- Locked seconds since the latest report of the oscillator offset (R396). -/
  oscSecs : Nat
  /-- End of the PPS_OUT pulse in progress (R398). -/
  ppsOut : Option Nat
  /-- The eight input channels (R400-R405). -/
  chans : List TtuChan
  /-- The four interval units (R406-R408). -/
  units : List TtuUnit
  /-- Steering that the steering in force moves to, and the fast sample at which TTU_FREQ_OFFSET held (R388). -/
  steerGoal : Int
  steerAt : Nat
  /-- Latest edge that the launch stamper has stamped (R399). -/
  launchStamp : Option Nat
  deriving DecidableEq, Repr

/-- A DRAM request at the DMC port (11 R325): requester, class, write, device address, data or length. -/
structure DramReq where
  path : Nat
  cls : Nat
  write : Bool
  addr : Nat
  data : Bytes
  len : Nat
  /-- Instant at which it began to wait (01 R58). -/
  since : Nat
  deriving DecidableEq, Repr

/-- DRAM and controller state beside the DMC registers (11). -/
structure DmcSt where
  /-- DRAM by physical address, check bursts included; an unlisted byte reads as the fill of R328. -/
  dram : Mem
  /-- Requests that wait, oldest first. -/
  waiting : List DramReq
  /-- Open rows: 16 x rank + 8 x channel + bank, row (R326). -/
  rows : List (Nat × Nat)
  /-- The last 32 commands, newest first, as DMC_HISTi_LO and _HI hold them (R340). -/
  hist : List (Nat × Nat)
  /-- Eighths not yet filled after self-refresh: 8 x rank + eighth (R339). -/
  unfilled : List Nat
  /-- Exit from self-refresh is pending (R338). -/
  exitPending : Bool
  /-- Next device address of a scrub pass in progress (R327). -/
  scrub : Option Nat
  /-- Instant of each rank's latest granted request (R332). -/
  lastReq : List (Nat × Nat)
  /-- KEEP entry waits for READY (Table 11-5). -/
  keepPending : Bool
  /-- Check bursts held on chip: physical group and its 32 bytes, in the order they came, at most 64 (R324). -/
  cache : List (Nat × Bytes)
  /-- last_winner of the request port by arbitration rank: the path granted last (01 R58). -/
  winners : List (Nat × Nat)
  /-- Instant at which each rank's interval timer last started (R331, R333). -/
  refAt : List (Nat × Nat)
  /-- Instant of the latest access to each open row, by bank as in `rows` (R326). -/
  rowAt : List (Nat × Nat)
  /-- Instant at which each rank's MR4 was last polled (R331). -/
  pollAt : List (Nat × Nat)
  /-- Instant of the latest ZQ calibration, and ranks whose result is not latched yet (R330). -/
  zqAt : Nat
  zqPend : List Nat
  /-- Drift of the DQS interval that each rank's delays follow, in 1/256 UI, and a change that waits for the rank's next refresh (R330). -/
  delays : List (Nat × Int)
  delayDue : List (Nat × Int)
  /-- Instant at which the scrub period in progress began (R327). -/
  scrubAt : Nat
  deriving DecidableEq, Repr

/-- An ageing indicator (20 R511, R512): sample count, the six sums, the latest value and the prediction; numbers as
binary64 codes, the limit as the binary32 code of ALM_IND_LIMIT. -/
structure Indicator where
  n : Nat
  sx : Nat
  sy : Nat
  sxx : Nat
  sxy : Nat
  syy : Nat
  value : Nat
  limit : Nat
  state : Nat
  nom : Nat
  early : Nat
  warned : Bool
  deriving DecidableEq, Repr

/-- An append request at the ALM (20 R505): who asked (none: the PCX), its entries, apply. -/
structure CalAppend where
  who : Option (Origin × Word)
  entries : List Bytes
  apply : Bool
  /-- Record formed and submitted; empty while it waits. -/
  record : Bytes
  deriving DecidableEq, Repr

/-- A pending apply request (20 R506): epoch, instant of its commit, and who asked (none: the PCX). -/
structure CalApply where
  epoch : Nat
  at_ : Nat
  who : Option (Origin × Word)
  deriving DecidableEq, Repr

/-- What the ANC passes to the ALM at a checkpoint for a target: largest and mean ERASE_COUNT, GROWN_BAD and WORN blocks, and the largest
corrected bit count of the last patrol pass, none before one has ended (12 R375). -/
structure NandReport where
  target : Nat
  erase : Nat
  mean : Nat
  bad : Nat
  corrected : Option Nat
  deriving DecidableEq, Repr

/-- Almanac state beside the ALM registers (20). -/
structure AlmSt where
  /-- History entries not yet accepted by the ANC, oldest first, and the instant of the first event entry. -/
  buf : List Bytes
  firstEvent : Option Nat
  /-- Chain of calibration records: epoch, readable, bytes, lowest epoch first. -/
  chain : List (Nat × Bool × Bytes)
  /-- Appends that wait, oldest first (R504). -/
  appends : List CalAppend
  /-- Apply requests that wait (R506). -/
  applies : List CalApply
  /-- Content of the record in force. -/
  store : Bytes
  /-- Wear indicators by number (R510, R511). -/
  indicators : List (Nat × Indicator)
  /-- STRESS_MIN as a binary64 code, and minutes since the latest run record (R500). -/
  stress : Nat
  minutes : Nat
  /-- The run record has been stored, or given up, since reset; its instant. -/
  runStored : Option Nat
  /-- Values handed over for the hourly indicators: oscillator offset (R396), R_INT deviation in 1e-9 (R424), DRAM
  corrections at the latest sample, and sums of DriverLink currents by device with their number. -/
  osc : Option Int
  rDev : Option Int
  corrAt : Nat
  currents : List (Nat × Nat × Nat)
  /-- Last frame of the previous run, none after a power loss; the epoch being loaded; EPOCH_LOST since the last apply. -/
  lastFrame : Option Nat
  loading : Nat
  lost : Bool
  /-- The figures of the latest checkpoint (12 R375), and the head of the summary as AO holds it (R514). -/
  nand : List NandReport
  head : Bytes
  deriving DecidableEq, Repr

/-- A filter bank of a watched bin (09 R277): x1, x2 and each band's y1 and y2. -/
structure FilterBank where
  x1 : Int
  x2 : Int
  y : List (Int × Int)
  deriving DecidableEq, Repr

/-- A zone's band (09 R278, R279): E, N, PEAK, its bin, E_SAT, the background as a binary64 code where one stands, and
RMS of the latest close as a binary32 code. -/
structure BandStat where
  e : Nat
  n : Nat
  peak : Nat
  bin : Nat
  sat : Bool
  bg : Option Nat
  rms : Word
  deriving DecidableEq, Repr

/-- A zone's interval (09 R279): its bands, first and last contributing frame with the bins each gave, and LATE. -/
structure ZoneStat where
  bands : List BandStat
  first : Option (Nat × Nat)
  last : Option (Nat × Nat)
  late : Bool
  deriving DecidableEq, Repr

/-- A run-time zone change that waits (09 R274): an entry to add or a number to remove, who asked, its record's
submission, and the instant of its commit. -/
structure ZoneChange where
  add : Option Zone
  number : Nat
  origin : Origin
  seq : Word
  payload : Bytes
  submitted : Bool
  committed : Option Nat
  deriving DecidableEq, Repr

/-- A block of entries that waits for its frame's header: frame, channel, PRODUCT, entry count and entries. -/
structure EntryBlock where
  frame : Nat
  chan : Nat
  product : Nat
  count : Nat
  entries : Bytes
  deriving DecidableEq, Repr

/-- Zone table state beside the ZNT registers (09). -/
structure ZntSt where
  /-- The zone table in entry order (R271-R276). -/
  zones : List Zone
  /-- Interval statistics of each zone (R279). -/
  stats : List (Nat × ZoneStat)
  /-- Place of each watched bin's filter bank in the state area, counted in banks: bin and place (R277). -/
  filters : List (Nat × Nat)
  /-- Run-time changes that wait, oldest first (R273, R274). -/
  changes : List ZoneChange
  /-- STATS_RESET waits for a boundary. -/
  reset : Bool
  /-- Committed changes have been replayed since the last reset (R275). -/
  replayed : Bool
  /-- Blocks of entries of the ZNT and the STU whose frame has not opened (R280, R286). -/
  early : List EntryBlock
  deriving DecidableEq, Repr

/-- A trigger-program instance (09 R282): state, counters, timers with the instants they were started, expired flags. -/
structure TrigInst where
  state : Nat
  c0 : Nat
  c1 : Nat
  t0 : Nat
  t1 : Nat
  s0 : Nat
  s1 : Nat
  e0 : Bool
  e1 : Bool
  deriving DecidableEq, Repr

/-- A zone's dead time (09 R292): since when it is dead, fast samples accumulated, DEAD and MISSED counts. -/
structure ZoneDead where
  since : Option Nat
  samples : Nat
  dead : Nat
  missed : Nat
  deriving DecidableEq, Repr

/-- A tapped bin of a frame: K values, the fade mask, whether its instants count apart from fading, and whether it was
lost. -/
structure BinTap where
  vals : List Int
  fade : Nat
  counts : Bool
  lost : Bool
  deriving DecidableEq, Repr

/-- A frame of a record that awaits its blocks: number and K, its bins as far as tapped, header, LATE and RESUME. -/
structure CapFrame where
  num : Nat
  k : Nat
  launch : Nat
  stagger : Nat
  cells : List (Option BinTap)
  header : Bytes
  late : Bool
  resume : Bool
  deriving DecidableEq, Repr

/-- An instant of a row: its number, the value of each bin and whether it counts; its frame's marks. -/
structure CapInst where
  i : Nat
  frame : Nat
  time : Nat
  vals : List Int
  counts : List Bool
  lost : Bool
  faded : Bool
  late : Bool
  resume : Bool
  header : Bytes
  deriving DecidableEq, Repr

/-- A row of a capture buffer: its number since the arm, its place in the buffer, and its instants for the measurements (R295). -/
structure CapRow where
  seq : Nat
  pos : Nat
  insts : List CapInst
  deriving DecidableEq, Repr

/-- A capture record beside its register (09 R287-R294). -/
structure CapRec where
  pre : Nat
  post : Nat
  newLen : Option Nat
  /-- Write pointer. -/
  wptr : Nat
  /-- Latest frame tapped at the arm; frames not yet complete; the row in progress; full rows; rows dropped. -/
  armedAt : Nat
  frames : List CapFrame
  part : List CapInst
  rows : List CapRow
  gone : List CapRow
  seq : Nat
  /-- Trigger row; DEAD, MISSED and dead time in us taken at the trigger; triggers absorbed. -/
  trig : Option Nat
  dead : Nat
  missed : Nat
  deadUs : Nat
  count : Nat
  dropped : Nat
  postShort : Bool
  /-- Latest frame written to rows. -/
  lastFrame : Option Nat
  /-- The frame whose boundary ends the hold-off; a switch returns the record to IDLE. -/
  holdoff : Option Nat
  retire : Bool
  deriving DecidableEq, Repr

/-- Trigger and acquisition state beside the STU registers (09). -/
structure StuSt where
  /-- Trigger-program instance of each zone (R282-R286). -/
  insts : List (Nat × TrigInst)
  /-- Dead-time accounts of each zone (R292). -/
  deads : List (Nat × ZoneDead)
  /-- Capture records beside their registers (R287-R294). -/
  recs : List (Nat × CapRec)
  /-- Latest frame with a tapped STRAIN_RATE block, plus 1. -/
  tapped : Nat
  /-- Lost Rayleigh blocks: frame, first bin, bins; newest first, at most 4,096. -/
  lost : List (Nat × Nat × Nat)
  /-- The first frame under the record definitions and programs in force (01 R44). -/
  since : Nat
  deriving DecidableEq, Repr

/-- A stream block that waits at the TCE (10 R312): channel; group and pushes where it lies in an engine, and its place there; its header or all
its bytes; the spans of DRAM that follow them; and whether a block of the channel was dropped before it. -/
structure TceIn where
  chan : Nat
  engine : Option (Nat × Nat)
  place : Option (Nat × Nat)
  data : Bytes
  spans : List (Nat × Nat)
  cut : Bool
  deriving DecidableEq, Repr

/-- A Tadpole block that waits for a lane (10 R300, R301): 1,024 samples with what its tag states. -/
structure TadBlock where
  chan : Nat
  frame : Nat
  /-- The latest close event before its frame. -/
  mark : Option Nat
  samples : List Int
  isPartial : Bool
  gap : Bool
  late : Bool
  validBins : Nat
  validInstants : Nat
  firstInstant : Nat
  firstBin : Nat
  qsum : Nat
  deriving DecidableEq, Repr

/-- What the TCE and the MRS have staged for the ANC (10 R313, 12 R354). -/
inductive Staged where
  /-- A frame header of the channel, and a stream block's descriptor. -/
  | header (frame : Nat) (bytes : Bytes)
  | desc (frame : Nat) (bytes : Bytes)
  /-- A coded or RAW block and its tag: its frame, the spans of the ring in DRAM that hold them, and HIST_RESET. -/
  | block (frame : Nat) (spans : List (Nat × Nat)) (reset : Bool)
  deriving DecidableEq, Repr

/-- A channel of the TCE (10): its history newest first, ladder index of its latest block, blocks since the history
reset, a pending reset, the latest close event its blocks have passed (run and frame), and of its open LINEAR block the words, the close event
before them, first frame, first word offset, GAP and LATE; whether a stream block was dropped since the latest queued one; the frame whose header was staged last, what is staged, and the size and the write offset of its
ring. -/
structure TceChan where
  history : List (List Int)
  step : Nat
  since : Nat
  fresh : Bool
  mark : Option Nat
  words : List Int
  wordMark : Option Nat
  firstFrame : Nat
  wordOff : Nat
  gap : Bool
  late : Bool
  cut : Bool
  lastHeader : Option Nat
  staged : List Staged
  ring : Nat
  wr : Nat
  deriving DecidableEq, Repr

/-- Compression state beside the TCE registers (10). -/
structure TceSt where
  /-- Stream blocks not yet taken in, oldest first (R312). -/
  queue : List TceIn
  /-- Tadpole blocks that wait for a lane, oldest first (R301). -/
  blocks : List TadBlock
  /-- Channel state: history, open block, staging (R302-R314). -/
  chans : List (Nat × TceChan)
  /-- Frames at whose boundary a close event took effect, newest first (R302). -/
  marks : List Nat
  /-- A stop waits until every open block is closed and staged. -/
  stopping : Bool
  /-- At least one channel stalls for want of room (R313). -/
  stalled : Bool
  deriving DecidableEq, Repr

/-- A block of the medium (12 Table 12-7) and the sequence of the OPEN entry that opened it. -/
structure NandBlock where
  state : Nat
  erase : Nat
  reads : Nat
  time : Nat
  first : Nat
  seq : Nat
  deriving DecidableEq, Repr

/-- A programmed page: main bytes and spare area (12 R350). -/
structure NandPage where
  main : Bytes
  spare : Bytes
  deriving DecidableEq, Repr

/-- A record the ANC knows: sequence, first page and payload offset there, length, type, channel, run, first and last
frame (12 Tables 12-3, 12-6). -/
structure ArcRec where
  seq : Nat
  page : Nat
  off : Nat
  len : Nat
  type : Nat
  chan : Nat
  run : Nat
  first : Nat
  last : Nat
  deriving DecidableEq, Repr

/-- A record written and not yet committed: its bytes, its old first page where it was moved. -/
structure FreshRec where
  record : ArcRec
  bytes : Bytes
  old : Option Nat
  deriving DecidableEq, Repr

/-- What waits for a commit: a zone change, an append at the ALM, history entries, each with its record; a delete or a
commit request of the host, or of the cascade (18 Table 18-4, 19 R493). -/
inductive ArcWait where
  | zone (number seq : Nat)
  | cal (seq : Nat)
  | history (n seq : Nat)
  | delete (via : Via)
  | commit (via : Via)
  | cascade (cc : Nat)
  deriving DecidableEq, Repr

/-- What an operation on the medium does. -/
inductive NandKind where
  | data | journal | checkpoint | super | erase
  deriving DecidableEq, Repr

/-- An operation in flight: its page, or page 0 of a block to erase, and the main bytes to program. -/
structure NandOp where
  kind : NandKind
  addr : Nat
  main : Bytes
  deriving DecidableEq, Repr

/-- A commit in progress (12 R359): its number, the records it brings into force, their highest sequence, blocks whose
OPEN entries it holds with their purpose, blocks to erase and blocks worn out, its deletes (last sequence, reason), archive time, its journal
pages, who waits, where the log goes on after it, and whether it holds a CHECKPOINT entry. -/
structure ArcCommit where
  number : Nat
  recs : List FreshRec
  last : Nat
  opens : List (Nat × Nat)
  erases : List Nat
  worn : List Nat
  deleted : List (Nat × Nat)
  time : Nat
  pages : List Bytes
  waits : List ArcWait
  end_ : Nat
  ck : Bool
  deriving DecidableEq, Repr

/-- A span still open at its end: channel, cause, run and first lost frame, and what held there (12 R356, R365). -/
structure ArcGap where
  chan : Nat
  cause : Nat
  run : Nat
  first : Nat
  head : SpanHead
  deriving DecidableEq, Repr

/-- Archive state beside the ANC registers, and the medium (12). -/
structure AncSt where
  /-- The medium: programmed pages by page address, and the targets as identified. -/
  pages : List (Nat × Option NandPage)
  targets : List (Nat × NandId)
  /-- The block table. -/
  blocks : List (Nat × NandBlock)
  /-- Committed records that are present; written and uncommitted ones, oldest first. -/
  recs : List ArcRec
  fresh : List FreshRec
  nextSeq : Nat
  commitSeq : Nat
  /-- The sequence after the last one a DELETE in force names. -/
  oldest : Nat
  /-- The log: open data blocks in the order of use, next page of the first, payload of the page in progress, the first
  record that begins in it (offset, sequence), the record that runs into it. -/
  open_ : List Nat
  page : Nat
  buf : Bytes
  bufFirst : Option (Nat × Nat)
  bufSeq : Nat
  blockSeq : Nat
  /-- Operations in flight, oldest first (log entry 50). -/
  ops : List NandOp
  /-- Entries for the next commit, its OPEN entries' blocks with their purpose, its pending deletes (last sequence, reason), and who waits. -/
  entries : List Bytes
  opening : List (Nat × Nat)
  deleted : List (Nat × Nat)
  waits : List ArcWait
  /-- Journal pair, next page of it, the next pair, number of the latest commit in force, whether one is requested or in
  progress, and whether its pages have all passed. -/
  jA : Nat
  jB : Nat
  jPage : Nat
  jNext : Option (Nat × Nat)
  commit : Nat
  wanted : Bool
  job : Option ArcCommit
  passed : Bool
  /-- Instant of the first uncommitted program. -/
  firstAt : Option Nat
  /-- Page at which the log goes on after the latest commit in force (log entry 71); the latest GAP record that no data may precede into
  force (R365). -/
  endPage : Nat
  gapSeq : Nat
  /-- Checkpoints: commits since the latest, 0 idle 1 wanted 2 being written 3 written and being journaled, the commit that the one being
  written reflects, blocks ready for the next, blocks and first page of the latest and the previous; whether the journal pair in use is to be retired
  by a fresh one (R374). -/
  ckSince : Nat
  ckPhase : Nat
  ckCommit : Nat
  retire : Bool
  ckNext : List Nat
  ckBlocks : List Nat
  ckPrev : List Nat
  ckPage : Nat
  ckPrevPage : Nat
  /-- Journal blocks closed since the latest checkpoint, and between the previous one and it; journal and checkpoint blocks
  to erase with the next commit; blocks whose records are to be moved. -/
  jDone : List Nat
  jPrev : List Nat
  erasable : List Nat
  moving : List Nat
  /-- Superblock: blocks of the copies, next page of each, GENERATION, FORMAT_TIME. -/
  sbA : Nat
  sbB : Nat
  sbPageA : Nat
  sbPageB : Nat
  generation : Nat
  formatTime : Nat
  /-- Archive time at the last commit in force, and the count then (R363). -/
  time : Nat
  timeAt : Nat
  /-- Patrol: start of the pass in archive time, most corrected bits per target in the pass, and in the last one that ended (R374, R375). -/
  passStart : Nat
  corrected : List (Nat × Nat)
  lastPass : Option (List (Nat × Nat))
  /-- The archive is full (R369); data refused while it is: channel, run, first and last frame. -/
  full : Bool
  refused : List ArcGap
  /-- Spans open at their end, and channels that wait for a block with HIST_RESET (R355). -/
  spans : List ArcGap
  skip : List Nat
  /-- Headers last seen per channel, for the first FRAME item of a record. -/
  headers : List (Nat × Nat × Bytes)
  /-- A flush that still owes its checkpoint, or the halt of R379, is in progress. -/
  flushing : Bool
  halting : Bool
  /-- The next mount follows a reset, a power loss or a halt (R365). -/
  gapDue : Bool
  deriving DecidableEq, Repr

/-- A Vernier result in progress (15 R415-R419): channel (8 = the reference comparison), phase index and values of the
phases done, start, instant of the latest switch, t_conv of the phase in 0.4 us, conversions averaged and their sum, range,
excitation, flags so far, whether every conversion lay below 80 % of the next narrower range, and the constants it started
with: R_ref in micro-ohm, coefficients. -/
structure VpfRes where
  chan : Nat
  phase : Nat
  vals : List Int
  start : Nat
  switchAt : Nat
  conv : Nat
  n : Nat
  sum : Int
  range : Nat
  exc : Nat
  flags : Nat
  low : Bool
  rRef : Nat
  coefs : List Word
  deriving DecidableEq, Repr

/-- Vernier state beside the VPF registers (15). -/
structure VpfSt where
  /-- The measurement in progress (R416-R420). -/
  res : Option VpfRes
  /-- A pause waits for the end of the result. -/
  pausing : Bool
  /-- Range each channel's next result starts in; results counted per channel, 8 the comparison. -/
  ranges : List (Nat × Nat)
  seqs : List (Nat × Nat)
  /-- Latest VALID result per channel: VALUE as a binary64 code in degC, instant of its end. -/
  valid : List (Nat × Nat × Nat)
  /-- Results written to the ring since it was last emptied. -/
  ringCount : Nat
  /-- MAINS_SYNC: latest edge, and the last 16 periods in samples, newest first. -/
  mainsLast : Option Nat
  mains : List Nat
  /-- BLANK_IN levels and slot blank intervals with their instants, newest first, at most 1,024. -/
  pins : List (Nat × Bool)
  slots : List (Nat × Bool)
  /-- Frames since the result's start: number, launch reference, header; newest first. -/
  frames : List (Nat × Nat × Bytes)
  /-- Instant of the latest conversion and samples of SCANNING since the latest comparison (R424). -/
  lastConv : Nat
  scanned : Nat
  deriving DecidableEq, Repr

/-- What a DriverLink transaction is for (16 R437): a SAFE broadcast or a write of the DLK, a post-diagnostic read, a
poll, a step of entry into service, or a host's. -/
inductive DlkKind where
  | own
  | diag
  | poll
  | entry (step : Nat)
  | host (via : Via)
  deriving DecidableEq, Repr

/-- A DriverLink transaction: class in the bus order, target, command and payload. -/
structure DlkTx where
  cls : Nat
  addr : Nat
  cmd : Nat
  data : Bytes
  kind : DlkKind
  deriving DecidableEq, Repr

/-- A device of the table (16 R435-R441): tried once since INIT, in service, failed transactions in a row, NO_RESPONSE,
MISMATCH, HOT, FAULT of the latest STATUS, diagnosis (0 none yet), whether it stands below NOMINAL, whether a STATUS has been
accepted, the value a STATUS asked for, to be written at a boundary (`true`: ENABLE 0), and the instant from which POLL_US
counts. -/
structure DlkDevSt where
  tried : Bool
  inService : Bool
  fails : Nat
  noResp : Bool
  mismatch : Bool
  hot : Bool
  fault : Bool
  diag : Nat
  low : Bool
  known : Bool
  target : Option (Nat × Bool)
  polled : Nat
  deriving DecidableEq, Repr

/-- DriverLink state beside the DLK registers (16): devices by address, SEQ of the latest transaction per address,
the transaction on the bus with its frame and attempts made, and those that are due. -/
structure DlkSt where
  /-- Devices of the table by address (R435-R441). -/
  devs : List (Nat × DlkDevSt)
  /-- SEQ of the latest transaction of each address (R432). -/
  seqs : List (Nat × Nat)
  /-- The transaction on the bus, its frame, and attempts made (R433, R434). -/
  busy : Option (DlkTx × Bytes × Nat)
  /-- Transactions that are due, in no order; the bus order picks (R433). -/
  due : List DlkTx
  /-- The part drives the pair from the first instant up to the second (`DLK_DIR` high, R430); it drives again from the third
  on (R433). -/
  driveFrom : Nat
  driveTo : Nat
  free : Nat
  deriving DecidableEq, Repr

/-- What a chip keeps of the frames from one other chip (19 R488, R489): the expected SEQ, violations and the instants of
the latest, newest first. -/
structure PairRx where
  expect : Word
  hist : List Nat
  quarantined : Bool
  deriving DecidableEq, Repr

/-- A cascade-wide commit in flight (19 R493): its number, the map it names, each member's commit number and last record
sequence, and the record appended with it. -/
structure CcJob where
  cc : Nat
  map : Nat
  replies : List (Nat × Nat × Nat)
  appended : Bool
  /-- Instant at which it began. -/
  begun : Nat
  deriving DecidableEq, Repr

/-- Cascade state beside the CSP registers (19). -/
structure CspSt where
  /-- Receiving state by source, and the next SEQ by destination. -/
  rx : List (Nat × PairRx)
  tx : List (Nat × Nat)
  /-- Forwarded requests: member, frame SEQ, session request. -/
  sent : List (Nat × Nat × Origin × Word)
  /-- Training: a candidate has lost to a lower die identity; the index ENUM gave; the index would have been 16; the token
  came back on CS1. -/
  beaten : Bool
  index : Option Nat
  full : Bool
  ring : Bool
  /-- Instant at which this training began, until the head's ENUM is due (Table 19-2); the port that leads to the head; the last index of
  the members that the head reaches through CS0. -/
  trainAt : Option Nat
  up : Nat
  last : Nat
  /-- Cascade-wide commit in flight at the head, the latest number used, and the number a member still has to answer. -/
  job : Option CcJob
  number : Nat
  prepare : Option Nat
  /-- Instant from which the head counts CC_PERIOD (R493). -/
  period : Nat
  /-- Slot the next partner record goes to, and its bytes so far. -/
  slot : Nat
  /-- Bytes of the partner record gathered so far (R492). -/
  trace : Bytes
  /-- Host-buffer bytes received for a request. -/
  data : List (Origin × Word × Bytes)
  deriving DecidableEq, Repr

/-- When an armed switch takes place (02 R81, 21 R522). -/
inductive SwitchAt where
  | next (accepted : Nat)
  | frame (n : Nat)
  /-- A first or restart switch: at least 2 us after acceptance and once the run record is stored. -/
  | first (accepted : Nat)
  deriving DecidableEq, Repr

/-- Structure image loader state beside the SIL registers (02). -/
structure SilSt where
  /-- On-chip copies made at validation (R92): of the ACTIVE image, empty without one, and of a validated PENDING one. -/
  active : Bytes
  pending : Bytes
  /-- Bank of DRAM that belongs to the ACTIVE image; PENDING loads into the other (R72). -/
  bank : Nat
  /-- The ACTIVE image lies in its SPI slot (R76, R91). -/
  stored : Bool
  /-- Bytes IMAGE_BEGIN or the SPI read will bring. -/
  len : Nat
  /-- PERSIST of the image being loaded (R76). -/
  persist : Bool
  /-- PENDING comes from the SPI flash at start-up; slot it came from or was written to. -/
  boot : Bool
  slot : Nat
  activeSlot : Nat
  /-- Serial of the pointer record that named the boot slot, and slots tried. -/
  bootSerial : Nat
  tried : List Nat
  /-- The armed switch (R81). -/
  armed : Option SwitchAt
  /-- The armed switch is a restart switch (21 R530). -/
  restart : Bool
  /-- A switch's frame 0 or first switch has taken place since reset. -/
  firstDone : Bool
  /-- Heavy switch: drained, groups still to load, virtual frames so far, its first frame. -/
  drained : Bool
  toLoad : List Nat
  heavyFrames : Nat
  /-- A pointer record is to be appended (R76). -/
  pointerDue : Bool
  /-- The bank copy is being rewritten from the SPI slot (R91). -/
  rewriting : Bool
  /-- The image whose frames the engines still finish during a heavy switch (R86). -/
  old : Bytes
  /-- A DRAM-domain reset fell into a heavy switch: its engine load is still to be made, and frames stay virtual (R87, 21 R530). -/
  reload : Bool
  /-- The PENDING bank is to be cleared before the first bytes of a host load (18 R478). -/
  clear : Bool
  deriving DecidableEq, Repr

/-- What the block gives the outside world, newest first: the model's own record of it. -/
inductive Out where
  /-- A 64-byte answer in a completion ring slot. -/
  | answer (session slot : Nat) (bytes : Bytes)
  /-- An MSI-X message of a vector. -/
  | msix (vector : Nat)
  /-- Bytes written to a host address. -/
  | hostWrite (addr : Nat) (bytes : Bytes)
  /-- Data returned by a register or window read. -/
  | readData (off : Nat) (data : Nat)
  /-- An SMBus Block Read's count, block and packet error code; empty for a NACK. -/
  | smbus (bytes : Bytes)
  /-- A Chorus frame on a port: the whole frame. -/
  | chorus (port : Nat) (bytes : Bytes)
  /-- A DriverLink frame: its bytes, and its characters on the line (16 R431). -/
  | dlk (bytes : Bytes) (line : List Bool)
  deriving DecidableEq, Repr

/-- The state of the block. -/
structure State where
  /-- Commands that wait, first in, first out. -/
  pending : List Instr
  /-- The monotonic count: fast samples of 0.8 ns (14 R389). -/
  now : Nat
  /-- Frame number of the current frame, and the count at its launch reference (08 R248). -/
  frame : Nat
  launch : Nat
  /-- Registers whose value differs from their reset value (00 R19, 23 R563-R566). -/
  regs : List (Nat × Word)
  /-- Error logs by path word (01 R56). -/
  logs : List (Nat × UnitLog)
  /-- One-time-programmable fuses: die identity, factory record, key slots, base hours (20 R496, R497, R501, 02 R68). -/
  otp : Otp
  /-- Boot flash (02 R75-R78, 20 R498, 21 R519). -/
  flash : Mem
  glb : GlbSt
  pmu : PmuSt
  hif : HifSt
  pgu : PguSt
  afe : AfeSt
  pcx : PcxSt
  gea : GeaSt
  therm : ThermSt
  mrs : MrsSt
  znt : ZntSt
  stu : StuSt
  tce : TceSt
  anc : AncSt
  vpf : VpfSt
  dlk : DlkSt
  csp : CspSt
  sil : SilSt
  ttu : TtuSt
  dmc : DmcSt
  alm : AlmSt
  /-- CVU transfers in progress: channel, device address and length as GO took them (13 R383). -/
  cvu : List (Nat × Nat × Nat)
  /-- GPIO output levels, bit n for GPIOn, and pins that a slot or CAL_SEL drives. -/
  gpio : BitVec 16
  /-- Gaps not yet recorded in the archive. -/
  gaps : List GapNote
  /-- Free values drawn so far (log entry 2). -/
  free : Nat
  /-- What the block has given the outside world, newest first: the model's own record of it. -/
  out : List Out
  deriving DecidableEq, Repr

/-! ### Reset (21 R516, 23 Table 23-3) -/

/-- What a block holds when nothing has happened since a reset. -/
def HifSt.reset : HifSt := ⟨true, false, false, false, [], [], [], [], [], [], [], 0, [], true⟩
def PguSt.reset : PguSt := ⟨[], 0, (0, 0), [false, false], false, false, false, 0, 0, 0, false⟩
def AfeSt.reset : AfeSt := ⟨0, none, [false, false], [], 0, [], [], [], false, [], [], [], (0, 0)⟩
def PcxSt.reset : PcxSt := ⟨[], none, [], false, false, false, none⟩
def ThermSt.reset : ThermSt := ⟨0, 0, 0, 0, none, [], [], [], none, [], [], none, false, 0, 0, false, 0, 0, 0, 0, 0, 0, [], [], 0⟩
def MrsSt.reset : MrsSt := ⟨false, none, none, false, none, none, [], [], [], [], [], [], false, (0, 0), 0, [], [], [], []⟩
def TtuSt.reset : TtuSt := ⟨0, 0, 0, false, 0, 0, 0, 0, 0, [], none, 0, 0, 0, 0, none, 0, none,
  List.replicate 8 ⟨false, false, true, false, false, none, [], [], [], true, false, 0, 0, none⟩,
  List.replicate 4 ⟨[], [], none, false, 0, 0, 0, 0, 0, 0, 0, 0, [], [], false, none⟩, 0, 0, none⟩
def DmcSt.reset : DmcSt := ⟨[], [], [], [], [], false, none, [], false, [], [], [], [], [], 0, [], [], [], 0⟩
def AlmSt.reset : AlmSt := ⟨[], none, [], [], [], [], [], 0, 0, none, none, none, 0, [], none, 0, false, [], []⟩
def AncSt.reset : AncSt :=
  { pages := [], targets := [], blocks := [], recs := [], fresh := [], nextSeq := 1, commitSeq := 0, oldest := 1, open_ := [], page := 0
    buf := [], bufFirst := none, bufSeq := 0, blockSeq := 0, ops := [], entries := [], opening := [], deleted := [], waits := []
    jA := 0, jB := 0, jPage := 0, jNext := none, commit := 0, wanted := false, job := none, passed := false, firstAt := none
    endPage := 0xFFFFFFFF, gapSeq := 0, ckSince := 0, ckPhase := 0, ckCommit := 0, retire := false, ckNext := [], ckBlocks := [], ckPrev := [], ckPage := 0, ckPrevPage := 0, jDone := [], jPrev := []
    erasable := [], moving := [], sbA := 0, sbB := 1, sbPageA := 0, sbPageB := 0, generation := 0, formatTime := 0, time := 0
    timeAt := 0, passStart := 0, corrected := [], lastPass := none, full := false, refused := [], spans := [], skip := [], headers := []
    flushing := false, halting := false, gapDue := true }
def VpfSt.reset : VpfSt := ⟨none, false, [], [], [], 0, none, [], [], [], [], 0, 0⟩
def CspSt.reset : CspSt := ⟨[], [], [], false, none, false, false, none, 1, 15, none, 0, none, 0, 0, [], []⟩
def SilSt.reset : SilSt :=
  ⟨[], [], 0, false, 0, false, false, 0, 0, 0, [], none, false, false, true, [], 0, false, false, [], false, false⟩

/-- The chip with power-on reset asserted (21 R516, R538): every register at its reset value, every unit OFF, no command
waiting. The fuses are those of the chip; flash and NAND are blank (log entries 3, 4). -/
def State.reset : State :=
  { pending := [], now := 0, frame := 0, launch := 0, regs := [], logs := [], otp := Config.otp, flash := []
    glb := ⟨.testLogicReset, true, false, false, false, false, false, 0, none, 0, none, 0, true, false, []⟩
    pmu := ⟨[], false, false, false, false, false, [], []⟩
    hif := HifSt.reset, pgu := PguSt.reset, afe := AfeSt.reset, pcx := PcxSt.reset, gea := ⟨[], [], [], [], [], []⟩
    therm := ThermSt.reset, mrs := MrsSt.reset, znt := ⟨[], [], [], [], false, false, []⟩, stu := ⟨[], [], [], 0, [], 0⟩
    tce := ⟨[], [], [], [], false, false⟩, anc := AncSt.reset, vpf := VpfSt.reset, dlk := ⟨[], [], none, [], 0, 0, 0⟩, csp := CspSt.reset
    sil := SilSt.reset, ttu := TtuSt.reset, dmc := DmcSt.reset, alm := AlmSt.reset, cvu := [], gpio := 0, gaps := [], free := 0, out := [] }

end Sys2Proof.Machine
end

