-- ==== Sys2Proof/Machine/Ops.lean ====
section
/-! DEFINITION. The operations every meaning is written with: registers and their fields, domains and
blocks, error logs, interrupts, and answers to requests. -/

namespace Sys2Proof.Machine

/-- The block gives something to the outside world. -/
def State.give (s : State) (o : Out) : State := { s with out := o :: s.out }

/-! ### Registers -/

/-- The stored value of the register at an offset (00 R19). -/
def State.reg (s : State) (off : Nat) : Word := tabGet resetWord s.regs off

/-- A register takes a value. -/
def State.setReg (s : State) (off : Nat) (w : Word) : State := { s with regs := tabPut resetWord s.regs off w }

/-- The value of a field. -/
def State.fld (s : State) (f : Fld) : Nat := bitsOf (s.reg f.reg) f.hi f.lo

/-- Whether a field is not 0. -/
def State.flag (s : State) (f : Fld) : Bool := s.fld f != 0

/-- A field takes the low bits of a value. -/
def State.setFld (s : State) (f : Fld) (n : Nat) : State := s.setReg f.reg (setBits (s.reg f.reg) f.hi f.lo n)

/-- A one-bit field is set or cleared. -/
def State.setFlag (s : State) (f : Fld) (b : Bool) : State := s.setFld f (if b then 1 else 0)

/-- The largest value of a field. -/
def Fld.top (f : Fld) : Nat := 2 ^ (f.hi + 1 - f.lo) - 1

/-- A count adds `n` and stays at its largest value. -/
def State.count (s : State) (f : Fld) (n : Nat) : State := s.setFld f (satAdd f.top (s.fld f) n)

/-- A field taken as a two's-complement number. -/
def State.fldInt (s : State) (f : Fld) : Int := signed (f.hi + 1 - f.lo) (s.fld f)

/-- A 64-bit value held in a LO and a HI register. -/
def State.reg64 (s : State) (lo hi : Nat) : Nat := (s.reg lo).toNat + 2 ^ 32 * (s.reg hi).toNat

/-- A 64-bit value goes into a LO and a HI register. -/
def State.setReg64 (s : State) (lo hi n : Nat) : State := (s.setReg lo (w32 n)).setReg hi (w32 (n / 2 ^ 32))

/-- A run of registers returns to its reset values. -/
def State.resetRegs (s : State) (lo hi : Nat) : State :=
  { s with regs := tabDrop (fun k => decide (lo ≤ k) && decide (k < hi)) s.regs }

/-! ### Units, domains and blocks -/

/-- The units that own codes, by TOP index: 0 the GEA, 1 to 20 the fixed blocks (01 R48); 21 the GLB, which
has codes but no error log. -/
inductive Unit where
  | gea | pmu | sil | mrs | pgu | fafe | ddc | pcx | mafe | znt | stu
  | tce | anc | dmc | cvu | ttu | vpf | dlk | hif | csp | alm | glb
  deriving DecidableEq, Repr

/-- TOP index of a unit (01 R48). -/
def Unit.top : Unit → Nat
  | .gea => 0 | .pmu => 1 | .sil => 2 | .mrs => 3 | .pgu => 4 | .fafe => 5 | .ddc => 6 | .pcx => 7 | .mafe => 8
  | .znt => 9 | .stu => 10 | .tce => 11 | .anc => 12 | .dmc => 13 | .cvu => 14 | .ttu => 15 | .vpf => 16
  | .dlk => 17 | .hif => 18 | .csp => 19 | .alm => 20 | .glb => 21

/-- Power domain of a unit's registers, by index (17 Table 17-1, 23 Table 23-1). -/
def Unit.domain : Unit → Nat
  | .glb | .pmu => 0
  | .sil | .mrs | .gea | .znt | .stu | .tce | .cvu | .dlk => 1
  | .pgu | .fafe | .ddc | .pcx => 6
  | .mafe => 7
  | .vpf => 8
  | .dmc => 9
  | .anc => 10
  | .hif => 11
  | .csp => 12
  | .ttu => 1
  | .alm => 1

/-- Path word of a fixed block: DEPTH 1, TOP (01 R48). -/
def fixedPath (u : Unit) : Nat := 0x20000000 + 0x1000000 * u.top

/-- Path word of engine `e`: DEPTH 4, its tile, quad and number (01 R48). -/
def enginePath (e : Nat) : Nat := 0x80000000 + 0x100000 * (e / 16) + 0x10000 * (e / 4 % 4) + 0x1000 * (e % 4)

/-- The order of paths as a number: bits [28:12], then DEPTH (01 R49). -/
def pathKey (p : Nat) : Nat := ((p % 2 ^ 29) >>> 12) * 8 + p / 2 ^ 29

/-- State of a domain, 0 RUN to 3 OFF (17 R446). -/
def State.domState (s : State) (d : Nat) : Nat := s.fld (F.PMU_DOMd_STATUS.STATE d)

/-- A domain is on: in RUN with no step in progress (17 R454). -/
def State.domOn (s : State) (d : Nat) : Bool :=
  s.domState d == 0 && !s.flag (F.PMU_DOMd_STATUS.BUSY d)

/-- A unit's registers are on (17 R454). -/
def State.unitOn (s : State) (u : Unit) : Bool := s.domOn u.domain

/-- An image is ACTIVE (02 Table 2-10). -/
def State.imageActive (s : State) : Bool := s.flag F.SIL_STATE.ACTIVE_VALID

/-! ### What the fuses give (00 R8, 20 R501) -/

/-- GRADE of the die identity (00 R7, 20 Table 20-1). -/
def State.grade (s : State) : Nat := s.otp.dieId.toNat / 2 ^ 53 % 16

/-- BASE_HOURS and the baseline samples: 1,000 and the burn-in's on the metrology grade, 0 and none on any other (00 R8). -/
def State.baseHours (s : State) : Nat := if s.grade = 2 then 1000 else 0
def State.baseline (s : State) : List (Nat × Nat × Nat) := if s.grade = 2 then s.otp.baseline else []

/-- The oscillator trim; 0 where the factory record's CRC fails (20 R501). -/
def State.trim (s : State) : Int := if s.otp.factoryOk then s.otp.trim else 0

/-! ### Range-time -/

/-- Fast samples in a microsecond and a millisecond: a sample lasts 0.8 ns (00 R15). -/
abbrev usec : Nat := 1250
abbrev msec : Nat := 1250000

/-- The bin at the current instant: samples since the launch reference over the pitch (00 R15); 0 without a
pitch, and the largest 18-bit index beyond it (log entry 9). -/
def State.bin (s : State) : Nat :=
  let p := s.fld F.MRS_GEOM.PITCH
  if p = 0 then 0 else min (2 ^ 18 - 1) ((s.now - s.launch) / p)

/-- A channel of the TCE has a complete block and stalls: its ring has no room, or DRAM takes no writes (10 R313, R317). -/
def State.tceStalls (s : State) : Bool :=
  s.tce.stalled || (!s.tce.blocks.isEmpty && !(s.fld F.DMC_STATUS.STATE == 2 && s.domOn 9))

/-- The stall cycles of 1.0 GHz that pass up to an instant enter TCE_STALL_CYCLES while a channel stalls (10 R313). -/
def State.stallTo (s : State) (t : Nat) : State :=
  if s.tceStalls ∧ s.now < t then
    let n := s.reg64 R.TCE_STALL_CYCLES_LO R.TCE_STALL_CYCLES_HI
    s.setReg64 R.TCE_STALL_CYCLES_LO R.TCE_STALL_CYCLES_HI ((n + (4 * t / 5 - 4 * s.now / 5)) % 2 ^ 64)
  else s

/-- Bytes that the spec leaves open: the next free values (log entry 2). -/
def State.freeBytes (s : State) (n : Nat) : Bytes × State :=
  ((List.range n).map (fun i => Config.freeByte (s.free + i)), { s with free := s.free + n })

/-! ### Error logs (01 R56) -/

/-- A new occurrence in a log: a repeat of the latest entry counts there, any other writes an entry, the
oldest making room. -/
def UnitLog.add (l : UnitLog) (e : LogEntry) : UnitLog :=
  match l.entries.getLast? with
  | some last =>
    if last.code = e.code ∧ last.frame = e.frame then
      { l with entries := l.entries.dropLast ++ [{ last with rep := satSucc 16383 last.rep }] }
    else { entries := lastN 16 (l.entries ++ [e]), overflow := l.overflow || decide (l.entries.length ≥ 16) }
  | none => { l with entries := [e] }

/-- The log kept under a path word. -/
def State.logOf (s : State) (path : Nat) : UnitLog := tabGet (fun _ => ⟨[], false⟩) s.logs path

/-- An error code enters the log of a path, for a frame and bin. -/
def State.logFor (s : State) (path code frame bin : Nat) : State :=
  let l := (s.logOf path).add ⟨frame, code, bin, 0, path⟩
  { s with logs := tabPut (fun _ => ⟨[], false⟩) s.logs path l }

/-- An error code enters the log of a path at the current range-time. -/
def State.logAt (s : State) (path code : Nat) : State := s.logFor path code s.frame s.bin

/-! ### Interrupts (18 R463, R464) -/

/-- IRQ_STATUS and IRQ_ENABLE of interrupt source `n`; source 6, the DDC, has none. -/
def irqRegs : Nat → Option (Nat × Nat)
  | 0 => some (R.GEA_IRQ_STATUS, R.GEA_IRQ_ENABLE)
  | 1 => some (R.PMU_IRQ_STATUS, R.PMU_IRQ_ENABLE)
  | 2 => some (R.SIL_IRQ_STATUS, R.SIL_IRQ_ENABLE)
  | 3 => some (R.MRS_IRQ_STATUS, R.MRS_IRQ_ENABLE)
  | 4 => some (R.PGU_IRQ_STATUS, R.PGU_IRQ_ENABLE)
  | 5 => some (R.FAFE_IRQ_STATUS, R.FAFE_IRQ_ENABLE)
  | 7 => some (R.PCX_IRQ_STATUS, R.PCX_IRQ_ENABLE)
  | 8 => some (R.MAFE_IRQ_STATUS, R.MAFE_IRQ_ENABLE)
  | 9 => some (R.ZNT_IRQ_STATUS, R.ZNT_IRQ_ENABLE)
  | 10 => some (R.STU_IRQ_STATUS, R.STU_IRQ_ENABLE)
  | 11 => some (R.TCE_IRQ_STATUS, R.TCE_IRQ_ENABLE)
  | 12 => some (R.ANC_IRQ_STATUS, R.ANC_IRQ_ENABLE)
  | 13 => some (R.DMC_IRQ_STATUS, R.DMC_IRQ_ENABLE)
  | 14 => some (R.CVU_IRQ_STATUS, R.CVU_IRQ_ENABLE)
  | 15 => some (R.TTU_IRQ_STATUS, R.TTU_IRQ_ENABLE)
  | 16 => some (R.VPF_IRQ_STATUS, R.VPF_IRQ_ENABLE)
  | 17 => some (R.DLK_IRQ_STATUS, R.DLK_IRQ_ENABLE)
  | 18 => some (R.HIF_IRQ_STATUS, R.HIF_IRQ_ENABLE)
  | 19 => some (R.CSP_IRQ_STATUS, R.CSP_IRQ_ENABLE)
  | 20 => some (R.ALM_IRQ_STATUS, R.ALM_IRQ_ENABLE)
  | 21 => some (R.GLB_IRQ_STATUS, R.GLB_IRQ_ENABLE)
  | _ => none

/-- The level of a source: the OR of its block's IRQ_STATUS AND IRQ_ENABLE. -/
def State.irqLevel (s : State) (n : Nat) : Bool :=
  match irqRegs n with
  | some (st, en) => (s.reg st &&& s.reg en) != 0
  | none => false

/-- A vector is signalled: no message with MSI-X disabled or no bus mastering, the pending bit where the
vector is masked, a message otherwise. -/
def State.signal (s : State) (v : Nat) : State :=
  if !s.hif.msixOn then s
  else if s.hif.msixMask || s.flag (F.MSIX_TABLEv_CONTROL.MASK v) then
    let r := R.MSIX_PBAi (v / 32)
    s.setReg r (s.reg r ||| (1 <<< (v % 32)))
  else if s.hif.busMaster then { s with out := .msix v :: s.out } else s

/-- Map entry of a source: EN and VECTOR in its byte of HIF_IRQ_MAP0-5. -/
def State.irqMap (s : State) (n : Nat) : Nat := bitsOf (s.reg (R.HIF_IRQ_MAPm (n / 4))) (8 * (n % 4) + 7) (8 * (n % 4))

/-- One source's level is taken anew: a rise with its map entry enabled signals the vector. -/
def State.settleIrqAt (s : State) (n : Nat) : State :=
  let l := s.irqLevel n
  let old := s.hif.levels.getLsbD n
  let s1 : State := { s with hif := { s.hif with
    levels := if l then s.hif.levels ||| (1 <<< n) else s.hif.levels &&& ~~~((1 : BitVec 22) <<< n) } }
  if l && !old && decide (s.irqMap n ≥ 128) then s1.signal (s.irqMap n % 64) else s1

/-- Every source's level is taken anew. -/
def State.settleIrq (s : State) : State := (List.range 22).foldl State.settleIrqAt s

/-- IRQ_N is driven low (18 R464). -/
def State.irqN (s : State) : Bool :=
  (List.range 22).any (fun n => bitAt (s.fld F.HIF_IRQN_MASK.MASK) n && s.irqLevel n)

/-- Interrupt source of a unit. -/
def Unit.source (u : Unit) : Nat := u.top

/-- A status bit of a unit's IRQ_STATUS is set, and its source settles. -/
def State.raise (s : State) (u : Unit) (f : Fld) : State := (s.setFld f (s.fld f ||| 1)).settleIrqAt u.source

/-! ### Codes -/

/-- Where a unit shows its latest CODE and DETAIL. Units without such fields answer none. -/
def Unit.codeFlds : Unit → Option (Fld × Fld)
  | .pmu => some (F.PMU_STATUS.CODE, F.PMU_STATUS.DETAIL)
  | .sil => some (F.SIL_RESULT.CODE, F.SIL_RESULT.DETAIL)
  | .mrs => some (F.MRS_STATUS.CODE, F.MRS_STATUS.DETAIL)
  | .pgu => some (F.PGU_STATUS.CODE, F.PGU_STATUS.DETAIL)
  | .fafe => some (F.FAFE_STATUS.CODE, F.FAFE_STATUS.DETAIL)
  | .pcx => some (F.PCX_STATUS.CODE, F.PCX_STATUS.DETAIL)
  | .mafe => some (F.MAFE_STATUS.CODE, F.MAFE_STATUS.DETAIL)
  | .znt => some (F.ZNT_STATUS.CODE, F.ZNT_STATUS.DETAIL)
  | .stu => some (F.STU_STATUS.CODE, F.STU_STATUS.DETAIL)
  | .tce => some (F.TCE_STATUS.CODE, F.TCE_STATUS.DETAIL)
  | .anc => some (F.ANC_STATUS.CODE, F.ANC_STATUS.DETAIL)
  | .dmc => some (F.DMC_STATUS.CODE, F.DMC_STATUS.DETAIL)
  | .ttu => some (F.TTU_STATUS.CODE, F.TTU_STATUS.DETAIL)
  | .vpf => some (F.VPF_STATUS.CODE, F.VPF_STATUS.DETAIL)
  | .dlk => some (F.DLK_STATUS.CODE, F.DLK_STATUS.DETAIL)
  | .hif => some (F.HIF_STATUS.CODE, F.HIF_STATUS.DETAIL)
  | .csp => some (F.CSP_STATUS.CODE, F.CSP_STATUS.DETAIL)
  | .alm => some (F.ALM_STATUS.CODE, F.ALM_STATUS.DETAIL)
  | .glb => some (F.GLB_STARTUP.CODE, F.GLB_STARTUP.DETAIL)
  | .gea | .ddc | .cvu => none

/-- A unit's status shows a code and its detail. -/
def State.show (s : State) (u : Unit) (code detail : Nat) : State :=
  match u.codeFlds with
  | some (c, d) => (s.setFld c code).setFld d detail
  | none => s

/-- A unit reports a code: its status shows it, and a code other than OK enters its error log (01 R56).
The GLB has no error log. -/
def State.post (s : State) (u : Unit) (code detail : Nat) : State :=
  let s1 := s.show u code detail
  if code = 0 ∨ u = .glb then s1 else s1.logAt (fixedPath u) code

/-! ### Answers (18 R465-R467, R473; 19 R488) -/

/-- The 64-byte slot of an answer: header, payload rounded up to 8 bytes, zeros (18 Table 18-1). -/
def answerSlot (req : Req) (nak phase : Bool) (code source detail : Nat) (payload : Bytes) : Bytes :=
  let flags := 1 + (if nak then 2 else 0) + (if phase then 0x8000 else 0)
  fitBytes 64 (leBytes 2 (16 + 8 * ((payload.length + 7) / 8)) ++ leBytes 2 req.opcode ++ leBytes 1 req.copy.1
    ++ leBytes 1 req.member ++ leBytes 2 flags ++ leBytes 4 req.copy.2.toNat
    ++ leBytes 4 (code % 256 + 256 * (source % 256) + 65536 * (detail % 65536)) ++ payload)

/-- A Chorus frame (19 Table 19-1). -/
def chorusFrame (type src dst seq arg : Nat) (payload : Bytes) : Bytes :=
  let b := leBytes 1 type ++ leBytes 1 src ++ leBytes 1 dst ++ [0] ++ leBytes 4 seq ++ leBytes 4 payload.length ++ leBytes 4 arg ++ payload
  b ++ leBytes 4 (crc32c b).toNat

/-- The port a frame for another chip leaves at: the head sends through CS0 to the members numbered there and through CS1 to the rest; a
member has the head and the lower indexes on the side ENUM came from (19 Table 19-2, log entry 113). -/
def State.chorusPort (s : State) (dst : Nat) : Nat :=
  if s.fld F.CSP_STATUS.STATE = 3 then (if dst ≤ s.csp.last then 0 else 1)
  else if dst > s.fld F.CSP_STATUS.INDEX then 1 - s.csp.up else s.csp.up

/-- A frame goes to another chip. REQUEST, ANSWER, DATA and TRACE frames take the next SEQ of their pair (R488), others 0. -/
def State.chorusSend (s : State) (type dst arg : Nat) (payload : Bytes) : State :=
  let counted := decide (3 ≤ type) && decide (type ≤ 6)
  let seq := if counted then tabGet (fun _ => 0) s.csp.tx dst else 0
  let s1 : State := if counted then { s with csp := { s.csp with tx := tabPut (fun _ => 0) s.csp.tx dst ((seq + 1) % 2 ^ 32) } } else s
  s1.give (.chorus (s.chorusPort dst) (chorusFrame type (s.fld F.CSP_STATUS.INDEX) dst seq arg payload))

/-- 300 us into training a head candidate that no lower die identity has beaten sends ENUM with index 0 out of CS0 (19 Table 19-2). -/
def State.trainTo (s : State) (t : Nat) : State :=
  match s.csp.trainAt with
  | some t0 =>
    if t < t0 + 300 * usec ∨ s.fld F.CSP_STATUS.STATE ≠ 1 then s
    else
      let s1 : State := { s with csp := { s.csp with trainAt := none } }
      if s.flag F.CSP_CFG.HEAD && !s.csp.beaten then s1.give (.chorus 0 (chorusFrame 2 0 0 0 0 [])) else s1
  | none => s

/-- The instant of a command: the monotonic count never runs back. -/
def State.at_ (s : State) (t : Nat) : State := { (s.stallTo t).trainTo t with now := max s.now t }

/-- An open session. -/
def State.session (s : State) (n : Nat) : Option Session := (s.hif.sessions.find? (·.1 = n)).map (·.2)

/-- An open session takes a new content. -/
def State.setSession (s : State) (n : Nat) (x : Session) : State :=
  { s with hif := { s.hif with sessions := s.hif.sessions.map (fun p => if p.1 = n then (n, x) else p) } }

/-- A finished answer goes into the session's CQ slot and its vector is signalled; with no free slot it
waits (18 R465, R466, log entry 11). `bytes` carries PHASE 0. -/
def State.putAnswer (s : State) (n : Nat) (bytes : Bytes) : State :=
  match s.session n with
  | none => s
  | some x =>
    if x.cqUsed ≥ 2 ^ x.cqLog2 then s.setSession n { x with heldAnswers := x.heldAnswers ++ [bytes] }
    else
      let full := if x.phase then modAt bytes 7 (· ||| 0x80) else bytes
      let wrap := decide (x.cqTail + 1 = 2 ^ x.cqLog2)
      let x1 := { x with cqTail := if wrap then 0 else x.cqTail + 1, cqUsed := x.cqUsed + 1, phase := x.phase != wrap }
      let s1 := s.setSession n x1
      ({ s1 with out := .answer n x.cqTail full :: s1.out }).signal x.vector

/-- The accepted request a message names. -/
def State.request (s : State) (o : Origin) (seq : Word) : Option Req :=
  s.hif.reqs.find? (fun r => r.origin = o ∧ r.seq = seq)

/-- A request is for this chip: it names member 0, or the head forwarded it here (18 R476). -/
def Req.here (r : Req) : Bool :=
  match r.origin with
  | .session _ => r.member == 0
  | .chorus _ => true

/-- The accepted request of a message, for this chip, with one of the given opcodes. -/
def State.requestOf (s : State) (o : Origin) (seq : Word) (ops : List Nat) : Option Req :=
  (s.request o seq).filter (fun r => ops.contains r.opcode && r.here)

/-- A request is answered: it leaves the accepted requests, and its answer goes to its session, or to the
Chorus as an ANSWER frame for the head (18 R476, 19 R488). -/
def State.answer (s : State) (o : Origin) (seq : Word) (code source detail : Nat) (payload : Bytes) : State :=
  match s.request o seq with
  | none => s
  | some r =>
    let s1 : State := { s with hif := { s.hif with reqs := s.hif.reqs.erase r } }
    if r.orphan then s1
    else
      let slot := answerSlot r false false code source detail payload
      match o with
      | .session n => s1.putAnswer n slot
      | .chorus m => s1.chorusSend 4 m 0 slot

/-- A request ends at its unit with a code: the unit reports it, and a message is answered with it
(18 R473). -/
def State.finish (s : State) (v : Via) (u : Unit) (code detail : Nat) (payload : Bytes := []) : State :=
  let s1 := s.post u code detail
  match v with
  | .reg _ => s1
  | .msg o seq => s1.answer o seq code u.top detail payload

/-- A request that is accepted or done without changing the unit's shown code. -/
def State.reply (s : State) (v : Via) (u : Unit) (code detail : Nat) (payload : Bytes := []) : State :=
  match v with
  | .reg _ => s
  | .msg o seq => s.answer o seq code u.top detail payload

/-! ### Accesses to blocks that are off (17 R454, R455; 18 R478) -/

/-- Access source as PMU_OFFLOG codes it (17 Table 17-5). -/
def srcCode : Src → Nat
  | .host => 0 | .cascade => 1 | .jtag => 2

/-- Who accesses, as PMU_OFFLOG codes it. -/
def accessorCode : Accessor → Nat
  | .bus src => srcCode src
  | .smbus => 3

/-- An access to a block that is not on is logged with the code of who made it, and OFF_ACCESS is raised (17 R455). -/
def State.logOffBy (s : State) (by_ : Nat) (aperture write : Bool) (off domain : Nat) : State :=
  let w0 := off % 2 ^ 26 + (if aperture then 2 ^ 26 else 0) + (if write then 2 ^ 27 else 0) + 2 ^ 28 * by_
  let e : List Word := [w32 w0, w32 s.frame, w32 (s.frame / 2 ^ 32 % 65536 + 65536 * domain), w32 (s.bin + 2 ^ 31)]
  let full := decide (s.pmu.offlog.length ≥ 64)
  let s1 : State := { s with pmu := { s.pmu with offlog := lastN 64 (s.pmu.offlog ++ [e]) } }
  let s2 := if full then s1.count F.PMU_OFFLOG_STAT.LOST 1 else s1
  (s2.post .pmu 2 domain).raise .pmu F.PMU_IRQ_STATUS.OFF_ACCESS

/-- A register or window access of a source to a block that is not on (17 R455). -/
def State.logOff (s : State) (src : Src) (aperture write : Bool) (off domain : Nat) : State :=
  s.logOffBy (srcCode src) aperture write off domain

/-- A request reaches a unit: through a register the access must find the block on, else it is logged;
a message to a block that is not on is answered BLOCK_OFF and logged (18 R478). `off` is the register the
request is made through. -/
def State.onUnit (s : State) (v : Via) (u : Unit) (off : Nat) (act : State → State) : State :=
  if s.unitOn u then act s
  else match v with
    | .reg src => s.logOff src false true off u.domain
    | .msg o seq =>
      ((s.logOff (match o with | .session _ => .host | .chorus _ => .cascade) false true off u.domain).post
        .hif 7 u.domain).answer o seq 7 18 u.domain []

/-- A message acts only while it names an accepted request with its opcode; a register request always
acts. -/
def State.withRequest (s : State) (v : Via) (ops : List Nat) (act : State → State) : State :=
  match v with
  | .reg _ => act s
  | .msg o seq => match s.requestOf o seq ops with
    | some _ => act s
    | none => s

/-- Payload of the accepted request a message names; empty for a register request. -/
def State.payload (s : State) (v : Via) : Bytes :=
  match v with
  | .reg _ => []
  | .msg o seq => match s.request o seq with
    | some r => r.payload
    | none => []

/-- The lock byte without STEPPED; and with it for a header. -/
def State.lockBase (s : State) : Nat := s.fld F.TTU_STATUS.LOCK_STATE % 64 / 32 * 32 + s.fld F.TTU_STATUS.LOCK_STATE % 16
def State.lockByte (s : State) (stepped : Bool) : Nat := s.lockBase + (if stepped then 16 else 0)

end Sys2Proof.Machine
end

