-- ==== Sys2Proof/Machine/Image.lean ====
section
/-! DEFINITION. Structure images: the layout of Tables 2-1 to 2-4 with every section payload, the checks of
R80 in their order with the limits of Table 2-5, and the register values an image gives (02 R67-R71, R80,
R89, R567). -/

namespace Sys2Proof.Machine

/-- A section of an image (02 Table 2-2): its index in file order, header fields and payload. -/
structure Section where
  index : Nat
  type : Nat
  version : Nat
  length : Nat
  crc : Nat
  reserved : Nat
  payload : Bytes
  deriving DecidableEq, Repr

/-- Section types (02 Table 2-4). -/
abbrev Sec.geometry : Nat := 1
abbrev Sec.tonePlan : Nat := 2
abbrev Sec.gainProfile : Nat := 3
abbrev Sec.engineGrouping : Nat := 4
abbrev Sec.engineProgram : Nat := 5
abbrev Sec.routing : Nat := 6
abbrev Sec.zoneTree : Nat := 7
abbrev Sec.detectorBands : Nat := 8
abbrev Sec.triggerPrograms : Nat := 9
abbrev Sec.streamPolicy : Nat := 10
abbrev Sec.archivePolicy : Nat := 11
abbrev Sec.powerEnables : Nat := 12
abbrev Sec.vernierSetup : Nat := 13
abbrev Sec.driverlinkTable : Nat := 14
abbrev Sec.deratingCurves : Nat := 15
abbrev Sec.schedule : Nat := 16
abbrev Sec.registerInit : Nat := 17

/-- Mandatory section types, lowest first (02 Table 2-4). -/
def Sec.mandatory : List Nat := [1, 2, 4, 6, 12, 16]

/-- A size rounded up to a multiple of 8. -/
def pad8 (n : Nat) : Nat := 8 * ((n + 7) / 8)

/-- A multiple of one more: the section walk of an image from a byte offset, `k` sections at most. A section
header that does not fit ends the walk. -/
def walkSections (img : Bytes) (total : Nat) : Nat → Nat → Nat → List Section
  | 0, _, _ => []
  | k + 1, i, off =>
    if off + 16 > total then []
    else
      let len := field img (off + 4) 4
      ⟨i, field img off 2, field img (off + 2) 2, len, field img (off + 8) 4, field img (off + 12) 4,
        (img.drop (off + 16)).take len⟩ :: walkSections img total k (i + 1) (off + 16 + len)

/-- SECTION_COUNT of an image. -/
def imgSectionCount (img : Bytes) : Nat := field img 0x14 2

/-- The sections of an image, the trailer left out. -/
def imgSections (img : Bytes) : List Section := walkSections img (img.length - 16) (imgSectionCount img) 0 64

/-- IMAGE_SERIAL, KEY_ID and CAL_EPOCH of an image (02 Table 2-1). -/
def imgSerial (img : Bytes) : Nat := field img 0x0C 4
def imgKeyId (img : Bytes) : Nat := field img 0x13 1
def imgCalEpoch (img : Bytes) : Nat := field img 0x24 4

/-- Payload of an image's first section of a type; none without one. -/
def imgSec (img : Bytes) (t : Nat) : Option Bytes :=
  ((imgSections img).find? (fun x => x.type = t)).map (·.payload)

/-- The same, empty where the section is absent. -/
def imgPay (img : Bytes) (t : Nat) : Bytes := (imgSec img t).getD []

/-- Whether an image has a section. -/
def imgHas (img : Bytes) (t : Nat) : Bool := (imgSec img t).isSome

/-! ### Section payloads -/

/-- An engine group of ENGINE_GROUPING (07 R240). MEMBERS has bit e for engine e = 16t + 4q + e. -/
structure Group where
  path : Nat
  kind : Nat
  count : Nat
  members : Nat
  deriving DecidableEq, Repr

/-- Members of a group as engine numbers, lowest first. -/
def Group.engines (g : Group) : List Nat := (List.range 64).filter (fun e => bitAt g.members e)

/-- Lowest member of a group; 0 for an empty one. -/
def Group.lowest (g : Group) : Nat := g.engines.headD 0

/-- The groups of an image, by group index (07 R240). -/
def imgGroups (img : Bytes) : List Group :=
  let p := imgPay img Sec.engineGrouping
  (List.range (min 64 (field p 4 4))).map (fun i =>
    ⟨field p (8 + 16 * i) 4, field p (12 + 16 * i) 1, field p (13 + 16 * i) 1, field p (16 + 16 * i) 8⟩)

/-- An initial data segment of an ENGINE_PROGRAM (07 R241). -/
structure ProgSeg where
  target : Nat
  offset : Nat
  data : Bytes
  deriving DecidableEq, Repr

/-- The program of a group (07 R241). -/
structure Program where
  group : Nat
  segCount : Nat
  entry : Nat
  ivec : Nat
  imem : Bytes
  segs : List ProgSeg
  /-- Bytes the payload's counts require. -/
  need : Nat
  deriving DecidableEq, Repr

/-- Segments from a byte offset, with the offset after the last. -/
def walkSegs (p : Bytes) : Nat → Nat → List ProgSeg × Nat
  | 0, off => ([], off)
  | k + 1, off =>
    let len := field p (off + 8) 4
    let r := walkSegs p k (off + 16 + len)
    (⟨field p off 2, field p (off + 4) 4, (p.drop (off + 16)).take len⟩ :: r.1, r.2)

/-- An ENGINE_PROGRAM payload read. -/
def readProgram (p : Bytes) : Program :=
  let il := field p 8 4
  let r := walkSegs p (field p 2 2) (32 + il)
  ⟨field p 0 2, field p 2 2, field p 4 2, field p 6 2, (p.drop 32).take il, r.1, r.2⟩

/-- The programs of an image. -/
def imgPrograms (img : Bytes) : List Program :=
  ((imgSections img).filter (fun x => x.type = Sec.engineProgram)).map (fun x => readProgram x.payload)

/-- A stream of ROUTING (08 R268): SOURCE 0 PCX, 1 Raman averager, 2 MADC2, 3 MADC3. -/
structure RStream where
  source : Nat
  pool : Nat
  firstBlock : Nat
  blockCount : Nat
  deriving DecidableEq, Repr

/-- Streams, pool masks and the initial block assignment of an image (08 R268). -/
def imgStreams (img : Bytes) : List RStream :=
  let p := imgPay img Sec.routing
  (List.range (min 8 (field p 0 2))).map (fun i =>
    ⟨field p (8 + 8 * i) 1, field p (9 + 8 * i) 1, field p (10 + 8 * i) 2, field p (12 + 8 * i) 2⟩)
def imgPools (img : Bytes) : List Nat :=
  let p := imgPay img Sec.routing
  let at_ := 8 + 8 * field p 0 2
  (List.range (min 16 (field p 2 2))).map (fun i => field p (at_ + 8 * i) 8)
def imgBlocks (img : Bytes) : List Nat :=
  let p := imgPay img Sec.routing
  let at_ := 8 + 8 * field p 0 2 + 8 * field p 2 2
  (List.range (min 1040 (field p 4 2))).map (fun j => field p (at_ + j) 1)

/-- A programmed slot of SCHEDULE (08 R269). -/
structure Slot where
  offset : Int
  anchor : Nat
  repeatExp : Nat
  action : Nat
  realOnly : Bool
  flags : Nat
  target : Nat
  arg : Nat
  phase : Nat
  deriving DecidableEq, Repr

/-- The programmed slots of a SCHEDULE payload, in entry order (08 R269), and those of an image. -/
def scheduleSlots (p : Bytes) : List Slot :=
  (List.range (min 2048 (field p 2 2))).map (fun i =>
    let o := 8 + 16 * i
    ⟨signed 32 (field p o 4), field p (o + 4) 1, field p (o + 5) 1, field p (o + 6) 1, bitAt (field p (o + 7) 1) 0,
      field p (o + 7) 1, field p (o + 8) 4, field p (o + 12) 2, field p (o + 14) 2⟩)
def imgSlots (img : Bytes) : List Slot := scheduleSlots (imgPay img Sec.schedule)

/-- A Table 9-1 entry read. -/
def readZone (p : Bytes) (o bandMask bgExp : Nat) : Zone :=
  ⟨field p o 2, field p (o + 2) 2, field p (o + 4) 1, field p (o + 5) 1, field p (o + 6) 1, field p (o + 8) 4,
    field p (o + 12) 4, bandMask, bgExp⟩

/-- The zone entry of DETECTOR_BANDS for a zone: BAND_MASK and BG_EXP, 0 without one (09 R281). -/
def imgBandEntry (img : Bytes) (zone : Nat) : Nat × Nat :=
  let p := imgPay img Sec.detectorBands
  match (List.range (min 4096 (field p 2 2))).find? (fun i => field p (0x70 + 4 * i) 4 % 4096 = zone) with
  | some i => let e := field p (0x70 + 4 * i) 4; (e / 4096 % 16, e / 65536 % 16)
  | none => (0, 0)

/-- The zones of an image (09 R272, R281). -/
def imgZones (img : Bytes) : List Zone :=
  let p := imgPay img Sec.zoneTree
  (List.range (min 4096 (field p 0 2))).map (fun i =>
    let e := imgBandEntry img (field p (8 + 16 * i) 2)
    readZone p (8 + 16 * i) e.1 e.2)

/-- A capture record definition (09 Table 9-7). -/
structure RecDef where
  zone : Nat
  decimExp : Nat
  flags : Nat
  rows : Nat
  pre : Nat
  post : Nat
  holdoff : Nat
  deriving DecidableEq, Repr

/-- The capture record definitions of an image (09 R284, R287). -/
def imgRecords (img : Bytes) : List RecDef :=
  let p := imgPay img Sec.triggerPrograms
  (List.range (min 64 (field p 1 1))).map (fun i =>
    let o := 8 + 16 * i
    ⟨field p o 2, field p (o + 2) 1, field p (o + 3) 1, field p (o + 4) 4, field p (o + 8) 3, field p (o + 11) 3,
      field p (o + 14) 2⟩)

/-- A transition entry of a trigger program (09 Table 9-4). -/
structure Transition where
  cond : Nat
  carg : Nat
  next : Nat
  actions : Nat
  thresh : Nat
  counter : Nat
  timer : Nat
  timerValue : Nat
  record : Nat
  reportCode : Nat
  deriving DecidableEq, Repr

/-- A transition entry read. -/
def readTransition (p : Bytes) (o : Nat) : Transition :=
  ⟨field p o 1, field p (o + 1) 1, field p (o + 2) 1, field p (o + 3) 1, field p (o + 4) 4, field p (o + 8) 1,
    field p (o + 9) 1, field p (o + 10) 2, field p (o + 12) 1, field p (o + 13) 1⟩

/-- Trigger programs from a byte offset: each a list of states, each state 4 transitions; with the offset
after the last (09 R284). -/
def walkPrograms (p : Bytes) : Nat → Nat → List (List (List Transition)) × Nat
  | 0, off => ([], off)
  | k + 1, off =>
    let n := field p off 1
    let states := (List.range n).map (fun st => (List.range 4).map (fun t => readTransition p (off + 8 + 64 * st + 16 * t)))
    let r := walkPrograms p k (off + 8 + 64 * n)
    (states :: r.1, r.2)

/-- The trigger programs of an image (09 R284). -/
def imgTriggers (img : Bytes) : List (List (List Transition)) :=
  let p := imgPay img Sec.triggerPrograms
  (walkPrograms p (min 64 (field p 0 1)) (8 + 16 * field p 1 1)).1

/-- The open stream channels of an image (18 R481). -/
def imgChannels (img : Bytes) : List Channel :=
  let p := imgPay img Sec.streamPolicy
  (List.range (min 32 (field p 0 1))).map (fun i =>
    let o := 8 + 16 * i
    ⟨field p o 1, field p (o + 1) 1, field p (o + 2) 2, field p (o + 4) 4, field p (o + 8) 1⟩)

/-- An archived channel of ARCHIVE_POLICY: CHANNEL, CFG and BOUND (10 R315). -/
def imgArchived (img : Bytes) : List (Nat × Nat × Nat) :=
  let p := imgPay img Sec.archivePolicy
  (List.range (min 32 (field p 0 1))).map (fun i =>
    let o := 48 + 12 * i
    (field p o 1, field p (o + 4) 4, field p (o + 8) 4))

/-- A device of DRIVERLINK_TABLE (16 R444). -/
structure DlkDev where
  addr : Nat
  type : Nat
  gate : Nat
  flags : Nat
  nominal : Nat
  deriving DecidableEq, Repr

/-- The DriverLink devices of an image (16 R444). -/
def imgDevices (img : Bytes) : List DlkDev :=
  let p := imgPay img Sec.driverlinkTable
  (List.range (min 31 (field p 0 1))).map (fun i =>
    let o := 8 + 8 * i
    ⟨field p o 1, field p (o + 1) 1, field p (o + 2) 1, field p (o + 3) 1, field p (o + 4) 2⟩)

/-- A derating curve (16 R444). -/
structure Curve where
  addr : Nat
  hyst : Nat
  knee : Int
  tOff : Int
  slope : Nat
  floor : Nat
  deriving DecidableEq, Repr

/-- The derating curves of an image (16 R444). -/
def imgCurves (img : Bytes) : List Curve :=
  let p := imgPay img Sec.deratingCurves
  (List.range (min 255 (field p 0 1))).map (fun i =>
    let o := 8 + 16 * i
    ⟨field p o 1, field p (o + 1) 1, signed 16 (field p (o + 4) 2), signed 16 (field p (o + 6) 2), field p (o + 8) 2,
      field p (o + 10) 2⟩)

/-! ### Register values an image gives (02 R89) -/

/-- Little-endian word `i` of a payload. -/
def payWord (p : Bytes) (i : Nat) : Nat := field p (4 * i) 4

/-- Register values derived from the sections that are present (the section rules of each chapter). -/
def sectionWrites (img : Bytes) : List (Nat × Nat) :=
  let on (t : Nat) (f : Bytes → List (Nat × Nat)) : List (Nat × Nat) :=
    match imgSec img t with | some p => f p | none => []
  on Sec.geometry (fun p => [
    (R.MRS_PERIOD, field p 0x0C 4), (R.MRS_BINS, field p 0 4),
    (R.MRS_GEOM, field p 4 2 % 256 + 256 * (field p 6 1 % 8) + 2048 * (field p 0x14 1 % 2) + 4096 * (field p 7 1 % 128)),
    (R.MRS_GROUP_INDEX, field p 8 4), (R.MRS_SLAVE_L, field p 0x18 4), (R.MRS_TMIN, field p 0x1C 4), (R.MRS_TMAX, field p 0x20 4)])
  ++ on Sec.tonePlan (fun p => [
    (R.PGU_TONE_CFG, payWord p 0), (R.PGU_DAC_FS, payWord p 1), (R.PGU_IQ_OFFSET, payWord p 2), (R.PGU_IQ_GAIN, payWord p 3),
    (R.PGU_GATEn_CFG 0, payWord p 4), (R.PGU_GATEn_START 0, payWord p 5), (R.PGU_GATEn_WIDTH 0, payWord p 6),
    (R.PGU_GATEn_CFG 1, payWord p 7), (R.PGU_GATEn_START 1, payWord p 8), (R.PGU_GATEn_WIDTH 1, payWord p 9),
    (R.PGU_DIAG_CFG, payWord p 10), (R.PGU_CAL_CFG, payWord p 11), (R.PGU_LAUNCH_CFG, payWord p 12)]
    ++ (List.range 16).flatMap (fun k => [
      (R.PGU_TONEk_FSTART k, payWord p (16 + 3 * k)), (R.PGU_TONEk_RATE k, payWord p (17 + 3 * k)),
      (R.PGU_TONEk_AMP k, payWord p (18 + 3 * k))]))
  ++ on Sec.gainProfile (fun p => [(R.FAFE_CFG, payWord p 0), (R.FAFE_PROFILE_COUNT, payWord p 1)]
    ++ (List.range 16).map (fun i => (R.FAFE_STEPi i, payWord p (2 + i)))
    ++ (List.range 8).flatMap (fun c => [(R.DDC_CORRc_X c, payWord p (18 + 2 * c)), (R.DDC_CORRc_Y c, payWord p (19 + 2 * c))])
    ++ [(R.FAFE_BLANKn_POS 0, payWord p 34), (R.FAFE_BLANKn_LEN 0, payWord p 35),
        (R.FAFE_BLANKn_POS 1, payWord p 36), (R.FAFE_BLANKn_LEN 1, payWord p 37)])
  ++ on Sec.engineGrouping (fun p => [(R.GEA_GROUPING, payWord p 0)])
  ++ on Sec.schedule (fun p => [(R.MRS_DEADLINE, field p 0 1)])
  ++ on Sec.detectorBands (fun p => [
    (R.ZNT_BANDS, field p 0 1), (R.ZNT_STATE_BASE, field p 4 4 % 2 ^ 22 + 2 ^ 22 * (field p 1 1 % 4)),
    (R.ZNT_STATE_BYTES, field p 8 4)]
    ++ (List.range 4).flatMap (fun q => (List.range 5).map (fun i => (R.ZNT_BANDq_COEFi q i, field p (0x10 + 24 * q + 4 * i) 4))))
  ++ on Sec.archivePolicy (fun p =>
    (List.range 5).map (fun i => (R.ANC_POL0 + 4 * i, field p (16 + 4 * i) 4))
    ++ (imgArchived img).flatMap (fun e => [(R.TCE_CHc_CFG e.1, e.2.1), (R.TCE_CHc_BOUND e.1, e.2.2)]))
  ++ on Sec.powerEnables (fun p => [
    (R.PMU_ENABLE, payWord p 0), (R.PMU_FLOOR, payWord p 1), (R.PMU_RETAIN, payWord p 2), (R.DMC_PASR, payWord p 3),
    (R.PMU_CFG, payWord p 4)])
  ++ on Sec.vernierSetup (fun p => [(R.VPF_CFG, payWord p 0), (R.VPF_RING, payWord p 1), (R.VPF_RS, payWord p 2)]
    ++ (List.range 8).flatMap (fun c => [
      (R.VPF_CHc_CFG c, payWord p (8 + 8 * c)), (R.VPF_CHc_EXC c, payWord p (9 + 8 * c)), (R.VPF_CHc_LEAD c, payWord p (10 + 8 * c)),
      (R.VPF_CHc_COEF0 c, payWord p (11 + 8 * c)), (R.VPF_CHc_COEF1 c, payWord p (12 + 8 * c)),
      (R.VPF_CHc_COEF2 c, payWord p (13 + 8 * c)), (R.VPF_CHc_COEF3 c, payWord p (14 + 8 * c))]))
  ++ on Sec.driverlinkTable (fun p => [
    (R.DLK_CFG, field p 2 2 + 65536 * field p 4 1 + 2 ^ 24 * (field p 1 1 % 4))])

/-- REGISTER_INIT pairs, in payload order (02 R567). -/
def initPairs (img : Bytes) : List (Nat × Nat) :=
  let p := imgPay img Sec.registerInit
  (List.range (p.length / 8)).map (fun i => (field p (8 * i) 4, field p (8 * i + 4) 4))

/-- The last value a list of writes gives an offset. -/
def lastWrite (l : List (Nat × Nat)) (off : Nat) : Option Nat := (l.reverse.find? (fun e => e.1 = off)).map (·.2)

/-- The value an image gives the RWL fields of a register, without the DDC's own derivation (02 R89):
REGISTER_INIT, else the section's, else reset. -/
def imgRegPlain (img : Bytes) (off : Nat) : Word :=
  match lastWrite (sectionWrites img ++ initPairs img) off with
  | some v => w32 v
  | none => resetWord off

/-- DDC_TONEk_NCO from the tone plan in force (04 R144); 0 for a tone the plan does not use. -/
def imgNco (img : Bytes) (k : Nat) : Word :=
  let f := signed 32 (imgRegPlain img (R.PGU_TONEk_FSTART k)).toNat
  let r := signed 32 (imgRegPlain img (R.PGU_TONEk_RATE k)).toNat
  let len := bitsOf (imgRegPlain img R.PGU_TONE_CFG) 30 16
  w32 (unsigned 32 (f + (r * len + 16) / 32))

/-- The value an image gives the RWL fields of a register (02 R89, 04 R144). -/
def imgReg (img : Bytes) (off : Nat) : Word :=
  let k := (off - R.DDC_TONEk_NCO 0) / 4
  if R.DDC_TONEk_NCO 0 ≤ off ∧ off < R.DDC_TONEk_NCO 16 ∧ off % 4 = 0 ∧ (lastWrite (initPairs img) off).isNone
    ∧ k < 2 ^ bitsOf (imgRegPlain img R.PGU_TONE_CFG) 2 0
  then imgNco img k else imgRegPlain img off

/-- A field of the value an image gives. -/
def imgFld (img : Bytes) (f : Fld) : Nat := bitsOf (imgReg img f.reg) f.hi f.lo

/-! ### Checks (02 R80) -/

/-- What the checks of an image know of the chip: REQUIRE, enabled slots, and the keys (02 R68). -/
structure KeyCfg where
  require : Bool
  enabled : Nat
  keys : List (BitVec 128)
  fuses : Nat
  deriving DecidableEq, Repr

/-- SIL result codes (02 Table 2-12). -/
abbrev SilCode.badMagic : Nat := 0x01
abbrev SilCode.badFormat : Nat := 0x02
abbrev SilCode.wrongPart : Nat := 0x03
abbrev SilCode.headerCrc : Nat := 0x04
abbrev SilCode.sectionCrc : Nat := 0x05
abbrev SilCode.imageCrc : Nat := 0x06
abbrev SilCode.keyCheck : Nat := 0x07
abbrev SilCode.badType : Nat := 0x08
abbrev SilCode.missingSection : Nat := 0x09
abbrev SilCode.duplicateSection : Nat := 0x0A
abbrev SilCode.length : Nat := 0x0B
abbrev SilCode.limit : Nat := 0x0C
abbrev SilCode.serialMismatch : Nat := 0x0D
abbrev SilCode.busy : Nat := 0x0E
abbrev SilCode.notReady : Nat := 0x0F
abbrev SilCode.tooLate : Nat := 0x10
abbrev SilCode.aborted : Nat := 0x11
abbrev SilCode.persistFail : Nat := 0x12

/-- The first failure of a list of checks: condition of failure with CODE and DETAIL. -/
def firstFail : List (Bool × Nat × Nat) → Option (Nat × Nat)
  | [] => none
  | (bad, c, d) :: t => if bad then some (c, d) else firstFail t

/-- Step 1 of R80: MAGIC, FORMAT_VERSION, HEADER_LENGTH, then the other fields BAD_FORMAT covers in
ascending offset. -/
def checkHeader (img : Bytes) : Option (Nat × Nat) :=
  firstFail ([
    (field img 0 4 ≠ 0x49535A52, SilCode.badMagic, 0),
    (field img 4 2 ≠ 1, SilCode.badFormat, 4),
    (field img 6 2 ≠ 64, SilCode.badFormat, 6),
    (field img 0x0C 4 = 0, SilCode.badFormat, 0x0C),
    (field img 0x13 1 > 4, SilCode.badFormat, 0x13),
    (field img 0x16 2 ≠ 0, SilCode.badFormat, 0x16),
    (field img 0x28 20 ≠ 0, SilCode.badFormat, 0x28)])

/-- Steps 2 and 3 of R80: HEADER_CRC, PART_NUMBER and MIN_REVISION. -/
def checkPart (img : Bytes) : Option (Nat × Nat) :=
  firstFail [
    ((crc32c (img.take 0x3C)).toNat ≠ field img 0x3C 4, SilCode.headerCrc, 0),
    (field img 0x10 2 ≠ 0x4810 ∨ field img 0x12 1 > 0x21, SilCode.wrongPart, field img 0x12 1)]

/-- Step 4 of R80 for one section: LENGTH a multiple of 8 and inside the image, reserved bytes 0. `at_` is
the offset of its header. -/
def walkCheck (img : Bytes) (total : Nat) : Nat → Nat → Nat → Option (Nat × Nat)
  | 0, _, off => if off = total then none else some (SilCode.length, 0xFFFF)
  | k + 1, i, off =>
    let len := field img (off + 4) 4
    if off + 16 > total then some (SilCode.length, 0xFFFF)
    else if len % 8 ≠ 0 ∨ off + 16 + len > total then some (SilCode.length, i)
    else if field img (off + 12) 4 ≠ 0 then some (SilCode.badFormat, 0x8000 + i)
    else walkCheck img total k (i + 1) (off + 16 + len)

/-- Step 4 of R80. -/
def checkWalk (img : Bytes) : Option (Nat × Nat) :=
  let n := imgSectionCount img
  if field img 8 4 ≠ img.length ∨ img.length % 8 ≠ 0 ∨ img.length < 96 ∨ n < 1 ∨ n > 128 then some (SilCode.length, 0xFFFF)
  else walkCheck img (img.length - 16) n 0 64

/-- Step 5 of R80: section CRCs in file order. -/
def checkSectionCrcs (img : Bytes) : Option (Nat × Nat) :=
  firstFail ((imgSections img).map (fun x =>
    (decide (x.crc ≠ if x.length = 0 then 0 else (crc32c x.payload).toNat), SilCode.sectionCrc, x.index)))

/-- Steps 6 to 8 of R80: trailer, IMAGE_CRC and KEY_CHECK (R68). -/
def checkTrailer (keys : KeyCfg) (img : Bytes) : Option (Nat × Nat) :=
  let t := img.length - 16
  let id := imgKeyId img
  let key := (keys.keys[id - 1]?.getD 0).setWidth 32
  let want := ~~~ (crcRun (0x82F63B78 : BitVec 32) key (img.take (img.length - 8)))
  firstFail [
    (field img t 4 ≠ 0x4E454953, SilCode.badMagic, 1),
    (field img (t + 4) 4 ≠ imgSerial img, SilCode.serialMismatch, 0),
    (field img (t + 12) 4 ≠ (crc32c (img.take (img.length - 4))).toNat, SilCode.imageCrc, 0),
    (id = 0 ∧ (keys.require ∨ field img (t + 8) 4 ≠ 0), SilCode.keyCheck, 0),
    (id ≠ 0 ∧ (!bitAt keys.enabled (id - 1) ∨ !bitAt keys.fuses (id - 1) ∨ field img (t + 8) 4 ≠ want.toNat),
      SilCode.keyCheck, id)]

/-- The payload length a section's layout requires, from its own counts; none where any length will do
(the rules of the owning chapters). -/
def sectionLength (x : Section) : Option Nat :=
  let p := x.payload
  match x.type with
  | 1 => some 48 | 2 => some 256 | 3 => some 152
  | 4 => some (8 + 16 * field p 4 4)
  | 5 => some (readProgram p).need
  | 6 => some (8 + 8 * field p 0 2 + 8 * field p 2 2 + pad8 (field p 4 2))
  | 7 => some (8 + 16 * field p 0 2)
  | 8 => some (pad8 (0x70 + 4 * field p 2 2))
  | 9 => some (walkPrograms p (field p 0 1) (8 + 16 * field p 1 1)).2
  | 10 => some (8 + 16 * field p 0 1)
  | 11 => some (pad8 (48 + 12 * field p 0 1))
  | 12 => some 32 | 13 => some 288
  | 14 => some (8 + 8 * field p 0 1)
  | 15 => some (8 + 16 * field p 0 1)
  | 16 => some (8 + 16 * field p 2 2)
  | _ => none

/-- Step 9 of R80 for one section in file order, given the sections before it. -/
def checkContent (before : List Section) (x : Section) : Option (Nat × Nat) :=
  if x.type ≥ 0xF000 then none
  else
    let dup := if x.type = 5 then before.any (fun y => y.type = 5 ∧ field y.payload 0 2 = field x.payload 0 2)
      else before.any (fun y => y.type = x.type)
    firstFail [
      (x.type = 0 ∨ x.type > 17, SilCode.badType, x.index),
      (x.version ≠ 1, SilCode.badType, x.index),
      (dup, SilCode.duplicateSection, x.type),
      (match sectionLength x with | some n => decide (x.length ≠ n) | none => false, SilCode.length, x.index)]

/-- Step 9 of R80 over the sections. -/
def checkContents : List Section → List Section → Option (Nat × Nat)
  | _, [] => none
  | before, x :: t =>
    match checkContent before x with
    | some e => some e
    | none => checkContents (before ++ [x]) t

/-- The end of step 9: absent mandatory sections, the lowest type first, then groups without a program. -/
def checkMissing (img : Bytes) : Option (Nat × Nat) :=
  match Sec.mandatory.find? (fun t => !imgHas img t) with
  | some t => some (SilCode.missingSection, t)
  | none =>
    if (List.range (imgGroups img).length).all (fun g => (imgPrograms img).any (·.group = g)) then none
    else some (SilCode.missingSection, 5)

/-! Limits of Table 2-5, each true when the limit is kept. -/

/-- K = 2^K_CODE of an image. -/
def imgK (img : Bytes) : Nat := 2 ^ imgFld img F.MRS_GEOM.K_CODE

/-- LEN, FSTART and RATE of the tone plan an image gives (02 R96 in units of 2.5 GHz / 2^36). -/
def imgLen (img : Bytes) : Nat := imgFld img F.PGU_TONE_CFG.LEN
def imgStart (img : Bytes) (k : Nat) : Int := 16 * signed 32 (imgFld img (F.PGU_TONEk_FSTART.FSTART k))
def imgRate (img : Bytes) (k : Nat) : Int := signed 32 (imgFld img (F.PGU_TONEk_RATE.RATE k))
def imgEnd (img : Bytes) (k : Nat) : Int := imgStart img k + ((imgLen img : Int) - 1) * imgRate img k

/-- Code 105: MHz of bandwidth allowed per tone for K. -/
def bandwidthMHz : Nat → Nat
  | 16 => 50 | 8 => 110 | 4 => 220 | 2 => 450 | _ => 1000

/-- Code 105 (03 R96): (LEN - 1) x |RATE| within the figure for K. -/
def limBandwidth (img : Bytes) : Bool :=
  (List.range (imgK img)).all (fun k => decide ((imgEnd img k - imgStart img k).natAbs * 2500 ≤ bandwidthMHz (imgK img) * 2 ^ 36))

/-- Code 106 (03 R96): start and end frequencies within 2^34 units, centres at least 60 MHz apart. -/
def limPlacement (img : Bytes) : Bool :=
  let ks := List.range (imgK img)
  let inside (z : Int) : Bool := decide (z.natAbs ≤ 2 ^ 34)
  let c (k : Nat) : Int := imgStart img k + imgEnd img k
  ks.all (fun k => inside (imgStart img k) && inside (imgEnd img k))
    && ks.all (fun k => ks.all (fun j => decide (j ≤ k) || decide (2 * 60 * 2 ^ 36 ≤ (c k - c j).natAbs * 2500)))

/-- Code 112 (07 R240, 01 R51): engines in at most one group; a fused entry holds exactly its fused unit; an
independent set holds 1 to 16 independent engines of one tile; PATH and COUNT agree with MEMBERS. -/
def limGrouping (img : Bytes) : Bool :=
  let gs := imgGroups img
  let w := imgReg img R.GEA_GROUPING
  let quadF (q : Nat) : Bool := bitAt w.toNat q
  let tileF (t : Nat) : Bool := bitAt w.toNat (16 + t)
  let arrayF : Bool := bitAt w.toNat 20
  let okGroup (g : Group) : Bool :=
    let lo := g.lowest
    g.path == enginePath lo && g.count == g.engines.length && decide (g.engines.length ≥ 1) &&
    (match g.kind with
     | 0 => decide (g.engines.length ≤ 16) && g.engines.all (fun e => e / 16 == lo / 16 && !quadF (e / 4) && !tileF (e / 16) && !arrayF)
     | 1 => quadF (lo / 4) && !tileF (lo / 16) && !arrayF && lo % 4 == 0 && g.members == 0xF * 2 ^ lo
     | 2 => tileF (lo / 16) && !arrayF && lo % 16 == 0 && g.members == 0xFFFF * 2 ^ lo
     | 3 => arrayF && g.members == 2 ^ 64 - 1
     | _ => false)
  decide (1 ≤ field (imgPay img Sec.engineGrouping) 4 4) && decide (field (imgPay img Sec.engineGrouping) 4 4 ≤ 64)
    && gs.all okGroup && (List.range 64).all (fun e => decide ((gs.filter (fun g => bitAt g.members e)).length ≤ 1))

/-- Bytes of memory a segment target offers (07 R241). -/
def segRoom : Nat → Nat
  | 0 | 1 => 131072 | 2 => 524288 | 3 => 4194304 | _ => 0

/-- The segments of a program do not overlap (07 R241): those of one memory, where the lowest member's data memory takes targets 0 and
1. -/
def segsApart : List ProgSeg → Bool
  | [] => true
  | a :: t => t.all (fun b => (a.target != b.target && !(decide (a.target ≤ 1) && decide (b.target ≤ 1))) || decide (a.offset + a.data.length ≤ b.offset)
      || decide (b.offset + b.data.length ≤ a.offset)) && segsApart t

/-- Bins covered by at least one leaf of a zone list: the watched bins (09 R277). -/
def watchedBins (zs : List Zone) (limit : Nat) : Nat :=
  ((List.range limit).filter (fun b => zs.any (fun z => z.kind == 0 && decide (z.first ≤ b) && decide (b ≤ z.last)))).length

/-- Work bytes an archived channel needs: 4 KiB of history per block of depth, and one assembly buffer when
its GEOM is LINEAR (10 R315, R301). -/
def channelWork (cfg : Nat) : Nat :=
  let effort := cfg / 8 % 8
  4096 * (if effort < 4 then 0 else 2 ^ (effort - 4)) + (if bitAt cfg 6 then 4096 else 0)

/-- Bytes of an averager bank (06 R188). -/
def bankSize (cells : Nat) : Nat := 10 * cells + (cells + 1) / 2

/-- The program of the group that takes the stream of a medium source, and the parameter block in its data image (06 R185). -/
def imgTherm (img : Bytes) : Option (Program × Bytes) :=
  ((imgStreams img).find? (fun st => inRange 1 2 st.source)).bind (fun st =>
    ((imgPrograms img).find? (fun pr => some pr.group == (imgBlocks img)[st.firstBlock]?)).map (fun pr =>
      let m := (pr.segs.filter (fun g => decide (g.target ≤ 1))).foldl (fun m g => memPut (fun _ => 0) m g.offset (g.data.take 256)) []
      (pr, memBytes (fun _ => 0) m 0 256)))

/-- Both averager banks fit the tile's shared memory beside the program's own segments there (06 R188). -/
def limBanks (img : Bytes) : Bool :=
  match imgTherm img with
  | none => true
  | some (pr, b) =>
    let shared := ((pr.segs.filter (fun g => g.target == 3)).map (fun g => g.data.length)).sum
    field b 2 2 % 8 % 2 + field b 2 2 / 4 % 2 = 0 || decide (2 * bankSize (field b 4 4) + shared ≤ 4194304)

/-- Code 113: programs fit engine memories, and the detector and archive work areas fit tile memory. -/
def limPrograms (img : Bytes) : Bool :=
  limBanks img && (imgPrograms img).all (fun pr =>
    decide (8 ≤ pr.imem.length) && decide (pr.imem.length ≤ 32768) && pr.imem.length % 8 == 0 && decide (pr.segCount ≤ 64)
      && decide (pr.group < (imgGroups img).length)
      && pr.segs.all (fun g => decide (g.target ≤ 3) && g.offset % 8 == 0 && g.data.length % 8 == 0
          && decide (g.offset + g.data.length ≤ segRoom g.target)) && segsApart pr.segs)
    && decide (imgFld img F.ZNT_STATE_BASE.OFFSET + imgFld img F.ZNT_STATE_BYTES.BYTES ≤ 4194304)
    && (!imgHas img Sec.archivePolicy ||
      (let p := imgPay img Sec.archivePolicy
       decide (field p 4 4 + field p 8 4 ≤ 4194304) && field p 4 4 % 8 == 0
         && decide (((imgArchived img).map (fun e => channelWork (imgReg img (R.TCE_CHc_CFG e.1)).toNat)).sum ≤ field p 8 4)))

/-- Depth of a zone in a list, the root at 1; more than 8 where the chain does not end (09 R270). -/
def zoneDepth (zs : List Zone) : Nat → Nat → Nat
  | 0, _ => 9
  | k + 1, n =>
    match zs.find? (·.number = n) with
    | some z => if z.parent = 0xFFFF then 1 else 1 + zoneDepth zs k z.parent
    | none => 1

/-- Code 118 (18 R481): at most 32 channels, each destination set, each channel and product once, and a
unit's channel register names the channel that carries its product. -/
def limChannels (img : Bytes) : Bool :=
  let cs := imgChannels img
  let named (en ch : Fld) (product : Nat) : Bool :=
    imgFld img en == 0 || cs.any (fun c => c.chan == imgFld img ch && c.product == product)
  decide (field (imgPay img Sec.streamPolicy) 0 1 ≤ 32)
    && cs.all (fun c => decide (c.chan ≤ 31) && c.dest != 0 && decide (c.dest ≤ 3) && decide (c.vector ≤ 63)
        && decide ((cs.filter (·.chan = c.chan)).length ≤ 1) && decide ((cs.filter (·.product = c.product)).length ≤ 1))
    && named F.ZNT_CFG.STATS_EN F.ZNT_CFG.STATS_CHANNEL 0x0031
    && named F.STU_CFG.EVENT_EN F.STU_CFG.EVENT_CHANNEL 0x0032
    && named F.STU_CFG.CAPTURE_EN F.STU_CFG.CAPTURE_CHANNEL 0x0021
    && named F.VPF_CFG.STREAM_EN F.VPF_CFG.STREAM_CHANNEL 0x0041

/-- Code 119 (16 R444): addresses 1 to 31 without duplicates. -/
def limDevices (img : Bytes) : Bool :=
  let ds := imgDevices img
  decide (field (imgPay img Sec.driverlinkTable) 0 1 ≤ 31)
    && ds.all (fun d => decide (1 ≤ d.addr) && decide (d.addr ≤ 31) && decide ((ds.filter (·.addr = d.addr)).length ≤ 1))

/-- Code 120 (15 R423): curve numbers 0 to 7 hold by width; an enabled thermocouple channel (WIRING 3) names a cold-junction
channel that is resistive, uses a curve from 1 to 4 and is enabled. DESIGN CHOICE: the cold junction of enabled channels alone (log 178). -/
def limVernier (img : Bytes) : Bool :=
  (List.range 8).all (fun c =>
    imgFld img (F.VPF_CHc_CFG.EN c) == 0 || imgFld img (F.VPF_CHc_CFG.WIRING c) != 3
      || (let j := imgFld img (F.VPF_CHc_CFG.CJ c)
          imgFld img (F.VPF_CHc_CFG.WIRING j) != 3 && decide (1 ≤ imgFld img (F.VPF_CHc_CFG.CURVE j)) && decide (imgFld img (F.VPF_CHc_CFG.CURVE j) ≤ 4)
            && imgFld img (F.VPF_CHc_CFG.EN j) == 1))

/-- Bytes of a capture row for a zone's span: one 32-bit value per bin, a pair when decimated (09 R287). -/
def spanOf (zs : List Zone) : Nat → Nat → Option (Nat × Nat)
  | 0, _ => none
  | k + 1, n =>
    match zs.find? (·.number = n) with
    | none => none
    | some z =>
      if z.kind = 0 then some (z.first, z.last)
      else ((zs.filter (·.parent = n)).map (fun c => spanOf zs k c.number)).foldl (fun a b =>
        match a, b with
        | some (x, y), some (u, v) => some (min x u, max y v)
        | none, b => b
        | a, none => a) none

/-- Bins of a zone's span (09 R271). -/
def spanBins (zs : List Zone) (n : Nat) : Nat :=
  match spanOf zs 9 n with | some (a, b) => b + 1 - a | none => 0

/-- Descriptor bytes of a product's stream block. -/
def descBytes (product : Nat) : Nat :=
  if product = 0x21 then 96 else if product ≥ 0x31 then 8 else if product ≥ 0x11 then 48 else 32

/-- Bins or cells of the last of the blocks of `size` that `n` fill. -/
def lastOf (n size : Nat) : Nat := if n % size = 0 then size else n % size

/-- The smallest payload, in words, that a stream block of a product carries under an image (12 R360). -/
def smallestPayload (img : Bytes) (product : Nat) : Nat :=
  let bins := lastOf (imgFld img F.PCX_COUNT.COUNT) 256
  let b := ((imgTherm img).map (·.2)).getD []
  let cells (n : Nat) : Nat := lastOf n 4096
  match product with
  | 1 => bins * (2 ^ imgFld img F.MRS_GEOM.K_CODE + 1)
  | 2 => bins * (2 ^ imgFld img F.MRS_GEOM.K_CODE + 1)
  | 3 => bins
  | 0x11 => 2 * cells (field b 4 4)
  | 0x12 => 3 * cells (field b 4 4)
  | 0x13 => 6 * cells (field b 0x28 4)
  | 0x21 =>
    let rows := (imgRecords img).map (fun r => (if r.decimExp = 0 then 1 else 2) * spanBins (imgZones img) r.zone)
    rows.foldl min (rows.headD 1)
  | 0x31 => 12
  | _ => 8

/-- The largest record of an archived channel (12 R360). -/
def largestRecord (img : Bytes) (c : Nat) : Nat :=
  let product := (((imgChannels img).find? (·.chan = c)).map (·.product)).getD 0
  let w := max 1 (smallestPayload img product)
  let item := 72 + 8 + (64 + descBytes product)
  let linear := imgFld img (F.TCE_CHc_CFG.GEOM c) == 1
  80 + imgFld img F.ANC_POL0.RECORD_BLOCKS * (4200 + (if linear then ((1024 + w - 1) / w + 1) * item else 0))

/-- The archive's part of code 121: COMMIT_MIB and STAGING_MIB, and every archived channel's largest record (12 R360). -/
def limArchive (img : Bytes) : Bool :=
  let commit := imgFld img F.ANC_POL0.COMMIT_MIB
  let staging := imgFld img F.ANC_POL0.STAGING_MIB
  let chans := (imgArchived img).map (·.1)
  let ring := staging * 2 ^ 20 / chans.length / 8 * 8
  !imgHas img Sec.archivePolicy || (decide (commit + staging ≤ 64)
    && chans.all (fun c => decide (largestRecord img c ≤ commit * 2 ^ 20) && decide (2 * largestRecord img c ≤ ring)))

/-- Bytes of DRAM installed: DENSITY code, RANKS bit (11 Table 11-1, R320). -/
def installedDram (density ranks : Nat) : Nat := 2 ^ (30 + density) * (ranks + 1)

/-- Code 121: capture buffers, engine spill, archive staging and the image banks fit in 7/8 of installed DRAM; the spill regions
are those of the DRAM plan, which an image does not print (log entry 21). -/
def limDram (img : Bytes) (installed : Nat) : Bool :=
  let zs := imgZones img
  let cap := ((imgRecords img).map (fun r => r.rows * 4 * (if r.decimExp = 0 then 1 else 2) * spanBins zs r.zone)).sum
  let staging := if imgHas img Sec.archivePolicy then imgFld img F.ANC_POL0.STAGING_MIB * 2 ^ 20 else 0
  let spill := ((List.range (imgGroups img).length).map (fun g => (Config.spillRegion g).2)).sum
  limArchive img && decide (8 * (cap + spill + staging + 2 ^ 24) ≤ 7 * installed)

/-- Code 123 (02 R567): every pair names a register with an RWL field, on a word boundary, and sets no bit
outside its RWL fields. -/
def limInit (img : Bytes) : Bool :=
  (initPairs img).all (fun e => match famOf e.1 with
    | some f => e.1 % 4 == 0 && f.maskOf .rwl != 0 && (w32 e.2 &&& ~~~(f.maskOf .rwl)) == 0
    | none => false)

/-- Code 124 (08 R254, R268): counts in range, streams name pools and blocks that exist, pools and blocks
name groups that exist and run one program, and the PCX stream covers the window. -/
def limRouting (img : Bytes) : Bool :=
  let p := imgPay img Sec.routing
  let ng := (imgGroups img).length
  let bs := imgBlocks img
  let progOf (g : Nat) : Option Program := ((imgPrograms img).find? (·.group = g)).map (fun x => { x with group := 0 })
  decide (1 ≤ field p 0 2) && decide (field p 0 2 ≤ 8) && decide (1 ≤ field p 2 2) && decide (field p 2 2 ≤ 16)
    && decide (1 ≤ field p 4 2) && decide (field p 4 2 ≤ 1040)
    && (imgPools img).all (fun m => decide (m < 2 ^ ng) &&
        (let gs := (List.range ng).filter (fun g => bitAt m g)
         gs.all (fun g => progOf g == progOf (gs.headD 0))))
    && bs.all (fun g => decide (g < ng))
    && (imgStreams img).all (fun st => decide (st.source ≤ 3) && decide (st.pool < field p 2 2)
        && decide (st.firstBlock + st.blockCount ≤ field p 4 2)
        && (List.range st.blockCount).all (fun j => bitAt ((imgPools img)[st.pool]?.getD 0) (bs[st.firstBlock + j]?.getD 64))
        && (st.source != 0 || st.blockCount == (imgFld img F.PCX_COUNT.COUNT + 255) / 256))

/-- Code 125 (17 R456): CORE, DMC and HOST enabled, the AO floor 0, and when CORE may enter KEEP the DRAM
eighth that holds the ACTIVE bank retained, and DMC_IDLE_US not 0 (Table 17-11). The banks lie at the top of rank 0: eighth 7. -/
def limPower (img : Bytes) : Bool :=
  let en := (imgReg img R.PMU_ENABLE).toNat
  let floor := (imgReg img R.PMU_FLOOR).toNat
  bitAt en 1 && bitAt en 9 && bitAt en 11 && floor % 4 == 0
    && (decide (floor / 4 % 4 < 2) || bitAt (imgReg img R.DMC_PASR).toNat 7) && imgFld img F.PMU_CFG.DMC_IDLE_US != 0

/-- Domain whose setting fails code 125 (17 R456): CORE, DMC, HOST or AO, else the DMC's retention. -/
def powerFault (img : Bytes) : Nat :=
  match [1, 9, 11].find? (fun d => !bitAt (imgReg img R.PMU_ENABLE).toNat d) with
  | some d => d
  | none => if (imgReg img R.PMU_FLOOR).toNat % 4 = 0 then 9 else 0

/-- A limited value of GEOMETRY in force after R89: the section's field as it stands there, all of its bits, unless REGISTER_INIT
replaces the register (R71, R567). -/
def geoFld (img : Bytes) (f : Fld) (off n : Nat) : Nat :=
  match imgSec img Sec.geometry, lastWrite (initPairs img) f.reg with
  | some p, none => field p off n
  | _, _ => imgFld img f

/-- Step 10 of R80: the limits of Table 2-5 in code order, on the values in force after R89. -/
def checkLimits (img : Bytes) (installed : Nat) : Option (Nat × Nat) :=
  let bins := geoFld img F.MRS_BINS.COUNT 0 4
  let p := geoFld img F.MRS_GEOM.PITCH 4 2
  let t := geoFld img F.MRS_PERIOD.T 0x0C 4
  let k := geoFld img F.MRS_GEOM.K_CODE 6 1
  let gauge := geoFld img F.MRS_GEOM.GAUGE 7 1
  let slave := geoFld img F.MRS_GEOM.MODE 0x14 1 == 1
  let geo := imgPay img Sec.geometry
  let zs := imgZones img
  match ([
    (101, decide (1 ≤ bins) && decide (bins ≤ 262144)),
    (102, decide (bins * p ≤ t)),
    (103, decide (5 ≤ p) && decide (p ≤ 160)),
    (104, decide (k ≤ 4) && k == imgFld img F.PGU_TONE_CFG.K_CODE && field geo 0x10 4 == imgLen img),
    (105, limBandwidth img),
    (106, limPlacement img),
    (107, decide (imgLen img ≤ 25000)),
    (108, t % 2 ^ k == 0 && decide (12500 ≤ t) && decide (t ≤ 1250000)),
    (109, decide (1 ≤ gauge) && decide (gauge ≤ 64)),
    (110, !slave || decide (30 ≤ geoFld img F.MRS_SLAVE_L.L 0x18 4)),
    (111, !slave || decide (bins * p ≤ geoFld img F.MRS_TMIN.T_MIN 0x1C 4)),
    (112, limGrouping img),
    (113, limPrograms img),
    (114, decide ((imgLen img + 2 * 2 ^ k - 1) / (2 * 2 ^ k) ≤ 8192)),
    (115, decide (field (imgPay img Sec.zoneTree) 0 2 ≤ 4096)),
    (116, zs.all (fun z => decide (zoneDepth zs 9 z.number ≤ 8))),
    (117, (imgTriggers img).all (fun pr => decide (1 ≤ pr.length) && decide (pr.length ≤ 8))),
    (118, limChannels img),
    (119, limDevices img),
    (120, limVernier img),
    (121, limDram img installed),
    (122, decide (img.length ≤ 8388608)),
    (123, limInit img),
    (124, limRouting img),
    (125, limPower img)] : List (Nat × Bool)).find? (fun e => !e.2) with
  | some (c, _) => some (SilCode.limit, c)
  | none => none

/-- The first of two results that is a failure. -/
def orElseFail (a : Option (Nat × Nat)) (b : Option (Nat × Nat)) : Option (Nat × Nat) :=
  match a with | some e => some e | none => b

/-- The checks of R80 in their order: none when the image passes, else CODE and DETAIL of the first
failure. -/
def checkImage (keys : KeyCfg) (installed : Nat) (img : Bytes) : Option (Nat × Nat) :=
  orElseFail (checkHeader img) (orElseFail (checkPart img) (orElseFail (checkWalk img)
    (orElseFail (checkSectionCrcs img) (orElseFail (checkTrailer keys img)
      (orElseFail (checkContents [] (imgSections img)) (orElseFail (checkMissing img) (checkLimits img installed)))))))

/-- The payloads R84 compares, whatever the order of their sections: GEOMETRY, ENGINE_GROUPING, ROUTING, and each group's
ENGINE_PROGRAM. -/
def heavyPayloads (img : Bytes) : List (Option Bytes) × List (Nat × Bytes) :=
  ([Sec.geometry, Sec.engineGrouping, Sec.routing].map (imgSec img),
    sortBy (·.1) (((imgSections img).filter (fun x => x.type = Sec.engineProgram)).map (fun x => (field x.payload 0 2, x.payload))))

/-- A switch from one image to another is heavy: GEOMETRY, ENGINE_GROUPING, ROUTING or an ENGINE_PROGRAM
differs; from no image always (02 R84). -/
def isHeavy (active : Option Bytes) (img : Bytes) : Bool :=
  match active with
  | none => true
  | some a => heavyPayloads a != heavyPayloads img

end Sys2Proof.Machine
end

