-- ==== Sys2Proof/Machine/DeadTime.lean ====
section
/-! DEFINITION. Acquisition and record states, the records of the ACTIVE image, and dead time (08 Table 8-9, 09 Table 9-9, R292). -/

namespace Sys2Proof.Machine

/-- MRS states (08 Table 8-9). -/
abbrev Mrs.noImage : Nat := 0
abbrev Mrs.stopped : Nat := 1
abbrev Mrs.starting : Nat := 2
abbrev Mrs.running : Nat := 3
abbrev Mrs.stopping : Nat := 4

/-- The acquisition state. -/
def State.acq (s : State) : Nat := s.fld F.MRS_STATUS.STATE

/-- Record states (09 Table 9-9). -/
abbrev Cap.idle : Nat := 0
abbrev Cap.armed : Nat := 1
abbrev Cap.triggered : Nat := 2
abbrev Cap.closing : Nat := 3
abbrev Cap.rearm : Nat := 4

/-- The state of a capture record. -/
def State.capSt (s : State) (r : Nat) : Nat := s.fld (F.STU_RECr_STATE.STATE r)

/-- Record definitions of the ACTIVE image. -/
def State.recDefs (s : State) : List RecDef := imgRecords s.sil.active
def State.recDef (s : State) (r : Nat) : Option RecDef := s.recDefs[r]?
def State.recIds (s : State) : List Nat := List.range s.recDefs.length

/-- Records bound to a zone. -/
def State.bound (s : State) (z : Nat) : List Nat :=
  s.recIds.filter (fun r => match s.recDef r with | some d => d.zone == z | none => false)

def ZoneDead.fresh : ZoneDead := ⟨none, 0, 0, 0⟩
def State.zdead (s : State) (z : Nat) : ZoneDead := tabGet (fun _ => ZoneDead.fresh) s.stu.deads z
def State.setZdead (s : State) (z : Nat) (x : ZoneDead) : State :=
  { s with stu := { s.stu with deads := tabPut (fun _ => ZoneDead.fresh) s.stu.deads z x } }

/-- A zone is dead. -/
def State.zoneDead (s : State) (z : Nat) : Bool :=
  s.acq == Mrs.running && !(s.bound z).isEmpty
    && (s.bound z).all (fun r => s.capSt r != Cap.armed && s.capSt r != Cap.triggered)

/-- Dead time of a zone is kept up to the current instant. -/
def State.settleDead (s : State) (z : Nat) : State :=
  let d := s.zdead z
  let add := match d.since with | some t => s.now - t | none => 0
  let d1 : ZoneDead := { d with samples := d.samples + add, since := if s.zoneDead z then some s.now else none }
  if d1 = d then s else s.setZdead z d1

/-- Dead time of every zone with a record. -/
def State.settleDeads (s : State) : State :=
  ((s.recDefs.map (·.zone)).eraseDups).foldl State.settleDead s

end Sys2Proof.Machine
end

