-- ==== Sys2Proof/Machine/EngMem.lean ====
section
/-! DEFINITION. Engine memory by aperture offset and by engine-local address (07 Tables 7-6, 7-8, R245), and the programs of an image's groups. -/

namespace Sys2Proof.Machine

/-- Aperture offsets of an engine's data memory, its quad's shared memory, its tile's, and its instruction memory. -/
def tileBase (e : Nat) : Nat := e / 16 * 0x1000000
def dataBase (e : Nat) : Nat := tileBase e + 0x480000 + e / 4 % 4 * 0x100000 + e % 4 * 0x20000
def quadBase (e : Nat) : Nat := tileBase e + 0x400000 + e / 4 % 4 * 0x100000
def imemBase (e : Nat) : Nat := tileBase e + 0x800000 + e % 16 * 0x8000

/-- The I/O page (Table 7-7). -/
abbrev ioBase : Nat := 0x2000000

/-- Aperture offset of an engine-local address; none where it is unmapped or in the I/O page. -/
def localAddr (e a : Nat) : Option Nat :=
  if a < 0x20000 then some (dataBase e + a)
  else if 0x100000 ≤ a ∧ a < 0x180000 then some (quadBase e + (a - 0x100000))
  else if 0x200000 ≤ a ∧ a < 0x280000 then some (dataBase (e / 4 * 4) + (a - 0x200000))
  else if 0x400000 ≤ a ∧ a < 0x800000 then some (tileBase e + (a - 0x400000))
  else none

/-- Load latency of an engine-local address (Table 7-6). -/
def loadLatency (a : Nat) : Nat :=
  if a < 0x20000 then 3 else if a < 0x180000 then 5 else if a < 0x280000 then 6 else 8

/-- The upset words that stay when `n` bytes are written: a word written whole is sound again, and so is one with a single upset bit that is
written in part, which the write corrects (R245). -/
def keepUpsets (l : List (Nat × Bool)) (ap n : Nat) : List (Nat × Bool) :=
  l.filter (fun x => decide (x.1 + 8 ≤ ap) || decide (ap + n ≤ x.1) || (x.2 && !(decide (ap ≤ x.1) && decide (x.1 + 8 ≤ ap + n))))

/-- Bytes of engine memory at an aperture offset. -/
def State.emem (s : State) (ap n : Nat) : Bytes := memBytes (fun _ => 0) s.gea.mem ap n
def State.setEmem (s : State) (ap : Nat) (bs : Bytes) : State :=
  { s with gea := { s.gea with mem := memPut (fun _ => 0) s.gea.mem ap bs, upsets := keepUpsets s.gea.upsets ap bs.length } }
def State.clearEmem (s : State) (lo n : Nat) : State :=
  { s with gea := { s.gea with
    mem := tabDrop (fun k => decide (lo ≤ k) && decide (k < lo + n)) s.gea.mem, upsets := keepUpsets s.gea.upsets lo n } }

/-- Bytes at an engine-local address; absent where it is unmapped. -/
def State.localBytes (s : State) (e a n : Nat) : Bytes :=
  match localAddr e a with | some ap => s.emem ap n | none => []

/-- The program of group `i` of an image. -/
def imgProgram (img : Bytes) (i : Nat) : Option Program := (imgPrograms img).find? (·.group = i)

end Sys2Proof.Machine
end

