-- ==== Sys2Proof/Machine/Floats.lean ====
section
/-! DEFINITION. IEEE 754 values as the spec's records and computations use them: conversions, complex pairs
and discrete Fourier sums, in double precision. -/

namespace Sys2Proof.Machine

/-- A single-precision word as a number, and a number rounded to a single-precision word. -/
def f32 (w : Word) : Float := (Float32.ofBits (UInt32.ofNat w.toNat)).toFloat
def toF32 (x : Float) : Word := w32 x.toFloat32.toBits.toNat

/-- A double-precision code as a number, and back. -/
def f64 (n : Nat) : Float := Float.ofBits (UInt64.ofNat n)
def toF64 (x : Float) : Nat := x.toBits.toNat

/-- A number rounded to the nearest integer. -/
def fRound (x : Float) : Int := x.round.toInt64.toInt

/-- An integer and a natural number as doubles. -/
def fInt (z : Int) : Float := Float.ofInt z
def fNat (n : Nat) : Float := Float.ofNat n

/-- The circle constant. -/
def fPi : Float := 3.141592653589793

/-- A complex number. -/
abbrev Cx := Float × Float

namespace Cx

def add (a b : Cx) : Cx := (a.1 + b.1, a.2 + b.2)
def mul (a b : Cx) : Cx := (a.1 * b.1 - a.2 * b.2, a.1 * b.2 + a.2 * b.1)
def conj (a : Cx) : Cx := (a.1, -a.2)
def norm2 (a : Cx) : Float := a.1 * a.1 + a.2 * a.2
def abs (a : Cx) : Float := (norm2 a).sqrt
def scale (x : Float) (a : Cx) : Cx := (x * a.1, x * a.2)
def div (a b : Cx) : Cx := scale (1.0 / norm2 b) (mul a (conj b))
/-- exp(j x). -/
def cis (x : Float) : Cx := (x.cos, x.sin)
/-- The sum of f over 0 to n - 1. -/
def sum (n : Nat) (f : Nat → Cx) : Cx := (List.range n).foldl (fun a i => add a (f i)) (0.0, 0.0)

end Cx

/-- The sum of f over 0 to n - 1. -/
def fSum (n : Nat) (f : Nat → Float) : Float := (List.range n).foldl (fun a i => a + f i) 0.0

/-- Modified Bessel function of order 0, by its power series. -/
def bessel0 (x : Float) : Float :=
  ((List.range 40).foldl (fun (a : Float × Float) i =>
    let t := a.2 * (x / 2.0) * (x / 2.0) / (fNat (i + 1) * fNat (i + 1))
    (a.1 + t, t)) (1.0, 1.0)).1

/-- Element `i` of a transform of length `n`. -/
def dft (n : Nat) (x : Nat → Cx) (i : Nat) : Cx :=
  Cx.sum n (fun j => Cx.mul (x j) (Cx.cis (-(2.0 * fPi * fNat (i * j % n) / fNat n))))

/-- The position of the largest of f over 0 to n - 1. DESIGN CHOICE (log entry 157): of equal ones the first. -/
def argMax (n : Nat) (f : Nat → Float) : Nat :=
  (List.range n).foldl (fun b i => if f i > f b then i else b) 0

/-- The smallest power of two at or above `n`, up to 2^k. -/
def pow2Above : Nat → Nat → Nat → Nat
  | 0, p, _ => p
  | k + 1, p, n => if n ≤ p then p else pow2Above k (2 * p) n

end Sys2Proof.Machine
end

