-- ==== Sys2Proof/Machine/DmcBase.lean ====
section
/-! DEFINITION. What the power manager and every requester see of the DRAM controller: its states, geometry, clock, command
history and refresh timers, and how it enters and leaves self-refresh as its domain steps (11 R318-R320, R331, R335-R340, Table 11-5). -/

namespace Sys2Proof.Machine

/-- DMC states and codes (11 Tables 11-5, 11-6). -/
abbrev Dmc.off : Nat := 0
abbrev Dmc.init : Nat := 1
abbrev Dmc.ready : Nat := 2
abbrev Dmc.srEntry : Nat := 3
abbrev Dmc.selfRefresh : Nat := 4
abbrev Dmc.srExit : Nat := 5
abbrev Dmc.frozen : Nat := 6
abbrev DmcCode.badConfig : Nat := 1
abbrev DmcCode.eccUncorr : Nat := 2
abbrev DmcCode.mrrMismatch : Nat := 3
abbrev DmcCode.trainCheck : Nat := 4
abbrev DmcCode.eccCorr : Nat := 5
abbrev DmcCode.tempLimit : Nat := 6
abbrev DmcCode.busy : Nat := 7

/-- The DMC's state. -/
def State.dmcState (s : State) : Nat := s.fld F.DMC_STATUS.STATE

/-! ### Geometry (R318-R320, R336) -/

/-- Row address bits, bytes per rank and of all installed ranks, and the device address limit. -/
def State.rowBits (s : State) : Nat := 15 + s.fld F.DMC_GEOM.DENSITY
def State.rankBytes (s : State) : Nat := 2 ^ (15 + s.rowBits)
def State.ranks (s : State) : Nat := 1 + s.fld F.DMC_GEOM.RANKS
def State.deviceTop (s : State) : Nat := s.rankBytes * s.ranks / 8 * 7

/-- Physical address of a 32-byte unit's data burst and of its check word (R320). -/
def unitPhys (u : Nat) : Nat := u / 7 * 256 + u % 7 * 32
def checkPhys (u : Nat) : Nat := u / 7 * 256 + 224 + 2 * (u % 7)

/-- Bank key, row, rank, 32-byte column and eighth of a physical address (R320, R336). -/
def State.bankKey (s : State) (p : Nat) : Nat := 16 * (p / s.rankBytes) + 8 * (p / 256 % 2) + p / 4096 % 8
def State.rowOf (s : State) (p : Nat) : Nat := p / 2 ^ 15 % 2 ^ s.rowBits
def State.rankOf (s : State) (p : Nat) : Nat := p / s.rankBytes
def colOf (p : Nat) : Nat := (p / 512 % 8 * 256 + p % 256) / 32
def State.eighthOf (s : State) (p : Nat) : Nat := 8 * s.rankOf p + p / 2 ^ (12 + s.rowBits) % 8

/-! ### Commands, refresh timers and self-refresh -/

/-- DMC clock period in units of 1e-13 s (Table 11-2), and the clock count of an instant. -/
def State.tCtl (s : State) : Nat :=
  match s.fld F.DMC_GEOM.DATA_RATE with
  | 0 => 50000 | 1 => 37510 | 2 => 25000 | 3 => 21430 | _ => 18753
def State.dmcCycle (s : State) : Nat := s.now * 8000 / s.tCtl

/-- A command enters the history (Table 11-9). `low` holds its channel to column bits. -/
def State.dmcCmd (s : State) (cmd low cls : Nat) : State :=
  { s with dmc := { s.dmc with hist := ((cmd + low, cls + 8 * (s.dmcCycle % 2 ^ 29)) :: s.dmc.hist).take 32 } }

/-- A rank's interval timer starts (R331, R333). -/
def State.refStart (s : State) (r : Nat) : State :=
  { s with dmc := { s.dmc with refAt := (r, s.now) :: s.dmc.refAt.filter (·.1 ≠ r) } }

/-- Exit from self-refresh begins: SRX on each rank, and the interval timers start (R338). -/
def State.srxIssue (s : State) : State :=
  (List.range s.ranks).foldl (fun a r => (a.dmcCmd 10 (32 * r) 6).refStart r) (s.setFld F.DMC_STATUS.STATE Dmc.srExit)

/-- A request or a wake asks for exit: at once in SELF_REFRESH, marked pending while entry runs (Table 11-5). -/
def State.srWake (s : State) : State :=
  if s.dmcState = Dmc.selfRefresh then s.srxIssue
  else if s.dmcState = Dmc.srEntry then { s with dmc := { s.dmc with exitPending := true } }
  else s

/-- The DMC domain enters KEEP: READY starts entry, INIT holds it (Table 11-5). -/
def State.dmcKeep (s : State) : State :=
  if s.dmcState = Dmc.ready then s.setFld F.DMC_STATUS.STATE Dmc.srEntry
  else if s.dmcState = Dmc.init then { s with dmc := { s.dmc with keepPending := true } }
  else s

/-- A step of the DMC domain starts. Entry to self-refresh is the step from DOZE to KEEP, and exit the step back to DOZE: Table 17-4
gives the steps the times of R337 and R338. -/
def State.dmcStep (s : State) (st dest : Nat) : State :=
  if st = 1 ∧ dest = 2 then s.dmcKeep
  else if st = 2 ∧ dest = 1 then ({ s with dmc := { s.dmc with keepPending := false } }).srWake
  else s

end Sys2Proof.Machine
end

