-- ==== Sys2Proof/Machine/Votes.lean ====
section
/-! DEFINITION. Power votes, holds and targets: the resolution of R449, the target and queue of R452, and the
ordering of steps of R450 (17). -/

namespace Sys2Proof.Machine

/-- A unit that votes: a fixed block or the GEA by TOP index, the thermal program set, JTAG debug, or an
engine (17 Table 17-2). -/
inductive Voter where
  | unit (u : Unit)
  | thermal
  | debug
  | engine (e : Nat)
  deriving DecidableEq, Repr

/-- Index of a voter: TOP for units, 22 thermal, 23 debug, 32 + e engines. -/
def Voter.index : Voter → Nat
  | .unit u => u.top | .thermal => 22 | .debug => 23 | .engine e => 32 + e

/-- Owner that a voter index folds into; 8 for the units no owner takes votes from (17 Table 17-2). -/
def ownerOf (i : Nat) : Nat :=
  if i ≥ 32 then 1
  else match i with
    | 18 | 14 => 0
    | 0 | 2 | 3 | 4 | 5 | 6 | 7 | 8 | 9 | 17 | 22 => 1
    | 11 | 12 => 2
    | 19 => 3
    | 16 => 4
    | 20 => 5
    | 10 => 6
    | 23 => 7
    | _ => 8

/-- A domain's field of a word with two bits per domain. -/
def domField (w d : Nat) : Nat := w / 4 ^ d % 4

/-- A vote of a unit for a domain, OFF = 3 unless cast. -/
def State.unitVote (s : State) (i d : Nat) : Nat := tabGet (fun _ => 3) s.pmu.votes (13 * i + d)

/-- The vote of an owner for a domain: the most active among its units and, for HOST, PMU_HOST_VOTE
(17 R448). -/
def State.ownerVote (s : State) (o d : Nat) : Nat :=
  let units := s.pmu.votes.foldl (fun m e => if e.1 % 13 = d ∧ ownerOf (e.1 / 13) = o then min m e.2 else m) 3
  if o = 0 then min units (domField (s.fld F.PMU_HOST_VOTE.VOTE) d) else units

/-- The children of CORE (17 R449). -/
def coreChildren : List Nat := [2, 3, 4, 5, 6, 7, 8, 10, 11, 12]

/-- The most active hold on a domain (17 Table 17-3). LINK follows PERST_N and the link state. -/
def State.holdOn (s : State) (d : Nat) : Nat :=
  let boot := s.pmu.bootHold && (d == 1 || d == 9 || (d == 11 && !s.hif.perst))
  let pf := s.pmu.pwrfailHold && (d == 9 || d == 10)
  let port := s.pmu.dmcPortHold && d == 9
  if boot || s.pmu.switchHold || pf || port then 0
  else if d = 11 ∧ !s.hif.perst then (if s.fld F.HIF_STATUS.LINK = 3 then 1 else 0)
  else 3

/-- PMU_ENABLE bit of a domain. Bits 0, 1, 9 and 11 read 1. -/
def State.domEnabled (s : State) (d : Nat) : Bool :=
  [0, 1, 9, 11].contains d || bitAt (s.fld F.PMU_ENABLE.EN) d

/-- The target of a domain from floor, votes and holds alone (first part of R449). -/
def State.ownTarget (s : State) (d : Nat) : Nat :=
  if !s.domEnabled d then 3
  else ((List.range 8).map (fun o => s.ownerVote o d)).foldl min
    (min (domField (s.fld F.PMU_FLOOR.FLOOR) d) (s.holdOn d))

/-- The resolved target of a domain (17 R449). -/
def State.resolved (s : State) (d : Nat) : Nat :=
  if d = 0 then 0
  else if d = 1 then (if coreChildren.any (fun c => s.ownTarget c == 0) then 0 else s.ownTarget 1)
  else if d = 9 then min (s.ownTarget 9) (s.ownTarget 10)
  else s.ownTarget d

/-- Destination of the next step from a state toward a target (17 R450). -/
def stepDest (st target : Nat) : Nat :=
  if st < target then st + 1 else if st ≥ 2 then 1 else 0

/-- The least active state a domain may be left in: its state, or the destination of a falling step. -/
def State.domLeast (s : State) (d : Nat) : Nat :=
  let st := s.domState d
  if s.flag (F.PMU_DOMd_STATUS.BUSY d) then max st (stepDest st (s.fld (F.PMU_DOMd_STATUS.TARGET d))) else st

/-- The most active state a domain is in or stepping into. -/
def State.domMost (s : State) (d : Nat) : Nat :=
  let st := s.domState d
  if s.flag (F.PMU_DOMd_STATUS.BUSY d) then min st (stepDest st (s.fld (F.PMU_DOMd_STATUS.TARGET d))) else st

/-- A step of a domain may start (17 R450, R452). -/
def State.stepAllowed (s : State) (d : Nat) : Bool :=
  let st := s.domState d
  let dest := stepDest st (s.fld (F.PMU_DOMd_STATUS.TARGET d))
  (!(coreChildren.contains d && dest == 0) || s.domLeast 1 == 0)
    && (!(d == 1 && st == 0) || coreChildren.all (fun c => s.domMost c != 0))
    && (!(d == 10 && decide (dest < st)) || decide (s.domLeast 9 ≤ dest))
    && (!(d == 9 && decide (st < dest)) || (decide (dest ≤ s.domMost 10) && !s.flag F.DMC_STATUS.FROZEN))

/-- A converter domain leaves RUN, and reaches it again: its converters deliver nothing between (04 R148). -/
def State.afeSleep (s : State) (d : Nat) : State :=
  if d = 6 then { s with afe := { s.afe with since := (s.now, s.afe.since.2) } }
  else if d = 7 then { s with afe := { s.afe with since := (s.afe.since.1, s.now) } }
  else s
def State.afeAwake (s : State) (d : Nat) : State :=
  if d = 6 ∨ d = 7 then
    { s with afe := { s.afe with asleep := s.afe.asleep ++ [(d, if d = 6 then s.afe.since.1 else s.afe.since.2, s.now)] } }
  else s

/-- A domain's next step starts where it has one to take and may take it; DRAM follows its domain's step into KEEP and out of it. -/
def State.startStep (s : State) (d : Nat) : State :=
  if !s.flag (F.PMU_DOMd_STATUS.BUSY d) && s.domState d != s.fld (F.PMU_DOMd_STATUS.TARGET d) && s.stepAllowed d then
    let s1 := (if s.domState d = 0 then s.afeSleep d else s).setFld (F.PMU_DOMd_STATUS.BUSY d) 1
    if d = 9 then s1.dmcStep (s.domState 9) (stepDest (s.domState 9) (s.fld (F.PMU_DOMd_STATUS.TARGET 9))) else s1
  else s

/-- Domains 1 to 12. -/
def domains : List Nat := [1, 2, 3, 4, 5, 6, 7, 8, 9, 10, 11, 12]

/-- Every domain that can starts its next step. -/
def State.startSteps (s : State) : State := domains.foldl State.startStep s

/-- A domain takes its resolved target (17 R452): discarded when it is the target already pursued, queued
while a step is in progress, else pursued. A lower target of a frozen DMC is HELD. -/
def State.pursue (s : State) (d : Nat) : State :=
  let r := s.resolved d
  let s0 := s.setFld (F.PMU_DOMd_STATUS.RESOLVED d) r
  let cur := if s.flag (F.PMU_DOMd_STATUS.Q_VALID d) then s.fld (F.PMU_DOMd_STATUS.QUEUED d)
    else s.fld (F.PMU_DOMd_STATUS.TARGET d)
  if r = cur then s0
  else
    let s1 := if s.flag (F.PMU_DOMd_STATUS.BUSY d) then
        (s0.setFld (F.PMU_DOMd_STATUS.QUEUED d) r).setFld (F.PMU_DOMd_STATUS.Q_VALID d) 1
      else s0.setFld (F.PMU_DOMd_STATUS.TARGET d) r
    if d = 9 ∧ r > s.domState 9 ∧ s.flag F.DMC_STATUS.FROZEN then s1.post .pmu 4 9 else s1

/-- Every domain's target is formed anew, and steps that may start do (17 R449, R450, R452, R453). -/
def State.repower (s : State) : State := (domains.foldl State.pursue s).startSteps

/-- A vote for a disabled domain above OFF raises DISABLED_VOTE (17 R448). -/
def State.checkVote (s : State) (d v : Nat) : State :=
  if d ≠ 0 ∧ v < 3 ∧ !s.domEnabled d then (s.post .pmu 3 d).raise .pmu F.PMU_IRQ_STATUS.DISABLED_VOTE else s

/-- A unit's vote for a domain takes a value, without resolving. A vote that does not change does nothing. -/
def State.castVote (s : State) (i d v : Nat) : State :=
  if s.unitVote i d = v then s
  else
    let s1 : State := { s with pmu := { s.pmu with votes := tabPut (fun _ => 3) s.pmu.votes (13 * i + d) v } }
    s1.checkVote d v

/-- A unit votes for a domain, and targets are resolved (17 R448). -/
def State.vote (s : State) (x : Voter) (d v : Nat) : State := (s.castVote x.index d v).repower

/-- A unit votes one state for several domains. -/
def State.voteAll (s : State) (x : Voter) (ds : List Nat) (v : Nat) : State :=
  (ds.foldl (fun a d => a.castVote x.index d v) s).repower

/-- The units whose own domain is `d` lose their votes (17 R448: on a step into KEEP). -/
def State.dropVotesOf (s : State) (d : Nat) : State :=
  let own (i : Nat) : Bool :=
    if i ≥ 32 then decide (2 + (i - 32) / 16 = d)
    else match i with
      | 2 | 3 | 9 | 10 | 11 | 14 | 17 | 0 => d == 1
      | 4 | 5 | 6 | 7 => d == 6
      | 8 | 22 => d == 7
      | 16 => d == 8
      | 13 => d == 9
      | 12 => d == 10
      | 18 => d == 11
      | 19 => d == 12
      | 20 => d == 1
      | _ => false
  { s with pmu := { s.pmu with votes := tabDrop (fun k => own (k / 13)) s.pmu.votes } }

/-- PMU_VOTEo as it reads: the owner's vote per domain, AO reading 0 (17 Table 17-11). -/
def State.voteWord (s : State) (o : Nat) : Word :=
  w32 (domains.foldl (fun a d => a + 4 ^ d * s.ownerVote o d) 0)

/-- HOLDS and DISABLED of a domain's status word as they read (17 Table 17-11): bit 10 CHILD, bit 11 DMC_PORT
or LINK, bit 12 BOOT, SWITCH or PWRFAIL, bit 13 FROZEN, bit 14 DISABLED. -/
def State.domWord (s : State) (d : Nat) : Word :=
  let b (x : Bool) (i : Nat) : Word := if x then w32 (2 ^ i) else 0
  let child := (d == 1 && coreChildren.any (fun c => s.ownTarget c == 0)) || (d == 9 && decide (s.ownTarget 10 < 3))
  let link := d == 11 && !s.hif.perst
  let big := (s.pmu.bootHold && (d == 1 || d == 9 || (d == 11 && !s.hif.perst))) || (s.pmu.switchHold && s.domEnabled d)
    || (s.pmu.pwrfailHold && (d == 9 || d == 10))
  let frozen := d == 9 && s.flag F.DMC_STATUS.FROZEN && decide (s.fld (F.PMU_DOMd_STATUS.TARGET 9) > s.domState 9)
  let w := s.reg (R.PMU_DOMd_STATUS d)
  if d = 0 then 0
  else w ||| b child 10 ||| b (link || (d == 9 && s.pmu.dmcPortHold)) 11 ||| b big 12 ||| b frozen 13 ||| b (!s.domEnabled d) 14

end Sys2Proof.Machine
end

