-- ==== Sys2Proof/Machine/Acq.lean ====
section
/-! DEFINITION. Frames and acquisition as every block sees them: the settings a frame runs under, whether a
boundary will open a real frame, MERIDIAN's votes, gaps, and a unit's fault that stops acquisition
(01 R35-R44, 08 R265, R266, 03 R120). -/

namespace Sys2Proof.Machine

/-- The current frame; none before the first frame of a run. -/
def State.cur (s : State) : Option FrameRec := s.mrs.frames.head?

/-- The settings of a frame from a reading of the register fields (01 R44). -/
def readCfg (f : Fld → Nat) : FrameCfg :=
  let k := 2 ^ f F.PGU_TONE_CFG.K_CODE
  let t := f F.MRS_PERIOD.T
  { period := t, k := k, stagger := t / k, len := f F.PGU_TONE_CFG.LEN
    bins := f F.MRS_BINS.COUNT, pitch := f F.MRS_GEOM.PITCH
    tones := (List.range 16).map (fun i => ⟨w32 (f (F.PGU_TONEk_FSTART.FSTART i)), w32 (f (F.PGU_TONEk_RATE.RATE i)),
      f (F.PGU_TONEk_AMP.AMP i), f (F.PGU_TONEk_AMP.PHASE0 i), w32 (f (F.DDC_TONEk_NCO.NCO i))⟩)
    gates := (List.range 2).map (fun n => ⟨f (F.PGU_GATEn_CFG.MODE n), signed 23 (f (F.PGU_GATEn_START.START n)),
      f (F.PGU_GATEn_WIDTH.WIDTH n), f (F.PGU_GATEn_CFG.DIAG_EN n) == 1⟩)
    outEn := f F.PGU_LAUNCH_CFG.OUT_EN == 1
    outDelay := f F.PGU_LAUNCH_CFG.DELAY, outWidth := 10 * f F.PGU_LAUNCH_CFG.WIDTH }

/-- The settings in force. -/
def State.frameCfg (s : State) : FrameCfg := readCfg s.fld

/-- C_SR of 05 R173 in nanostrain per radian. -/
def State.csr (s : State) : Float :=
  let ng := f32 (s.reg R.MRS_GROUP_INDEX)
  let perSample := 299792458.0 * 0.8e-9 / (2.0 * ng)
  let lg := fNat (s.fld F.MRS_GEOM.GAUGE) * fNat (s.fld F.MRS_GEOM.PITCH) * perSample
  let lam := fNat (s.fld F.PCX_RAY_LAMBDA.LAMBDA) / 1000.0
  let xi := fNat (s.fld F.PCX_RAY_XI.XI) / 65536.0
  lam / (4.0 * fPi * ng * xi * lg)

/-- A frame with acquisition: real, and neither CAL nor DIAG, nor discarded (R167). -/
def FrameRec.acquires (f : FrameRec) : Bool := f.real && !f.cal && !f.diag && !f.lost

/-- PENDING states (02 Table 2-10). -/
abbrev Pend.empty : Nat := 0
abbrev Pend.loading : Nat := 1
abbrev Pend.validating : Nat := 2
abbrev Pend.ready : Nat := 3
abbrev Pend.armed : Nat := 4
abbrev Pend.switching : Nat := 5

/-- State of the PENDING bank. -/
def State.pendState (s : State) : Nat := s.fld F.SIL_STATE.PENDING_STATE

/-- The image whose groups the engines work for: the old one until a heavy switch has drained (02 R86). -/
def State.engImage (s : State) : Bytes :=
  if s.pendState = Pend.switching ∧ !s.sil.drained then s.sil.old else s.sil.active

/-- A block's group as MRS_BLOCK_MAP shows it; 255 for none. -/
def State.blockGroup (s : State) (j : Nat) : Nat := bitsOf (s.reg (R.MRS_BLOCK_MAPj (j / 4))) (8 * (j % 4) + 7) (8 * (j % 4))
def State.setBlockGroup (s : State) (j g : Nat) : State :=
  s.setReg (R.MRS_BLOCK_MAPj (j / 4)) (setBits (s.reg (R.MRS_BLOCK_MAPj (j / 4))) (8 * (j % 4) + 7) (8 * (j % 4)) g)

/-- What a frame that opens now is processed by (01 R44). -/
def State.frameRules (s : State) : FrameRules :=
  { firstBin := s.fld F.PCX_RANGE.FIRST_BIN, count := s.fld F.PCX_COUNT.COUNT, h := s.fld F.PCX_RAY_CFG.H
    deadline := s.fld F.MRS_DEADLINE.FRAMES, policy := imgChannels s.sil.active
    archive := (List.range 32).filterMap (fun c =>
      if s.flag (F.TCE_CHc_CFG.ARCHIVE_EN c) && (imgArchived s.sil.active).any (·.1 == c) then some (c, s.reg (R.TCE_CHc_CFG c), s.reg (R.TCE_CHc_BOUND c)) else none)
    ray := { gauge := s.fld F.MRS_GEOM.GAUGE, alphaExp := s.fld F.PCX_RAY_CFG.ALPHA_EXP, floor := s.fld F.PCX_RAY_CFG.FADE_FLOOR
             slew := s.fld F.PCX_RAY_SLEW.LIMIT, legacyTone := s.fld F.PCX_RAY_CFG.LEGACY_TONE
             enables := (s.reg R.PCX_RAY_CFG).toNat % 8, csr := if s.fld F.PCX_COUNT.COUNT = 0 then 0 else toF64 s.csr, source := s.reg R.PCX_TF_SOURCE }
    groups := (List.range (imgBlocks s.engImage).length).map s.blockGroup, schedule := imgPay s.sil.active Sec.schedule
    zones := s.znt.zones, nb := s.fld F.ZNT_BANDS.NB
    coef := (List.range 4).map (fun q => (List.range 5).map (fun i => signed 32 (s.fld (F.ZNT_BANDq_COEFi.COEF q i)))) }

/-- The rules of a frame still known; those in force for another. -/
def State.rulesOf (s : State) (n : Nat) : FrameRules :=
  match s.mrs.frames.find? (·.num = n) with | some f => f.rules | none => s.frameRules

/-- A field of a channel's TCE registers as a frame's rules hold it; any other register's as it stands. -/
def State.ruleFld (s : State) (n c : Nat) (f : Fld) : Nat :=
  match (s.rulesOf n).archive.find? (·.1 = c) with
  | some (_, cfg, bound) =>
    if f.reg = R.TCE_CHc_CFG c then bitsOf cfg f.hi f.lo else if f.reg = R.TCE_CHc_BOUND c then bitsOf bound f.hi f.lo else s.fld f
  | none => s.fld f

/-- Slave mode is in force (01 R41). -/
def State.slave (s : State) : Bool := s.fld F.MRS_GEOM.MODE == 1

/-- Tone launch instants of a frame in fast samples: launch reference + k x S, k < K (04 R130). -/
def FrameRec.toneAt (f : FrameRec) (k : Nat) : Nat := f.launch + k * f.cfg.stagger

/-! ### Switches and boundaries -/

/-- An armed switch takes place at a boundary at instant `t` that opens frame `n` (02 R81). -/
def State.switchDue (s : State) (t n : Nat) : Bool :=
  (s.pendState == Pend.armed || s.sil.restart) &&
    (match s.sil.armed with
     | some (.next a) => decide (a + 2 * usec ≤ t)
     | some (.frame m) => m == n
     | some (.first a) => decide (a + 2 * usec ≤ t)
     | none => false)

/-- The image an armed switch brings into force, and whether it takes the course of a heavy switch: where PENDING_HEAVY says so, or
where an engine load is still to be made up (02 R84, R87, 21 R530, log entry 145). -/
def State.switchImage (s : State) : Bytes := if s.sil.restart then s.sil.active else s.sil.pending
def State.switchHeavy (s : State) : Bool := s.sil.reload || (!s.sil.restart && s.flag F.SIL_STATE.PENDING_HEAVY)

/-- Steps 2 to 4 of R86 are complete: drained, engines loaded, every enabled domain in RUN. -/
def State.heavyDone (s : State) : Bool :=
  s.sil.drained && s.sil.toLoad.isEmpty && (List.range 13).all (fun d => !s.domEnabled d || s.domOn d)

/-! ### Thermal parameters -/

/-- Groups the engines work in. -/
def State.groups (s : State) : List Group := imgGroups s.engImage

/-- Streams of the image the engines work for, with their indexes. -/
def State.streams (s : State) : List (Nat × RStream) :=
  let l := imgStreams s.engImage
  (List.range l.length).zip l

/-- The stream of a source. -/
def State.streamOfSource (s : State) (src : Nat) : Option (Nat × RStream) := s.streams.find? (fun x => x.2.source == src)

/-- The engine group that runs the thermal program set: the one ROUTING names for the Raman averager, else for MADC2
(R184). DESIGN CHOICE (log entry 159): where their streams name different groups, that of the Raman stream's first block. -/
def State.thermGroup (s : State) : Option Group :=
  match (s.streamOfSource 1).orElse (fun _ => s.streamOfSource 2) with
  | some (_, st) => s.groups[s.blockGroup st.firstBlock]?
  | none => none

/-- Its lowest engine. -/
def State.thermEngine (s : State) : Option Nat := s.thermGroup.map Group.lowest

/-- The parameter block in data memory (R185). -/
def State.thermBlock (s : State) : Bytes :=
  match s.thermEngine with | some e => s.emem (dataBase e) 256 | none => []

/-- ENABLES of the thermal parameter block in an image's ENGINE_PROGRAM data image (06 R185). -/
def imgThermEnables (img : Bytes) : Nat := match imgTherm img with | some (_, b) => field b 2 2 | none => 0

/-- A thermal product is enabled: in the parameter block as it stands in engine memory, and in the image's data where its group is not
loaded (06 R185, R186, 08 R266). -/
def State.thermEnabled (s : State) : Bool :=
  let loaded := match s.thermEngine with
    | some e => decide (s.pendState ≠ Pend.switching) && inRange 2 5 (s.fld (F.GEA_ENGk_STATE.STATE e))
    | none => false
  (if loaded then field s.thermBlock 2 2 else imgThermEnables s.sil.active) % 8 != 0

/-- Domains MERIDIAN votes for that an image alone names: CORE, FAST_AFE with Rayleigh or gates, each tile that holds a group, and the tile
of the zone filters (08 R266, 09 R298, log entry 31). -/
def imgDomains (img : Bytes) : List Nat :=
  let fast := (imgStreams img).any (·.source == 0) || (readCfg (imgFld img)).gates.any (·.mode != 0)
  let tile (t : Nat) : Bool := (imgGroups img).any (fun g => g.engines.any (fun e => e / 16 == t))
  let bands := imgPay img Sec.detectorBands
  let watch := (imgZones img).any (fun z => z.bandMask != 0)
  [1] ++ (if fast then [6] else [])
    ++ ((List.range 4).filter (fun t => tile t || (watch && field bands 1 1 == t))).map (· + 2)

/-- The domains MERIDIAN votes for: those of the ACTIVE image, MED_AFE with an enabled thermal product, and the tile of the filter state while a
zone has a BAND_MASK (08 R266, 09 R298). -/
def State.meridianDomains (s : State) : List Nat :=
  let d := imgDomains s.sil.active ++ (if s.thermEnabled then [7] else [])
  let t := 2 + s.fld F.ZNT_STATE_BASE.TILE
  if s.znt.zones.any (fun z => z.bandMask != 0) && !d.contains t then d ++ [t] else d

/-- The image uses FAST_AFE, or the medium converters. -/
def State.usesFast (s : State) : Bool := (imgDomains s.sil.active).contains 6
def State.usesMed (s : State) : Bool := s.thermEnabled || (imgStreams s.sil.active).any (·.source == 3)

/-- Every unit the image uses is ready for a start (08 R265, 20 R507): the PGU STOPPED with its PLL locked, FAFE, MAFE and PCX
READY, every engine of a group LOADED, RUNNING or WAITING, the ZNT, STU and TCE READY, and the ALM READY. -/
def State.unitsReady (s : State) : Bool :=
  (!s.usesFast || (s.domOn 6 && s.fld F.PGU_STATUS.STATE == 1 && s.flag F.PGU_STATUS.PLL_LOCK && s.fld F.FAFE_STATUS.STATE == 2
    && s.fld F.PCX_STATUS.STATE == 1))
  && (!s.usesMed || (s.domOn 7 && s.fld F.MAFE_STATUS.STATE == 2))
  && (imgGroups s.sil.active).all (fun g => g.engines.all (fun e => s.domOn (2 + e / 16) && inRange 2 4 (s.fld (F.GEA_ENGk_STATE.STATE e))))
  && s.domOn 1 && s.fld F.ZNT_STATUS.STATE == 1 && s.fld F.STU_STATUS.STATE == 1 && s.fld F.TCE_STATUS.STATE == 1
  && s.fld F.ALM_STATUS.STATE == 4

/-- A boundary at `t` that opens frame `n` opens a real frame (01 R37, 08 R265, 02 R86). A start never takes effect at a
switch, after which the checks are repeated (Table 8-4). -/
def State.realAt (s : State) (t n : Nat) : Bool :=
  ((s.acq == Mrs.running && (match s.mrs.stopAt with | some a => decide (t < a + 2 * usec) | none => true))
    || (s.acq == Mrs.starting && !s.switchDue t n && s.unitsReady
      && (match s.mrs.readyAt with | some a => decide (a + 2 * usec ≤ t) | none => false)))
  && ((s.pendState != Pend.switching && !s.sil.reload) || s.heavyDone)
  && !(s.switchDue t n && s.switchHeavy)

/-! ### Gaps and faults -/

/-- The run number in force (20 R499). -/
def State.run (s : State) : Nat := (s.reg R.ALM_RUN).toNat

/-- What a frame's header says for a record (12 Table 12-3). -/
def headerSpan (h : Bytes) : SpanHead := ⟨field h 0x24 4, field h 0x20 4, field h 0x1A 1⟩

/-- What held at a frame: by its header while the frame is known, else the values in force. -/
def State.spanHead (s : State) (run frame : Nat) : SpanHead :=
  match s.mrs.frames.find? (fun f => f.num == frame && field f.header 4 4 == run) with
  | some f => headerSpan f.header
  | none => ⟨(s.reg R.ALM_EPOCH).toNat, imgSerial s.sil.active, s.lockByte s.ttu.stepped⟩

/-- A gap waits for its record (12 R356): cause, channel, block, first frame with its run, and the frame after the span with its run. -/
def State.noteGap (s : State) (cause chan block firstRun first endRun end_ : Nat) : State :=
  { s with gaps := s.gaps ++ [⟨cause, chan, block, firstRun, first, endRun, end_, s.spanHead firstRun first⟩] }

/-- MERIDIAN votes one state for its domains, and OFF for those no longer among them (08 R266). -/
def State.meridian (s : State) (v : Nat) : State :=
  let ds := s.meridianDomains
  (domains.foldl (fun a d => a.castVote (Voter.unit .mrs).index d (if ds.contains d then v else 3)) s).repower

/-- MERIDIAN's votes follow its domains. -/
def State.meridianNow (s : State) : State := s.meridian (if inRange Mrs.starting Mrs.stopping s.acq then 0 else 1)

/-- The current frame's acquisition is discarded. -/
def State.loseFrame (s : State) : State :=
  { s with mrs := { s.mrs with frames := modAt s.mrs.frames 0 (fun f => { f with lost := true }) } }

/-- Acquisition is lost from a frame on, unless a gap is already open (01 R37, R62). -/
def State.openGap (s : State) (frame cause : Nat) : State :=
  if s.mrs.gapFrom.isSome then s else { s with mrs := { s.mrs with gapFrom := some (s.run, frame, cause) } }

/-- Acquisition enters STOPPED (Tables 8-4, 8-10). -/
def State.stoppedNow (s : State) : State := (s.setFld F.MRS_STATUS.STATE Mrs.stopped).raise .mrs F.MRS_IRQ_STATUS.STOPPED

/-- A unit refuses a start, or faults (08 Table 8-4, 03 R120): STARTING falls back to STOPPED with the unit's
code, RUNNING becomes STOPPING at once and the open frame is discarded. -/
def State.acqFault (s : State) (code detail : Nat) : State :=
  if s.acq = Mrs.starting then
    let s1 : State := { s with mrs := { s.mrs with readyAt := none } }
    (s1.stoppedNow.show .mrs code detail).meridian 1
  else if s.acq = Mrs.running then
    let s1 := ((s.settleDeads.setFld F.MRS_STATUS.STATE Mrs.stopping).settleDeads.loseFrame).openGap s.frame 1
    { s1 with mrs := { s1.mrs with stopAt := none } }
  else s

end Sys2Proof.Machine
end

