-- ==== Sys2Proof/Machine/Pgu.lean ====
section
/-! DEFINITION. Probe generation: synthesis, gates, the launch marker, calibration runs, DIAG frames and the
PGU's states (03). -/

namespace Sys2Proof.Machine

/-- PGU states and codes (03 Tables 3-3, 3-4). -/
abbrev Pgu.off : Nat := 0
abbrev Pgu.stopped : Nat := 1
abbrev Pgu.running : Nat := 2
abbrev Pgu.fault : Nat := 3
abbrev PguCode.badConfig : Nat := 1
abbrev PguCode.pllUnlock : Nat := 2
abbrev PguCode.calBusy : Nat := 3
abbrev PguCode.calAborted : Nat := 4
abbrev PguCode.notRunning : Nat := 5
abbrev PguCode.calGeometry : Nat := 6
abbrev PguCode.clip : Nat := 7
abbrev PguCode.truncated : Nat := 8

/-- The PGU's state. -/
def State.pguState (s : State) : Nat := s.fld F.PGU_STATUS.STATE

/-! ### Checks (R119, R95, R96, R105) -/

/-- A gate's START and WIDTH checks, in TONE or FRAME mode (Table 3-9, R105): DETAIL of the first failure. -/
def gateCheck (f : Fld → Nat) (n : Nat) : Option Nat :=
  let mode := f (F.PGU_GATEn_CFG.MODE n)
  let start := signed 23 (f (F.PGU_GATEn_START.START n))
  let width := f (F.PGU_GATEn_WIDTH.WIDTH n)
  let slave := f F.MRS_GEOM.MODE == 1
  if mode ≠ 1 ∧ mode ≠ 2 then none
  else if start < -2500 ∨ start > 2500000 then some (9 + 4 * n)
  else if slave && decide (start < 0) && decide (-start > 2 * (f F.MRS_SLAVE_L.L : Int) - 100) then some (9 + 4 * n)
  else if width < 5 ∨ width > 25000 then some (10 + 4 * n)
  else none

/-- A tone's start and end frequencies lie within 2^34 RATE units (R96). -/
def toneCheck (f : Fld → Nat) (k : Nat) : Option Nat :=
  let fs : Int := 16 * signed 32 (f (F.PGU_TONEk_FSTART.FSTART k))
  let fe : Int := fs + ((f F.PGU_TONE_CFG.LEN : Int) - 1) * signed 32 (f (F.PGU_TONEk_RATE.RATE k))
  let top : Int := 2 ^ 34
  if fs < -top ∨ fs > top then some (0x40 + 4 * k)
  else if fe < -top ∨ fe > top then some (0x41 + 4 * k)
  else none

/-- The first of a list of checks that fails. -/
def firstSome (l : List (Option Nat)) : Option Nat := l.findSome? id

/-- The PGU's checks in offset order: DETAIL of the first failing register (R119). -/
def pguCheck (f : Fld → Nat) : Option Nat :=
  let k := f F.PGU_TONE_CFG.K_CODE
  let len := f F.PGU_TONE_CFG.LEN
  let e := f F.PGU_DIAG_CFG.INTERVAL_EXP
  let w := f F.PGU_LAUNCH_CFG.WIDTH
  firstSome ([
    if k > 4 ∨ len = 0 ∨ len > 25000 then some 2 else none,
    if f F.MRS_PERIOD.T % 2 ^ k ≠ 0 then some 3 else none,
    gateCheck f 0, gateCheck f 1,
    if e ≠ 0 ∧ (e < 8 ∨ e > 16) then some 0x10 else none,
    if f F.PGU_CAL_CFG.COUNT_EXP = 7 then some 0x11 else none,
    if f F.PGU_LAUNCH_CFG.OUT_EN = 1 ∧ (w = 0 ∨ w > 200) then some 0x13 else none]
    ++ (List.range (2 ^ min k 4)).map (toneCheck f))

/-! ### Synthesis (R97-R99) -/

/-- A number to 18 bits: a neighbour in units of 2^-17, the upper or the lower one. -/
def trig18 (x : Float) (up : Bool) : Int :=
  let z := fRound (x * 1099511627776.0)
  if up then -((-z) / 8388608) else z / 8388608

/-- Cosine and sine of a 16-bit phase in units of 2^-17, exact to 18 bits (R97). -/
def cos18 (th : BitVec 16) : Int := trig18 (Cx.cis (2.0 * fPi * fNat th.toNat / 65536.0)).1 (Config.trigUp th).1
def sin18 (th : BitVec 16) : Int := trig18 (Cx.cis (2.0 * fPi * fNat th.toNat / 65536.0)).2 (Config.trigUp th).2

/-- In-phase and quadrature sums of the active chirps, in units of 2^-17 of an AMP unit. -/
def chirpSum (l : List Chirp) : Int × Int :=
  l.foldl (fun a c =>
    let th := BitVec.ofNat 16 (c.phase.toNat / 65536)
    (a.1 + (c.cfg.amp : Int) * cos18 th, a.2 + (c.cfg.amp : Int) * sin18 th)) (0, 0)

/-- One PDAC sample from the sums: the two codes before sat14 (R97). -/
def iqCodes (f : Fld → Nat) (acc : Int × Int) : Int × Int :=
  let i := roundDiv (8191 * acc.1) (2 ^ 33)
  let q := roundDiv (8191 * acc.2) (2 ^ 33)
  (i + signed 10 (f F.PGU_IQ_OFFSET.I_OFFSET),
   roundDiv ((f F.PGU_IQ_GAIN.Q_GAIN : Int) * q + signed 16 (f F.PGU_IQ_GAIN.Q_SKEW) * i) 32768
     + signed 10 (f F.PGU_IQ_OFFSET.Q_OFFSET))

/-- sat14 of both codes, and whether it limited either. -/
def sat14 (c : Int × Int) : (Int × Int) × Bool :=
  let r := (satInt 14 c.1, satInt 14 c.2)
  (r, r != c)

/-- A chirp after one sample; none when it has emitted LEN samples. -/
def Chirp.next (c : Chirp) : Option Chirp :=
  let c1 : Chirp := { c with phase := c.phase + ((c.freq.sshiftRight 4).setWidth 32), freq := c.freq + c.cfg.rate.signExtend 36, n := c.n + 1 }
  if c1.n = c1.len then none else some c1

/-- What a stretch of synthesis leaves: chirps still active, the latest codes, how many samples were limited
and the position of the first of them. -/
structure SynthRun where
  chirps : List Chirp
  pdac : Int × Int
  clips : Nat
  firstClip : Nat
  deriving DecidableEq, Repr

/-- `n` PDAC samples (R97). -/
def synth (f : Fld → Nat) : Nat → Nat → SynthRun → SynthRun
  | 0, _, r => r
  | n + 1, i, r =>
    let y := sat14 (iqCodes f (chirpSum r.chirps))
    synth f n (i + 1) {
      chirps := r.chirps.filterMap Chirp.next
      pdac := y.1
      clips := if y.2 then r.clips + 1 else r.clips
      firstClip := if y.2 ∧ r.clips = 0 then i else r.firstClip }

/-- `n` further occurrences of a code in a unit's log. -/
def State.logTimes (path code : Nat) : Nat → State → State
  | 0, s => s
  | n + 1, s => State.logTimes path code n (s.logAt path code)

/-- The codes between chirps: code 0 plus the IQ offsets (Table 3-5; R97 with no active chirp). -/
def State.restCodes (s : State) : Int × Int := (sat14 (iqCodes s.fld (0, 0))).1

/-- The PGU emits every sample before a PDAC instant; limited samples are counted, logged at the first of them
and raise CLIP (R99). -/
def State.synthTo (s : State) (t2 : Nat) : State :=
  let n := t2 - s.pgu.synthAt
  if s.pgu.chirps.isEmpty then { s with pgu := { s.pgu with synthAt := max s.pgu.synthAt t2, pdac := s.restCodes } }
  else
    let r := synth s.fld n s.pgu.synthAt ⟨s.pgu.chirps, s.pgu.pdac, 0, 0⟩
    let s1 : State := { s with
      pgu := { s.pgu with
        chirps := r.chirps, synthAt := max s.pgu.synthAt t2, pdac := if r.chirps.isEmpty then s.restCodes else r.pdac } }
    if r.clips = 0 then s1
    else
      let bin := ({ s1 with now := r.firstClip / 2 } : State).bin
      let s2 := ((s1.show .pgu PguCode.clip 0).logFor (fixedPath .pgu) PguCode.clip s1.frame bin)
      ((State.logTimes (fixedPath .pgu) PguCode.clip (r.clips - 1) s2).count F.PGU_CLIP_COUNT.COUNT r.clips).raise
        .pgu F.PGU_IRQ_STATUS.CLIP

/-! ### Calibration runs (R109-R114) -/

/-- R112 in PDAC samples: no return of a frame outside the run reaches FAIN0 under CAL_SEL. -/
def State.calGeometry (s : State) : Bool :=
  let c := s.frameCfg
  let settle := 2500 * s.fld F.PGU_CAL_CFG.SETTLE
  let w := 2 * c.bins * c.pitch
  let t := 2 * (if s.slave then s.fld F.MRS_TMIN.T_MIN else c.period)
  decide ((c.k - 1) * (2 * c.stagger) + max w (c.len + settle) + settle ≤ 2 * t)

/-- Why a calibration request is refused; none accepts (Table 3-2). -/
def State.calRefusal (s : State) : Option Nat :=
  if s.fld F.PGU_CAL_STATUS.PHASE ≠ 0 then some PguCode.calBusy
  else if s.pguState ≠ Pgu.running then some PguCode.notRunning
  else if !s.calGeometry then some PguCode.calGeometry
  else none

/-- A calibration run is requested (Table 3-2). -/
def State.calBegin (s : State) : State :=
  let s1 := (s.setFld F.PGU_CAL_STATUS.PHASE 1).setFld F.PGU_CAL_STATUS.FRAMES_DONE 0
  { s1 with pgu := { s1.pgu with calEntered := s.now } }

/-- CAL_SEL takes a level; the GPIO pin that serves as CAL_SEL follows it with POL (R109). -/
def State.driveCalSel (s : State) (on : Bool) : State :=
  let s1 : State := { s with pgu := { s.pgu with calSel := on } }
  if s.flag F.PGU_CAL_CFG.GPIO_EN then
    let m := (1 : BitVec 16) <<< s.fld F.PGU_CAL_CFG.GPIO
    { s1 with gpio := if on != s.flag F.PGU_CAL_CFG.POL then s.gpio ||| m else s.gpio &&& ~~~m }
  else s1

/-- A run ends early: IDLE, CAL_ABORTED, CAL_SEL inactive at once, the PCX's averages discarded (05 R158). -/
def State.calAbort (s : State) : State :=
  if s.fld F.PGU_CAL_STATUS.PHASE = 0 then s
  else
    let s1 := (s.setFld F.PGU_CAL_STATUS.PHASE 0).post .pgu PguCode.calAborted 0
    (({ s1 with pcx := { s1.pcx with means := s1.pcx.means.filter (·.ended) } }).driveCalSel false).raise .pgu F.PGU_IRQ_STATUS.CAL_ABORTED

/-- The phase a real boundary at `t` leads to (Table 3-2). -/
def State.calNext (s : State) (t : Nat) : Nat :=
  let p := s.fld F.PGU_CAL_STATUS.PHASE
  if t < s.pgu.calEntered + 2 * usec then p
  else match p with
    | 1 => 2
    | 2 => 3
    | 3 => if s.fld F.PGU_CAL_STATUS.FRAMES_DONE + 1 < 2 ^ s.fld F.PGU_CAL_CFG.COUNT_EXP then 3 else 4
    | _ => 0

/-- The PCX's measurement of the run whose phase a boundary at `t` sets to `q`: begun with the leading guard frame, extended by each
measuring frame, to be evaluated once the run has ended (05 R158, R160). -/
def calMeans (q t : Nat) (l : List CalMean) : List CalMean :=
  if q = 2 then l ++ [⟨t, t, t, false, 0, []⟩]
  else l.map (fun m => if m.ended then m else if q = 3 then { m with last := t } else { m with ended := q == 0 })

/-- A calibration run advances or aborts at a boundary at `t` (Table 3-2). -/
def State.calAdvance (s : State) (t : Nat) (real switched : Bool) : State :=
  let p := s.fld F.PGU_CAL_STATUS.PHASE
  if p = 0 then s
  else if !real || switched || s.pguState != Pgu.running then s.calAbort
  else if t < s.pgu.calEntered + 2 * usec then s
  else
    let q := s.calNext t
    let done := s.fld F.PGU_CAL_STATUS.FRAMES_DONE
    let s1 := (s.setFld F.PGU_CAL_STATUS.PHASE q).setFld F.PGU_CAL_STATUS.FRAMES_DONE (if p = 3 then done + 1 else done)
    let g : PguSt := { s1.pgu with
      calEntered := t
      calLead := if q = 2 then t else s1.pgu.calLead
      calLast := if q = 3 then t else s1.pgu.calLast }
    let s2 : State := { s1 with pgu := g, pcx := { s1.pcx with means := calMeans q t s1.pcx.means } }
    if q = 0 then (s2.show .pgu 0 0).raise .pgu F.PGU_IRQ_STATUS.CAL_DONE else s2

/-- The PGU's own periodic request at a real boundary that opens frame `n`: one refused shows and logs its code and counts in SKIPPED
(R113, Table 3-4). In KEEP and OFF the PGU makes none (R122). -/
def State.calPeriodic (s : State) (n : Nat) : State :=
  let i := s.fld F.PGU_CAL_CFG.INTERVAL * 65536
  if s.domState 6 < 2 ∧ i ≠ 0 ∧ n ≠ 0 ∧ n % i = 0 then
    match s.calRefusal with
    | none => s.calBegin
    | some c => (s.post .pgu c 0).count F.PGU_CAL_STATUS.SKIPPED 1
  else s

/-- CAL_SEL at a PDAC instant: from SETTLE before the first measuring frame until SETTLE after the last chirp
of the last one (R111). -/
def State.calSelAt (s : State) (t2 : Nat) : Bool :=
  let p := s.fld F.PGU_CAL_STATUS.PHASE
  let settle := 2500 * s.fld F.PGU_CAL_CFG.SETTLE
  let c := s.frameCfg
  let first := 2 * s.pgu.calLead + 2 * (if s.slave then s.fld F.MRS_TMIN.T_MIN else c.period)
  let last := 2 * s.pgu.calLast + (c.k - 1) * (2 * c.stagger) + c.len + settle
  let more := p == 2 || (p == 3 && decide (s.fld F.PGU_CAL_STATUS.FRAMES_DONE + 1 < 2 ^ s.fld F.PGU_CAL_CFG.COUNT_EXP))
  s.pguState == Pgu.running && decide (first ≤ t2 + settle) && (more || ((p == 3 || p == 4) && decide (t2 < last)))

/-! ### DIAG frames (R115-R118) -/

/-- Diagnostic frames are active under register values `f` (R115). -/
def diagActiveIn (f : Fld → Nat) : Bool :=
  f F.PGU_DIAG_CFG.INTERVAL_EXP != 0 &&
    (readCfg f).gates.any (fun g => g.diag && (g.mode == 1 || g.mode == 2) && decide (g.width < 125))

/-- Frame `n` is one that R115 makes a DIAG frame. -/
def diagNumberIn (f : Fld → Nat) (n : Nat) : Bool :=
  let m := 2 ^ f F.PGU_DIAG_CFG.INTERVAL_EXP
  diagActiveIn f && n % m == m - 1

/-- PGU_STATUS.DIAG_ACTIVE. -/
def State.diagActive (s : State) : Bool := diagActiveIn s.fld

/-- Whether frame `n`, opened under register values `f`, is a DIAG frame (R115, R117). -/
def State.diagFrame (s : State) (f : Fld → Nat) (n : Nat) (real cal : Bool) : Bool :=
  real && !cal && (diagNumberIn f n || (s.pgu.diagPending && diagActiveIn f))

/-- A boundary selects or postpones a DIAG frame (R117). DESIGN CHOICE (log entry 151): a postponed frame stays pending over a switch, a
spell with diagnostic frames inactive and a new run. Nothing is counted while FAST_AFE is in KEEP or OFF (R122). -/
def State.diagSelect (s : State) (n : Nat) (real cal : Bool) : State :=
  if 2 ≤ s.domState 6 then s
  else if s.diagFrame s.fld n real cal then
    let s1 := s.count F.PGU_DIAG_COUNT.COUNT 1
    { s1 with pgu := { s1.pgu with diagPending := false } }
  else if diagNumberIn s.fld n then
    let s1 := s.count F.PGU_EVENT_COUNT.DIAG_POSTPONED 1
    { s1 with pgu := { s1.pgu with diagPending := true } }
  else s

/-! ### Gates and the launch marker (R102-R107) -/

/-- Pulses of gate `n` that belong to a frame, as PDAC intervals from, to (R102, R110, R116). -/
def FrameRec.pulses (f : FrameRec) (n : Nat) : List (Int × Int) :=
  match f.cfg.gates[n]? with
  | none => []
  | some g =>
    if !f.real then []
    else if f.diag then (if g.diag then [(2 * (f.launch : Int), 2 * (f.launch : Int) + 500)] else [])
    else if g.mode != 1 && g.mode != 2 then []
    else if g.mode = 1 then
      if f.guardFrame then []
      else (List.range f.cfg.k).map (fun k =>
        let a : Int := 2 * (f.toneAt k : Int) + g.start
        (a, a + g.width))
    else
      let a : Int := 2 * (f.launch : Int) + g.start
      [(a, a + g.width)]

/-- The frame that the next boundary will open, as far as it is placed: T later in master mode, at the accepted
edge's launch reference in slave mode, under the armed image where a switch is due (R104). -/
def State.nextFrame (s : State) : Option FrameRec :=
  let place (t : Nat) : FrameRec :=
    let n := s.frame + 1
    let sw := s.switchDue t n
    let real := s.realAt t n
    let img := imgFld s.switchImage
    let f := if sw then img else s.fld
    let q := if real && !sw && s.fld F.PGU_CAL_STATUS.PHASE != 0 then s.calNext t else 0
    { num := n, launch := t, real := real, diag := s.diagFrame f n real (decide (q ≥ 2)), cal := decide (q ≥ 2)
      guardFrame := q == 2 || q == 4, lost := false, edge := if s.slave then s.mrs.pendRefs.head?.map (·.2) else none, missing := false, reset := false, track := 0
      cfg := readCfg f
      rules := { s.frameRules with schedule := imgPay (if sw then s.switchImage else s.sil.active) Sec.schedule }, header := [] }
  if !s.mrs.open_ then none
  else if s.slave then s.mrs.pendRefs.head?.map (fun r => place r.1)
  else some (place (s.launch + s.fld F.MRS_PERIOD.T))

/-- A gate stands open through a PDAC instant: STATIC_OPEN, but for the DIAG frames of a gate with DIAG_EN, which take their one pulse
(R102, R116). -/
def State.heldOpen (s : State) (n t2 : Nat) : Bool :=
  s.fld (F.PGU_GATEn_CFG.MODE n) == 3 &&
    !(s.flag (F.PGU_GATEn_CFG.DIAG_EN n) && (s.mrs.frames.find? (fun f => decide (2 * f.launch ≤ t2))).any (·.diag))

/-- A gate's level at a PDAC instant (R102, R103). -/
def State.gateAt (s : State) (n t2 : Nat) : Bool :=
  s.pguState == Pgu.running &&
    (s.heldOpen n t2
      || (s.nextFrame.toList ++ s.mrs.frames).any (fun f =>
        (f.pulses n).any (fun p => decide (p.1 ≤ (t2 : Int)) && decide ((t2 : Int) < p.2))))

/-- LAUNCH_OUT's level at a fast-sample instant (R107). DESIGN CHOICE (log entry 152): a real frame's marker that DELAY or WIDTH carries
into a following virtual frame runs its course there; a virtual frame gives no marker of its own. -/
def State.markerAt (s : State) (t : Nat) : Bool :=
  s.pguState == Pgu.running &&
    s.mrs.frames.any (fun f => f.real && f.cfg.outEn && decide (f.launch + f.cfg.outDelay ≤ t)
      && decide (t < f.launch + f.cfg.outDelay + f.cfg.outWidth))

/-! ### States (Table 3-3) -/

/-- Outputs go idle: the samples so far are emitted, then PDAC stands at code 0 plus the offsets, gates closed, markers inactive
(Table 3-5). -/
def State.pguIdle (s0 : State) : State :=
  let s := s0.synthTo (2 * s0.now)
  ({ s with pgu := { s.pgu with
      chirps := [], gates := [false, false], launchOut := false, stopping := false, pdac := s.restCodes } }).driveCalSel false

/-! ### The balls (Table 3-5) -/

/-- The PGU drives its outputs: FAST_AFE is neither in KEEP nor in OFF. -/
def State.pguDriven (s : State) : Bool := decide (s.domState 6 < 2)

/-- PDAC0-1: the codes, none where undriven. -/
def State.pdacOut (s : State) : Option (Int × Int) := if s.pguDriven then some s.pgu.pdac else none

/-- The level of GATEn_P above GATEn_N: open and POL; none where undriven, which the board biases to read closed (R106). -/
def State.gateOut (s : State) (n : Nat) : Option Bool :=
  if s.pguDriven then some ((s.pgu.gates[n]?).getD false != s.flag (F.PGU_GATEn_CFG.POL n)) else none

/-- LAUNCH_OUT's level with OUT_POL; none where undriven. -/
def State.launchOutPin (s : State) : Option Bool :=
  if s.pguDriven then some (s.pgu.launchOut != s.flag F.PGU_LAUNCH_CFG.OUT_POL) else none

/-- The PGU leaves RUNNING or comes to rest in a state: outputs idle, a run in progress aborts. -/
def State.pguEnter (s : State) (st : Nat) : State := ((s.setFld F.PGU_STATUS.STATE st).calAbort).pguIdle

/-- The PGU enters FAULT with a code; from RUNNING acquisition stops (R119, R120). -/
def State.pguFault (s : State) (code detail : Nat) : State :=
  let s1 := ((s.pguEnter Pgu.fault).post .pgu code detail).raise .pgu F.PGU_IRQ_STATUS.FAULT
  if s.pguState = Pgu.running then s1.acqFault code Unit.pgu.top else s1

/-- Every chirp of the frames opened so far has been launched and has ended. -/
def State.chirpsDone (s : State) : Bool :=
  s.pgu.chirps.isEmpty && s.mrs.frames.all (fun f =>
    !f.real || f.diag || f.guardFrame || decide (f.toneAt (f.cfg.k - 1) < s.now))

/-- A stopping PGU whose chirps are done passes to STOPPED. -/
def State.pguSettle (s : State) : State :=
  if s.pgu.stopping && s.chirpsDone then (s.pguEnter Pgu.stopped).show .pgu 0 0 else s

/-- Acquisition stops at a boundary (Table 3-3). -/
def State.pguStop (s : State) : State :=
  if s.pguState = Pgu.running then ({ s with pgu := { s.pgu with stopping := true } }).pguSettle else s

/-- The gates take their levels of a boundary's instant, once its frame is open: STATIC_OPEN ones follow RUNNING, the image and DIAG
frames, which no slot opens or closes (R102, R103, R116). -/
def State.pguGates (s : State) (t : Nat) : State :=
  { s with pgu := { s.pgu with gates := (List.range 2).map (fun n => s.gateAt n (2 * t)) } }

/-- Acquisition starts at a boundary: checks have passed. -/
def State.pguStart (s : State) : State :=
  if s.pguState = Pgu.stopped then
    let s1 := (s.setFld F.PGU_STATUS.STATE Pgu.running).show .pgu 0 0
    { s1 with pgu := { s1.pgu with stopping := false, synthAt := 2 * s.launch } }
  else s

/-- A PGU at rest shows the offsets in force, and CAL_SEL the pin in force. -/
def State.pguRest (s : State) : State := ({ s with pgu := { s.pgu with pdac := s.restCodes } }).driveCalSel s.pgu.calSel

/-- After a write of a register that a pin shows: a PGU at rest shows it at once (R109, R121). -/
def State.pguShown (s : State) : State := if s.pguState = Pgu.running then s.driveCalSel s.pgu.calSel else s.pguRest

/-- An image switch at a boundary: a RUNNING PGU checks the new plan; one at rest shows the new offsets, and CAL_SEL the new pin. -/
def State.pguSwitch (s : State) : State :=
  if s.pguState = Pgu.running then
    match pguCheck s.fld with
    | some d => s.pguFault PguCode.badConfig d
    | none => s.driveCalSel s.pgu.calSel
  else s.pguRest

/-- The PDAC PLL locks while FAST_AFE is in RUN. -/
def State.pguLock (s : State) : State :=
  let s1 := s.setFld F.PGU_STATUS.PLL_LOCK 1
  if s1.pguState = Pgu.off then s1.pguEnter Pgu.stopped else s1

/-- The PDAC PLL loses lock. -/
def State.pguUnlock (s : State) : State :=
  let s1 := s.setFld F.PGU_STATUS.PLL_LOCK 0
  if s1.pguState = Pgu.stopped then (s1.pguEnter Pgu.off).post .pgu PguCode.pllUnlock 0
  else if s1.pguState = Pgu.running then s1.pguFault PguCode.pllUnlock 0
  else s1

/-- FAST_AFE leaves RUN: OFF, the code kept (Table 3-3). -/
def State.pguPowerDown (s : State) : State := ((s.setFld F.PGU_STATUS.PLL_LOCK 0).pguEnter Pgu.off)

/-- PGU_CTRL.FAULT_CLR. -/
def State.pguFaultClr (s : State) : State :=
  if s.pguState = Pgu.fault then
    (s.pguEnter (if s.flag F.PGU_STATUS.PLL_LOCK then Pgu.stopped else Pgu.off)).show .pgu 0 0
  else s

/-! ### Commands -/

/-- CAL_RUN: a host request for a calibration run (R113). -/
def execCalRun (via : Via) (s : State) : Host.Outcome State Fault Refusal :=
  .next (s.withRequest via [0x0401] (fun s => s.onUnit via .pgu R.PGU_CTRL (fun s =>
    match s.calRefusal with
    | some c => s.finish via .pgu c 0
    | none => (s.calBegin).finish via .pgu 0 0)))

/-- PGU_FAULT_CLR (Table 3-3). -/
def execPguFaultClr (src : Src) (s : State) : Host.Outcome State Fault Refusal :=
  .next (s.onUnit (.reg src) .pgu R.PGU_CTRL State.pguFaultClr)

/-- PGU_COUNT_CLR: PGU_CLIP_COUNT, PGU_EVENT_COUNT and PGU_DIAG_COUNT clear, the samples so far being counted first (Table 3-7). -/
def State.pguCountClr (s0 : State) : State :=
  let s := s0.synthTo (2 * s0.now)
  ((s.setReg R.PGU_CLIP_COUNT 0).setReg R.PGU_EVENT_COUNT 0).setReg R.PGU_DIAG_COUNT 0

/-- PGU_COUNT_CLR. -/
def execPguCountClr (src : Src) (s : State) : Host.Outcome State Fault Refusal :=
  .next (s.onUnit (.reg src) .pgu R.PGU_CTRL State.pguCountClr)

/-- A tone's chirp starts, a running one of the same tone stopping there (R97, R100). -/
def State.startChirp (s : State) (f : FrameRec) (k : Nat) : State :=
  let t2 := 2 * f.toneAt k
  match f.cfg.tones[k]? with
  | none => s
  | some tc =>
    let s1 := s.synthTo t2
    let s2 := match s1.pgu.chirps.find? (·.tone = k) with
      | none => s1
      | some old =>
        let a : State := { s1 with pgu := { s1.pgu with chirps := s1.pgu.chirps.filter (·.tone ≠ k) } }
        (((a.show .pgu PguCode.truncated 0).logFor (fixedPath .pgu) PguCode.truncated old.frame a.bin).count
          F.PGU_EVENT_COUNT.TRUNCATED 1).raise .pgu F.PGU_IRQ_STATUS.TRUNCATED
    let c : Chirp := ⟨k, f.num, t2, f.cfg.len, tc, w32 (tc.phase0 * 65536), (tc.fstart.signExtend 36) <<< 4, 0⟩
    { s2 with pgu := { s2.pgu with chirps := s2.pgu.chirps ++ [c] } }

/-- TONE_LAUNCH: tone `k` of a frame reaches its launch instant: the DDC's phase accumulator of the tone
returns to 0 (04 R144), and a frame that emits starts the chirp (R97, R100, R110, R116). -/
def execToneLaunch (k : Fin 16) (frame : Nat) (s : State) : Host.Outcome State Fault Refusal :=
  .next (match s.mrs.frames.find? (·.num = frame) with
    | none => s
    | some f =>
      if k.val ≥ f.cfg.k then s
      else
        let s1 := s.at_ (f.toneAt k)
        let s2 : State := { s1 with afe := { s1.afe with
          ncoStart := tabPut (fun _ => 0) s1.afe.ncoStart k.val (f.toneAt k) } }
        if s2.pguState = Pgu.running ∧ f.real ∧ !f.diag ∧ !f.guardFrame then s2.startChirp f k.val else s2)

/-- CHIRP_END: the oldest chirp of a tone has emitted LEN samples; a stopping PGU may then rest (R97,
Table 3-3). -/
def execChirpEnd (k : Fin 16) (s : State) : Host.Outcome State Fault Refusal :=
  .next (match s.pgu.chirps.find? (·.tone = k.val) with
    | none => s.pguSettle
    | some c =>
      let t2 := c.start + c.len
      ((s.at_ ((t2 + 1) / 2)).synthTo t2).pguSettle)

/-- GATE_EDGE: a derived slot at PDAC instant `t2` sets a gate to its level there (R102, R103). -/
def execGateEdge (n : Fin 2) (t2 : Nat) (s : State) : Host.Outcome State Fault Refusal :=
  let s1 := s.at_ (t2 / 2)
  .next { s1 with pgu := { s1.pgu with gates := s1.pgu.gates.set n.val (s1.gateAt n.val t2) } }

/-- LAUNCH_OUT_EDGE: a derived slot sets LAUNCH_OUT to its level (R107). -/
def execLaunchOutEdge (t : Nat) (s : State) : Host.Outcome State Fault Refusal :=
  let s1 := s.at_ t
  .next { s1 with pgu := { s1.pgu with launchOut := s1.markerAt t } }

/-- CAL_SEL_CHANGE: a derived slot at PDAC instant `t2` sets CAL_SEL, and its pin, to its level (R109, R111). -/
def execCalSelChange (t2 : Nat) (s : State) : Host.Outcome State Fault Refusal :=
  let s1 := s.at_ (t2 / 2)
  .next (s1.driveCalSel (s1.calSelAt t2))

end Sys2Proof.Machine
end

