-- ==== Sys2Proof/Machine/Afe.lean ====
section
/-! DEFINITION. The converters, the gain profile, blanking and the DDC's derived registers (04). -/

namespace Sys2Proof.Machine

/-- FAFE and MAFE states and codes (04 Tables 4-5, 4-6). -/
abbrev Afe.off : Nat := 0
abbrev Afe.calibrating : Nat := 1
abbrev Afe.ready : Nat := 2
abbrev Afe.fault : Nat := 3
abbrev AfeCode.badConfig : Nat := 1
abbrev AfeCode.pllUnlock : Nat := 2
abbrev AfeCode.busy : Nat := 3
abbrev AfeCode.calFail : Nat := 4
abbrev AfeCode.saturated : Nat := 5

/-- States of the two units. -/
def State.fafeState (s : State) : Nat := s.fld F.FAFE_STATUS.STATE
def State.mafeState (s : State) : Nat := s.fld F.MAFE_STATUS.STATE

/-! ### Gain profile (R130-R136) -/

/-- The profile the registers hold. -/
def readProfile (f : Fld → Nat) : Profile :=
  { en := f F.FAFE_CFG.PROFILE_EN == 1, fixed := f F.FAFE_CFG.FIXED_CODE
    steps := (List.range (min 16 (f F.FAFE_PROFILE_COUNT.N))).map (fun i => (f (F.FAFE_STEPi.U i), f (F.FAFE_STEPi.CODE i))) }

/-- The code of a profile `u` fast samples after the latest tone launch instant (R130). -/
def Profile.codeAt (p : Profile) (u dflt : Nat) : Nat :=
  if !p.en then p.fixed
  else ((p.steps.filter (fun x => decide (x.1 ≤ u))).getLast?.map (·.2)).getD dflt

/-- The latest tone launch instant of any frame at or before an instant (R130, R131). -/
def State.lastTone (s : State) (t : Nat) : Option Nat :=
  (s.mrs.frames.flatMap (fun f => (List.range f.cfg.k).map f.toneAt)).foldl
    (fun a x => if x ≤ t then some (match a with | some y => max x y | none => x) else a) none

/-- The PGA code in force at an instant: the old image's profile until its last fast sample (R136). -/
def State.pgaAt (s : State) (t : Nat) : Nat :=
  let p := match s.afe.oldProfile with
    | some (p, last) => if t ≤ last then p else readProfile s.fld
    | none => readProfile s.fld
  if !p.en then p.fixed
  else match s.lastTone t with
    | some x => p.codeAt (t - x) s.afe.pga
    | none => s.afe.pga

/-- The last fast sample the DDC takes of a frame: tone K - 1's, J samples of K fast samples (R145). -/
def FrameRec.lastSample (f : FrameRec) : Nat :=
  let k := max 1 f.cfg.k
  f.toneAt (k - 1) + k * ((2 * f.cfg.bins * f.cfg.pitch + f.cfg.len + 2 * k - 1) / (2 * k)) - 1

/-- A switch keeps the old profile for the rest of the last frame under the old image (R136). `old` is the
state before the new registers. -/
def State.keepProfile (s old : State) : State :=
  let p := readProfile old.fld
  if p = readProfile s.fld then s
  else match old.cur with
    | some f => { s with afe := { s.afe with oldProfile := some (p, f.lastSample) } }
    | none => s

/-! ### Checks (R147) -/

/-- The FAFE's checks in offset order. -/
def fafeCheck (f : Fld → Nat) : Option Nat :=
  let en := f F.FAFE_CFG.CONV_EN
  let n := f F.FAFE_PROFILE_COUNT.N
  let s := f F.MRS_PERIOD.T / 2 ^ f F.PGU_TONE_CFG.K_CODE
  let prof := f F.FAFE_CFG.PROFILE_EN == 1
  let u (i : Nat) := f (F.FAFE_STEPi.U i)
  firstSome ([
    if bitAt en 0 != bitAt en 1 || bitAt en 2 != bitAt en 3 then some 2 else none,
    if n = 0 ∨ n > 16 then some 3 else none]
    ++ (List.range 2).map (fun w =>
      if f (F.FAFE_BLANKn_LEN.LEN w) ≠ 0 ∧ f (F.FAFE_BLANKn_POS.POS w) ≥ s then some (4 + 2 * w) else none)
    ++ (if !prof then [] else (List.range n).map (fun i =>
      if (i = 0 ∧ u 0 ≠ 0) ∨ (i ≠ 0 ∧ u i ≤ u (i - 1)) ∨ (i + 1 = n ∧ u i ≥ s) then some (0x10 + i) else none)))

/-- The FAFE reports a failed check; its state stays, and acquisition stops (R147, R120). -/
def State.fafeBadConfig (s : State) (d : Nat) : State :=
  (s.post .fafe AfeCode.badConfig d).acqFault AfeCode.badConfig Unit.fafe.top

/-- The PGA takes a code at an instant; one it has already is no step (R132). -/
def State.setPga (s : State) (t code : Nat) : State :=
  if code = s.afe.pga then s
  else { s with afe := { s.afe with pga := code, steps := (t :: s.afe.steps).take 4096 } }

/-- An image switch: a fixed code goes into force (R130); under acquisition the FAFE checks the new values. -/
def State.fafeSwitch (s0 : State) : State :=
  let p := readProfile s0.fld
  let s := if p.en ∨ s0.afe.oldProfile.isSome then s0 else s0.setPga s0.now p.fixed
  if s.acq = Mrs.running ∧ s.usesFast then
    match fafeCheck s.fld with
    | some d => s.fafeBadConfig d
    | none => s
  else s

/-! ### Blanking and saturation (R137-R140) -/

/-- BLANK_IN blanks the samples of an instant: the pin was at its active level 8.0 ns before (R137). -/
def State.blankInAt (s : State) (t : Nat) : Bool :=
  let level := match s.afe.blankEdges.find? (fun e => decide (e.1 + 10 ≤ t)) with
    | some e => e.2
    | none => false
  s.flag F.FAFE_CFG.BLANK_IN_EN && (level != s.flag F.FAFE_CFG.BLANK_IN_POL)

/-- A blanking window is open at an instant (R137). -/
def State.windowAt (s : State) (w t : Nat) : Bool :=
  let len := s.fld (F.FAFE_BLANKn_LEN.LEN w)
  let pos := s.fld (F.FAFE_BLANKn_POS.POS w)
  (s.mrs.frames.flatMap (fun f => (List.range f.cfg.k).map f.toneAt)).any (fun x =>
    decide (x + pos ≤ t) && decide (t < x + pos + len))

/-- A fast converter's sample of an instant is blanked: `n` is enabled, and BLANK_IN blanks or a window open then names it in MASK
(R137). -/
def State.fastBlank (s : State) (n u : Nat) : Bool :=
  bitAt (s.fld F.FAFE_CFG.CONV_EN) n &&
    (s.blankInAt u || (List.range 2).any (fun w => bitAt (s.fld (F.FAFE_BLANKn_LEN.MASK w)) n && s.windowAt w u))

/-- The medium samples of an instant are blanked: by BLANK_IN or in a FAFE window, with BLANK_FOLLOW (R140). DESIGN CHOICE (log entry
154): a window blanks them whichever fast converters its MASK names. -/
def State.medBlank (s : State) (u : Nat) : Bool :=
  s.flag F.MAFE_CFG.BLANK_FOLLOW && (s.blankInAt u || (List.range 2).any (fun w => s.windowAt w u))

/-- Edges older than the one that is in force at an instant are forgotten. -/
def pruneEdges (t : Nat) : List (Nat × Bool) → List (Nat × Bool)
  | [] => []
  | e :: rest => if e.1 + 10 ≤ t then [e] else e :: pruneEdges t rest

/-! ### Conversion and correction (R124-R129, R133, R136, R138) -/

/-- Full scale of a fast converter per PGA code in mV peak-to-peak (Table 4-2: 3 dB a code). -/
def fullScale (code : Nat) : Nat := ([1200, 850, 601, 426, 301, 213, 151, 107][code]?).getD 1200

/-- The code of fast converter `n` for an input in microvolts at an instant; -8192 and 8191 are the saturated codes (R126). One that is
off reads 0. -/
def State.fastCode (s : State) (n u : Nat) (v : Int) : Int :=
  if bitAt (s.fld F.FAFE_CFG.CONV_EN) n then
    satInt 14 (roundDiv (16384 * v) (1000 * fullScale (s.pgaAt u)) + Config.adcNoise n u)
  else 0

/-- Saturated codes of a width. -/
def satCode (w : Nat) (c : Int) : Bool := c == -(2 ^ (w - 1)) || c == 2 ^ (w - 1) - 1

/-- R133 with the factor of one polarisation of a PGA code. DESIGN CHOICE: ties and parts beyond 20 bits (log 177). -/
def correct (factor : Word) (z : Int × Int) : Int × Int :=
  let re := signed 16 (bitsOf factor 15 0)
  let im := signed 16 (bitsOf factor 31 16)
  (satInt 20 (roundDiv (16 * (z.1 * re - z.2 * im)) 16384), satInt 20 (roundDiv (16 * (z.1 * im + z.2 * re)) 16384))

/-- The fast sample of an instant from the four codes: corrected by the PGA code in force, then blanked (R133, R138). -/
def State.fastSample (s : State) (u : Nat) (codes : List Int) : FastSample :=
  let code (n : Nat) : Int := (codes[n]?).getD 0
  let sat (n : Nat) : Bool := satCode 14 (code n)
  let blank (n : Nat) : Bool := s.fastBlank n u
  let keep (n m : Nat) (z : Int × Int) : Int × Int := (if blank n then 0 else z.1, if blank m then 0 else z.2)
  let fx := s.reg (R.DDC_CORRc_X (s.pgaAt u))
  let fy := s.reg (R.DDC_CORRc_Y (s.pgaAt u))
  { x := keep 0 1 (correct fx (code 0, code 1)), y := keep 2 3 (correct fy (code 2, code 3))
    tap := keep 0 0 (correct fx (code 0, 0))
    sat := (sat 0 || sat 1, sat 2 || sat 3), blank := (blank 0 || blank 1, blank 2 || blank 3) }

/-- The code of medium converter `n` for an input in microvolts (R128). -/
def State.medCode (s : State) (n u : Nat) (v : Int) : Int :=
  if bitAt (s.fld F.MAFE_CFG.CH_EN) n then
    satInt 16 (roundDiv (65536 * v) (if bitAt (s.fld F.MAFE_CFG.RANGE) n then 500000 else 2000000) + Config.adcNoise (4 + n) u)
  else 0

/-- The medium sample of an instant: a blanked one counts as 0 (R140). -/
def State.medSample (s : State) (u : Nat) (v : List Int) : MedSample :=
  let b := s.medBlank u
  ⟨u, (List.range 4).map (fun n => let c := s.medCode n u ((v[n]?).getD 0); (if b then 0 else c, satCode 16 c)), b⟩

/-- Rows of parallel lists, at most `n`: what each converter's input was at one sample after another. -/
def rows : Nat → List (List Int) → List (List Int)
  | 0, _ => []
  | n + 1, l => if l.all List.isEmpty then [] else l.map (fun x => x.headD 0) :: rows n (l.map List.tail)

/-- The first instant of the medium grid at or after `u` (R127). -/
def medGrid (u : Nat) : Nat := u + ((Config.madcGrid 0).val + 5 - u % 5) % 5

/-- Saturated samples are counted, raise SATURATED and enter the log (R139, R140, log entry 33). -/
def State.saturations (s : State) (u : Unit) (count : Nat → Fld) (irq : Fld) (l : List Nat) : State :=
  let s1 := ((List.range 4).zip l).foldl (fun a e => a.count (count e.1) e.2) s
  if l.all (· == 0) then s1 else (s1.post u AfeCode.saturated 0).raise u irq

/-- How often each of four channels saturated. -/
def satCounts (l : List (List Bool)) : List Nat := (List.range 4).map (fun n => (l.filter (fun x => (x[n]?).getD false)).length)

/-- A converter domain, 6 or 7, is in RUN at an instant since the samples last taken (R148). -/
def State.converting (s : State) (d u : Nat) : Bool :=
  (s.domOn d || decide (u < if d = 6 then s.afe.since.1 else s.afe.since.2))
    && !s.afe.asleep.any (fun x => x.1 == d && decide (x.2.1 ≤ u) && decide (u < x.2.2))

/-- Samples by instant as stretches without a break, the latest stretch first. -/
def stretches : List (Nat × FastSample) → List (Nat × List FastSample) → List (Nat × List FastSample)
  | [], out => out
  | (u, x) :: rest, (v, l) :: out => if v + l.length = u then stretches rest ((v, l ++ [x]) :: out) else stretches rest ((u, [x]) :: (v, l) :: out)
  | (u, x) :: rest, [] => stretches rest [(u, [x])]

/-- The fast converters sample their inputs (microvolts, one list a converter, from the first sample not yet taken) up to an instant
(R124, R126). In DOZE they deliver nothing (R148). DESIGN CHOICE: in OFF, CALIBRATING and FAULT too (log 181). -/
def State.takeFast (s : State) (fadc : List (List Int)) (t : Nat) : State :=
  let l := rows (t - s.afe.upTo) fadc
  let codes := ((List.range l.length).zip l |>.map (fun e =>
    (s.afe.upTo + e.1, (List.range 4).map (fun n => s.fastCode n (s.afe.upTo + e.1) ((e.2[n]?).getD 0))))).filter (fun c => s.converting 6 c.1)
  let s1 := s.saturations .fafe F.FAFE_SAT_COUNTn.COUNT F.FAFE_IRQ_STATUS.SATURATED
    (satCounts (codes.map (fun c => c.2.map (satCode 14))))
  let old := match s.mrs.frames[80]? with | some f => f.launch | none => 0
  if codes.isEmpty then s1
  else { s1 with afe := { s1.afe with
    fast := (stretches (codes.map (fun c => (c.1, s.fastSample c.1 c.2))) [] ++ s1.afe.fast).filter (fun g => decide (old < g.1 + g.2.length)) } }

/-- The medium converters do so on their grid (R127, R128). -/
def State.takeMed (s : State) (madc : List (List Int)) (t : Nat) : State :=
  let first := medGrid s.afe.upTo
  let l := rows ((t + 4 - first) / 5) madc
  let new := ((List.range l.length).zip l |>.map (fun e => s.medSample (first + 5 * e.1) e.2)).filter (fun m => s.converting 7 m.at_)
  let s1 := s.saturations .mafe F.MAFE_SAT_COUNTn.COUNT F.MAFE_IRQ_STATUS.SATURATED (satCounts (new.map (fun m => m.codes.map (·.2))))
  let old := match s.mrs.frames[3]? with | some f => f.launch | none => 0
  { s1 with afe := { s1.afe with med := new.reverse ++ s1.afe.med.filter (fun m => decide (old ≤ m.at_)) } }

/-- The converters take their samples up to an instant. -/
def State.takeSamples (s : State) (fadc madc : List (List Int)) (t : Nat) : State :=
  if t ≤ s.afe.upTo then s
  else
    let s1 := (s.takeFast fadc t).takeMed madc t
    { s1 with afe := { s1.afe with upTo := t, asleep := s1.afe.asleep.filter (fun x => decide (t < x.2.2)) } }

/-- MADC phase of a launch reference (R127). -/
def madcPhase (launch : Nat) : Nat := medGrid launch - launch

/-- The launch reference that ends a frame; none while it is the frame in progress. -/
def State.frameEnd (s : State) (f : FrameRec) : Option Nat := ((s.mrs.frames.filter (fun g => decide (f.launch < g.launch))).getLast?).map (·.launch)

/-- A frame's medium samples taken by an instant, in order; the first is MADC sample 0 (R127). -/
def State.frameMed (s : State) (f : FrameRec) (t : Nat) : List MedSample :=
  let z := match s.frameEnd f with | some e => min t e | none => t
  (s.afe.med.filter (fun m => decide (f.launch ≤ m.at_) && decide (m.at_ < z))).reverse

/-- Descriptors of the enabled medium converters for a real frame that closes at an instant (R129). -/
def State.madcDescriptors (s : State) (f : FrameRec) (t : Nat) : List (Nat × Word × Word) :=
  let l := s.frameMed f t
  let sat := satCounts (l.map (fun m => m.codes.map (·.2)))
  let blanked := l.any (·.blank)
  ((List.range 4).filter (fun n => bitAt (s.fld F.MAFE_CFG.CH_EN) n)).map (fun n =>
    (n, w32 f.num, w32 (min 65535 ((sat[n]?).getD 0) + 65536 * madcPhase f.launch + (if blanked then 2 ^ 19 else 0))))

/-- What a frame boundary closes in the converters: the MADC descriptors of the real frame that ends, while MED_AFE runs (R129, R148). -/
def State.afeBoundary (s : State) (t : Nat) : State :=
  match s.cur with
  | some f => if f.real && s.domOn 7 then { s with afe := { s.afe with madcDesc := s.madcDescriptors f t } } else s
  | none => s

/-! ### Calibration (R141-R143, Table 4-5) -/

/-- A foreground calibration starts. -/
def State.fafeCalStart (s : State) : State :=
  let s1 := s.setFld F.FAFE_STATUS.STATE Afe.calibrating
  { s1 with afe := { s1.afe with stepcal := false } }
def State.mafeCalStart (s : State) : State := s.setFld F.MAFE_STATUS.STATE Afe.calibrating

/-- FAST_AFE is in RUN and the PLL is locked; MED_AFE is in RUN. -/
def State.fafeWake (s : State) : State := if s.fafeState = Afe.off then s.fafeCalStart else s
def State.mafeWake (s : State) : State := if s.mafeState = Afe.off then s.mafeCalStart else s

/-- The PDAC PLL loses lock (Table 4-5): OFF, with the code kept in FAULT. DESIGN CHOICE (log entry 155): a step-factor measurement in
progress is abandoned without a code. -/
def State.fafeUnlock (s : State) : State :=
  let s1 : State := { s with afe := { s.afe with stepcal := false } }
  if s.fafeState = Afe.fault then s1.setFld F.FAFE_STATUS.STATE Afe.off
  else if s.fafeState = Afe.off then s1
  else (s1.setFld F.FAFE_STATUS.STATE Afe.off).post .fafe AfeCode.pllUnlock 0

/-- A unit's calibration ends: the measurements go to its CAL registers; within the limits it is READY with
CAL_DONE, else FAULT with the lowest failing converter. -/
def State.adcCalDone (s : State) (mafe : Bool) (offsets skews : List Int) : State :=
  let lim : Int := if mafe then 256 * 16 else 64 * 16
  let off (n : Nat) : Int := offsets[n]?.getD 0
  let skew (n : Nat) : Int := skews[n]?.getD 0
  let bad (n : Nat) : Bool := decide ((off n).natAbs > lim.natAbs) || (!mafe && decide ((skew n).natAbs > 200))
  let u : Unit := if mafe then .mafe else .fafe
  let s1 := (List.range 4).foldl (fun a n =>
    if mafe then a.setFld (F.MAFE_CALn.OFFSET n) (unsigned 16 (off n))
    else (a.setFld (F.FAFE_CALn.OFFSET n) (unsigned 16 (off n))).setFld (F.FAFE_CALn.SKEW n) (unsigned 16 (skew n))) s
  let st := if mafe then F.MAFE_STATUS.STATE else F.FAFE_STATUS.STATE
  match (List.range 4).find? bad with
  | some n => ((s1.setFld st Afe.fault).post u AfeCode.calFail n).raise u
      (if mafe then F.MAFE_IRQ_STATUS.FAULT else F.FAFE_IRQ_STATUS.FAULT)
  | none => ((s1.setFld st Afe.ready).show u 0 0).raise u
      (if mafe then F.MAFE_IRQ_STATUS.CAL_DONE else F.FAFE_IRQ_STATUS.CAL_DONE)

/-- FAFE_CTRL.CAL_REQ (Table 4-5, R142). -/
def State.fafeCalReq (s : State) : State :=
  if s.fafeState = Afe.off then s
  else if s.fafeState = Afe.fault then s.fafeCalStart
  else if s.fafeState = Afe.ready ∧ s.acq ≠ Mrs.running ∧ !s.afe.stepcal then s.fafeCalStart
  else s.post .fafe AfeCode.busy 0

/-- MAFE_CTRL.CAL_REQ. -/
def State.mafeCalReq (s : State) : State :=
  if s.mafeState = Afe.off then s
  else if s.mafeState = Afe.fault then s.mafeCalStart
  else if s.mafeState = Afe.ready ∧ s.acq ≠ Mrs.running then s.mafeCalStart
  else s.post .mafe AfeCode.busy 0

/-- FAFE_CTRL.STEPCAL_REQ: measured in READY with acquisition stopped; refused BUSY in the other states, without
effect in OFF (R142, R143, log entry 34). DESIGN CHOICE (log entry 155): one in progress does not hold off an acquisition start. -/
def State.stepcalReq (s : State) : State :=
  if s.fafeState = Afe.off then s
  else if s.fafeState = Afe.ready ∧ s.acq ≠ Mrs.running ∧ !s.afe.stepcal then
    { s with afe := { s.afe with stepcal := true } }
  else s.post .fafe AfeCode.busy 0

/-- FAFE_CTRL.FAULT_CLR and MAFE_CTRL.FAULT_CLR (Table 4-5). -/
def State.fafeFaultClr (s : State) : State :=
  if s.fafeState = Afe.fault then
    if s.flag F.PGU_STATUS.PLL_LOCK then (s.fafeCalStart).show .fafe 0 0
    else (s.setFld F.FAFE_STATUS.STATE Afe.off).show .fafe 0 0
  else s
def State.mafeFaultClr (s : State) : State :=
  if s.mafeState = Afe.fault then (s.mafeCalStart).show .mafe 0 0 else s

/-- The SAT_COUNT registers clear. -/
def State.fafeCountClr (s : State) : State := (List.range 4).foldl (fun a n => a.setReg (R.FAFE_SAT_COUNTn n) 0) s
def State.mafeCountClr (s : State) : State := (List.range 4).foldl (fun a n => a.setReg (R.MAFE_SAT_COUNTn n) 0) s

/-! ### Commands -/

/-- PGA_STEP: the profile's code at an instant goes into force; the instant is kept for the step bins (R132, R134). -/
def execPgaStep (t : Nat) (s : State) : Host.Outcome State Fault Refusal :=
  let s1 := s.at_ t
  .next (s1.setPga t (s1.pgaAt t))

/-- BLANK_WINDOW_EDGE: a blanking window takes its level at an instant (R137). -/
def execBlankWindowEdge (w : Fin 2) (t : Nat) (s : State) : Host.Outcome State Fault Refusal :=
  let s1 := s.at_ t
  .next { s1 with afe := { s1.afe with windows := s1.afe.windows.set w.val (s1.windowAt w.val t) } }

/-- BLANK_IN_CHANGE: the pin changes; blanking follows 8.0 ns later (R137, R140). -/
def execBlankInChange (level : Bool) (t : Nat) (s : State) : Host.Outcome State Fault Refusal :=
  let s1 := s.at_ t
  let g : AfeSt := { s1.afe with blankEdges := (t, level) :: pruneEdges s1.afe.upTo s1.afe.blankEdges }
  .next { s1 with afe := g, vpf := { s1.vpf with pins := ((t, level) :: s1.vpf.pins).take 1024 } }

/-- FAFE_CAL_REQ. -/
def execFafeCalReq (src : Src) (s : State) : Host.Outcome State Fault Refusal :=
  .next (s.onUnit (.reg src) .fafe R.FAFE_CTRL State.fafeCalReq)

/-- MAFE_CAL_REQ. -/
def execMafeCalReq (src : Src) (s : State) : Host.Outcome State Fault Refusal :=
  .next (s.onUnit (.reg src) .mafe R.MAFE_CTRL State.mafeCalReq)

/-- STEPCAL_REQ. -/
def execStepcalReq (src : Src) (s : State) : Host.Outcome State Fault Refusal :=
  .next (s.onUnit (.reg src) .fafe R.FAFE_CTRL State.stepcalReq)

/-- 1/R_c normalised to R_0 in the DDC_CORR format: 1.0 at code 0. A code without a response has no stated factor: a free value. -/
def stepFactor (r : List (Int × Int)) (c pol : Nat) : Word :=
  let r0 := (r[pol]?).getD (0, 0)
  let rc := (r[2 * c + pol]?).getD (0, 0)
  let d := rc.1 * rc.1 + rc.2 * rc.2
  if c = 0 then 0x4000
  else if d = 0 then Config.noFactor c pol
  else
    let part (x : Int) : Nat := unsigned 16 (satInt 16 (roundDiv (16384 * x) d.toNat))
    w32 (part (r0.1 * rc.1 + r0.2 * rc.2) + 65536 * part (r0.2 * rc.1 - r0.1 * rc.2))

/-- STEPCAL_DONE: the factors of the measured responses (in one unit; X and Y of codes 0 to 7 in turn) go to FAFE_STEPCAL, with FAST_AFE
in RUN (R143, R148). -/
def execStepcalDone (responses : List (Int × Int)) (s : State) : Host.Outcome State Fault Refusal :=
  .next (if !s.afe.stepcal || !s.domOn 6 then s
    else
      let s1 := (List.range 8).foldl (fun a c =>
        (a.setReg (R.FAFE_STEPCALc_X c) (stepFactor responses c 0)).setReg (R.FAFE_STEPCALc_Y c) (stepFactor responses c 1)) s
      let s2 : State := { s1 with afe := { s1.afe with stepcal := false } }
      ((s2.setFld F.FAFE_STATUS.STEPCAL_VALID 1).show .fafe 0 0).raise .fafe F.FAFE_IRQ_STATUS.STEPCAL_DONE)

/-- FAFE_COUNT_CLR. -/
def execFafeCountClr (src : Src) (s : State) : Host.Outcome State Fault Refusal :=
  .next (s.onUnit (.reg src) .fafe R.FAFE_CTRL State.fafeCountClr)

/-- MAFE_COUNT_CLR. -/
def execMafeCountClr (src : Src) (s : State) : Host.Outcome State Fault Refusal :=
  .next (s.onUnit (.reg src) .mafe R.MAFE_CTRL State.mafeCountClr)

/-- FAFE_FAULT_CLR. -/
def execFafeFaultClr (src : Src) (s : State) : Host.Outcome State Fault Refusal :=
  .next (s.onUnit (.reg src) .fafe R.FAFE_CTRL State.fafeFaultClr)

/-- MAFE_FAULT_CLR. -/
def execMafeFaultClr (src : Src) (s : State) : Host.Outcome State Fault Refusal :=
  .next (s.onUnit (.reg src) .mafe R.MAFE_CTRL State.mafeFaultClr)

end Sys2Proof.Machine
end

