-- ==== Sys2Proof/Machine/Cal.lean ====
section
/-! DEFINITION. Calibration records: header, entries, the checks of a submission and the forming of a new record
(20 R502-R504). -/

namespace Sys2Proof.Machine

/-- An entry: KIND, INDEX, LENGTH and content without padding. -/
structure CalEntry where
  kind : Nat
  index : Nat
  length : Nat
  content : Bytes
  deriving DecidableEq, Repr

/-- Entries of a byte string, `k` at most. -/
def walkEntries : Nat → Bytes → List CalEntry
  | 0, _ => []
  | k + 1, bs =>
    if bs.length < 8 then []
    else
      let len := field bs 4 4
      ⟨field bs 0 1, field bs 1 1, len, (bs.drop 8).take len⟩ :: walkEntries k (bs.drop (8 + 8 * ((len + 7) / 8)))

/-- Entries of a record: what follows its 64-byte header. -/
def recEntries (r : Bytes) : List CalEntry := walkEntries (field r 0x1C 2) (r.drop 64)

/-- An entry as bytes, padded to a multiple of 8 (R502). -/
def CalEntry.bytes (e : CalEntry) : Bytes :=
  leBytes 1 e.kind ++ leBytes 1 e.index ++ [0, 0] ++ leBytes 4 e.length ++ fitBytes (8 * ((e.length + 7) / 8)) e.content

/-- The first entry of a kind and index in a record; its content. -/
def recEntry (r : Bytes) (kind index : Nat) : Option Bytes :=
  ((recEntries r).find? (fun e => e.kind = kind ∧ e.index = index)).map (·.content)

/-- A binary64 code is a NaN (R503: the constant is absent). -/
def isNaN64 (n : Nat) : Bool := n / 2 ^ 52 % 2048 == 2047 && n % 2 ^ 52 != 0

/-- Double `i` of an entry's content. -/
def dbl (c : Bytes) (i : Nat) : Nat := field c (8 * i) 8

/-- The LENGTH and INDEX a kind allows (Table 20-4). -/
def entryOk (e : CalEntry) : Bool :=
  match e.kind with
  | 0x01 => e.index == 0 && e.length == 96
  | 0x02 => e.index == 0 && (let n := field e.content 40 4; decide (1 ≤ n) && decide (n ≤ 16) && e.length == 48 + 24 * n)
  | 0x03 => decide (e.index ≤ 15) && e.length == 268
  | 0x04 => e.index == 0 && e.length == 16
  | 0x05 => decide (e.index ≤ 7) && e.length == 16
  | 0x06 => e.length == 64
  | 0x07 => decide (8 ≤ e.length) && decide (e.length ≤ 1024)
  | _ => false

/-- Index of the first entry of a submission that R504 refuses: a kind, length or index out of range, a duplicate, or
a host TEMPLATE whose SOURCE is not LOADED. -/
def badEntry (host : Bool) : Nat → List (Nat × Nat) → List CalEntry → Option Nat
  | _, _, [] => none
  | i, seen, e :: es =>
    if !entryOk e || e.content.length != e.length || seen.contains (e.kind, e.index)
        || (host && e.kind == 3 && field e.content 0 1 != 2) then some i
    else badEntry host (i + 1) ((e.kind, e.index) :: seen) es

/-- The entries of a new record: the head's without NOTEs, each submitted entry replacing its like (R504). -/
def mergeEntries (base submitted : List CalEntry) : List CalEntry :=
  submitted.foldl (fun out e => out.filter (fun x => !(x.kind == e.kind && x.index == e.index)) ++ [e])
    (base.filter (·.kind ≠ 7))

/-- REC_CRC of a record: over bytes 0x00 to 0x3B and every entry (Table 20-3). -/
def recCrc (r : Bytes) : Nat := (crc32c (r.take 0x3C ++ r.drop 64)).toNat

/-- A record formed from a head (empty without one) and its new entries (R504, Table 20-3). -/
def formRecord (head : Bytes) (entries : List CalEntry) (serial run origin frame ns lock : Nat) : Bytes :=
  let body := entries.flatMap CalEntry.bytes
  let prev := if head.isEmpty then 0 else field head 8 4
  let h := leBytes 4 0x4C434C41 ++ leBytes 4 (64 + body.length) ++ leBytes 4 (prev + 1) ++ leBytes 4 prev
    ++ leBytes 4 (if head.isEmpty then 0 else field head 0x3C 4) ++ leBytes 4 serial ++ leBytes 4 run ++ leBytes 2 entries.length
    ++ leBytes 1 origin ++ [0] ++ leBytes 8 (frame % 2 ^ 48) ++ leBytes 8 ns ++ leBytes 1 lock ++ zeros 11
  h ++ leBytes 4 (crc32c (h ++ body)).toNat ++ body

end Sys2Proof.Machine
end

