-- ==== Sys2Proof/Machine/Ttu.lean ====
section
/-! DEFINITION. The Transit time base: the time scale, its references, discipline and lock states, sets and steps
(14 R388-R398). Stamps are monotonic counts of 1/512 ns; the time scale is formed in 1/2560 ns, so that a fast
sample is 2,048 of them and a stamp unit 5. -/

namespace Sys2Proof.Machine

/-- Time-base states and TTU codes (14 Tables 14-1, 14-4). -/
abbrev Lock.free : Nat := 0
abbrev Lock.acquiring : Nat := 1
abbrev Lock.freqLock : Nat := 2
abbrev Lock.timeLock : Nat := 3
abbrev Lock.ppsLock : Nat := 4
abbrev Lock.holdover : Nat := 5
abbrev TtuCode.badConfig : Nat := 1
abbrev TtuCode.refLost : Nat := 2
abbrev TtuCode.ppsLost : Nat := 3
abbrev TtuCode.holdLimit : Nat := 4
abbrev TtuCode.stepped : Nat := 5
abbrev TtuCode.queueDrop : Nat := 6
abbrev TtuCode.stuck : Nat := 7
abbrev TtuCode.overrange : Nat := 8
abbrev TtuCode.underres : Nat := 9
abbrev TtuCode.order : Nat := 10
abbrev TtuCode.expired : Nat := 11
abbrev TtuCode.calFail : Nat := 12

/-! ### The time scale (R389, R390) -/

/-- The time scale at a monotonic instant in 1/2560 ns, in 1/2560 ns. -/
def State.scaleAt (s : State) (ticks : Nat) : Int :=
  (ticks : Int) + (if ticks < 2048 * s.ttu.stepAt then s.ttu.oldOffset else s.ttu.offset)

/-- Integer nanoseconds (64 bits) and the fraction in 1/512 ns, rounded down. -/
def scaleNs (z : Int) : Nat := (z / 2560).toNat % 2 ^ 64
def scaleFrac (z : Int) : Nat := (z % 2560).toNat / 5

/-- The time scale now, in nanoseconds. -/
def State.timeNs (s : State) : Nat := scaleNs (s.scaleAt (2048 * s.now))

/-- A read of TTU_NOW_LO latches the time scale (R390). -/
def State.latchNow (s : State) : State :=
  let z := s.scaleAt (2048 * s.now)
  ((s.setReg R.TTU_NOW_LO (w32 (scaleNs z))).setReg R.TTU_NOW_HI (w32 (scaleNs z / 2 ^ 32))).setReg R.TTU_NOW_FRAC (w32 (scaleFrac z))

/-- The time scale takes a new offset from a fast sample on: a step or set (R394, R397). -/
def State.stepScale (s : State) (offset : Int) (sample : Nat) : State :=
  let g : TtuSt := { s.ttu with offset := offset, oldOffset := s.ttu.offset, stepAt := sample, stepped := true
                                chans := s.ttu.chans.map (fun c => { c with stepped := true }) }
  ((({ s with ttu := g }).count F.TTU_STEP_COUNT.COUNT 1).post .ttu TtuCode.stepped 0).raise .ttu F.TTU_IRQ_STATUS.STEPPED

/-- The latest step or set is in force at a monotonic instant in 1/2560 ns (R394). -/
def State.stepIn (s : State) (ticks : Nat) : Bool := decide (2048 * s.ttu.stepAt ≤ ticks)

/-- The first fast sample at or after a stamp, as a stamp in whole samples of 2,048/5 units, rounded up. -/
def sampleAfter (stamp : Nat) : Nat := (5 * stamp + 2047) / 2048

/-- A fast sample as the first stamp that is not before it. -/
def sampleStamp (n : Nat) : Nat := (2048 * n + 4) / 5

/-! ### Lock states (R391-R395) -/

/-- STATE of the lock byte (Table 14-1). -/
def State.lock (s : State) : Nat := s.fld F.TTU_STATUS.LOCK_STATE % 8

/-- A bit of the lock byte is set or cleared. -/
def State.lockBit (s : State) (i : Nat) (b : Bool) : State :=
  s.setFld ⟨R.TTU_STATUS, i, i⟩ (if b then 1 else 0)

/-- REFCLK and the PPS are qualified. -/
def State.refOk (s : State) : Bool := s.flag F.TTU_STATUS.REF_OK
def State.ppsOk (s : State) : Bool := s.flag F.TTU_STATUS.PPS_OK

/-- Mean of a list of integers; 0 for an empty one. -/
def meanInt (l : List Int) : Int := if l.isEmpty then 0 else l.foldl (· + ·) 0 / l.length

/-- The steering in force: TTU_FREQ_OFFSET as written last, moved on to the goal by 0.01 ppm per ms (R388). -/
def State.steerNow (s : State) : Int :=
  let v := signed 32 (s.reg R.TTU_FREQ_OFFSET).toNat
  let d : Int := 10000 * (s.now - s.ttu.steerAt) / 1250000
  max (v - d) (min (v + d) s.ttu.steerGoal)

/-- The steering goes to a value within 100 ppm (R388). -/
def State.steerTo (s : State) (v : Int) : State :=
  let s1 := s.setReg R.TTU_FREQ_OFFSET (w32 (unsigned 32 s.steerNow))
  { s1 with ttu := { s1.ttu with steerGoal := max (-100000000) (min 100000000 v), steerAt := s.now } }

/-- The steering held in HOLDOVER: the mean of the latest AVG_S locked seconds, and before the first of them the steering in
force (R395). -/
def State.heldSteer (s : State) : Int :=
  if s.ttu.lockedSecs.isEmpty then s.steerNow else meanInt (s.ttu.lockedSecs.take (s.fld F.TTU_HOLD_CFG.AVG_S))

/-- A locked state. -/
def Lock.locked (st : Nat) : Bool := st == Lock.freqLock || st == Lock.timeLock || st == Lock.ppsLock

/-- The time base enters a state (Table 14-2): every change raises LOCK_CHANGE, and entry to or exit from
HOLDOVER keeps or releases the held steering. -/
def State.setLock (s : State) (st : Nat) : State :=
  if st = s.lock then s
  else
    let s1 := s.setFld ⟨R.TTU_STATUS, 2, 0⟩ st
    let s2 := if st = Lock.holdover then
        let a := s1.steerTo s1.heldSteer
        { a with ttu := { a.ttu with holdSince := some a.now } }
      else
        let a := s1.lockBit 5 false
        let b : State := { a with ttu := { a.ttu with holdSince := none } }
        if st = Lock.free then b.steerTo b.trim else b
    s2.raise .ttu F.TTU_IRQ_STATUS.LOCK_CHANGE

/-- HOLDOVER where a held frequency exists, else FREE. -/
def State.unlocked (s : State) : Nat := if s.ttu.lockedSecs.isEmpty then Lock.free else Lock.holdover

/-- Entry to HOLDOVER or FREE, with the code of the loss when it comes from a locked state (R393). -/
def State.loseLock (s : State) (st code : Nat) (irq : Fld) : State :=
  let s1 := s.setLock st
  if Lock.locked s.lock then (s1.post .ttu code 0).raise .ttu irq else s1

/-- REFCLK qualifies. -/
def State.refQualify (s : State) : State :=
  let s1 := s.setFlag F.TTU_STATUS.REF_OK true
  if s.lock = Lock.free ∨ s.lock = Lock.holdover then s1.setLock Lock.acquiring else s1

/-- REFCLK is lost (Table 14-2). -/
def State.refLose (s : State) : State :=
  let s1 : State := { s with ttu := { s.ttu with refRun := 0, goodSecs := 0, winSum := 0, winCount := 0 } }
  let s2 := s1.setFlag F.TTU_STATUS.REF_OK false
  let lose (st : Nat) := s2.loseLock st TtuCode.refLost F.TTU_IRQ_STATUS.REF_LOST
  if !s.refOk then s1
  else if s.lock = Lock.acquiring then (if s.ppsOk then s2 else lose s.unlocked)
  else if s.lock = Lock.freqLock then (if s.ppsOk then s2.setLock Lock.acquiring else lose Lock.holdover)
  else if s.lock = Lock.timeLock then s2.setLock Lock.ppsLock
  else s2

/-- The PPS qualifies. -/
def State.ppsQualify (s : State) : State :=
  let s1 := s.setFlag F.TTU_STATUS.PPS_OK true
  if s.lock = Lock.free ∨ s.lock = Lock.holdover then s1.setLock Lock.acquiring else s1

/-- The PPS is lost (Table 14-2). -/
def State.ppsLose (s : State) : State :=
  let s1 : State := { s with ttu := { s.ttu with ppsLast := none, ppsRun := 0, ppsGood := 0, ppsBad := 0, slew := 0 } }
  let s2 := s1.setFlag F.TTU_STATUS.PPS_OK false
  let lose (st : Nat) := s2.loseLock st TtuCode.ppsLost F.TTU_IRQ_STATUS.PPS_LOST
  if !s.ppsOk then s1
  else if s.lock = Lock.acquiring then (if s.refOk then s2 else lose s.unlocked)
  else if s.lock = Lock.timeLock then s2.setLock Lock.freqLock
  else if s.lock = Lock.ppsLock then lose Lock.holdover
  else s2

/-- The lock criteria are applied (R392, Table 14-2). -/
def State.lockCheck (s : State) : State :=
  let f := s.refOk && decide (s.ttu.goodSecs ≥ 2)
  let p := s.ppsOk && decide (s.ttu.ppsGood ≥ 4)
  if s.lock = Lock.acquiring then
    if f && p then s.setLock Lock.timeLock
    else if f then s.setLock Lock.freqLock
    else if p && !s.refOk then s.setLock Lock.ppsLock
    else s
  else if s.lock = Lock.freqLock then (if p then s.setLock Lock.timeLock else s)
  else if s.lock = Lock.ppsLock then (if f then s.setLock Lock.timeLock else s)
  else s

/-- Lock is broken. -/
def State.lockBreak (s : State) : State := if Lock.locked s.lock then s.setLock Lock.acquiring else s

/-- A second of REFCLK windows ends: its mean error meets or breaks the frequency criterion, and its mean steering
is kept while locked (R392, R395, R396). -/
def State.endSecond (s : State) : State :=
  let mean := s.ttu.winSum / 1000
  let steer := s.ttu.steerSum / 1000
  let locked := Lock.locked s.lock
  let g : TtuSt := { s.ttu with winSum := 0, winCount := 0, steerSum := 0
                                goodSecs := if mean.natAbs ≤ 10000 then min 2 (s.ttu.goodSecs + 1) else 0
                                lockedSecs := if locked then (steer :: s.ttu.lockedSecs).take 65535 else s.ttu.lockedSecs
                                oscSecs := if s.lock = Lock.freqLock ∨ s.lock = Lock.timeLock then s.ttu.oscSecs + 1 else s.ttu.oscSecs }
  let s1 : State := { s with ttu := g }
  let s2 := if s.lock = Lock.freqLock ∨ s.lock = Lock.timeLock then
      (s1.setReg R.TTU_OSC_OFFSET (w32 (unsigned 32 (-(meanInt (g.lockedSecs.take 1000)))))).setFlag F.TTU_STATUS.OSC_VALID true
    else s1
  if mean.natAbs > 100000 ∧ (s.lock = Lock.freqLock ∨ s.lock = Lock.timeLock) then s2.lockBreak else s2.lockCheck

/-- The error of a REFCLK frequency in uHz against its nominal value, in 1e-12 (R391). -/
def State.refError (s : State) (freq : Nat) : Int :=
  let nominal : Int := if s.flag F.TTU_REF_CFG.REF_FREQ then 10 ^ 14 else 10 ^ 13
  ((freq : Int) - nominal) * 10 ^ 12 / nominal

/-- REFCLK_WINDOW: a 1 ms window closes with REFCLK's frequency against the range clock in uHz, and the steering that the loop
takes from it in 1e-12 (R391, R392). -/
def execRefclkWindow (freq : Nat) (steer : Int) (t : Nat) (s : State) : Host.Outcome State Fault Refusal :=
  let s0 := s.at_ t
  let err := s0.refError freq
  .next (if !s0.flag F.TTU_REF_CFG.REF_EN then s0
    else if err.natAbs > 100000000 then s0.refLose
    else
      let s1 : State := { s0 with ttu := { s0.ttu with refRun := min 16 (s0.ttu.refRun + 1) } }
      let s2 := if s1.ttu.refRun ≥ 16 ∧ !s1.refOk then s1.refQualify else s1
      if !s2.refOk then s2
      else
        let s3 := s2.steerTo (steer + s2.ttu.slew)
        let now := signed 32 (s3.reg R.TTU_FREQ_OFFSET).toNat
        let g : TtuSt := { s3.ttu with winSum := s3.ttu.winSum + err, winCount := s3.ttu.winCount + 1, steerSum := s3.ttu.steerSum + now }
        let s4 : State := { s3 with ttu := g }
        if g.winCount ≥ 1000 then s4.endSecond else s4)

/-- REFCLK_TIMEOUT: no REFCLK edge for 1 us (R391). -/
def execRefclkTimeout (t : Nat) (s : State) : Host.Outcome State Fault Refusal := .next ((s.at_ t).refLose)

/-! ### PPS (R391, R392, R394) -/

/-- One second and the acceptance window in stamps of 1/512 ns. -/
abbrev ppsSecond : Nat := 512000000000
abbrev ppsWindow : Nat := 51200000

/-- The phase error of an edge, in 1/512 ns: the time scale's distance from its nearest whole second, in
(-0.5 s, +0.5 s] (R392). -/
def State.phaseError (s : State) (stamp : Nat) : Int :=
  let r := (s.scaleAt (5 * stamp)) / 5 % (ppsSecond : Int)
  if 2 * r > (ppsSecond : Int) then r - ppsSecond else r

/-- An accepted edge with the PPS qualified corrects the time scale (R394). -/
def State.ppsCorrect (s : State) (stamp : Nat) (e : Int) : State :=
  if e.natAbs > 512000 * s.fld F.TTU_REF_CFG.STEP_LIMIT then
    let s1 := s.stepScale (s.ttu.offset - 5 * e) (sampleAfter stamp)
    { s1 with ttu := { s1.ttu with slew := 0 } }
  else { s with ttu := { s.ttu with slew := max (-1000000) (min 1000000 (-(e * 1000) / 512)) } }

/-- A pending SET_AT_PPS takes the edge (R397). -/
def State.ppsSet (s : State) (stamp : Nat) : State :=
  let s1 := s.setFlag F.TTU_STATUS.SET_PENDING false
  let v : Int := 2560 * ((s.reg64 R.TTU_SET_LO R.TTU_SET_HI : Nat) : Int)
  (s1.stepScale (v - 5 * stamp) (sampleAfter stamp)).lockBit 3 true

/-- An edge is accepted. One that a pending set makes a whole second has no phase error. -/
def State.ppsAccept (s : State) (stamp : Nat) (steer : Int) : State :=
  let run := min 4 (s.ttu.ppsRun + 1)
  let s1 : State := { s with ttu := { s.ttu with ppsLast := some stamp, ppsRun := run } }
  let set := s1.flag F.TTU_STATUS.SET_PENDING
  let s2 := if set then s1.ppsSet stamp else s1
  let e := if set then 0 else s2.phaseError stamp
  let s3 := s2.setReg R.TTU_PHASE_ERR (w32 (unsigned 32 (satInt 32 e)))
  let s4 := if run ≥ 4 ∧ !s3.ppsOk then s3.ppsQualify else s3
  let good := if e.natAbs ≤ 20 * 512 then min 4 (s4.ttu.ppsGood + 1) else 0
  let bad := if e.natAbs > 100 * 512 then min 3 (s4.ttu.ppsBad + 1) else 0
  let s5 : State := { s4 with ttu := { s4.ttu with ppsGood := good, ppsBad := bad } }
  if !s5.ppsOk then s5
  else
    let s6 := s5.ppsCorrect stamp e
    let s7 := if s6.refOk then s6 else s6.steerTo (steer + s6.ttu.slew)
    let s8 := if s7.lock = Lock.ppsLock then
        { s7 with ttu := { s7.ttu with lockedSecs := (signed 32 (s7.reg R.TTU_FREQ_OFFSET).toNat :: s7.ttu.lockedSecs).take 65535 } }
      else s7
    if bad ≥ 3 ∧ (s8.lock = Lock.timeLock ∨ s8.lock = Lock.ppsLock) then s8.lockBreak else s8.lockCheck

/-- PPS_IN_EDGE: an edge of the direction that PPS_EDGE selects is stamped; it is accepted or rejected (R391, R394). -/
def execPpsInEdge (stamp : Nat) (falling : Bool) (steer : Int) (s : State) : Host.Outcome State Fault Refusal :=
  let s0 := s.at_ (5 * stamp / 2048)
  .next (if !s0.flag F.TTU_REF_CFG.PPS_EN || falling != s0.flag F.TTU_REF_CFG.PPS_EDGE then s0
    else match s0.ttu.ppsLast with
    | none => s0.ppsAccept stamp steer
    | some p =>
      if p + ppsSecond - ppsWindow ≤ stamp ∧ stamp ≤ p + ppsSecond + ppsWindow then s0.ppsAccept stamp steer
      else
        let s1 : State := { s0 with ttu := { s0.ttu with ppsRun := 0 } }
        s1.count F.TTU_PPS_REJECT.COUNT 1)

/-- PPS_MISSING: three expected edges have passed without an accepted one (R391). -/
def execPpsMissing (t : Nat) (s : State) : Host.Outcome State Fault Refusal :=
  let s0 := s.at_ t
  .next (match s0.ttu.ppsLast with
    | none => s0
    | some p => if 5 * (p + 3 * ppsSecond + ppsWindow) ≤ 2048 * t then s0.ppsLose else s0)

/-- HOLD_LIMIT: holdover has lasted LIMIT minutes (R395). -/
def execHoldLimit (t : Nat) (s : State) : Host.Outcome State Fault Refusal :=
  let s0 := s.at_ t
  .next (match s0.ttu.holdSince with
    | none => s0
    | some a =>
      if a + 60 * 1250000000 * s0.fld F.TTU_HOLD_CFG.LIMIT ≤ t then
        ((s0.lockBit 5 true).post .ttu TtuCode.holdLimit 0).raise .ttu F.TTU_IRQ_STATUS.HOLD_LIMIT
      else s0)

/-- Fast sample `t` is the first at or after a whole second of the time scale: a step that skips one leaves none (R398). -/
def State.secondAt (s : State) (t : Nat) : Bool := decide (s.scaleAt (2048 * t) % 2560000000000 < 2048)

/-- PPS_OUT_PULSE: at the first fast sample at or after a whole second of the time scale, PPS_OUT goes active for
WIDTH x 10 us (R398). -/
def execPpsOutPulse (t : Nat) (s : State) : Host.Outcome State Fault Refusal :=
  let s0 := s.at_ t
  .next (if s0.flag F.TTU_PPS_CFG.OUT_EN && s0.secondAt t then
      { s0 with ttu := { s0.ttu with ppsOut := some (t + 12500 * s0.fld F.TTU_PPS_CFG.WIDTH) } }
    else s0)

/-- PPS_OUT is active at an instant; its level follows OUT_POL (Table 14-7). -/
def State.ppsOutAt (s : State) (t : Nat) : Bool :=
  s.flag F.TTU_PPS_CFG.OUT_EN && (match s.ttu.ppsOut with | some e => decide (t < e) | none => false)
def State.ppsOutHigh (s : State) (t : Nat) : Bool := s.ppsOutAt t != s.flag F.TTU_PPS_CFG.OUT_POL

/-- References that TTU_REF_CFG no longer enables are lost (R391). -/
def State.refsWritten (s : State) : State :=
  let s1 := if s.flag F.TTU_REF_CFG.REF_EN then s else s.refLose
  if s1.flag F.TTU_REF_CFG.PPS_EN then s1 else s1.ppsLose

/-! ### Sets (R397) -/

/-- TIME_SET messages write their NS value to TTU_SET first; each row takes its own MODE. -/
def State.timeSet (s : State) (via : Via) (mode : Nat) (act : State → State) : State :=
  s.withRequest via [0x0303] (fun s =>
    match via with
    | .reg _ => act s
    | .msg _ _ =>
      if field (s.payload via) 0 1 ≠ mode then s
      else act (if mode = 2 then s else s.setReg64 R.TTU_SET_LO R.TTU_SET_HI (field (s.payload via) 8 8)))

/-- SET_NOW: the time scale takes TTU_SET at the first sample after the request. -/
def State.setNow (s : State) (via : Via) : State :=
  let v : Int := 2560 * ((s.reg64 R.TTU_SET_LO R.TTU_SET_HI : Nat) : Int)
  let s1 := (s.setFlag F.TTU_STATUS.SET_PENDING false).stepScale (v - 2048 * ((s.now : Int) + 1)) (s.now + 1)
  (s1.lockBit 3 true).reply via .ttu 0 0

/-- SET_AT_PPS: pending until the next accepted edge; the value must be whole seconds. -/
def State.setAtPps (s : State) (via : Via) : State :=
  if s.reg64 R.TTU_SET_LO R.TTU_SET_HI % 1000000000 ≠ 0 then s.finish via .ttu TtuCode.badConfig 5
  else (s.setFlag F.TTU_STATUS.SET_PENDING true).finish via .ttu 0 0

/-- CANCEL_SET. -/
def State.cancelSet (s : State) (via : Via) : State := (s.setFlag F.TTU_STATUS.SET_PENDING false).finish via .ttu 0 0

/-- SET_NOW. -/
def execSetNow (via : Via) (s : State) : Host.Outcome State Fault Refusal :=
  .next (s.timeSet via 0 (fun s => s.setNow via))

/-- SET_AT_PPS. -/
def execSetAtPps (via : Via) (s : State) : Host.Outcome State Fault Refusal :=
  .next (s.timeSet via 1 (fun s => s.setAtPps via))

/-- CANCEL_SET. -/
def execCancelSet (via : Via) (s : State) : Host.Outcome State Fault Refusal :=
  .next (s.timeSet via 2 (fun s => s.cancelSet via))

/-- TTU_CTRL.COUNT_CLR: every TTU count register clears (Table 14-6). -/
def State.ttuCountClr (s : State) : State :=
  let s1 := (s.setReg R.TTU_PPS_REJECT 0).setReg R.TTU_STEP_COUNT 0
  let s2 := (List.range 8).foldl (fun a c => (((a.setReg (R.TTU_CHc_DROP_COUNT c) 0).setReg (R.TTU_CHc_HOLDOFF_COUNT c) 0).setReg
    (R.TTU_CHc_STAMP_COUNT c) 0).setReg (R.TTU_CHc_EVENT_COUNT c) 0) s1
  (List.range 4).foldl (fun a u => (a.setFld (F.TTU_IUu_STATUS.DROP u) 0).setReg (R.TTU_IUu_EXPIRED u) 0) s2

/-- TTU_COUNT_CLR. -/
def execTtuCountClr (_src : Src) (s : State) : Host.Outcome State Fault Refusal := .next s.ttuCountClr

/-- TTU_NOW_READ (R390). -/
def execTtuNowRead (_src : Src) (s : State) : Host.Outcome State Fault Refusal :=
  .next (s.latchNow.give (.readData R.TTU_NOW_LO (s.latchNow.reg R.TTU_NOW_LO).toNat))

end Sys2Proof.Machine
end

