-- ==== Sys2Proof/Machine/Hist.lean ====
section
/-! DEFINITION. Almanac history entries as every unit submits them (20 R509, R510). -/

namespace Sys2Proof.Machine

/-- KINDs of history entries (20 R509). -/
abbrev Hist.runStart : Nat := 1
abbrev Hist.epochApplied : Nat := 2
abbrev Hist.derate : Nat := 3
abbrev Hist.degraded : Nat := 4
abbrev Hist.dmcFreeze : Nat := 5
abbrev Hist.recordStatus : Nat := 6
abbrev Hist.cascadeCommit : Nat := 7
abbrev Hist.cascadeMember : Nat := 8
abbrev Hist.indicator : Nat := 9

/-- Entries the buffer holds (R510). -/
abbrev histTop : Nat := 512

/-- A 48-byte history entry formed now. -/
def State.histEntry (s : State) (kind source code : Nat) (data : Bytes) : Bytes :=
  leBytes 1 kind ++ leBytes 1 source ++ leBytes 2 code ++ leBytes 4 (s.reg R.ALM_RUN).toNat ++ leBytes 8 (s.frame % 2 ^ 48)
    ++ leBytes 8 s.timeNs ++ fitBytes 24 data

/-- FILL follows the buffer. -/
def State.histFill (s : State) : State := s.setFld F.ALM_HIST_STAT.FILL s.alm.buf.length

/-- A lost entry is counted and raises HIST_LOST. -/
def State.histLost (s : State) : State :=
  ((s.count F.ALM_HIST_STAT.LOST 1).post .alm 0x0A 0).raise .alm F.ALM_IRQ_STATUS.HIST_LOST

/-- An entry enters the buffer: a full one loses its oldest INDICATOR entry, or the new entry (R510). -/
def State.histPut (s : State) (e : Bytes) : State :=
  let s1 := if s.alm.buf.length < histTop then { s with alm := { s.alm with buf := s.alm.buf ++ [e] } }
    else match s.alm.buf.find? (fun x => field x 0 1 = Hist.indicator) with
      | some old => ({ s with alm := { s.alm with buf := s.alm.buf.erase old ++ [e] } }).histLost
      | none => s.histLost
  s1.histFill

/-- A unit's event enters the history; the first pending event starts the submission time (R510). -/
def State.almEvent (s : State) (kind source code : Nat) (data : Bytes) : State :=
  let s1 := s.histPut (s.histEntry kind source code data)
  if s1.alm.firstEvent.isSome then s1 else { s1 with alm := { s1.alm with firstEvent := some s1.now } }

end Sys2Proof.Machine
end

