-- ==== Sys2Proof/Machine/Ddc.lean ====
section
/-! DEFINITION. The digital down-converter: the tone streams with their marks, and the step bins (04 R134, R139, R144, R145). -/

namespace Sys2Proof.Machine

/-- The phase accumulator `n` fast samples after it was set to 0, in 2^-32 turns: 2 x DDC_TONEk_NCO a sample (R144). -/
def ncoPhase (nco : Word) (n : Nat) : Nat := 2 * nco.toNat * n % 2 ^ 32

/-- exp(-j 2 pi phase / 2^32). -/
def ncoRotor (phase : Nat) : Cx := Cx.cis (-(2.0 * fPi * fNat phase / 4294967296.0))

/-- Taps of the filter for K tones (Table 4-4). -/
def ddcTaps (k : Nat) : Nat := if k ≤ 1 then 95 else 639

/-- Passband and stopband edge in MHz (Table 4-4). -/
def ddcEdges (k : Nat) : Float × Float :=
  if k ≤ 1 then (500.0, 575.0) else if k = 2 then (225.0, 235.0) else if k = 4 then (110.0, 120.0) else if k = 8 then (55.0, 65.0)
  else (25.0, 35.0)

/-- Gain at a frequency in MHz of a linear-phase filter with the taps of Table 4-4. -/
def ddcGain (k : Nat) (h : Nat → Float) (f : Float) : Float :=
  fSum (ddcTaps k) (fun i => h i * (2.0 * fPi * f / 1250.0 * (fNat i - fNat (ddcTaps k / 2))).cos)

/-- A filter has the response of Table 4-4, on a grid of 8,192 frequencies: gain 1 at 0 Hz, within 0.05 dB of it up to the passband edge,
and at most -80 dB from the stopband edge on. -/
def ddcMeets (k : Nat) (h : Nat → Float) : Bool :=
  (ddcGain k h 0.0 - 1.0).abs ≤ 1.0e-9 && (List.range 8193).all (fun n =>
    let f := 625.0 * fNat n / 8192.0
    let g := (ddcGain k h f).abs
    (f > (ddcEdges k).1 || (0.99426 ≤ g && g ≤ 1.00577)) && (f < (ddcEdges k).2 || g ≤ 1.0e-4))

/-- A windowed sinc that meets Table 4-4: cut off midway between the edges, Kaiser window of beta 8, unit gain at 0 Hz. -/
def ddcSinc (k : Nat) : Nat → Float :=
  let m := fNat (ddcTaps k / 2)
  let fc := ((ddcEdges k).1 + (ddcEdges k).2) / 1250.0
  let h (i : Nat) : Float :=
    let x := fNat i - m
    let r := 1.0 - (x / m) * (x / m)
    (if x == 0.0 then fc else (fPi * fc * x).sin / (fPi * x)) * bessel0 (8.0 * (if r < 0.0 then 0.0 else r).sqrt)
  let e := fSum (ddcTaps k) h
  fun i => h i / e

/-- Tap `i`. Table 4-4 bounds the response and prints no taps: the taps are free among the filters that meet it, symmetric about their
middle (DESIGN CHOICE, log 187: a constant that does not meet it stands for the windowed sinc). -/
def ddcCoef (k i : Nat) : Float :=
  let h (j : Nat) : Float := Config.ddcTap k (min j (ddcTaps k - 1 - j))
  if ddcMeets k h then h i else ddcSinc k i

/-- A part of a tone-stream sample: 24 bits in units of 1/16 code-0 LSB (R145); its rounding is open within one unit (log entry 156). -/
def streamPart (x : Float) (dev : Int) : Int := satInt 24 (fRound x + max (-1) (min 1 dev))

/-- Sample `j` of a filtered and decimated stream from the mixed samples by index from the tone's launch instant (R145). -/
def ddcOut (k j : Nat) (mixed : Int → Cx) : Cx :=
  Cx.sum (ddcTaps k) (fun i => Cx.scale (ddcCoef k i) (mixed ((k * j : Nat) + (ddcTaps k / 2 : Nat) - (i : Nat))))

/-- The fast sample of an instant, where it has been taken. -/
def State.fastAt (s : State) (u : Nat) : Option FastSample :=
  match s.afe.fast.find? (fun g => decide (g.1 ≤ u) && decide (u < g.1 + g.2.length)) with
  | some g => g.2[u - g.1]?
  | none => none

/-- A stream's corrected samples: 0 polarisation X, 1 Y, 2 the monitor tap of a measuring frame (05 R158). -/
def FastSample.part (x : FastSample) (pol : Nat) : Int × Int := if pol = 0 then x.x else if pol = 1 then x.y else x.tap
def FastSample.satOf (x : FastSample) (pol : Nat) : Bool := if pol = 1 then x.sat.2 else x.sat.1
def FastSample.blankOf (x : FastSample) (pol : Nat) : Bool := if pol = 1 then x.blank.2 else x.blank.1

/-- The phase of tone `k`'s accumulator at an instant: set to 0 at the tone's latest launch instant, with the DDC_TONEk_NCO of that frame. -/
def State.tonePhase (s : State) (k u : Nat) : Nat :=
  match s.mrs.frames.find? (fun f => decide (k < f.cfg.k) && decide (f.toneAt k ≤ u)) with
  | some f => match f.cfg.tones[k]? with
    | some c => ncoPhase c.nco (u - f.toneAt k)
    | none => 0
  | none => 0

/-- A corrected sample multiplied by the tone's oscillator (R144); 0 where none was taken. -/
def State.mixed (s : State) (k pol : Nat) (u : Int) : Cx :=
  if u < 0 then (0.0, 0.0)
  else match s.fastAt u.toNat with
    | some x => Cx.mul (fInt (x.part pol).1, fInt (x.part pol).2) (ncoRotor (s.tonePhase k u.toNat))
    | none => (0.0, 0.0)

/-- Samples a tone delivers in a frame (R145). -/
def FrameRec.toneLen (f : FrameRec) : Nat := (2 * f.cfg.bins * f.cfg.pitch + f.cfg.len + 2 * f.cfg.k - 1) / (2 * f.cfg.k)

/-- Tone-stream sample `j` of tone `k` of a frame, centred on launch reference + k x S + j x K fast samples (R145). -/
def State.toneSample (s : State) (f : FrameRec) (k pol j : Nat) : Int × Int :=
  let z := ddcOut f.cfg.k j (fun i => s.mixed k pol ((f.toneAt k : Nat) + i))
  (streamPart z.1 (Config.ddcError k pol j 0), streamPart z.2 (Config.ddcError k pol j 1))

/-- The fast samples in the filter window of tone-stream sample `j`. -/
def State.toneWindow (s : State) (f : FrameRec) (k j : Nat) : List FastSample :=
  (List.range (ddcTaps f.cfg.k)).filterMap (fun i =>
    let u := f.toneAt k + f.cfg.k * j + i
    if ddcTaps f.cfg.k / 2 ≤ u then s.fastAt (u - ddcTaps f.cfg.k / 2) else none)

/-- SATURATED and BLANKED of a tone-stream sample (R139). -/
def State.toneMarks (s : State) (f : FrameRec) (k pol j : Nat) : Bool × Bool :=
  let l := s.toneWindow f k j
  (l.any (·.satOf pol), l.any (·.blankOf pol))

/-- The step bins of a tone in a frame: the bins of the steps that the PGA took, counted from the tone's launch instant (R134). -/
def State.stepBins (s : State) (f : FrameRec) (k : Nat) : List Nat :=
  ((s.afe.steps.filter (fun u => decide (f.toneAt k ≤ u))).map (fun u => (u - f.toneAt k) / f.cfg.pitch)).filter (fun b => decide (b < f.cfg.bins))

/-- STEP_ADJ of a bin for a tone: a step bin lies within 4 bins of it (R134). -/
def State.stepAdj (s : State) (f : FrameRec) (k b : Nat) : Bool := (s.stepBins f k).any (fun x => decide (x ≤ b + 4) && decide (b ≤ x + 4))

end Sys2Proof.Machine
end

