-- ==== Sys2Proof/Machine/Pulse.lean ====
section
/-! DEFINITION. Pulse compression: templates, correlation and the bin grid (05 R152-R157). -/

namespace Sys2Proof.Machine

/-! ### Templates (R153, R154) -/

/-- Taps of a template (R153). -/
def ToneTpl.taps (t : ToneTpl) : Nat := (t.len + 2 * t.k - 1) / (2 * t.k)

/-- Length of a template's transform (R154). -/
def ToneTpl.ff (t : ToneTpl) : Nat := pow2Above 16 1 (t.taps + 64)

/-- The PDAC codes of a chirp at the fast samples, every second PDAC sample (R97, R124): AMP 65,535, no IQ offset or gain correction. -/
def chirpCodes : Nat → Chirp → List (Int × Int)
  | 0, _ => []
  | n + 1, c =>
    let a := chirpSum [c]
    let step (d : Chirp) : Chirp := (d.next).getD d
    (satInt 14 (roundDiv (8191 * a.1) (2 ^ 33)), satInt 14 (roundDiv (8191 * a.2) (2 ^ 33))) :: chirpCodes n (step (step c))

/-- The samples of the ideal chirp at DDC output, j = 0 to N - 1 (R154). -/
def ToneTpl.ideal (t : ToneTpl) : List Cx :=
  let cfg : ToneCfg := { t.cfg with amp := 65535 }
  let n := (t.len + 1) / 2
  let codes := chirpCodes n ⟨0, 0, 0, t.len, cfg, w32 (cfg.phase0 * 65536), (cfg.fstart.signExtend 36) <<< 4, 0⟩
  let mixed (i : Int) : Cx :=
    if i < 0 then (0.0, 0.0)
    else match codes[i.toNat]? with
      | some c => Cx.mul (fInt (16 * c.1), fInt (16 * c.2)) (ncoRotor (ncoPhase t.cfg.nco i.toNat))
      | none => (0.0, 0.0)
  (List.range t.taps).map (fun j =>
    let z := ddcOut t.k j mixed
    (fInt (streamPart z.1 (Config.ddcError 16 3 j 0)), fInt (streamPart z.2 (Config.ddcError 16 3 j 1))))

/-- An element of a list of complex samples; 0 beyond its ends. -/
def cxAt (l : List Cx) (i : Nat) : Cx := (l[i]?).getD (0.0, 0.0)

/-- Chirp bandwidth in Hz: (LEN - 1) x |RATE| (03 R96). -/
def ToneTpl.bandwidth (t : ToneTpl) : Float :=
  fNat ((t.len - 1) * (signed 32 t.cfg.rate.toNat).natAbs) * 2.5e9 / 68719476736.0

/-- Frequency in Hz of transform bin `i` relative to the tone's baseband. -/
def ToneTpl.freq (t : ToneTpl) (i : Nat) : Float :=
  (if 2 * i < t.ff then fNat i else fNat i - fNat t.ff) * (1.25e9 / fNat t.k) / fNat t.ff

/-- A coefficient word as a complex number. -/
def coefCx (w : Word) : Cx := (fInt (signed 16 (bitsOf w 15 0)) / 16384.0, fInt (signed 16 (bitsOf w 31 16)) / 16384.0)

/-- The response at a frequency: 64 coefficients at the centres of 64 equal sub-bands of -B/2 to +B/2, linear in complex value between
centres, held beyond them (R154). DESIGN CHOICE (log 187): without bandwidth the centres coincide at 0 Hz. -/
def ToneTpl.response (t : ToneTpl) (f : Float) : Cx :=
  let c (q : Nat) : Cx := coefCx ((t.coefs[q]?).getD 0x4000)
  let x := if t.bandwidth == 0.0 then (if f == 0.0 then 31.5 else if f < 0.0 then 0.0 else 63.0) else (f / t.bandwidth + 0.5) * 64.0 - 0.5
  if x ≤ 0.0 then c 0
  else if x ≥ 63.0 then c 63
  else
    let q := x.floor.toUInt64.toNat
    Cx.add (c q) (Cx.scale (x - fNat q) (Cx.add (c (q + 1)) (Cx.scale (-1.0) (c q))))

/-- The template T_k: the ideal chirp through the response, at unit energy (R154); one without energy stays 0 (log 187). -/
def ToneTpl.template (t : ToneTpl) : List Cx :=
  let id_ := t.ideal
  let si := (List.range t.ff).map (dft t.ff (cxAt id_))
  let z := (List.range t.ff).map (fun i => Cx.mul (cxAt si i) (t.response (t.freq i)))
  let tpl := (List.range t.taps).map (fun j => Cx.scale (1.0 / fNat t.ff) (Cx.conj (dft t.ff (fun i => Cx.conj (cxAt z i)) j)))
  let e := tpl.foldl (fun a x => a + Cx.norm2 x) 0.0
  if e == 0.0 then tpl else tpl.map (Cx.scale (1.0 / e.sqrt))

/-- The template set that correlates a frame: the newest in force at its launch reference (R162). -/
def State.tplOf (s : State) (f : FrameRec) (k : Nat) : Option ToneTpl :=
  match s.pcx.banks.find? (fun b => decide (b.1 ≤ f.launch)) with
  | some b => b.2[k]?
  | none => none

/-! ### Correlation (R155) -/

/-- A tone-stream sample as the correlator takes it: 0 before the first and beyond the last (R155). DESIGN CHOICE: 0 before index 0 (log 183). -/
def State.streamIn (s : State) (f : FrameRec) (k pol : Nat) (c : Int) : Cx :=
  if c < 0 ∨ (f.toneLen : Int) ≤ c then (0.0, 0.0)
  else let z := s.toneSample f k pol c.toNat; (fInt z.1, fInt z.2)

/-- A part of a compressed sample: 32 bits, limited to +-(2^31 - 1), and whether it was (R155). Overlap-save FFT agrees with the sum to
-100 dB of full scale: the deviation is free within it. -/
def compressPart (x : Float) (dev : Int) : Int × Bool :=
  let z := fRound x + max (-21474) (min 21474 dev)
  let lim : Int := 2 ^ 31 - 1
  (max (-lim) (min lim z), decide (lim < z) || decide (z < -lim))

/-- y_{k,P}[c] with a template, and how many of its parts saturated (R155). -/
def State.compressed (s : State) (f : FrameRec) (tpl : List Cx) (k pol : Nat) (c : Int) : (Int × Int) × Nat :=
  let z := Cx.sum tpl.length (fun j => Cx.mul (s.streamIn f k pol (c + j)) (Cx.conj (cxAt tpl j)))
  let re := compressPart z.1 (Config.pcxError k pol c 0)
  let im := compressPart z.2 (Config.pcxError k pol c 1)
  ((re.1, im.1), (if re.2 then 1 else 0) + (if im.2 then 1 else 0))

/-! ### The bin grid (R156, R157) -/

/-- The kernel before normalisation: a sinc with delay ph / 256 under a Kaiser window of beta 8 over 16 taps (R156); t = tap - 7. DESIGN CHOICE: the window is centred on the delay (log 182). -/
def sincTap (ph tap : Nat) : Float :=
  let x := fNat tap - 7.0 - fNat ph / 256.0
  let sinc := if x == 0.0 then 1.0 else (fPi * x).sin / (fPi * x)
  let r := 1.0 - (x / 8.0) * (x / 8.0)
  sinc * bessel0 (8.0 * (if r < 0.0 then 0.0 else r).sqrt) / bessel0 8.0

/-- h[ph][t], each phase with unit gain at 0 Hz. -/
def kernelTap (ph tap : Nat) : Float := sincTap ph tap / fSum 16 (sincTap ph)

/-- c0 and ph of a bin (R156): x = b p / K rounded to 1/256. -/
def gridPos (b pitch k : Nat) : Nat × Nat :=
  let q := b * pitch / k
  let ph := (512 * (b * pitch % k) + k) / (2 * k)
  if ph = 256 then (q + 1, 0) else (q, ph)

/-- A compressed bin sample: its value, SATURATED, BLANKED and STEP_ADJ (R156, R157). -/
structure BinSample where
  val : Cx
  sat : Bool
  blank : Bool
  step : Bool

/-- r_{k,P}(b) of a frame with its marks (R156, R157). -/
def State.binSample (s : State) (f : FrameRec) (tpl : List Cx) (k pol b : Nat) : BinSample :=
  let g := gridPos b f.cfg.pitch f.cfg.k
  let y (tap : Nat) : (Int × Int) × Nat := s.compressed f tpl k pol ((g.1 : Int) + tap - 7)
  let val := Cx.sum 16 (fun tap => Cx.scale (kernelTap g.2 tap) (fInt (y tap).1.1, fInt (y tap).1.2))
  let marks := (List.range (15 + tpl.length)).map (fun (i : Nat) =>
    let c : Int := (g.1 : Int) + (i : Int) - 7
    if c < 0 ∨ (f.toneLen : Int) ≤ c then (false, false) else s.toneMarks f k pol c.toNat)
  { val := val, sat := marks.any (·.1) || (List.range 16).any (fun tap => (y tap).2 != 0)
    blank := marks.any (·.2), step := s.stepAdj f k b }

/-- r_{k,P}(b) under the frame's own template; 0 where the tone has none. -/
def State.binOf (s : State) (f : FrameRec) (k pol b : Nat) : BinSample :=
  match s.tplOf f k with
  | some t => s.binSample f t.template k pol b
  | none => ⟨(0.0, 0.0), false, false, false⟩

/-- Bins the PCX compresses in a frame: the window and the G bins below it (R152). -/
def FrameRec.pcxBins (f : FrameRec) : List Nat :=
  if f.rules.count = 0 then [] else (List.range (f.rules.count + f.rules.ray.gauge)).map (· + (f.rules.firstBin - f.rules.ray.gauge))

/-- Saturated parts of a frame's compressed samples: those from which the bins compressed are taken (R155). -/
def State.overflows (s : State) (f : FrameRec) : Nat :=
  match f.pcxBins with
  | [] => 0
  | b :: l =>
    let lo := (gridPos b f.cfg.pitch f.cfg.k).1
    let hi := (gridPos (l.getLastD b) f.cfg.pitch f.cfg.k).1
    ((List.range f.cfg.k).flatMap (fun k => match s.tplOf f k with
      | some t => let tpl := t.template
        [0, 1].flatMap (fun pol => (List.range (hi - lo + 16)).map (fun (i : Nat) => (s.compressed f tpl k pol ((lo : Int) + i - 7)).2))
      | none => [])).foldl (· + ·) 0

end Sys2Proof.Machine
end

