-- ==== Sys2Proof/Machine/Pcx.lean ====
section
/-! DEFINITION. Pulse compression: the PCX's checks and states, transfer-function measurement, staging and the
templates in force (05 R150-R164, R173, R178, R181). -/

namespace Sys2Proof.Machine

/-- PCX states, template states and codes (05 Tables 5-1, 5-4, 5-5). -/
abbrev Pcx.off : Nat := 0
abbrev Pcx.ready : Nat := 1
abbrev Pcx.running : Nat := 2
abbrev Pcx.fault : Nat := 3
abbrev Tf.none : Nat := 0
abbrev Tf.staged : Nat := 1
abbrev Tf.applying : Nat := 2
abbrev PcxCode.badConfig : Nat := 1
abbrev PcxCode.tfBusy : Nat := 2
abbrev PcxCode.tfRejected : Nat := 3
abbrev PcxCode.overflow : Nat := 4
abbrev PcxCode.epochRefused : Nat := 5

/-- The PCX's state and its template staging state. -/
def State.pcxState (s : State) : Nat := s.fld F.PCX_STATUS.STATE
def State.tfState (s : State) : Nat := s.fld F.PCX_STATUS.TF_STATE

/-- The checks of R181, in the order listed: DETAIL of the first that fails. -/
def pcxCheck (f : Fld → Nat) : Option Nat :=
  let first := f F.PCX_RANGE.FIRST_BIN
  let count := f F.PCX_COUNT.COUNT
  let k := 2 ^ f F.MRS_GEOM.K_CODE
  let t := if f F.MRS_GEOM.MODE = 1 then f F.MRS_TMIN.T_MIN else f F.MRS_PERIOD.T
  let h := f F.PCX_RAY_CFG.H
  let a := f F.PCX_RAY_CFG.ALPHA_EXP
  let sl := f F.PCX_RAY_SLEW.LIMIT
  let strain := f F.PCX_RAY_CFG.STRAIN_EN = 1
  let lam := f F.PCX_RAY_LAMBDA.LAMBDA
  let xi := f F.PCX_RAY_XI.XI
  if count = 0 then none
  else firstSome [
    if first < f F.MRS_GEOM.GAUGE then some 2 else none,
    if count > 262144 ∨ first + count > f F.MRS_BINS.COUNT then some 3 else none,
    if 10 * count * k > 16 * t then some 3 else none,
    if 2 * h > k - 1 ∨ a < 4 ∨ a > 12 ∨ f F.PCX_RAY_CFG.LEGACY_TONE ≥ k then some 8 else none,
    if sl < 1 ∨ sl > 25736 then some 0xB else none,
    if strain ∧ (lam < 1260000 ∨ lam > 1675000) then some 9 else none,
    if strain ∧ (xi < 32768 ∨ xi > 65536) then some 0xA else none]

/-! ### Template sources and coefficients -/

/-- A tone's two-bit source in a source register. -/
def srcBits (w : Word) (k : Nat) : Nat := bitsOf w (2 * k + 1) (2 * k)

/-- A tone's active template returns to IDEAL (R163). -/
def State.idealTone (s : State) (k : Nat) : State :=
  let s1 := (List.range 64).foldl (fun a q => a.setReg (R.PCX_TF_ACTIVEk_q k q) 0x4000) s
  s1.setReg R.PCX_TF_SOURCE (setBits (s1.reg R.PCX_TF_SOURCE) (2 * k + 1) (2 * k) 0)

/-- A tone's staged entry is cleared. -/
def State.unstage (s : State) (k : Nat) : State :=
  let s1 := (List.range 64).foldl (fun a q => a.setReg (R.PCX_TF_STAGEk_q k q) 0x4000) s
  s1.setReg R.PCX_TF_STAGE_SRC (setBits (s1.reg R.PCX_TF_STAGE_SRC) (2 * k + 1) (2 * k) 0)

/-- The whole stage is cleared. -/
def State.clearStage (s : State) : State :=
  let s1 : State := { s with pcx := { s.pcx with retry := false } }
  (List.range 16).foldl State.unstage (s1.setFld F.PCX_STATUS.TF_STATE Tf.none)

/-- A tone's coefficients go into force with a source (a TEMPLATE entry of an epoch, 20 R506). -/
def State.activateTone (s : State) (k source : Nat) (coefs : List Word) : State :=
  let s1 := (List.range 64).foldl (fun a q => a.setReg (R.PCX_TF_ACTIVEk_q k q) (coefs[q]?.getD 0x4000)) s
  s1.setReg R.PCX_TF_SOURCE (setBits (s1.reg R.PCX_TF_SOURCE) (2 * k + 1) (2 * k) source)

/-! ### Templates (R154, R162) -/

/-- The template set that the plan and the coefficients in force define. -/
def State.tplSet (s : State) : List ToneTpl :=
  (List.range 16).map (fun k =>
    ⟨(s.frameCfg.tones[k]?).getD ⟨0, 0, 0, 0, 0⟩, s.frameCfg.len, s.frameCfg.k, (List.range 64).map (fun q => s.reg (R.PCX_TF_ACTIVEk_q k q))⟩)

/-- The set being built for the stage: staged coefficients where a tone has any, those in force else (R162). -/
def State.stagedSet (s : State) : List ToneTpl :=
  ((List.range 16).zip s.tplSet).map (fun e =>
    if srcBits (s.reg R.PCX_TF_STAGE_SRC) e.1 = 0 then e.2
    else { e.2 with coefs := (List.range 64).map (fun q => s.reg (R.PCX_TF_STAGEk_q e.1 q)) })

/-- The frame that a boundary at `t` opens is correlated by the set in force at it (R162-R164). -/
def State.bankAt (s : State) (t : Nat) : State :=
  if s.fld F.PCX_COUNT.COUNT = 0 then s
  else if s.pcx.banks.head?.map (·.2) = some s.tplSet then s
  else { s with pcx := { s.pcx with banks := ((t, s.tplSet) :: s.pcx.banks).take 128 } }

/-- The PCX's own apply request at the ALM is withdrawn; the append goes on without it (R163). -/
def State.pcxWithdraw (s : State) : State :=
  { s with
    pcx := { s.pcx with building := false, appending := false, epoch := none, retry := false, second := none }
    alm := { s.alm with
      applies := s.alm.applies.filter (fun a => a.who.isSome)
      appends := s.alm.appends.map (fun a => if a.who.isNone then { a with apply := false } else a) } }

/-- A commit of the stage: APPLYING, and the templates are built (R162). -/
def State.tfApply (s : State) : State :=
  let s1 := s.setFld F.PCX_STATUS.TF_STATE Tf.applying
  { s1 with pcx := { s1.pcx with building := true, appending := false, epoch := none, retry := false } }

/-- Coefficients have been staged: from NONE, STAGED with TF_STAGED, and a commit at once where AUTO_APPLY is set; STAGED stays
(Table 5-1). -/
def State.tfStaged (s : State) : State :=
  if s.tfState = Tf.staged then s
  else
    let s1 := (s.setFld F.PCX_STATUS.TF_STATE Tf.staged).raise .pcx F.PCX_IRQ_STATUS.TF_STAGED
    if s1.flag F.PCX_TF_CFG.AUTO_APPLY then s1.tfApply else s1

/-! ### Measurement (R158-R160) -/

/-- Tone `k` is measurable: |f_k| is at least B_k / 2 + 5 MHz (R159), in RATE units. -/
def State.measurable (s : State) (k : Nat) : Bool :=
  let nco := (signed 32 (s.reg (R.DDC_TONEk_NCO k)).toNat).natAbs
  let rate := (signed 32 (s.reg (R.PGU_TONEk_RATE k)).toNat).natAbs
  decide (1000 * (16 * nco) ≥ 500 * ((s.fld F.PGU_TONE_CFG.LEN - 1) * rate) + 2 * 2 ^ 36)

/-- What defines tone `k`'s template in force. -/
def State.toneTpl (s : State) (k : Nat) : ToneTpl := (s.tplSet[k]?).getD ⟨⟨0, 0, 0, 0, 0⟩, 0, 1, []⟩

/-- A run's ended measurement waits for its evaluation. -/
def State.evalDue (s : State) : Bool := s.pcx.means.any (·.ended)

/-- A measuring frame joins the sums of a run: the X-stream samples j = 0 to N + 63 of each tone, fed from FADC0 alone (R158). -/
def State.calAdd (s : State) (m : CalMean) (f : FrameRec) : CalMean :=
  let row (k : Nat) : List (Int × Int) := (List.range ((s.toneTpl k).taps + 64)).map (fun j => s.toneSample f k 2 j)
  let plus (k : Nat) (z : List (Int × Int)) : List (Int × Int) := match m.sums[k]? with
    | some l => (l.zip z).map (fun e => (e.1.1 + e.2.1, e.1.2 + e.2.2))
    | none => z
  { m with upTo := f.launch, count := m.count + 1, sums := (List.range (min 16 f.cfg.k)).map (fun k => plus k (row k)) }

/-- The last fast sample that the average takes of a frame. -/
def State.calEnd (s : State) (f : FrameRec) : Nat :=
  f.toneAt (f.cfg.k - 1) + f.cfg.k * ((s.toneTpl 0).taps + 63) + ddcTaps f.cfg.k / 2

/-- The measuring frames of a run that are not averaged yet, oldest first: real, not DIAG, with their samples taken unless `all` (R158). -/
def State.measured (s : State) (m : CalMean) (all : Bool) : List FrameRec :=
  (s.mrs.frames.filter (fun f => f.real && f.cal && !f.guardFrame && !f.diag && !f.lost && decide (m.upTo < f.launch)
    && decide (f.launch ≤ m.last) && (all || decide (s.calEnd f < s.afe.upTo)))).reverse

/-- The runs' measurements take in the frames whose samples are there; an ended run's every frame with `all`. -/
def State.calCollect (s : State) (all : Bool) : State :=
  { s with pcx := { s.pcx with means := s.pcx.means.map (fun m => (s.measured m (all && m.ended)).foldl s.calAdd m) } }

/-- M[j] of tone `k`: the average over the measuring frames of a run (R158). -/
def CalMean.average (m : CalMean) (k : Nat) : List Cx :=
  ((m.sums[k]?).getD []).map (fun z => Cx.scale (1.0 / fNat m.count) (fInt z.1, fInt z.2))

/-- A tone's fit: its delay in tone samples and rho; none rejects it. -/
structure ToneFit where
  tone : Nat
  d : Float
  rho : Float

/-- The delay search of R160 for one tone. -/
def toneFit (n : Nat) (m ideal : Nat → Cx) (k : Nat) : Option ToneFit :=
  let xc (d : Nat) : Float := Cx.abs (Cx.sum n (fun j => Cx.mul (m (j + d)) (Cx.conj (ideal j))))
  let d0 := argMax 64 xc
  if d0 = 0 ∨ d0 = 63 then none
  else
    let a := xc (d0 - 1)
    let b := xc d0
    let c := xc (d0 + 1)
    let rho := b / (fSum n (fun j => Cx.norm2 (m (j + d0))) * fSum n (fun j => Cx.norm2 (ideal j))).sqrt
    if rho < 0.5 then none else some ⟨k, fNat d0 + 0.5 * (a - c) / (a - 2.0 * b + c), rho⟩

/-- Sub-band `q` coefficients of R160: the response over the transform bins of each of 64 equal sub-bands of
-B/2 to +B/2, with the common delay removed and the mean magnitude set to 1. DESIGN CHOICE (log entry 157): a bin on the edge of two
sub-bands belongs to the upper one. A sub-band without bins has no stated response: a free value. -/
def toneResponse (n kk m0 : Nat) (m ideal : Nat → Cx) (bw dc : Float) : List Cx :=
  let ff := pow2Above 16 1 (n + 64)
  let fs := 1.25e9 / fNat kk
  let si := dft ff (fun j => if j < n then ideal j else (0.0, 0.0))
  let sm := dft ff (fun j => if m0 + j < n + 64 then m (m0 + j) else (0.0, 0.0))
  let freq (i : Nat) : Float := (if 2 * i < ff then fNat i else fNat i - fNat ff) * fs / fNat ff
  let h (q : Nat) : Cx :=
    let lo := bw * (fNat q / 64.0 - 0.5)
    let hi := bw * (fNat (q + 1) / 64.0 - 0.5)
    let bins := (List.range ff).filter (fun i => decide (lo ≤ freq i) && decide (freq i < hi))
    let num := bins.foldl (fun a i => Cx.add a (Cx.mul (sm i) (Cx.conj (si i)))) (0.0, 0.0)
    let den := bins.foldl (fun a i => a + Cx.norm2 (si i)) 0.0
    Cx.mul (if bins.isEmpty then Config.emptyBand n q else Cx.scale (1.0 / den) num) (Cx.cis (2.0 * fPi * ((lo + hi) / 2.0) * (dc - fNat m0) * fNat kk * 0.8e-9))
  let hs := (List.range 64).map h
  let mean := hs.foldl (fun a z => a + Cx.abs z) 0.0 / 64.0
  hs.map (Cx.scale (1.0 / mean))

/-- A complex coefficient in the PCX_TF_ACTIVEk_q format. -/
def coefWord (z : Cx) : Word :=
  w32 (unsigned 16 (satInt 16 (fRound (z.1 * 16384.0))) + 65536 * unsigned 16 (satInt 16 (fRound (z.2 * 16384.0))))

/-- The evaluation of R160 over a run's averages of each tone. -/
def State.tfEvaluate (s : State) (r : CalMean) : State :=
  let kk := 2 ^ s.fld F.PGU_TONE_CFG.K_CODE
  let n := (s.toneTpl 0).taps
  let m (k : Nat) : Nat → Cx := cxAt (r.average k)
  let ideal (k : Nat) : Nat → Cx := cxAt (s.toneTpl k).ideal
  let cands := (List.range (min 16 kk)).filter s.measurable
  let fits := cands.filterMap (fun k => toneFit n (m k) (ideal k) k)
  let bad := cands.filter (fun k => !fits.any (·.tone == k))
  let dc := fits.foldl (fun a x => a + x.d) 0.0 / fNat fits.length
  let m0 := dc.floor.toUInt64.toNat
  let scale := fNat kk * 256.0
  let one (a : State) (x : ToneFit) : State :=
    let k := x.tone
    let hs := toneResponse n kk m0 (m k) (ideal k) (s.toneTpl k).bandwidth dc
    let a1 := ((List.range 64).zip hs).foldl (fun b e => b.setReg (R.PCX_TF_STAGEk_q k e.1) (coefWord e.2)) a
    let a2 := a1.setReg R.PCX_TF_STAGE_SRC (setBits (a1.reg R.PCX_TF_STAGE_SRC) (2 * k + 1) (2 * k) 1)
    (a2.setFld (F.PCX_TF_DIFFk.DELAY k) (unsigned 24 (fRound ((x.d - dc) * scale)))).setFld (F.PCX_TF_DIFFk.RHO k)
      (fRound (255.0 * x.rho)).toNat
  let s1 := if bad.isEmpty then s
    else ((s.post .pcx PcxCode.tfRejected (bad.headD 0)).count F.PCX_EVENT_COUNT.REJECTED bad.length).raise .pcx
      F.PCX_IRQ_STATUS.TF_REJECTED
  if fits.isEmpty then s1
  else ((fits.foldl one s1).setFld F.PCX_TF_DELAY.DELAY (unsigned 24 (fRound (dc * scale)))).tfStaged

/-- TF_EVALUATION: the measurement of a finished run is evaluated; in APPLYING it is discarded with TF_BUSY and
counted (Table 5-1). `fadc`, `madc`: what the converters took up to then. -/
def execTfEvaluation (fadc madc : List (List Int)) (t : Nat) (s : State) : Host.Outcome State Fault Refusal :=
  let s0 := ((s.takeSamples fadc madc t).at_ t).calCollect true
  .next (match s0.pcx.means.find? (·.ended) with
    | none => s0
    | some r =>
      let s1 : State := { s0 with pcx := { s0.pcx with means := s0.pcx.means.erase r } }
      if s1.tfState = Tf.applying then (s1.post .pcx PcxCode.tfBusy 0).count F.PCX_EVENT_COUNT.BUSY 1
      else s1.tfEvaluate r)

/-! ### Staging commands (R161, Table 5-1) -/

/-- TF_LOAD: tones below K become LOADED. -/
def State.tfLoad (s : State) (via : Via) : State :=
  if s.tfState = Tf.applying then s.finish via .pcx PcxCode.tfBusy 0
  else
    let k := 2 ^ s.fld F.PGU_TONE_CFG.K_CODE
    let s1 := (List.range (min 16 k)).foldl (fun a i =>
      a.setReg R.PCX_TF_STAGE_SRC (setBits (a.reg R.PCX_TF_STAGE_SRC) (2 * i + 1) (2 * i) 2)) s
    (s1.finish via .pcx 0 0).tfStaged

/-- TF_COMMIT. -/
def State.tfCommit (s : State) (via : Via) : State :=
  if s.tfState = Tf.staged then (s.finish via .pcx 0 0).tfApply else s.finish via .pcx PcxCode.tfBusy 0

/-- TF_DISCARD. -/
def State.tfDiscard (s : State) (via : Via) : State :=
  if s.tfState = Tf.applying then s.finish via .pcx PcxCode.tfBusy 0
  else if s.tfState = Tf.staged then (s.clearStage).finish via .pcx 0 0
  else s.finish via .pcx 0 0

/-- A message of TF_CONTROL acts only with its own OP. -/
def State.tfControl (s : State) (via : Via) (op : Nat) (act : State → State) : State :=
  s.withRequest via [0x0403] (fun s =>
    match via with
    | .reg _ => s.onUnit via .pcx R.PCX_CTRL act
    | .msg _ _ => if field (s.payload via) 0 1 = op then s.onUnit via .pcx R.PCX_CTRL act else s)

/-- TF_LOAD. -/
def execTfLoad (via : Via) (s : State) : Host.Outcome State Fault Refusal :=
  .next (s.tfControl via 1 (fun s => s.tfLoad via))

/-- TF_COMMIT. -/
def execTfCommit (via : Via) (s : State) : Host.Outcome State Fault Refusal :=
  .next (s.tfControl via 2 (fun s => s.tfCommit via))

/-- TF_DISCARD. -/
def execTfDiscard (via : Via) (s : State) : Host.Outcome State Fault Refusal :=
  .next (s.tfControl via 3 (fun s => s.tfDiscard via))

/-- TF_STAGE: a message writes coefficients of one tone's stage; refused TF_BUSY in APPLYING. -/
def execTfStage (o : Origin) (seq : Word) (s : State) : Host.Outcome State Fault Refusal :=
  let via : Via := .msg o seq
  .next (s.withRequest via [0x0402] (fun s => s.onUnit via .pcx R.PCX_CTRL (fun s =>
    if s.tfState = Tf.applying then s.finish via .pcx PcxCode.tfBusy 0
    else
      let p := s.payload via
      let s1 := (List.range (field p 2 1)).foldl (fun a i =>
        a.setReg (R.PCX_TF_STAGEk_q (field p 0 1) (field p 1 1 + i)) (w32 (field p (4 + 4 * i) 4))) s
      s1.finish via .pcx 0 0)))

/-- PCX_CTRL.FAULT_CLR (Table 5-4). -/
def State.pcxFaultClr (s : State) : State :=
  if s.pcxState = Pcx.fault then (s.setFld F.PCX_STATUS.STATE Pcx.ready).show .pcx 0 0 else s

/-- PCX_CTRL.COUNT_CLR. -/
def State.pcxCountClr (s : State) : State := (s.setReg R.PCX_OVF_COUNT 0).setReg R.PCX_EVENT_COUNT 0

/-- PCX_COUNT_CLR. -/
def execPcxCountClr (src : Src) (s : State) : Host.Outcome State Fault Refusal :=
  .next (s.onUnit (.reg src) .pcx R.PCX_CTRL State.pcxCountClr)

/-! ### Boundaries and power -/

/-- The PCX starts with acquisition; its checks have passed. -/
def State.pcxStart (s : State) : State :=
  if s.pcxState = Pcx.ready then (s.setFld F.PCX_STATUS.STATE Pcx.running).show .pcx 0 0 else s

/-- Every block of the last real frame is delivered. -/
def State.pcxStopped (s : State) : State :=
  if s.pcxState = Pcx.running then s.setFld F.PCX_STATUS.STATE Pcx.ready else s

/-- A tone's plan differs between two states (R163). -/
def planChanged (old new : State) (k : Nat) : Bool :=
  old.reg R.PGU_TONE_CFG != new.reg R.PGU_TONE_CFG || old.reg (R.PGU_TONEk_FSTART k) != new.reg (R.PGU_TONEk_FSTART k)
    || old.reg (R.PGU_TONEk_RATE k) != new.reg (R.PGU_TONEk_RATE k)
    || old.fld (F.PGU_TONEk_AMP.PHASE0 k) != new.fld (F.PGU_TONEk_AMP.PHASE0 k)

/-- PCX_GAUGE and PCX_CSR follow the image (R173, R183). -/
def State.pcxGeometry (s : State) : State :=
  let s1 := s.setFld F.PCX_GAUGE.G (s.fld F.MRS_GEOM.GAUGE)
  s1.setReg R.PCX_CSR (toF32 s1.csr)

/-- An image switch: changed tones become IDEAL and lose their staged entries, a request in APPLYING being
withdrawn (R163, Table 5-1); PCX_GAUGE and PCX_CSR follow; a RUNNING PCX checks (Table 5-4). `old` is the state
before the new registers. -/
def State.pcxSwitch (s old : State) : State :=
  let changed := (List.range 16).filter (planChanged old s)
  let s1 := changed.foldl State.idealTone s
  let tf := s1.tfState
  let s2 := if changed.isEmpty ∨ tf = Tf.none then s1
    else
      let a := changed.foldl State.unstage (if tf = Tf.applying then s1.pcxWithdraw else s1)
      if a.reg R.PCX_TF_STAGE_SRC = 0 then ({ a with pcx := { a.pcx with retry := false } }).setFld F.PCX_STATUS.TF_STATE Tf.none
      else if tf = Tf.applying then
        let b := a.setFld F.PCX_STATUS.TF_STATE Tf.staged
        if b.flag F.PCX_TF_CFG.AUTO_APPLY then b.tfApply else b
      else a
  let s4 := s2.pcxGeometry
  if s4.pcxState = Pcx.running then
    match pcxCheck s4.fld with
    | some d => (((s4.setFld F.PCX_STATUS.STATE Pcx.fault).post .pcx PcxCode.badConfig d).raise .pcx
        F.PCX_IRQ_STATUS.FAULT).acqFault PcxCode.badConfig Unit.pcx.top
    | none => s4
  else s4

/-- FAST_AFE leaves RUN: OFF, the code kept. -/
def State.pcxPowerDown (s : State) : State := s.setFld F.PCX_STATUS.STATE Pcx.off

/-- FAST_AFE reaches RUN, the coefficients being reloaded: READY. -/
def State.pcxWake (s : State) : State := if s.pcxState = Pcx.off then s.setFld F.PCX_STATUS.STATE Pcx.ready else s

/-- Compressed samples of the frames whose samples became complete by an instant saturated: counted, logged once a boundary (R155, log
entry 33). -/
def State.pcxOverflow (s : State) (t : Nat) : State :=
  let l := s.mrs.frames.filter (fun f => f.real && !f.diag && !f.cal && decide (s.launch ≤ f.lastSample) && decide (f.lastSample < t))
  let n := l.foldl (fun a f => a + s.overflows f) 0
  if s.pcxState ≠ Pcx.running ∨ n = 0 then s
  else ((s.count F.PCX_OVF_COUNT.COUNT n).post .pcx PcxCode.overflow 0).raise .pcx F.PCX_IRQ_STATUS.OVERFLOW

end Sys2Proof.Machine
end

