-- ==== Sys2Proof/Machine/AlmBase.lean ====
section
/-! DEFINITION. The queue of appends and the chain of calibration records as the archive serves them
(20 R504-R510). -/

namespace Sys2Proof.Machine

/-- ALM states and codes (20 Tables 20-6, 20-7). -/
abbrev Alm.off : Nat := 0
abbrev Alm.starting : Nat := 1
abbrev Alm.waitArchive : Nat := 2
abbrev Alm.loading : Nat := 3
abbrev Alm.ready : Nat := 4
abbrev AlmCode.badRecord : Nat := 1
abbrev AlmCode.notMounted : Nat := 2
abbrev AlmCode.epochUnknown : Nat := 3
abbrev AlmCode.epochRefused : Nat := 4
abbrev AlmCode.epochLost : Nat := 5
abbrev AlmCode.chainBreak : Nat := 6
abbrev AlmCode.idCrc : Nat := 7
abbrev AlmCode.factoryCrc : Nat := 8
abbrev AlmCode.runUnstored : Nat := 9
abbrev AlmCode.histLost : Nat := 10
abbrev AlmCode.eolWarn : Nat := 11
abbrev AlmCode.busy : Nat := 12

/-- State of the ALM. -/
def State.almState (s : State) : Nat := s.fld F.ALM_STATUS.STATE

/-- The highest epoch with a pending apply request. -/
def State.showPending (s : State) : State :=
  s.setReg R.ALM_EPOCH_PENDING (w32 (s.alm.applies.foldl (fun m a => max m a.epoch) 0))

/-- The record of the chain head; empty without one. -/
def State.chainHead (s : State) : Bytes := match s.alm.chain.getLast? with | some (_, _, b) => b | none => []

/-- A record of the chain. -/
def State.chainRec (s : State) (e : Nat) : Option (Bool × Bytes) := (s.alm.chain.find? (fun x => x.1 == e)).map (·.2)

/-- The PCX learns that its epoch request was refused, or its append (R162, R505). -/
def State.pcxRefused (s : State) : State :=
  s.post .pcx PcxCode.epochRefused 0

/-- The append at the head of the queue ends without a record (R505): the host is answered, the PCX returns to STAGED and
retries at the next boundary. -/
def State.appendFails (s : State) (code detail : Nat) : State :=
  match s.alm.appends with
  | [] => s
  | a :: rest =>
    let s1 : State := { s with alm := { s.alm with appends := rest } }
    match a.who with
    | some (o, q) => (s1.post .alm code detail).answer o q code Unit.alm.top detail (zeros 16)
    | none => if !a.apply then s1.post .alm code detail else
      let b := (s1.post .alm code detail).pcxRefused
      let p := b.pcx
      ({ b with pcx := { p with building := false, appending := false, epoch := none, retry := true } }).setFld F.PCX_STATUS.TF_STATE Tf.staged

/-- The record of the append at the head of the queue is committed: it joins the chain; an apply request stands, or the
host is answered (R505, R506). -/
def State.appendDone (s : State) : State :=
  match s.alm.appends with
  | [] => s
  | a :: rest =>
    let e := field a.record 8 4
    let m : AlmSt := { s.alm with appends := rest, chain := s.alm.chain ++ [(e, true, a.record)] }
    let s1 := ({ s with alm := m }).setReg R.ALM_EPOCH_HEAD (w32 e)
    let stand (b : State) : State := ({ b with alm := { b.alm with applies := b.alm.applies ++ [(⟨e, b.now, a.who⟩ : CalApply)] } }).showPending
    match a.who with
    | some (o, q) => if a.apply then stand s1 else (s1.show .alm 0 0).answer o q 0 Unit.alm.top 0 (leBytes 4 e ++ zeros 12)
    | none =>
      let p := s1.pcx
      if a.apply then stand { s1 with pcx := { p with appending := false, epoch := some e } } else s1

end Sys2Proof.Machine
end

