-- ==== Sys2Proof/Machine/Bch.lean ====
section
/-! DEFINITION. The BCH code of a NAND codeword: GF(2^14), generator, encoder and a decoder that corrects 72 bits
(12 R350, R351). -/

namespace Sys2Proof.Machine

/-- Twice an element of GF(2^14), modulo x^14 + x^10 + x^6 + x + 1. -/
def gfDouble (a : Nat) : Nat := if 2 * a ≥ 2 ^ 14 then (2 * a) ^^^ 0x4443 else 2 * a

/-- Product in GF(2^14), by the low `k` bits of `b`. -/
def gfMulFrom : Nat → Nat → Nat → Nat → Nat
  | 0, _, _, acc => acc
  | k + 1, a, b, acc => gfMulFrom k (gfDouble a) (b / 2) (if b % 2 = 1 then acc ^^^ a else acc)
def gfMul (a b : Nat) : Nat := gfMulFrom 14 a b 0

/-- Power in GF(2^14) by the low `k` bits of the exponent. -/
def gfPowFrom : Nat → Nat → Nat → Nat → Nat
  | 0, _, _, acc => acc
  | k + 1, a, n, acc => gfPowFrom k (gfMul a a) (n / 2) (if n % 2 = 1 then gfMul acc a else acc)
def gfPow (a n : Nat) : Nat := gfPowFrom 20 a n 1
def gfInv (a : Nat) : Nat := gfPow a (2 ^ 14 - 2)

/-- Product of a polynomial over the field (lowest coefficient first) and x + r. -/
def polyRoot (p : List Nat) (r : Nat) : List Nat :=
  (List.range (p.length + 1)).map (fun i => (if i = 0 then 0 else p[i - 1]?.getD 0) ^^^ gfMul r (p[i]?.getD 0))

/-- Minimal polynomial of alpha^i as a bit mask: the product over its distinct conjugates. -/
def minPoly (i : Nat) : Nat :=
  let p := (((List.range 14).map (fun j => i * 2 ^ j % (2 ^ 14 - 1))).eraseDups).foldl (fun a e => polyRoot a (gfPow 2 e)) [1]
  ((List.range p.length).map (fun k => (p[k]?.getD 0) % 2 * 2 ^ k)).sum

/-- Product of polynomials over GF(2) by the low `k` bits of `b`. -/
def clMul : Nat → Nat → Nat → Nat
  | 0, _, _ => 0
  | k + 1, a, b => (if b % 2 = 1 then a else 0) ^^^ clMul k (2 * a) (b / 2)

/-- The generator: the product of the minimal polynomials of alpha^1, alpha^3, ... alpha^143, which are distinct. That of alpha^129 has
degree 7, for 129 * 2^7 = 129 modulo 2^14 - 1, so the product has degree 1,001. -/
def bchGen : Nat := (List.range 72).foldl (fun g i => clMul 15 g (minPoly (2 * i + 1))) 1

/-- Degree of the generator. -/
abbrev bchDeg : Nat := 1001

/-- Remainder by the generator of a polynomial with `k` bits above those of a remainder. -/
def bchRem (g : Nat) : Nat → Nat → Nat
  | 0, n => n
  | k + 1, n => bchRem g k (if bitAt n (bchDeg + k) then n ^^^ (g <<< k) else n)

/-- Bytes as a number, the first byte the most significant. -/
def beNat (bs : Bytes) : Nat := bs.foldl (fun a b => 256 * a + b.toNat) 0
def beBytes (n v : Nat) : Bytes := (leBytes n v).reverse

/-- Parity of 1,024 data bytes: 1,008 bits, of which the remainder by the generator takes the low 1,001 (DEDUCED, log entry 197). -/
def bchParity (data : Bytes) : Bytes := beBytes 126 (bchRem bchGen (9200 - bchDeg) (beNat data * 2 ^ 1008))

/-- Value of a received word at alpha^i, by Horner over its bits from the top. -/
def bchEval (r x : Nat) : Nat → Nat → Nat
  | 0, acc => acc
  | k + 1, acc => bchEval r x k (gfMul acc x ^^^ (if bitAt r k then 1 else 0))

/-- State of the Berlekamp-Massey iteration: connection polynomial, its predecessor, length, shift and discrepancy. -/
structure BmSt where
  c : List Nat
  b : List Nat
  l : Nat
  m : Nat
  d : Nat

/-- One step on syndrome `n`. -/
def bmStep (syn : List Nat) (x : BmSt) (n : Nat) : BmSt :=
  let d := (List.range (x.l + 1)).foldl (fun a i => a ^^^ gfMul (x.c[i]?.getD 0) (syn[n - i]?.getD 0)) 0
  if d = 0 then { x with m := x.m + 1 }
  else
    let q := gfMul d (gfInv x.d)
    let len := max x.c.length (x.b.length + x.m)
    let c := (List.range len).map (fun i => (x.c[i]?.getD 0) ^^^ (if i < x.m then 0 else gfMul q (x.b[i - x.m]?.getD 0)))
    if 2 * x.l ≤ n then ⟨c, x.c, n + 1 - x.l, 1, d⟩ else { x with c := c, m := x.m + 1 }

/-- A codeword decoded: its number with errors corrected and how many, or none where the decoder detects more than it
corrects. -/
def bchDecode (r : Nat) : Option (Nat × Nat) :=
  if bchRem bchGen (9200 - bchDeg) r = 0 then some (r, 0)
  else
    let syn := (List.range 144).map (fun i => bchEval r (gfPow 2 (i + 1)) 9200 0)
    let x := (List.range 144).foldl (bmStep syn) ⟨[1], [1], 0, 1, 1⟩
    let at_ (p : Nat) : Nat :=
      let z := gfInv (gfPow 2 p)
      x.c.foldr (fun c a => gfMul a z ^^^ c) 0
    let pos := (List.range 9200).filter (fun p => at_ p == 0)
    let fixed := pos.foldl (fun a p => a ^^^ 2 ^ p) r
    if decide (x.l ≤ 72) && pos.length == x.l && bchRem bchGen (9200 - bchDeg) fixed == 0 then some (fixed, x.l) else none

/-- Bits of a byte string that read 0. -/
def zeroBits (bs : Bytes) : Nat := (bs.map (fun b => ((List.range 8).filter (fun i => !b.getLsbD i)).length)).sum

/-- A codeword read: data, and corrected bits; none where it is uncorrectable, its data then as read (R351). -/
def readCodeword (data parity : Bytes) : Bytes × Option Nat :=
  if zeroBits (data ++ parity) ≤ 8 then (List.replicate 1024 0xFF, some 0)
  else match bchDecode (beNat data * 2 ^ 1008 + beNat parity) with
    | some (n, k) => (beBytes 1024 (n / 2 ^ 1008), some k)
    | none => (data, none)

end Sys2Proof.Machine
end

