-- ==== Sys2Proof/Machine/Arbiter.lean ====
section
/-! DEFINITION. The shared arbiters: the class order of Table 1-7, and ties, starvation and promotion inside a class (01 R57, R58). -/

namespace Sys2Proof.Machine

/-- A request that waits at an arbiter: requester's path word, base class, and arbiter cycles waited. -/
structure ArbReq where
  path : Nat
  base : Nat
  wait : Nat
  deriving DecidableEq, Repr

/-- Its class: promoted by one for each 64 cycles, never to class 0 (R58). -/
def ArbReq.cls (r : ArbReq) : Nat := if r.base = 0 then 0 else max (r.base - r.wait / 64) 1

/-- Its place in the order: in class 0 the SIL's traffic comes after slots and slot-placed writes (R58). -/
def ArbReq.rank (r : ArbReq) : Nat :=
  if r.cls = 0 then (if r.path = fixedPath .sil then 1 else 0) else r.cls + 1

/-- Indexes of the requests of the leading rank, lowest path first, with their path keys (R49). -/
def arbTied (rs : List ArbReq) (c : Nat) : List (Nat × Nat) :=
  sortBy (·.2) (((List.range rs.length).zip rs).filterMap (fun x => if x.2.rank = c then some (x.1, pathKey x.2.path) else none))

/-- The winner among tied requests: the first above the last winner where that lies in their range, else the lowest (R58). -/
def arbWinner (last : Option Nat) (tied : List (Nat × Nat)) : Option (Nat × Nat) :=
  match last, tied.head?, tied.getLast? with
  | some w, some lo, some hi =>
    if lo.2 ≤ w ∧ w ≤ hi.2 then (tied.find? (fun x => decide (w < x.2))).or (some lo) else some lo
  | _, lo, _ => lo

/-- One grant: the index of the request granted, and the last winners after it, by rank (R58). -/
def arbPick (winners : List (Nat × Nat)) (rs : List ArbReq) : Option (Nat × List (Nat × Nat)) :=
  match (rs.map ArbReq.rank).min? with
  | none => none
  | some c =>
    (arbWinner ((winners.find? (·.1 = c)).map (·.2)) (arbTied rs c)).map
      (fun x => (x.1, (c, x.2) :: winners.filter (·.1 ≠ c)))

end Sys2Proof.Machine
end

