-- ==== Sys2Proof/Machine/Phase.lean ====
section
/-! DEFINITION. The phases and codes of the start-up sequence (21 R521-R523). -/

namespace Sys2Proof.Machine

/-! ### Start-up phases (21 Table 21-3) -/

/-- PHASE of GLB_STARTUP. -/
abbrev Phase.reset : Nat := 0
abbrev Phase.header : Nat := 1
abbrev Phase.dmcInit : Nat := 2
abbrev Phase.image : Nat := 3
abbrev Phase.switch : Nat := 4
abbrev Phase.done : Nat := 5
abbrev Phase.waitHost : Nat := 6
abbrev GlbCode.headerBad : Nat := 1
abbrev GlbCode.bootNoImage : Nat := 2
abbrev GlbCode.dmcFail : Nat := 3
abbrev GlbCode.badKey : Nat := 4
abbrev GlbCode.badKick : Nat := 5
abbrev GlbCode.tjHigh : Nat := 6
abbrev GlbCode.thermalTrip : Nat := 7
def State.phase (s : State) : Nat := s.fld F.GLB_STARTUP.PHASE
def State.setPhase (s : State) (p : Nat) : State := s.setFld F.GLB_STARTUP.PHASE p

/-- The sequencer enters WAIT_HOST; the BOOT hold stays (21 R523). -/
def State.waitHost (s : State) : State := (s.setPhase Phase.waitHost).raise .glb F.GLB_IRQ_STATUS.START_FAIL

/-- It does so with a code. -/
def State.startFails (s : State) (code detail : Nat) : State := (s.post .glb code detail).waitHost

/-- A DMC that refuses INIT or freezes during start-up leaves it to the host (R523). -/
def State.dmcFails (s : State) (code : Nat) : State :=
  if inRange Phase.dmcInit Phase.switch s.phase then s.startFails GlbCode.dmcFail code else s

end Sys2Proof.Machine
end

