-- ==== Sys2Proof/Machine/Dmc.lean ====
section
/-! DEFINITION. The DRAM controller: the address map and in-line code, requests, refresh, self-refresh, freezes and
the diagnostic window (11 R318-R345). -/

namespace Sys2Proof.Machine

/-! ### The in-line code (R321, R322) -/

/-- pos[d]: the integers from 3 that are not powers of two, in order. -/
def eccPos : List Nat := ((List.range 266).filter (fun n => decide (3 ≤ n) && (n &&& (n - 1)) != 0)).take 256

/-- XOR of pos[d] over the set data bits, from bit `d` of the positions left. -/
def eccFold (data : Nat) : List Nat → Nat → Nat → Nat
  | [], _, h => h
  | p :: ps, d, h => eccFold data ps (d + 1) (if bitAt data d then h ^^^ p else h)

/-- Parity of the low `k` bits of a number. -/
def parity : Nat → Nat → Nat
  | 0, _ => 0
  | k + 1, n => (n % 2) ^^^ parity k (n / 2)

/-- H[8:0] and H of a data value. -/
def eccLow (data : Nat) : Nat := eccFold data eccPos 0 0
def eccH (data : Nat) : Nat :=
  let h := eccLow data
  h + 512 * (parity 256 data ^^^ parity 9 h)

/-- TAG of a device address. -/
def eccTag (a : Nat) : Nat :=
  (List.range 5).foldl (fun t k => t ^^^ (a / 2 ^ (5 + 6 * k) % 64)) 0

/-- Check word of a unit's data at a device address (R321). -/
def eccCheck (a data : Nat) : Nat := 1024 * eccTag a + eccH data

/-- What a byte of DRAM reads as that nothing has written since the fill: zero data and its check words
(R328). -/
def dramDflt (p : Nat) : Byte :=
  let r := p % 256
  if r < 224 then 0
  else
    let w := (r - 224) / 2
    if w ≥ 7 then 0 else BitVec.ofNat 8 (eccCheck (32 * (p / 256 * 7 + w)) 0 / 256 ^ (r % 2))

/-- The result of reading a unit. -/
inductive UnitRead where
  | good (data : Bytes)
  | corrected (data : Bytes)
  | bad (syndrome tagDiff : Nat)
  deriving DecidableEq, Repr

/-- R322 on a unit's stored data and check word: H and TAG are formed anew by R321 and compared with the stored ones. A syndrome with
H[9] mismatching that names no bit of the unit gives a free value (log entry 40). -/
def eccDecode (a : Nat) (data : Bytes) (check : Nat) : UnitRead :=
  let d := leNat data
  let synd := eccH d ^^^ (check % 1024)
  let tag := eccTag a ^^^ (check / 1024 % 64)
  let low := synd % 512
  if synd = 0 ∧ tag = 0 then .good data
  else if tag ≠ 0 ∨ !bitAt synd 9 then .bad synd tag
  else if low = 0 ∨ (low &&& (low - 1)) = 0 then .corrected data
  else match eccPos.findIdx? (· = low) with
    | some k => .corrected (leBytes 32 (d ^^^ 2 ^ k))
    | none => .corrected (fitBytes 32 (Config.eccNoBit d synd))

/-- Data and check word of a unit as the DRAM holds them. -/
def State.rawData (s : State) (u : Nat) : Bytes := memBytes dramDflt s.dmc.dram (unitPhys u) 32
def State.rawCheck (s : State) (u : Nat) : Nat := leNat (memBytes dramDflt s.dmc.dram (checkPhys u) 2)

/-- Physical group of a unit, and the address of its check burst (R320). -/
def unitGroup (u : Nat) : Nat := u / 7
def groupCheck (g : Nat) : Nat := 256 * g + 224

/-- The check burst of a group as the DMC sees it: the cached copy where there is one, else the DRAM's (R324). -/
def State.checkBurst (s : State) (g : Nat) : Bytes :=
  match s.dmc.cache.find? (·.1 = g) with
  | some e => e.2
  | none => memBytes dramDflt s.dmc.dram (groupCheck g) 32

/-- The check word of a unit as the DMC sees it. -/
def State.unitCheck (s : State) (u : Nat) : Nat := field (s.checkBurst (unitGroup u)) (2 * (u % 7)) 2

/-- A unit is written whole: its data to DRAM, its check word to the cached check burst (R323, R324). -/
def State.putUnit (s : State) (u : Nat) (data : Bytes) : State :=
  let d := fitBytes 32 data
  let b := putBytes (s.checkBurst (unitGroup u)) (2 * (u % 7)) (leBytes 2 (eccCheck (32 * u) (leNat d)))
  { s with dmc := { s.dmc with
      dram := memPut dramDflt s.dmc.dram (unitPhys u) d
      cache := s.dmc.cache.map (fun e => if e.1 = unitGroup u then (e.1, b) else e) } }

/-- Cached check bursts go back to DRAM (R324, R337). -/
def State.cacheBack (s : State) (es : List (Nat × Bytes)) : State :=
  { s with dmc := { s.dmc with
      dram := es.foldl (fun m e => memPut dramDflt m (groupCheck e.1) (fitBytes 32 e.2)) s.dmc.dram
      cache := s.dmc.cache.filter (fun e => !es.contains e) } }

/-- Bits of a unit as the DRAM holds it are flipped: 0 to 255 its data, 256 to 271 its check word. -/
def State.flipBits (s : State) (u : Nat) (bits : List Nat) : State :=
  bits.foldl (fun a b =>
    let p := if b < 256 then unitPhys u + b / 8 else checkPhys u + (b - 256) / 8 % 2
    let old := tabGet dramDflt a.dmc.dram p
    { a with dmc := { a.dmc with dram := tabPut dramDflt a.dmc.dram p (old ^^^ (1 <<< (b % 8))) } }) s

/-! ### Commands (R326, R340) -/

/-- Channel, rank, bank, row and column bits of a physical address in the history layout. -/
def State.cmdBits (s : State) (p : Nat) : Nat :=
  16 * (p / 256 % 2) + 32 * s.rankOf p + 64 * (p / 4096 % 8) + 512 * (s.rowOf p % 2 ^ 17) + 2 ^ 26 * (colOf p % 64)

/-- Hint of a request class: OPEN unless CLOSE is selected; the spec gives no requester a hint of its own, whose default is OPEN (R326). -/
def State.hintClose (s : State) (cls : Nat) : Bool := domField (s.fld F.DMC_PAGE_CFG.HINTc) cls == 1

/-- One burst is read or written: the row opens as needed, and stays open or closes (R326). -/
def State.burst (s : State) (p cls : Nat) (write : Bool) : State :=
  let k := s.bankKey p
  let row := s.rowOf p
  let low := s.cmdBits p
  let s1 := match (s.dmc.rows.find? (·.1 = k)).map (·.2) with
    | some r => if r = row then s else (s.dmcCmd 4 low cls).dmcCmd 1 low cls
    | none => s.dmcCmd 1 low cls
  let s2 := s1.dmcCmd (if write then 3 else 2) low cls
  let rest := s2.dmc.rows.filter (·.1 ≠ k)
  let at_ := s2.dmc.rowAt.filter (·.1 ≠ k)
  let g : DmcSt := { s2.dmc with rows := if s2.hintClose cls then rest else (k, row) :: rest
                                 rowAt := if s2.hintClose cls then at_ else (k, s2.now) :: at_
                                 lastReq := (s2.rankOf p, s2.now) :: s2.dmc.lastReq.filter (·.1 ≠ s2.rankOf p) }
  { s2 with dmc := g }

/-- The check burst of a group is on chip: where it is not, one of 64 is written back, a free choice, and it is read
(R324, log entry 142). -/
def State.cacheIn (s : State) (g cls : Nat) : State :=
  if s.dmc.cache.any (·.1 = g) then s
  else
    let s1 := if s.dmc.cache.length < 64 then s
      else
        let e := s.dmc.cache[Config.checkVictim s.free % 64]?.getD (0, [])
        let s0 : State := { s with free := s.free + 1 }
        (s0.cacheBack [e]).burst (groupCheck e.1) cls true
    let b := memBytes dramDflt s1.dmc.dram (groupCheck g) 32
    let s2 := s1.burst (groupCheck g) cls false
    { s2 with dmc := { s2.dmc with cache := s2.dmc.cache ++ [(g, b)] } }

/-! ### Freeze (R340-R344) -/

/-- Path word of the DMC itself. -/
def dmcPath : Nat := 0x2D000000

/-- An access of the host window during a freeze: a read gives ones, a write is discarded, and the HIF logs it (01 R59;
FROZEN_ACCESS of 18 Table 18-5). -/
def State.frozenWindow (s : State) (write : Bool) (a len : Nat) : State :=
  let s1 := (s.post .hif 9 0).raise .hif F.HIF_IRQ_STATUS.UNMAPPED
  if write then s1 else s1.give (.readData a (2 ^ (8 * len) - 1))

/-- The accesses of the host window that wait as the DMC freezes complete as R59 says, oldest first. -/
def State.dropWindow (s : State) : State :=
  (s.dmc.waiting.filter (fun r => r.cls == 4)).foldl (fun a r => a.frozenWindow r.write r.addr (if r.write then r.data.length else r.len))
    { s with dmc := { s.dmc with waiting := s.dmc.waiting.filter (fun r => r.cls != 4) } }

/-- The DMC freezes: the freeze registers latch, the host and the ALM are told, and window accesses that wait complete (R340, R341). A
second fault changes nothing (R341). -/
def State.dmcFreeze (s : State) (cause cls addr path syndrome tagDiff mr expected read : Nat) : State :=
  if s.dmcState = Dmc.frozen then s
  else
    let s1 := (s.setFld F.DMC_STATUS.STATE Dmc.frozen).setFlag F.DMC_STATUS.FROZEN true
    let s2 := s1.setReg R.DMC_FRZ_CAUSE (w32 (cause + 8 * cls + 256 * mr + 2 ^ 16 * expected + 2 ^ 24 * read))
    let s3 := ((s2.setReg64 R.DMC_FRZ_ADDR_LO R.DMC_FRZ_ADDR_HI addr).setReg R.DMC_FRZ_REQ (w32 path)).setReg R.DMC_FRZ_SYND
      (w32 (syndrome + 1024 * tagDiff))
    let s4 := ((List.range 32).zip (s3.dmc.hist ++ List.replicate 32 (0, 0))).foldl (fun a e =>
      (a.setReg (R.DMC_HISTi_LO e.1) (w32 e.2.1)).setReg (R.DMC_HISTi_HI e.1) (w32 e.2.2)) s3
    let s5 : State := { s4 with dmc := { s4.dmc with scrub := none } }
    let s6 := (s5.post .dmc (cause + 1) 0).raise .dmc F.DMC_IRQ_STATUS.FROZEN
    ((s6.almEvent Hist.dmcFreeze 13 (cause + 1) (leBytes 4 (s6.reg R.DMC_FRZ_CAUSE).toNat ++ leBytes 8 addr ++ leBytes 4 path)).dmcFails
      (cause + 1)).dropWindow

/-! ### Requests (R322-R325) -/

/-- The DMC domain is in DOZE or KEEP, or in a step into either (17 Table 17-3). -/
def State.dmcLow (s : State) : Bool :=
  inRange 1 2 (s.domState 9)
    || (s.flag (F.PMU_DOMd_STATUS.BUSY 9) && inRange 1 2 (stepDest (s.domState 9) (s.fld (F.PMU_DOMd_STATUS.TARGET 9))))

/-- A request reaches the port: where the domain is in DOZE or KEEP or on its way there, the DMC_PORT hold brings it to RUN (17 Table
17-3), and self-refresh is left (R338). A domain in OFF is not woken. -/
def State.dmcTouch (s : State) : State :=
  let s1 := s.srWake
  if s1.pmu.dmcPortHold ∨ !s1.dmcLow then s1 else ({ s1 with pmu := { s1.pmu with dmcPortHold := true } }).repower

/-- The DMC serves requests: READY, and its domain in RUN. -/
def State.dmcServes (s : State) : Bool := s.dmcState == Dmc.ready && s.domOn 9

/-- One unit is read for a requester: corrected data is counted, latched and written back; anything worse freezes
the DMC and returns nothing (R322). -/
def State.readUnit (s : State) (path cls u : Nat) : State × Option Bytes :=
  let s1 := (s.burst (unitPhys u) cls false).cacheIn (unitGroup u) cls
  match eccDecode (32 * u) (s1.rawData u) (s1.unitCheck u) with
  | .good d => (s1, some d)
  | .corrected d =>
    let s2 := (s1.count F.DMC_ECC_CORR.COUNT 1).setReg64 R.DMC_ECC_ADDR_LO R.DMC_ECC_ADDR_HI (32 * u)
    let s3 := (s2.post .dmc DmcCode.eccCorr 0).raise .dmc F.DMC_IRQ_STATUS.ECC_CORR
    (if s3.flag F.DMC_ECC_CFG.WRITEBACK then (s3.burst (unitPhys u) 6 true).putUnit u d else s3, some d)
  | .bad sy tg => (s1.dmcFreeze 1 cls (32 * u) path sy tg 0 0 0, none)

/-- Units are read one after another until one cannot be. -/
def State.readUnits (path cls : Nat) : List Nat → State → State × Option Bytes
  | [], s => (s, some [])
  | u :: us, s =>
    let r := s.readUnit path cls u
    match r.2 with
    | none => (r.1, none)
    | some d =>
      let r2 := State.readUnits path cls us r.1
      (r2.1, r2.2.map (d ++ ·))

/-- Units that a span of device addresses touches. -/
def unitsOf (a n : Nat) : List Nat := if n = 0 then [] else (List.range ((a + n - 1) / 32 + 1 - a / 32)).map (· + a / 32)

/-- Device memory is read. -/
def State.deviceRead (s : State) (path cls a n : Nat) : State × Option Bytes :=
  let r := State.readUnits path cls (unitsOf a n) s
  (r.1, r.2.map (fun d => (d.drop (a % 32)).take n))

/-- The port grants a request that meets no other: it is the last winner of its class (01 R58). -/
def State.portGrant (s : State) (path cls : Nat) : State :=
  match arbPick s.dmc.winners [⟨path, cls, 0⟩] with
  | some (_, w) => { s with dmc := { s.dmc with winners := w } }
  | none => s

/-- A requester reads device memory through the port. -/
def State.dramRead (s : State) (path cls a n : Nat) : State × Option Bytes := (s.portGrant path cls).deviceRead path cls a n

/-- One unit is written: whole at once, else read, merged and written back (R323). `off` is the first byte. -/
def State.writeUnit (s : State) (path cls u off : Nat) (data : Bytes) : State :=
  if off = 0 ∧ data.length = 32 then ((s.burst (unitPhys u) cls true).cacheIn (unitGroup u) cls).putUnit u data
  else
    let r := s.readUnit path cls u
    match r.2 with
    | none => r.1
    | some d => (r.1.burst (unitPhys u) cls true).putUnit u (d.take off ++ data ++ d.drop (off + data.length))

/-- Bytes go to device memory unit by unit; a freeze ends the write. -/
def State.writeUnits (path cls : Nat) : Nat → Nat → Bytes → State → State
  | 0, _, _, s => s
  | k + 1, a, data, s =>
    if data.isEmpty ∨ s.dmcState = Dmc.frozen then s
    else
      let n := 32 - a % 32
      State.writeUnits path cls k (a + n) (data.drop n) (s.writeUnit path cls (a / 32) (a % 32) (data.take n))

/-- Device memory is written. -/
def State.deviceWrite (s : State) (path cls a : Nat) (data : Bytes) : State :=
  State.writeUnits path cls (data.length / 32 + 2) a data s

/-- A requester writes device memory through the port. -/
def State.dramWrite (s : State) (path cls a : Nat) (data : Bytes) : State := (s.portGrant path cls).deviceWrite path cls a data

/-- Every eighth that a span of device memory touches is filled, and the DMC serves (R339). -/
def State.spanReady (s : State) (a n : Nat) : Bool :=
  s.dmcServes && (s.dmc.unfilled.isEmpty || (unitsOf a n).all (fun u => !s.dmc.unfilled.contains (s.eighthOf (unitPhys u))))

/-- An on-chip requester acts on a span of device memory, or its request stalls at the port (01 R59, R338, R339). -/
def State.withDram (s : State) (a n : Nat) (act : State → State) : State := if s.spanReady a n then act s else s.dmcTouch

/-- Spans of device memory, address and length, are read one after another. -/
def State.readSpans (path cls : Nat) : List (Nat × Nat) → State → State × Option Bytes
  | [], s => (s, some [])
  | x :: rest, s =>
    let r := s.dramRead path cls x.1 x.2
    match r.2 with
    | none => (r.1, none)
    | some d =>
      let r2 := State.readSpans path cls rest r.1
      (r2.1, r2.2.map (d ++ ·))

/-- Bytes go to spans of device memory in turn. -/
def State.writeSpans (path cls : Nat) : List (Nat × Nat) → Bytes → State → State
  | [], _, s => s
  | x :: rest, d, s => State.writeSpans path cls rest (d.drop x.2) (s.dramWrite path cls x.1 (d.take x.2))

/-- A request may be served now: the DMC serves, and every eighth it touches is filled (R339). -/
def State.dmcCan (s : State) (r : DramReq) : Bool := s.spanReady r.addr (if r.write then r.data.length else r.len)

/-- A request is served: a read gives its data to the requester. A read of the scrubber moves its pass on and gives nothing (R327). An
access of the host window that itself freezes the DMC completes as R59 says. -/
def State.dmcServe (s : State) (r : DramReq) : State :=
  let stopped (a : State) : Bool := decide (r.cls = 4) && a.dmcState == Dmc.frozen
  if r.write then
    let a := s.deviceWrite r.path r.cls r.addr r.data
    if stopped a then a.frozenWindow true r.addr r.data.length else a
  else
    let x := s.deviceRead r.path r.cls r.addr r.len
    let s1 := x.1
    match x.2 with
    | some d =>
      if r.path ≠ dmcPath then s1.give (.readData r.addr (leNat d))
      else if s1.dmc.scrub = some r.addr then
        { s1 with dmc := { s1.dmc with scrub := if r.addr + r.len ≥ s1.deviceTop then none else some (r.addr + r.len) } }
      else s1
    | none => if stopped s1 then s1.frozenWindow false r.addr r.len else s1

/-- A waiting request as the port's arbiter sees it, `n` grants into the present round (01 R58). -/
def State.portReq (s : State) (n : Nat) (r : DramReq) : ArbReq :=
  ⟨r.path, r.cls, (s.now - r.since) * 8000 / s.tCtl + n⟩

/-- The port grants one request after another, while any can be served, in the order of R57 and R58; the others stay. `n` counts
the grants of this round. -/
def State.dmcGrants : Nat → Nat → State → State
  | 0, _, s => s
  | k + 1, n, s =>
    let rs := s.dmc.waiting.filter s.dmcCan
    match arbPick s.dmc.winners (rs.map (s.portReq n)) with
    | none => s
    | some (i, w) =>
      match rs[i]? with
      | none => s
      | some r => State.dmcGrants k (n + 1) (({ s with dmc := { s.dmc with waiting := s.dmc.waiting.erase r, winners := w } }).dmcServe r)

/-- The DMC turns to what waits. -/
def State.dmcResume (s : State) : State := State.dmcGrants s.dmc.waiting.length 0 s

/-- A request reaches the port and waits for its grant. -/
def State.dmcEnqueue (s : State) (r : DramReq) : State :=
  let s1 := s.dmcTouch
  ({ s1 with dmc := { s1.dmc with waiting := s1.dmc.waiting ++ [r] } }).dmcResume

/-- DMC_REQUEST: a request of a requester inside the device addresses is granted and served, or waits for its grant; `flips` are
bits that the DRAM has lost in the first unit by then (R322, R325, R341). While the DMC is OFF the device addresses are not known yet, and
every request waits (R345). -/
def execDmcRequest (path : Word) (cls : Fin 6) (write : Bool) (addr : Nat) (data : Bytes) (len : Nat) (flips : List Nat)
    (s : State) : Host.Outcome State Fault Refusal :=
  let s0 := s.flipBits (addr / 32) flips
  .next (if s0.dmcState ≠ Dmc.off ∧ addr + (if write then data.length else len) > s0.deviceTop then s
    else if cls.val = 4 ∧ s0.dmcState = Dmc.frozen then s0.frozenWindow write addr len
    else s0.dmcEnqueue ⟨path.toNat, cls.val, write, addr, data, len, s.now⟩)

/-! ### Initialisation (R328, R329) -/

/-- The checks of R328: offset / 4 of the first failing register. -/
def State.dmcCheck (s : State) : Option Nat :=
  let zero (fs : List Fld) : Bool := fs.any (fun f => s.fld f == 0)
  if s.fld F.DMC_GEOM.DENSITY = 3 ∨ s.fld F.DMC_GEOM.DATA_RATE ≥ 5 then some 3
  else if zero [F.DMC_TIMING0.TRCD, F.DMC_TIMING0.TRPPB, F.DMC_TIMING0.TRPAB, F.DMC_TIMING0.TRAS] then some 4
  else if zero [F.DMC_TIMING1.TFAW, F.DMC_TIMING1.TRRD, F.DMC_TIMING1.TWR, F.DMC_TIMING1.TWTR] then some 5
  else if zero [F.DMC_TIMING2.RL, F.DMC_TIMING2.WL, F.DMC_TIMING2.TRTP, F.DMC_TIMING2.TRFCAB] then some 6
  else if zero [F.DMC_TIMING3.TREFI, F.DMC_TIMING3.TXSR] then some 7
  else if (s.fld F.DMC_REF_CFG.MODE = 1 ∧ s.fld F.DMC_REF_CFG.FIXED_INTERVAL = 0) ∨ s.fld F.DMC_REF_CFG.MR4_POLL = 0 then some 8
  else none

/-- Table 11-3 starts: the interval timers and the polls count from the start of the fill, 3.000 ms later (log entry 174). -/
def State.dmcBegin (s : State) : State :=
  let starts := (List.range s.ranks).map (fun r => (r, s.now + 3 * msec))
  let g : DmcSt := { s.dmc with
    dram := [], rows := [], unfilled := [], exitPending := false, keepPending := false, cache := [], winners := [], refAt := starts, rowAt := []
    pollAt := starts, zqAt := s.now, zqPend := [], delays := [], delayDue := [], scrub := none }
  ({ s with dmc := g }).setFld F.DMC_STATUS.STATE Dmc.init

/-- DMC_CTRL.INIT. -/
def State.dmcInit (s : State) : State :=
  if s.dmcState ≠ Dmc.off then s.post .dmc DmcCode.busy 0
  else match s.dmcCheck with
    | some d => s.post .dmc DmcCode.badConfig d
    | none => s.dmcBegin.show .dmc 0 0

/-- The commands of Table 11-3 that the spec names: MR8 of each rank and channel is read, giving a free byte, and each rank is calibrated
(log entry 174). -/
def State.initCmds (s : State) : State :=
  let mr8 (a : State) (r c : Nat) : State :=
    let x := a.freeBytes 1
    x.2.dmcCmd 8 (16 * c + 32 * r + 2 ^ 9 * leNat x.1 + 2 ^ 17 * 8) 6
  let s1 := (List.range s.ranks).foldl (fun a r => mr8 (mr8 a r 0) r 1) s
  (List.range s.ranks).foldl (fun a r => a.dmcCmd 11 (32 * r) 6) s1

/-- One step of the LFSR x^31 + x^28 + 1, and the next 8 bits of its sequence, the first in bit 0 (R329; log entry 175). -/
def lfsrStep (x : Nat) : Nat := x * 2 % 2 ^ 31 + (x / 2 ^ 30 + x / 2 ^ 27) % 2
def lfsrByte : Nat → Nat → Nat → Nat × Nat
  | 0, _, x => (0, x)
  | k + 1, i, x => let r := lfsrByte k (i + 1) (lfsrStep x); (x / 2 ^ 30 % 2 * 2 ^ i + r.1, r.2)
def lfsrBytes : Nat → Nat → Bytes
  | 0, _ => []
  | n + 1, x => let r := lfsrByte 8 0 x; BitVec.ofNat 8 r.1 :: lfsrBytes n r.2

/-- The training check writes its sequence to the first 4 KiB of each rank on each channel (R329). -/
def State.checkFill (s : State) : State :=
  let b := lfsrBytes 4096 0x4810
  let m := (List.range s.ranks).foldl (fun m r => (List.range 2).foldl (fun m c => (List.range 16).foldl (fun m k =>
    memPut dramDflt m (r * s.rankBytes + 512 * k + 256 * c) ((b.drop (256 * k)).take 256)) m) m) s.dmc.dram
  { s with dmc := { s.dmc with dram := m } }

/-- The sequence ends well: DRAM is filled with zeros, the DMC is READY, requests beyond the installed devices go, and a held KEEP entry
starts. -/
def State.dmcReady (s : State) : State :=
  let inside (r : DramReq) : Bool := decide (r.addr + (if r.write then r.data.length else r.len) ≤ s.deviceTop)
  let g : DmcSt := { s.dmc with dram := [], keepPending := false, waiting := s.dmc.waiting.filter inside, scrubAt := s.now }
  (({ s with dmc := g }).setFld F.DMC_STATUS.STATE (if s.dmc.keepPending then Dmc.srEntry else Dmc.ready)).raise .dmc F.DMC_IRQ_STATUS.READY

/-- What the initialisation sequence finds (R329): it passes, a training stage does not converge, the training check reads a unit back
wrong, or mode register `mr` reads back wrong. -/
def State.dmcTrained (s : State) (check : TrainCheck) (mrr : Option (Nat × Nat × Nat)) : State :=
  if s.dmcState ≠ Dmc.init then s
  else match mrr with
    | some (mr, e, r) =>
      (if mr = 8 then s else s.dmcCmd 7 (2 ^ 9 * (e % 256) + 2 ^ 17 * mr) 6).dmcCmd 8 (2 ^ 9 * (r % 256) + 2 ^ 17 * mr) 6 |>.dmcFreeze 2 6 0 dmcPath 0 0 mr e r
    | none => match check with
      | .passes => s.initCmds.dmcReady
      | .stage => s.initCmds.dmcFreeze 3 6 0 dmcPath 0 0 0 0 0
      | .mismatch addr =>
        (s.initCmds.checkFill.dmcCmd 2 (s.cmdBits (unitPhys (addr / 32))) 6).dmcFreeze 3 6 (addr / 32 * 32) dmcPath 0 0 0 0 0

/-- DMC_COUNT_CLR. -/
def State.dmcCountClr (s : State) : State := (s.setReg R.DMC_ECC_CORR 0).setReg R.DMC_REF_FORCED 0

/-- DMC_COUNT_CLR. -/
def execDmcCountClr (src : Src) (s : State) : Host.Outcome State Fault Refusal :=
  .next (s.onUnit (.reg src) .dmc R.DMC_CTRL State.dmcCountClr)

/-- A scrub pass starts (R327); a frozen DMC does not scrub (R341). -/
def State.scrubStart (s : State) : State :=
  if s.dmcState = Dmc.frozen then s else { s with dmc := { s.dmc with scrub := some 0 } }

/-- SCRUB_NOW. -/
def execScrubNow (src : Src) (s : State) : Host.Outcome State Fault Refusal :=
  .next (s.onUnit (.reg src) .dmc R.DMC_CTRL State.scrubStart)

/-- The scrub period in fast samples: PERIOD hours, 0 acting as 1. -/
def State.scrubPeriod (s : State) : Nat := max 1 (s.fld F.DMC_ECC_CFG.PERIOD) * 3600000 * msec

/-- SCRUB_PERIOD: PERIOD hours have passed since the period began; the next one begins, with a pass (R327). -/
def execScrubPeriod (t : Nat) (s : State) : Host.Outcome State Fault Refusal :=
  let s0 := s.at_ t
  .next (if s0.flag F.DMC_ECC_CFG.SCRUB_EN && s0.dmcServes && decide (s0.dmc.scrubAt + s0.scrubPeriod ≤ s0.now) then
      ({ s0 with dmc := { s0.dmc with scrubAt := s0.now } }).scrubStart
    else s0)

/-- The scrubber's next read, of one unit in class 5: made while nothing else waits at the port and the unit's eighth is filled (R327). -/
def State.scrubRead (s : State) : State :=
  match s.dmc.scrub with
  | some a => if s.dmc.waiting.isEmpty && s.spanReady a 32 then s.dmcEnqueue ⟨dmcPath, 5, false, a, [], 32, s.now⟩ else s
  | none => s

/-! ### Refresh (R331-R334) -/

/-- Rate code and owed count of a rank. -/
def State.rate (s : State) (r : Nat) : Nat := s.fld (if r = 0 then F.DMC_REF_STATUS.RATE0 else F.DMC_REF_STATUS.RATE1)
def State.owed (s : State) (r : Nat) : Nat := s.fld (if r = 0 then F.DMC_REF_STATUS.OWED0 else F.DMC_REF_STATUS.OWED1)
def State.setOwed (s : State) (r n : Nat) : State := s.setFld (if r = 0 then F.DMC_REF_STATUS.OWED0 else F.DMC_REF_STATUS.OWED1) n

/-- A refresh rate code's postponement limit and interval in quarters of TREFI (Table 11-4). -/
def refLimit (code : Nat) : Nat := if code ≥ 4 then 4 else 8
def refQuarters (code : Nat) : Nat :=
  match code with
  | 0 => 4 | 1 => 16 | 2 => 8 | 3 => 4 | 4 => 2 | _ => 1

/-- The DMC refreshes in every state but OFF and SELF_REFRESH; during INIT from the fill on, where its timers start. -/
def State.refreshing (s : State) : Bool := s.dmcState != Dmc.off && s.dmcState != Dmc.selfRefresh

/-- A rank's refresh latches a ZQ calibration that waits for it, and a change of its delays takes effect (R330). -/
def State.refLatch (s : State) (r : Nat) : State :=
  let s1 := if s.dmc.zqPend.contains r then s.dmcCmd 11 (32 * r) 6 else s
  let due := s1.dmc.delayDue.filter (·.1 = r)
  { s1 with dmc := { s1.dmc with
      zqPend := s1.dmc.zqPend.filter (· ≠ r), delays := due ++ s1.dmc.delays.filter (fun e => e.1 ≠ r || due.isEmpty)
      delayDue := s1.dmc.delayDue.filter (·.1 ≠ r) } }

/-- REFab commands issue on a rank, forced ones counted: the rank is precharged first, its rows close. -/
def State.refab (s : State) (r n : Nat) (forced : Bool) : State :=
  if n = 0 then s
  else
    let s1 : State := { s with dmc := { s.dmc with rows := s.dmc.rows.filter (fun e => decide (e.1 / 16 ≠ r)) } }
    let s2 := ((List.range n).foldl (fun a _ => a.dmcCmd 6 (32 * r) 6) (s1.dmcCmd 5 (32 * r) 6)).refLatch r
    if forced then s2.count F.DMC_REF_FORCED.COUNT n else s2

/-- Interval of a rank's timer in tCTL cycles: Table 11-4, or FIXED_INTERVAL, the smaller of both above the doubled-refresh
threshold (R331, R334). -/
def State.refInterval (s : State) (r : Nat) : Nat :=
  let q := s.fld F.DMC_TIMING3.TREFI * refQuarters (s.rate r) / 4
  let f := s.fld F.DMC_REF_CFG.FIXED_INTERVAL
  if s.flag F.DMC_REF_CFG.MODE then (if s.rate r ≥ 4 then min f q else f) else q

/-- A rank's interval timer has run out. -/
def State.refDue (s : State) (r : Nat) : Bool :=
  match s.dmc.refAt.find? (·.1 = r) with
  | some e => decide (s.refInterval r * s.tCtl ≤ (s.now - e.2) * 8000)
  | none => false

/-- REFRESH_INTERVAL: a rank's interval timer expires and starts again (R332, R334). -/
def execRefreshInterval (r : Fin 2) (t : Nat) (s : State) : Host.Outcome State Fault Refusal :=
  let u := s.at_ t
  let s0 := u.refStart r.val
  .next (if !u.refreshing ∨ r.val ≥ u.ranks ∨ !u.refDue r.val then u
    else if s0.flag F.DMC_REF_CFG.MODE then s0.refab r.val 1 true
    else if s0.owed r.val + 1 > refLimit (s0.rate r.val) then s0.refab r.val 1 true
    else s0.setOwed r.val (s0.owed r.val + 1))

/-- REFRESH_ISSUE: an owed refresh issues once the rank has been idle for 32 tCTL (R332). -/
def execRefreshIssue (r : Fin 2) (t : Nat) (s : State) : Host.Outcome State Fault Refusal :=
  let s0 := s.at_ t
  let idle := match (s0.dmc.lastReq.find? (·.1 = r.val)).map (·.2) with
    | some x => decide ((t - x) * 8000 ≥ 32 * s0.tCtl)
    | none => true
  .next (if s0.refreshing && decide (r.val < s0.ranks) && decide (0 < s0.owed r.val) && idle then
      (s0.setOwed r.val (s0.owed r.val - 1)).refab r.val 1 false
    else s0)

/-- MR4 of a rank is read on both channels (R331, Table 11-9). -/
def State.mr4Read (s : State) (r c0 c1 : Nat) : State :=
  (s.dmcCmd 8 (32 * r + 2 ^ 9 * c0 + 2 ^ 17 * 4) 6).dmcCmd 8 (16 + 32 * r + 2 ^ 9 * c1 + 2 ^ 17 * 4) 6

/-- The DQS interval oscillator is read at a poll: a drift of more than 1/16 UI from the delays in force waits for the rank's next
refresh (R330, log entry 176). -/
def State.dqsRead (s : State) (r : Nat) : State :=
  let x := Config.dqsDrift s.free
  let now_ := ((s.dmc.delays.find? (·.1 = r)).map (·.2)).getD 0
  let rest := s.dmc.delayDue.filter (·.1 ≠ r)
  { s with free := s.free + 1, dmc := { s.dmc with delayDue := if (x - now_).natAbs > 16 then (r, x) :: rest else rest } }

/-- A rank's MR4 is due for a poll: MR4_POLL us have passed since the latest. -/
def State.pollDue (s : State) (r : Nat) : Bool :=
  match s.dmc.pollAt.find? (·.1 = r) with
  | some e => decide (e.2 + s.fld F.DMC_REF_CFG.MR4_POLL * usec ≤ s.now)
  | none => false

/-- A code in force changes: excess refreshes issue, the interval timer starts anew, and entry above the doubled-refresh threshold is
told (R333, Table 11-4). -/
def State.rateTake (s : State) (r code : Nat) : State :=
  let old := s.rate r
  let s1 := s.setFld (if r = 0 then F.DMC_REF_STATUS.RATE0 else F.DMC_REF_STATUS.RATE1) code
  let s2 := if s1.owed r > refLimit code then (s1.refab r (s1.owed r - refLimit code) true).setOwed r (refLimit code) else s1
  let s3 := if old = code then s2 else s2.refStart r
  if old < 4 ∧ code ≥ 4 then s3.raise .dmc F.DMC_IRQ_STATUS.TEMP_HOT else s3

/-- MR4_POLL: the rank takes the code of the shorter interval of its two channels, the higher code where they are
equal; 0b000 or 0b111 read on either raises TEMP_LIMIT (R331, R333, log entry 41). -/
def execMr4Poll (r : Fin 2) (c0 c1 : Fin 8) (t : Nat) (s : State) : Host.Outcome State Fault Refusal :=
  let s0 := s.at_ t
  let code := if refQuarters c0.val < refQuarters c1.val then c0.val
    else if refQuarters c1.val < refQuarters c0.val then c1.val else max c0.val c1.val
  let limit := [c0.val, c1.val].any (fun c => c == 0 || c == 7)
  .next (if !s0.refreshing ∨ r.val ≥ s0.ranks ∨ !s0.pollDue r.val then s0
    else
      let s1 : State := { s0 with dmc := { s0.dmc with pollAt := (r.val, s0.now) :: s0.dmc.pollAt.filter (·.1 ≠ r.val) } }
      let s2 := ((s1.mr4Read r.val c0.val c1.val).dqsRead r.val).rateTake r.val code
      if limit then (s2.post .dmc DmcCode.tempLimit 0).raise .dmc F.DMC_IRQ_STATUS.TEMP_LIMIT else s2)

/-- ZQ_CALIBRATION: 128 ms after the latest a calibration starts on each rank; its result waits for the rank's next refresh (R330). -/
def execZqCalibration (s : State) : Host.Outcome State Fault Refusal :=
  .next (if s.dmcState = Dmc.ready ∧ s.dmc.zqAt + 128 * msec ≤ s.now then
      let s1 := (List.range s.ranks).foldl (fun a r => a.dmcCmd 11 (32 * r) 6) s
      { s1 with dmc := { s1.dmc with zqAt := s.now, zqPend := List.range s.ranks } }
    else s)

/-- Instant of the latest access to a bank's open row. -/
def State.rowUsed (s : State) (k : Nat) : Nat := ((s.dmc.rowAt.find? (·.1 = k)).map (·.2)).getD 0

/-- ROW_IDLE_CLOSE: a row of a bank that has seen no access for IDLE_CLOSE x 8 tCTL is precharged (R326). -/
def execRowIdleClose (bank : Fin 32) (t : Nat) (s : State) : Host.Outcome State Fault Refusal :=
  let s0 := s.at_ t
  let wait := s0.fld F.DMC_PAGE_CFG.IDLE_CLOSE * 8 * s0.tCtl
  .next (if wait = 0 ∨ !s0.dmc.rows.any (·.1 = bank.val) ∨ (s0.now - s0.rowUsed bank.val) * 8000 < wait then s0
    else ({ s0 with dmc := { s0.dmc with rows := s0.dmc.rows.filter (·.1 ≠ bank.val) } }).dmcCmd 4
      (16 * (bank.val / 8 % 2) + 32 * (bank.val / 16) + 64 * (bank.val % 8)) 6)

/-! ### Self-refresh (R335-R339) -/

/-- Eighths retained in self-refresh, eighth 7 of rank 0 while it holds the ACTIVE bank (R336). -/
def State.retains (s : State) (e : Nat) : Bool :=
  (if e < 8 then bitAt (s.fld F.DMC_PASR.KEEP0) e else bitAt (s.fld F.DMC_PASR.KEEP1) (e - 8))
    || (e == 7 && s.flag F.SIL_STATE.ACTIVE_COPY)

/-- The eighths of the installed ranks. -/
def State.eighths (s : State) : List Nat := List.range (8 * s.ranks)

/-- The contents of an eighth are lost. -/
def State.loseEighth (s : State) (e : Nat) : State :=
  { s with dmc := { s.dmc with dram := tabDrop (fun p => s.eighthOf p == e) s.dmc.dram } }

/-- Steps 1 to 3 of entry: the cache goes back, all banks are precharged, and every owed refresh issues (R337). -/
def State.srFlush (s : State) : State :=
  (List.range s.ranks).foldl (fun a r => ((a.dmcCmd 5 (32 * r) 6).refab r (a.owed r) false).setOwed r 0) (s.cacheBack s.dmc.cache)

/-- The mask of a rank's eighths that self-refresh does not retain (R336). -/
def State.srMask (s : State) (r : Nat) : Nat := ((List.range 8).filter (fun e => !s.retains (8 * r + e))).foldl (fun a e => a + 2 ^ e) 0

/-- Step 4 of entry on a rank: the mask goes to MR17, which reads back `read`. -/
def State.srMr17 (s : State) (read : List Nat) (r : Nat) : State :=
  let mr (v : Nat) : Nat := 32 * r + 2 ^ 9 * (v % 256) + 2 ^ 17 * 17
  (s.dmcCmd 7 (mr (s.srMask r)) 6).dmcCmd 8 (mr (read[r]?.getD 0)) 6

/-- Step 5 of entry: SRE on each rank; unretained eighths are lost, and wait for their fill with those not filled yet (R336, R339). -/
def State.srDone (s : State) : State :=
  let gone := s.eighths.filter (fun e => !s.retains e)
  let s1 := gone.foldl State.loseEighth ((List.range s.ranks).foldl (fun a r => a.dmcCmd 9 (32 * r) 6) s)
  ({ s1 with dmc := { s1.dmc with unfilled := s1.eighths.filter (fun e => gone.contains e || s1.dmc.unfilled.contains e), rows := [] } }).setFld
    F.DMC_STATUS.STATE Dmc.selfRefresh

/-- SR_ENTRY: entry completes; MR17 reads back `read` for each rank, and a difference freezes the DMC in step 4. A request or wake that
arrived meanwhile starts the exit at once (R329, R337, R338). -/
def execSrEntry (read : List Nat) (s : State) : Host.Outcome State Fault Refusal :=
  .next (if s.dmcState ≠ Dmc.srEntry then s
    else
      let s1 := s.srFlush
      match (List.range s.ranks).find? (fun r => read[r]?.getD 0 ≠ s.srMask r) with
      | some r => ((List.range (r + 1)).foldl (fun a i => a.srMr17 read i) s1).dmcFreeze 2 6 0 dmcPath 0 0 17 (s.srMask r) (read[r]?.getD 0 % 256)
      | none =>
        let s2 := ((List.range s.ranks).foldl (fun a i => a.srMr17 read i) s1).srDone
        if s.dmc.exitPending then ({ s2 with dmc := { s2.dmc with exitPending := false } }).srxIssue else s2)

/-- Exit ends: the DMC is READY (R338). -/
def State.srLeave (s : State) : State :=
  ({ s with dmc := { s.dmc with scrubAt := s.now } }).setFld F.DMC_STATUS.STATE Dmc.ready

/-- An eighth has been filled: every unit holds zero data and its check word (R328, R339). -/
def State.eighthFilled (s : State) (e : Nat) : State :=
  let s1 := s.loseEighth e
  { s1 with dmc := { s1.dmc with
      unfilled := s1.dmc.unfilled.filter (· ≠ e), cache := s1.dmc.cache.filter (fun x => s.eighthOf (groupCheck x.1) ≠ e) } }

/-! ### The diagnostic window (R342) -/

/-- A raw burst. -/
def State.rawBurst (s : State) (p : Nat) : Bytes := memBytes dramDflt s.dmc.dram (p / 32 * 32) 32

/-- The window serves in READY and FROZEN. -/
def State.diagServes (s : State) : Bool := s.dmcState == Dmc.ready || s.dmcState == Dmc.frozen

/-- A read of the window enters the history in class 7 (Table 11-9). -/
def State.diagCmd (s : State) (p : Nat) : State := s.dmcCmd 2 (s.cmdBits p) 7

/-- READ of the window at a physical address: the burst enters DMC_DIAG_DATA (R342). -/
def State.dmcDiagAt (s : State) (p : Nat) : State :=
  let b := s.rawBurst p
  ((List.range 8).foldl (fun a i => a.setReg (R.DMC_DIAG_DATAi i) (w32 (field b (4 * i) 4))) (s.diagCmd p)).setFlag F.DMC_DIAG_CTRL.REFUSED false

/-- The refusal of a READ (R342, Table 11-6). -/
def State.dmcDiagRefuse (s : State) : State := s.setFlag F.DMC_DIAG_CTRL.REFUSED true

/-- A read through the registers. -/
def State.dmcDiag (s : State) : State :=
  if s.diagServes then s.dmcDiagAt (s.reg64 R.DMC_DIAG_ADDR_LO R.DMC_DIAG_ADDR_HI) else s.dmcDiagRefuse.post .dmc DmcCode.busy 0

/-- DMC_DIAG_READ: the same request by register and by message, whose address its payload gives (R342, 18 R475). -/
def execDmcDiagRead (via : Via) (s : State) : Host.Outcome State Fault Refusal :=
  .next (s.withRequest via [0x0904] (fun s => s.onUnit via .dmc R.DMC_DIAG_CTRL (fun s =>
    match via with
    | .reg _ => s.dmcDiag
    | .msg _ _ =>
      let a := field (s.payload via) 0 8
      if s.diagServes then (s.dmcDiagAt a).finish via .dmc 0 0 (s.rawBurst a)
      else s.dmcDiagRefuse.finish via .dmc DmcCode.busy 0)))

end Sys2Proof.Machine
end

