-- ==== Sys2Proof/Machine/Messages.lean ====
section
/-! DEFINITION. Limium messages: the opcode table with payload sizes and ranges (18 Table 18-4), the slot
checks, violations and quarantine (R469-R472), and the reading of a submission ring (R465, R466). -/

namespace Sys2Proof.Machine

/-- Payload bytes of a request, given the payload as it stands in the slot (for the opcodes whose payload
carries its own COUNT); none for an opcode that is not in Table 18-4. ECHO takes what LENGTH gives. -/
def payloadSize (op : Nat) (p : Bytes) : Option Nat :=
  match op with
  | 0x0101 => some 24 | 0x0102 => some 8 | 0x0103 => some 8 | 0x0104 => some p.length
  | 0x0201 => some 8 | 0x0202 => some 24 | 0x0203 => some 16 | 0x0204 => some 0 | 0x0205 => some 0 | 0x0206 => some 0
  | 0x0301 => some 0 | 0x0302 => some 0 | 0x0303 => some 16 | 0x0304 => some 8
  | 0x0401 => some 0 | 0x0402 => some (4 + 4 * field p 2 1) | 0x0403 => some 8 | 0x0404 => some 24 | 0x0405 => some 24
  | 0x0501 => some 24 | 0x0502 => some 8 | 0x0503 => some 8
  | 0x0601 => some 12 | 0x0602 => some 8 | 0x0603 => some 8 | 0x0604 => some 8 | 0x0605 => some 8
  | 0x0701 => some 24 | 0x0702 => some 8 | 0x0703 => some 0 | 0x0704 => some 8 | 0x0705 => some 0
  | 0x0801 => some 8 | 0x0802 => some 32 | 0x0803 => some 0 | 0x0804 => some 16 | 0x0805 => some 16
  | 0x0901 => some 8 | 0x0902 => some (8 + 4 * field p 4 4) | 0x0903 => some 36 | 0x0904 => some 8
  | 0x0A01 => some 0
  | _ => none

/-- `k` bytes from an offset are 0. -/
def zeroAt (p : Bytes) (off k : Nat) : Bool := field p off k == 0

/-- A host buffer at an offset keeps R474: ADDR and LEN multiples of 8, LEN from 8 to 1,048,576, its
reserved bytes 0. -/
def hostBufferOk (p : Bytes) (off : Nat) : Bool :=
  let a := field p off 8
  let l := field p (off + 8) 4
  a % 8 == 0 && l % 8 == 0 && decide (8 ≤ l) && decide (l ≤ 1048576) && zeroAt p (off + 12) 4

/-- The parameters of a session are in range (18 R465, SESSION_OPEN): ring sizes, alignment, WINDOW and
VECTOR. -/
def sessionOk (sq cq sql cql window vector : Nat) : Bool :=
  sq % 4096 == 0 && cq % 4096 == 0 && decide (4 ≤ sql) && decide (sql ≤ 12) && decide (4 ≤ cql) && decide (cql ≤ 12)
    && decide (1 ≤ window) && decide (window ≤ 64) && decide (window + 1 ≤ 2 ^ sql) && decide (window + 16 ≤ 2 ^ cql)
    && decide (vector ≤ 63)

/-- Reserved payload bytes are 0 and every field lies inside the range Table 18-4, or the register it feeds,
gives. -/
def fieldsOk (op : Nat) (p : Bytes) : Bool :=
  match op with
  | 0x0101 => sessionOk (field p 0 8) (field p 8 8) (field p 16 1) (field p 17 1) (field p 18 1) (field p 19 1) && zeroAt p 20 4
  | 0x0102 => zeroAt p 1 7
  | 0x0103 => zeroAt p 1 3
  | 0x0201 => decide (field p 4 4 ≤ 1)
  | 0x0202 => decide (field p 4 4 ≤ 1) && hostBufferOk p 8
  | 0x0203 => decide (field p 0 1 ≤ 1) && zeroAt p 1 7 && decide (field p 8 8 < 2 ^ 48)
  | 0x0303 => decide (field p 0 1 ≤ 2) && zeroAt p 1 7
  | 0x0304 => decide (field p 0 4 < 2 ^ 26) && decide (field p 4 4 < 2 ^ 13)
  | 0x0402 => decide (field p 0 1 ≤ 15) && decide (1 ≤ field p 2 1) && decide (field p 2 1 ≤ 8)
      && decide (field p 1 1 + field p 2 1 ≤ 64) && zeroAt p 3 1
  | 0x0403 => decide (1 ≤ field p 0 1) && decide (field p 0 1 ≤ 3) && zeroAt p 1 7
  | 0x0404 => decide (field p 0 4 ≤ 1) && zeroAt p 4 4 && hostBufferOk p 8
  | 0x0405 => zeroAt p 4 4 && hostBufferOk p 8
  | 0x0501 => decide (field p 0 2 ≤ 4095) && decide (field p 4 1 ≤ 1) && decide (field p 6 1 ≤ 1) && zeroAt p 7 1
      && (field p 4 1 == 0 || zeroAt p 8 8) && decide (field p 16 1 ≤ 15) && inRange 1 15 (field p 17 1) && zeroAt p 18 6
  | 0x0502 => decide (field p 0 2 < 4096) && zeroAt p 2 6
  | 0x0503 => decide (field p 0 2 < 4096) && decide (field p 2 1 ≤ 3) && zeroAt p 3 5
  | 0x0601 => decide (field p 0 1 ≤ 63) && decide (field p 1 1 ≤ 1) && zeroAt p 2 2
      && decide (field p 4 4 < 2 ^ 24) && decide (field p 8 4 < 2 ^ 24)
  | 0x0602 => decide (field p 0 1 ≤ 63) && zeroAt p 1 7
  | 0x0603 => decide (field p 0 1 ≤ 63) && zeroAt p 1 7
  | 0x0604 => decide (field p 0 1 ≤ 63) && zeroAt p 1 3 && decide (field p 4 4 < 2 ^ 24)
  | 0x0605 => decide (field p 0 1 ≤ 63) && zeroAt p 1 7
  | 0x0701 => hostBufferOk p 8
  | 0x0704 => field p 0 4 == 0x464F524D && zeroAt p 4 4
  | 0x0801 => decide (field p 0 1 ≤ 1) && zeroAt p 1 1 && decide (field p 2 2 < 4096)
  | 0x0802 => decide (field p 0 1 ≤ 1) && zeroAt p 1 1 && decide (field p 2 2 < 4096) && decide (field p 8 4 ≤ 1)
      && zeroAt p 12 4 && hostBufferOk p 16
  | 0x0804 => hostBufferOk p 0
  | 0x0805 => hostBufferOk p 0
  | 0x0901 => field p 0 4 % 4 == 0 && decide (1 ≤ field p 4 4) && decide (field p 4 4 ≤ 8)
      && decide (field p 0 4 + 4 * field p 4 4 ≤ 0x1000000)
  | 0x0902 => field p 0 4 % 4 == 0 && decide (1 ≤ field p 4 4) && decide (field p 4 4 ≤ 8)
      && decide (field p 0 4 + 4 * field p 4 4 ≤ 0x1000000)
  | 0x0903 => decide (field p 0 1 ≤ 31) && decide (field p 2 1 ≤ 32) && zeroAt p 3 1
  | 0x0904 => decide (field p 0 8 < 2 ^ 33)
  | _ => true

/-- NAK codes of 18 Table 18-2. -/
inductive Nak where
  | badLength | unknownOpcode | outOfWindow | duplicate | malformed | windowOverflow | quarantined
  deriving DecidableEq, Repr

/-- Code of a NAK (18 Table 18-2). -/
def Nak.code : Nak → Nat
  | .badLength => 1 | .unknownOpcode => 2 | .outOfWindow => 3 | .duplicate => 4 | .malformed => 5
  | .windowOverflow => 6 | .quarantined => 7

/-- R470: where a request's SEQ stands against the expected one. -/
def seqCheck (expect seq : Word) (window : Nat) : Option Nak :=
  let d := (seq - expect).toInt
  if d = 0 then none else if -(window : Int) ≤ d ∧ d < 0 then some .duplicate else some .outOfWindow

/-- The slot checks of R469, first failure; none accepts. `n` is the ring's session and `outstanding` its
accepted but unanswered requests. -/
def slotCheck (n outstanding : Nat) (x : Session) (slot : Bytes) : Option Nak :=
  let len := field slot 0 2
  let op := field slot 2 2
  let pay := (slot.take len).drop 16
  if x.quarantined then some .quarantined
  else if outstanding + 1 > x.window then some .windowOverflow
  else if len < 16 ∨ len > 64 ∨ len % 8 ≠ 0 then some .badLength
  else match payloadSize op pay with
    | none => some .unknownOpcode
    | some p =>
      if len ≠ 16 + 8 * ((p + 7) / 8) then some .badLength
      else match seqCheck x.expect (w32 (field slot 8 4)) x.window with
        | some k => some k
        | none =>
          if field slot 4 1 ≠ n ∨ field slot 5 1 ≥ 16 ∨ (op / 256 = 1 ∧ field slot 5 1 ≠ 0) ∨ field slot 6 2 ≠ 0
            ∨ field slot 12 4 ≠ 0 ∨ !zeroAt pay p (pay.length - p) ∨ !fieldsOk op pay then some .malformed
          else none

/-- One second of the monotonic count (14 R389). -/
abbrev second : Nat := 1250000000

/-- A violation enters the violation log (18 R472, Table 18-3). -/
def State.logViolation (s : State) (w0 : Nat) (seq : Word) (member : Nat) (chorus : Bool) : State :=
  let e : List Word := [w32 w0, seq, w32 s.frame,
    w32 (s.frame / 2 ^ 32 % 65536 + 65536 * (member % 16) + (if chorus then 2 ^ 20 else 0) + 2 ^ 31)]
  let full := decide (s.hif.vlog.length ≥ 1024)
  let s1 : State := { s with hif := { s.hif with vlog := lastN 1024 (s.hif.vlog ++ [e]) } }
  let s2 := if full then s1.count F.HIF_VLOG_STAT.OVERFLOW 1 else s1
  s2.raise .hif F.HIF_IRQ_STATUS.VIOLATION

/-- A session commits a violation: counted, logged, and quarantined when it falls within 1 s of the
violation 64 before it (18 R471, R472). -/
def State.violate (s : State) (n : Nat) (k : Nak) (op : Nat) (seq : Word) (member : Nat) : State :=
  match s.session n with
  | none => s
  | some x =>
    let q := match x.hist[63]? with
      | some t => decide (s.now - t ≤ second)
      | none => false
    let s1 := s.setSession n { x with viol := satSucc 65535 x.viol, hist := (s.now :: x.hist).take 64,
                                      quarantined := x.quarantined || q }
    let s2 := s1.logViolation (n + 256 * k.code + 65536 * op) seq member false
    if q && !x.quarantined then s2.raise .hif F.HIF_IRQ_STATUS.QUARANTINE else s2

/-- A slot is answered with a NAK: the request's own SEQ, SOURCE 18, and EXPECTED and OPCODE in the payload
(18 R469). -/
def State.nak (s : State) (n : Nat) (x : Session) (slot : Bytes) (k : Nak) : State :=
  let r : Req := ⟨.session 0, w32 (field slot 8 4), field slot 2 2, field slot 5 1, [], false, (field slot 4 1, w32 (field slot 8 4))⟩
  s.putAnswer n (answerSlot r true false k.code 18 0
    (leBytes 4 x.expect.toNat ++ leBytes 2 (field slot 2 2) ++ [0, 0]))

/-- Requests of a session that are accepted and not answered. -/
def State.outstanding (s : State) (n : Fin 256) : Nat :=
  (s.hif.reqs.filter (fun r => r.origin = .session n ∧ !r.orphan)).length

/-- The head can forward to a member: it is HEAD and the member is in its map (18 R476). -/
def State.canForward (s : State) (m : Nat) : Bool :=
  s.fld F.CSP_STATUS.STATE == 3 && bitAt (s.fld F.CSP_MAP.MAP) m

/-- The head forwards a request to its member as a REQUEST frame; host-buffer bytes the request brings are read for it
(19 R488). -/
def State.forwardReq (s : State) (r : Req) (slot : Bytes) : State :=
  let seq := tabGet (fun _ => 0) s.csp.tx r.member
  let s1 := s.chorusSend 3 r.member 0 slot
  let s2 : State := { s1 with csp := { s1.csp with sent := s1.csp.sent ++ [(r.member, seq, r.origin, r.seq)] } }
  if r.opcode = 0x0202 ∨ r.opcode = 0x0404 then
    { s2 with hif := { s2.hif with transfers := s2.hif.transfers
      ++ [⟨r.origin, r.seq, field r.payload 8 8, field r.payload 16 4, 0, 18, 0, .forward r.member⟩] } }
  else s2

/-- One slot is read: NAKed and counted, or accepted; an accepted request for another member is forwarded,
or answered NO_MEMBER (18 R469-R471, R476). -/
def State.readSlot (s : State) (n : Fin 256) (slot : Bytes) : State :=
  match s.session n with
  | none => s
  | some x =>
    match slotCheck n (s.outstanding n) x slot with
    | some .quarantined => (s.setSession n { x with viol := satSucc 65535 x.viol }).nak n x slot .quarantined
    | some k => (s.violate n k (field slot 2 2) (w32 (field slot 8 4)) (field slot 5 1)).nak n x slot k
    | none =>
      let r : Req := ⟨.session n, w32 (field slot 8 4), field slot 2 2, field slot 5 1,
        (slot.take (field slot 0 2)).drop 16, false, (n.val, w32 (field slot 8 4))⟩
      let s1 := s.setSession n { x with expect := x.expect + 1 }
      let s2 : State := { s1 with hif := { s1.hif with reqs := s1.hif.reqs ++ [r] } }
      if r.member = 0 then s2
      else if s2.canForward r.member then s2.forwardReq r slot
      else s2.answer r.origin r.seq 4 18 0 []

/-- Slots are read in order while the completion ring has a free slot; the rest stay unread (18 R465,
R466). -/
def State.readSlots (n : Fin 256) : List Bytes → State → State
  | [], s => s
  | slot :: rest, s =>
    match s.session n with
    | none => s
    | some x =>
      if x.cqUsed + x.heldAnswers.length ≥ 2 ^ x.cqLog2 then s.setSession n { x with unread := slot :: rest }
      else
        let s1 := s.setSession n { x with sqHead := (x.sqHead + 1) % 2 ^ x.sqLog2 }
        State.readSlots n rest (s1.readSlot n slot)

/-- A session reads what it has not yet read. -/
def State.resumeSession (s : State) (n : Fin 256) : State :=
  match s.session n with
  | none => s
  | some x => State.readSlots n x.unread (s.setSession n { x with unread := [] })

/-- Answers that waited for a CQ slot are written while there is room. -/
def State.flushAnswers (n : Nat) : List Bytes → State → State
  | [], s => s
  | a :: rest, s => State.flushAnswers n rest (s.putAnswer n a)

/-- A new submission tail with the bytes of the new slots: a closed session logs DOORBELL, a tail outside the
ring is a MALFORMED violation, else the new slots are read (18 R465, R468, R469, log entry 12). The slots
handed over are cut or filled to the count the tail gives. -/
def State.takeTail (s : State) (n : Fin 256) (tail : Nat) (slots : List Bytes) : State :=
  match s.session n with
  | none => s.post .hif 0x0A n
  | some x =>
    if tail ≥ 2 ^ x.sqLog2 then s.violate n .malformed 0 x.expect 0
    else
      let k := (tail + 2 ^ x.sqLog2 - x.sqTail) % 2 ^ x.sqLog2
      let new := (slots ++ List.replicate k (zeros 64)).take k |>.map (fitBytes 64)
      let s1 := s.setSession n { x with sqTail := tail, unread := [] }
      State.readSlots n (x.unread ++ new) s1

/-- The host returns completion slots by a new head; a session that was stopped reads on (18 R465, R466). -/
def State.takeHead (s : State) (n : Fin 256) (head : Nat) : State :=
  match s.session n with
  | none => s.post .hif 0x0A n
  | some x =>
    let size := 2 ^ x.cqLog2
    if head ≥ size then s.violate n .malformed 0 x.expect 0
    else
      let s1 := s.setSession n { x with cqUsed := (x.cqTail + size - head) % size, heldAnswers := [] }
      (State.flushAnswers n x.heldAnswers s1).resumeSession n

/-- A session opens with a number: it expects SEQ 0 (18 R468). -/
def State.openSession (s : State) (n sq cq sql cql window vector : Nat) : State :=
  let x : Session := ⟨sq, cq, sql, cql, window, vector, false, 0, 0, 0, 0, 0, true, 0, [], [], []⟩
  { s with hif := { s.hif with sessions := insertBy (·.1) (n, x) s.hif.sessions } }

/-- A session closes: accepted requests keep their effects and their answers are discarded (18 R468). -/
def State.closeSession (s : State) (n : Nat) : State :=
  let orphaned (r : Req) : Req :=
    match r.origin with
    | .session m => if m.val = n then { r with orphan := true } else r
    | .chorus _ => r
  { s with hif := { s.hif with sessions := s.hif.sessions.filter (·.1 ≠ n), reqs := s.hif.reqs.map orphaned } }

/-- The lowest free session number from 1 (18 R468). -/
def State.freeSession (s : State) : Option Nat :=
  ((List.range 256).drop 1).find? (fun n => (s.session n).isNone)

/-- R471: E takes the value given, the violation history clears, and reading resumes. -/
def State.reopenSession (s : State) (n : Fin 256) (e : Word) : State :=
  match s.session n with
  | none => s
  | some x => (s.setSession n { x with expect := e, hist := [], quarantined := false }).resumeSession n

/-! ### Host buffers (R474) -/

/-- A host-buffer transfer of an accepted request starts; its answer waits for the end. -/
def State.transfer (s : State) (o : Origin) (seq : Word) (hb len code source detail : Nat) (kind : DmaKind) : State :=
  let p := s.payload (.msg o seq)
  { s with hif := { s.hif with transfers := s.hif.transfers ++ [⟨o, seq, field p hb 8, len, code, source, detail, kind⟩] } }

/-- Room of the host buffer at an offset of a request's payload. -/
def State.hbLen (s : State) (o : Origin) (seq : Word) (hb : Nat) : Nat := field (s.payload (.msg o seq)) (hb + 8) 4

/-- An answer that copies bytes to its host buffer: SHORT_BUFFER where they do not fit, else a transfer. -/
def State.toHost (s : State) (o : Origin) (seq : Word) (hb code source detail : Nat) (bytes payload : Bytes) : State :=
  if bytes.length > s.hbLen o seq hb then s.answer o seq 5 18 0 payload
  else s.transfer o seq hb bytes.length code source detail (.toHost bytes payload)

end Sys2Proof.Machine
end

