-- ==== Sys2Proof/Machine/Raman.lean ====
section
/-! DEFINITION. Raman records to temperature: the ratio, reference sections, the temperature and its uncertainty, and the RAMAN_T and
RAMAN_TRACE blocks (06 R192-R200, R207-R209). -/

namespace Sys2Proof.Machine

/-! ### Fields of the parameter block (Table 6-1) -/

abbrev Tp.enables (p : Bytes) : Nat := field p 2 2
abbrev Tp.cells (p : Bytes) : Nat := field p 4 4
abbrev Tp.q (p : Bytes) : Nat := field p 8 1
abbrev Tp.avgExp (p : Bytes) : Nat := field p 9 1
abbrev Tp.settle (p : Bytes) : Nat := field p 0xA 1
abbrev Tp.dirSel (p : Bytes) : Nat := field p 0xB 1
abbrev Tp.deadline (p : Bytes) : Nat := field p 0x12 2
abbrev Tp.mirror (p : Bytes) : Nat := field p 0x24 4
def Tp.ramanT (p : Bytes) : Bool := bitAt (Tp.enables p) 0
def Tp.brillouin (p : Bytes) : Bool := bitAt (Tp.enables p) 1
def Tp.trace (p : Bytes) : Bool := bitAt (Tp.enables p) 2
def Tp.doubleEnded (p : Bytes) : Bool := bitAt (Tp.enables p) 3
def Tp.cascade (p : Bytes) : Bool := bitAt (Tp.enables p) 4
def Tp.refMode (p : Bytes) : Nat := Tp.enables p / 32 % 4

/-- Constant `i` of the RAMAN entry of a calibration record (Table 6-2 rows 1 to 6); 0 where the record has no entry. -/
def ramanConst (store : Bytes) (i : Nat) : Float := match recEntry store 1 0 with | some x => f64 (dbl x i) | none => 0.0

/-- A record, what it was taken under and its partner (R199): parameter block, constants and metres per fast sample. -/
structure RamanJob where
  rec_ : RamanRec
  params : Bytes
  store : Bytes
  mps : Float

/-! ### Ratio and noise (R192, R193) -/

/-- A cell: signals after offset, lnR, var_n and marks. -/
structure RamanCell where
  lnR : Float
  var : Float
  z : Float
  sat : Bool
  blank : Bool
  low : Bool

/-- A cell without SATURATED, BLANKED or LOW_SIGNAL (R193). -/
def RamanCell.valid (c : RamanCell) : Bool := !c.sat && !c.blank && !c.low

/-- The record's mean MADC phase (R192). -/
def RamanRec.phaseMean (r : RamanRec) : Float := fNat r.phaseSum / fNat r.count

/-- z(c) (R192). -/
def RamanJob.z (j : RamanJob) (c : Nat) : Float :=
  ((fNat (c * Tp.q j.params) + (fNat (Tp.q j.params) - 1.0) / 2.0) * 5.0 + j.rec_.phaseMean) * j.mps - ramanConst j.store 8

/-- Mean and sample standard deviation of a list. -/
def fMean (l : List Float) : Float := l.foldl (· + ·) 0.0 / fNat l.length
def fVar (l : List Float) : Float :=
  let m := fMean l
  l.foldl (fun a x => a + (x - m) * (x - m)) 0.0 / (fNat l.length - 1.0)

/-- A list with its positions. -/
def indexed {α : Type} (l : List α) : List (Nat × α) := (List.range l.length).zip l

/-- The cells of a record (R193). -/
def RamanJob.cells (j : RamanJob) : List RamanCell :=
  let r := j.rec_
  let p := j.params
  let fq := fNat (r.count * Tp.q p)
  let sig (acc : Int) (o : Nat) : Float := fInt (acc * 2 ^ r.exp) / fq - ramanConst j.store o
  let l := r.cells.map (fun x => (sig x.1 6, sig x.2.1 7, x.2.2))
  let dark := (l.drop (field p 0xC 4)).take (field p 0x10 2)
  let va := fVar (dark.map (·.1))
  let vs := fVar (dark.map (·.2.1))
  (indexed l).map (fun e =>
    let a := e.2.1
    let s := e.2.2.1
    let low := a ≤ 0.0 || s ≤ 0.0
    { lnR := (a / s).log, var := va / (a * a) + vs / (s * s), z := j.z e.1, sat := e.2.2.2.1, blank := e.2.2.2.2, low := low })

/-! ### Reference sections (R194) -/

/-- A section as it enters R195; `ok`: valid for the record. -/
structure RefSection where
  ok : Bool
  l : Float
  var : Float
  z : Float
  t : Float
  u2 : Float
  p : Float

/-- Section at offset `o` of the parameter block: `bath` the results of its Vernier channel within the span in degC, `ub` the index of
U_BATH. -/
def RamanJob.section (j : RamanJob) (cells : List RamanCell) (o ub : Nat) (bath : List Float) : RefSection :=
  let n := field j.params (o + 4) 2
  let v := ((cells.drop (field j.params o 4)).take n).filter RamanCell.valid
  let k := fNat v.length
  let l := fMean (v.map (·.lnR))
  let t := fMean bath + 273.15
  let ubath := ramanConst j.store ub
  { ok := decide (n ≤ 2 * v.length) && !bath.isEmpty, l := l, var := (v.map (·.var)).foldl (· + ·) 0.0 / (k * k)
    z := fMean (v.map (·.z)), t := t
    u2 := ubath * ubath + (if bath.length ≤ 1 then 0.0 else fVar bath / fNat bath.length)
    p := ramanConst j.store 0 / t + l }

/-! ### Temperature (R195-R197, R200) -/

/-- Constants of R195. -/
structure RamanScale where
  gamma : Float
  uGamma : Float
  lnC : Float
  uLnC : Float
  dAlpha : Float
  uDAlpha : Float

def ramanScale (store : Bytes) : RamanScale :=
  ⟨ramanConst store 0, ramanConst store 1, ramanConst store 2, ramanConst store 3, ramanConst store 4, ramanConst store 5⟩

/-- Qt and u_T^2 of a cell (R195) under a REF_MODE. -/
def RamanScale.convert (g : RamanScale) (mode : Nat) (a b : RefSection) (c : RamanCell) : Float × Float :=
  let sq (x : Float) : Float := x * x
  let w := (c.z - a.z) / (b.z - a.z)
  let qt := if mode = 0 then g.lnC - g.dAlpha * c.z - c.lnR
    else if mode = 1 then a.p - g.dAlpha * (c.z - a.z) - c.lnR
    else (1.0 - w) * a.p + w * b.p - c.lnR
  let t := g.gamma / qt
  let k := sq (t * t / g.gamma)
  let u2 := if mode = 0 then k * (c.var + sq g.uLnC + sq (c.z * g.uDAlpha)) + sq (t / g.gamma) * sq g.uGamma
    else if mode = 1 then k * (c.var + a.var + sq ((c.z - a.z) * g.uDAlpha)) + sq (t * t / (a.t * a.t)) * a.u2
      + sq (t / g.gamma * (1.0 - t / a.t)) * sq g.uGamma
    else k * (c.var + sq (1.0 - w) * a.var + sq w * b.var) + sq ((1.0 - w) * t * t / (a.t * a.t)) * a.u2
      + sq (w * t * t / (b.t * b.t)) * b.u2 + sq (t / g.gamma * (1.0 - t * ((1.0 - w) / a.t + w / b.t))) * sq g.uGamma
  (qt, u2)

/-- A converted cell: temperature in K and its uncertainty, none where invalid, and FLAGS of Table 6-5. -/
structure RamanTemp where
  value : Option (Float × Float)
  flags : Nat

/-- What a conversion gives: the cells, LN_C and DALPHA in force (R197), REF_STALE and DOUBLE_ENDED. -/
structure RamanOut where
  cells : List RamanTemp
  lnC : Float
  dAlpha : Float
  stale : Bool
  double : Bool

/-- A cell lies in a section of the parameter block. -/
def inSection (p : Bytes) (o c : Nat) : Bool := decide (field p o 4 ≤ c) && decide (c < field p o 4 + field p (o + 4) 2)

/-- The cells of a conversion under a mode; one with Qt <= 0 is LOW_SIGNAL (R195). -/
def RamanJob.temps (j : RamanJob) (g : RamanScale) (mode : Nat) (a b : RefSection) (cells : List RamanCell) (dbl_ : Bool) : List RamanTemp :=
  (indexed cells).map (fun e =>
    let c := e.2
    let r := g.convert mode a b c
    let low := c.low || (c.valid && r.1 ≤ 0.0)
    let ref := inSection j.params 0x14 e.1 || inSection j.params 0x1C e.1
    { value := if c.valid && !low then some (g.gamma / r.1, r.2.sqrt) else none
      flags := (if c.sat then 1 else 0) + (if c.blank then 2 else 0) + (if low then 4 else 0) + (if ref then 8 else 0)
        + (if dbl_ then 16 else 0) })

/-- A record converted single-ended: under its REF_MODE, or under 0b00 with REF_STALE where a section it needs is not valid (R196). -/
def RamanJob.single (j : RamanJob) (bathA bathB : List Float) : RamanOut :=
  let cells := j.cells
  let g := ramanScale j.store
  let a := j.section cells 0x14 10 bathA
  let b := j.section cells 0x1C 11 bathB
  let want := Tp.refMode j.params
  let stale := (decide (1 ≤ want) && !a.ok) || (want == 2 && !b.ok)
  let mode := if stale then 0 else want
  let da := (a.p - b.p) / (b.z - a.z)
  { cells := j.temps g mode a b cells false, stale := stale, double := false
    lnC := if mode = 0 then g.lnC else if mode = 1 then a.p + g.dAlpha * a.z else a.p + da * a.z
    dAlpha := if mode = 2 then da else g.dAlpha }

/-- A pair converted (R200): `back` the partner's cells. None with section A not valid. DEDUCED (log entry 158): a cell takes the marks of
both directions. -/
def RamanJob.pair (j : RamanJob) (back : List RamanCell) (bathA : List Float) : Option RamanOut :=
  let g0 := ramanScale j.store
  let g : RamanScale := { g0 with dAlpha := 0.0, uDAlpha := 0.0 }
  let m := Tp.mirror j.params
  let mate (c : Nat) : Option RamanCell := if c ≤ m then back[m - c]? else none
  let cells := (indexed j.cells).map (fun e =>
    let c := e.2
    match mate e.1 with
    | some x => ({ c with lnR := (c.lnR + x.lnR) / 2.0, var := (c.var + x.var) / 4.0, sat := c.sat || x.sat
                          blank := c.blank || x.blank, low := c.low || x.low }, true)
    | none => ({ c with low := true }, false))
  let a := j.section (cells.map (·.1)) 0x14 10 bathA
  if !a.ok then none
  else
    let l := j.temps g 1 a a (cells.map (·.1)) true
    let own := j.cells
    let fixed := (indexed l).map (fun e =>
      let has := match cells[e.1]? with | some x => x.2 | none => false
      let low := match own[e.1]? with | some x => x.low | none => false
      let t := e.2
      if has then t else { t with flags := t.flags % 16 - (if low then 0 else t.flags / 4 % 2 * 4) })
    some { cells := fixed, stale := false, double := true, lnC := a.p, dAlpha := 0.0 }

/-! ### Blocks (R207-R209, Tables 6-4 to 6-6) -/

/-- A value of an output format within 2 LSB of the exact one (R184), by product, cell and field. -/
def nearBits (product cell fld : Nat) (x : Float) : Int := fRound x + max (-2) (min 2 (Config.programError product cell fld (toF64 x)))

/-- An uncertainty of a 16-bit field, saturating at 65,534. -/
def uncertainty (product cell fld : Nat) (x : Float) : Nat := (max 0 (min 65534 (nearBits product cell fld x))).toNat

/-- RAMAN_T entry of a cell (Tables 6-5, 6-8). -/
def ramanEntry (cell : Nat) (t : RamanTemp) : Bytes :=
  match t.value with
  | some (k, u) => leBytes 4 (unsigned 32 (nearBits 0x11 cell 0 ((k - 273.15) * 65536.0))) ++ leBytes 2 (uncertainty 0x11 cell 1 (u * 1000.0))
      ++ leBytes 2 t.flags
  | none => leBytes 4 0x80000000 ++ leBytes 2 0xFFFF ++ leBytes 2 t.flags

/-- RAMAN_TRACE entry of a cell (Table 6-6). -/
def traceEntry (x : Int × Int × Bool × Bool) : Bytes :=
  leBytes 5 (unsigned 40 x.1) ++ leBytes 5 (unsigned 40 x.2.1) ++ leBytes 2 ((if x.2.2.1 then 1 else 0) + (if x.2.2.2 then 2 else 0))

/-- Bits 1 to 4 of FLAGS (Table 6-4): PARTIAL, GAP, DERATED, LOCK_CHANGED. -/
def SpanMarks.flags (m : SpanMarks) (part gap : Bool) : Nat :=
  (if part then 2 else 0) + (if gap then 4 else 0) + (if m.derated then 8 else 0) + (if m.lockChanged then 16 else 0)

/-- Product blocks that a program set has formed: of a frame, block and product, in order. -/
def State.expect (s : State) (frame block product : Nat) (l : List Bytes) : State :=
  if l.isEmpty then s
  else { s with mrs := { s.mrs with expect := (⟨frame, block, product, l⟩ : ProductOut) :: s.mrs.expect } }

/-- A descriptor of Table 6-4, LATE clear. -/
def thermDesc (product flags first count a b c firstFrame frames skipped : Nat) (p1 p2 p3 phase : Float) : Bytes :=
  leBytes 2 product ++ leBytes 2 flags ++ leBytes 4 first ++ leBytes 4 count ++ leBytes 1 a ++ leBytes 1 b ++ leBytes 2 c
    ++ leBytes 8 (firstFrame % 2 ^ 48) ++ leBytes 4 frames ++ leBytes 4 skipped ++ leBytes 4 (toF32 p1).toNat ++ leBytes 4 (toF32 p2).toNat
    ++ leBytes 4 (toF32 p3).toNat ++ leBytes 4 (toF32 phase).toNat

/-- The entries of a record in blocks of up to 4,096 cells, in ascending order: first cell and bytes of each (R207). -/
def cellBlocks : Nat → Nat → List Bytes → List (Nat × List Bytes)
  | 0, _, _ => []
  | n + 1, at_, l => if l.isEmpty then [] else (at_, l.take 4096) :: cellBlocks n (at_ + 4096) (l.drop 4096)

/-- The blocks of a product of a Raman record. -/
def RamanJob.blocks (j : RamanJob) (product flags first : Nat) (lnC dAlpha : Float) (entries : List Bytes) : List Bytes :=
  let r := j.rec_
  (cellBlocks (entries.length / 4096 + 1) 0 entries).map (fun e =>
    thermDesc product (r.span.flags r.isPartial r.gap + flags) e.1 e.2.length (Tp.q j.params) r.exp (r.phaseMax - r.phaseMin) first r.count
      r.skipped lnC dAlpha (ramanConst j.store 0) r.phaseMean ++ e.2.flatten)

/-- RAMAN_TRACE blocks of a record, per direction (R207). -/
def RamanJob.traceBlocks (j : RamanJob) (stale : Bool) (lnC dAlpha : Float) : List Bytes :=
  j.blocks 0x12 (if stale then 32 else 0) j.rec_.first lnC dAlpha (j.rec_.cells.map traceEntry)

/-- RAMAN_T blocks of a conversion; `first`: of the earlier record of a pair. -/
def RamanJob.tempBlocks (j : RamanJob) (o : RamanOut) (first : Nat) : List Bytes :=
  j.blocks 0x11 ((if o.stale then 32 else 0) + (if o.double then 64 else 0)) first o.lnC o.dAlpha ((indexed o.cells).map (fun e => ramanEntry e.1 e.2))

end Sys2Proof.Machine
end

