-- ==== Sys2Proof/Machine/Rayleigh.lean ====
section
/-! DEFINITION. The Rayleigh program set: gauge product, diversity combining, phase, unwrapping, strain rate and the product blocks (05
R165-R177). Values are kept as binary64 codes. -/

namespace Sys2Proof.Machine

/-- A complex number as binary64 codes, and back. -/
def cxCode (z : Cx) : Nat × Nat := (toF64 z.1, toF64 z.2)
def codeCx (c : Nat × Nat) : Cx := (f64 c.1, f64 c.2)

/-- An angle reduced into (-pi, pi]. -/
def wrapPi (x : Float) : Float :=
  let y := x - 2.0 * fPi * (x / (2.0 * fPi)).round
  if y ≤ 0.0 - fPi then y + 2.0 * fPi else if y > fPi then y - 2.0 * fPi else y

/-- arg z, 0 for 0 (R170). -/
def argOf (z : Cx) : Float := if Cx.norm2 z == 0.0 then 0.0 else z.2.atan2 z.1

/-! ### Combining (R165-R168) -/

/-- A bin after a tracker reset: every A[k] = 1 + j0 (R166), nothing unwrapped (R171). -/
def RayBin.fresh (k : Nat) : RayBin :=
  { a := List.replicate k (cxCode (1.0, 0.0)), m := 0, first := true, gap := false, psi := 0, good := 0, pred := 0, run := 0, hist := [] }

/-- The gauge product of a bin for a tone of a frame, over both polarisations (R165). -/
def State.gaugeProduct (s : State) (f : FrameRec) (k b : Nat) : Cx :=
  let one (pol : Nat) : Cx := Cx.mul (s.binOf f k pol b).val (Cx.conj (s.binOf f k pol (b - f.rules.ray.gauge)).val)
  Cx.add (one 0) (one 1)

/-- What combining gives for a frame: V[i] and QW[i] per instant, and the bin with A and M updated. `d`: the gauge products of the frame's
instants; `before`, `after`: those of the neighbouring frames whose instants exist, in order (R166, R168). `fresh`: the first frame after a
tracker reset. DESIGN CHOICE: M is updated with K = 1 too (log 184). -/
def combine (x : RayBin) (rules : FrameRules) (fresh : Bool) (before d after : List Cx) : List (Cx × Nat) × RayBin :=
  let kk := d.length
  let a : List Cx := x.a.map codeCx
  let amax := a.foldl (fun m z => if Cx.abs z > m then Cx.abs z else m) 0.0
  let u (k : Nat) (z : Cx) : Cx := if amax == 0.0 then (0.0, 0.0) else Cx.scale (1.0 / amax) (Cx.mul z (Cx.conj (cxAt a k)))
  let us : List (Option Cx) := (if before.isEmpty then List.replicate kk none else (indexed before).map (fun e => some (u e.1 e.2)))
    ++ (indexed d).map (fun e => some (u e.1 e.2))
    ++ (if after.isEmpty then List.replicate kk none else (indexed after).map (fun e => some (u e.1 e.2)))
  let v (k : Nat) : Cx := ((us.drop (kk + k - rules.h)).take (2 * rules.h + 1)).foldl (fun s o => match o with | some z => Cx.add s z | none => s)
    (0.0, 0.0)
  let vs := (List.range kk).map v
  let al := 1.0 / fNat (2 ^ rules.ray.alphaExp)
  let m0 := if fresh then fMean (vs.map Cx.abs) else f64 x.m
  let qw (z : Cx) : Nat := if m0 == 0.0 then 0 else (min 255 (fRound (64.0 * Cx.abs z / m0))).toNat
  let own (k : Int) : Cx := if k < 0 then (0.0, 0.0) else match d[k.toNat]? with | some z => u k.toNat z | none => (0.0, 0.0)
  let step (e : Nat × Cx) : Cx :=
    let ref := Cx.add (own ((e.1 : Int) - 1)) (own ((e.1 : Int) + 1))
    let z := cxAt d e.1
    if Cx.abs ref > 0.0 && Cx.abs z > 0.0 then
      Cx.add e.2 (Cx.scale al (Cx.add (Cx.scale (1.0 / Cx.abs ref) (Cx.mul z (Cx.conj ref))) (Cx.scale (-1.0) e.2)))
    else e.2
  let a1 := if kk ≤ 1 then a else (indexed a).map step
  let c := a1.foldl (fun s z => if Cx.abs z > 0.0 then Cx.add s (Cx.scale (1.0 / Cx.abs z) z) else s) (0.0, 0.0)
  let a2 := if kk ≤ 1 || Cx.abs c == 0.0 then a1 else a1.map (fun z => Cx.scale (1.0 / Cx.abs c) (Cx.mul z (Cx.conj c)))
  let m1 := vs.foldl (fun m z => m + al * (Cx.abs z - m)) m0
  (vs.map (fun z => (z, qw z)), { x with a := a2.map cxCode, m := toF64 m1 })

/-! ### Unwrapping (R170-R173) -/

/-- What an instant yields: Psi, rate in nanostrain per second, FADED, SLEW, RESUME and REREF. -/
structure RayValue where
  psi : Float
  rate : Float
  faded : Bool
  slew : Bool
  resume : Bool
  reref : Bool

/-- An instant that does not exist: pred = 0, gap (R171). -/
def RayBin.missing (x : RayBin) : RayBin := { x with pred := 0, gap := true }

/-- One existing instant of a bin (R171, R173): `v` and `qw` its V and QW, `dt` the seconds since the previous existing instant, none for
the first of a tracker run. -/
def RayBin.instant (x : RayBin) (rules : FrameRules) (kk : Nat) (v : Cx) (qw : Nat) (dt : Option Float) : RayValue × RayBin :=
  let psi := argOf v
  let faded := decide (qw < rules.ray.floor)
  let prev := f64 x.psi
  let finish (y : RayBin) (total : Float) (fd sl re : Bool) : RayValue × RayBin :=
    let big := total.abs ≥ 131072.0
    let held := if big then (if total < 0.0 then total + 131072.0 else total - 131072.0) else total
    let rate := match dt with | some t => (total - prev) * f64 rules.ray.csr / t | none => 0.0
    (⟨held, rate, fd, sl, re, big⟩, { y with psi := toF64 held })
  if x.first then
    if faded then (⟨0.0, match dt with | some t => (0.0 - prev) * f64 rules.ray.csr / t | none => 0.0, true, false, false, false⟩,
      { x with psi := toF64 0.0 })
    else finish { x with first := false, gap := false, pred := toF64 0.0, run := 0, good := toF64 psi } psi false false true
  else if faded then
    let step := if x.hist.isEmpty then 0.0 else fMean (x.hist.map f64)
    finish { x with pred := toF64 (f64 x.pred + step), run := x.run + 1 } (prev + step) true false false
  else
    let e := wrapPi (psi - f64 x.good - f64 x.pred)
    let hist := (x.hist ++ [toF64 e]).drop (x.hist.length + 1 - 4)
    finish { x with hist := hist, good := toF64 psi, pred := toF64 0.0, run := 0, gap := false } (prev + e) false
      (e.abs > fNat rules.ray.slew / 8192.0) (x.gap || decide (x.run > kk))

/-- The instants of a frame in order. -/
def rayInstants (rules : FrameRules) (kk : Nat) : List (Cx × Nat) → List (Option Float) → RayBin → List RayValue × RayBin
  | [], _, x => ([], x)
  | v :: vs, dts, x =>
    let r := x.instant rules kk v.1 v.2 (dts.headD none)
    let q := rayInstants rules kk vs dts.tail r.2
    (r.1 :: q.1, q.2)

/-! ### Output (R174-R177) -/

/-- The quality word of a bin, LATE clear (Table 5-3). -/
def qualityWord (qws : List Nat) (vals : List RayValue) (sat blank step : Bool) : Nat :=
  let w := match qws with | [] => 0 | q :: l => l.foldl min q
  let mask := (indexed vals).foldl (fun a e => if e.2.faded then a + 2 ^ e.1 else a) 0
  let bit (b : Bool) (n : Nat) : Nat := if b then 2 ^ n else 0
  w + bit sat 8 + bit blank 9 + bit step 10 + bit (vals.any (·.faded)) 11 + bit (vals.any (·.slew)) 12 + bit (vals.any (·.resume)) 13
    + bit (vals.any (·.reref)) 14 + 2 ^ 16 * mask

/-- A LEGACY word of a gauge product (R177). -/
def legacyWord (b : Nat) (d : Cx) : Nat :=
  unsigned 16 (nearBits 3 b 0 (argOf d * 8192.0)) + 65536 * (max 0 (min 65535 (nearBits 3 b 1 ((Cx.abs d).sqrt / 16.0)))).toNat

/-- The descriptor of a Rayleigh block, LATE clear (Table 5-2). -/
def rayDesc (product : Nat) (f : FrameRec) (first count age : Nat) (reset : Bool) : Bytes :=
  leBytes 2 product ++ leBytes 1 f.cfg.k ++ leBytes 1 (2 * f.rules.h + 1) ++ leBytes 4 first ++ leBytes 4 count ++ leBytes 2 f.rules.ray.gauge
    ++ leBytes 2 (if reset then 2 else 0) ++ leBytes 4 f.rules.ray.source.toNat ++ leBytes 4 (toF32 (f64 f.rules.ray.csr)).toNat
    ++ leBytes 4 (min (2 ^ 32 - 1) age) ++ zeros 4

/-- A bin of a frame as processed: the values, quality weights, marks and LEGACY product. -/
structure RayCell where
  vals : List RayValue
  word : Nat
  legacy : Cx

/-- A product block of a frame (R175): planes by instant, then the quality words; or LEGACY words. -/
def rayBlockBytes (product : Nat) (f : FrameRec) (first age : Nat) (reset : Bool) (cells : List RayCell) : Bytes :=
  let plane (k : Nat) : Bytes := (indexed cells).flatMap (fun e => match e.2.vals[k]? with
    | some v =>
      let b := first + e.1
      if product = 1 then leBytes 4 (unsigned 32 (nearBits 1 b k (v.psi * 8192.0)))
      else leBytes 4 (unsigned 32 (max (-(2 ^ 31 - 1)) (min (2 ^ 31 - 1) (nearBits 2 b k (v.rate * 256.0)))))
    | none => zeros 4)
  rayDesc product f first cells.length age reset
    ++ (if product = 3 then (indexed cells).flatMap (fun e => leBytes 4 (legacyWord (first + e.1) e.2.legacy))
      else (List.range f.cfg.k).flatMap plane ++ cells.flatMap (fun c => leBytes 4 c.word))

/-! ### A block of a frame -/

/-- What a block's input brings of each bin (R150, R165): `after` holds instants of the next frame where it belongs to the tracker run, and
`before` those of the frame before (R167). -/
def State.rayInput (s : State) (f : FrameRec) (j first count : Nat) : RayInput :=
  let kk := f.cfg.k
  let mate (g : FrameRec) : Bool := g.acquires && g.track == f.track && g.cfg.k == kk
  let next := (s.mrs.frames.find? (·.num = f.num + 1)).filter mate
  let prev := (s.mrs.frames.find? (·.num + 1 = f.num)).filter mate
  let prods (g : FrameRec) (b : Nat) : List (Nat × Nat) := (List.range kk).map (fun k => cxCode (s.gaugeProduct g k b))
  let far (g : Option FrameRec) (b : Nat) : List (Nat × Nat) := match g with | some g => prods g b | none => []
  let one (i : Nat) : RayInBin :=
    let b := first + i
    let ends : List BinSample := (List.range kk).flatMap (fun k => [0, 1].flatMap (fun pol =>
      [s.binOf f k pol b, s.binOf f k pol (b - f.rules.ray.gauge)]))
    ⟨far prev b, prods f b, far next b, ends.any (·.sat), ends.any (·.blank), ends.any (·.step)⟩
  ⟨j, first, f, (List.range count).map one⟩

/-- Run of a frame (01 Table 1-2). -/
def FrameRec.run (f : FrameRec) : Nat := field f.header 4 4

/-- The state from which a block goes on: what the latest frame left, where it belongs to the same tracker run; none after a tracker reset
(R169). -/
def State.rayBlock (s : State) (x : RayInput) : Option RayBlock :=
  ((s.mrs.rayNext.map (·.2) ++ s.mrs.ray).find? (·.bin == x.first)).filter (fun b => b.run == x.frame.run && b.reset == x.frame.track)

/-- What an input makes of a block's state, and the cells of its bins (R165-R177). Between instants pass S in a frame, PERIOD of the later
header - (K - 1) x S between frames that follow each other, and the whole elapsed time across a gap (R173). -/
def rayStep (x : RayInput) (old : Option RayBlock) : RayBlock × List RayCell :=
  let f := x.frame
  let kk := f.cfg.k
  let linked := match old with | some b => b.last + 1 == f.num | none => false
  let stagger := fNat f.cfg.stagger * 0.8e-9
  let across (b : RayBlock) : Float :=
    if linked then fNat (field f.header 0x1C 4) / 512.0e9 - fNat (kk - 1) * stagger else fNat (f.toneAt 0 - b.lastAt) * 0.8e-9
  let dts : List (Option Float) := (List.range kk).map (fun k => if k = 0 then old.map across else some stagger)
  let one (e : Nat × RayInBin) : RayCell × RayBin :=
    let y := e.2
    let x0 : RayBin := match old with | some o => (o.bins[e.1]?).getD (RayBin.fresh kk) | none => RayBin.fresh kk
    let x1 := if old.isSome && !linked then x0.missing else x0
    let own := y.own.map codeCx
    let c := combine x1 f.rules old.isNone (if linked then y.before.map codeCx else []) own (y.after.map codeCx)
    let r := rayInstants f.rules kk c.1 dts c.2
    (⟨r.1, qualityWord (c.1.map (·.2)) r.1 y.sat y.blank y.step, cxAt own f.rules.ray.legacyTone⟩, r.2)
  let cells := (indexed x.bins).map one
  (⟨x.first, f.run, f.track, f.num, f.toneAt (kk - 1), cells.map (·.2)⟩, cells.map (·.1))

/-- The program set takes block `j` of frame `n`: it updates the trackers, committed with the FINAL push, and forms the products enabled
(R165-R177, 08 R258). -/
def State.rayTake (s : State) (n j : Nat) : State :=
  match s.mrs.rayIn.find? (fun x => x.block == j && x.frame.num == n) with
  | none => s
  | some x =>
    let f := x.frame
    let r := rayStep x (s.rayBlock x)
    let s1 : State := { s with mrs := { s.mrs with rayIn := s.mrs.rayIn.erase x, rayNext := (j, r.1) :: s.mrs.rayNext } }
    ([1, 2, 3].filter (fun q => bitAt f.rules.ray.enables (q - 1))).foldl (fun a q =>
      a.expect n j q [rayBlockBytes q f x.first (n - f.track) f.reset r.2]) s1

/-- The FINAL push of block `j` of frame `n`: its state is committed, and what is left of its outputs goes (08 R258). -/
def State.rayCommit (s : State) (n j : Nat) : State :=
  let mine := s.mrs.rayNext.filter (fun e => e.1 == j && e.2.last == n)
  { s with mrs := { s.mrs with
    ray := mine.map (·.2) ++ s.mrs.ray.filter (fun b => !mine.any (fun e => e.2.bin == b.bin))
    rayNext := s.mrs.rayNext.filter (fun e => !mine.contains e)
    rayIn := s.mrs.rayIn.filter (fun x => !(x.block == j && x.frame.num == n))
    expect := s.mrs.expect.filter (fun x => !(x.block == j && x.frame == n)) } }

/-- Block `j` of frame `n` is lost: the engines go on from the committed state (08 R264). -/
def State.rayLose (s : State) (n j : Nat) : State :=
  { s with mrs := { s.mrs with
    rayNext := s.mrs.rayNext.filter (fun e => !(e.1 == j && e.2.last == n))
    rayIn := s.mrs.rayIn.filter (fun x => !(x.block == j && x.frame.num == n))
    expect := s.mrs.expect.filter (fun x => !(x.block == j && x.frame == n)) } }

end Sys2Proof.Machine
end

