-- ==== Sys2Proof/Machine/Brillouin.lean ====
section
/-! DEFINITION. Brillouin spectra, the peak fit, strain and the BRILLOUIN blocks (06 R201-R209). -/

namespace Sys2Proof.Machine

/-! ### Fields of the parameter block (Table 6-1) -/

abbrev Bp.cells (p : Bytes) : Nat := field p 0x28 4
abbrev Bp.first (p : Bytes) : Nat := field p 0x2C 4
abbrev Bp.hop (p : Bytes) : Nat := field p 0x30 2
abbrev Bp.window (p : Bytes) : Nat := field p 0x32 2
abbrev Bp.fft (p : Bytes) : Nat := 2 ^ min 9 (field p 0x34 1)
abbrev Bp.avg (p : Bytes) : Nat := 2 ^ min 16 (field p 0x35 1)
/-- FIT_LO, FIT_HI and a spectral bin's frequency in Hz. -/
def Bp.lo (p : Bytes) : Float := fNat (field p 0x38 4) * 1000.0
def Bp.hi (p : Bytes) : Float := fNat (field p 0x3C 4) * 1000.0
def Bp.freq (p : Bytes) (m : Nat) : Float := fNat m * 250.0e6 / fNat (Bp.fft p)

/-- The spectral bins in the fit range (R202). -/
def Bp.bins (p : Bytes) : List Nat :=
  (List.range (Bp.fft p)).filter (fun m => decide (field p 0x38 4 * Bp.fft p ≤ m * 250000) && decide (m * 250000 ≤ field p 0x3C 4 * Bp.fft p))

/-- Constant `i` of the BRILLOUIN entry (Table 6-2 rows 7 to 9). -/
def brilConst (store : Bytes) (i : Nat) : Float := match recEntry store 2 0 with | some x => f64 (dbl x i) | none => 0.0

/-- The segment table: START, NU_B0 and U_NU_B0 (Table 6-2 row 10). -/
def segTable (store : Bytes) : List (Float × Float × Float) :=
  match recEntry store 2 0 with
  | some x => (List.range (min 16 (field x 40 4))).map (fun i => (f64 (dbl x (6 + 3 * i)), f64 (dbl x (7 + 3 * i)), f64 (dbl x (8 + 3 * i))))
  | none => []

/-! ### Spectra (R201, R202) -/

/-- The centre sample s_c of a cell (R201). -/
def Bp.centre (p : Bytes) (c : Nat) : Nat := Bp.first p + c * Bp.hop p

/-- What one included frame adds to a cell's spectrum, at the bins in the fit range: `x` the frame's MADC2 codes (R202). -/
def cellSpectrum (p : Bytes) (x : List Int) (c : Nat) : List Float :=
  let w := Bp.window p
  let seg := (x.drop (Bp.centre p c - w / 2)).take w
  let mean := (seg.foldl (fun a v => a + fInt v) 0.0) / fNat w
  let hx := (indexed seg).map (fun e => (0.5 - 0.5 * (2.0 * fPi * (fNat e.1 + 0.5) / fNat w).cos) * (fInt e.2 - mean))
  (Bp.bins p).map (fun m => Cx.norm2 (dft (Bp.fft p) (fun t => ((hx[t]?).getD 0.0, 0.0)) m) / fNat (Bp.avg p))

/-- An included frame enters the record (R202). -/
def BrilRec.add (r : BrilRec) (p : Bytes) (x : List Int) (phase num nx : Nat) : BrilRec :=
  let new := (List.range (Bp.cells p)).map (cellSpectrum p x)
  { r with
    count := r.count + 1, next := nx, last := num, phaseSum := r.phaseSum + phase
    phaseMin := min r.phaseMin phase, phaseMax := max r.phaseMax phase
    spectra := if x.isEmpty then r.spectra else (indexed new).map (fun e => (indexed e.2).map (fun b =>
      toF64 (f64 ((((r.spectra[e.1]?).getD [])[b.1]?).getD 0) + b.2))) }

/-! ### Peak fit (R203) -/

/-- Parameters of the line: A, nu, Gamma, B. -/
abbrev LineFit := List Float

/-- L(p, f). -/
def line (q : LineFit) (f : Float) : Float :=
  let y := 2.0 * (f - q.getD 1 0.0) / q.getD 2 0.0
  q.getD 3 0.0 + q.getD 0 0.0 / (1.0 + y * y)

/-- Derivatives of L by A, nu, Gamma and B. -/
def lineGrad (q : LineFit) (f : Float) : List Float :=
  let a := q.getD 0 0.0
  let g := q.getD 2 0.0
  let y := 2.0 * (f - q.getD 1 0.0) / g
  let d := 1.0 + y * y
  [1.0 / d, a * 4.0 * y / (g * d * d), a * 2.0 * y * y / (g * d * d), 1.0]

/-- One elimination step for column `k` of rows of numbers: the other rows are cleared there (Gauss-Jordan with the largest pivot below). -/
def eliminate (k : Nat) (m : List (List Float)) : List (List Float) :=
  let piv := ((List.range m.length).filter (fun i => decide (k ≤ i))).foldl (fun b i =>
    if (((m[i]?).getD []).getD k 0.0).abs > (((m[b]?).getD []).getD k 0.0).abs then i else b) k
  let rk := (m[k]?).getD []
  let rp := (m[piv]?).getD []
  let sw := (m.set k rp).set piv rk
  let row := ((sw[k]?).getD []).map (fun v => v / (((sw[k]?).getD []).getD k 0.0))
  (indexed (sw.set k row)).map (fun e => if e.1 = k then e.2 else (e.2.zip row).map (fun x => x.1 - e.2.getD k 0.0 * x.2))

/-- The inverse of a 4 x 4 matrix. -/
def inverse4 (m : List (List Float)) : List (List Float) :=
  let aug := (indexed m).map (fun e => e.2 ++ (List.range 4).map (fun i => if i = e.1 then 1.0 else 0.0))
  ((List.range 4).foldl (fun a k => eliminate k a) aug).map (fun r => r.drop 4)

/-- Samples of a spectrum in the fit range: frequency, P and weight. -/
abbrev FitData := List (Float × Float × Float)

/-- J^T W J of the line at q. -/
def normalMatrix (d : FitData) (q : LineFit) : List (List Float) :=
  (List.range 4).map (fun i => (List.range 4).map (fun k =>
    d.foldl (fun a x => let g := lineGrad q x.1; a + x.2.2 * g.getD i 0.0 * g.getD k 0.0) 0.0))

/-- One Gauss-Newton step. -/
def gaussNewton (d : FitData) (q : LineFit) : LineFit :=
  let inv := inverse4 (normalMatrix d q)
  let rhs := (List.range 4).map (fun i => d.foldl (fun a x => a + x.2.2 * (lineGrad q x.1).getD i 0.0 * (x.2.1 - line q x.1)) 0.0)
  (List.range 4).map (fun i => q.getD i 0.0 + (((inv[i]?).getD []).zip rhs).foldl (fun a x => a + x.1 * x.2) 0.0)

/-- Where P crosses a height going away from the peak, by linear interpolation between bins; none within range. -/
def crossing (h : Float) : List (Float × Float) → Option Float
  | a :: b :: l => if b.2 ≤ h then some (a.1 + (b.1 - a.1) * (a.2 - h) / (a.2 - b.2)) else crossing h (b :: l)
  | _ => none

/-- An accepted fit: nu in Hz, its uncertainty, Gamma, SNR in dB and EDGE. -/
structure PeakFit where
  nu : Float
  u : Float
  gamma : Float
  snr : Float
  edge : Bool

/-- The fit of a cell's spectrum; none where it is not accepted (R203). -/
def peakFit (p : Bytes) (spec : List Float) : Option PeakFit :=
  let f := (Bp.bins p).map (Bp.freq p)
  let pts := f.zip spec
  let n := pts.length
  let m := argMax n (fun i => (spec[i]?).getD 0.0)
  if m = 0 ∨ m + 1 ≥ n then none
  else
    let v (i : Nat) : Float := (spec[i]?).getD 0.0
    let width := 250.0e6 / fNat (Bp.fft p)
    let nu0 := (f[m]?).getD 0.0 + 0.5 * (v (m - 1) - v (m + 1)) / (v (m - 1) - 2.0 * v m + v (m + 1)) * width
    let low := (spec.mergeSort (fun a b => decide (a ≤ b))).take ((n + 3) / 4)
    let b0 := fMean low
    let a0 := v m - b0
    let h := b0 + a0 / 2.0
    let g0 := match crossing h (pts.drop m), crossing h ((pts.take (m + 1)).reverse) with
      | some r, some l => r - l
      | _, _ => 4.0 * width
    let p0 : LineFit := [a0, nu0, g0, b0]
    let d : FitData := pts.map (fun x => let l := line p0 x.1; (x.1, x.2, 1.0 / (l * l)))
    let q := (List.range 6).foldl (fun a _ => gaussNewton d a) p0
    let res2 := d.foldl (fun a x => a + x.2.2 * (x.2.1 - line q x.1) * (x.2.1 - line q x.1)) 0.0
    let chi2 := res2 / (fNat n - 4.0)
    let u := (chi2 * (((inverse4 (normalMatrix d q))[1]?).getD []).getD 1 0.0).sqrt
    let rms := (d.foldl (fun a x => a + (x.2.1 - line q x.1) * (x.2.1 - line q x.1)) 0.0 / fNat n).sqrt
    let amp := q.getD 0 0.0
    let nu := q.getD 1 0.0
    let gam := q.getD 2 0.0
    let snr := 10.0 * (amp / rms).log / 2.302585092994046
    let ok := decide (amp > 0.0) && decide (Bp.lo p ≤ nu) && decide (nu ≤ Bp.hi p) && decide (fNat (field p 0x4C 4) * 1000.0 ≤ gam)
      && decide (gam ≤ fNat (field p 0x50 4) * 1000.0) && decide (fNat (field p 0x37 1) ≤ snr)
    if ok then some ⟨nu, u, gam, snr, nu - Bp.lo p ≤ gam / 2.0 || Bp.hi p - nu ≤ gam / 2.0⟩ else none

/-- nu_B in Hz. -/
def nuB (p : Bytes) (f : PeakFit) : Float := if field p 0x48 1 = 0 then fNat (field p 0x40 8) + f.nu else fNat (field p 0x40 8) - f.nu

/-! ### Strain (R204-R206) -/

/-- The temperature of a Brillouin cell: T_c in degC and u_Tc, none where no valid Raman cell gives one, and T_FLAGGED (R205). -/
def cellTemp (p : Bytes) (temps : List (Option (Float × Float))) (c : Nat) : Option (Float × Float) × Bool :=
  let q := fNat (Tp.q p)
  let centre (i : Nat) : Float := fNat i * q + (q - 1.0) / 2.0
  let s := fNat (Bp.centre p c)
  let w := fNat (Bp.window p)
  let inside := (indexed temps).filter (fun e => decide (s - w / 2.0 ≤ centre e.1) && decide (centre e.1 ≤ s + w / 2.0 - 1.0))
  let near := argMax temps.length (fun i => 0.0 - (centre i - (s - 0.5)).abs)
  let used := if inside.isEmpty then [(near, (temps[near]?).getD none)] else inside
  let good := used.filterMap (·.2)
  let flagged := used.any (·.2.isNone)
  if good.isEmpty then (none, flagged)
  else (some (fMean (good.map (·.1)) - 273.15, (fMean (good.map (fun x => x.2 * x.2))).sqrt), flagged)

/-- The baseline of a position: the segment whose START is the largest not beyond it (R206). -/
def baseline (store : Bytes) (z : Float) : Float × Float :=
  match ((segTable store).filter (fun x => decide (x.1 ≤ z))).getLast? with
  | some x => x.2
  | none => Config.noSegment

/-- eps in microstrain and its uncertainty (R206). -/
def strain (store : Bytes) (z : Float) (nu uNu : Float) (t uT : Float) : Float × Float :=
  let b := baseline store z
  let k := brilConst store
  let dT := t - k 4
  let eps := (nu / 1.0e6 - b.1 - k 2 * dT) / k 0
  let sq (x : Float) : Float := x * x
  (eps, ((sq (uNu / 1.0e6) + sq b.2 + sq (k 2 * uT) + sq (dT * k 3)) / sq (k 0) + sq (eps * k 1 / k 0)).sqrt)

/-- BRILLOUIN entry of a cell (Tables 6-7, 6-8): `temps` the paired Raman temperatures, none where there is no pair; and whether the fit
failed. -/
def brilEntry (p store : Bytes) (mps phase : Float) (temps : Option (List (Option (Float × Float)))) (spec : List Float) (c : Nat) :
    Bytes × Bool :=
  let z := ((fNat (Bp.centre p c) - 0.5) * 5.0 + phase) * mps - ramanConst store 9
  let fit := peakFit p spec
  let temp : Option (Float × Float) × Bool := match temps with | some l => cellTemp p l c | none => (none, false)
  let near := nearBits 0x13 c
  let nuBytes := match fit with | some f => leBytes 4 (near 0 (nuB p f / 1000.0)).toNat | none => leBytes 4 0
  let uNu := match fit with | some f => uncertainty 0x13 c 3 (f.u / 1000.0) | none => 0xFFFF
  let st := match fit, temp.1 with
    | some f, some t => let e := strain store z (nuB p f) f.u t.1 t.2; (unsigned 32 (near 1 (e.1 * 256.0)), uncertainty 0x13 c 4 (e.2 * 10.0))
    | _, _ => (0x80000000, 0xFFFF)
  let tb := match temp.1 with
    | some t => (unsigned 32 (near 2 (t.1 * 65536.0)), if fit.isNone then 0xFFFF else uncertainty 0x13 c 5 (t.2 * 1000.0))
    | none => (0x80000000, 0xFFFF)
  let lw := match fit with | some f => (max 0 (min 65535 (near 6 (f.gamma / 2000.0)))).toNat | none => 0
  let snr := match fit with | some f => (max 0 (min 255 (near 7 f.snr))).toNat | none => 0
  let fl := (if fit.isNone then 1 else 0) + (if temps.isNone then 2 else 0) + (if temp.2 then 4 else 0)
    + (match fit with | some f => if f.edge then 8 else 0 | none => 0)
  (nuBytes ++ leBytes 4 st.1 ++ leBytes 4 tb.1 ++ leBytes 2 uNu ++ leBytes 2 st.2 ++ leBytes 2 tb.2 ++ leBytes 2 lw ++ leBytes 2 fl
    ++ leBytes 1 snr ++ [0], fit.isNone)

/-- BRILLOUIN blocks of a record, and how many of its cells failed. DESIGN CHOICE: bit 6 is 0 (log 186). -/
def brilBlocks (r : BrilRec) (p store : Bytes) (mps : Float) (temps : Option (List (Option (Float × Float)))) (stale : Bool) : List Bytes × Nat :=
  let phase := fNat r.phaseSum / fNat r.count
  let es := (indexed r.spectra).map (fun e => brilEntry p store mps phase temps (e.2.map f64) e.1)
  let fl := r.span.flags r.isPartial r.gap + (if stale then 32 else 0) + (if r.stalled then 1 else 0)
  ((cellBlocks (es.length / 4096 + 1) 0 (es.map (·.1))).map (fun e =>
      thermDesc 0x13 fl e.1 e.2.length (field p 0x34 1) (field p 0x35 1) (Bp.hop p) r.first r.count r.skipped (brilConst store 0)
        (brilConst store 2) (brilConst store 4) phase ++ e.2.flatten),
    (es.filter (·.2)).length)

end Sys2Proof.Machine
end

