-- ==== Sys2Proof/Machine/Gea.lean ====
section
/-! DEFINITION. The engine array: engines, lanes and instruction streams, results in flight, engine memories, loads and
group states (07 R212, R220-R224, R232, R238-R247). -/

namespace Sys2Proof.Machine

/-- Group and engine states and codes (07 Tables 7-9, 7-10). -/
abbrev Eng.off : Nat := 0
abbrev Eng.loading : Nat := 1
abbrev Eng.loaded : Nat := 2
abbrev Eng.running : Nat := 3
abbrev Eng.waiting : Nat := 4
abbrev Eng.halted : Nat := 5
abbrev Eng.fault : Nat := 6
abbrev GeaCode.illegal : Nat := 1
abbrev GeaCode.memRange : Nat := 2
abbrev GeaCode.misalign : Nat := 3
abbrev GeaCode.eccFail : Nat := 4
abbrev GeaCode.trap : Nat := 5
abbrev GeaCode.dmaRange : Nat := 6
abbrev GeaCode.imemWrite : Nat := 7

/-! ### Lanes and streams -/

/-- A bank, a lane and a stream with every bit 0 (R242). -/
def Bank.zero : Bank :=
  ⟨List.replicate 32 0, List.replicate 8 0, 0, 0, 0, 0, 0, 0, 0, false, 0, List.replicate 8 0, List.replicate 8 0,
    List.replicate 8 0, List.replicate 8 0⟩
def Lane.zero : Lane := ⟨Bank.zero, Bank.zero, ⟨0, 0, 0, false, false, false⟩⟩
def Thread.zero : Thread := ⟨0, 0, 0, 0, 0, 0, false, none, none, [], false⟩

/-- Lane and stream by engine number. -/
def State.lane (s : State) (e : Nat) : Lane := tabGet (fun _ => Lane.zero) s.gea.lanes e
def State.thread (s : State) (k : Nat) : Thread := tabGet (fun _ => Thread.zero) s.gea.threads k
def State.setLane (s : State) (e : Nat) (l : Lane) : State :=
  { s with gea := { s.gea with lanes := tabPut (fun _ => Lane.zero) s.gea.lanes e l } }
def State.setThread (s : State) (k : Nat) (t : Thread) : State :=
  { s with gea := { s.gea with threads := tabPut (fun _ => Thread.zero) s.gea.threads k t } }

/-- A lane's bank in use. -/
def Lane.bank (l : Lane) (b1 : Bool) : Bank := if b1 then l.b1 else l.b0
def Lane.setBank (l : Lane) (b1 : Bool) (b : Bank) : Lane := if b1 then { l with b1 := b } else { l with b0 := b }

/-- The bank of an engine that its stream uses. -/
def State.bankOf (s : State) (k e : Nat) : Bank := (s.lane e).bank (s.thread k).bank1
def State.setBankOf (s : State) (k e : Nat) (b : Bank) : State := s.setLane e ((s.lane e).setBank (s.thread k).bank1 b)

/-- The group an engine belongs to, with its index. -/
def State.groupOf (s : State) (e : Nat) : Option (Nat × Group) :=
  ((List.range s.groups.length).zip s.groups).find? (fun x => bitAt x.2.members e)

/-- The instruction stream an engine belongs to, named by its lowest engine: a fused group's, or the engine's own
(R238). -/
def State.streamOf (s : State) (e : Nat) : Option Nat :=
  (s.groupOf e).map (fun x => if x.2.kind = 0 then e else x.2.lowest)

/-- Engines that a stream drives, lane 0 first. -/
def State.lanesOf (s : State) (k : Nat) : List Nat :=
  match s.groupOf k with
  | some (_, g) => if g.kind = 0 then [k] else g.engines
  | none => []

/-- Streams of a group. -/
def Group.streams (g : Group) : List Nat := if g.kind = 0 then g.engines else [g.lowest]

/-- WIDTH of a stream's group (R212). -/
def State.widthOf (s : State) (k : Nat) : Nat :=
  match s.groupOf k with
  | some (_, g) => if g.kind = 0 then 1 else if g.kind = 1 then 4 else if g.kind = 2 then 16 else 64
  | none => 1

/-! ### States (Table 7-9) -/

/-- State of an engine, and of every engine of a list. -/
def State.engState (s : State) (e : Nat) : Nat := s.fld (F.GEA_ENGk_STATE.STATE e)
def State.setEng (s : State) (es : List Nat) (st : Nat) : State := es.foldl (fun a e => a.setFld (F.GEA_ENGk_STATE.STATE e) st) s

/-- State of a group: FAULT when any member faults, else RUNNING or WAITING when any member runs or waits, else its
lowest member's. -/
def State.groupState (s : State) (g : Group) : Nat :=
  let sts := g.engines.map s.engState
  if sts.contains Eng.fault then Eng.fault
  else if sts.contains Eng.running then Eng.running
  else if sts.contains Eng.waiting then Eng.waiting
  else sts.headD Eng.off

/-- Tiles of a group. -/
def Group.tiles (g : Group) : List Nat := (List.range 4).filter (fun t => g.engines.any (fun e => e / 16 == t))

/-- Every tile of a group is on. -/
def State.groupOn (s : State) (g : Group) : Bool := g.tiles.all (fun t => s.domOn (2 + t))

/-! ### Loads (R242, R246) -/

/-- Bits of an engine's tile that KEEP retained and no load has taken up since: banks 0 to 3, and bit 4 the instruction memories (R246). -/
def State.retained (s : State) (e : Nat) : Nat := ((s.gea.kept.find? (·.1 = e)).map (·.2)).getD 0

/-- A segment's part for a tile's shared memory, bank by bank; retained banks are skipped (R246). `keep`: the banks retained. -/
def State.loadBanks (s : State) (t keep off : Nat) (data : Bytes) : State :=
  (List.range 4).foldl (fun a i =>
    let lo := max off (0x100000 * i)
    let hi := min (off + data.length) (0x100000 * (i + 1))
    if bitAt keep i || decide (hi ≤ lo) then a else a.setEmem (0x1000000 * t + lo) ((data.drop (lo - off)).take (hi - lo))) s

/-- A segment goes to its memories. -/
def State.loadSeg (s : State) (g : Group) (x : ProgSeg) : State :=
  let put (a : State) (base : Nat) : State := a.setEmem (base + x.offset) x.data
  match x.target with
  | 0 => g.engines.foldl (fun a e => put a (dataBase e)) s
  | 1 => put s (dataBase g.lowest)
  | 2 => ((List.range 16).filter (fun q => g.engines.any (fun e => e / 4 == q))).foldl (fun a q => put a (quadBase (4 * q))) s
  | _ => g.tiles.foldl (fun a t => a.loadBanks t (((g.engines.filter (fun e => e / 16 == t)).map s.retained).headD 0) x.offset x.data) s

/-- A group's memories are written from the bytes of an image (R242): its instruction memories, retained ones excepted, its data memories,
and its segments. What KEEP retained counts for this load alone. -/
def State.writeGroup (s : State) (img : Bytes) (i : Nat) (g : Group) : State :=
  match imgProgram img i with
  | none => s
  | some p =>
    let imems := if g.kind = 0 then g.engines else [g.lowest]
    let s1 := (imems.filter (fun e => !bitAt (s.retained e) 4)).foldl (fun a e => (a.clearEmem (imemBase e) 0x8000).setEmem (imemBase e) p.imem) s
    let s2 := g.engines.foldl (fun a e => a.clearEmem (dataBase e) 0x20000) s1
    let s3 := p.segs.foldl (fun a x => a.loadSeg g x) s2
    { s3 with gea := { s3.gea with kept := s3.gea.kept.filter (fun e => !g.engines.contains e.1) } }

/-- A group stands at ENTRY (R242): banks 0, IVEC from the header, IMASK and CYCLE 0. -/
def State.initGroup (s : State) (i : Nat) (g : Group) : State :=
  let p := imgProgram s.sil.active i
  let entry := (p.map (·.entry)).getD 0 % 4096
  let ivec := (p.map (·.ivec)).getD 0 % 4096
  let s1 := g.engines.foldl (fun a e => a.setLane e { Lane.zero with dma := (a.lane e).dma }) s
  let s2 := g.streams.foldl (fun a k => a.setThread k { Thread.zero with pc := entry, ivec := ivec }) s1
  g.engines.foldl (fun a e => ((a.setFld (F.GEA_ENGk_STATE.BANK e) 0).setFld (F.GEA_ENGk_STATE.CODE e) 0).setFld
    (F.GEA_ENGk_STATE.PC e) 0) s2

/-- A group runs from ENTRY. -/
def State.startGroup (s : State) (i : Nat) (g : Group) : State := (s.initGroup i g).setEng g.engines Eng.running

/-- Groups of an image that hold an engine of a tile. -/
def State.groupsOn (s : State) (t : Nat) : List (Nat × Group) :=
  ((List.range s.groups.length).zip s.groups).filter (fun x => x.2.tiles.contains t)

/-- GEA_USED follows the ACTIVE image. -/
def State.geaUsed (s : State) : State :=
  let m := (imgGroups s.sil.active).foldl (fun a g => a ||| g.members) 0
  (s.setReg R.GEA_USED_LO (w32 m)).setReg R.GEA_USED_HI (w32 (m / 2 ^ 32))

/-- A tile reaches RUN: groups that are OFF and whose tiles are all on are LOADING. -/
def State.geaWake (s : State) (t : Nat) : State :=
  (s.groupsOn t).foldl (fun a x => if a.groupState x.2 = Eng.off && a.groupOn x.2 then a.setEng x.2.engines Eng.loading else a) s

/-- What a tile loses on KEEP or OFF: everything but what PMU_RETAIN selects, and only in KEEP (R246). -/
def State.geaLose (s : State) (t : Nat) (keep : Bool) : State :=
  let b := 0x1000000 * t
  let imem := keep && bitAt (s.fld F.PMU_RETAIN.IMEM) t
  let bits := s.fld F.PMU_RETAIN.BANKS / 2 ^ (4 * t) % 16 + (if imem then 16 else 0)
  let s1 := (List.range 4).foldl (fun a i =>
    if keep && bitAt (s.fld F.PMU_RETAIN.BANKS) (4 * t + i) then a else a.clearEmem (b + 0x100000 * i) 0x100000) s
  let s2 := s1.clearEmem (b + 0x400000) 0x400000
  let s3 := if imem then s2 else s2.clearEmem (b + 0x800000) 0x80000
  let es := (List.range 16).map (· + 16 * t)
  let g : GeaSt := { s3.gea with
    lanes := tabDrop (fun e => e / 16 == t) s3.gea.lanes, threads := tabDrop (fun e => e / 16 == t) s3.gea.threads
    kept := (if keep then es.map (fun e => (e, bits)) else []) ++ s3.gea.kept.filter (fun x => x.1 / 16 != t) }
  es.foldl (fun a e => a.setFld (F.GEA_ENGk_STATE.STATE e) Eng.off) { s3 with gea := g }

/-! ### Results in flight (R220-R222, R224) -/

/-- Physical index of a data register name (R224). -/
def drIndex (rrb n : Nat) : Nat := if n < 16 then n else 16 + (n - 16 + rrb) % 16

/-- The register a landing writes; flags write none. -/
def Landing.key : Landing → Option Nat
  | .dr n _ => some n
  | .drLow n _ => some n
  | .drHigh n _ => some n
  | .ac n _ _ => some (100 + n)
  | .pred n _ => some (200 + n)
  | .sr n _ => some (300 + n)
  | .flags _ _ => none

/-- A landing writes its bank. -/
def Bank.land (b : Bank) : Landing → Bank
  | .dr n v => { b with dr := b.dr.set n v }
  | .drLow n v => { b with dr := modAt b.dr n (fun w => setBits w 15 0 v.toNat) }
  | .drHigh n v => { b with dr := modAt b.dr n (fun w => setBits w 31 16 v.toNat) }
  | .ac n v ov => { b with ac := b.ac.set n v, esr := if ov then b.esr ||| w32 (2 ^ (4 + n)) else b.esr }
  | .pred n x => if n = 0 then b else { b with pd := if x then b.pd ||| (1 <<< n) else b.pd &&& ~~~((1 : BitVec 8) <<< n) }
  | .flags set clear => { b with esr := (b.esr &&& ~~~clear) ||| set }
  | .sr n v => match n with
    | 1 => { b with lc := v.toNat % 2 ^ 17 }
    | 2 => { b with ec := v.toNat % 8 }
    | 3 => { b with rrb := v.toNat % 16 }
    | _ => { b with pd := (v.toNat : BitVec 8) &&& 0xFE }

/-- WCOL, the collision flag (R222). -/
def Bank.collide (b : Bank) : Bank := { b with esr := b.esr ||| w32 (2 ^ 14) }

/-- Two landings reach their bank in the same cycle. -/
def Flight.meets (f g : Flight) : Bool := f.due == g.due && f.lane == g.lane && f.bank1 == g.bank1

/-- Two landings reach one register in the same cycle. -/
def Flight.clash (f g : Flight) : Bool := f.meets g && f.landing.key == g.landing.key && f.landing.key.isSome

/-- One writes a predicate and the other, by SWR, all of them. -/
def Landing.crosses : Landing → Landing → Bool
  | .pred n _, .sr 7 _ => n != 0
  | .sr 7 _, .pred n _ => n != 0
  | _, _ => false

/-- Two landings reach one predicate in the same cycle: both land, in order (R222). -/
def Flight.crosses (f g : Flight) : Bool := f.meets g && f.landing.crosses g.landing

/-- A result lands; an SR 10 landing is the group's IMASK. -/
def State.landOne (s : State) (k : Nat) (f : Flight) (later : List Flight) : State :=
  let l := s.lane f.lane
  if later.any f.clash then s.setLane f.lane (l.setBank f.bank1 (l.bank f.bank1).collide)
  else match f.landing with
    | .sr 10 v => s.setThread k { s.thread k with imask := v.toNat % 16 }
    | x =>
      let b := (l.bank f.bank1).land x
      s.setLane f.lane (l.setBank f.bank1 (if later.any f.crosses then b.collide else b))

/-- Results land in order; of two that meet in one register the later-issued is kept. -/
def State.landAll (k : Nat) : List Flight → State → State
  | [], s => s
  | f :: rest, s => State.landAll k rest (s.landOne k f rest)

/-- Every result due by the end of the cycles that have passed lands (R220). -/
def State.settle (s : State) (k : Nat) : State :=
  let th := s.thread k
  let due := sortBy Flight.due (th.flights.filter (fun f => decide (f.due < th.cycle)))
  let s1 := s.setThread k { th with flights := th.flights.filter (fun f => decide (th.cycle ≤ f.due)) }
  State.landAll k due s1

/-- One advancing cycle of a stream passes. -/
def State.tickStream (s : State) (k : Nat) : State :=
  let th := s.thread k
  (s.setThread k { th with cycle := (th.cycle + 1) % 2 ^ 64 }).settle k

/-- A result issued in the current cycle with a latency. -/
def State.fly (s : State) (k lane latency : Nat) (mac : Bool) (x : Landing) : State :=
  let th := s.thread k
  s.setThread k { th with flights := th.flights ++ [⟨th.cycle + latency - 1, lane, th.bank1, mac, x⟩] }

/-- RESULT_WRITEBACK: results due in the cycles passed land; a stream that issues nothing advances a cycle. -/
def execResultWriteback (e : Fin 64) (s : State) : Host.Outcome State Fault Refusal :=
  .next (match s.streamOf e.val with
    | none => s
    | some k =>
      let due := (s.thread k).flights.any (fun f => decide (f.due < (s.thread k).cycle))
      if due || s.engState k == Eng.running then s.settle k else s.tickStream k)

/-! ### Halts, faults and ECC (R237, R243-R245) -/

/-- Members of a list of engines show where their stream stands: bank and PC. -/
def State.showPc (s : State) (es : List Nat) (k : Nat) : State :=
  let th := s.thread k
  es.foldl (fun a e => (a.setFld (F.GEA_ENGk_STATE.BANK e) (if th.bank1 then 1 else 0)).setFld (F.GEA_ENGk_STATE.PC e) th.pc) s

/-- A stream halts (Table 7-9). -/
def State.haltStream (s : State) (k : Nat) : State :=
  let th := s.thread k
  let es := s.lanesOf k
  ((s.setThread k { th with halting := false }).setEng es Eng.halted).showPc es k

/-- HALTED is raised once every group whose halt was requested is HALTED (R243). DESIGN CHOICE (log 189): a group that faults instead keeps
it from being raised. -/
def State.haltDone (s : State) : State :=
  if s.gea.halts.isEmpty then s
  else
    let wait := s.gea.halts.filter (fun i => match s.groups[i]? with
      | some g => s.groupState g != Eng.halted
      | none => false)
    if wait.isEmpty then ({ s with gea := { s.gea with halts := [] } }).raise .gea F.GEA_IRQ_STATUS.HALTED else s

/-- An ECC event of engine memory at an aperture offset (R245). -/
def State.eccEvent (s : State) (ap : Nat) (uncorr : Bool) : State :=
  let s1 := s.setReg R.GEA_ECC_ADDR (w32 (ap % 2 ^ 26 + (if uncorr then 2 ^ 31 else 0)))
  if uncorr then s1.raise .gea F.GEA_IRQ_STATUS.ECC_UNCORR
  else (s1.count F.GEA_ECC_CORR.COUNT 1).raise .gea F.GEA_IRQ_STATUS.ECC_CORR

/-- Bits of engine memory are upset; a second upset of a word makes it a double-bit error (R245). -/
def addUpset (l : List (Nat × Bool)) (x : BitVec 26 × Bool) : List (Nat × Bool) :=
  let w := x.1.toNat / 8 * 8
  (w, x.2 || l.any (·.1 == w)) :: l.filter (·.1 != w)
def State.upset (s : State) (l : Upsets) : State := { s with gea := { s.gea with upsets := l.foldl addUpset s.gea.upsets } }

/-- The upset words that an access of `n` bytes reads, with a single upset bit or with two. -/
def State.upsetIn (s : State) (ap n : Nat) (two : Bool) : List Nat :=
  (s.gea.upsets.filter (fun x => x.2 == two && decide (x.1 < ap + n) && decide (ap < x.1 + 8))).map (·.1)

/-- Words with a single upset bit are corrected as they are read, each counted and latched (R245). -/
def State.eccRead (s : State) (ap n : Nat) : State := (s.upsetIn ap n false).foldl (fun a w => a.eccEvent w false) s

/-- A fault as the GEA records it (R239, R244): the whole group is in FAULT, the faulting member keeps code and PC,
every other member CODE OK and the index of its next instruction; in a group that is in FAULT already, the member alone. `code` is the engine's code, `bin` that of the dispatch. -/
def State.faultRegs (s : State) (g : Group) (e k code logCode pc bin : Nat) : State :=
  let s1 := (s.setEng g.engines Eng.fault)
  let s2 := g.streams.foldl (fun a j => a.showPc (a.lanesOf j) j) s1
  let s3 := if s.groupState g = Eng.fault then s else g.engines.foldl (fun a x => a.setFld (F.GEA_ENGk_STATE.CODE x) 0) s2
  let s4 := (s3.setFld (F.GEA_ENGk_STATE.CODE e) code).setFld (F.GEA_ENGk_STATE.PC e) pc
  let s5 := s4.setThread k { s4.thread k with slots := none, rep := none, halting := false }
  (s5.logFor (enginePath e) logCode s5.frame bin).raise .gea F.GEA_IRQ_STATUS.FAULT

/-! ### Interrupts (R227, R228) -/

/-- DISPATCH stands while the group's ring holds descriptors (R227). -/
def State.dispatchPending (s : State) (k : Nat) : Bool :=
  match s.groupOf k with
  | some (i, _) => match (s.mrs.groups.find? (·.1 = i)).map (·.2) with
    | some g => decide (g.popped < g.written)
    | none => false
  | none => false

/-- IPEND as it reads. -/
def State.ipend (s : State) (k : Nat) : Nat :=
  (s.thread k).ipend / 2 * 2 + (if s.dispatchPending k then 1 else 0)

/-- A pending bit of a stream is set. -/
def State.setPend (s : State) (k bit : Nat) : State :=
  let th := s.thread k
  s.setThread k { th with ipend := th.ipend ||| 2 ^ bit }

/-- A pending bit of every stream of a group is set. -/
def State.pendGroup (s : State) (g : Group) (bit : Nat) : State := g.streams.foldl (fun a k => a.setPend k bit) s

/-- FRAME is set in every group at a boundary that the MRS signals. -/
def State.pendFrame (s : State) : State := s.groups.foldl (fun a g => a.pendGroup g 1) s

/-- An interrupt can be taken, or a halt completed, here (R228): bank 0, no delay slot, no REP. -/
def Thread.atPoint (t : Thread) : Bool := !t.bank1 && t.slots.isNone && t.rep.isNone

/-- INTERRUPT_ENTRY: results due have landed; an enabled pending interrupt is taken; two cycles pass without issue (R228). -/
def execInterruptEntry (e : Fin 64) (s : State) : Host.Outcome State Fault Refusal :=
  .next (match s.streamOf e.val with
    | none => s
    | some k =>
      let s := s.settle k
      let st := s.engState k
      let th := s.thread k
      if (st == Eng.running || st == Eng.waiting) && th.atPoint && (s.ipend k &&& th.imask) != 0 then
        let s1 := s.setThread k { th with epc := th.pc, pc := th.ivec, bank1 := true }
        let s2 := (s1.setEng (s1.lanesOf k) Eng.running)
        let s3 := (s2.lanesOf k).foldl (fun a x => a.setFld (F.GEA_ENGk_STATE.BANK x) 1) s2
        (s3.tickStream k).tickStream k
      else s)

/-- HALT_COMPLETE: a requested halt completes at an interrupt point (R243). -/
def execHaltComplete (e : Fin 64) (s : State) : Host.Outcome State Fault Refusal :=
  .next (match s.streamOf e.val with
    | none => s
    | some k =>
      if s.engState k == Eng.running && (s.thread k).halting && (s.thread k).atPoint then (s.haltStream k).haltDone else s)

/-! ### Control registers (Table 7-11) -/

/-- Groups with a member selected in GEA_SEL, with their indexes. -/
def State.selected (s : State) : List (Nat × Group) :=
  let sel := (s.reg R.GEA_SEL_LO).toNat + 2 ^ 32 * (s.reg R.GEA_SEL_HI).toNat
  ((List.range s.groups.length).zip s.groups).filter (fun x => (x.2.members &&& sel) != 0)

/-- A group's halt is still to come: it runs or waits. -/
def State.halting (s : State) (i : Nat) : Bool :=
  match s.groups[i]? with
  | some g => s.groupState g == Eng.running || s.groupState g == Eng.waiting
  | none => false

/-- HALT_REQ: LOADED groups halt at once, WAITING ones too; running ones at their next interrupt point. -/
def State.haltReq (s : State) : State :=
  let one (a : State) (x : Nat × Group) : State :=
    let b := x.2.streams.foldl (fun a k =>
      let st := a.engState k
      if st = Eng.running then a.setThread k { a.thread k with halting := true }
      else if st = Eng.waiting ∨ st = Eng.loaded then a.haltStream k
      else a) a
    if x.2.engines.any (fun e => a.engState e == Eng.running || a.engState e == Eng.waiting || a.engState e == Eng.loaded) then
      { b with gea := { b.gea with halts := b.gea.halts.erase x.1 ++ [x.1] } }
    else b
  (({ s with gea := { s.gea with halts := s.gea.halts.filter s.halting } }).selected.foldl one s).haltDone

/-- FAULT_CLR: faulted groups reload when ACTIVE_COPY is 1. -/
def State.geaFaultClr (s : State) : State :=
  if !s.flag F.SIL_STATE.ACTIVE_COPY then s
  else s.selected.foldl (fun a x => if a.groupState x.2 = Eng.fault then a.setEng x.2.engines Eng.loading else a) s

/-- DOORBELL. -/
def State.geaDoorbell (s : State) : State := s.selected.foldl (fun a x => a.pendGroup x.2 2) s

/-- COUNT_CLR. -/
def State.geaCountClr (s : State) : State := s.setReg R.GEA_ECC_CORR 0

/-- HALT_REQ. -/
def execHaltReq (src : Src) (s : State) : Host.Outcome State Fault Refusal :=
  .next (s.onUnit (.reg src) .gea R.GEA_CTRL State.haltReq)

/-- GEA_FAULT_CLR. -/
def execGeaFaultClr (src : Src) (s : State) : Host.Outcome State Fault Refusal :=
  .next (s.onUnit (.reg src) .gea R.GEA_CTRL State.geaFaultClr)

/-- GEA_DOORBELL. -/
def execGeaDoorbell (src : Src) (s : State) : Host.Outcome State Fault Refusal :=
  .next (s.onUnit (.reg src) .gea R.GEA_CTRL State.geaDoorbell)

/-- GEA_COUNT_CLR. -/
def execGeaCountClr (src : Src) (s : State) : Host.Outcome State Fault Refusal :=
  .next (s.onUnit (.reg src) .gea R.GEA_CTRL State.geaCountClr)

end Sys2Proof.Machine
end

