-- ==== Sys2Proof/Machine/Therm.lean ====
section
/-! DEFINITION. The Raman shot averager and the thermal program set's states, checks and records (06 R184-R191, R198,
R202, R204, R210, R211). -/

namespace Sys2Proof.Machine

/-- States (06 Tables 6-3, 6-9) and codes (Table 6-10). -/
abbrev Therm.idle : Nat := 0
abbrev Therm.running : Nat := 1
abbrev Therm.paramFault : Nat := 2
abbrev Therm.accumulating : Nat := 1
abbrev Therm.waiting : Nat := 2
abbrev ThermCode.param : Nat := 1
abbrev ThermCode.noConstants : Nat := 2
abbrev ThermCode.refStale : Nat := 3
abbrev ThermCode.fitFail : Nat := 4
abbrev ThermCode.noPartner : Nat := 5
abbrev ThermCode.bankBusy : Nat := 6

/-- Metres per fast sample (00 R15). -/
def State.metresPerSample (s : State) : Float := 299792458.0 * 0.8e-9 / (2.0 * f32 (s.reg R.MRS_GROUP_INDEX))

/-- R186: offset of the first field of the parameter block outside its range. DESIGN CHOICE (log entry 160): of several, the first in
this order. `t` is T or T_min in fast samples,
`curve` the curve of a Vernier channel, `mps` the metres per fast sample. -/
def thermCheck (p : Bytes) (t : Nat) (curve : Nat → Nat) (mps : Float) : Option Nat :=
  let cells := Tp.cells p
  let sect (o : Nat) : List (Nat × Bool) := [
    (o, decide (field p o 4 + field p (o + 4) 2 ≤ cells)), (o + 4, inRange 8 4096 (field p (o + 4) 2)),
    (o + 6, decide (field p (o + 6) 1 ≤ 7) && inRange 1 7 (curve (field p (o + 6) 1))), (o + 7, field p (o + 7) 1 == 0)]
  let a := field p 0x14 4
  let an := field p 0x18 2
  let b := field p 0x1C 4
  let bn := field p 0x20 2
  let centre (x n : Nat) : Float := (fNat x + (fNat n - 1.0) / 2.0) * fNat (Tp.q p) * 5.0 * mps
  let nf := 2 ^ min 9 (field p 0x34 1)
  let w := field p 0x32 2
  let lo := field p 0x38 4
  let hi := field p 0x3C 4
  let bins := ((List.range nf).filter (fun m => decide (lo * nf ≤ m * 250000) && decide (m * 250000 ≤ hi * nf))).length
  ((([
    (0x00, field p 0 2 == 1),
    (0x02, decide (Tp.enables p < 128) && Tp.refMode p != 3 && (!Tp.doubleEnded p || Tp.refMode p == 1)),
    (0x04, inRange 1 131072 cells && decide (cells * Tp.q p * 5 ≤ t)),
    (0x08, inRange 1 32 (Tp.q p)), (0x09, inRange 4 20 (Tp.avgExp p)), (0x0B, decide (Tp.dirSel p < 64)),
    (0x0C, decide (field p 0xC 4 + field p 0x10 2 ≤ cells)), (0x10, inRange 16 4096 (field p 0x10 2)),
    (0x12, inRange 16 4096 (Tp.deadline p))] ++ sect 0x14
    ++ [(0x1C, (decide (a + an ≤ b) || decide (b + bn ≤ a)) && decide ((centre b bn - centre a an).abs ≥ 1000.0))] ++ sect 0x1C
    ++ [(0x24, decide (field p 0x24 4 ≤ 262142)),
    (0x28, inRange 1 65536 (field p 0x28 4)
      && decide ((field p 0x2C 4 + (field p 0x28 4 - 1) * field p 0x30 2 + w / 2) * 5 ≤ t)),
    (0x2C, decide (w / 2 ≤ field p 0x2C 4)), (0x30, inRange 1 256 (field p 0x30 2)),
    (0x32, inRange 16 nf w && w % 2 == 0), (0x34, inRange 6 9 (field p 0x34 1)), (0x35, inRange 4 16 (field p 0x35 1)),
    (0x36, inRange 1 64 (field p 0x36 1)), (0x37, decide (field p 0x37 1 ≤ 60)), (0x38, decide (lo ≤ 100000)),
    (0x3C, decide (hi ≤ 100000) && decide (8 ≤ bins)), (0x40, inRange 1000000000 20000000000 (field p 0x40 8)),
    (0x48, decide (field p 0x48 1 ≤ 1)), (0x49, field p 0x49 3 == 0),
    (0x4C, decide (1000 ≤ field p 0x4C 4) && decide (field p 0x4C 4 ≤ field p 0x50 4)),
    (0x50, decide (field p 0x50 4 ≤ 100000)), (0x54, field p 0x54 172 == 0)]) : List (Nat × Bool)).find? (fun e => !e.2)).map (·.1)

/-- R187: the row of Table 6-2 whose constant an enabled product needs and the record in force lacks. RAMAN_T and the descriptor of
RAMAN_TRACE convert under REF_MODE, single-ended under 0b00 too (R196, R197), a pair without rows 2 and 3 (R200); section B enters only
under 0b10. -/
def thermConstants (p store : Bytes) : Option Nat :=
  let r := recEntry store 1 0
  let b := recEntry store 2 0
  let has (c : Option Bytes) (is_ : List Nat) : Bool :=
    match c with | some x => is_.all (fun i => !isNaN64 (dbl x i)) | none => false
  let segs := match b with | some x => (List.range (3 * min 16 (field x 40 4))).map (· + 6) | none => []
  let need (n : Bool) (row : Nat) (ok : Bool) : Option Nat := if n && !ok then some row else none
  let rt := Tp.ramanT p
  let raw := Tp.ramanT p || Tp.trace p
  let de := Tp.doubleEnded p
  let sect := rt || (Tp.trace p && Tp.refMode p != 0)
  let br := Tp.brillouin p
  firstSome [need rt 1 (has r [0, 1]), need raw 1 (has r [0]), need (rt && !de) 2 (has r [2, 3]), need (raw && !de) 2 (has r [2]),
    need (rt && !de) 3 (has r [4, 5]), need (raw && !de) 3 (has r [4]), need sect 4 (has r [6, 7]), need sect 5 (has r [8]),
    need br 5 (has r [9]), need (rt && Tp.refMode p != 0) 6 (has r [10]), need (rt && Tp.refMode p == 2) 6 (has r [11]),
    need br 7 (has b [0, 1]), need br 8 (has b [2, 3]), need br 9 (has b [4]), need br 10 (!segs.isEmpty && has b segs)]

/-! ### Status block (Table 6-11) -/

/-- The program set writes its status block. -/
def State.thermStatus (s : State) : State :=
  match s.thermEngine with
  | none => s
  | some e =>
    let t := s.therm
    let w0 := t.prog + 4 * t.avg + 256 * t.code + 65536 * t.detail
    let a := dataBase e + 0x100
    s.setEmem a (leBytes 4 w0 ++ leBytes 4 t.ramanRecords ++ leBytes 4 t.brilRecords ++ leBytes 4 t.skipped ++ leBytes 4 t.fitFail
      ++ leBytes 4 t.rescales ++ leBytes 4 t.late ++ zeros 36)

/-- A code of the program set: shown, and logged for the group's lowest engine as 0x8000 plus the code (07 R244). -/
def State.thermCode (s : State) (code detail : Nat) : State :=
  let s1 : State := { s with therm := { s.therm with code := code, detail := detail } }
  match s.thermEngine with
  | some e => if code = 0 then s1 else s1.logAt (enginePath e) (0x8000 + code)
  | none => s1

/-! ### Records (R188-R191, R198) -/

/-- A bank that no record holds. -/
def State.freeBank (s : State) : Option Nat :=
  [0, 1].find? (fun b => !(s.therm.closed.any (·.bank == b)) && !(match s.therm.open_ with | some r => r.bank == b | none => false))

/-- Loop-switch double-ended operation. -/
def loopSwitch (p : Bytes) : Bool := Tp.doubleEnded p && !bitAt (Tp.enables p) 4

/-- The direction output takes a level (Table 6-1 DIR_SEL). -/
def State.driveDir (s : State) (backward : Bool) : State :=
  let d := Tp.dirSel s.therm.params
  if bitAt d 5 then
    let level := backward != bitAt d 4
    let m : BitVec 16 := 1 <<< (d % 16)
    { s with gpio := if level then s.gpio ||| m else s.gpio &&& ~~~m }
  else s

/-- The bank of the open record in the tile's shared memory: 10 bytes a cell, then 4 bits a cell (R184, R188). -/
def bankBytes (r : RamanRec) : Bytes :=
  let nib (x : Int × Int × Bool × Bool) : Nat := (if x.2.2.1 then 1 else 0) + (if x.2.2.2 then 2 else 0)
  let marks : List Nat := r.cells.map nib
  r.cells.flatMap (fun x => leBytes 5 (unsigned 40 x.1) ++ leBytes 5 (unsigned 40 x.2.1))
    ++ (List.range ((marks.length + 1) / 2)).flatMap (fun i => leBytes 1 (marks.getD (2 * i) 0 + 16 * marks.getD (2 * i + 1) 0))

/-- The averager writes its accumulators to the tile's shared memory, whenever they change (R184). -/
def State.putAvg (s : State) : State :=
  match s.therm.open_, s.thermEngine with
  | some r, some e => s.setEmem (0x1000000 * (e / 16) + Config.avgBank (e / 16) r.bank) (bankBytes r)
  | _, _ => s

/-- A frame of a span: DERATED and LOCK_STATE of its header (Table 6-4). -/
def SpanMarks.add (m : SpanMarks) (header : Bytes) : SpanMarks :=
  let l := field header 0x1A 1
  { derated := m.derated || bitAt (field header 0x1B 1) 0, lock := some l
    lockChanged := m.lockChanged || (match m.lock with | some x => x != l | none => false) }

/-- A record opens at the boundary that opens frame `n`: in a free bank, else the averager waits, with BANK_BUSY on entry. `forward`
forces the direction after a close event; a wait keeps that (R198). -/
def State.avgOpen (s : State) (n : Nat) (forward : Bool) : State :=
  match s.freeBank with
  | none =>
    let s1 := if s.therm.avg = Therm.waiting then s else s.thermCode ThermCode.bankBusy 0
    { s1 with therm := { s1.therm with avg := Therm.waiting, open_ := none, forward := s1.therm.forward || forward } }
  | some b =>
    let p := s.therm.params
    let back := loopSwitch p && !(forward || s.therm.forward) && !s.therm.backward
    let turn := loopSwitch p && (back != s.therm.backward)
    let r : RamanRec := { bank := b, count := 0, skipped := s.therm.skippedNext, exp := 0, phaseSum := 0, phaseMin := 4, phaseMax := 0
                          first := n, last := n, gap := false, isPartial := false, backward := back
                          cells := List.replicate (Tp.cells p) (0, 0, false, false), span := ⟨false, none, false⟩, header := [] }
    let g : ThermSt := { s.therm with
      avg := Therm.accumulating, open_ := some r, skippedNext := 0, backward := back, forward := false
      settle := if turn then Tp.settle p else s.therm.settle }
    let s1 := ({ s with therm := g }).putAvg
    if loopSwitch p then s1.driveDir back else s1

/-- Two records belong to one run, image and epoch, by their headers (R199). -/
def sameSpan (a b : Bytes) : Bool := field a 4 4 == field b 4 4 && (a.drop 0x20).take 8 == (b.drop 0x20).take 8

/-- The open record closes at the boundary that opens frame `n`, complete or PARTIAL; one with no accumulating frame
is dropped (R191). Its partner for a pair is the record that closed immediately before it, of the opposite direction in one run, image
and epoch (R199). -/
def State.avgClose (s : State) (n : Nat) (part : Bool) : State :=
  match s.therm.open_, s.mrs.frames.find? (·.num + 1 = n) with
  | some r, some f =>
    if r.count = 0 then { s with therm := { s.therm with open_ := none } }
    else
      let r1 := { r with isPartial := part, last := n - 1, header := f.header }
      let mate := s.therm.prev.filter (fun q => q.backward != r1.backward && sameSpan q.header r1.header)
      let d : ThermDue := ⟨1, r1.first, r1.last, n, f, some r1, mate, none, s.therm.params, s.therm.store, s.therm.mps⟩
      { s with therm := { s.therm with open_ := none, closed := s.therm.closed ++ [r1], due := s.therm.due ++ [d], prev := some r1 } }
  | _, _ => { s with therm := { s.therm with open_ := none } }

/-- One frame's sums enter a cell (R189). -/
def addSum (e : Nat) (acc sum : Int) : Int :=
  if e = 0 then acc + sum else acc + (sum + 2 ^ (e - 1)) / (2 ^ e : Int)

/-- An accumulating frame adds its sums, marks and MADC phase to the open record. -/
def RamanRec.add (r : RamanRec) (cells : List (Int × Int × Bool × Bool)) (phase num : Nat) : RamanRec :=
  let z := r.cells.zip (cells ++ List.replicate r.cells.length (0, 0, false, false))
  { r with
    count := r.count + 1, last := num, phaseSum := r.phaseSum + phase
    phaseMin := min r.phaseMin phase, phaseMax := max r.phaseMax phase
    cells := z.map (fun x => (addSum r.exp x.1.1 x.2.1, addSum r.exp x.1.2.1 x.2.2.1, x.1.2.2.1 || x.2.2.2.1, x.1.2.2.2 || x.2.2.2.2)) }

/-- An accumulator has left the guard range (R190). -/
def RamanRec.over (r : RamanRec) : Bool :=
  r.cells.any (fun c => decide (c.1 < -(2 ^ 38)) || decide (c.1 > 2 ^ 38 - 1) || decide (c.2.1 < -(2 ^ 38)) || decide (c.2.1 > 2 ^ 38 - 1))

/-- AVERAGER_RESCALE: every accumulator of the open record is shifted right by one, rounding halves away from zero, and
e is incremented (R190). -/
def State.avgRescale (s : State) : State :=
  match s.therm.open_ with
  | some r =>
    if r.over && decide (r.exp < 15) then
      let r1 := { r with exp := r.exp + 1, cells := r.cells.map (fun c => (roundDiv c.1 2, roundDiv c.2.1 2, c.2.2)) }
      ({ s with therm := { s.therm with open_ := some r1, rescales := satSucc (2 ^ 32 - 1) s.therm.rescales } }).putAvg
    else s
  | none => s

/-- A frame is excluded: it counts in SKIPPED of the open or the next record (R189, Table 6-3). -/
def State.avgSkip (s : State) : State :=
  let s1 : State := { s with therm := { s.therm with skipped := satSucc (2 ^ 32 - 1) s.therm.skipped } }
  match s1.therm.open_ with
  | some r => { s1 with therm := { s1.therm with open_ := some { r with skipped := r.skipped + 1 } } }
  | none => { s1 with therm := { s1.therm with skippedNext := s1.therm.skippedNext + 1 } }

/-- A frame's cells: the sums of the Q sample codes of MADC0 and MADC1, counted from MADC sample 0, a blanked sample as 0, with the
SATURATED and BLANKED marks (R188, R189). -/
def frameCells (p : Bytes) : Nat → List MedSample → List (Int × Int × Bool × Bool)
  | 0, _ => []
  | n + 1, l =>
    let g := l.take (Tp.q p)
    let sum (c : Nat) : Int := g.foldl (fun a m => a + ((m.codes[c]?).getD (0, false)).1) 0
    let sat := g.any (fun m => ((m.codes[0]?).getD (0, false)).2 || ((m.codes[1]?).getD (0, false)).2)
    (sum 0, sum 1, sat, g.any (·.blank)) :: frameCells p n (l.drop (Tp.q p))

/-- The frame that ends at an instant enters the averager (R189). DESIGN CHOICE (log entry 161): the SETTLE frames after a DIR_SEL change
are real frames; virtual frames do not count among them. -/
def State.avgFrame (s0 : State) (f : FrameRec) (t : Nat) : State :=
  let s : State := match s0.therm.open_ with
    | some r => { s0 with therm := { s0.therm with open_ := some { r with span := r.span.add f.header } } }
    | none => s0
  if s.therm.avg = Therm.idle then s
  else if !f.real then
    match s.therm.open_ with
    | some r => { s with therm := { s.therm with open_ := some { r with gap := true } } }
    | none => s
  else
    let settling := decide (0 < s.therm.settle)
    let s1 : State := { s with therm := { s.therm with settle := s.therm.settle - 1 } }
    if f.diag || settling || f.lost then s1.avgSkip
    else match s1.therm.open_ with
      | some r =>
        let cells := frameCells s1.therm.params (Tp.cells s1.therm.params) (s1.frameMed f t)
        ({ s1 with therm := { s1.therm with open_ := some (r.add cells (madcPhase f.launch) f.num) } }).putAvg
      | none => s1.avgSkip

/-! ### Brillouin spans (R202, R204) -/

/-- A Brillouin record opens with the next candidate. -/
def BrilRec.fresh (n cells : Nat) : BrilRec :=
  { first := n, last := n, count := 0, skipped := 0, next := 0, isPartial := false, gap := false, phaseSum := 0, phaseMin := 4, phaseMax := 0
    spectra := List.replicate cells [], stalled := false, span := ⟨false, none, false⟩, header := [] }

/-- Spectra that the group keeps in its spill region stall while the DMC is frozen; the values stay and the record is late (R211). -/
def State.spectraStall (s : State) : Bool :=
  s.flag F.DMC_STATUS.FROZEN && (match s.thermGroup with | some g => (Config.spillRegion (s.groups.idxOf g)).2 != 0 | none => false)

/-- The frame that ends at an instant enters the Brillouin span: every BRIL_DIV-th candidate is processed, and excluded and counted in
SKIPPED when its MADC2 descriptor shows saturation or BLANKED; the others add their spectra (R202). -/
def State.brilFrame (s : State) (f : FrameRec) (t : Nat) : State :=
  match s.therm.bril with
  | none => s
  | some r0 =>
    let r := { r0 with span := r0.span.add f.header, gap := r0.gap || !f.real, stalled := r0.stalled || s.spectraStall }
    let put (x : BrilRec) : State := { s with therm := { s.therm with bril := some x } }
    if !f.real || f.diag || f.lost then put r
    else if r.next ≠ 0 then put { r with next := r.next - 1 }
    else
      let bad := match (s.afe.madcDesc.find? (·.1 = 2)).map (·.2.2) with
        | some w => bitsOf w 15 0 != 0 || bitAt w.toNat 19
        | none => false
      let nx := field s.therm.params 0x36 1 - 1
      if bad then
        let s1 := put { r with skipped := r.skipped + 1, next := nx }
        { s1 with therm := { s1.therm with skipped := satSucc (2 ^ 32 - 1) s1.therm.skipped } }
      else put (r.add s.therm.params ((s.frameMed f t).map (fun m => ((m.codes[2]?).getD (0, false)).1)) (madcPhase f.launch) f.num nx)

/-- The Brillouin record closes; it waits for the Raman record of its midpoint (R204). -/
def State.brilClose (s : State) (n : Nat) (part : Bool) : State :=
  match s.therm.bril, s.mrs.frames.find? (·.num + 1 = n) with
  | some r, some f =>
    if r.count = 0 then { s with therm := { s.therm with bril := none } }
    else
      let r1 := { r with isPartial := part, last := n - 1, header := f.header }
      let d : ThermDue := ⟨2, r.first, n - 1, n, f, none, none, some r1, s.therm.params, s.therm.store, s.therm.mps⟩
      { s with therm := { s.therm with bril := none, brilWait := s.therm.brilWait ++ [d] } }
  | _, _ => { s with therm := { s.therm with bril := none } }

/-- Brillouin records whose Raman record has closed, or that have none to wait for, are due for dispatch at the
boundary that opens frame `n`; the deadline counts from the later close (R204). -/
def State.brilPair (s : State) (n : Nat) : State :=
  let openSpan (m : Nat) : Bool := match s.therm.open_ with | some r => decide (r.first ≤ m) | none => false
  let wait (x : ThermDue) : Bool := Tp.ramanT x.params && openSpan ((x.first + x.last) / 2)
  let go := s.therm.brilWait.filter (fun x => !wait x)
  { s with therm := { s.therm with brilWait := s.therm.brilWait.filter wait, due := s.therm.due ++ go.map (fun x => { x with close := n }) } }

/-! ### States (Table 6-9) -/

/-- The checks of R186 and R187: RUNNING or PARAM_FAULT. The parameter block is read anew at a start and at an image switch, the constants
are those of the epoch in force. -/
def State.thermVerify (s : State) (reread : Bool) : State :=
  let p := if reread then s.thermBlock else s.therm.params
  let t := if s.slave then s.fld F.MRS_TMIN.T_MIN else s.fld F.MRS_PERIOD.T
  let s1 : State := { s with therm := { s.therm with params := p, store := s.alm.store, mps := toF64 s.metresPerSample } }
  match thermCheck p t (fun c => s.fld (F.VPF_CHc_CFG.CURVE c)) s.metresPerSample with
  | some d => ({ s1 with therm := { s1.therm with prog := Therm.paramFault, avg := Therm.idle } }).thermCode ThermCode.param d
  | none => match thermConstants p s.alm.store with
    | some row => ({ s1 with therm := { s1.therm with prog := Therm.paramFault, avg := Therm.idle } }).thermCode ThermCode.noConstants row
    | none => { s1 with therm := { s1.therm with prog := Therm.running } }

/-- The image has a thermal program set. -/
def State.hasTherm (s : State) : Bool := s.thermGroup.isSome

/-- Records open at the boundary that opens frame `n`. DESIGN CHOICE (log entry 162): the averager opens none where neither RAMAN_T nor
RAMAN_TRACE is enabled. -/
def State.thermOpen (s : State) (n : Nat) (forward : Bool) : State :=
  let p := s.therm.params
  let s1 := if Tp.ramanT p || Tp.trace p then s.avgOpen n forward else s
  if Tp.brillouin p then { s1 with therm := { s1.therm with bril := some (BrilRec.fresh n (Bp.cells p)) } } else s1

/-- Acquisition starts at the boundary that opens frame `n`. -/
def State.thermStart (s : State) (n : Nat) : State :=
  if !s.hasTherm ∨ s.therm.prog = Therm.running then s
  else
    let s1 := s.thermVerify true
    (if s1.therm.prog = Therm.running then s1.thermOpen n true else s1).thermStatus

/-- Open records close at a close event. A record whose count has just reached its number closes complete. The next Raman record is
forward, also where the averager waits (R198). -/
def State.thermClose (s : State) (n : Nat) : State :=
  let full := match s.therm.open_ with | some r => decide (r.count ≥ 2 ^ Tp.avgExp s.therm.params) | none => false
  let fullB := match s.therm.bril with | some r => decide (r.count ≥ Bp.avg s.therm.params) | none => false
  let s1 := (s.avgClose n (!full)).brilClose n (!fullB)
  { s1 with therm := { s1.therm with forward := true } }

/-- Acquisition stops at the boundary that opens frame `n`. -/
def State.thermStop (s : State) (n : Nat) : State :=
  if s.therm.prog ≠ Therm.running then s
  else
    let s1 := (s.thermClose n).brilPair n
    ({ s1 with therm := { s1.therm with prog := Therm.idle, avg := Therm.idle } }).thermStatus

/-- An image switch (`switched`) or an epoch change alone at the boundary that opens frame `n`. An image without a thermal program set ends
it; its open records close. DESIGN CHOICE (log entry 160): a heavy switch has the block read at its boundary and again at its completion, when the engines
hold the new program. -/
def State.thermChange (s : State) (n : Nat) (switched : Bool) : State :=
  if !s.hasTherm then
    let s1 := (s.thermClose n).brilPair n
    { s1 with therm := { s1.therm with prog := Therm.idle, avg := Therm.idle } }
  else if s.therm.prog = Therm.idle then ({ s with therm := { s.therm with params := s.thermBlock } })
  else
    let s1 := (s.thermClose n).brilPair n
    let s2 := s1.thermVerify switched
    (if s2.therm.prog = Therm.running then s2.thermOpen n true else s2).thermStatus

/-- The frame that ends at an instant enters the averager and the Brillouin spectra. -/
def State.thermFrame (s : State) (t : Nat) : State :=
  match s.cur with
  | none => s
  | some f => if s.therm.prog = Therm.running ∧ s.domOn 7 then (s.avgFrame f t).brilFrame f t else s

/-- At a boundary without a close event: complete records close and the next open, an averager without a record takes a free
bank, and an accumulator beyond the guard is rescaled. -/
def State.thermTurn (s : State) (n : Nat) : State :=
  if s.therm.prog ≠ Therm.running then s
  else
    let p := s.therm.params
    let s1 := match s.therm.open_ with
      | some r => if r.count ≥ 2 ^ Tp.avgExp p then (s.avgClose n false).avgOpen n false else s.avgRescale
      | none => if s.therm.avg = Therm.idle then s else s.avgOpen n false
    let s2 := match s1.therm.bril with
      | some r => if r.count ≥ Bp.avg p then
          let a := s1.brilClose n false
          { a with therm := { a.therm with bril := some (BrilRec.fresh n (Bp.cells p)) } }
        else s1
      | none => s1
    (s2.brilPair n).thermStatus

/-- A new run: open records are discarded, and those of the new run open at its first boundary (R191, Table 6-9). DEDUCED (log entry
163): its first Raman record is forward. -/
def State.thermNewRun (s : State) : State :=
  let s1 : State := { s with therm := { s.therm with open_ := none, bril := none, prev := none } }
  if s1.therm.prog ≠ Therm.running then { s1 with therm := { s1.therm with avg := Therm.idle } }
  else ((s1.brilPair 0).thermOpen 0 true).thermStatus

/-- The averager banks, the spectra and the status block are lost; the program set is IDLE (R211). -/
def State.thermLost (s : State) : State :=
  let s1 := match s.thermEngine with
    | some e => s.setEmem (dataBase e + 0x100) (zeros 64)
    | none => s
  { s1 with therm := ThermSt.reset }

/-- The tile of the thermal group leaves RUN (R211). -/
def State.thermTile (s : State) (t : Nat) : State :=
  match s.thermEngine with
  | some e => if e / 16 = t then s.thermLost else s
  | none => s

/-! ### Conversion by the program set (R194-R207) -/

/-- Results of a Vernier channel in the result ring whose stamp lies in a span of frames: VALUE in degC of the VALID ones (R194, 15 R425,
R426). -/
def State.bathResults (s : State) (ch first last : Nat) : List Float :=
  let base := 0x1000000 * s.fld F.VPF_RING.TILE + s.fld F.VPF_RING.OFFSET
  ((List.range (min 256 s.vpf.ringCount)).map (fun i => s.emem (base + 8 + 32 * i) 32)).filterMap (fun e =>
    let frame := field e 0x18 6
    if field e 0 1 = ch ∧ bitAt (field e 4 2) 0 ∧ first ≤ frame ∧ frame ≤ last then some (fInt (signed 32 (field e 8 4)) / 65536.0) else none)

/-- A partner chip's record in one of the two slots (19 R492): LAUNCH_NS of its header, Q, and its cells. -/
def readTrace (b : Bytes) : Option (Nat × Nat × List RamanCell) :=
  let h := b.take 64
  if field h 0 2 ≠ 1 ∨ field h 0x3C 4 ≠ (crc32c (h.take 0x3C)).toNat then none
  else
    let cells := (List.range (min 131072 (field b 64 4))).map (fun i =>
      let l := w32 (field b (80 + 8 * i) 4)
      let bad := bitsOf l 30 23 == 255
      ({ lnR := f32 l, var := f32 (w32 (field b (84 + 8 * i) 4)), z := 0.0, sat := false, blank := false, low := bad } : RamanCell))
    some (field h 0x10 8, field b 68 1, cells)

/-- The partner record of a cascade partner: of the two slots the one whose LAUNCH_NS lies nearest, within N_A x T and with equal Q and
RAMAN_CELLS (R198, R199). -/
def State.cascadeMate (s : State) (d : ThermDue) : Option (List RamanCell) :=
  let base := s.reg64 R.CSP_DE_BASE_LO R.CSP_DE_BASE_HI
  let own := field d.frame.header 0x10 8
  let dist (a : Nat) : Nat := if a ≤ own then own - a else a - own
  let span := 2 ^ Tp.avgExp d.params * d.frame.cfg.period * 4 / 5
  let l := (([0, 1].filterMap (fun k => (s.dramRead (fixedPath .csp) 2 (base + k * 2 ^ 21) (80 + 8 * Tp.cells d.params)).2)).filterMap readTrace).filter (fun x =>
    x.2.1 == Tp.q d.params && x.2.2.length == Tp.cells d.params && decide (dist x.1 ≤ span))
  (l.foldl (fun (a : Option (Nat × Nat × List RamanCell)) x => match a with
    | some y => if dist x.1 < dist y.1 then some x else some y
    | none => some x) none).map (·.2.2)

/-- What a Raman record converts to: its job, the conversion, the first frame of a pair; and the code of one without (R196, R199,
R200). DESIGN CHOICE: the Vernier results of the record's own span (log 185). -/
def State.ramanOut (s : State) (d : ThermDue) (r : RamanRec) : RamanJob × Except Nat RamanOut × Nat :=
  let j : RamanJob := ⟨r, d.params, d.store, f64 d.mps⟩
  let bath (o : Nat) (x : RamanJob) : List Float := s.bathResults (field d.params (o + 6) 1) x.rec_.first x.rec_.last
  let made (x : RamanJob) (back : List RamanCell) : Except Nat RamanOut := match x.pair back (bath 0x14 x) with
    | some o => .ok o
    | none => .error ThermCode.refStale
  if !Tp.doubleEnded d.params then (j, .ok (j.single (bath 0x14 j) (bath 0x1C j)), r.first)
  else if Tp.cascade d.params then match s.cascadeMate d with
    | some back => (j, made j back, r.first)
    | none => (j, .error ThermCode.noPartner, r.first)
  else match d.partner with
    | some q =>
      let k : RamanJob := { j with rec_ := q }
      let fwd := if r.backward then k else j
      let back := if r.backward then j else k
      (j, made fwd back.cells, min q.first r.first)
    | none => (j, .error ThermCode.noPartner, r.first)

/-- The temperatures of a record, as kept for the Brillouin records (R204). -/
def RamanTemps.of (r : RamanRec) (first : Nat) (o : RamanOut) : RamanTemps :=
  ⟨field r.header 4 4, first, r.last, o.stale, o.cells.map (fun c => c.value.map (fun v => (toF64 v.1, toF64 v.2)))⟩

/-- The temperatures that stay once a further record is converted: the newest 8, and those whose span reaches into a Brillouin record that
is open or not yet converted. -/
def State.keepTemps (s : State) (l : List RamanTemps) : List RamanTemps :=
  let firsts := (s.therm.bril.toList.map (·.first)) ++ ((s.therm.brilWait ++ s.therm.due ++ s.therm.jobs).filter (fun d => d.bril.isSome)).map (·.first)
  l.take 8 ++ (l.drop 8).filter (fun x => firsts.any (fun n => decide (n ≤ x.last)))

/-- The program set converts a Raman record: RAMAN_T and RAMAN_TRACE blocks, codes, counts (R192-R200, R207). The descriptor of a trace
carries the constants of that conversion, where there is none those of the calibration record (R197, log 164). -/
def State.convertRaman (s : State) (block : Nat) (d : ThermDue) (r : RamanRec) : State :=
  let x := s.ramanOut d r
  let sc := ramanScale d.store
  let tr : Bool × Float × Float := match x.2.1 with
    | .ok o => (o.stale, o.lnC, o.dAlpha)
    | .error c => (c == ThermCode.refStale, sc.lnC, sc.dAlpha)
  let s1 := match x.2.1 with
    | .ok o =>
      let g : ThermSt := { s.therm with
        ramanRecords := (s.therm.ramanRecords + 1) % 2 ^ 32, temps := s.keepTemps (RamanTemps.of r x.2.2 o :: s.therm.temps) }
      let a : State := { s with therm := g }
      (if Tp.ramanT d.params then a.expect d.last block 0x11 (x.1.tempBlocks o x.2.2) else a).thermCode
        (if o.stale then ThermCode.refStale else 0) 0
    | .error c => s.thermCode (if Tp.ramanT d.params then c else 0) 0
  (if Tp.trace d.params then s1.expect d.last block 0x12 (x.1.traceBlocks tr.1 tr.2.1 tr.2.2) else s1).thermStatus

/-- The program set converts a Brillouin record with the temperatures of the Raman record that contains its midpoint (R201-R207). -/
def State.convertBril (s : State) (block : Nat) (d : ThermDue) (r : BrilRec) : State :=
  let mid := (d.first + d.last) / 2
  let run := field r.header 4 4
  let t := if Tp.ramanT d.params then s.therm.temps.find? (fun x => x.run == run && decide (x.first ≤ mid) && decide (mid ≤ x.last)) else none
  let temps := t.map (fun x => x.cells.map (fun c => c.map (fun v => (f64 v.1, f64 v.2))))
  let o := brilBlocks { r with stalled := r.stalled || s.spectraStall } d.params d.store (f64 d.mps) temps (t.any (·.stale))
  let s1 : State := { s with therm := { s.therm with
    brilRecords := (s.therm.brilRecords + 1) % 2 ^ 32, fitFail := satAdd (2 ^ 32 - 1) s.therm.fitFail o.2 } }
  ((s1.expect d.last block 0x13 o.1).thermCode (if o.2 = 0 then 0 else ThermCode.fitFail) 0).thermStatus

/-- The program set takes the descriptor of a dispatched record; in PARAM_FAULT it delivers nothing of it (R210). -/
def State.thermTake (s : State) (source frame block : Nat) : State :=
  match s.therm.jobs.find? (fun d => d.source == source && d.last == frame) with
  | none => s
  | some d =>
    let s1 : State := { s with therm := { s.therm with jobs := s.therm.jobs.erase d } }
    if s1.therm.prog = Therm.paramFault then s1
    else match d.raman, d.bril with
    | some r, _ => s1.convertRaman block d r
    | none, some r => s1.convertBril block d r
    | none, none => s1

/-- BANK_RELEASE: the engines have copied the oldest closed record and free its bank; a WAITING averager is ACCUMULATING, its record opening
at the next boundary (R191, Table 6-3). -/
def execBankRelease (s : State) : Host.Outcome State Fault Refusal :=
  .next (match s.therm.closed with
    | [] => s
    | _ :: rest =>
      let s1 : State := { s with therm := { s.therm with closed := rest } }
      if s1.therm.avg = Therm.waiting then ({ s1 with therm := { s1.therm with avg := Therm.accumulating } }).thermStatus else s1)

end Sys2Proof.Machine
end

