-- ==== Sys2Proof/Machine/Mrs.lean ====
section
/-! DEFINITION. The Meridian range scheduler: its checks, slots, dispatch, deadlines, moves and lost blocks (08 R248-R264),
and its plain requests. -/

namespace Sys2Proof.Machine

/-- MRS codes (08 Table 8-5). -/
abbrev MrsCode.badConfig : Nat := 1
abbrev MrsCode.noImage : Nat := 2
abbrev MrsCode.busy : Nat := 3
abbrev MrsCode.slotRange : Nat := 4
abbrev MrsCode.slotPast : Nat := 5
abbrev MrsCode.slotFull : Nat := 6
abbrev MrsCode.slotCancelled : Nat := 7
abbrev MrsCode.blockLost : Nat := 8
abbrev MrsCode.noTarget : Nat := 9

/-! ### Checks at acquisition start and at each switch (R250, R252, R267) -/

/-- An entry's action is known and its TARGET matches it (Table 8-1, R252). -/
def slotOk (f : Fld → Nat) (groups : List Group) (x : Slot) : Bool :=
  let gpioFree := !(f F.PGU_CAL_CFG.GPIO_EN == 1 && f F.PGU_CAL_CFG.GPIO == x.arg)
  (match x.action with
   | 1 => decide (x.target % 2 ^ 24 = 0) && decide (0x21000000 ≤ x.target) && decide (x.target ≤ 0x34000000)
   | 2 => x.target == 0 && decide (x.arg ≤ 15) && gpioFree
   | 3 => x.target == 0 && decide (x.arg ≤ 15) && gpioFree
   | 4 => x.target == fixedPath .znt
   | 5 => x.target == fixedPath .stu && decide (x.arg ≤ 63)
   | 6 => x.target == fixedPath .stu
   | 7 => x.arg == 0 && groups.any (fun g => enginePath g.lowest == x.target)
   | _ => false)
  && !(f F.MRS_GEOM.MODE == 1 && decide (x.offset < 50 - (f F.MRS_SLAVE_L.L : Int)))

/-- DETAIL of the first MRS check that fails: geometry against the PGU, DEADLINE, then the slots in entry order. -/
def mrsCheck (f : Fld → Nat) (img : Bytes) : Option Nat :=
  let gs := imgGroups img
  let sl := imgSlots img
  firstSome [
    if f F.MRS_GEOM.K_CODE ≠ f F.PGU_TONE_CFG.K_CODE ∨ field (imgPay img Sec.geometry) 0x10 4 ≠ f F.PGU_TONE_CFG.LEN
      ∨ f F.MRS_GEOM.K_CODE > 4 then some 6 else none,
    if f F.MRS_DEADLINE.FRAMES = 0 then some 0xB else none,
    (((List.range sl.length).zip sl).find? (fun x => !slotOk f gs x.2)).map (·.1)]

/-! ### Slots (R249-R252) -/

/-- A frame that has opened, or the next one as far as it is placed. -/
def State.slotFrame (s : State) (n : Nat) : Option FrameRec :=
  (s.mrs.frames.find? (·.num = n)).orElse (fun _ => s.nextFrame.filter (fun f => f.num == n))

/-- Instant of a slot of a frame for a tone (R249, R250): a slot before the launch reference of a frame opened for a
missing edge runs at it, and one of a slave frame no earlier than 40 ns after the edge's stamp. -/
def slotInstant (f : FrameRec) (tone : Nat) (off : Int) : Nat :=
  let at_ := ((f.launch + tone * f.cfg.stagger : Nat) : Int) + off
  if off ≥ 0 then at_.toNat
  else if f.missing then f.launch
  else match f.edge with
    | some e => max at_.toNat (((e + 40 * 512) * 5 + 2047) / 2048)
    | none => at_.toNat

/-- A REAL_ONLY slot of a frame executes (R252). -/
def State.slotReal (s : State) (f : FrameRec) (opened : Bool) : Bool :=
  f.real && (opened || s.acq == Mrs.running)

/-- A slot as it executes: frame, offset, action and ARG. -/
structure SlotRun where
  frame : Nat
  offset : Int
  target : Nat
  arg : Nat
  instant : Nat
  deriving DecidableEq, Repr

/-- The programmed slot `x` in a frame for a tone, where it executes (R252). A slot before the launch reference of a run's first frame has no
instant in the run. -/
def State.slotRun (s : State) (f : FrameRec) (x : Slot) (tone : Nat) : Option SlotRun :=
  let opened := s.mrs.frames.any (·.num == f.num)
  if f.num % 2 ^ x.repeatExp = x.phase ∧ tone < (if x.anchor = 1 then f.cfg.k else 1) ∧ (!x.realOnly || s.slotReal f opened)
      ∧ (if x.offset < 0 then f.num ≠ 0 else opened) then
    some ⟨f.num, x.offset, x.target, x.arg, slotInstant f tone x.offset⟩
  else none

/-- The programmed slot `entry` in a frame for a tone, where it executes with an action. -/
def State.progSlot (s : State) (entry frame tone action : Nat) : Option SlotRun :=
  match (s.slotFrame frame).bind (fun f => ((scheduleSlots f.rules.schedule)[entry]?).map (fun x => (x, f))) with
  | some (x, f) => if x.action = action then s.slotRun f x tone else none
  | none => none

/-- The unit a dynamic slot's action reaches: a request carries no TARGET (R253), so NOTIFY returns to its requester, and a
DOORBELL reaches no group. -/
def dynTarget (action requester : Nat) : Nat :=
  match action with
  | 4 => fixedPath .znt
  | 5 => fixedPath .stu
  | 6 => fixedPath .stu
  | 1 => 0x20000000 + 0x1000000 * requester
  | _ => 0

/-- An accepted dynamic slot of a requester with a tag, where its frame is open. -/
def State.dynSlot (s : State) (requester tag action : Nat) : Option (DynSlot × SlotRun) :=
  match s.mrs.dyn.find? (fun d => d.requester = requester ∧ d.tag = tag) with
  | some d =>
    match s.slotFrame d.frame with
    | some f => if d.action = action then
        some (d, ⟨d.frame, d.offset, dynTarget action requester, d.arg, slotInstant f 0 d.offset⟩) else none
    | none => none
  | none => none

/-- Programmed and dynamic slots that one fast sample can execute (R251). -/
abbrev slotLanes : Nat := 2

/-- The sample at which a slot due at an instant finds a lane: its own, or the first later one with a lane free. -/
def State.laneSample (s : State) (instant : Nat) : Nat :=
  let x := s.mrs.lanes
  if x.1 < instant then instant else if x.2 < slotLanes then x.1 else x.1 + 1

/-- A slot takes a lane: its slips are counted, and the time is the sample at which it executes (R251). -/
def State.takeLane (s : State) (instant : Nat) : State :=
  let t := s.laneSample instant
  let used := if t = s.mrs.lanes.1 then s.mrs.lanes.2 + 1 else 1
  (({ s with mrs := { s.mrs with lanes := (t, used) } }).at_ t).count F.MRS_SLOT_SLIP.SLIPS (t - instant)

/-- Place of a slot in the order in which the lanes take the waiting ones (R251): the original due instant; programmed before dynamic; entry
or acceptance order; and for one entry, which R251 leaves open, the frame and the tone (DESIGN CHOICE, log entry 190). -/
def slotOrder (instant : Nat) (isDyn : Bool) (index frame tone : Nat) : Nat :=
  (((instant * 2 + (if isDyn then 1 else 0)) * 2 ^ 32 + index) * 2 ^ 48 + frame) * 16 + tone

/-- Places of the programmed slots of a frame that have not executed. -/
def State.frameSlots (s : State) (f : FrameRec) : List Nat :=
  let l := scheduleSlots f.rules.schedule
  (((List.range l.length).zip l).flatMap (fun x => (List.range (if x.2.anchor = 1 then f.cfg.k else 1)).filterMap (fun tone =>
    (s.slotRun f x.2 tone).map (fun r => slotOrder r.instant false x.1 f.num tone)))).filter (fun k => decide (s.mrs.slotKey < k))

/-- Place of an outstanding dynamic slot whose frame is open or placed. -/
def State.dynOrder (s : State) (d : DynSlot) : Option Nat :=
  (s.slotFrame d.frame).map (fun f => slotOrder (slotInstant f 0 d.offset) true (s.mrs.dyn.idxOf d) d.frame 0)

/-- No waiting slot goes before a place in the lanes' order. -/
def State.slotFirst (s : State) (k : Nat) : Bool :=
  let frames := s.mrs.frames ++ s.nextFrame.toList
  frames.all (fun f => (s.frameSlots f).all (fun x => decide (k ≤ x))) && (s.mrs.dyn.filterMap s.dynOrder).all (fun x => decide (k ≤ x))

/-- A programmed slot that waits comes next in the lanes' order. -/
def State.progNext (s : State) (entry tone : Nat) (r : SlotRun) : Bool :=
  let k := slotOrder r.instant false entry r.frame tone
  decide (s.mrs.slotKey < k) && s.slotFirst k

/-- A dynamic slot comes next. -/
def State.dynNext (s : State) (d : DynSlot) : Bool := match s.dynOrder d with | some k => s.slotFirst k | none => false

/-- A slot executes: a programmed one once, a dynamic one leaves the outstanding ones, and the action follows (R251). One whose turn has not come
does nothing (log entry 190). -/
def State.runSlot (s : State) (ref : SlotRef) (action : Nat) (act : SlotRun → State → State) : State :=
  match ref with
  | .prog e n k =>
    match s.progSlot e n k action with
    | some r =>
      if s.progNext e k r then
        let s1 := s.takeLane r.instant
        act r { s1 with mrs := { s1.mrs with slotKey := slotOrder r.instant false e n k } }
      else s
    | none => s
  | .dyn q tag =>
    match s.dynSlot q.val tag.toNat action with
    | some (d, r) =>
      if s.dynNext d then
        let s1 := s.takeLane r.instant
        act r { s1 with mrs := { s1.mrs with dyn := s1.mrs.dyn.erase d } }
      else s
    | none => s

/-- Why a dynamic request is refused; none accepts (R253). The instant is known for a frame that is open or placed;
a later frame lies ahead by whole periods. -/
def State.dynRefusal (s : State) (frame : Nat) (off : Int) : Option Nat :=
  if frame < s.frame ∨ frame > s.frame + 65535 ∨ off < -1250 ∨ off > 2500000 then some MrsCode.slotRange
  else
    let launch := match s.slotFrame frame with
      | some f => f.launch
      | none => s.launch + (frame - s.frame) * s.fld F.MRS_PERIOD.T
    if (launch : Int) + off < (s.now : Int) + 125 then some MrsCode.slotPast
    else if s.mrs.dyn.length ≥ 256 then some MrsCode.slotFull
    else none

/-- DYNAMIC_SLOT_REQUEST: a unit asks for a slot at run time (R253). -/
def execDynamicSlotRequest (t : Nat) (requester : Fin 32) (frame : Nat) (off : Int) (action : Nat) (arg : Nat) (tag : BitVec 16)
    (s : State) : Host.Outcome State Fault Refusal :=
  let s0 := s.at_ t
  .next (match s0.dynRefusal frame off with
    | some code => (s0.count F.MRS_SLOT_SLIP.REFUSED 1).post .mrs code 0
    | none =>
      let d : DynSlot := { tag := tag.toNat, requester := requester.val, frame := frame, offset := off, action := action, arg := arg }
      { s0 with mrs := { s0.mrs with dyn := s0.mrs.dyn ++ [d] } })

/-- A cancelled slot: its requester receives SLOT_CANCELLED. -/
def State.dropDyn (s : State) (d : DynSlot) : State :=
  ({ s with mrs := { s.mrs with dyn := s.mrs.dyn.erase d } }).post .mrs MrsCode.slotCancelled 0

/-- DYNAMIC_SLOT_CANCEL: up to 100 ns before the instant (R253). -/
def execDynamicSlotCancel (t : Nat) (requester : Fin 32) (tag : BitVec 16) (s : State) : Host.Outcome State Fault Refusal :=
  let s0 := s.at_ t
  .next (match s0.mrs.dyn.find? (fun d => d.requester = requester.val ∧ d.tag = tag.toNat) with
    | none => s0
    | some d =>
      let at_ : Int := match s0.slotFrame d.frame with
        | some f => ((slotInstant f 0 d.offset : Nat) : Int)
        | none => ((s0.launch + (d.frame - s0.frame) * s0.fld F.MRS_PERIOD.T : Nat) : Int) + d.offset
      if (s0.now : Int) + 125 ≤ at_ then s0.dropDyn d else s0)

/-- A switch cancels the dynamic slots of frames from `n` on; a new run cancels all of them (R253). -/
def State.cancelDyn (s : State) (n : Nat) : State :=
  (s.mrs.dyn.filter (fun d => decide (n ≤ d.frame))).foldl State.dropDyn s

/-! ### Groups and blocks -/

/-- A group and a block with nothing scheduled. -/
def GroupSt.fresh : GroupSt := ⟨[], [], 0, 0, 0, [], 0, 0, [], [], false⟩
def BlockSt.fresh : BlockSt := ⟨[], false, none, none, 255, []⟩

def State.grp (s : State) (g : Nat) : GroupSt := tabGet (fun _ => GroupSt.fresh) s.mrs.groups g
def State.setGrp (s : State) (g : Nat) (x : GroupSt) : State :=
  { s with mrs := { s.mrs with groups := tabPut (fun _ => GroupSt.fresh) s.mrs.groups g x } }
def State.blk (s : State) (j : Nat) : BlockSt := tabGet (fun _ => BlockSt.fresh) s.mrs.blocks j
def State.setBlk (s : State) (j : Nat) (x : BlockSt) : State :=
  { s with mrs := { s.mrs with blocks := tabPut (fun _ => BlockSt.fresh) s.mrs.blocks j x } }

/-- Blocks of the table the engines work for. -/
def State.blockTotal (s : State) : Nat := (imgBlocks s.engImage).length

/-- Blocks assigned to a group, and its BLOCKS field. -/
def State.blocksOf (s : State) (g : Nat) : List Nat := (List.range s.blockTotal).filter (fun j => s.blockGroup j == g)
def State.countBlocks (s : State) : State :=
  (List.range 64).foldl (fun a g => a.setFld (F.MRS_GROUPg_STATUS.BLOCKS g) (a.blocksOf g).length) s

/-- HEALTH of a group: DEGRADED stays; LATE while LATE_RUN is not 0; OFFLINE where the image does not use it (R260,
R262). -/
def State.showHealth (s : State) (g : Nat) : State :=
  let f := F.MRS_GROUPg_STATUS.HEALTH g
  if g ≥ s.groups.length then s.setFld f 3
  else if s.fld f = 2 then s
  else s.setFld f (if s.fld (F.MRS_GROUPg_STATUS.LATE_RUN g) ≠ 0 then 1 else 0)

/-- The ROUTING assignment of the ACTIVE image goes into the block map (R263). -/
def State.routeBlocks (s : State) (n : Nat) : State :=
  let m := imgBlocks s.sil.active
  let s1 := (List.range 1040).foldl (fun a j =>
    let g := m[j]?.getD 255
    if a.blockGroup j = g then a else a.setBlockGroup j g) s
  ((List.range 64).foldl (fun a g => a.setGrp g { a.grp g with moveFrom := n, moveRun := 0 }) s1).countBlocks

/-- A heavy or first switch: groups and blocks start anew under the new ROUTING. -/
def State.mrsReload (s : State) : State :=
  let s1 : State := { s with mrs := { s.mrs with groups := [], blocks := [], queue := [], rebalance := false } }
  let s2 := (List.range 64).foldl (fun a g => a.setReg (R.MRS_GROUPg_STATUS g) (w32 (0x30000 * (if g < a.groups.length then 0 else 1)))) s1
  let m := imgBlocks s2.sil.active
  ((List.range 1040).foldl (fun a j => a.setBlockGroup j (m[j]?.getD 255)) s2).countBlocks

/-! ### Deadlines (R259, R260) -/

/-- Nominal time of instant n × K + K - 1 + H of a frame (05 R179, R255). One of the next frame counts from that frame's launch reference, and
has no time before it opens. -/
def State.lastInstant (s : State) (f : FrameRec) : Option Nat :=
  let i := f.cfg.k - 1 + f.rules.h
  if i < f.cfg.k then some (f.launch + i * f.cfg.stagger)
  else (s.mrs.frames.find? (·.num = f.num + 1)).map (fun g => g.launch + (i - f.cfg.k) * f.cfg.stagger)

/-- Instant at which bin `bin` of a frame's window ends for that instant. -/
def State.binEnd (s : State) (f : FrameRec) (bin : Nat) : Option Nat :=
  (s.lastInstant f).map (fun t => t + bin * f.cfg.pitch + (f.cfg.len + 1) / 2)

/-- The Rayleigh horizon of a frame (05 R179). -/
def State.horizon (s : State) (f : FrameRec) : Option Nat := s.binEnd f (f.rules.firstBin + f.rules.count)

/-- The frame that a frame's Rayleigh boundary opens, once that boundary has passed. -/
def State.rayBoundary (s : State) (f : FrameRec) : Option Nat :=
  (s.horizon f).bind (fun h => (((s.mrs.frames.filter (fun g => decide (h ≤ g.launch) && decide (f.num < g.num))).map (·.num)).reverse).head?)

/-- The frame that a dispatched block's deadline boundary opens; none while that boundary lies ahead unplaced. A
thermal record's is fixed at dispatch. -/
def State.deadlineOf (s : State) (frame fixed : Nat) : Option Nat :=
  if fixed ≠ 0 then some fixed
  else match s.mrs.frames.find? (·.num = frame) with
    | some f => (s.rayBoundary f).map (· + f.rules.deadline)
    | none => some frame

/-- DEADLINE of a Rayleigh descriptor: as the frame's own period places the boundaries ahead (log entry 42). -/
def State.deadlineField (s : State) (f : FrameRec) : Nat :=
  let ahead := match s.rayBoundary f with
    | some m => m - f.num
    | none =>
      let i := f.cfg.k - 1 + f.rules.h
      let span := (if i < f.cfg.k then i * f.cfg.stagger else f.cfg.period + (i - f.cfg.k) * f.cfg.stagger)
        + (f.rules.firstBin + f.rules.count) * f.cfg.pitch + (f.cfg.len + 1) / 2
      (span + f.cfg.period - 1) / max 1 f.cfg.period
  ahead + f.rules.deadline

/-- A block's deadline has passed. -/
def State.isLate (s : State) (frame fixed : Nat) : Bool :=
  match s.deadlineOf frame fixed with
  | some m => decide (m ≤ s.frame)
  | none => false

/-- Deadline of a dispatch as fixed at dispatch: 0 for a Rayleigh block. -/
def State.fixedDeadline (s : State) (d : Dispatch) : Nat :=
  match s.streams.find? (fun x => x.1 = d.stream) with
  | some (_, st) => if st.source = 0 ∨ st.source = 3 then 0 else d.frame + d.deadline
  | none => 0

/-- A frame is late for a group. -/
def State.markLate (s : State) (g frame : Nat) : State :=
  let x := s.grp g
  if x.lateFrames.contains frame then s else s.setGrp g { x with lateFrames := x.lateFrames ++ [frame] }

/-! ### Lost blocks (R256, R264) -/

/-- Everything of the real frames is delivered or lost: the last ready instants have passed, and nothing of them is on its way in the engines
(Table 8-4, 02 R86). -/
def State.lastDelivered (s : State) : Bool :=
  let past (t : Option Nat) : Bool := match t with | some t => decide (t ≤ s.now) | none => false
  let has (src : Nat) : Bool := (s.streamOfSource src).isSome
  s.mrs.queue.isEmpty && s.mrs.groups.all (fun g => g.2.ring.isEmpty && g.2.open_.isEmpty)
    && s.therm.due.isEmpty && s.therm.brilWait.isEmpty
    && s.mrs.frames.all (fun f => !f.real || f.lost || f.diag ||
      ((f.cal || !has 0 || past (s.horizon f)) && (!has 3 || past (some (f.launch + f.cfg.bins * f.cfg.pitch)))))

/-- Products that a stream's source feeds (05 R174, 06 R207). -/
def productsOf (source : Nat) : List Nat :=
  match source with | 0 => [1, 2, 3] | 1 => [0x11, 0x12] | 2 => [0x13] | _ => []

/-- Stream channels of a block: those STREAM_POLICY gives the products of its source, and for MADC3, which has none, those its outputs have gone
to (log entry 191). -/
def State.blockChans (s : State) (d : Dispatch) (source : Nat) : List Channel :=
  (s.rulesOf d.frame).policy.filter (fun c =>
    if source = 3 then (s.blk d.block).chans.contains c.chan else (productsOf source).contains c.product)

/-- A block of a frame is lost: code, count, interrupt, a gap for its stream channels, and a late frame for its group. -/
def State.loseBlock (s : State) (d : Dispatch) : State :=
  let s1 := ((s.count F.MRS_LOST_COUNT.COUNT 1).post .mrs MrsCode.blockLost 0).raise .mrs F.MRS_IRQ_STATUS.LOST
  let b := s1.blk d.block
  let s2 := ((s1.setBlk d.block { b with lost := (d.frame :: b.lost).take 65535, told := false }).markLate d.group d.frame).rayLose d.frame d.block
  let src := match s2.streams.find? (fun x => x.1 = d.stream) with | some (_, st) => st.source | none => 0
  let s3 : State := if src = 0 then
      { s2 with stu := { s2.stu with lost := ((d.frame, d.firstBin, d.binCount) :: s2.stu.lost).take 4096 } } else s2
  ((s3.blockChans d src).filter (fun c => bitAt c.dest 1)).foldl (fun a c => a.noteGap 3 c.chan d.block a.run d.frame a.run (d.frame + 1)) s3

/-- The bin of a group's current dispatch: FIRST_BIN of the block popped last and not FINAL, else the current bin (07 R244). -/
def State.dispatchBin (s : State) (g : Nat) : Nat :=
  match (s.grp g).open_.getLast? with
  | some d => d.firstBin
  | none => s.bin

/-! ### Dispatch (R255-R257) -/

/-- A descriptor as it stands in the ring (Table 8-2). -/
def Dispatch.bytes (d : Dispatch) : Bytes :=
  leBytes 6 d.frame ++ leBytes 2 d.block ++ leBytes 4 d.firstBin ++ leBytes 2 d.binCount ++ leBytes 1 d.stream ++ leBytes 1 d.flags
    ++ leBytes 4 (Config.inputAddr d.group d.block).toNat ++ leBytes 4 ((Config.spillSlot d.block).toNat / 8 * 8)
    ++ leBytes 4 ((Config.spillSlot d.block).toNat / 2 ^ 32) ++ leBytes 2 d.gapFrames ++ leBytes 2 d.deadline

/-- Entries a ring holds. -/
abbrev ringTop : Nat := 64

/-- Engine-local address of ring entry `n`. -/
def ringAddr (n : Nat) : Nat := 0x1F800 + 32 * (n % ringTop)

/-- Lowest engine of group `g`. -/
def State.groupLow (s : State) (g : Nat) : Nat := (s.groups[g]?.map Group.lowest).getD 0

/-- A descriptor's move and gap marks as it enters a ring (Table 8-2): MOVED_IN where another group took the block before, GAP_BEFORE where
frames of it are lost that no descriptor has carried. -/
def Dispatch.marked (d : Dispatch) (b : BlockSt) : Dispatch :=
  let gap := !b.told && !b.lost.isEmpty
  { d with
    flags := d.flags + (if b.home.isSome && b.home != some d.group then 1 else 0) + (if gap then 2 else 0)
    gapFrames := if gap then b.lost.length else 0 }

/-- A descriptor goes into its group's ring. -/
def State.ringPut (s : State) (d0 : Dispatch) : State :=
  let b := s.blk d0.block
  let d := d0.marked b
  let x := s.grp d.group
  let s1 := (s.setBlk d.block { b with told := true, home := some d.group }).setEmem (dataBase (s.groupLow d.group) + ringAddr x.written) d.bytes
  s1.setGrp d.group { x with ring := x.ring ++ [d], written := x.written + 1 }

/-- An earlier frame of the block still waits in the queue, or has not had its FINAL push from another group (R257). -/
def State.heldBack (s : State) (d : Dispatch) : Bool :=
  s.mrs.groups.any (fun x => x.1 != d.group && (x.2.ring ++ x.2.open_).any (fun e => e.block == d.block))
    || (s.mrs.queue.takeWhile (fun e => e != d)).any (fun e => e.block == d.block)

/-- A descriptor may enter its ring: there is room, and R257 does not hold it back. -/
def State.ringFree (s : State) (d : Dispatch) : Bool :=
  decide ((s.grp d.group).ring.length < ringTop) && !s.heldBack d

/-- The MRS's queue drains into the rings, in order for each group and block. -/
def State.drainQueue : List Dispatch → State → State
  | [], s => s
  | d :: rest, s =>
    if s.ringFree d then
      State.drainQueue rest (({ s with mrs := { s.mrs with queue := s.mrs.queue.erase d } }).ringPut d)
    else State.drainQueue rest s

/-- Every queued descriptor that can enters its ring. -/
def State.pumpQueue (s : State) : State := State.drainQueue s.mrs.queue s

/-- Every block a faulted group holds without a FINAL push is lost, and its blocks are to move (R264). -/
def State.mrsGroupFault (s : State) (g : Nat) : State :=
  let x := s.grp g
  let mine := s.mrs.queue.filter (fun d => d.group == g)
  let s1 := s.setGrp g { x with ring := [], open_ := [], popped := x.written, faulted := true }
  let s2 : State := { s1 with mrs := { s1.mrs with queue := s1.mrs.queue.filter (fun d => d.group != g) } }
  ((x.open_ ++ x.ring ++ mine).foldl State.loseBlock s2).pumpQueue

/-- An engine faults (07 R244): the registers show it and the MRS handles the group's blocks. -/
def State.engineFault (s : State) (e k code logCode pc : Nat) : State :=
  match s.groupOf e with
  | none => s
  | some (i, g) => ((s.faultRegs g e k code logCode pc (s.dispatchBin i)).mrsGroupFault i).haltDone

/-- A descriptor is written to its group's ring, queued, or lost (R256). A group that has faulted loses its blocks until it is loaded again
(R264); DESIGN CHOICE (log entry 192): so does one that is LOADING or OFF, whose ring no memory holds. -/
def State.dispatch (s : State) (d : Dispatch) : State :=
  let x := s.grp d.group
  let s0 := s.setGrp d.group { x with
    frames := if x.frames.any (fun e => e.1 == d.frame) then x.frames else x.frames ++ [(d.frame, s.fixedDeadline d)] }
  match s0.groups[d.group]? with
  | none => s0.loseBlock d
  | some g =>
    if !inRange Eng.loaded Eng.halted (s0.groupState g) then s0.loseBlock d
    else if s0.ringFree d then s0.ringPut d
    else if s0.mrs.queue.length < 4096 then { s0 with mrs := { s0.mrs with queue := s0.mrs.queue ++ [d] } }
    else s0.loseBlock d

/-- Ready instant of a Rayleigh block whose bins end before `bin` (R255); none while it lies in a frame that has not opened. -/
def State.rayReady (s : State) (f : FrameRec) (bin : Nat) : Option Nat := s.binEnd f bin

/-- The descriptor of a block; its gap and move marks come as it enters a ring. -/
def mkDispatch (stream : Nat) (f : FrameRec) (j first bins deadline ready : Nat) (reset : Bool) : Dispatch :=
  { group := (f.rules.groups[j]?).getD 255, frame := f.num, block := j, stream := stream, firstBin := first, binCount := bins
    flags := if reset then 4 else 0
    gapFrames := 0, deadline := deadline, ready := ready, header := f.header }

/-- A block's input lies at its INPUT address in its group (R254). -/
def State.putInput (s : State) (group block : Nat) (input : Bytes) : State :=
  match localAddr (s.groupLow group) (Config.inputAddr group block).toNat with
  | some ap => s.setEmem ap input
  | none => s

/-- A frame has had a block's ready event, or a later one has; frame numbers roll over. -/
def BlockSt.known (b : BlockSt) (frame : Nat) : Bool :=
  match b.last with | some n => decide ((n + 2 ^ 48 - frame) % 2 ^ 48 < 2 ^ 47) | none => false

/-- A block's ready event in a frame: taken once, in frame order. -/
def State.readyBlock (s : State) (d : Dispatch) (input : Bytes) : State :=
  let b := s.blk d.block
  if b.known d.frame then s
  else ((s.setBlk d.block { b with last := some d.frame, group := d.group }).putInput d.group d.block input).dispatch d

/-- Input of a Rayleigh block: the compressed samples of its bins and of the G bins below (05 R150, R152), tone by tone and polarisation by
polarisation, with their marks. -/
def State.packBins (s : State) (f : FrameRec) (first count : Nat) : Bytes :=
  let g := f.rules.ray.gauge
  let num (b : Bool) : Int := if b then 1 else 0
  Config.packInput ((List.range f.cfg.k).flatMap (fun k => [0, 1].flatMap (fun pol => (List.range (count + g)).flatMap (fun i =>
    let x := s.binOf f k pol (first - g + i)
    let c := cxCode x.val
    [(c.1 : Int), (c.2 : Int), num x.sat, num x.blank, num x.step]))))

/-- Input of a MADC3 block: its descriptor and codes, over the frame as far as it has come by an instant (04 R128, R129). -/
def State.packMedium (s : State) (f : FrameRec) (t : Nat) : Bytes :=
  let w := ((s.madcDescriptors f t).find? (·.1 = 3)).map (fun d => [(d.2.1.toNat : Int), (d.2.2.toNat : Int)])
  Config.packInput (w.getD [] ++ (s.frameMed f t).map (fun m => ((m.codes[3]?).getD (0, false)).1))

/-- The frame in progress ends: the input of a MADC3 block dispatched in it holds the whole frame, and its descriptor is final (04 R129,
log 188). -/
def State.mediumEnd (s : State) (t : Nat) : State :=
  match s.cur with
  | none => s
  | some f => s.streams.foldl (fun a x =>
      let b := a.blk x.2.firstBlock
      if x.2.source = 3 ∧ b.last = some f.num then a.putInput b.group x.2.firstBlock (a.packMedium f t) else a) s

/-- A Rayleigh block is ready: its input is kept for the program set. -/
def State.rayReadyBlock (s : State) (i : Nat) (f : FrameRec) (j first b ready : Nat) : State :=
  let d := mkDispatch i f j first b (s.deadlineField f) ready f.reset
  let s1 : State := if (s.blk j).known f.num then s else { s with mrs := { s.mrs with rayIn := s.mrs.rayIn ++ [s.rayInput f j first b] } }
  s1.readyBlock d (s.packBins f first b)

/-- A thermal record is ready: the program set holds it from its dispatch on. -/
def State.thermReadyBlock (s : State) (i j : Nat) (d : ThermDue) : State :=
  let s1 : State := { s with therm := { s.therm with due := s.therm.due.erase d, jobs := s.therm.jobs ++ [d] } }
  s1.readyBlock (mkDispatch i d.frame j 0 0 (d.close + Tp.deadline d.params - d.last) s1.now false) []

/-- BLOCK_DISPATCH: a block's ready instant has come (R255). Frames without acquisition dispatch no Rayleigh or MADC3 block; a record
goes out under its closing frame. `fadc`, `madc`: inputs of the converters since the samples last taken. -/
def execBlockDispatch (stream : Fin 8) (index frame : Nat) (fadc madc : List (List Int)) (t : Nat) (s : State) :
    Host.Outcome State Fault Refusal :=
  let s0 := (s.takeSamples fadc madc t).at_ t
  .next (match s0.streams.find? (fun x => x.1 = stream.val) with
    | none => s0
    | some (i, st) =>
      let j := st.firstBlock + index
      if index ≥ st.blockCount then s0
      else if st.source = 1 ∨ st.source = 2 then
        match s0.therm.due.find? (fun d => d.source == st.source && d.last == frame) with
        | some d => s0.thermReadyBlock i j d
        | none => s0
      else match s0.mrs.frames.find? (·.num = frame) with
        | none => s0
        | some f =>
          if !f.real ∨ f.lost ∨ f.diag then s0
          else if st.source = 0 then
            let first := f.rules.firstBin + 256 * index
            let b := min 256 (f.rules.count - 256 * index)
            match s0.rayReady f (first + b) with
            | some ready => if f.cal ∨ b = 0 ∨ t < ready then s0 else s0.rayReadyBlock i f j first b ready
            | none => s0
          else
            let ready := f.launch + f.cfg.bins * f.cfg.pitch
            if index ≠ 0 ∨ t < ready then s0
            else s0.readyBlock (mkDispatch i f j 0 0 (s0.deadlineField f) ready false) (s0.packMedium f t))

/-! ### Boundary actions (R260-R264) -/

/-- The earlier judged frames of a group: those whose deadline boundary opens frame `n` or has passed, in order. -/
def State.dueFrames (s : State) (g n : Nat) : List Nat :=
  ((s.grp g).frames.filter (fun e => match s.deadlineOf e.1 e.2 with | some m => decide (m ≤ n) | none => false)).map (·.1)

/-- A group has a block of a frame without its FINAL push. -/
def State.unfinished (s : State) (g frame : Nat) : Bool :=
  let x := s.grp g
  (x.ring ++ x.open_ ++ s.mrs.queue.filter (fun d => d.group == g)).any (fun d => d.frame == frame)

/-- A group's frame is judged at its deadline boundary: LATE_RUN, HEALTH and the run that counts for a move. -/
def State.judgeFrame (s : State) (g frame : Nat) : State :=
  let x := s.grp g
  let late := x.lateFrames.contains frame || s.unfinished g frame
  let x1 : GroupSt := { x with
    frames := x.frames.filter (fun e => e.1 != frame), lateFrames := x.lateFrames.erase frame
    moveRun := if !late then 0 else if frame < x.moveFrom then x.moveRun else x.moveRun + 1 }
  let s1 := s.setGrp g x1
  let f := F.MRS_GROUPg_STATUS.LATE_RUN g
  let s2 := if late then s1.setFld f (satSucc 255 (s1.fld f)) else s1.setFld f 0
  let s3 := s2.showHealth g
  if s3.fld f ≥ 64 ∧ s3.fld (F.MRS_GROUPg_STATUS.HEALTH g) ≠ 2 ∧ late then
    ((s3.setFld (F.MRS_GROUPg_STATUS.HEALTH g) 2).raise .mrs F.MRS_IRQ_STATUS.DEGRADED).almEvent Hist.degraded 3 0
      (leBytes 4 ((s.groups[g]?.map (·.path)).getD 0))
  else s3

/-- DEADLINE_CHECK at the boundary that opens frame `n`. -/
def State.judgeAll (s : State) (n : Nat) : State :=
  (List.range s.groups.length).foldl (fun a g => (a.dueFrames g n).foldl (fun b f => b.judgeFrame g f) a) s

/-- LOAD of a group (R261). -/
def State.showLoad (s : State) (g : Nat) : State :=
  let l := (s.grp g).load
  let r := (l.map (·.1)).sum
  let c := (l.map (·.2)).sum
  s.setFld (F.MRS_GROUPg_STATUS.LOAD g) (if c = 0 then 0 else min 255 ((512 * r + c) / (2 * c)))

/-- The frame that ends enters LOAD: cycles in which each group was RUNNING, of the cycles of the frame. -/
def State.loadFrame (s : State) (runs : List Nat) (cycles : Nat) : State :=
  (List.range s.groups.length).foldl (fun a g =>
    let x := a.grp g
    (a.setGrp g { x with load := ((min cycles (runs[g]?.getD 0), cycles) :: x.load).take 16 }).showLoad g) s

/-- LOAD starts anew. -/
def State.clearLoad (s : State) (g : Nat) : State := (s.setGrp g { s.grp g with load := [] }).showLoad g

/-- Groups of the pools that hold a block, but for one group, that run. -/
def State.eligible (s : State) (j g : Nat) : List Nat :=
  let pools := (s.streams.filter (fun x => decide (x.2.firstBlock ≤ j) && decide (j < x.2.firstBlock + x.2.blockCount))).map (·.2.pool)
  let masks := pools.map (fun p => (imgPools s.engImage)[p]?.getD 0)
  (List.range s.groups.length).filter (fun i => i != g && masks.any (fun m => bitAt m i) &&
    (match s.groups[i]? with | some x => s.groupState x == Eng.running || s.groupState x == Eng.waiting | none => false))

/-- The candidate of lowest cost, on equal cost the lowest path. Costs are fractions. -/
def State.cheapest (s : State) (cost : Nat → Nat × Nat) : List Nat → Option Nat → Option Nat
  | [], best => best
  | g :: rest, best =>
    let better := match best with
      | none => true
      | some b =>
        let x := (cost g).1 * (cost b).2
        let y := (cost b).1 * (cost g).2
        decide (x < y) || (x == y && decide (pathKey (enginePath (s.groupLow g)) < pathKey (enginePath (s.groupLow b))))
    s.cheapest cost rest (if better then some g else best)

/-- A block moves to a group from frame `n` on. -/
def State.moveBlock (s : State) (j from_ dest n : Nat) : State :=
  let s1 := (s.setBlockGroup j dest).countBlocks
  let s2 := s1.setGrp from_ { s1.grp from_ with moveFrom := n, moveRun := 0 }
  (s2.count F.MRS_MOVE_COUNT.MOVES 1).raise .mrs F.MRS_IRQ_STATUS.MOVED

/-- No move is possible: counted, and tried again after 3 further late frames. -/
def State.noMove (s : State) (g : Nat) : State :=
  ((s.setGrp g { s.grp g with moveRun := 0 }).count F.MRS_MOVE_COUNT.NO_TARGET 1).post .mrs MrsCode.noTarget 0

/-- A slow group's move at the boundary that opens frame `n` (R261). -/
def State.moveSlow (s : State) (n g : Nat) : State :=
  if (s.grp g).moveRun < 3 then s
  else
    let mine := s.blocksOf g
    match mine.getLast? with
    | none => s.setGrp g { s.grp g with moveRun := 0 }
    | some j =>
      match s.cheapest (fun i => (s.fld (F.MRS_GROUPg_STATUS.LOAD i), 1)) (s.eligible j g) none with
      | some dest => if mine.length ≤ 1 then s.noMove g else s.moveBlock j g dest n
      | none => s.noMove g

/-- A faulted group's blocks move one at a time in ascending order at the next boundary (R264), and at later ones while it stays in FAULT and
a block has found no eligible group. -/
def State.moveFaulted (s : State) (n g : Nat) : State :=
  match s.groups[g]? with
  | some x =>
    if s.groupState x ≠ Eng.fault ∧ !(s.grp g).faulted then s
    else (s.blocksOf g).foldl (fun a j =>
      let cost (i : Nat) : Nat × Nat :=
        let b := (a.blocksOf i).length
        if b = 0 then (0, 1) else (a.fld (F.MRS_GROUPg_STATUS.LOAD i) * (b + 1), b)
      match a.cheapest cost (a.eligible j g) none with
      | some dest => a.moveBlock j g dest n
      | none => a) (s.setGrp g { s.grp g with faulted := false })
  | none => s

/-- BLOCK_MOVE: REBALANCE_RESET, moves of slow groups and of faulted groups at the boundary that opens frame `n`. -/
def State.moveAll (s : State) (n : Nat) : State :=
  let s0 := if s.mrs.rebalance then ({ s with mrs := { s.mrs with rebalance := false } }).routeBlocks n else s
  let s1 := (List.range s0.groups.length).foldl (fun a g => a.moveSlow n g) s0
  (List.range s1.groups.length).foldl (fun a g => a.moveFaulted n g) s1

/-! ### Plain requests (Table 8-8) -/

/-- COUNT_CLR. -/
def State.mrsCountClr (s : State) : State :=
  [R.MRS_LAUNCH_IGNORED, R.MRS_VIRTUAL_COUNT, R.MRS_SLOT_SLIP, R.MRS_LATE_COUNT, R.MRS_MOVE_COUNT, R.MRS_LOST_COUNT].foldl
    (fun a r => a.setReg r 0) s

/-- HEALTH_CLR. -/
def State.mrsHealthClr (s : State) : State :=
  (List.range 64).foldl (fun a g =>
    let b := a.setFld (F.MRS_GROUPg_STATUS.LATE_RUN g) 0
    (if b.fld (F.MRS_GROUPg_STATUS.HEALTH g) = 2 then b.setFld (F.MRS_GROUPg_STATUS.HEALTH g) 0 else b).showHealth g) s

/-- REBALANCE_RESET: at the next boundary. -/
def State.mrsRebalance (s : State) : State := { s with mrs := { s.mrs with rebalance := true } }

/-- MRS_COUNT_CLR. -/
def execMrsCountClr (src : Src) (s : State) : Host.Outcome State Fault Refusal :=
  .next (s.onUnit (.reg src) .mrs R.MRS_CTRL State.mrsCountClr)

/-- HEALTH_CLR. -/
def execHealthClr (src : Src) (s : State) : Host.Outcome State Fault Refusal :=
  .next (s.onUnit (.reg src) .mrs R.MRS_CTRL State.mrsHealthClr)

/-- REBALANCE_RESET. -/
def execRebalanceReset (src : Src) (s : State) : Host.Outcome State Fault Refusal :=
  .next (s.onUnit (.reg src) .mrs R.MRS_CTRL State.mrsRebalance)

/-- The launch stamper stamps an edge: one of the direction that IN_EDGE selects, 1 ns or more after the one stamped before
(14 R399). -/
def State.launchStamps (s : State) (stamp : Nat) (falling : Bool) : Bool :=
  falling == s.flag F.PGU_LAUNCH_CFG.IN_EDGE && (match s.ttu.launchStamp with | some e => decide (e + 512 ≤ stamp) | none => true)

/-- LAUNCH_IN_EDGE: an edge is stamped and, in slave mode, accepted or ignored (01 R41, R42, 03 R108, 14 R399). The launch
reference is the first fast sample at or after stamp + L. -/
def execLaunchInEdge (stamp : Nat) (falling : Bool) (s : State) : Host.Outcome State Fault Refusal :=
  let u := s.at_ (5 * stamp / 2048)
  let s0 : State := { u with ttu := { u.ttu with launchStamp := some stamp } }
  .next (if !u.launchStamps stamp falling then u
    else if !u.slave then s0
    else
      let tmin := s0.fld F.MRS_TMIN.T_MIN * 2048
      let early := match s0.mrs.lastEdge with | some e => decide (5 * stamp < 5 * e + tmin) | none => false
      if early then s0.count F.MRS_LAUNCH_IGNORED.COUNT 1
      else
        let ref := (5 * stamp + 2047) / 2048 + s0.fld F.MRS_SLAVE_L.L
        { s0 with mrs := { s0.mrs with lastEdge := some stamp, pendRefs := s0.mrs.pendRefs ++ [(ref, stamp)] } })

end Sys2Proof.Machine
end

