-- ==== Sys2Proof/Machine/Stream.lean ====
section
/-! DEFINITION. Stream channels: where a finished block goes, the host rings and their records, and the hand-over to the
compression engine (00 R26, R27, 18 R479-R481, 10 R312). -/

namespace Sys2Proof.Machine

/-- The open channel of a number in the ACTIVE image (18 R481). -/
def State.channel (s : State) (c : Nat) : Option Channel := (imgChannels s.sil.active).find? (·.chan = c)

/-- The open channel of a number for a block of a frame: as the frame's own image has it (01 R44, 02 R83). -/
def State.channelFor (s : State) (frame c : Nat) : Option Channel := (s.rulesOf frame).policy.find? (·.chan = c)

/-- Delivery state of a channel. -/
def State.strm (s : State) (c : Nat) : StreamSt := tabGet (fun _ => ⟨0, false⟩) s.hif.streams c
def State.setStrm (s : State) (c : Nat) (x : StreamSt) : State :=
  { s with hif := { s.hif with streams := tabPut (fun _ => ⟨0, false⟩) s.hif.streams c x } }

/-! ### Host rings (R479, R480) -/

/-- A block is dropped for the host (R480). -/
def State.dropBlock (s : State) (c : Nat) : State :=
  let s1 := s.setStrm c { s.strm c with dropBefore := true }
  (s1.count (F.HIF_STRc_DROP.COUNT c) 1).raise .hif F.HIF_IRQ_STATUS.STREAM_DROP

/-- A block arrives for the host. It takes the channel's next block number; it is dropped where the channel is not
enabled, or where 16 blocks of a ZNT, STU or VPF channel wait. -/
def State.hostBlock (s : State) (c : Nat) (from_ : BlockFrom) (data : Bytes) (spans : List (Nat × Nat)) : State :=
  let x := s.strm c
  let s1 := s.setStrm c { x with seq := x.seq + 1 }
  let full := match from_ with
    | .block => decide ((s.hif.waiting.filter (fun w => w.chan == c)).length ≥ 16)
    | _ => false
  if !s.unitOn .hif || !s.flag (F.HIF_STRc_CFG.EN c) || full then s1.dropBlock c
  else { s1 with hif := { s1.hif with waiting := s1.hif.waiting ++ [⟨c, from_, x.seq, data, spans⟩] } }

/-- A waiting block from an engine has outlived its group's 48 pushes (R480). -/
def State.expired (s : State) (w : WaitBlock) : Bool :=
  match w.from_ with
  | .engine g n _ => decide (n + 48 ≤ (s.grp g).pushes)
  | _ => false

/-- A record of Table 18-6 with its header. -/
def streamRecord (len kind chan flags seq : Nat) (data : Bytes) : Bytes :=
  leBytes 4 len ++ leBytes 1 kind ++ leBytes 1 chan ++ leBytes 2 flags ++ leBytes 8 seq ++ fitBytes ((data.length + 15) / 16 * 16) data

/-- Bytes of a waiting block, and ring bytes of its record with the PAD before it where it would cross the ring's end. -/
def WaitBlock.size (w : WaitBlock) : Nat := w.data.length + (w.spans.map (·.2)).sum
def State.recordPad (s : State) (c : Nat) (w : WaitBlock) : Nat × Nat :=
  let size := 2 ^ s.fld (F.HIF_STRc_CFG.SIZE_LOG2 c)
  let pos := (s.reg (R.HIF_STRc_WR c)).toNat % size
  let len := 16 + (w.size + 15) / 16 * 16
  (if pos + len > size then size - pos else 0, len)

/-- A block's bytes are written as a record, a PAD first where it needs one; then WR goes to the host and the vector is signalled. -/
def State.putRecord (s : State) (c : Nat) (w : WaitBlock) (data : Bytes) : State :=
  let size := 2 ^ s.fld (F.HIF_STRc_CFG.SIZE_LOG2 c)
  let wr := (s.reg (R.HIF_STRc_WR c)).toNat
  let x := s.strm c
  let rec_ := streamRecord data.length 1 c (if x.dropBefore then 1 else 0) w.seq data
  let pos := wr % size
  let pad := (s.recordPad c w).1
  let base := s.reg64 (R.HIF_STRc_BASE_LO c) (R.HIF_STRc_BASE_HI c)
  let s1 := if pad = 0 then s else s.give (.hostWrite (base + pos) (streamRecord (pad - 16) 2 c 0 0 (zeros (pad - 16))))
  let s2 := s1.give (.hostWrite (base + (if pad = 0 then pos else 0)) rec_)
  let wr2 := (wr + pad + rec_.length) % 2 ^ 32
  let s3 := (s2.setReg (R.HIF_STRc_WR c) (w32 wr2)).setStrm c { x with dropBefore := false }
  let s4 := s3.give (.hostWrite (s.reg64 (R.HIF_STRc_WPTR_LO c) (R.HIF_STRc_WPTR_HI c)) (leBytes 4 wr2))
  ({ s4 with hif := { s4.hif with waiting := s4.hif.waiting.erase w } }).signal (s.fld (F.HIF_STRc_CFG.VECTOR c))

/-- The oldest waiting block of a channel leaves where its record fits. The rows of a capture are read from DRAM; the read stalls while
the DMC does not serve (01 R26, R59, 09 R296). -/
def State.writeRecord (s : State) (c : Nat) : State :=
  match s.hif.waiting.find? (fun w => w.chan = c) with
  | none => s
  | some w =>
    let need := s.recordPad c w
    let wr := (s.reg (R.HIF_STRc_WR c)).toNat
    let rd := (s.reg (R.HIF_STRc_RD c)).toNat
    let free := 2 ^ s.fld (F.HIF_STRc_CFG.SIZE_LOG2 c) - (wr + 2 ^ 32 - rd) % 2 ^ 32
    if s.expired w ∨ free < need.1 + need.2 then s
    else if w.spans.isEmpty then s.putRecord c w w.data
    else if !s.dmcServes then s.dmcTouch
    else
      let r := State.readSpans (fixedPath .stu) 1 w.spans s
      match r.2 with
      | some d => r.1.putRecord c w (w.data ++ d)
      | none => r.1

/-- STREAM_RECORD_WRITE: the HIF writes a waiting block. Needs the link up and bus mastering. -/
def execStreamRecordWrite (c : Fin 32) (s : State) : Host.Outcome State Fault Refusal :=
  .next (if s.unitOn .hif && s.hif.busMaster && s.flag (F.HIF_STRc_CFG.EN c.val) then s.writeRecord c.val else s)

/-- STREAM_DROP: a block past its limit is dropped for the host (R480). -/
def execStreamDrop (c : Fin 32) (s : State) : Host.Outcome State Fault Refusal :=
  .next (match s.hif.waiting.find? (fun w => w.chan = c.val ∧ s.expired w) with
    | some w => ({ s with hif := { s.hif with waiting := s.hif.waiting.erase w } }).dropBlock c.val
    | none => s)

/-- A ring may be enabled: MAX_BLOCK + 32 bytes fit a ring of 2^16 to 2^30 bytes (R479). -/
def State.ringOk (s : State) (c : Nat) (w : Word) : Bool :=
  let l := bitsOf w 5 1
  decide (16 ≤ l) && decide (l ≤ 30) && (match s.channel c with
    | some ch => decide (ch.maxBlock + 32 ≤ 2 ^ l)
    | none => true)

/-- Blocks that wait for a channel are dropped when it is disabled. -/
def State.disableStream (s : State) (c : Nat) : State :=
  let mine := s.hif.waiting.filter (fun w => w.chan == c)
  let s1 : State := { s with hif := { s.hif with waiting := s.hif.waiting.filter (fun w => w.chan != c) } }
  mine.foldl (fun a _ => a.dropBlock c) s1

/-- A write of HIF_STRc_CFG: setting EN is refused or restarts the ring; clearing it stops delivery. -/
def State.streamCfg (s : State) (c : Nat) (w : Word) : State :=
  let v := w &&& 0xFFF
  let was := s.flag (F.HIF_STRc_CFG.EN c)
  let now_ := bitAt v.toNat 0
  if now_ && !was then
    if s.ringOk c v then
      let s1 := (s.setReg (R.HIF_STRc_CFG c) v).setReg (R.HIF_STRc_WR c) (s.reg (R.HIF_STRc_RD c))
      s1.setStrm c ⟨0, false⟩
    else (s.setReg (R.HIF_STRc_CFG c) (v &&& ~~~1)).post .hif 2 c
  else if was && !now_ then (s.setReg (R.HIF_STRc_CFG c) v).disableStream c
  else s.setReg (R.HIF_STRc_CFG c) v

/-- STREAM_ENABLE: a write of a channel's HIF_STRc_CFG (R479). -/
def execStreamEnable (src : Src) (c : Fin 32) (w : Word) (s : State) : Host.Outcome State Fault Refusal :=
  .next (s.onUnit (.reg src) .hif (R.HIF_STRc_CFG c.val) (fun s => s.streamCfg c.val w))

/-- STREAM_RD_WRITE: the host frees ring space (R479). -/
def execStreamRdWrite (src : Src) (c : Fin 32) (w : Word) (s : State) : Host.Outcome State Fault Refusal :=
  .next (s.onUnit (.reg src) .hif (R.HIF_STRc_RD c.val) (fun s => s.setReg (R.HIF_STRc_RD c.val) w))

/-! ### Hand-over to the archive (10 R312) -/

/-- A block of an archived channel is dropped for the archive only. -/
def State.archiveDrop (s : State) (c frame : Nat) : State :=
  let s1 := ((s.count F.TCE_DROP_COUNT.COUNT 1).post .tce 4 0).raise .tce F.TCE_IRQ_STATUS.DROP
  s1.noteGap 4 c 0xFFFF s1.run frame s1.run (frame + 1)

/-- A channel of the TCE with nothing in it, and its state. -/
def TceChan.fresh_ : TceChan := ⟨[], 0, 0, true, none, [], none, 0, 0, false, false, false, none, [], 0, 0⟩
def State.tch (s : State) (c : Nat) : TceChan := tabGet (fun _ => TceChan.fresh_) s.tce.chans c
def State.setTch (s : State) (c : Nat) (x : TceChan) : State :=
  { s with tce := { s.tce with chans := tabPut (fun _ => TceChan.fresh_) s.tce.chans c x } }

/-- The TCE queues a stream block of an archived channel, of an engine's output its header alone; a queue of 64 is full, and the block is
dropped (log entry 43). A channel without an entry in ARCHIVE_POLICY is not archived (10 R315). -/
def State.tceOffer (s : State) (c : Nat) (from_ : BlockFrom) (data : Bytes) (spans : List (Nat × Nat)) : State :=
  let frame := field data 8 6
  let x := s.tch c
  let eng : Option (Nat × Nat) × Option (Nat × Nat) := match from_ with
    | .engine g n at_ => (some (g, n), at_)
    | _ => (none, none)
  if !s.unitOn .tce || !(s.rulesOf frame).archive.any (·.1 == c) || s.fld F.TCE_STATUS.STATE ≠ 2 then s
  else if s.tce.queue.length ≥ 64 then (s.archiveDrop c frame).setTch c { x with cut := true }
  else
    let q : TceIn := ⟨c, eng.1, eng.2, if eng.2.isSome then data.take 64 else data, spans, x.cut⟩
    ({ s with tce := { s.tce with queue := s.tce.queue ++ [q] } }).setTch c { x with cut := false }

/-- A finished block leaves on its channel: to the host, to the archive, or to both (00 R27). A channel that is not open
takes nothing. `spans`: DRAM that follows the bytes. -/
def State.streamOut (s : State) (c : Nat) (from_ : BlockFrom) (data : Bytes) (spans : List (Nat × Nat) := []) : State :=
  match s.channelFor (field data 8 6) c with
  | none => s
  | some ch =>
    let s1 := if bitAt ch.dest 0 then s.hostBlock c from_ data spans else s
    if bitAt ch.dest 1 then s1.tceOffer c from_ data spans else s1

/-- A block of entries framed as in 09 R280: header, PRODUCT, entry count, 4 reserved bytes, entries. -/
def entryBlock (header : Bytes) (product count : Nat) (entries : Bytes) : Bytes :=
  header ++ leBytes 2 product ++ leBytes 2 count ++ zeros 4 ++ entries

/-- A block of entries leaves with the header of the frame that owns its slot; that of a slot ahead of its frame's launch reference leaves as the
frame opens (09 R280, R286). -/
def State.entryOut (s : State) (e : EntryBlock) : State :=
  match s.mrs.frames.find? (·.num = e.frame) with
  | some f => s.streamOut e.chan .block (entryBlock f.header e.product e.count e.entries)
  | none => { s with znt := { s.znt with early := s.znt.early ++ [e] } }

/-- Frame `n` has opened: the blocks of entries that wait for its header leave. -/
def State.entryFlush (s : State) (n : Nat) : State :=
  (s.znt.early.filter (fun e => e.frame == n)).foldl State.entryOut
    { s with znt := { s.znt with early := s.znt.early.filter (fun e => e.frame != n) } }

end Sys2Proof.Machine
end

