-- ==== Sys2Proof/Machine/Znt.lean ====
section
/-! DEFINITION. The zone table: zones and their checks, run-time changes, the detector filters and a zone's interval
(09 R270-R281). -/

namespace Sys2Proof.Machine

/-- Unit states shared by the ZNT, STU and TCE (05 Table 5-4), and ZNT codes (09 Table 9-11). -/
abbrev Blk.off : Nat := 0
abbrev Blk.ready : Nat := 1
abbrev Blk.running : Nat := 2
abbrev Blk.fault : Nat := 3
abbrev ZntCode.badConfig : Nat := 1
abbrev ZntCode.capacity : Nat := 2
abbrev ZntCode.badZone : Nat := 3
abbrev ZntCode.zoneBusy : Nat := 4
abbrev ZntCode.noStore : Nat := 5
abbrev ZntCode.busy : Nat := 6

/-! ### The tree (R270, R271) -/

/-- A zone by number. -/
def zoneOf (zs : List Zone) (n : Nat) : Option Zone := zs.find? (·.number = n)

/-- A zone's children. -/
def childrenOf (zs : List Zone) (n : Nat) : List Zone := zs.filter (fun z => z.parent == n && z.number != n)

/-- Leaves under a zone, `k` levels down at most. -/
def leavesOf (zs : List Zone) : Nat → Nat → List Zone
  | 0, _ => []
  | k + 1, n =>
    match zoneOf zs n with
    | none => []
    | some z => if z.kind = 0 then [z] else (childrenOf zs n).flatMap (fun c => leavesOf zs k c.number)

/-- A zone and the zones under it, `k` levels down at most. -/
def treeOf (zs : List Zone) : Nat → Nat → List Nat
  | 0, _ => []
  | k + 1, n => if (zoneOf zs n).isNone then [] else n :: (childrenOf zs n).flatMap (fun c => treeOf zs k c.number)

/-- Key of a zone's own error log: beyond every path word (01 R47, R56; log entry 167). -/
def zoneKey (z : Nat) : Nat := 2 ^ 32 + z

/-- A zone and its ancestors, `k` at most, lowest first. -/
def chainOf (zs : List Zone) : Nat → Nat → List Nat
  | 0, _ => []
  | k + 1, n =>
    match zoneOf zs n with
    | none => []
    | some z => n :: (if z.parent = 0xFFFF then [] else chainOf zs k z.parent)

/-- Depth of a zone: 1 for a root. -/
def depthOf (zs : List Zone) (n : Nat) : Nat := (chainOf zs 16 n).length

/-- A leaf covers a bin. -/
def Zone.holds (z : Zone) (b : Nat) : Bool := z.kind == 0 && decide (z.first ≤ b) && decide (b ≤ z.last)

/-- Leaves that hold a bin. -/
def leavesAt (zs : List Zone) (b : Nat) : List Zone := zs.filter (fun z => z.holds b)

/-- Watched bins, rising, of the leaves of a list (R277). -/
def watchedOf (zs : List Zone) : List Nat :=
  let top := zs.foldl (fun m z => if z.kind = 0 then max m (z.last + 1) else m) 0
  (List.range top).filter (fun b => zs.any (fun z => z.holds b))

/-- Bins of the leaves under a zone, counted in each leaf. -/
def zoneBins (zs : List Zone) (n : Nat) : Nat := ((leavesOf zs 9 n).map (fun z => z.last + 1 - z.first)).sum

/-- Detector bytes of a number of watched bins (R277). -/
def State.filterBytes (s : State) (n : Nat) : Nat := (8 + 8 * s.fld F.ZNT_BANDS.NB) * n

/-- ZNT_ZONE_COUNT and ZNT_WATCHED follow the zones. -/
def State.zntCount (s : State) : State :=
  (s.setFld F.ZNT_ZONE_COUNT.ZONES s.znt.zones.length).setFld F.ZNT_WATCHED.BINS (watchedOf s.znt.zones).length

/-! ### Checks (R272, R276, R297) -/

/-- A zone keeps the rules of R270 and R272 among the others. -/
def zoneOk (f : Fld → Nat) (zs : List Zone) (z : Zone) : Bool :=
  let lo := f F.PCX_RANGE.FIRST_BIN
  let hi := lo + f F.PCX_COUNT.COUNT
  decide (z.number ≤ 4095) && decide (z.kind ≤ 1) && decide (z.flags ≤ 1)
    && (zs.filter (fun x => x.number == z.number)).length == 1
    && (z.parent == 0xFFFF || (match zoneOf zs z.parent with | some p => p.kind == 1 | none => false))
    && (if z.kind = 0 then decide (lo ≤ z.first) && decide (z.first ≤ z.last) && decide (z.last < hi)
        else z.first == 0 && z.last == 0 && !(childrenOf zs z.number).isEmpty)
    && inRange 1 8 (depthOf zs z.number)

/-- DETAIL of the first ZNT check that fails: a zone number, or a register's offset / 4. -/
def zntCheck (f : Fld → Nat) (zs : List Zone) (records : Nat) : Option Nat :=
  firstSome [
    (zs.find? (fun z => !zoneOk f zs z)).map (·.number),
    if (zs.any (fun z => z.bandMask != 0) || decide (0 < records)) && f F.PCX_RAY_CFG.STRAIN_EN == 0 then some 8 else none,
    if !inRange 1 4 (f F.ZNT_BANDS.NB) then some 5 else none]

/-! ### Statistics (R277-R280) -/

/-- A band and a zone with nothing summed. -/
def BandStat.fresh : BandStat := ⟨0, 0, 0, 0, false, none, 0⟩
def ZoneStat.fresh : ZoneStat := ⟨List.replicate 4 BandStat.fresh, none, none, false⟩
def FilterBank.zero : FilterBank := ⟨0, 0, List.replicate 4 (0, 0)⟩

def State.zstat (s : State) (z : Nat) : ZoneStat := tabGet (fun _ => ZoneStat.fresh) s.znt.stats z
def State.setZstat (s : State) (z : Nat) (x : ZoneStat) : State :=
  { s with znt := { s.znt with stats := tabPut (fun _ => ZoneStat.fresh) s.znt.stats z x } }

/-- Interval and background of every zone start anew (R279). -/
def State.zntReset (s : State) : State := { s with znt := { s.znt with stats := [], reset := false } }

/-- A filter bank as it lies in tile shared memory, and back: x1 and x2, then y1 and y2 of each band (R277; log entry 93). -/
def FilterBank.bytes (nb : Nat) (k : FilterBank) : Bytes :=
  let w (z : Int) : Bytes := leBytes 4 (unsigned 32 z)
  w k.x1 ++ w k.x2 ++ (k.y.take nb).flatMap (fun o => w o.1 ++ w o.2)
def readFilter (nb : Nat) (b : Bytes) : FilterBank :=
  let at_ (i : Nat) : Int := signed 32 (field b (4 * i) 4)
  ⟨at_ 0, at_ 1, (List.range 4).map (fun q => if q < nb then (at_ (2 + 2 * q), at_ (3 + 2 * q)) else (0, 0))⟩

/-- Aperture offset of a place in the state area (R277). -/
def State.filterAddr (s : State) (place : Nat) : Nat :=
  0x1000000 * s.fld F.ZNT_STATE_BASE.TILE + s.fld F.ZNT_STATE_BASE.OFFSET + s.filterBytes 1 * place

/-- The filter bank of a watched bin, read from and written to the state area. -/
def State.filterBank (s : State) (bin : Nat) : FilterBank :=
  match s.znt.filters.find? (·.1 = bin) with
  | some x => readFilter (s.fld F.ZNT_BANDS.NB) (s.emem (s.filterAddr x.2) (s.filterBytes 1))
  | none => FilterBank.zero
def State.setFilterBank (s : State) (bin : Nat) (k : FilterBank) : State :=
  match s.znt.filters.find? (·.1 = bin) with
  | some x => s.setEmem (s.filterAddr x.2) (k.bytes (s.fld F.ZNT_BANDS.NB))
  | none => s

/-- The lowest place no bin holds. -/
def freePlace (held : List (Nat × Nat)) : Nat :=
  ((List.range (held.length + 1)).find? (fun k => !held.any (·.2 == k))).getD held.length

/-- Bins no longer watched give their places up; each newly watched bin takes the lowest free one with zero filter state (R274). -/
def State.zntWatch (s : State) : State :=
  let bins := watchedOf s.znt.zones
  let s1 : State := { s with znt := { s.znt with filters := s.znt.filters.filter (fun x => bins.contains x.1) } }
  (bins.filter (fun b => !s1.znt.filters.any (·.1 == b))).foldl (fun a b =>
    ({ a with znt := { a.znt with filters := a.znt.filters ++ [(b, freePlace a.znt.filters)] } }).setFilterBank b FilterBank.zero) s1

/-- Filters, intervals and backgrounds start anew. -/
def State.zntFresh (s : State) : State :=
  ({ s with znt := { s.znt with stats := [], filters := [], reset := false } }).zntWatch

/-- One instant of a bin passes the filters of R277 under a frame's rules: the new bank and each band's y. -/
def FilterBank.advance (ru : FrameRules) (k : FilterBank) (x : Int) : FilterBank × List Int :=
  let co (q i : Nat) : Int := ((ru.coef[q]?.getD [])[i]?).getD 0
  let ys := (List.range 4).map (fun q =>
    let o := k.y[q]?.getD (0, 0)
    if q < ru.nb then
      let acc := co q 0 * x + co q 1 * k.x1 + co q 2 * k.x2 - co q 3 * o.1 - co q 4 * o.2
      (satInt 32 ((acc + 2 ^ 27) / 2 ^ 28), o.1)
    else o)
  (⟨x, k.x1, ys⟩, ys.map (·.1))

/-- A counted instant enters a band (R278). -/
def BandStat.add (b : BandStat) (y : Int) (bin : Nat) : BandStat :=
  let a := y.natAbs
  let e := b.e + a * a
  let better := decide (b.peak < a) || (b.peak == a && decide (0 < b.n) && decide (bin < b.bin)) || b.n == 0
  { b with e := min e (2 ^ 64 - 1), n := b.n + 1, sat := b.sat || decide (2 ^ 64 ≤ e)
           peak := max b.peak a, bin := if better then bin else b.bin }

/-- A frame's bins enter the marks of an interval. -/
def markFrame (x : Option (Nat × Nat)) (frame n : Nat) (lower : Bool) : Option (Nat × Nat) :=
  match x with
  | none => some (frame, n)
  | some (f, m) => if f = frame then some (f, m + n) else if (lower && decide (frame < f)) || (!lower && decide (f < frame)) then some (frame, n) else x

/-- A counted instant of a bin enters a zone's bands. -/
def ZoneStat.add (st : ZoneStat) (mask : Nat) (ys : List Int) (bin : Nat) : ZoneStat :=
  { st with bands := (List.range 4).map (fun q =>
      let b := st.bands[q]?.getD BandStat.fresh
      if bitAt mask q then b.add (ys[q]?.getD 0) bin else b) }

/-- The zones that take a bin's samples: every leaf that holds it, and each leaf's ancestors (R278). -/
def zonesAt (zs : List Zone) (b : Nat) : List Nat := (leavesAt zs b).flatMap (fun z => chainOf zs 9 z.number)

/-- One bin of a tapped block passes filters and sums, under the zones and bands of its frame (01 R44); what a zone no longer defined held is
gone with it. -/
def State.tapBin (s : State) (ru : FrameRules) (frame bin : Nat) (vals : List Int) (fade : Nat) (counts late : Bool) : State :=
  let zs := ru.zones
  if !zs.any (fun z => z.holds bin) || !s.znt.filters.any (·.1 == bin) then s
  else
    let k0 := s.filterBank bin
    let targets := (zonesAt zs bin).filter (fun z => s.znt.zones.any (·.number == z))
    let run := ((List.range vals.length).zip vals).foldl (fun (a : FilterBank × List (Nat × List Int)) iv =>
      let r := a.1.advance ru iv.2
      (r.1, if counts && !bitAt fade iv.1 then a.2 ++ [(iv.1, r.2)] else a.2)) (k0, [])
    let s1 := s.setFilterBank bin run.1
    targets.foldl (fun a z =>
      let mask : Nat := ((zoneOf zs z).map Zone.bandMask).getD 0
      if mask = 0 then a
      else
        let st := run.2.foldl (fun st y => st.add mask y.2 bin) (a.zstat z)
        let some_ := !run.2.isEmpty
        let st1 : ZoneStat := { st with
          late := st.late || late
          first := if some_ then markFrame st.first frame 1 true else st.first
          last := if some_ then markFrame st.last frame 1 false else st.last }
        let sat := st1.bands.any (·.sat) && !(a.zstat z).bands.any (·.sat)
        let b := a.setZstat z st1
        if sat then b.raise .znt F.ZNT_IRQ_STATUS.E_SAT else b) s1

/-- RMS of a band in nanostrain per second (R279). -/
def BandStat.rmsOf (b : BandStat) : Float := if b.n = 0 then 0.0 else (fNat b.e / fNat b.n).sqrt / 256.0

/-- What a close makes of a band: RMS, background and RATIO, INIT. -/
structure BandClose where
  band : Nat
  rms : Float
  bg : Float
  ratio : Float
  init : Bool
  stat : BandStat

/-- The bands of a zone's mask at a close, before the event. -/
def State.closeBands (s : State) (z : Zone) : List BandClose :=
  let st := s.zstat z.number
  ((List.range 4).filter (fun q => bitAt z.bandMask q)).map (fun q =>
    let b := st.bands[q]?.getD BandStat.fresh
    let r := b.rmsOf
    let bg := match b.bg with | some c => f64 c | none => r * r
    { band := q, rms := r, bg := bg, ratio := if bg > 0.0 then r / bg.sqrt else 0.0, init := b.bg.isNone, stat := b })

/-- Statistics entry of a band (Table 9-2). -/
def statEntry (z : Nat) (c : BandClose) (split late frozen : Bool) (state first last : Nat) : Bytes :=
  let b (x : Bool) (i : Nat) : Nat := if x then 2 ^ i else 0
  leBytes 2 z ++ leBytes 1 c.band
    ++ leBytes 1 (b split 0 + b late 1 + b c.stat.sat 2 + b c.init 3 + b frozen 4 + b (c.stat.n == 0) 5)
    ++ leBytes 4 (min c.stat.n (2 ^ 32 - 1)) ++ leBytes 4 (toF32 c.rms).toNat ++ leBytes 4 (toF32 c.bg.sqrt).toNat
    ++ leBytes 4 (toF32 c.ratio).toNat ++ leBytes 4 (toF32 (fNat c.stat.peak / 256.0)).toNat ++ leBytes 4 c.stat.bin
    ++ leBytes 1 state ++ zeros 3 ++ leBytes 8 (first % 2 ^ 48) ++ leBytes 8 (last % 2 ^ 48)

/-- The end of a close: backgrounds, the entries delivered, the interval empty (R279, R280). `rested` says that the
program state was 0 before and after the event; `state` is its state after it. -/
def State.closeZone (s : State) (z : Zone) (cs : List BandClose) (frame : Nat) (rested : Bool) (state : Nat) : State :=
  let st := s.zstat z.number
  let bins := zoneBins s.znt.zones z.number
  let part (x : Option (Nat × Nat)) : Bool := match x with | some (_, n) => decide (n < bins) | none => false
  let split := part st.first || part st.last
  let entry (c : BandClose) : Bytes :=
    statEntry z.number c split st.late (!(decide (0 < c.stat.n) && rested)) state ((st.first.map (·.1)).getD 0) ((st.last.map (·.1)).getD 0)
  let s1 := if s.flag F.ZNT_CFG.STATS_EN && bitAt z.flags 0 && !cs.isEmpty then
      s.entryOut ⟨frame, s.fld F.ZNT_CFG.STATS_CHANNEL, 0x31, cs.length, cs.flatMap entry⟩
    else s
  let bands := (List.range 4).map (fun q =>
    match cs.find? (·.band = q) with
    | some c =>
      let d := fNat (2 ^ z.bgExp)
      let bg := if 0 < c.stat.n && rested then c.bg + (c.rms * c.rms - c.bg) / d else c.bg
      { BandStat.fresh with bg := some (toF64 bg), rms := toF32 c.rms }
    | none => BandStat.fresh)
  s1.setZstat z.number ⟨bands, none, none, false⟩

/-! ### Run-time changes (R273-R275) -/

/-- A zone with a record bound to it, among a list. -/
def boundRecords (img : Bytes) (n : Nat) : Bool := (imgRecords img).any (·.zone == n)

/-- The span of a zone (R271). -/
def spanIn (zs : List Zone) (n : Nat) : Option (Nat × Nat) :=
  match (leavesOf zs 9 n).map (fun z => (z.first, z.last)) with
  | [] => none
  | l => some (l.foldl (fun m x => min m x.1) (2 ^ 32), l.foldl (fun m x => max m x.2) 0)

/-- A change would alter the span of a zone that has a bound record. -/
def spanBusy (img : Bytes) (before after : List Zone) : Bool :=
  (imgRecords img).any (fun r => spanIn before r.zone != spanIn after r.zone)

/-- The zones as they will stand once the changes that wait have been applied. -/
def ZoneChange.apply (zs : List Zone) (c : ZoneChange) : List Zone :=
  match c.add with
  | some z => zs ++ [z]
  | none => zs.filter (fun z => z.number != c.number)

/-- Why an add is refused (R273). DESIGN CHOICE (log entry 193): a BAND_MASK beyond NB is BAD_ZONE. -/
def State.addRefusal (s : State) (z : Zone) : Option Nat :=
  let zs := s.znt.zones
  let after := zs ++ [z]
  let lo := s.fld F.PCX_RANGE.FIRST_BIN
  let progs := (imgTriggers s.sil.active).length
  if zs.length ≥ 4096 ∨ s.filterBytes (watchedOf after).length > s.fld F.ZNT_STATE_BYTES.BYTES then some ZntCode.capacity
  else if (zoneOf zs z.number).isSome || decide (2 ^ s.fld F.ZNT_BANDS.NB ≤ z.bandMask)
      || !(z.parent == 0xFFFF || (match zoneOf zs z.parent with | some p => p.kind == 1 | none => false))
      || decide (8 < depthOf after z.number)
      || (z.kind == 0 && (decide (z.last < z.first) || decide (z.first < lo) || decide (lo + s.fld F.PCX_COUNT.COUNT ≤ z.last)))
      || !(z.program == 0xFF || decide (z.program < progs)) then some ZntCode.badZone
  else if spanBusy s.sil.active zs after then some ZntCode.zoneBusy
  else if !imgHas s.sil.active Sec.archivePolicy then some ZntCode.noStore
  else if s.znt.changes.length ≥ 16 then some ZntCode.busy
  else none

/-- Why a removal is refused (R273). -/
def State.removeRefusal (s : State) (n : Nat) : Option Nat :=
  let zs := s.znt.zones
  if (zoneOf zs n).isNone then some ZntCode.badZone
  else if !(childrenOf zs n).isEmpty || boundRecords s.sil.active n || spanBusy s.sil.active zs (zs.filter (fun z => z.number != n)) then
    some ZntCode.zoneBusy
  else if !imgHas s.sil.active Sec.archivePolicy then some ZntCode.noStore
  else if s.znt.changes.length ≥ 16 then some ZntCode.busy
  else none

/-- A change is refused, or waits for its record. -/
def State.takeChange (s : State) (o : Origin) (seq : Word) (number : Nat) (refusal : Option Nat) (add : Option Zone) : State :=
  match refusal with
  | some code => ((s.count F.ZNT_CHANGE_COUNT.REFUSED 1).raise .znt F.ZNT_IRQ_STATUS.CHANGE_REFUSED).finish (.msg o seq) .znt code number
  | none =>
    let c : ZoneChange := ⟨add, number, o, seq, s.payload (.msg o seq), false, none⟩
    { s with znt := { s.znt with changes := s.znt.changes ++ [c] } }

/-- ZONE_ADD: an accepted request to add a zone (R273). -/
def execZoneAdd (o : Origin) (seq : Word) (s : State) : Host.Outcome State Fault Refusal :=
  .next (s.withRequest (.msg o seq) [0x0501] (fun s => s.onUnit (.msg o seq) .znt R.ZNT_CTRL (fun s =>
    let p := s.payload (.msg o seq)
    let z := readZone p 0 (field p 16 1) (field p 17 1)
    s.takeChange o seq z.number (s.addRefusal z) (some z))))

/-- ZONE_REMOVE: an accepted request to remove a zone (R273). -/
def execZoneRemove (o : Origin) (seq : Word) (s : State) : Host.Outcome State Fault Refusal :=
  .next (s.withRequest (.msg o seq) [0x0502] (fun s => s.onUnit (.msg o seq) .znt R.ZNT_CTRL (fun s =>
    let n := field (s.payload (.msg o seq)) 0 2
    s.takeChange o seq n (s.removeRefusal n) none)))

/-- Applied changes: a removed zone loses statistics, instance and counters; a bin no longer watched its filter, and a
newly watched bin starts from zero (R274). -/
def State.applyChange (s : State) (c : ZoneChange) : State :=
  let zs := c.apply s.znt.zones
  let g : ZntSt := { s.znt with
    zones := zs, stats := tabDrop (fun z => z == c.number) s.znt.stats }
  ({ s with znt := g, stu := { s.stu with insts := tabDrop (fun z => z == c.number) s.stu.insts, deads := tabDrop (fun z => z == c.number) s.stu.deads } }).zntWatch.zntCount

/-- The changes whose commit lies 2 us or more behind take effect, in order, at the boundary at `t` that opens frame
`n`; each requester is answered with the frame (ZONE_CHANGE_APPLY). -/
def State.applyChanges (s : State) (t n : Nat) : State :=
  let due := s.znt.changes.takeWhile (fun c => match c.committed with | some a => decide (a + 2 * usec ≤ t) | none => false)
  let s1 : State := { s with znt := { s.znt with changes := s.znt.changes.drop due.length } }
  if due.isEmpty then s
  else (due.foldl (fun a c =>
    let b := ((a.applyChange c).count F.ZNT_CHANGE_COUNT.APPLIED 1).raise .znt F.ZNT_IRQ_STATUS.CHANGE_APPLIED
    (b.show .znt 0 0).answer c.origin c.seq 0 Unit.znt.top 0 (leBytes 8 n)) s1).meridianNow

/-- The content of a ZONE_CHANGE record: the message's opcode and its payload (log entry 44), and back. -/
def ZoneChange.bytes (c : ZoneChange) : Bytes := leBytes 8 (if c.add.isSome then 0x0501 else 0x0502) ++ c.payload
def changeOfBytes (b : Bytes) : ZoneChange :=
  let p := b.drop 8
  let z := readZone p 0 (field p 16 1) (field p 17 1)
  if field b 0 2 = 0x0501 then ⟨some z, z.number, .session 0, 0, p, true, none⟩ else ⟨none, field p 0 2, .session 0, 0, p, true, none⟩

/-- Run-time changes that wait are discarded, and their requesters told BUSY (R275; DESIGN CHOICE: the code, log entry 193). -/
def State.dropChanges (s : State) : State :=
  s.znt.changes.foldl (fun a c =>
    ((a.count F.ZNT_CHANGE_COUNT.REFUSED 1).raise .znt F.ZNT_IRQ_STATUS.CHANGE_REFUSED).finish (.msg c.origin c.seq) .znt ZntCode.busy c.number)
    { s with znt := { s.znt with changes := [] } }

/-- The zones of the ACTIVE image go into force at a switch that changes ZONE_TREE or DETECTOR_BANDS: run-time changes are discarded, and a zone
whose number stays keeps its background and interval (R275, R279; DESIGN CHOICE: the number tells, log entry 194). -/
def State.zntLoad (s : State) : State :=
  let s1 := s.dropChanges
  let zs := imgZones s1.sil.active
  ({ s1 with znt := { s1.znt with
    zones := zs, stats := tabDrop (fun z => !zs.any (fun x => x.number == z)) s1.znt.stats } }).zntWatch.zntCount

/-- The place of the filter state differs between two states: no bin's state is found again (R277). -/
def filtersMoved (old new : State) : Bool :=
  [F.ZNT_BANDS.NB, F.ZNT_STATE_BASE.TILE, F.ZNT_STATE_BASE.OFFSET].any (fun f => old.fld f != new.fld f)

/-! ### Requests -/

/-- ZNT_ZINFO of a zone. -/
def zinfo (zs : List Zone) (n : Nat) : Nat :=
  match zoneOf zs n with
  | none => 0
  | some z => (z.kind + 1) + 4 * min 8 (depthOf zs n) + 64 * (if z.parent = 0xFFFF then 0 else z.parent % 4096)
      + (if z.parent = 0xFFFF then 2 ^ 18 else 0) + 2 ^ 19 * (z.bandMask % 16) + 2 ^ 23 * (z.bgExp % 16)

/-- BG_RMS and RMS of a zone's band as they read. -/
def State.zoneBg (s : State) (z q : Nat) : Word :=
  match ((s.zstat z).bands[q]?).bind (·.bg) with | some c => toF32 (f64 c).sqrt | none => 0
def State.zoneRms (s : State) (z q : Nat) : Word := (((s.zstat z).bands[q]?).map (·.rms)).getD 0

/-- Program state of a zone; 0xFF without a program. -/
def State.zoneState (s : State) (z : Nat) : Nat :=
  match zoneOf s.znt.zones z with
  | some x => if x.program = 0xFF then 0xFF else (tabGet (fun _ => (⟨0, 0, 0, 0, 0, 0, 0, false, false⟩ : TrigInst)) s.stu.insts z).state
  | none => 0xFF

/-- ZONE_READ: ZINFO, BG_RMS, RMS and STATE of a zone (18 R477). -/
def execZoneRead (o : Origin) (seq : Word) (s : State) : Host.Outcome State Fault Refusal :=
  .next (s.withRequest (.msg o seq) [0x0503] (fun s => s.onUnit (.msg o seq) .znt R.ZNT_CTRL (fun s =>
    let p := s.payload (.msg o seq)
    let z := field p 0 2
    let q := field p 2 1
    s.finish (.msg o seq) .znt 0 0 (leBytes 4 (zinfo s.znt.zones z) ++ leBytes 4 (s.zoneBg z q).toNat ++ leBytes 4 (s.zoneRms z q).toNat
      ++ leBytes 1 (s.zoneState z) ++ zeros 3))))

/-- STATS_RESET waits for the next boundary. -/
def State.zntStatsReset (s : State) : State := { s with znt := { s.znt with reset := true } }

/-- FAULT_CLR of a unit with the states of Table 5-4. -/
def State.blkFaultClr (s : State) (u : Unit) (st : Fld) : State :=
  if s.fld st = Blk.fault then (s.setFld st Blk.ready).show u 0 0 else s

/-- STATS_RESET. -/
def execStatsReset (src : Src) (s : State) : Host.Outcome State Fault Refusal :=
  .next (s.onUnit (.reg src) .znt R.ZNT_CTRL State.zntStatsReset)

/-- ZNT_COUNT_CLR. -/
def execZntCountClr (src : Src) (s : State) : Host.Outcome State Fault Refusal :=
  .next (s.onUnit (.reg src) .znt R.ZNT_CTRL (fun s => s.setReg R.ZNT_CHANGE_COUNT 0))

end Sys2Proof.Machine
end

