-- ==== Sys2Proof/Machine/Stu.lean ====
section
/-! DEFINITION. The Sextant unit: trigger programs, capture records, their rows and their arm, trigger and length requests
(09 R282-R294). -/

namespace Sys2Proof.Machine

/-- STU codes (09 Table 9-11). -/
abbrev StuCode.badConfig : Nat := 1
abbrev StuCode.busy : Nat := 6
abbrev StuCode.armTooLong : Nat := 7
abbrev StuCode.armBusy : Nat := 8
abbrev StuCode.badArg : Nat := 9
abbrev StuCode.bufRange : Nat := 0xA
abbrev StuCode.missed : Nat := 0xB
abbrev StuCode.dead : Nat := 0xC
abbrev StuCode.shortPre : Nat := 0xD
abbrev StuCode.captureLost : Nat := 0xE

/-! ### Records -/

def CapRec.fresh : CapRec :=
  ⟨0, 0, none, 0, 0, [], [], [], [], 0, none, 0, 0, 0, 0, 0, false, none, none, false⟩
def State.cap (s : State) (r : Nat) : CapRec := tabGet (fun _ => CapRec.fresh) s.stu.recs r
def State.setCap (s : State) (r : Nat) (x : CapRec) : State :=
  { s with stu := { s.stu with recs := tabPut (fun _ => CapRec.fresh) s.stu.recs r x } }
def State.setCapSt (s : State) (r st : Nat) : State := s.setFld (F.STU_RECr_STATE.STATE r) st
def State.capLen (s : State) (r : Nat) : Nat := s.fld (F.STU_RECr_STATE.LENGTH r)

/-- Span of a record's zone. -/
def State.recSpan (s : State) (r : Nat) : Nat × Nat :=
  match (s.recDef r).bind (fun d => spanIn s.znt.zones d.zone) with | some x => x | none => (0, 0)

/-! ### Rows (R287, R290, R291, R294) -/

/-- Cell of a frame that is known to be lost. -/
def State.binLost (s : State) (frame bin : Nat) : Bool :=
  s.stu.lost.any (fun l => l.1 == frame && decide (l.2.1 ≤ bin) && decide (bin < l.2.1 + l.2.2))

/-- The record awaits every frame with acquisition up to `n`, from its first on. -/
def State.awaitFrames (s : State) (r n : Nat) : State :=
  let x := s.cap r
  let sp := s.recSpan r
  let new := s.mrs.frames.reverse.filter (fun f => f.acquires && decide (x.armedAt ≤ f.num) && decide (f.num ≤ n)
    && (match x.lastFrame with | some m => decide (m < f.num) | none => true) && !x.frames.any (fun c => c.num == f.num))
  if new.isEmpty then s
  else
    let mk (f : FrameRec) : CapFrame :=
      ⟨f.num, f.cfg.k, f.launch, f.cfg.stagger, List.replicate (sp.2 + 1 - sp.1) none, f.header, false, false⟩
    s.setCap r { x with frames := sortBy CapFrame.num (x.frames ++ new.map mk) }

/-- A tapped bin enters the frame of a record. -/
def CapFrame.put (c : CapFrame) (i : Nat) (b : BinTap) (late resume : Bool) : CapFrame :=
  { c with cells := modAt c.cells i (fun _ => some b), late := c.late || late, resume := c.resume || resume }

/-- A cell of a lost or missing block (R291). -/
def BinTap.missing (k : Nat) : BinTap := ⟨List.replicate k 0, 0, false, true⟩

/-- Every cell of a frame, lost blocks as zeros; none while one awaits its block. -/
def State.frameCells (s : State) (c : CapFrame) (lo : Nat) : Option (List BinTap) :=
  ((List.range c.cells.length).zip c.cells).mapM (fun x =>
    match x.2 with
    | some b => some b
    | none => if s.binLost c.num (lo + x.1) then some (BinTap.missing c.k) else none)

/-- Instants of a complete frame. -/
def frameInsts (c : CapFrame) (cells : List BinTap) : List CapInst :=
  (List.range c.k).map (fun k =>
    { i := c.num * c.k + k, frame := c.num, time := c.launch + k * c.stagger
      vals := cells.map (fun b => b.vals[k]?.getD 0), counts := cells.map (fun b => b.counts && !bitAt b.fade k)
      lost := cells.any (·.lost), faded := cells.any (fun b => bitAt b.fade k), late := c.late, resume := c.resume, header := c.header })

/-- A row as it lies in its buffer: a value per bin, or minimum and maximum per bin (R287). -/
def rowBytes (dec : Nat) (insts : List CapInst) : Bytes :=
  let n := (insts.head?.map (fun c => c.vals.length)).getD 0
  (List.range n).flatMap (fun b =>
    let vs := insts.map (fun c => c.vals[b]?.getD 0)
    let v0 := vs.headD 0
    if dec = 0 then leBytes 4 (unsigned 32 v0)
    else leBytes 4 (unsigned 32 (vs.foldl min v0)) ++ leBytes 4 (unsigned 32 (vs.foldl max v0)))

/-- The span of DRAM that holds row `pos` of a record's buffer (R287). -/
def State.rowSpan (s : State) (r pos : Nat) : Nat × Nat :=
  let sp := s.recSpan r
  let size := (sp.2 + 1 - sp.1) * (if ((s.recDef r).map (·.decimExp)).getD 0 = 0 then 4 else 8)
  (Config.captureArea r + pos * size, size)

/-- A row goes to its place in DRAM, in class 1 (01 R26, R57). -/
def State.storeRow (s : State) (r pos : Nat) (insts : List CapInst) : State :=
  s.dramWrite (fixedPath .stu) 1 (s.rowSpan r pos).1 (rowBytes (((s.recDef r).map (·.decimExp)).getD 0) insts)

/-- Number of the first row a record still needs: PRE before its trigger row, while ARMED before its newest row (R290). -/
def CapRec.firstRow (x : CapRec) : Nat := match x.trig with | some t => t - x.pre | none => x.seq - (x.pre + 1)

/-- The oldest-row pointer: the place of the oldest row a record still needs (DEDUCED, log entry 195). -/
def CapRec.oldest (x : CapRec) : Nat := (x.rows.head?.map (·.pos)).getD 0

/-- A full row goes to the write pointer; at the buffer's end the pointer wraps and a new length takes effect (R294). -/
def State.pushRow (s0 : State) (r : Nat) (insts : List CapInst) : State :=
  let x := s0.cap r
  let len := s0.capLen r
  let x1 : CapRec := { x with
    rows := (x.rows ++ [(⟨x.seq, x.wptr, insts⟩ : CapRow)]).filter (fun w => decide (x.firstRow ≤ w.seq)), seq := x.seq + 1, part := []
    wptr := x.wptr + 1 }
  let s := s0.storeRow r x.wptr insts
  if x1.wptr < len then s.setCap r x1
  else
    match x1.newLen with
    | none => s.setCap r { x1 with wptr := 0 }
    | some l =>
      let gone := if l ≤ x1.oldest then x1.rows else []
      let x2 : CapRec := { x1 with
        wptr := 0, newLen := none, rows := if l ≤ x1.oldest then [] else x1.rows, gone := x1.gone ++ gone, dropped := x1.dropped + gone.length }
      (((s.setCap r x2).setFld (F.STU_RECr_STATE.LENGTH r) l).setFld (F.STU_RECr_STATE.LEN_PENDING r) 0).count F.STU_DROPPED_COUNT.COUNT gone.length

/-- Instants enter the row in progress; a row ends with its last instant, or where a later row begins. -/
def State.pushInsts (r dec : Nat) : List CapInst → State → State
  | [], s => s
  | i :: rest, s =>
    let x := s.cap r
    let s1 := match x.part.head? with
      | some p => if p.i / dec ≠ i.i / dec then s.pushRow r x.part else s
      | none => s
    let y := s1.cap r
    let s2 := if y.part.isEmpty && y.seq == 0 && i.i % dec != 0 then s1
      else s1.setCap r { y with part := y.part ++ [i] }
    let z := s2.cap r
    State.pushInsts r dec rest (if !z.part.isEmpty && (i.i + 1) % dec == 0 then s2.pushRow r z.part else s2)

/-- DRAM takes a record's rows: every eighth of its buffer is filled, and the DMC serves. -/
def State.rowsReady (s : State) (r : Nat) : Bool :=
  s.spanReady (Config.captureArea r) (((s.recDef r).map (·.rows)).getD 0 * (s.rowSpan r 0).2)

/-- A record has complete frames whose rows can be stored now. -/
def State.rowsWait (s : State) (r : Nat) : Bool :=
  s.rowsReady r && (match (s.cap r).frames with
    | [] => false
    | c :: _ => (s.frameCells c (s.recSpan r).1).isSome)

/-- Complete frames of a record become rows, in frame order. The writes stall while the DMC does not serve (R299). -/
def State.settleRows (r : Nat) : Nat → State → State
  | 0, s => s
  | n + 1, s =>
    let x := s.cap r
    if !s.rowsReady r then (if x.frames.isEmpty then s else s.dmcTouch)
    else match x.frames with
      | [] => s
      | c :: rest =>
        match s.frameCells c (s.recSpan r).1 with
        | none => s
        | some cells =>
          let dec := 2 ^ (((s.recDef r).map (·.decimExp)).getD 0)
          let s1 := s.setCap r { x with frames := rest, lastFrame := some c.num }
          State.settleRows r n (State.pushInsts r dec (frameInsts c cells) s1)

def State.settleCap (s : State) (r : Nat) : State := State.settleRows r ((s.cap r).frames.length + 1) s

/-- What a record still awaits of the frames so far is missing: its cells are lost ones (R291). -/
def State.capFill (s : State) (r : Nat) : State :=
  let s1 := s.awaitFrames r s.frame
  let x := s1.cap r
  (s1.setCap r { x with frames := x.frames.map (fun c =>
    { c with cells := c.cells.map (fun b => some (b.getD (BinTap.missing c.k))) }) }).settleCap r

/-! ### Arm, disarm, length (R288, R293, R294) -/

/-- A record empties its buffer and waits for rows. -/
def State.capEmpty (s : State) (r pre post : Nat) : State :=
  let x := s.cap r
  s.setCap r { CapRec.fresh with pre := pre, post := post, armedAt := max s.stu.tapped s.stu.since, newLen := x.newLen }

/-- Length changes that waited for an arm take effect. -/
def State.capLenNow (s : State) (r : Nat) : State :=
  match (s.cap r).newLen with
  | some l => ((s.setCap r { s.cap r with newLen := none }).setFld (F.STU_RECr_STATE.LENGTH r) l).setFld (F.STU_RECr_STATE.LEN_PENDING r) 0
  | none => s

/-- An arm request: its code (R288). `own` are PRE and POST of the request. -/
def State.capArm (s : State) (r : Nat) (own : Option (Nat × Nat)) : State × Nat :=
  match s.recDef r with
  | none => (s, StuCode.badArg)
  | some d =>
    let pre := (own.map (·.1)).getD d.pre
    let post := (own.map (·.2)).getD d.post
    let st := s.capSt r
    let len := ((s.cap r).newLen).getD (s.capLen r)
    if post = 0 then (s, StuCode.badArg)
    else if st ≥ Cap.triggered then (s, StuCode.armBusy)
    else if st = Cap.armed then (s, if own.isSome then StuCode.armBusy else 0)
    else if pre + post > len then (s, StuCode.armTooLong)
    else if !s.flag F.STU_CFG.CAPTURE_EN then (s, StuCode.busy)
    else ((((s.capLenNow r).capEmpty r pre post).setCapSt r Cap.armed).setFld (F.STU_RECr_STATE.REARM_CANCELLED r) 0, 0)

/-- A disarm request (Table 9-9). -/
def State.capDisarm (s : State) (r : Nat) : State × Nat :=
  match s.recDef r with
  | none => (s, StuCode.badArg)
  | some _ =>
    let st := s.capSt r
    if st = Cap.armed then (s.setCapSt r Cap.idle, 0)
    else if st = Cap.triggered then (s, StuCode.armBusy)
    else if st = Cap.closing ∨ st = Cap.rearm then (s.setFld (F.STU_RECr_STATE.REARM_CANCELLED r) 1, 0)
    else (s, 0)

/-- A length change (R294). -/
def State.capLength (s : State) (r n : Nat) : State × Nat :=
  match s.recDef r with
  | none => (s, StuCode.badArg)
  | some d =>
    let x := s.cap r
    let st := s.capSt r
    let inForce := if st = Cap.idle then 0 else x.pre + x.post
    if n = 0 ∨ n > d.rows then (s, StuCode.bufRange)
    else if n < inForce then (s, StuCode.armTooLong)
    else if st = Cap.idle then ((s.setCap r { x with newLen := none }).setFld (F.STU_RECr_STATE.LENGTH r) n, 0)
    else ((s.setCap r { x with newLen := some n }).setFld (F.STU_RECr_STATE.LEN_PENDING r) 1, 0)

/-! ### Triggers (R289, R290) -/

/-- The record a trigger without a number takes: lowest ARMED, TRIGGERED, CLOSING or REARM, IDLE. -/
def State.pickRecord (s : State) (z : Nat) : Option Nat :=
  let b := s.bound z
  let at_ (p : Nat → Bool) : Option Nat := b.find? (fun r => p (s.capSt r))
  ((at_ (· == 1)).orElse (fun _ => at_ (· == 2))).orElse (fun _ => (at_ (fun x => x == 3 || x == 4)).orElse (fun _ => at_ (· == 0)))

/-- A code about a zone's records enters the zone's log, and the STU's too. -/
def State.logZone (s : State) (z code : Nat) : State :=
  let l := (s.logOf (zoneKey z)).add ⟨s.frame, code, s.bin, 0, fixedPath .stu⟩
  { s with logs := tabPut (fun _ => ⟨[], false⟩) s.logs (zoneKey z) l }
def State.postZone (s : State) (z code : Nat) : State := (s.post .stu code 0).logZone z code

/-- A trigger is MISSED, or falls in dead time. Who asked reports the code to the STU. -/
def State.trigMissed (s : State) (z : Nat) : State :=
  let d := s.zdead z
  (((s.setZdead z { d with missed := satSucc 65535 d.missed }).count F.STU_MISSED_COUNT.COUNT 1).logZone z StuCode.missed).raise .stu
    F.STU_IRQ_STATUS.MISSED
def State.trigDead (s : State) (z : Nat) : State :=
  let d := s.zdead z
  (((s.setZdead z { d with dead := satSucc 65535 d.dead }).count F.STU_DEAD_COUNT.COUNT 1).logZone z StuCode.dead).raise .stu
    F.STU_IRQ_STATUS.DEAD

/-- An armed record is triggered: the newest full row is its trigger row, and it takes the zone's counts (R290, R292). A
buffer without a full row takes the next one (log entry 45). -/
def State.capFire (s0 : State) (r z : Nat) : State :=
  let s := (s0.settleCap r).settleDead z
  let x := s.cap r
  let d := s.zdead z
  let trig := x.seq - 1
  let x1 : CapRec := { x with
    trig := some trig, dead := d.dead, missed := d.missed, deadUs := min (2 ^ 32 - 1) (d.samples / usec), count := 0 }
  let s1 := ((s.setCap r x1).setCapSt r Cap.triggered).setZdead z ZoneDead.fresh
  let short := decide ((x.rows.filter (fun w => decide (w.seq < trig))).length < x.pre)
  let s2 := if short then s1.postZone z StuCode.shortPre else s1
  (s2.raise .stu F.STU_IRQ_STATUS.TRIGGERED).settleDead z

/-- A trigger for a zone and record (0xFF: any bound one): its code. -/
def State.capTrigger (s : State) (z rec : Nat) : State × Nat :=
  match (if rec = 0xFF then s.pickRecord z else if (s.recDef rec).isSome then some rec else none) with
  | none => (s.trigMissed z, StuCode.missed)
  | some r =>
    let zr := ((s.recDef r).map (·.zone)).getD z
    let st := s.capSt r
    if st = Cap.armed then (s.capFire r zr, 0)
    else if st = Cap.triggered then
      let x := s.cap r
      (s.setCap r { x with count := satSucc 65535 x.count }, 0)
    else if st = Cap.idle then (s.trigMissed zr, StuCode.missed)
    else (s.trigDead zr, StuCode.dead)

/-- The STU's own trigger: its code goes to STATUS and the log (R297). -/
def State.ownTrigger (s : State) (z rec : Nat) : State :=
  let x := s.capTrigger z rec
  if x.2 = 0 then x.1 else x.1.post .stu x.2 0

/-- The STU's own arm request, by an ARM action, a re-arm or ARM_AT_START: the code of a refused one goes to STATUS and the logs (R288, R297).
`z` is the zone it comes from. -/
def State.ownArm (s : State) (z r : Nat) : State :=
  let x := s.capArm r none
  if x.2 = 0 then x.1 else x.1.postZone z x.2

/-! ### Trigger programs (R282-R286) -/

def TrigInst.start : TrigInst := ⟨0, 0, 0, 0, 0, 0, 0, false, false⟩
def State.inst (s : State) (z : Nat) : TrigInst := tabGet (fun _ => TrigInst.start) s.stu.insts z
def State.setInst (s : State) (z : Nat) (x : TrigInst) : State :=
  { s with stu := { s.stu with insts := tabPut (fun _ => TrigInst.start) s.stu.insts z x } }

/-- A condition of Table 9-5, and the statistic it tests. `cs` are the bands at a DECISION; `kids` the children's
states before the event. -/
def condition (c : Transition) (x : TrigInst) (timer : Bool) (cs : List BandClose) (kids : List Nat) : Bool × Word :=
  let code := c.cond % 128
  let neg := bitAt c.cond 7
  let th := f32 (w32 c.thresh)
  let band := cs.find? (fun b => b.band == c.carg)
  let hit (b : Bool) : Bool := b != neg
  if code = 2 ∨ code = 3 ∨ code = 4 then
    match (if timer then none else band) with
    | none => (false, 0)
    | some b =>
      let v := if code = 2 then b.rms else if code = 3 then b.ratio else fNat b.stat.peak / 256.0
      (hit (decide (v > th)), toF32 v)
  else
    (hit (match code with
      | 1 => true
      | 5 => decide (c.thresh ≤ (if c.carg = 0 then x.c0 else x.c1))
      | 6 => if c.carg = 0 then x.e0 else x.e1
      | 7 => kids.contains c.carg
      | _ => false), 0)

/-- Counter and timer actions (bits 0 to 3), in ascending order. -/
def TrigInst.act (x : TrigInst) (c : Transition) (at_ : Nat) : TrigInst :=
  let on (i : Nat) : Bool := bitAt c.actions i
  let first := c.counter == 0
  let x1 := if on 0 then (if first then { x with c0 := satSucc 65535 x.c0 } else { x with c1 := satSucc 65535 x.c1 }) else x
  let x2 := if on 1 then (if first then { x1 with c0 := 0 } else { x1 with c1 := 0 }) else x1
  let t0 := c.timer == 0
  let x3 := if on 2 then (if t0 then { x2 with t0 := c.timerValue, e0 := false, s0 := at_ } else { x2 with t1 := c.timerValue, e1 := false, s1 := at_ }) else x2
  if on 3 then (if t0 then { x3 with t0 := 0, e0 := false } else { x3 with t1 := 0, e1 := false }) else x3

/-- Event entry (Table 9-8). -/
def eventEntry (z : Nat) (c : Transition) (from_ dest : Nat) (timer : Bool) (frame : Nat) (off : Int) (x : TrigInst) (v : Word) : Bytes :=
  leBytes 2 z ++ leBytes 1 c.reportCode ++ leBytes 1 from_ ++ leBytes 1 dest ++ leBytes 1 (if timer then 1 else 0) ++ [0, 0]
    ++ leBytes 8 (frame % 2 ^ 48) ++ leBytes 4 (unsigned 32 off) ++ leBytes 2 x.c0 ++ leBytes 2 x.c1 ++ leBytes 4 v.toNat ++ zeros 4

/-- A zone's program evaluates an event (TRIGGER_PROGRAM_EVENT, R285). A slot of a frame before the switch that brought the programs in finds its
instance ended (R282, 01 R44). -/
def State.runProgram (s : State) (z : Zone) (timer : Bool) (cs : List BandClose) (frame : Nat) (off : Int) (at_ : Nat) : State :=
  match if z.program = 0xFF ∨ frame < s.stu.since then none else (imgTriggers s.sil.active)[z.program]? with
  | none => s
  | some prog =>
    let x := s.inst z.number
    let kids := ((childrenOf s.znt.zones z.number).filter (fun c => c.program != 0xFF)).map (fun c => (s.inst c.number).state)
    match ((prog[x.state]?.getD []).map (fun c => (c, condition c x timer cs kids))).find? (fun e => e.2.1) with
    | none => s
    | some (c, _, v) =>
      let x1 := x.act c at_
      let dest := if c.next = 0xFF then x.state else c.next
      let s1 := s.setInst z.number { x1 with state := dest }
      let s2 := if bitAt c.actions 4 then s1.ownArm z.number c.record else s1
      let s3 := if bitAt c.actions 5 then s2.ownTrigger z.number c.record else s2
      if bitAt c.actions 6 && s3.flag F.STU_CFG.EVENT_EN then
        s3.entryOut ⟨frame, s3.fld F.STU_CFG.EVENT_CHANNEL, 0x32, 1, eventEntry z.number c x.state dest timer frame off x1 v⟩
      else s3

/-- DECISION: a zone's interval closes and its program runs (R279, R283). -/
def State.decide_ (s : State) (r : SlotRun) : State :=
  match zoneOf s.znt.zones r.arg with
  | none => s
  | some z =>
    if s.fld F.ZNT_STATUS.STATE ≠ Blk.running then s
    else
      let cs := s.closeBands z
      let before := (s.inst z.number).state
      let s1 := (s.runProgram z false cs r.frame r.offset r.instant).settleDeads
      let after := (s1.inst z.number).state
      s1.closeZone z cs r.frame (before == 0 && after == 0) (s1.zoneState z.number)

/-- TIMER: the running timers of a zone's instance advance; an expiry gives one event (R283). A timer started at this
instant is not decremented. -/
def State.tickTimers (s : State) (r : SlotRun) : State :=
  match zoneOf s.znt.zones r.arg with
  | none => s
  | some z =>
    if z.program = 0xFF ∨ r.frame < s.stu.since ∨ s.fld F.STU_STATUS.STATE ≠ Blk.running then s
    else
      let x := s.inst z.number
      let run0 := decide (0 < x.t0) && x.s0 != r.instant
      let run1 := decide (0 < x.t1) && x.s1 != r.instant
      let x1 : TrigInst := { x with
        t0 := if run0 then x.t0 - 1 else x.t0, t1 := if run1 then x.t1 - 1 else x.t1
        e0 := x.e0 || (run0 && x.t0 == 1), e1 := x.e1 || (run1 && x.t1 == 1) }
      let s1 := s.setInst z.number x1
      if (run0 && x.t0 == 1) || (run1 && x.t1 == 1) then (s1.runProgram z true [] r.frame r.offset r.instant).settleDeads else s1

/-! ### Checks (R297) -/

/-- DETAIL of the first STU check that fails. -/
def stuCheck (f : Fld → Nat) (img : Bytes) (zs : List Zone) : Option Nat :=
  let progs := imgTriggers img
  let badProg (p : List (List Transition)) : Bool := p.any (fun st => st.any (fun c => decide (7 < c.cond % 128)))
  let open_ (c product : Nat) : Bool := (imgChannels img).any (fun x => x.chan == c && x.product == product)
  firstSome [
    ((imgRecords img).find? (fun r => (zoneOf zs r.zone).isNone)).map (·.zone),
    (zs.find? (fun z => !(z.program == 0xFF || decide (z.program < progs.length)))).map (·.program),
    (List.range progs.length).find? (fun i => badProg (progs[i]?.getD [])),
    if (f F.STU_CFG.CAPTURE_EN == 1 && !open_ (f F.STU_CFG.CAPTURE_CHANNEL) 0x21)
      || (f F.STU_CFG.EVENT_EN == 1 && !open_ (f F.STU_CFG.EVENT_CHANNEL) 0x32) then some 2 else none,
    ((imgSlots img).find? (fun x => (x.action == 4 || x.action == 6) && (zoneOf zs x.arg).isNone)).map (·.arg)]

end Sys2Proof.Machine
end

