-- ==== Sys2Proof/Machine/Tce.lean ====
section
/-! DEFINITION. The Tadpole compression engine: geometries, the quantisation ladder, predictors and coder, tags, staging
and its checks (10 R300-R317). -/

namespace Sys2Proof.Machine

/-- TCE codes (10 Table 10-5). -/
abbrev TceCode.badConfig : Nat := 1
abbrev TceCode.verifyFail : Nat := 2
abbrev TceCode.raw : Nat := 3

/-! ### Checks (R316) -/

/-- A channel's settings are valid. -/
def tceChanOk (f : Fld → Nat) (img : Bytes) (c : Nat) : Bool :=
  let k := 2 ^ f F.MRS_GEOM.K_CODE
  let e := f (F.TCE_CHc_CFG.BIN_EXP c)
  let planar := f (F.TCE_CHc_CFG.GEOM c) == 0
  let qw := f (F.TCE_CHc_CFG.QW_MODE c)
  match (imgChannels img).find? (·.chan = c) with
  | none => false
  | some ch =>
    bitAt ch.dest 1 && decide (qw ≤ 1) && (qw == 0 || planar)
      && (!planar || ((ch.product == 1 || ch.product == 2) && decide (e ≤ 8) && decide (1024 / 2 ^ e ≤ k)))

/-- DETAIL of the first TCE check that fails: a channel. -/
def tceCheck (f : Fld → Nat) (img : Bytes) : Option Nat :=
  (List.range 32).find? (fun c => f (F.TCE_CHc_CFG.ARCHIVE_EN c) == 1 && !tceChanOk f img c)

/-! ### Staging rings (R313) -/

/-- Bytes of a channel's staging ring (12 R360). -/
def State.ringBytes (s : State) : Nat :=
  let n := (imgArchived s.sil.active).length
  if n = 0 then 0 else s.fld F.ANC_POL0.STAGING_MIB * 2 ^ 20 / n / 8 * 8

/-- Bytes of what is staged. -/
def Staged.size : Staged → Nat
  | .header _ b => b.length
  | .desc _ b => b.length
  | .block _ sp _ => (sp.map (·.2)).sum
def TceChan.stagedBytes (x : TceChan) : Nat := (x.staged.map Staged.size).sum

/-- Size and write offset of a channel's ring: a ring that holds nothing takes the size in force (log entry 166). -/
def State.ringOf (s : State) (c : Nat) : Nat × Nat :=
  let x := s.tch c
  if x.staged.isEmpty then (s.ringBytes, 0) else (x.ring, x.wr)

/-- A channel's ring has room for a RAW block and its tag. -/
def State.ringRoom (s : State) (c : Nat) : Bool := decide ((s.tch c).stagedBytes + 4120 ≤ (s.ringOf c).1)

/-- The TCE may start a block: its ring has room, and DRAM takes writes. -/
def State.stageRoom (s : State) (c : Nat) : Bool := s.ringRoom c && s.dmcServes

/-- At least one channel has a complete block for which its ring has no room (R313). -/
def State.tceStall (s : State) : State :=
  { s with tce := { s.tce with stalled := s.tce.blocks.any (fun b => !s.ringRoom b.chan) } }

/-- Bytes go to a channel's ring, wrapping at its end: the spans of DRAM they take. -/
def State.ringSpans (s : State) (c n : Nat) : List (Nat × Nat) :=
  let r := s.ringOf c
  let a := Config.stagingArea c
  if r.2 + n ≤ r.1 then [(a + r.2, n)] else [(a + r.2, r.1 - r.2), (a, n - (r.1 - r.2))]

/-- A block and its tag are staged: written to the ring in class 3. -/
def State.stageBlock (s : State) (c frame : Nat) (bytes : Bytes) (reset : Bool) : State :=
  let r := s.ringOf c
  let sp := s.ringSpans c bytes.length
  let s1 := State.writeSpans (fixedPath .tce) 3 sp bytes s
  let x := s1.tch c
  s1.setTch c { x with staged := x.staged ++ [.block frame sp reset], ring := r.1, wr := (r.2 + bytes.length) % max 1 r.1 }

/-! ### Blocks (R301, R302) -/

/-- LATE of a stream block: FLAGS of a Rayleigh, thermal or capture descriptor. -/
def blockLate (b : Bytes) : Bool :=
  let p := field b 64 2
  if p ≤ 3 then bitAt (field b (64 + 14) 2) 0 else if p = 0x21 then bitAt (field b (64 + 6) 2) 2
  else if p < 0x20 then bitAt (field b (64 + 2) 2) 0 else false

/-- A place among the frames of every run: run, then frame. -/
def runFrame (run frame : Nat) : Nat := run * 2 ^ 48 + frame

/-- The latest close event at or before the frame of a stream block. -/
def State.markAt (s : State) (data : Bytes) : Option Nat :=
  let k := runFrame (field data 4 4) (field data 8 6)
  s.tce.marks.find? (fun m => decide (m ≤ k))

/-- An open LINEAR block is closed with its missing words as 0 (R302). -/
def State.closeLinear (s : State) (c : Nat) : State :=
  let x := s.tch c
  if x.words.isEmpty then s
  else
    let b : TadBlock := ⟨c, x.firstFrame, x.wordMark, x.words ++ List.replicate (1024 - x.words.length) 0, decide (x.words.length < 1024), x.gap, x.late,
      1, x.words.length, x.firstFrame, x.wordOff, 0⟩
    let s1 := s.setTch c { x with words := [], gap := false, late := false }
    { s1 with tce := { s1.tce with blocks := s1.tce.blocks ++ [b] } }

/-- Words of a LINEAR stream block enter the open block; a full one is cut (R301). -/
def State.addWords (c frame : Nat) (mark : Option Nat) (late : Bool) : List Int → Nat → State → State
  | [], _, s => s
  | w :: rest, off, s =>
    let x := s.tch c
    let x1 : TceChan := if x.words.isEmpty then { x with words := [w], wordMark := mark, firstFrame := frame, wordOff := off, late := late }
      else { x with words := x.words ++ [w], late := x.late || late }
    let s1 := s.setTch c x1
    State.addWords c frame mark late rest (off + 1) (if x1.words.length ≥ 1024 then s1.closeLinear c else s1)

/-- Tadpole blocks of a PLANAR stream block (R301). -/
def planarBlocks (f : Fld → Nat) (c : Nat) (mark : Option Nat) (b : Bytes) : List TadBlock :=
  let frame := field b 8 6
  let d := b.drop 64
  let k := field d 2 1
  let first := field d 4 4
  let n := min 256 (field d 8 4)
  let data := d.drop 32
  let bins := 2 ^ f (F.TCE_CHc_CFG.BIN_EXP c)
  let inst := 1024 / bins
  let at_ (p i : Nat) : Int := signed 32 (field data (4 * (p * n + i)) 4)
  let q (i : Nat) : Word := w32 (field data (4 * (k * n + i)) 4)
  let qmode := f (F.TCE_CHc_CFG.QW_MODE c)
  (List.range (k / inst)).flatMap (fun sp => (List.range ((n + bins - 1) / bins)).map (fun g =>
    let b0 := g * bins
    let valid := min bins (n - b0)
    let qs := (List.range valid).map (fun i => q (b0 + i))
    { chan := c, frame := frame, mark := mark
      samples := (List.range 1024).map (fun i => if b0 + i / inst < n then at_ (sp * inst + i % inst) (b0 + i / inst) else 0)
      isPartial := decide (valid < bins), gap := false, late := blockLate b, validBins := valid, validInstants := inst
      firstInstant := frame * k + sp * inst, firstBin := first + b0
      qsum := if qmode = 1 then qs.foldl (fun m w => min m (bitsOf w 7 0)) 255 + 256 * bitsOf (qs.foldl (· ||| ·) 0) 31 8 else 0 }))

/-- A header or descriptor goes to the staging ring uncoded. -/
def State.stageMeta (s : State) (c : Nat) (b : Bytes) (linear : Bool) : State :=
  let frame := field b 8 6
  let x := s.tch c
  let h := if x.lastHeader = some frame then [] else [Staged.header frame (b.take 64)]
  let d := if linear then [Staged.desc frame (b.take (64 + descBytes (field b 64 2)))] else []
  s.setTch c { x with lastHeader := some frame, staged := x.staged ++ h ++ d }

/-- The payload words of a stream block enter the open block. -/
def State.addPayload (s : State) (c frame : Nat) (mark : Option Nat) (late : Bool) (pay : Bytes) : State :=
  State.addWords c frame mark late ((List.range (pay.length / 4)).map (fun i => signed 32 (field pay (4 * i) 4))) 0 s

/-- Predictors tried and history depth of an effort (Table 10-2). -/
def effortPreds : Nat → List Nat
  | 0 => [1] | 1 => [1, 2, 6] | 2 => [0, 1, 2, 4, 6, 10] | _ => List.range 16
def effortDepth : Nat → Nat
  | 4 => 1 | 5 => 2 | 6 => 4 | 7 => 8 | _ => 0

/-- A channel's part of the work area: aperture offsets of its history and of its assembly buffer, the channels of ARCHIVE_POLICY in its
order, each with its history before its buffer (R315; log entry 93). -/
def State.workAddr (s : State) (c : Nat) : Nat × Nat :=
  let p := imgPay s.sil.active Sec.archivePolicy
  let e := imgArchived s.sil.active
  let before := ((e.takeWhile (·.1 != c)).map (fun x => channelWork (s.reg (R.TCE_CHc_CFG x.1)).toNat)).sum
  let h := 0x1000000 * (field p 1 1 % 4) + field p 4 4 + before
  (h, h + 4096 * effortDepth (s.fld (F.TCE_CHc_CFG.EFFORT c)))

/-- Words as bytes. -/
def wordBytes (l : List Int) : Bytes := l.flatMap (fun z => leBytes 4 (unsigned 32 z))

/-- A channel's history, newest block first, and its assembly buffer stand in the work area. -/
def State.workPut (s : State) (c : Nat) : State :=
  let a := s.workAddr c
  let x := s.tch c
  (s.setEmem a.1 (x.history.flatMap wordBytes)).setEmem a.2 (wordBytes x.words)

/-- A stream block of an archived channel enters its Tadpole blocks (R301, R302). Words on the two sides of a close event never share a block. `cut`: a
stream block of the channel was dropped before it, and a LINEAR block that spans the drop carries GAP (R312). -/
def State.tceEnter (s : State) (c : Nat) (data : Bytes) (cut : Bool) : State :=
  let frame := field data 8 6
  let linear := s.ruleFld frame c (F.TCE_CHc_CFG.GEOM c) == 1
  let mark := s.markAt data
  let s1 := if linear && mark != (s.tch c).wordMark then s.closeLinear c else s
  let s2 := if cut && !(s1.tch c).words.isEmpty then s1.setTch c { s1.tch c with gap := true } else s1
  let s3 := s2.stageMeta c data linear
  if linear then (s3.addPayload c frame mark (blockLate data) (data.drop (64 + descBytes (field data 64 2)))).workPut c
  else { s3 with tce := { s3.tce with blocks := s3.tce.blocks ++ planarBlocks (s3.ruleFld frame c) c mark data } }

/-- A queued stream block is dropped for the archive: the next of its channel follows a drop (R312). -/
def State.tceDrop (s : State) (q : TceIn) : State :=
  let before := s.tce.queue.takeWhile (fun x => x != q)
  let after := s.tce.queue.drop (before.length + 1)
  let s1 := s.archiveDrop q.chan (field q.data 8 6)
  match after.findIdx? (fun x => x.chan == q.chan) with
  | some i => { s1 with tce := { s1.tce with queue := before ++ modAt after i (fun x => { x with cut := true }) } }
  | none => ({ s1 with tce := { s1.tce with queue := before ++ after } } : State).setTch q.chan { s1.tch q.chan with cut := true }

/-- An open block closes, and the work area follows. -/
def State.closeOut (s : State) (c : Nat) : State := if (s.tch c).words.isEmpty then s else (s.closeLinear c).workPut c

/-- Every open LINEAR block closes. -/
def State.tceCloseAll (s : State) : State := ((List.range 32).foldl State.closeOut s).tceStall

/-- A stopping TCE with nothing queued closes its open blocks, and is READY once every block is staged (R302, R316). -/
def State.tceRest (s : State) : State :=
  if !s.tce.stopping || !s.tce.queue.isEmpty then s
  else
    let s1 := s.tceCloseAll
    if s1.tce.blocks.isEmpty then ({ s1 with tce := { s1.tce with stopping := false } }).setFld F.TCE_STATUS.STATE Blk.ready else s1

/-- A group has completed a push: its stream blocks not consumed in 48 pushes are dropped (R312). -/
def State.tceAge (s : State) (g : Nat) : State :=
  let old := s.tce.queue.filter (fun q => match q.engine with | some (h, n) => h == g && decide (n + 48 ≤ (s.grp g).pushes) | none => false)
  if old.isEmpty then s else (old.foldl State.tceDrop s).tceRest

/-- The oldest queued stream block is consumed: an engine's output is read where it lies, the rows of a capture from DRAM, and these wait while the
DMC does not serve (R312, 09 R296). -/
def State.tceTake (s : State) : State :=
  match s.tce.queue with
  | [] => s
  | q :: rest =>
    let s1 : State := { s with tce := { s.tce with queue := rest } }
    let data := match q.place with | some (ap, n) => q.data ++ s.emem ap n | none => q.data
    if q.spans.isEmpty then s1.tceEnter q.chan data q.cut
    else if !s.dmcServes then s.dmcTouch
    else
      let r := State.readSpans (fixedPath .tce) 3 q.spans s1
      match r.2 with
      | some d => r.1.tceEnter q.chan (data ++ d) q.cut
      | none => { r.1 with tce := s.tce }

/-- TCE_BLOCK_INTAKE. -/
def execTceBlockIntake (s : State) : Host.Outcome State Fault Refusal :=
  .next (if s.unitOn .tce then s.tceTake.tceRest.tceStall else s)

/-! ### Coder (R303-R310) -/

/-- floor(2^(h/4)) by the fourth root of 2^h. -/
def quarterPow (h : Nat) : Nat := isqrt (isqrt (2 ^ h))

/-- The ladder of a bound E (R303). -/
def ladder (e : Nat) : List Nat :=
  if e = 0 then [0]
  else
    let mid := ((List.range 96).map quarterPow).filter (fun q => decide (q < e))
    0 :: (mid.filter (· ≠ 0)).eraseDups ++ [e]

/-- A match entry (Table 10-3). -/
structure Match where
  start : Nat
  length : Nat
  back : Nat
  source : Nat
  deriving DecidableEq, Repr

/-- Entries keep Table 10-3 within a depth of history: ascending, apart, inside the block. -/
def matchesOk (depth : Nat) : Nat → List Match → Bool
  | _, [] => true
  | from_, m :: rest =>
    decide (from_ ≤ m.start) && decide (1 ≤ m.length) && decide (m.start + m.length ≤ 1024) && decide (m.back < depth)
      && decide (m.source + m.length ≤ 1024) && matchesOk depth (m.start + m.length) rest

/-- Median of three. -/
def median3 (a b c : Int) : Int := max (min a b) (min (max a b) c)

/-- Floor quotient by a power of two or a small number, and the predictors of Table 10-1. -/
def predict (pred : Nat) (a a2 a3 b b2 c : Int) : Int :=
  satInt 32 (match pred with
    | 0 => 0 | 1 => a | 2 => b | 3 => c | 4 => 2 * a - a2 | 5 => 2 * b - b2 | 6 => a + b - c | 7 => (a + b).fdiv 2
    | 8 => a + (b - c).fdiv 2 | 9 => b + (a - c).fdiv 2 | 10 => median3 a b (a + b - c) | 11 => a + (a - a2).fdiv 2
    | 12 => (3 * a + b).fdiv 4 | 13 => (a + 3 * b).fdiv 4 | 14 => 3 * a - 3 * a2 + a3 | _ => (a + b + c + a2).fdiv 4)

/-- Prediction of sample i from the reconstructed samples before it, newest first (R305). -/
def predictAt (pred tg i : Nat) (rev : List Int) (hist : List (List Int)) (ms : List Match) : Int :=
  match ms.find? (fun m => decide (m.start ≤ i) && decide (i < m.start + m.length)) with
  | some m => ((hist[m.back]?.getD [])[m.source + i - m.start]?).getD 0
  | none =>
    let y (d : Nat) : Int := rev[d - 1]?.getD 0
    let r := i % tg
    let a : Int := if r ≠ 0 then y 1 else if tg ≤ i then y tg else 0
    let a2 : Int := if 2 ≤ r then y 2 else a
    let a3 : Int := if 3 ≤ r then y 3 else a2
    let b : Int := if tg ≤ i then y tg else a
    let b2 : Int := if 2 * tg ≤ i then y (2 * tg) else b
    let c : Int := if tg ≤ i ∧ r ≠ 0 then y (tg + 1) else b
    predict pred a a2 a3 b b2 c

/-- Coding of the samples at a step: reconstructed values newest first and indexes z newest first (R304). -/
def codeRun (pred tg q : Nat) (hist : List (List Int)) (ms : List Match) : Nat → List Int → List Int → List Nat → List Int × List Nat
  | _, [], rev, zs => (rev, zs)
  | i, x :: rest, rev, zs =>
    let d : Int := 2 * q + 1
    let p := predictAt pred tg i rev hist ms
    let r := x - p
    let n : Int := if r < 0 then -(((r.natAbs + q : Nat) : Int) / d) else ((r.natAbs + q : Nat) : Int) / d
    let z := if n ≥ 0 then 2 * n.toNat else 2 * n.natAbs - 1
    codeRun pred tg q hist ms (i + 1) rest (satInt 32 (p + n * d) :: rev) (z :: zs)

/-- Body bits of indexes at a Rice parameter (R308). -/
def riceBits (rk : Nat) (zs : List Nat) : Nat := (zs.map (fun z => if z / 2 ^ rk < 24 then z / 2 ^ rk + 1 + rk else 24 + 35)).sum

/-- The Rice parameter with the fewest bits, the lowest on a tie. -/
def bestRice (zs : List Nat) : Nat × Nat :=
  (List.range 32).foldl (fun b rk => let n := riceBits rk zs; if n < b.2 then (rk, n) else b) (0, riceBits 0 zs)

/-- A coded block before it is packed. -/
structure Coded where
  pred : Nat
  rk : Nat
  bits : Nat
  q : Nat
  ms : List Match
  ys : List Int
  zs : List Nat
  deriving DecidableEq, Repr

/-- The block coded at a step with the TCE's matches (R306). -/
def codeAt (effort tg q : Nat) (hist : List (List Int)) (ms : List Match) (xs : List Int) : Coded :=
  let one (p : Nat) : Coded :=
    let r := codeRun p tg q hist ms 0 xs [] []
    let b := bestRice r.2
    ⟨p, b.1, b.2, q, ms, r.1.reverse, r.2.reverse⟩
  ((effortPreds effort).drop 1).foldl (fun best p => let c := one p; if c.bits < best.bits then c else best) (one ((effortPreds effort).headD 1))

/-- Body bits of one index. -/
def riceCode (rk z : Nat) : List Bool :=
  let u := z / 2 ^ rk
  if u < 24 then List.replicate u true ++ [false] ++ (List.range rk).map (fun i => bitAt z i)
  else List.replicate 24 true ++ (List.range 35).map (fun i => bitAt z i)

/-- Bits as bytes, least significant first. -/
def packBits : Nat → List Bool → Bytes
  | 0, _ => []
  | n + 1, bs =>
    (BitVec.ofNat 8 (((List.range 8).map (fun i => if bs[i]?.getD false then 2 ^ i else 0)).sum)) :: packBits n (bs.drop 8)

/-- A coded block of a size (R307). -/
def Coded.bytes (c : Coded) (size : Nat) : Bytes :=
  let w0 := c.pred + 16 * c.ms.length + 256 * c.q
  let w1 := c.rk + 65536 * c.bits
  let entry (m : Match) : Nat := m.start + 2 ^ 10 * m.length + 2 ^ 21 * m.back + 2 ^ 24 * m.source
  let head := leBytes 4 w0 ++ leBytes 4 w1 ++ c.ms.flatMap (fun m => leBytes 8 (entry m))
  head ++ packBits (size - head.length) (c.zs.flatMap (riceCode c.rk))

/-- The TCE's matches at a step, within Table 10-3 (R306). -/
def matchesAt (effort tg q depth : Nat) (hist : List (List Int)) (xs : List Int) : List Match :=
  let ms := (Config.tadMatches effort tg q hist xs).map (fun m => (⟨m.1, m.2.1, m.2.2.1, m.2.2.2⟩ : Match))
  if decide (ms.length ≤ 15) && matchesOk (min depth hist.length) 0 ms then ms else []

/-- The ladder search of R310 from a rung: the rung and the coded block that fits. -/
def ladderFrom (effort tg size depth : Nat) (hist : List (List Int)) (xs : List Int) : Nat → List Nat → Option (Nat × Coded)
  | _, [] => none
  | j, q :: rest =>
    let ms := matchesAt effort tg q depth hist xs
    let c := codeAt effort tg q hist ms xs
    if 64 + 64 * ms.length + c.bits ≤ 8 * size then some (j, c)
    else ladderFrom effort tg size depth hist xs (j + 1) rest

/-! ### Verification decoder (R308, R311) -/

/-- Fields of a coded block as a decoder reads them. -/
structure CodedHead where
  pred : Nat
  q : Nat
  rk : Nat
  bits : Nat
  ms : List Match
  body : Bytes
  deriving DecidableEq, Repr

def readCoded (b : Bytes) : CodedHead :=
  let w0 := field b 0 4
  let w1 := field b 4 4
  let n := w0 / 16 % 16
  { pred := w0 % 16, q := w0 / 256, rk := w1 % 32, bits := w1 / 65536
    ms := (List.range n).map (fun i =>
      let e := field b (8 + 8 * i) 8
      ⟨e % 1024, e / 2 ^ 10 % 2048, e / 2 ^ 21 % 8, e / 2 ^ 24 % 1024⟩)
    body := b.drop (8 + 8 * n) }

/-- The fields keep Table 10-3. -/
def codedOk (depth : Nat) (b : Bytes) (h : CodedHead) : Bool :=
  field b 4 4 / 32 % 2048 == 0 && decide (h.bits ≤ 16320) && matchesOk depth 0 h.ms
    && (List.range h.ms.length).all (fun i => field b (8 + 8 * i) 8 / 2 ^ 34 == 0)

/-- Body bit `j`. -/
def bodyBit (b : Bytes) (j : Nat) : Bool := bitAt ((b[j / 8]?.getD 0).toNat) (j % 8)

/-- One bits before a 0 bit, 24 at most. -/
def countOnes (b : Bytes) : Nat → Nat → Nat
  | 0, _ => 0
  | k + 1, j => if bodyBit b j then 1 + countOnes b k (j + 1) else 0

/-- `n` bits from `j`, least significant first. -/
def bodyField (b : Bytes) (j n : Nat) : Nat := ((List.range n).map (fun i => if bodyBit b (j + i) then 2 ^ i else 0)).sum

/-- The samples of a coded block from sample `i` and body bit `j` on, newest first; none where it reads beyond PAYLOAD_BITS. -/
def decodeFrom (h : CodedHead) (tg : Nat) (hist : List (List Int)) : Nat → Nat → Nat → List Int → Option (List Int)
  | 0, _, _, rev => some rev
  | k + 1, i, j, rev =>
    let u := countOnes h.body 24 j
    let used := if u < 24 then u + 1 + h.rk else 24 + 35
    if h.bits < j + used then none
    else
      let z := if u < 24 then u * 2 ^ h.rk + bodyField h.body (j + u + 1) h.rk else bodyField h.body (j + 24) 35
      let n : Int := if z % 2 = 0 then (z / 2 : Nat) else -(((z + 1) / 2 : Nat) : Int)
      decodeFrom h tg hist k (i + 1) (j + used) (satInt 32 (predictAt h.pred tg i rev hist h.ms + n * (2 * h.q + 1)) :: rev)

/-- The block a decoder reconstructs; none where it is undecodable (R308). -/
def decodeBlock (tg depth : Nat) (hist : List (List Int)) (b : Bytes) : Option (List Int) :=
  let h := readCoded b
  if codedOk (min depth hist.length) b h then (decodeFrom h tg hist 1024 0 0 []).map List.reverse else none

/-- A coded block passes verification: every sample within E of its input (R311). -/
def verified (e : Nat) (xs : List Int) (ys : Option (List Int)) : Bool :=
  match ys with
  | some l => l.length == xs.length && (l.zip xs).all (fun p => decide ((p.1 - p.2).natAbs ≤ e))
  | none => false

/-- Bits flipped in bytes: a fault of the coder path. -/
def flipBits (flips : List Nat) (b : Bytes) : Bytes :=
  flips.foldl (fun b i => modAt b (i / 8) (fun x => x ^^^ BitVec.ofNat 8 (2 ^ (i % 8)))) b

/-! ### Tags and staging (R309, R311, R313) -/

/-- A block's tag (Table 10-4). -/
def tadTag (b : TadBlock) (ratio ladder_ : Nat) (raw vfail reset lossless : Bool) : Bytes :=
  let v (x : Bool) (i : Nat) : Nat := if x then 2 ^ i else 0
  leBytes 1 (v raw 0 + v vfail 1 + v b.isPartial 2 + v b.gap 3 + v b.late 4 + v reset 5 + v lossless 6) ++ leBytes 1 ratio ++ leBytes 1 b.chan
    ++ leBytes 1 ladder_ ++ leBytes 2 b.validBins ++ leBytes 2 b.validInstants ++ leBytes 8 b.firstInstant ++ leBytes 4 b.firstBin ++ leBytes 4 b.qsum

/-- What the TCE makes of a block: the rung and step of a coded block, its samples as a decoder has them, and its bytes; whether the
verification decoder refused it, and the rung at which it fitted (R310, R311). -/
structure TadResult where
  rung : Option Nat
  coded : Option (Nat × Nat)
  ys : List Int
  bytes : Bytes
  refused : Bool
  deriving DecidableEq, Repr

/-- A block is coded and verified (R303-R311). `flips` are the bits that a fault of the coder path turns over in the coded bytes. -/
def codeBlock (b : TadBlock) (effort ratio e tg j0 : Nat) (hist : List (List Int)) (flips : List Nat) : TadResult :=
  let size := 4096 / 2 ^ (ratio + 1)
  let raw (rung : Option Nat) : TadResult := ⟨rung, none, b.samples, wordBytes b.samples, rung.isSome⟩
  match ladderFrom effort tg size (effortDepth effort) hist b.samples j0 ((ladder e).drop j0) with
  | none => raw none
  | some (j, k) =>
    let bytes := flipBits flips (k.bytes size)
    if verified e b.samples (decodeBlock tg (effortDepth effort) hist bytes) then ⟨some j, some (j, k.q), k.ys, bytes, false⟩ else raw (some j)

/-- A block is coded, verified and staged with its tag. -/
def State.tceCode (s : State) (b : TadBlock) (flips : List Nat) : State :=
  let c := b.chan
  let x := s.tch c
  let mark := b.mark
  let reset := x.fresh || mark != x.mark || decide (s.fld F.ANC_POL0.RECORD_BLOCKS ≤ x.since)
  let hist := if reset then [] else x.history
  let rule (f : Fld) : Nat := s.ruleFld b.frame c f
  let e := rule (F.TCE_CHc_BOUND.E c)
  let eff := rule (F.TCE_CHc_CFG.EFFORT c)
  let ratio := rule (F.TCE_CHc_CFG.RATIO c)
  let tg := if rule (F.TCE_CHc_CFG.GEOM c) = 1 then 1024 else b.validInstants
  let o := codeBlock b eff ratio e tg (if reset then 0 else x.step - 2) hist flips
  let tag := tadTag b ratio ((o.coded.map (·.1)).getD 255) o.coded.isNone o.refused reset (e == 0)
  let y : TceChan := { x with
    mark := mark, fresh := false, since := if reset then 1 else x.since + 1
    history := (o.ys :: hist).take (effortDepth eff), step := o.rung.getD ((ladder e).length - 1) }
  let s1 := (((s.setTch c y).workPut c).stageBlock c b.frame (o.bytes ++ tag) reset).count F.TCE_BLOCK_COUNT.COUNT 1
  let s2 := (s1.setFld (F.TCE_CHc_STEP.LADDER c) ((o.coded.map (·.1)).getD 0x7F)).setFld (F.TCE_CHc_STEP.QSTEP c) ((o.coded.map (·.2)).getD 0)
  if o.coded.isSome then s2
  else
    let s3 := (s2.count F.TCE_RAW_COUNT.COUNT 1).raise .tce F.TCE_IRQ_STATUS.RAW
    if o.refused then ((s3.count F.TCE_VERIFY_COUNT.COUNT 1).post .tce TceCode.verifyFail 0).raise .tce F.TCE_IRQ_STATUS.VERIFY_FAIL
    else s3.show .tce TceCode.raw 0

/-- TCE_BLOCK_CODED: a lane finishes the oldest complete block of a channel that has room (R313, R314). -/
def execTceBlockCoded (c : Fin 32) (flips : List Nat) (t : Nat) (s : State) : Host.Outcome State Fault Refusal :=
  let s0 := s.at_ t
  .next (if !s0.unitOn .tce then s0
    else match s0.tce.blocks.find? (fun b => b.chan = c.val) with
    | none => s0
    | some b =>
      if !s0.stageRoom c.val then s0.tceStall
      else (((({ s0 with tce := { s0.tce with blocks := s0.tce.blocks.erase b } }).tceCode b flips).tceRest).tceStall))

/-- A close event at the boundary that opens frame `n`: open LINEAR blocks close, and frames from `n` on begin with an empty history (R302,
R309; log entry 196). -/
def State.tceMark (s : State) (n : Nat) : State :=
  let s1 := s.tceCloseAll
  { s1 with tce := { s1.tce with marks := (runFrame s1.run n :: s1.tce.marks).take 64 } }

/-- The last frame is delivered: open blocks close, and READY follows once all is staged. -/
def State.tceStop (s : State) : State :=
  if s.fld F.TCE_STATUS.STATE = Blk.running then ({ s with tce := { s.tce with stopping := true } }).tceRest else s

/-- Frames of a channel that are on their way in the TCE. -/
def State.tceFrames (s : State) (c : Nat) : List Nat :=
  let x := s.tch c
  (s.tce.queue.filter (·.chan == c)).map (fun q => field q.data 8 6) ++ (s.tce.blocks.filter (·.chan == c)).map (·.frame)
    ++ (if x.words.isEmpty then [] else x.firstFrame :: x.lastHeader.toList)

/-- Queued, open and unstaged blocks and the history are lost; the span that each channel loses is noted (R317). -/
def State.tceLose (s : State) : State :=
  let keep (x : TceChan) : TceChan := { TceChan.fresh_ with staged := x.staged, ring := x.ring, wr := x.wr }
  let s1 := (List.range 32).foldl (fun a c =>
    match s.tceFrames c with
    | [] => a
    | f :: l => a.noteGap 5 c 0xFFFF a.run (l.foldl min f) a.run (l.foldl max f + 1)) s
  { s1 with tce := { queue := [], blocks := [], chans := s.tce.chans.map (fun p => (p.1, keep p.2)), marks := [], stopping := false, stalled := false } }

/-- COUNT_CLR. -/
def State.tceCountClr (s : State) : State :=
  [R.TCE_BLOCK_COUNT, R.TCE_RAW_COUNT, R.TCE_VERIFY_COUNT, R.TCE_STALL_CYCLES_LO, R.TCE_STALL_CYCLES_HI, R.TCE_DROP_COUNT].foldl
    (fun a r => a.setReg r 0) s
def execTceCountClr (src : Src) (s : State) : Host.Outcome State Fault Refusal :=
  .next (s.onUnit (.reg src) .tce R.TCE_CTRL State.tceCountClr)

end Sys2Proof.Machine
end

