-- ==== Sys2Proof/Machine/Anc.lean ====
section
/-! DEFINITION. The archive: geometry, pages, the block table, records and the log they are written to (12 R346-R356,
R361). -/

namespace Sys2Proof.Machine

/-- ANC states and codes (12 Tables 12-8, 12-9). -/
abbrev Anc.off : Nat := 0
abbrev Anc.mounting : Nat := 1
abbrev Anc.unformatted : Nat := 2
abbrev Anc.formatting : Nat := 3
abbrev Anc.ready : Nat := 4
abbrev Anc.flushing : Nat := 5
abbrev Anc.halted : Nat := 6
abbrev Anc.fault : Nat := 7
abbrev AncCode.badConfig : Nat := 1
abbrev AncCode.unsupported : Nat := 2
abbrev AncCode.unformatted : Nat := 3
abbrev AncCode.metaLost : Nat := 4
abbrev AncCode.journalShort : Nat := 5
abbrev AncCode.repaired : Nat := 6
abbrev AncCode.corrupt : Nat := 7
abbrev AncCode.programFail : Nat := 8
abbrev AncCode.eraseFail : Nat := 9
abbrev AncCode.worn : Nat := 10
abbrev AncCode.full : Nat := 11
abbrev AncCode.notMounted : Nat := 12
abbrev AncCode.busy : Nat := 13
abbrev AncCode.badArg : Nat := 14

/-- Block states (Table 12-7). -/
abbrev Nb.free : Nat := 0
abbrev Nb.erasePending : Nat := 1
abbrev Nb.open_ : Nat := 2
abbrev Nb.full : Nat := 3
abbrev Nb.journal : Nat := 4
abbrev Nb.checkpoint : Nat := 5
abbrev Nb.super : Nat := 6
abbrev Nb.factoryBad : Nat := 7
abbrev Nb.grownBad : Nat := 8
abbrev Nb.worn : Nat := 9

/-- The ANC's state, and its part of the state under a function. -/
def State.ancState (s : State) : Nat := s.fld F.ANC_STATUS.STATE
def State.onAnc (s : State) (f : AncSt → AncSt) : State := { s with anc := f s.anc }

/-- DETAIL of the first ANC setting out of range, its offset over 4 (Table 12-11). -/
def ancCheck (f : Fld → Nat) : Option Nat :=
  let bad (x : Fld) (lo hi : Nat) : Option Nat := if lo ≤ f x ∧ f x ≤ hi then none else some (x.reg % 0x10000 / 4)
  let sum := if f F.ANC_POL0.COMMIT_MIB + f F.ANC_POL0.STAGING_MIB > 64 then some 0x20 else none
  [bad F.ANC_POL0.RECORD_BLOCKS 16 4096, bad F.ANC_POL0.COMMIT_MIB 1 48, bad F.ANC_POL0.STAGING_MIB 4 63, sum,
   bad F.ANC_POL1.COMMIT_MS 10 10000, bad F.ANC_POL1.CHECKPOINT_COMMITS 16 4096, bad F.ANC_POL2.MAX_RATE 0 4,
   bad F.ANC_POL2.PATROL_DAYS 1 90, bad F.ANC_POL2.REFRESH_BITS 8 64, bad F.ANC_POL2.RESERVE 5 100,
   bad F.ANC_POL3.RETENTION_DAYS 30 3650, bad F.ANC_POL3.WL_DELTA 32 65535, bad F.ANC_POL4.RD_LIMIT 1000 16777215].findSome? id

/-! ### Geometry and page addresses (R352) -/

def State.nluns (s : State) : Nat := s.fld F.ANC_GEOM0.LUNS + 1
def State.nblocks (s : State) : Nat := s.fld F.ANC_GEOM1.BLOCKS
def State.npages (s : State) : Nat := s.fld F.ANC_GEOM0.PAGES
def State.nmain (s : State) : Nat := if s.flag F.ANC_GEOM0.PAGE then 16384 else 8192
def State.npay (s : State) : Nat := s.nmain - 32

/-- Page address of page `p` of the block with global index `g`, and back. -/
def State.pageAddr (s : State) (g p : Nat) : Nat :=
  let per := s.nluns * s.nblocks
  g / per % 8 + 8 * (g % per / s.nblocks) + 32 * (g % s.nblocks) + 2 ^ 21 * p
def State.blockOf (s : State) (a : Nat) : Nat := (a % 8 * s.nluns + a / 8 % 4) * s.nblocks + a / 32 % 65536
def pageOf (a : Nat) : Nat := a / 2 ^ 21

/-- Targets present, and the blocks of the medium by ascending global index. -/
def State.ntargets (s : State) : List Nat := (List.range 8).filter (bitAt (s.fld F.ANC_GEOM0.TARGETS))
def State.allBlocks (s : State) : List Nat :=
  let per := s.nluns * s.nblocks
  s.ntargets.flatMap (fun t => (List.range per).map (· + t * per))
def State.totalBlocks (s : State) : Nat := s.ntargets.length * (s.nluns * s.nblocks)

/-! ### Deletes (R369, R370) -/

/-- Deletes of a list cover a record: DATA and GAP records up to their last sequence. -/
def deletes (l : List (Nat × Nat)) (r : ArcRec) : Bool := (r.type == 1 || r.type == 2) && l.any (fun d => decide (r.seq ≤ d.1))

/-- A delete joins those that wait; each reason of Table 12-6 keeps its own entry. -/
def addDelete (l : List (Nat × Nat)) (n reason : Nat) : List (Nat × Nat) :=
  l.filter (·.2 != reason) ++ [((l.filter (·.2 == reason)).foldl (fun m d => max m d.1) n, reason)]

/-! ### Block table -/

def NandBlock.blank : NandBlock := ⟨0, 0, 0, 0, 0, 0⟩
def State.nblk (s : State) (g : Nat) : NandBlock := tabGet (fun _ => NandBlock.blank) s.anc.blocks g
def State.setNblk (s : State) (g : Nat) (f : NandBlock → NandBlock) : State :=
  s.onAnc (fun a => { a with blocks := tabPut (fun _ => NandBlock.blank) a.blocks g (f (s.nblk g)) })

/-- Blocks 0 to 7 of target 0 are kept for the superblock's copies and are not filled (R358, R376; DEDUCED, log entry 70). -/
def superBlock (g : Nat) : Bool := decide (g < 8)

/-- Listed blocks in a set of states. -/
def State.blocksIn (s : State) (p : Nat → Bool) : List Nat := (s.anc.blocks.filter (fun b => p b.2.state)).map (·.1)

/-- Good blocks, and those FREE or ERASE_PENDING (R369). -/
def State.goodBlocks (s : State) : Nat := s.totalBlocks - (s.blocksIn (fun x => decide (x ≥ 7))).length
def State.freeBlocks (s : State) : Nat := s.totalBlocks - (s.blocksIn (fun x => decide (x ≥ 2))).length

/-- Blocks taken for use that no commit in force names yet. -/
def State.taken (s : State) (g : Nat) : Bool :=
  s.anc.open_.contains g || s.anc.opening.any (·.1 == g) || s.anc.ckNext.contains g || g == s.anc.jA || g == s.anc.jB
    || (match s.anc.jNext with | some (a, b) => g == a || g == b | none => false)

/-- The FREE block to fill next: lowest ERASE_COUNT, lowest index on a tie (R369); `p` narrows the choice. -/
def State.pickFree (s : State) (p : Nat → Bool) : Option Nat :=
  (s.allBlocks.filter (fun g => !superBlock g && (s.nblk g).state == Nb.free && !s.taken g && p g)).foldl
    (fun best g => match best with
      | none => some g
      | some b => if (s.nblk g).erase < (s.nblk b).erase then some g else some b) none

/-! ### Archive time (R363) -/

/-- Archive time in seconds: by the time scale while EPOCH_VALID is set, else by powered time; never back. -/
def State.arcTime (s : State) : Nat :=
  if bitAt (s.fld F.TTU_STATUS.LOCK_STATE) 3 then max s.anc.time ((s.timeNs - s.anc.formatTime) / 1000000000)
  else s.anc.time + (s.now - s.anc.timeAt) / second

/-! ### Pages (R350-R352) -/

/-- Spare bytes of a page. -/
def State.nspare (s : State) : Nat := ((s.anc.targets.head?).map (·.2.spare)).getD (s.nmain / 1024 * 126)

/-- A page as programmed: its main bytes, parities in the spare area, the rest 0xFF. -/
def State.makePage (s : State) (main : Bytes) : NandPage :=
  let m := fitBytes s.nmain main
  let par := (List.range (s.nmain / 1024)).flatMap (fun c => bchParity ((m.drop (1024 * c)).take 1024))
  ⟨m, par ++ List.replicate (s.nspare - par.length) 0xFF⟩

/-- What a page reads as on the medium, bits counted over main then spare bytes flipped. -/
def State.rawPage (s : State) (a : Nat) (flips : List Nat) : NandPage :=
  let p := match tabGet (fun _ => none) s.anc.pages a with
    | some p => p
    | none => ⟨List.replicate s.nmain 0xFF, List.replicate s.nspare 0xFF⟩
  let bs := flips.foldl (fun b i => modAt b (i / 8) (fun x => x ^^^ BitVec.ofNat 8 (2 ^ (i % 8)))) (p.main ++ p.spare)
  ⟨bs.take s.nmain, bs.drop s.nmain⟩

/-- A page read and decoded: main bytes, whether every codeword decoded, the most corrected bits, whether all of it is
erased. -/
structure PageRead where
  main : Bytes
  clean : Bool
  worst : Nat
  erased : Bool
  deriving DecidableEq, Repr

/-- Decoding of a page (R351). -/
def State.decodePage (s : State) (p : NandPage) : PageRead :=
  let cw := (List.range (s.nmain / 1024)).map (fun c =>
    let d := (p.main.drop (1024 * c)).take 1024
    let q := (p.spare.drop (126 * c)).take 126
    (readCodeword d q, decide (zeroBits (d ++ q) ≤ 8)))
  ⟨cw.flatMap (·.1.1), cw.all (·.1.2.isSome), cw.foldl (fun m x => max m (x.1.2.getD 0)) 0, cw.all (·.2)⟩
def State.readPage (s : State) (a : Nat) (flips : List Nat) : PageRead := s.decodePage (s.rawPage a flips)

/-- A page tag (Table 12-2). -/
def pageTag (kind : Nat) (first : Bool) (blockSeq off recSeq : Nat) : Bytes :=
  let b := leBytes 2 0x4C58 ++ leBytes 1 kind ++ leBytes 1 (if first then 1 else 0) ++ leBytes 8 blockSeq ++ leBytes 4 off
    ++ leBytes 8 recSeq ++ zeros 4
  b ++ leBytes 4 (crc32c b).toNat

/-- A page's tag is valid and of a kind. -/
def tagOk (kind : Nat) (main : Bytes) : Bool :=
  field main 0 2 == 0x4C58 && field main 2 1 == kind && field main 0x1C 4 == (crc32c (main.take 0x1C)).toNat

/-- A read of a page counts at its block and at CORR_MAX (R351, R373). -/
def State.countRead (s : State) (a : Nat) (worst : Nat) : State :=
  let s1 := s.setNblk (s.blockOf a) (fun b => { b with reads := satSucc 16777215 b.reads })
  if worst > s1.fld F.ANC_CORR_MAX.BITS then s1.setFld F.ANC_CORR_MAX.BITS worst else s1

/-- A page that the patrol reads enters its target's figure of the pass (R375). -/
def State.notePatrol (s : State) (a : Nat) (worst : Nat) : State :=
  s.onAnc (fun x => { x with corrected := tabPut (fun _ => 0) x.corrected (a % 8) (max worst (tabGet (fun _ => 0) x.corrected (a % 8))) })

/-! ### Records (R353, R354) -/

/-- An item: KIND, LENGTH and padded content. -/
def arcItem (kind : Nat) (content : Bytes) : Bytes :=
  leBytes 1 kind ++ zeros 3 ++ leBytes 4 content.length ++ fitBytes (8 * ((content.length + 7) / 8)) content

/-- What a record's header says besides its length and sequence. -/
structure ArcHead where
  type : Nat
  chan : Nat
  ratio : Nat
  flags : Nat
  run : Nat
  first : Nat
  last : Nat
  epoch : Nat
  serial : Nat
  lock : Nat
  member : Nat
  items : Nat
  blocks : Nat
  deriving DecidableEq, Repr

/-- A record with both check values (Tables 12-3, 12-4). -/
def sealRecord (body : Bytes) (seq : Nat) : Bytes :=
  let c := (crc32c body).toNat
  body ++ leBytes 4 c ++ leBytes 4 c ++ leBytes 4 seq ++ leBytes 4 0x444E4541
def arcRecord (seq : Nat) (h : ArcHead) (items : Bytes) : Bytes :=
  let b := leBytes 4 0x43525841 ++ leBytes 4 (80 + items.length) ++ leBytes 8 seq ++ leBytes 1 h.type ++ leBytes 1 h.chan ++ leBytes 1 h.ratio
    ++ leBytes 1 h.flags ++ leBytes 4 h.run ++ leBytes 8 (h.first % 2 ^ 48) ++ leBytes 8 (h.last % 2 ^ 48) ++ leBytes 4 h.epoch
    ++ leBytes 4 h.serial ++ leBytes 1 h.lock ++ leBytes 1 h.member ++ leBytes 2 h.items ++ leBytes 4 h.blocks ++ zeros 8
  sealRecord (b ++ items) seq

/-! ### The log -/

/-- A journal entry (Table 12-6). -/
def journalEntry (kind addr seq a0 a1 : Nat) : Bytes :=
  leBytes 1 kind ++ zeros 3 ++ leBytes 4 addr ++ leBytes 8 seq ++ leBytes 8 a0 ++ leBytes 8 a1
def State.addEntry (s : State) (e : Bytes) : State := s.onAnc (fun a => { a with entries := a.entries ++ [e] })

/-- A block is taken for a purpose: its OPEN entry waits for the next commit (R361). -/
def State.openBlock (s : State) (g purpose pair : Nat) : State :=
  let q := s.anc.blockSeq + 1
  let s1 := (s.onAnc (fun a => { a with blockSeq := q, opening := a.opening ++ [(g, purpose)] })).setNblk g (fun b => { b with seq := q })
  s1.addEntry (journalEntry 1 (s1.pageAddr g 0) q purpose pair)

/-- Where the log goes on: its next page, or none (0xFFFFFFFF) with no block open. -/
def State.logEnd (s : State) : Nat := match s.anc.open_.head? with | some g => s.pageAddr g s.anc.page | none => 0xFFFFFFFF

/-- One more data block stands open ahead of use. -/
def State.openData (s : State) : State :=
  match s.pickFree (fun _ => true) with
  | some g => (s.openBlock g 1 0).onAnc (fun a => { a with open_ := a.open_ ++ [g] })
  | none => s

/-- Payload bytes a block takes. -/
def State.blockPay (s : State) : Nat := s.npages * s.npay

/-- A block's OPEN entry is in a commit in force. -/
def State.usable (s : State) (g : Nat) : Bool :=
  !s.anc.opening.any (·.1 == g) && !(match s.anc.job with | some j => j.opens.any (·.1 == g) | none => false)

/-- A commit is requested. -/
def State.wantCommit (s : State) : State := s.onAnc (fun a => { a with wanted := true })

/-- Data blocks kept open: the one in use, 4 ahead of use, 3 that wait for their commit, and those the longest record takes (R361; DESIGN
CHOICE above the 4, log entry 198). -/
def State.openTarget (s : State) : Nat := 8 + (80 + s.fld F.ANC_POL0.RECORD_BLOCKS * 4200) / max 1 s.blockPay

/-- At least `n` data blocks stand open. Before fewer than 4 ahead of use are usable a commit is requested that holds the OPEN entries of the
rest, so that writing does not wait (R361). -/
def State.openAhead (s : State) (n : Nat) : State :=
  let s1 := (List.range n).foldl (fun a _ => if a.anc.open_.length ≥ n then a else a.openData) s
  if decide ((s1.anc.open_.takeWhile s1.usable).length < n - 2) && !s1.anc.opening.isEmpty then s1.wantCommit else s1

/-- Bytes the log takes before it needs another commit. -/
def State.logRoom (s : State) : Nat :=
  (s.anc.open_.takeWhile s.usable).length * s.blockPay - s.anc.page * s.npay - s.anc.buf.length

/-- Bytes of records programmed and in no commit in force. -/
def State.uncommitted (s : State) : Nat :=
  (s.anc.fresh.map (·.bytes.length)).sum + (match s.anc.job with | some j => (j.recs.map (·.bytes.length)).sum | none => 0)

/-- A record of so many bytes may be programmed now. Where it would pass COMMIT_MIB a commit comes first (R360); where the log has no room,
blocks are opened ahead and a commit is requested (R361). -/
def State.makeRoom (s : State) (n : Nat) : Bool × State :=
  if 0 < s.uncommitted ∧ s.fld F.ANC_POL0.COMMIT_MIB * 2 ^ 20 < s.uncommitted + n then
    (false, if s.anc.fresh.isEmpty then s else s.wantCommit)
  else if n ≤ s.logRoom then (true, s)
  else
    let s1 := s.openAhead (max s.openTarget (n / max 1 s.blockPay + 2))
    (false, if s1.anc.opening.isEmpty then s1 else s1.wantCommit)

/-- The page in progress is programmed, its end 0 where a commit closes it (R352, log entry 51); a block's last page closes
it, and another is opened ahead. -/
def State.emitPage (s : State) : State :=
  match s.anc.open_ with
  | [] => s
  | g :: rest =>
    let a := s.anc
    let off := (a.bufFirst.map (·.1)).getD 0
    let main := pageTag 1 a.bufFirst.isSome (s.nblk g).seq off ((a.bufFirst.map (·.2)).getD a.bufSeq) ++ fitBytes s.npay a.buf
    let s1 := s.onAnc (fun a => { a with
      ops := a.ops ++ [⟨.data, s.pageAddr g a.page, main⟩], buf := [], bufFirst := none, page := a.page + 1 })
    if s1.anc.page < s.npages then s1
    else ((s1.onAnc (fun a => { a with open_ := rest, page := 0 })).setNblk g (fun b => { b with state := Nb.full })).openAhead s1.openTarget

/-- Bytes run into the log; `k` bounds the pages they take. -/
def State.putBytes (seq : Nat) : Nat → Bytes → State → State
  | 0, _, s => s
  | k + 1, bs, s =>
    if bs.isEmpty then s
    else
      let room := s.npay - s.anc.buf.length
      let s1 := s.onAnc (fun a => { a with buf := a.buf ++ bs.take room, bufSeq := seq })
      State.putBytes seq k (bs.drop room) (if s1.anc.buf.length ≥ s.npay then s1.emitPage else s1)

/-- A record goes to the log. -/
def State.logRecord (s : State) (r : ArcRec) (bytes : Bytes) (old : Option Nat) : State :=
  match s.anc.open_ with
  | [] => s
  | g :: _ =>
    let a := s.anc
    let x : ArcRec := { r with page := s.pageAddr g a.page, off := a.buf.length, len := bytes.length }
    let s1 := s.onAnc (fun a => { a with
      fresh := a.fresh ++ [⟨x, bytes, old⟩], firstAt := some (a.firstAt.getD s.now)
      bufFirst := some (a.bufFirst.getD (a.buf.length, r.seq)) })
    let s2 := s1.setNblk g (fun b => { b with first := if b.first = 0 then r.seq else min b.first r.seq })
    s2.putBytes r.seq (bytes.length + 1) bytes

/-- A new record takes the next sequence and goes to the log. -/
def State.newRecord (s : State) (h : ArcHead) (items : Bytes) : State :=
  let q := s.anc.nextSeq
  let s1 := s.onAnc (fun a => { a with nextSeq := q + 1 })
  s1.logRecord ⟨q, 0, 0, 0, h.type, h.chan, h.run, h.first, h.last⟩ (arcRecord q h items) none

/-- Header values of the current frame (R357). -/
def State.arcHead (s : State) (type chan : Nat) : ArcHead :=
  { type := type, chan := chan, ratio := 0xFF, flags := 0, run := s.run, first := s.frame, last := s.frame
    epoch := (s.reg R.ALM_EPOCH).toNat, serial := imgSerial s.sil.active, lock := s.lockByte s.ttu.stepped
    member := s.fld F.CSP_STATUS.INDEX, items := 1, blocks := 0 }

/-- The oldest present record's sequence (R368, Table 12-11): the next committed one where none is present. -/
def State.oldestSeq (s : State) : Nat :=
  (s.anc.recs.foldl (fun m r => some (match m with | some q => min q r.seq | none => r.seq)) none).getD (s.anc.commitSeq + 1)

/-! ### Gap records (R356) -/

/-- Archived channels of the ACTIVE image. -/
def State.archived (s : State) : List Nat := (imgArchived s.sil.active).map (·.1)

/-- A GAP record of a channel (Table 12-5). -/
def State.gapRecord (s : State) (c : Nat) (g : GapNote) : State :=
  let item := leBytes 1 g.cause ++ leBytes 1 c ++ leBytes 2 g.block ++ leBytes 4 g.firstRun ++ leBytes 8 (g.first % 2 ^ 48) ++ leBytes 4 g.endRun
    ++ zeros 4 ++ leBytes 8 (g.end_ % 2 ^ 48)
  let h := s.arcHead 2 c
  s.newRecord { h with run := g.firstRun, first := g.first, last := g.end_ - 1, epoch := g.head.epoch, serial := g.head.serial, lock := g.head.lock }
    (arcItem 4 item)

/-- A gap concerns a channel. The virtual frames that open a run are covered, for a channel with data of an earlier run, by its cross-run gap
(01 R37, R62, R356). -/
def State.gapFor (s : State) (g : GapNote) (c : Nat) : Bool :=
  if g.chan ≠ 32 then c == g.chan
  else g.first != 0 || !s.anc.recs.any (fun r => r.type == 1 && r.chan == c && r.run != g.firstRun)

/-- The gaps that wait are recorded while the log has room. -/
def State.writeGaps : List GapNote → State → State
  | [], s => s
  | g :: rest, s =>
    let chans := s.archived.filter (s.gapFor g)
    let r := s.makeRoom (chans.length * 120)
    if !r.1 then { r.2 with gaps := g :: rest } else State.writeGaps rest (chans.foldl (fun a c => a.gapRecord c g) { s with gaps := [] })

/-- The archive takes new records: it is READY and PWRFAIL_N has not stopped it (R379 step 1). -/
def State.ancTakes (s : State) : Bool := s.ancState == Anc.ready && !s.anc.halting

/-- Recording of gaps by an archive that takes records. -/
def State.arcGaps (s : State) : State :=
  if s.ancTakes && !s.gaps.isEmpty then State.writeGaps s.gaps s else s

/-! ### Data records (R354, R355) -/

/-- Items of a record as they are formed: headers known, FRAME items written with their headers, bytes and count. -/
structure ItemRun where
  known : List (Nat × Bytes)
  frames : List (Nat × Bytes)
  bytes : Bytes
  count : Nat
  deriving DecidableEq, Repr

/-- A frame's FRAME item precedes the first item of its data (R354). -/
def ItemRun.frame (x : ItemRun) (f : Nat) : ItemRun :=
  if x.frames.any (·.1 == f) then x
  else match x.known.find? (·.1 == f) with
    | some (_, h) => { x with frames := x.frames ++ [(f, h)], bytes := x.bytes ++ arcItem 1 h, count := x.count + 1 }
    | none => x

/-- A staged item as read for a record: a block's bytes end with its tag. -/
inductive RingItem where
  | header (frame : Nat) (bytes : Bytes)
  | desc (frame : Nat) (bytes : Bytes)
  | block (frame : Nat) (tag bytes : Bytes)
  deriving DecidableEq, Repr

/-- Staged items are read, blocks and tags from the ring in DRAM in class 3 (10 R313); none where a read stops. -/
def State.readItems : List Staged → State → State × Option (List RingItem)
  | [], s => (s, some [])
  | x :: rest, s =>
    let one : State × Option RingItem := match x with
      | .header f b => (s, some (.header f b))
      | .desc f b => (s, some (.desc f b))
      | .block f sp _ =>
        let r := State.readSpans (fixedPath .anc) 3 sp s
        (r.1, r.2.map (fun d => .block f (d.drop (d.length - 24)) (d.take (d.length - 24))))
    match one.2 with
    | none => (one.1, none)
    | some i =>
      let r2 := State.readItems rest one.1
      (r2.1, r2.2.map (i :: ·))

/-- An item enters a record. -/
def ItemRun.add (x : ItemRun) : RingItem → ItemRun
  | .header f b => { x with known := (f, b) :: x.known }
  | .desc f b => let y := x.frame f; { y with bytes := y.bytes ++ arcItem 2 b, count := y.count + 1 }
  | .block f t b => let y := x.frame f; { y with bytes := y.bytes ++ arcItem 3 (t ++ b), count := y.count + 1 }

/-- Staged items with a position where they are blocks: (position, HIST_RESET). -/
def blockMarks : Nat → List Staged → List (Nat × Bool)
  | _, [] => []
  | i, .block _ _ r :: rest => (i, r) :: blockMarks (i + 1) rest
  | i, _ :: rest => blockMarks (i + 1) rest

/-- How many staged items the next record takes; none while its end is not staged. -/
def recordEnd (limit : Nat) (closing : Bool) (l : List Staged) : Option Nat :=
  match blockMarks 0 l with
  | [] => none
  | b :: bs =>
    let mine := b :: (bs.takeWhile (fun x => !x.2)).take (limit - 1)
    if mine.length ≥ limit ∨ mine.length < bs.length + 1 ∨ closing then (mine.getLast?).map (·.1 + 1) else none

/-- FLAGS of a record (Table 12-3). -/
def recordFlags (items : List RingItem) (frames : List (Nat × Bytes)) : Nat :=
  let tags := items.foldl (fun a x => match x with | .block _ t _ => a ||| field t 0 1 % 32 | _ => a) 0
  let der := frames.any (fun f => bitAt (field f.2 0x1B 1) 0)
  let locks := frames.map (fun f => field f.2 0x1A 1)
  tags ||| (if der then 32 else 0) ||| (if locks.any (· != locks.headD 0) then 64 else 0)

/-- Frames of which a channel has data staged. -/
def State.stagedFrames (s : State) (c : Nat) : List Nat :=
  (s.tch c).staged.filterMap (fun x => match x with | .header _ _ => none | .desc f _ => some f | .block f _ _ => some f)

/-- Headers of a channel are kept in mind: the newest, and those of frames of which data are still to come (R354). -/
def State.keepHeaders (s : State) (c : Nat) (known : List (Nat × Bytes)) : State :=
  let need := s.stagedFrames c ++ s.tceFrames c
  let keep := known.take 1 ++ (known.drop 1).filter (fun h => need.contains h.1)
  s.onAnc (fun a => { a with headers := keep.map (fun h => (c, h)) ++ a.headers.filter (·.1 != c) })

/-- Headers a channel has in mind, newest first. -/
def State.knownHeaders (s : State) (c : Nat) : List (Nat × Bytes) := (s.anc.headers.filter (fun x => x.1 == c)).map (fun x => x.2)

/-- The items of a channel's record form a DATA record: its head, its items, and the headers then known. -/
def State.dataRecord (s : State) (c : Nat) (items : List RingItem) : ArcHead × Bytes × List (Nat × Bytes) :=
  let x := items.foldl ItemRun.add ⟨s.knownHeaders c, [], [], 0⟩
  let h := ((x.frames.head?).map (·.2)).getD []
  let nums := x.frames.map (·.1)
  let blocks := items.filter (fun i => match i with | .block .. => true | _ => false)
  ({ type := 1, chan := c, ratio := s.ruleFld (nums.headD 0) c (F.TCE_CHc_CFG.RATIO c), flags := recordFlags items x.frames, run := field h 4 4
     first := nums.foldl min (nums.headD 0), last := nums.foldl max 0, epoch := field h 0x24 4, serial := field h 0x20 4
     lock := field h 0x1A 1, member := field h 0x38 1, items := x.count, blocks := blocks.length }, x.bytes, x.known)

/-- Staged items leave a channel's ring. -/
def State.dropStaged (s : State) (c n : Nat) : State := s.setTch c { s.tch c with staged := (s.tch c).staged.drop n }

end Sys2Proof.Machine
end

