-- ==== Sys2Proof/Machine/AncLog.lean ====
section
/-! DEFINITION. The archive's reading of records, moves, journal, commits, checkpoints and superblock (12 R357-R375). -/

namespace Sys2Proof.Machine

/-! ### Reading records (R367) -/

/-- A failed block holds data: its first page is programmed and carries the tag of record data. -/
def State.holdsData (s : State) (g : Nat) : Bool := tagOk 1 (s.rawPage (s.pageAddr g 0) []).main

/-- Data blocks, failed ones with what was programmed in them included, and the one that follows a block in the log. -/
def State.dataBlocks (s : State) : List Nat :=
  s.blocksIn (fun x => x == 2 || x == 3) ++ (s.blocksIn (· == Nb.grownBad)).filter s.holdsData ++ s.anc.open_
def State.nextData (s : State) (g : Nat) : Option Nat :=
  let q := (s.nblk g).seq
  (s.dataBlocks.filter (fun b => decide (q < (s.nblk b).seq))).foldl (fun best b => match best with
    | none => some b
    | some c => if (s.nblk b).seq < (s.nblk c).seq then some b else some c) none

/-- The page that follows a page in the log. -/
def State.nextPage (s : State) (a : Nat) : Option Nat :=
  if pageOf a + 1 < s.npages then some (a + 2 ^ 21) else (s.nextData (s.blockOf a)).map (fun h => s.pageAddr h 0)

/-- `n` log pages from a page on. -/
def State.logPages (s : State) : Nat → Nat → List Nat
  | 0, _ => []
  | n + 1, a => a :: State.logPages s n ((s.nextPage a).getD a)

/-- Pages and blocks a record lies in. -/
def State.recPages (s : State) (r : ArcRec) : List Nat := s.logPages ((r.off + r.len + s.npay - 1) / max 1 s.npay) r.page
def State.recBlocks (s : State) (r : ArcRec) : List Nat := ((s.recPages r).map s.blockOf).eraseDups

/-- Pages read: their payload bytes, each with its most corrected bits, and the pages with an uncorrectable codeword. -/
structure PagesRead where
  bytes : Bytes
  pages : List (Nat × Nat)
  bad : List Nat
  deriving DecidableEq, Repr

/-- Pages are read with some bits flipped (page, bit). -/
def State.readPages (s : State) (pages : List Nat) (flips : List (Nat × Nat)) : PagesRead :=
  pages.foldl (fun acc a =>
    let p := s.readPage a ((flips.filter (·.1 == a)).map (·.2))
    ⟨acc.bytes ++ p.main.drop 32, acc.pages ++ [(a, p.worst)], if p.clean then acc.bad else acc.bad ++ [a]⟩) ⟨[], [], []⟩

/-- Status of a record read: 0 OK, 6 CHECK_REPAIRED or 7 CORRUPT with DETAIL, and its bytes; the pages read, and those that failed. -/
structure RecRead where
  status : Nat
  detail : Nat
  bytes : Bytes
  pages : List (Nat × Nat)
  bad : List Nat
  deriving DecidableEq, Repr

/-- The attempts of R367: each with the bits that read wrong in it; `last` and `clean` come from the attempts before. -/
def State.readTry (s : State) (r : ArcRec) : List (List (Nat × Nat)) → Bool → RecRead → RecRead
  | [], clean, x =>
    let b := x.bytes
    let a := field b (b.length - 16) 4
    let c := field b (b.length - 12) 4
    if !clean then { x with status := AncCode.corrupt, detail := 2 }
    else if a ≠ c then { x with status := AncCode.repaired, detail := 0 }
    else { x with status := AncCode.corrupt, detail := 3 }
  | f :: rest, clean, x =>
    let p := s.readPages (s.recPages r) f
    let b := (p.bytes.drop r.off).take r.len
    let y : RecRead := { x with bytes := b, pages := x.pages ++ p.pages, bad := x.bad ++ p.bad }
    if !p.bad.isEmpty then State.readTry s r rest false y
    else if field b 0 4 ≠ 0x43525841 ∨ field b 4 4 ≠ r.len ∨ field b (r.len - 8) 4 ≠ r.seq % 2 ^ 32 ∨ field b (r.len - 4) 4 ≠ 0x444E4541 then
      { y with status := AncCode.corrupt, detail := 1 }
    else
      let c := (crc32c (b.take (r.len - 16))).toNat
      if c = field b (r.len - 16) 4 ∧ c = field b (r.len - 12) 4 then { y with status := 0, detail := 0 }
      else State.readTry s r rest clean y

/-- A record read in up to four attempts. -/
def State.readRecord (s : State) (r : ArcRec) (flips : List (List (Nat × Nat))) : RecRead :=
  s.readTry r ((List.range 4).map (fun i => flips[i]?.getD [])) true ⟨0, 0, [], [], []⟩

/-- What a record's header says of its span. -/
def State.recHeadSpan (s : State) (r : ArcRec) : SpanHead :=
  let h := ((s.readPages (s.recPages r) []).bytes.drop r.off).take 64
  ⟨field h 0x28 4, field h 0x2C 4, field h 0x30 1⟩

/-- A block's records are to be moved. -/
def State.clearBlock (s : State) (g : Nat) : State :=
  if s.anc.moving.contains g then s else s.onAnc (fun a => { a with moving := a.moving ++ [g] })

/-- A FULL block with an uncorrectable codeword on read is moved (21 Table 21-5). -/
def State.clearBad (s : State) (pages : List Nat) : State :=
  ((pages.map s.blockOf).eraseDups.filter (fun g => (s.nblk g).state == Nb.full)).foldl State.clearBlock s

/-- A block whose reads reach RD_LIMIT is cleared; a journal or checkpoint block is retired by a fresh checkpoint, and for the journal pair in
use by one that goes on in a new pair (R373, R374). -/
def State.retireBlock (s : State) (g : Nat) : State :=
  let st := (s.nblk g).state
  if st = Nb.full then s.clearBlock g
  else if st = Nb.journal ∧ (g = s.anc.jA ∨ g = s.anc.jB) then s.onAnc (fun a => { a with retire := true })
  else if (st = Nb.journal ∨ st = Nb.checkpoint) ∧ s.anc.ckPhase = 0 then s.onAnc (fun a => { a with ckPhase := 1 })
  else s
def State.checkReads (s : State) (gs : List Nat) : State :=
  gs.eraseDups.foldl (fun a g => if (a.nblk g).reads ≥ a.fld F.ANC_POL4.RD_LIMIT then a.retireBlock g else a) s

/-- Pages have been read, some with an uncorrectable codeword: they count at their blocks, which are cleared or retired where that is due
(R373, 21 Table 21-5). -/
def State.notePages (s : State) (pages : List (Nat × Nat)) (bad : List Nat) : State :=
  ((pages.foldl (fun a p => a.countRead p.1 p.2) s).clearBad bad).checkReads (pages.map (fun p => s.blockOf p.1))

/-- A code of the archive about a record: its status shows it, and its error-log entry holds the low bits of the record sequence in place of a bin
index, which the ANC has none of (R367, 01 R56; DESIGN CHOICE, log entry 198). -/
def State.postRecord (s : State) (code detail seq : Nat) : State :=
  (s.show .anc code detail).logFor (fixedPath .anc) code s.frame (seq % 2 ^ 18)

/-- The effects of a read: page counts, failed blocks to be moved, and for a repaired or corrupt record its count, log entry, interrupt and
history entry (R367). -/
def State.noteRead (s : State) (r : ArcRec) (x : RecRead) : State :=
  let s1 := s.notePages x.pages x.bad
  let tell (a : State) : State := a.almEvent Hist.recordStatus Unit.anc.top x.status (leBytes 8 r.seq ++ leBytes 1 x.status)
  if x.status = AncCode.repaired then
    tell (((s1.count F.ANC_REPAIRED.COUNT 1).postRecord AncCode.repaired 0 r.seq).raise .anc F.ANC_IRQ_STATUS.CHECK_REPAIRED)
  else if x.status = AncCode.corrupt then
    tell (((s1.count F.ANC_CORRUPT.COUNT 1).postRecord AncCode.corrupt x.detail r.seq).raise .anc F.ANC_IRQ_STATUS.CORRUPT)
  else s1

/-! ### Moves (R371-R375) -/

/-- A record's copy for a move: MOVED set and both check values written anew where it read OK, else as it stands. -/
def movedBytes (x : RecRead) : Bytes :=
  if x.status = 0 then
    sealRecord (modAt (x.bytes.take (x.bytes.length - 16)) 0x13 (· ||| 0x80)) (field x.bytes (x.bytes.length - 8) 4)
  else x.bytes

/-- A record moves to the end of the log. -/
def State.moveRecord (s : State) (r : ArcRec) : State :=
  let x := s.readRecord r []
  let s1 := (s.noteRead r x).count F.ANC_MOVED.COUNT 1
  s1.logRecord r (movedBytes x) (some r.page)

/-- A record that a delete asked for takes away (R369, R370). -/
def State.goingRecord (s : State) (r : ArcRec) : Bool :=
  deletes s.anc.deleted r || (match s.anc.job with | some j => deletes j.deleted r | none => false)

/-- A record has been copied and its move is not in force yet. -/
def State.onMove (s : State) (q : Nat) : Bool :=
  s.anc.fresh.any (·.record.seq == q) || (match s.anc.job with | some j => j.recs.any (·.record.seq == q) | none => false)

/-- Committed records of a block that are to stay and are not being moved already. -/
def State.blockRecords (s : State) (g : Nat) : List ArcRec :=
  s.anc.recs.filter (fun r => (s.recBlocks r).contains g && !s.goingRecord r && !s.onMove r.seq)

/-- Records move one after another as far as each may be programmed; whether all have. -/
def State.moveRecords : List ArcRec → State → Bool × State
  | [], s => (true, s)
  | r :: rest, s =>
    let m := s.makeRoom r.len
    if m.1 then State.moveRecords rest (s.moveRecord r) else (false, m.2)

/-- The blocks that wait to be cleared lose their records as far as these may be programmed. -/
def State.runMoves : List Nat → State → State
  | [], s => s
  | g :: rest, s =>
    let m := State.moveRecords (s.blockRecords g) s
    if m.1 then State.runMoves rest (m.2.onAnc (fun a => { a with moving := a.moving.filter (· != g) })) else m.2

/-- A block fails: GROWN_BAD, its BAD entry, the interrupt (R372). -/
def State.growBad (s : State) (g code cause : Nat) : State :=
  ((((s.setNblk g (fun b => { b with state := Nb.grownBad })).addEntry (journalEntry 4 (s.pageAddr g 0) 0 cause 0)).post .anc code 0).raise
    .anc F.ANC_IRQ_STATUS.GROWN_BAD)

/-! ### Checkpoints and superblock (R362, R363) -/

/-- Bytes of a checkpoint: 64-byte header, an entry per block, CRC-32C (DESIGN CHOICE, log entry 71: the header's order, the place
where the log goes on after the archive time, and its last 8 bytes, the sequence after the last deleted one). -/
def State.checkpointBytes (s : State) : Bytes :=
  let a := s.anc
  let h := leBytes 4 0x4B435841 ++ leBytes 8 a.commit ++ leBytes 8 (a.commitSeq + 1) ++ leBytes 8 s.oldestSeq ++ leBytes 4 a.time ++ leBytes 4 a.endPage
    ++ leBytes 4 (s.fld F.ANC_PATROL.NEXT) ++ leBytes 4 a.passStart ++ leBytes 4 (s.pageAddr a.jA a.jPage) ++ leBytes 4 (s.pageAddr a.jB a.jPage)
    ++ leBytes 4 s.totalBlocks ++ leBytes 8 a.oldest
  let entry (g : Nat) : Bytes :=
    let b := s.nblk g
    leBytes 1 b.state ++ zeros 3 ++ leBytes 4 b.erase ++ leBytes 4 b.reads ++ leBytes 4 b.time ++ leBytes 8 b.first
  let body := h ++ s.allBlocks.flatMap entry
  body ++ leBytes 4 (crc32c body).toNat

/-- Blocks a checkpoint takes. -/
def State.checkpointBlocks (s : State) : Nat :=
  let n := 64 + 24 * s.totalBlocks + 4
  (n + s.blockPay - 1) / max 1 s.blockPay

/-- Pages of a byte string in a row of blocks, of a kind of tag. -/
def State.pageOps (s : State) (kind : NandKind) (tag : Nat) (blocks : List Nat) (bs : Bytes) : List NandOp :=
  (List.range ((bs.length + s.npay - 1) / max 1 s.npay)).map (fun i =>
    let g := blocks[i / max 1 s.npages]?.getD 0
    ⟨kind, s.pageAddr g (i % max 1 s.npages), pageTag tag false (s.nblk g).seq 0 0 ++ fitBytes s.npay ((bs.drop (i * s.npay)).take s.npay)⟩)

/-- Blocks for the next checkpoint are taken ahead of use. -/
def State.takeCheckpoint (s : State) : State :=
  (List.range s.checkpointBlocks).foldl (fun a _ => match a.pickFree (fun _ => true) with
    | some g => (a.openBlock g 3 0).onAnc (fun x => { x with ckNext := x.ckNext ++ [g] })
    | none => a) s

/-- The superblock's fields with their CRC. -/
def State.superBytes (s : State) : Bytes :=
  let a := s.anc
  let b := fitBytes 0x7C (leBytes 4 0x42535841 ++ leBytes 4 1 ++ leBytes 8 a.generation ++ leBytes 8 a.formatTime
    ++ leBytes 16 s.otp.dieId.toNat ++ leBytes 4 a.ckPage ++ leBytes 4 a.ckPrevPage ++ leBytes 4 (s.reg R.ANC_GEOM0).toNat
    ++ leBytes 4 (s.reg R.ANC_GEOM1).toNat)
  b ++ leBytes 4 (crc32c b).toNat

/-- Operations that write one copy of the superblock: its block is erased first where it is full. -/
def State.superOps (s : State) (g page : Nat) : List NandOp :=
  let main := pageTag 4 false 0 0 0 ++ fitBytes s.npay s.superBytes
  if page < s.npages then [⟨.super, s.pageAddr g page, main⟩] else [⟨.erase, s.pageAddr g 0, []⟩, ⟨.super, s.pageAddr g 0, main⟩]

/-- The superblock is updated, copy A and then copy B (R363). -/
def State.writeSuper (s : State) : State :=
  let s1 := s.onAnc (fun a => { a with generation := a.generation + 1 })
  let a := s1.anc
  let next (p : Nat) : Nat := if p < s.npages then p + 1 else 1
  s1.onAnc (fun x => { x with ops := x.ops ++ s1.superOps a.sbA a.sbPageA ++ s1.superOps a.sbB a.sbPageB
                              sbPageA := next a.sbPageA, sbPageB := next a.sbPageB })

/-- The figures of a target that a checkpoint passes to the ALM (R375). -/
def State.nandReport (s : State) (t : Nat) : NandReport :=
  let bs := (s.anc.blocks.filter (fun b => b.1 / max 1 (s.nluns * s.nblocks) == t)).map (·.2)
  ⟨t, (bs.map (·.erase)).foldl max 0, (bs.map (·.erase)).foldl (· + ·) 0 / max 1 (s.nluns * s.nblocks),
    (bs.filter (fun b => b.state == Nb.grownBad || b.state == Nb.worn)).length, s.anc.lastPass.map (fun l => tabGet (fun _ => 0) l t)⟩

/-- The checkpoint just written is the latest: older ones and the journal before the previous one can be erased. The ALM learns the
figures of every target (R375). -/
def State.rotate (s : State) (blocks : List Nat) : State :=
  ({ s with alm := { s.alm with nand := s.ntargets.map s.nandReport } }.onAnc (fun a => { a with
    erasable := a.erasable ++ a.ckPrev ++ a.jPrev, ckPrev := a.ckBlocks, ckBlocks := blocks, ckPrevPage := a.ckPage
    ckPage := s.pageAddr (blocks.headD 0) 0, jPrev := a.jDone, jDone := [], ckSince := 0, ckPhase := 0 }))

/-! ### Commits (R359-R361) -/

/-- Records present once what waits is committed. -/
def State.afterCommit (s : State) : List ArcRec :=
  let a := s.anc
  (a.recs.filter (fun r => !deletes a.deleted r && !a.fresh.any (·.record.seq == r.seq))) ++ (a.fresh.map (·.record)).filter (fun r => !deletes a.deleted r)

/-- Blocks that hold no present record once this commit is in force: FULL ones, and retired journal and checkpoint
blocks. -/
def State.deadBlocks (s : State) : List Nat :=
  let held := s.afterCommit.flatMap s.recBlocks
  (s.blocksIn (· == Nb.full)).filter (fun g => !superBlock g && !held.contains g && !s.taken g)
    ++ s.anc.erasable.filter (fun g => decide ((s.nblk g).state < 7))

/-- The channel of a block's target (R346). -/
def State.chanOf (s : State) (g : Nat) : Nat := g / max 1 (s.nluns * s.nblocks) / 4

/-- The pair of journal blocks to take next: on different channels where both channels have targets, else any two (R358). -/
def State.pickPair (s : State) : Option (Nat × Nat) :=
  let both := s.ntargets.any (· < 4) && s.ntargets.any (4 ≤ ·)
  let mate (g h : Nat) : Bool := h != g && (!both || s.chanOf h != s.chanOf g)
  match s.pickFree (fun g => (s.pickFree (mate g)).isSome) with
  | none => none
  | some a => (s.pickFree (mate a)).map (fun b => (a, b))

/-- Entries cut into journal pages, the rest of each page 0xFF. -/
def journalPages (cap : Nat) : Nat → List Bytes → List Bytes
  | 0, _ => []
  | n + 1, es => if es.isEmpty then [] else ((es.take cap).flatten) :: journalPages cap n (es.drop cap)

/-- Operations that write journal pages to both copies from a page on; past the end they run on in the next pair. -/
def State.journalOps (s : State) (pages : List Bytes) : List NandOp :=
  let a := s.anc
  let one (g : Nat) (p : Nat) (b : Bytes) : NandOp :=
    ⟨.journal, s.pageAddr g p, pageTag 2 false (s.nblk g).seq 0 0 ++ b ++ List.replicate (s.npay - b.length) 0xFF⟩
  (List.range pages.length).flatMap (fun i =>
    let p := a.jPage + i
    let b := pages[i]?.getD []
    if p < s.npages then [one a.jA p b, one a.jB p b]
    else match a.jNext with
      | some (x, y) => [one x (p - s.npages) b, one y (p - s.npages) b]
      | none => [])

/-- The next journal pair is taken where the present one nears its end. -/
def State.extendJournal (s : State) : State :=
  if s.anc.jNext.isSome ∨ s.anc.jPage + 4 < s.npages then s
  else match s.pickPair with
    | some (a, b) => ((s.openBlock a 2 b).openBlock b 2 a).onAnc (fun x => { x with jNext := some (a, b) })
    | none => s

/-- A commit is formed: its entries and the COMMIT entry go to both copies of the journal (R359 steps 2, 3); while the
journal has no room for them and no pair of FREE blocks is left, the commit waits. -/
def State.formCommit (s : State) : State :=
  let s0 := s.extendJournal
  let a := s0.anc
  let dead := s0.deadBlocks
  let cycles := s0.fld F.ANC_ENDURANCE.CYCLES
  let worn := dead.filter (fun g => decide (0 < cycles ∧ cycles ≤ (s0.nblk g).erase + 1))
  let erases := dead.filter (fun g => !worn.contains g)
  let rec_ (f : FreshRec) : Bytes :=
    let r := f.record
    match f.old with
    | none => journalEntry 2 r.page r.seq (r.len + 2 ^ 32 * r.type + 2 ^ 40 * r.chan) (r.last % 2 ^ 48)
    | some o => journalEntry 5 r.page r.seq o 0
  let es := a.entries ++ a.deleted.map (fun d => journalEntry 6 0 d.1 d.2 0) ++ a.fresh.map rec_ ++ erases.map (fun g => journalEntry 3 (s0.pageAddr g 0) 0 (min 16777215 ((s0.nblk g).erase + 1)) 0)
    ++ worn.map (fun g => journalEntry 4 (s0.pageAddr g 0) 0 3 0)
  let last := (a.fresh.filter (·.old.isNone)).foldl (fun m f => max m f.record.seq) a.commitSeq
  let time := s0.arcTime
  let c := journalEntry 15 0 (a.commit + 1) last ((crc32c es.flatten).toNat + 2 ^ 32 * time)
  let pages := journalPages (s0.npay / 32) (es.length + 1) (es ++ [c])
  let job : ArcCommit := { number := a.commit + 1, recs := a.fresh, last := last, opens := a.opening, erases := erases, worn := worn
                           deleted := a.deleted, time := time, pages := pages, waits := a.waits, end_ := s0.logEnd, ck := a.ckPhase == 3 }
  if a.jNext.isNone && decide (s0.npages < a.jPage + pages.length) then s0
  else s0.onAnc (fun x => { x with
    job := some job, wanted := false, passed := false, fresh := [], entries := [], opening := [], deleted := [], waits := []
    erasable := [], firstAt := none, ops := x.ops ++ s0.journalOps pages })

/-- A requested commit starts once the pages of its records have passed (R359 step 1); a stalled ANC starts none (R378). -/
def State.beginCommit (s : State) : State :=
  let st := s.ancState
  if !s.anc.wanted || s.anc.job.isSome || !(st == Anc.ready || st == Anc.flushing || st == Anc.mounting) then s
  else
    let s1 := if s.anc.buf.isEmpty || s.anc.halting then s else s.emitPage
    if s1.anc.ops.any (·.kind == .data) then s1 else s1.formCommit

/-! ### Checkpoints under way (R359, R362) -/

/-- A FREE block is used at once, without an OPEN entry (R359 steps 1, 2). -/
def State.seize (s : State) (g st : Nat) : State :=
  let q := s.anc.blockSeq + 1
  (s.onAnc (fun a => { a with blockSeq := q })).setNblk g (fun b => { b with state := st, seq := q })

/-- Blocks for a checkpoint that cannot wait for a commit. -/
def State.seizeCheckpoint (s : State) : List Nat × State :=
  (List.range s.checkpointBlocks).foldl (fun (r : List Nat × State) _ => match r.2.pickFree (fun g => !r.1.contains g) with
    | some g => (r.1 ++ [g], r.2.seize g Nb.checkpoint)
    | none => r) ([], s)

/-- A new journal pair named by a fresh checkpoint and the superblock (R359 steps 1 to 3); a checkpoint under way gives way to it. -/
def State.newPair (s : State) : State :=
  match s.pickPair with
  | none => s
  | some (x, y) =>
    let s1 := (s.seize x Nb.journal).seize y Nb.journal
    let ahead (a : AncSt) : List Nat := match a.jNext with | some (u, v) => [u, v] | none => []
    let s2 := s1.onAnc (fun a =>
      let stale := if a.ckPhase ≥ 2 then a.ckNext else []
      { a with
        jDone := a.jDone ++ [a.jA, a.jB] ++ ahead a, jA := x, jB := y, jPage := 0, jNext := none, retire := false
        ckNext := if a.ckPhase ≥ 2 then [] else a.ckNext, erasable := a.erasable ++ stale
        ops := a.ops.filter (fun o => !(o.kind == .checkpoint && a.ckPhase == 2)), job := a.job.map (fun j => { j with ck := false }) })
    let r := if s2.anc.ckPhase ≤ 1 && !s2.anc.ckNext.isEmpty && s2.anc.ckNext.all s2.usable then
        (s2.anc.ckNext, s2.onAnc (fun a => { a with ckNext := [] }))
      else s2.seizeCheckpoint
    let ops := r.2.pageOps .checkpoint 3 r.1 r.2.checkpointBytes
    ((r.2.onAnc (fun a => { a with ops := a.ops ++ ops })).rotate r.1).writeSuper

/-- The next journal pair is named again after the place at which a checkpoint continues the journal, so that a replay from there meets its OPEN
entries (R364; DESIGN CHOICE, log entry 198). -/
def State.nameNext (s : State) : State :=
  match s.anc.jNext with
  | some (a, b) =>
    if s.anc.opening.any (·.1 == a) then s
    else (s.addEntry (journalEntry 1 (s.pageAddr a 0) (s.nblk a).seq 2 b)).addEntry (journalEntry 1 (s.pageAddr b 0) (s.nblk b).seq 2 a)
  | none => s

/-- A wanted checkpoint is written once its blocks are in use and no commit is in progress (R362 step 1); the journal pair in use is
retired by one that goes on in a new pair. -/
def State.startCheckpoint (s : State) : State :=
  let a := s.anc
  if a.retire ∧ a.ckPhase = 0 ∧ a.job.isNone ∧ a.ops.isEmpty then s.newPair
  else if a.ckPhase ≠ 1 ∨ a.job.isSome then s
  else if a.ckNext.isEmpty then s.takeCheckpoint.wantCommit
  else if !a.ckNext.all s.usable then s.wantCommit
  else (s.onAnc (fun x => { x with ckPhase := 2, ckCommit := x.commit, ops := x.ops ++ s.pageOps .checkpoint 3 a.ckNext s.checkpointBytes })).nameNext

/-- AXOLOTL's votes of the ANC (R377; DEDUCED, log entry 102: with a policy in force and the ANC OFF it votes RUN, so that it can mount). -/
def State.ancVote (s : State) : State :=
  let a := s.anc
  let st := s.ancState
  let policy := imgHas s.sil.active Sec.archivePolicy
  let busy := st == Anc.mounting || st == Anc.formatting || st == Anc.flushing || (st == Anc.off && policy)
    || s.tce.chans.any (fun x => !x.2.staged.isEmpty) || a.firstAt.isSome || a.job.isSome || !a.ops.isEmpty || !a.moving.isEmpty
    || s.flag F.ANC_PATROL.BEHIND
  s.voteAll (.unit .anc) [9, 10] (if st == Anc.off && !policy then 3 else if busy then 0 else 1)

/-- What the ANC does of its own accord after an event: gap records, moves, a checkpoint, a commit, its votes. -/
def State.ancStep (s : State) : State :=
  if s.dmcState = Dmc.frozen then s
  else
    let s1 := s.arcGaps
    let s2 := if s1.ancTakes then State.runMoves s1.anc.moving s1 else s1
    (if s2.anc.halting then s2 else s2.startCheckpoint).beginCommit.ancVote

end Sys2Proof.Machine
end

