-- ==== Sys2Proof/Machine/AncRun.lean ====
section
/-! DEFINITION. The archive at work: operations that end, commits in force, space and wear, mount, format, flush and
PWRFAIL_N, and what is asked of it (12 R359-R379, Table 12-9). -/

namespace Sys2Proof.Machine

/-! ### Operations that end (R359, R362, R372) -/

/-- A page programmed on the medium. -/
def State.putPage (s : State) (a : Nat) (main : Bytes) : State :=
  let s1 := s.onAnc (fun x => { x with pages := tabPut (fun _ => none) x.pages a (some (s.makePage main)) })
  if pageOf a = 0 then s1.setNblk (s.blockOf a) (fun b => { b with time := s.arcTime }) else s1

/-- A block erased on the medium: FREE where it was ERASE_PENDING. -/
def State.eraseBlock (s : State) (g : Nat) : State :=
  let s1 := s.onAnc (fun x => { x with pages := tabDrop (fun a => s.blockOf a == g) x.pages })
  s1.setNblk g (fun b => if b.state = Nb.erasePending then { b with state := Nb.free, reads := 0, time := 0, first := 0, seq := 0 } else b)

/-- The pages of uncommitted records in a failed block, and what follows them, go to the next open block (R372); once PWRFAIL_N has
stopped the ANC no new program starts, and they are lost (R379). -/
def State.relay (s : State) (g : Nat) (dropped : List NandOp) : State :=
  let back := ((dropped.map (fun o => s.blockOf o.addr)).eraseDups.filter (fun b => b != g && !s.anc.open_.contains b))
  let hit (f : FreshRec) : Bool := (s.recBlocks f.record).contains g
  let stay := s.anc.fresh.takeWhile (fun f => !hit f)
  let again := s.anc.fresh.drop stay.length
  let s1 := back.foldl (fun a b => a.setNblk b (fun x => { x with state := Nb.open_ })) s
  let s2 := s1.onAnc (fun a => { a with
    open_ := back ++ a.open_.filter (· != g), page := 0, buf := [], bufFirst := none, fresh := stay })
  if s2.anc.halting then s2 else again.foldl (fun a f => a.logRecord f.record f.bytes f.old) (s2.openAhead s2.openTarget)

/-- A superblock copy moves to the next good block among blocks 0 to 7 of target 0. -/
def State.moveSuper (s : State) (g : Nat) : State :=
  let a := s.anc
  match ((List.range 8).filter (fun b => b != a.sbA && b != a.sbB && decide ((s.nblk b).state < 7))).head? with
  | none => s
  | some b =>
    let s1 := s.setNblk b (fun x => { x with state := Nb.super })
    let s2 := s1.onAnc (fun x => if x.sbA = g then { x with sbA := b, sbPageA := 1 } else { x with sbB := b, sbPageB := 1 })
    s2.onAnc (fun x => { x with ops := s2.superOps b s2.npages ++ x.ops })

/-- A checkpoint and the superblock that names it are written again, before the operations that wait (R359, R362). -/
def State.redoCheckpoint (s : State) : State :=
  let r := s.seizeCheckpoint
  let old := r.2.anc.ops.filter (·.kind != .super)
  let c := r.2.onAnc (fun a => { a with
    ckBlocks := r.1, ckPage := r.2.pageAddr (r.1.headD 0) 0, erasable := a.erasable ++ a.ckBlocks.filter (fun b => decide ((s.nblk b).state < 7)), ops := [] })
  (c.onAnc (fun a => { a with ops := c.pageOps .checkpoint 3 r.1 c.checkpointBytes })).writeSuper.onAnc (fun a => { a with ops := a.ops ++ old })

/-! ### Space and wear (R369, R371) -/

/-- The archive is full. -/
def State.spaceLow (s : State) : Bool := decide (1000 * s.freeBlocks ≤ s.fld F.ANC_POL2.RESERVE * s.goodBlocks)

/-- The last sequence to delete so that a FULL block holds no DATA or GAP record, and that block (R369, OVERWRITE). -/
def State.overwriteCut (s : State) : Option (Nat × Nat) :=
  let data := sortBy id ((s.anc.recs.filter (fun r => r.type == 1 || r.type == 2)).map (·.seq))
  let blocks := (s.blocksIn (· == Nb.full)).filter (fun g => !superBlock g)
  let ready (n g : Nat) : Bool :=
    let rs := s.anc.recs.filter (fun r => (s.recBlocks r).contains g)
    !rs.isEmpty && rs.all (fun r => decide (r.type ≥ 3) || decide (r.seq ≤ n))
  data.findSome? (fun n => (blocks.find? (ready n)).map (fun g => (n, g)))

/-- Space is judged anew: entering full raises FULL; OVERWRITE deletes the oldest records, STOP reports ARCHIVE_FULL. -/
def State.judgeSpace (s : State) : State :=
  let low := s.spaceLow
  let s1 := s.onAnc (fun a => { a with full := low })
  let s2 := if low && !s.anc.full then
      let b := s1.raise .anc F.ANC_IRQ_STATUS.FULL
      if s.fld F.ANC_POL2.FULL_POLICY = 1 then b.post .anc AncCode.full 0 else b
    else s1
  if low && s.fld F.ANC_POL2.FULL_POLICY == 0 && !s2.anc.deleted.any (·.2 == 2) && s2.anc.job.isNone then
    match s2.overwriteCut with
    | some (n, g) => ((s2.onAnc (fun a => { a with deleted := addDelete a.deleted n 2 })).clearBlock g).wantCommit
    | none => s2
  else s2

/-- At most one block a commit is cleared to level the wear (R371). -/
def State.levelWear (s : State) : State :=
  let full := (s.blocksIn (· == Nb.full)).filter (fun g => !superBlock g)
  let top := s.anc.blocks.foldl (fun m b => if b.2.state < 7 then max m b.2.erase else m) 0
  match full.foldl (fun best g => match best with
      | none => some g
      | some b => if (s.nblk g).erase < (s.nblk b).erase then some g else some b) none with
  | some g => if top > (s.nblk g).erase + s.fld F.ANC_POL3.WL_DELTA then s.clearBlock g else s
  | none => s

/-! ### Commits in force -/

/-- An ALM_HISTORY record of the head holds CC, the map and every member's commit number and last record (19 R493); it waits
with the cascade commit. -/
def State.ccRecord (s : State) (j : CcJob) : State :=
  let head := s.histEntry Hist.cascadeCommit 19 0 (leBytes 4 j.cc ++ leBytes 2 j.map)
  let each := j.replies.map (fun r => s.histEntry Hist.cascadeMember 19 0 (leBytes 1 r.1 ++ zeros 7 ++ leBytes 8 r.2.1 ++ leBytes 8 r.2.2))
  let s1 := s.newRecord (s.arcHead 5 0xFF) (arcItem 5 (head :: each).flatten)
  ((s1.onAnc (fun a => { a with waits := a.waits ++ [.cascade j.cc] })).wantCommit)

/-- A cascade commit is aborted (19 R494). -/
def State.ccAbort (s : State) : State :=
  match s.csp.job with
  | none => s
  | some _ => (({ s with csp := { s.csp with job := none } }).post .csp 8 0).raise .csp F.CSP_IRQ_STATUS.CC_ABORTED

/-- Once every member of the map has replied the head appends the record, when the archive may program it. -/
def State.ccReady (s : State) : State :=
  match s.csp.job with
  | none => s
  | some j =>
    if j.appended ∨ !(List.range 16).all (fun m => !bitAt j.map m || j.replies.any (·.1 == m)) then s
    else if s.ancState ≠ Anc.ready then s.ccAbort
    else
      let m := s.makeRoom (48 * (j.replies.length + 1) + 96)
      if !m.1 then m.2
      else
        let j1 := { j with replies := sortBy (·.1) j.replies, appended := true }
        ({ s with csp := { s.csp with job := some j1 } }).ccRecord j1

/-- A commit that a cascade-wide commit waited for is in force: a member answers PREPARED; the head has its own pair, or the
cascade commit is in force (19 R493). -/
def State.ccCommitted (s : State) (cc : Nat) : State :=
  match s.csp.job with
  | some j =>
    if j.cc ≠ cc then s
    else if j.appended then
      ((({ s with csp := { s.csp with job := none } }).setReg R.CSP_CC (w32 cc)).show .csp 0 0).raise .csp F.CSP_IRQ_STATUS.CC_DONE
    else ({ s with csp := { s.csp with job := some { j with replies := j.replies ++ [(0, s.anc.commit, s.anc.commitSeq)] } } }).ccReady
  | none =>
    if s.csp.prepare = some cc then
      ({ s with csp := { s.csp with prepare := none } }).chorusSend 8 0 cc (leBytes 8 s.anc.commit ++ leBytes 8 s.anc.commitSeq)
    else s

/-- Who waited for a commit learns of it. -/
def State.arcInform (s : State) : ArcWait → State
  | .zone n _ =>
    let mark : List ZoneChange → List ZoneChange := fun l =>
      match l.findIdx? (fun c => c.submitted && c.committed.isNone && c.number == n) with
      | some i => modAt l i (fun c => { c with committed := some s.now })
      | none => l
    { s with znt := { s.znt with changes := mark s.znt.changes } }
  | .cal _ => s.appendDone
  | .history _ _ => s
  | .delete v => s.finish v .anc 0 0
  | .commit v => s.finish v .anc 0 0 (leBytes 8 s.anc.commitSeq)
  | .cascade cc => s.ccCommitted cc

/-- The journal moves past the pages of a commit. -/
def State.stepJournal (s : State) (n : Nat) : State :=
  s.onAnc (fun a =>
    if a.jPage + n < s.npages then { a with jPage := a.jPage + n }
    else match a.jNext with
      | some (x, y) => { a with jDone := a.jDone ++ [a.jA, a.jB], jA := x, jB := y, jPage := a.jPage + n - s.npages, jNext := none }
      | none => { a with jPage := a.jPage + n })

/-- State a purpose gives a block. -/
def purposeState : Nat → Nat
  | 1 => Nb.open_ | 2 => Nb.journal | _ => Nb.checkpoint

/-- What waits for a commit that will not come is refused NOT_MOUNTED. -/
def State.refuseWait (s : State) : ArcWait → State
  | .zone n _ =>
    match s.znt.changes.find? (fun c => c.submitted && c.committed.isNone && c.number == n) with
    | some c =>
      let s1 : State := { s with znt := { s.znt with changes := s.znt.changes.erase c } }
      ((s1.count F.ZNT_CHANGE_COUNT.REFUSED 1).raise .znt F.ZNT_IRQ_STATUS.CHANGE_REFUSED).finish (.msg c.origin c.seq) .anc AncCode.notMounted 0
    | none => s
  | .cal _ => s.appendFails AlmCode.notMounted 0
  | .delete v => s.finish v .anc AncCode.notMounted 0
  | .commit v => s.finish v .anc AncCode.notMounted 0
  | .history _ _ => s
  | .cascade cc => if (match s.csp.job with | some j => j.cc == cc | none => false) then s.ccAbort else s
def State.refuseWaits (s : State) : State :=
  let l := (match s.anc.job with | some j => j.waits | none => []) ++ s.anc.waits
  l.foldl State.refuseWait (s.onAnc (fun a => { a with waits := [] }))

/-- Data that a channel without a present DATA record loses, staged or not committed, opens a span of its own (R356). -/
def State.noteLost (s : State) : State :=
  let fresh (c : Nat) : List Nat := ((s.anc.fresh.map (·.record) ++ (match s.anc.job with | some j => j.recs.map (·.record) | none => [])).filter
    (fun r => r.type == 1 && r.chan == c)).map (·.first)
  let one (c : Nat) : Option ArcGap :=
    if s.anc.spans.any (·.chan == c) then none
    else match fresh c ++ s.stagedFrames c with
      | [] => none
      | f :: l => some ⟨c, 7, s.run, l.foldl min f, s.spanHead s.run (l.foldl min f)⟩
  s.onAnc (fun a => { a with spans := a.spans ++ s.archived.filterMap one })

/-- What the staging rings hold is lost; the next block of each channel begins a record (R355, R356). Frame headers stay in mind for it. -/
def State.loseRings (s0 : State) : State :=
  let s := s0.archived.foldl (fun a c =>
    let hs := (a.tch c).staged.foldl (fun h x => match x with | .header f b => (f, b) :: h | _ => h) (a.knownHeaders c)
    a.keepHeaders c hs) s0
  ({ s with tce := { s.tce with chans := s.tce.chans.map (fun p => (p.1, { p.2 with staged := [], lastHeader := none, fresh := true })) } } : State).tceStall

/-- The ANC is HALTED (R379 step 4). -/
def State.ancHalted (s : State) : State :=
  let s1 := (s.noteLost.loseRings.setFld F.ANC_STATUS.STATE Anc.halted).onAnc (fun a => { a with halting := false, flushing := false, ops := [], wanted := false, gapDue := true })
  let s2 := s1.refuseWaits.raise .anc F.ANC_IRQ_STATUS.HALTED
  ({ s2 with pmu := { s2.pmu with pwrfailHold := false } }).repower

/-- An operation fails once PWRFAIL_N has stopped the ANC: its block is bad, and no new program starts (01 R64, R379). A copy of the last journal
page that fails leaves its commit out of force (DESIGN CHOICE, log entry 198). -/
def State.opLost (s : State) (op : NandOp) : State :=
  let g := s.blockOf op.addr
  let rest := s.anc.ops
  match op.kind with
  | .erase => s.growBad g AncCode.eraseFail 2
  | .data => ((s.growBad g AncCode.programFail 1).onAnc (fun a => { a with ops := a.ops.filter (·.kind != .data) })).relay g (op :: rest.filter (·.kind == .data))
  | .journal => (s.growBad g AncCode.programFail 1).ancHalted.onAnc (fun a => { a with job := none })
  | _ => s.growBad g AncCode.programFail 1

/-- The oldest operation ends, with pass or fail. -/
def State.opDone (s : State) (fail : Bool) : State :=
  match s.anc.ops with
  | [] => s
  | op :: rest =>
    let g := s.blockOf op.addr
    let s1 := s.onAnc (fun a => { a with ops := rest })
    if !fail then
      match op.kind with
      | .erase => s1.eraseBlock g
      | .journal =>
        let s2 := s1.putPage op.addr op.main
        if s2.anc.ops.any (·.kind == .journal) then s2 else s2.onAnc (fun a => { a with passed := a.job.isSome })
      | _ => s1.putPage op.addr op.main
    else if s1.anc.halting then s1.opLost op
    else
      let keep (k : NandKind) (a : State) : State := a.onAnc (fun x => { x with ops := x.ops.filter (·.kind != k) })
      match op.kind with
      | .erase => let b := s1.growBad g AncCode.eraseFail 2; if superBlock g then b.moveSuper g else b
      | .data =>
        let dropped := rest.filter (·.kind == .data)
        ((keep .data (s1.growBad g AncCode.programFail 1)).relay g (op :: dropped)).clearBlock g
      | .journal =>
        let b := (keep .journal (s1.growBad g AncCode.programFail 1)).newPair
        match b.anc.job with
        | some j => b.onAnc (fun a => { a with ops := a.ops ++ b.journalOps j.pages })
        | none => b
      | .checkpoint =>
        let b := keep .checkpoint (s1.growBad g AncCode.programFail 1)
        if b.anc.ckPhase = 2 then (b.onAnc (fun a => { a with ckNext := [], ckPhase := 1, erasable := a.erasable ++ a.ckNext.filter (· != g) })).takeCheckpoint.wantCommit
        else b.redoCheckpoint
      | .super => (s1.growBad g AncCode.programFail 1).moveSuper g

/-- Both copies report pass: the commit is in force (R359, R361, R362 step 3). -/
def State.commitInForce (s : State) : State :=
  match s.anc.job with
  | none => s
  | some j =>
    if !s.anc.passed then s
    else
      let gone := deletes j.deleted
      let recs := (s.anc.recs.filter (fun r => !gone r && !j.recs.any (·.record.seq == r.seq))) ++ (j.recs.map (·.record)).filter (fun r => !gone r)
      let s1 := s.onAnc (fun a => { a with
        job := none, passed := false, commit := j.number, recs := recs, commitSeq := j.last, time := j.time, timeAt := s.now, endPage := j.end_
        oldest := j.deleted.foldl (fun m d => max m (d.1 + 1)) a.oldest, ckSince := a.ckSince + 1 })
      let s2 := j.opens.foldl (fun a o => a.setNblk o.1 (fun b => if b.state = Nb.free then { b with state := purposeState o.2 } else b)) s1
      let s3 := j.erases.foldl (fun a g => (a.setNblk g (fun b => { b with state := Nb.erasePending, erase := satSucc 16777215 b.erase, reads := 0, first := 0 })).onAnc
        (fun x => { x with ops := x.ops ++ [⟨.erase, s.pageAddr g 0, []⟩] })) s2
      let s4 := j.worn.foldl (fun a g => ((a.setNblk g (fun b => { b with state := Nb.worn })).post .anc AncCode.worn 0).raise .anc F.ANC_IRQ_STATUS.GROWN_BAD) s3
      let s5 := s4.stepJournal j.pages.length
      let s6 := if j.ck then
          let ck := s5.anc.ckNext
          (((s5.onAnc (fun a => { a with ckNext := [] })).rotate ck).writeSuper).takeCheckpoint
        else if s5.anc.flushing then s5.onAnc (fun a => { a with flushing := false, ckPhase := 1 })
        else if s5.anc.ckPhase = 0 ∧ s5.fld F.ANC_POL1.CHECKPOINT_COMMITS ≤ s5.anc.ckSince then s5.onAnc (fun a => { a with ckPhase := 1 })
        else s5
      let s7 := j.waits.foldl State.arcInform s6
      if s7.anc.halting then (if s7.anc.wanted then s7 else s7.ancHalted)
      else s7.levelWear.judgeSpace.ccReady

/-- A checkpoint's pages have all passed: its entry is journaled (R362 step 2). -/
def State.checkpointWritten (s : State) : State :=
  let a := s.anc
  if a.ckPhase ≠ 2 ∨ a.ops.any (·.kind == .checkpoint) then s
  else (((s.addEntry (journalEntry 7 (s.pageAddr (a.ckNext.headD 0) 0) a.ckCommit 0 0)).onAnc (fun x => { x with ckPhase := 3 })).wantCommit)

/-- Operations pass and commits come into force until nothing is left to do: inside a mount or a format. -/
def State.ancDrain : Nat → State → State
  | 0, s => s
  | n + 1, s =>
    if !s.anc.ops.isEmpty then State.ancDrain n (s.opDone false)
    else if s.anc.job.isSome && s.anc.passed then State.ancDrain n s.commitInForce.startCheckpoint.beginCommit
    else if s.anc.ckPhase = 2 then State.ancDrain n s.checkpointWritten.beginCommit
    else if s.anc.wanted && s.anc.job.isNone then State.ancDrain n s.beginCommit
    else s

/-! ### Mount (R364-R366) -/

/-- What the ANC holds in DRAM and on chip is lost; the medium stays. -/
def State.ancLose (s : State) : State :=
  s.onAnc (fun a => { a with
    blocks := [], recs := [], fresh := [], open_ := [], page := 0, buf := [], bufFirst := none, bufSeq := 0, ops := [], entries := []
    opening := [], deleted := [], waits := [], jNext := none, wanted := false, job := none, passed := false, firstAt := none
    endPage := 0xFFFFFFFF, gapSeq := 0, retire := false, ckPhase := 0, ckSince := 0, ckCommit := 0, ckNext := [], ckBlocks := [], ckPrev := [], jDone := [], jPrev := [], erasable := [], moving := []
    corrected := [], lastPass := none, full := false, flushing := false, halting := false })

/-- Records that begin in a page, walked from its tag's OFFSET. -/
def walkRecords (pay : Nat) (bs : Bytes) : Nat → Nat → List (Nat × Bytes)
  | 0, _ => []
  | k + 1, off =>
    let h := (bs.drop off).take 64
    if off ≥ pay ∨ h.length < 64 ∨ field h 0 4 ≠ 0x43525841 ∨ field h 4 4 < 80 then []
    else (off, h) :: walkRecords pay bs k (off + field h 4 4)

/-- A record of the index from its place and header. -/
def recOf (page off : Nat) (h : Bytes) : ArcRec :=
  ⟨field h 8 8, page, off, field h 4 4, field h 0x10 1, field h 0x11 1, field h 0x14 4, field h 0x18 6, field h 0x20 6⟩

/-- The records that begin in a data page. -/
def State.pageRecords (s : State) (a : Nat) : List ArcRec :=
  let m := (s.readPage a []).main
  if tagOk 1 m && field m 3 1 == 1 then
    (walkRecords s.npay (s.readPages (s.logPages 2 a) []).bytes 256 (field m 0xC 4)).map (fun x => recOf a x.1 x.2)
  else []

/-- Where the log goes on after a record: page and payload offset. -/
def State.recEnd (s : State) (r : ArcRec) : Nat × Nat :=
  let n := r.off + r.len
  (((s.logPages (n / max 1 s.npay + 1) r.page).getLast?).getD r.page, n % max 1 s.npay)

/-- Bytes of the log from a place to another that is at most `k` pages on. -/
def State.logDist (s : State) (k : Nat) (a b : Nat × Nat) : Option Nat :=
  (((List.range k).zip (s.logPages k a.1)).find? (fun x => x.2 == b.1)).map (fun x => x.1 * s.npay + b.2 - a.2)

/-- A committed record that its page does not show, damage lying beyond ECC: it stands where the one before it ends (01 R66). -/
def State.hiddenRec (s : State) (q page len type chan last : Nat) : ArcRec :=
  let prev := s.anc.recs.foldl (fun best r => if r.seq < q then (match best with
    | some b => if b.seq < r.seq then some r else best
    | none => some r) else best) none
  let e := (prev.map s.recEnd).getD (page, 0)
  ⟨q, page, if e.1 = page then e.2 else 0, len, type, chan, (prev.map (·.run)).getD s.run, last, last⟩

/-- Where a record that no page shows stands: page, payload offset and length. `shown` are the records that pages show. It begins in the block whose
FIRST_SEQ lies after the last one shown before it, else where that one ends, and runs to the next one shown. Below the delete line `line` only a
stretch of the log that still stands can hold it (log entry 168). -/
def State.hiddenAt (s : State) (shown : List ArcRec) (line q : Nat) : Option (Nat × Nat × Nat) :=
  let prev := shown.foldl (fun best r => if r.seq < q then (match best with | some b => if b.seq < r.seq then some r else best | none => some r) else best)
    (none : Option ArcRec)
  let next := shown.foldl (fun best r => if q < r.seq then (match best with | some b => if r.seq < b.seq then some r else best | none => some r) else best)
    (none : Option ArcRec)
  let low := (prev.map (·.seq)).getD 0
  let dist (e : Nat × Nat) : Option Nat := next.bind (fun n => s.logDist 4096 e (n.page, n.off))
  match s.dataBlocks.find? (fun g => decide (low < (s.nblk g).first ∧ (s.nblk g).first ≤ q)) with
  | some g =>
    let page := (((List.range s.npages).map (s.pageAddr g)).find? (fun a => !(s.readPage a []).clean)).getD (s.pageAddr g 0)
    some (page, 0, (dist (page, 0)).getD s.npay)
  | none => match prev with
    | none => none
    | some r =>
      let e := s.recEnd r
      let d := dist e
      if line ≤ q then some (e.1, e.2, d.getD (s.npay - e.2)) else d.bind (fun n => if n = 0 then none else some (e.1, e.2, n))

/-- The records that a checkpoint covers and no page shows. No one can tell their TYPE: 0xFF stands for it, and no delete takes them away. -/
def State.fillHidden (s : State) (shown : List ArcRec) (line next : Nat) : State :=
  (List.range (next - 1)).foldl (fun a i =>
    let q := i + 1
    if shown.any (·.seq == q) then a
    else match s.hiddenAt shown line q with
      | none => a
      | some (page, off, len) =>
        let run := (shown.find? (fun r => decide (r.seq < q))).map (fun r => (r.run, r.last))
        a.onAnc (fun x => { x with recs := x.recs ++ [⟨q, page, off, len, 0xFF, 0xFF, (run.map (·.1)).getD s.run, (run.map (·.2)).getD 0, (run.map (·.2)).getD 0⟩] })) s

/-- The superblock page with the highest GENERATION whose CRC matches: its payload (R364). -/
def State.findSuper (s : State) : Option Bytes :=
  let cands := (List.range 8).flatMap (fun g => (List.range s.npages).filterMap (fun p =>
    let m := (s.readPage (s.pageAddr g p) []).main
    let b := m.drop 32
    if tagOk 4 m && field b 0 4 == 0x42535841 && field b 0x7C 4 == (crc32c (b.take 0x7C)).toNat then some b else none))
  cands.foldl (fun best b => match best with
    | none => some b
    | some x => if field x 8 8 < field b 8 8 then some b else some x) none

/-- The checkpoint that begins at a page, over blocks opened one after another; none where its CRC does not match. -/
def State.readCheckpoint (s : State) (a : Nat) : Option (Bytes × List Nat) :=
  let seqOf (g : Nat) : Option Nat :=
    let m := (s.readPage (s.pageAddr g 0) []).main
    if tagOk 3 m then some (field m 4 8) else none
  let g0 := s.blockOf a
  match seqOf g0 with
  | none => none
  | some q =>
    let blocks := (List.range s.checkpointBlocks).map (fun i => if i = 0 then g0 else (s.allBlocks.find? (fun g => seqOf g == some (q + i))).getD g0)
    let n := 64 + 24 * s.totalBlocks
    let pages := (List.range ((n + 4 + s.npay - 1) / max 1 s.npay)).map (fun i => s.pageAddr (blocks[i / max 1 s.npages]?.getD 0) (i % max 1 s.npages))
    let b := (s.readPages pages []).bytes
    if field b 0 4 == 0x4B435841 && field b n 4 == (crc32c (b.take n)).toNat then some (b, blocks) else none

/-- The tables of a checkpoint, and the records it covers: those that begin before the place at which the log went on after its commit (log entry
71); of a record shown twice the later place holds, for it has been moved there. -/
def State.loadCheckpoint (s : State) (b : Bytes) : State :=
  let all := s.allBlocks
  let s1 := (List.range all.length).foldl (fun a i =>
    let o := 64 + 24 * i
    let st := field b o 1
    if field b o 24 = 0 then a
    else
      let g := all[i]?.getD 0
      let m := (a.readPage (a.pageAddr g 0) []).main
      a.setNblk g (fun _ => ⟨st, field b (o + 4) 3, field b (o + 8) 3, field b (o + 12) 4, field b (o + 16) 8,
        if field m 0 2 = 0x4C58 then field m 4 8 else 0⟩)) s
  let s2 := s1.onAnc (fun a => { a with
    commit := field b 4 8, commitSeq := field b 12 8 - 1, oldest := field b 56 8, time := field b 28 4, endPage := field b 32 4, timeAt := s.now
    passStart := field b 40 4
    jA := s.blockOf (field b 44 4), jB := s.blockOf (field b 48 4), jPage := pageOf (field b 44 4)
    blockSeq := s1.anc.blocks.foldl (fun m x => max m x.2.seq) 0 })
  let s3 := s2.setFld F.ANC_PATROL.NEXT (field b 36 4)
  let line := field b 56 8
  let next := field b 12 8
  let seqOf (a : Nat) : Nat := (s3.nblk (s3.blockOf a)).seq
  let void (a : Nat) : Bool := s3.anc.endPage != 0xFFFFFFFF
    && (decide (seqOf s3.anc.endPage < seqOf a) || (s3.blockOf a == s3.blockOf s3.anc.endPage && decide (pageOf s3.anc.endPage ≤ pageOf a)))
  let pages := (sortBy (fun g => (s3.nblk g).seq) s3.dataBlocks).flatMap (fun g => (List.range s3.npages).map (s3.pageAddr g))
  let found := ((pages.filter (fun a => !void a)).flatMap s3.pageRecords).filter (fun r => decide (r.seq < next))
  let shown := found.foldl (fun l r => l.filter (·.seq != r.seq) ++ [r]) []
  (s3.onAnc (fun a => { a with recs := shown.filter (fun r => decide (line ≤ r.seq) || decide (r.type ≥ 3)) })).fillHidden shown line next

/-- A journal entry of a commit in force is applied to the tables (R364). -/
def State.applyEntry (s : State) (e : Bytes) : State :=
  let addr := field e 4 4
  let q := field e 8 8
  let g := s.blockOf addr
  match field e 0 1 with
  | 1 => (s.setNblk g (fun b => { b with state := purposeState (field e 16 1), seq := q })).onAnc (fun a => { a with blockSeq := max a.blockSeq q })
  | 2 =>
    let r := ((s.pageRecords addr).find? (·.seq == q)).getD (s.hiddenRec q addr (field e 16 4) (field e 20 1) (field e 21 1) (field e 24 6))
    (s.onAnc (fun a => { a with recs := a.recs ++ [r] })).setNblk g (fun b => { b with first := if b.first = 0 then q else min b.first q })
  | 3 => s.setNblk g (fun b => { b with state := Nb.erasePending, erase := field e 16 3, reads := 0, first := 0 })
  | 4 => s.setNblk g (fun b => { b with state := if field e 16 1 = 3 then Nb.worn else Nb.grownBad })
  | 5 =>
    let shown := (s.pageRecords addr).find? (·.seq == q)
    match shown.orElse (fun _ => (s.anc.recs.find? (·.seq == q)).map (fun o => s.hiddenRec q addr o.len o.type o.chan o.last)) with
    | some r => if s.anc.oldest ≤ q ∨ 3 ≤ r.type then s.onAnc (fun a => { a with recs := a.recs.filter (·.seq != q) ++ [r] }) else s
    | none => s
  | 6 => s.onAnc (fun a => { a with recs := a.recs.filter (fun r => !(decide (r.seq ≤ q) && (r.type == 1 || r.type == 2))), oldest := max a.oldest (q + 1) })
  | _ => s

/-- After a commit the log goes on in the page that follows its last record. -/
def State.endAfter (s : State) (es : List Bytes) : State :=
  match (es.filter (fun e => field e 0 1 == 2 || field e 0 1 == 5)).getLast? with
  | none => s
  | some e =>
    match s.anc.recs.find? (·.seq == field e 8 8) with
    | none => s
    | some r =>
      let next := ((s.recPages r).getLast?).bind s.nextPage
      s.onAnc (fun a => { a with endPage := next.getD 0xFFFFFFFF })

/-- The replay of the journal: what is pending, the next pair remembered, whether it ended short, and whether at an
erased page. -/
structure Replay where
  pending : List Bytes
  next : Option (Nat × Nat)
  short : Bool
  clean : Bool
  stop : Bool

/-- The entries of a journal page, up to the first whose KIND reads 0xFF. -/
def pageEntries : Nat → Bytes → List Bytes
  | 0, _ => []
  | k + 1, b => if b.length < 32 ∨ field b 0 1 = 0xFF then [] else b.take 32 :: pageEntries k (b.drop 32)

/-- One entry of the replay. -/
def replayEntry (x : State × Replay) (e : Bytes) : State × Replay :=
  let (s, r) := x
  if r.stop then x
  else if field e 0 1 = 15 then
    let q := field e 8 8
    let good := decide (q = s.anc.commit + 1) && field e 24 4 == (crc32c r.pending.flatten).toNat
    let s1 := if good then
        ((r.pending.foldl State.applyEntry s).onAnc (fun a => { a with commit := q, commitSeq := field e 16 8, time := field e 28 4, timeAt := s.now })).endAfter r.pending
      else s
    (s1, { r with pending := [], stop := decide (q ≠ s1.anc.commit), clean := decide (q = s1.anc.commit) })
  else
    let g := s.blockOf (field e 4 4)
    let paired := match r.next with | some (a, _) => a == field e 24 8 | none => false
    let next := if field e 0 1 = 1 ∧ field e 16 1 = 2 ∧ !paired then some (g, field e 24 8) else r.next
    (s, { r with pending := r.pending ++ [e], next := next })

/-- The journal is replayed page by page. -/
def replay : Nat → State × Replay → State × Replay
  | 0, x => x
  | n + 1, (s, r) =>
    if r.stop then (s, r)
    else
      let a := s.anc
      let p1 := s.readPage (s.pageAddr a.jA a.jPage) []
      let p2 := s.readPage (s.pageAddr a.jB a.jPage) []
      if !p1.clean && !p2.clean then (s, { r with short := true, stop := true, clean := false })
      else
        let p := if p1.clean then p1 else p2
        if p.erased then (s, { r with stop := true, clean := r.clean && r.pending.isEmpty })
        else
          let y := (pageEntries 512 (p.main.drop 32)).foldl replayEntry (s, r)
          let s1 := if a.jPage + 1 < s.npages then y.1.onAnc (fun a => { a with jPage := a.jPage + 1 })
            else match y.2.next with
              | some (u, v) => y.1.onAnc (fun a => { a with jDone := a.jDone ++ [a.jA, a.jB], jA := u, jB := v, jPage := 0 })
              | none => y.1.onAnc (fun a => { a with jPage := a.jPage + 1 })
          replay n (s1, if a.jPage + 1 < s.npages then y.2 else { y.2 with next := none, stop := y.2.stop || y.2.next.isNone })

/-- A chip enable that answers READ ID with 0x00 or with 0xFF in every byte is absent (R347). -/
def absentTarget (x : NandAnswer) : Bool := x.id.all (· == 0) || x.id.all (· == 0xFF)

/-- The targets present, each with the first copy of its parameter page whose ONFI CRC matches (R347). -/
def identify (ans : List (Nat × NandAnswer)) : List (Nat × Option NandId) :=
  (ans.filter (fun a => !absentTarget a.2)).map (fun a => (a.1, (a.2.copies.find? (·.1)).map (·.2)))

/-- The medium breaks R346: the first target at fault. A target without a good copy of its parameter page reports none of what R346 asks
(DEDUCED, log entry 197). -/
def mediumFault (ans : List (Nat × NandAnswer)) : Option Nat :=
  let id := identify ans
  let geometry (x : NandId) : List Nat := [x.page, x.luns, x.planes, x.pages, x.blocks]
  let g0 := (id.find? (·.1 == 0)).bind (·.2)
  let bad (t : Nat × Option NandId) : Bool :=
    match t.2 with
    | none => true
    | some x =>
      !(x.bits == 1 && (x.page == 8192 || x.page == 16384) && decide (126 * (x.page / 1024) ≤ x.spare) && decide (1 ≤ x.luns ∧ x.luns ≤ 4)
        && decide (1 ≤ x.planes ∧ x.planes ≤ 2) && decide (64 ≤ x.pages ∧ x.pages ≤ 2048) && decide (1 ≤ x.blocks ∧ x.blocks ≤ 65536))
        || (match g0 with | some y => geometry x != geometry y | none => false)
  let size (t : Nat × Option NandId) : Nat := match t.2 with | some x => x.page * x.pages * x.blocks * x.luns | none => 0
  match id.find? bad with
  | some (t, _) => some t
  | none => if g0.isNone then some 0
    else (id.foldl (fun (acc : Nat × Option Nat) t =>
      let n := acc.1 + size t
      (n, if acc.2.isNone && decide (n > 2 ^ 42) then some t.1 else acc.2)) (0, none)).2

/-- The geometry registers follow the medium (R347). -/
def State.setGeometry (s : State) (ans : List (Nat × NandAnswer)) : State :=
  let id := (identify ans).filterMap (fun t => t.2.map (fun x => (t.1, x)))
  match id.head? with
  | none => s
  | some (_, x) =>
    let rate := id.foldl (fun m t => min m t.2.rate) (s.fld F.ANC_POL2.MAX_RATE)
    let g0 := (id.map (fun t => 2 ^ t.1)).sum + 2 ^ 8 * (x.luns - 1) + (if x.planes = 2 then 2 ^ 10 else 0) + (if x.page = 16384 then 2 ^ 11 else 0) + 2 ^ 16 * x.pages
    let cyc := id.foldl (fun m t => min m t.2.cycles) x.cycles
    (((s.onAnc (fun a => { a with targets := id })).setReg R.ANC_GEOM0 (w32 g0)).setReg R.ANC_GEOM1 (w32 (x.blocks + 2 ^ 17 * rate))).setReg
      R.ANC_ENDURANCE (w32 (min cyc 16777215))

/-- A mount or a start fails: FAULT. -/
def State.ancFault (s : State) (code detail : Nat) : State :=
  ((s.setFld F.ANC_STATUS.STATE Anc.fault).post .anc code detail).raise .anc F.ANC_IRQ_STATUS.FAULT

/-- Spans that the next data of each archived channel closes: cross-run gaps, or staged data lost within the run (R365); a channel with no
record present keeps the span that its lost data opened. -/
def State.openSpans (s : State) : State :=
  let one (c : Nat) : Option ArcGap :=
    match (s.anc.recs.filter (fun r => r.type == 1 && r.chan == c)).foldl (fun best r => match best with
        | none => some r
        | some b => if b.seq < r.seq then some r else some b) none with
    | none => s.anc.spans.find? (·.chan == c)
    | some r => some ⟨c, if r.run = s.run then 7 else 8, r.run, r.last + 1, s.recHeadSpan r⟩
  s.onAnc (fun a => { a with spans := a.spans.filter (fun x => !s.archived.contains x.chan) ++ s.archived.filterMap one, skip := s.archived, gapDue := false })

/-- A boundary request to the TCE: the next block of a channel begins a record (R355, 10 R309). -/
def State.askBoundary (s : State) (c : Nat) : State :=
  let a := s.closeOut c
  (a.setTch c { a.tch c with fresh := true }).tceStall

/-- What the tables just rebuilt leave to be done: the next journal pair, the blocks of older checkpoints and journals, and failed blocks whose
records are still to be moved (R372, R374). `prev` are the blocks of the previous checkpoint. -/
def State.resume (s : State) (next : Option (Nat × Nat)) (prev : List Nat) : State :=
  let a := s.anc
  let ahead := next.filter (fun x => (s.nblk x.1).state == Nb.journal && (s.nblk x.2).state == Nb.journal && x.1 != a.jA)
  let inUse := [a.jA, a.jB] ++ (match ahead with | some (x, y) => [x, y] | none => []) ++ a.jDone
  let bad := (s.blocksIn (· == Nb.grownBad)).filter (fun g => !(s.blockRecords g).isEmpty)
  s.onAnc (fun a => { a with
    jNext := ahead, ckPrev := prev, moving := bad
    jPrev := (s.blocksIn (· == Nb.journal)).filter (fun g => !inUse.contains g)
    erasable := (s.blocksIn (· == Nb.checkpoint)).filter (fun g => !a.ckBlocks.contains g && !prev.contains g) })

/-- The tables are rebuilt from superblock, checkpoint and journal, and the archive is READY; or it is UNFORMATTED or in
FAULT (R364, R365). -/
def State.mountTables (s : State) : State :=
  match s.findSuper with
  | none => ((s.setFld F.ANC_STATUS.STATE Anc.unformatted).post .anc AncCode.unformatted 0)
  | some sb =>
    let latest := field sb 0x28 4
    let prev := field sb 0x2C 4
    let ck := match s.readCheckpoint latest with
      | some x => some (x, latest)
      | none => (s.readCheckpoint prev).map (fun x => (x, prev))
    match ck with
    | none => s.ancFault AncCode.metaLost 0
    | some ((b, blocks), page) =>
      let sbs := (List.range 8).filter (fun g => tagOk 4 (s.readPage (s.pageAddr g 0) []).main)
      let used (g : Nat) : Nat := (((List.range s.npages).reverse.find? (fun p => !(s.readPage (s.pageAddr g p) []).erased)).map (· + 1)).getD 0
      let s1 := s.onAnc (fun a => { a with
        sbA := sbs.headD 0, sbB := (sbs.drop 1).headD 1, sbPageA := used (sbs.headD 0), sbPageB := used ((sbs.drop 1).headD 1)
        generation := field sb 8 8, formatTime := field sb 0x10 8, ckBlocks := blocks, ckPage := page, ckPrevPage := prev })
      let r := replay (2 ^ 17) (s1.loadCheckpoint b, ⟨[], none, false, true, false⟩)
      let s2 := r.1
      let s3 := s2.onAnc (fun a => { a with
        nextSeq := a.commitSeq + 1
        blocks := a.blocks.map (fun x => if x.2.state = Nb.open_ then (x.1, { x.2 with state := Nb.full }) else x) })
      let s4 := ((s3.blocksIn (· == Nb.erasePending)).foldl State.eraseBlock s3).resume r.2.next (((s.readCheckpoint prev).map (·.2)).getD [])
      let s5 := if r.2.clean then s4 else s4.newPair
      let s6 := (State.ancDrain 100000 (s5.openAhead s5.openTarget).takeCheckpoint.wantCommit)
      let s7 := if r.2.short then (s6.post .anc AncCode.journalShort (s2.anc.commit % 65536)).raise .anc F.ANC_IRQ_STATUS.JOURNAL_SHORT else s6.show .anc 0 0
      let s8 := if s7.anc.gapDue || r.2.short then s7.archived.foldl State.askBoundary s7.openSpans else s7
      (s8.setFld F.ANC_STATUS.STATE Anc.ready).raise .anc F.ANC_IRQ_STATUS.MOUNTED

/-- A mount starts where an ARCHIVE_POLICY is in force; a setting out of range keeps the ANC OFF (Table 12-9). -/
def State.startMount (s : State) : State :=
  if !imgHas s.sil.active Sec.archivePolicy then s
  else match ancCheck s.fld with
    | some d => ((s.setFld F.ANC_STATUS.STATE Anc.off).post .anc AncCode.badConfig d).ancVote
    | none => ((s.ancLose).setFld F.ANC_STATUS.STATE Anc.mounting).ancVote

/-- The ANC mounts where a policy is in force, else it is OFF (Table 12-9). -/
def State.mountOrOff (s : State) : State :=
  if imgHas s.sil.active Sec.archivePolicy then s.startMount else (s.setFld F.ANC_STATUS.STATE Anc.off).ancVote

/-! ### Format (R376) -/

/-- Format ends: factory-bad and failed blocks recorded, every other block erased, the first checkpoint, journal pair and
superblock written; the ANC mounts. -/
def State.formatDone (s : State) (bad failed : List Nat) : State :=
  let s0 := s.ancLose.onAnc (fun a => { a with
    pages := tabDrop (fun x => !superBlock (s.blockOf x)) a.pages, commit := 0, commitSeq := 0, nextSeq := 1, oldest := 1, blockSeq := 0, generation := 0, formatTime := s.timeNs, time := 0
    timeAt := s.now, passStart := 0, ckPage := 0, ckPrevPage := 0 })
  let s1 := bad.foldl (fun a g => a.setNblk g (fun b => { b with state := Nb.factoryBad })) s0
  let s2 := failed.foldl (fun a g => if bad.contains g then a else
    ((a.setNblk g (fun b => { b with state := Nb.grownBad })).post .anc AncCode.eraseFail 0).raise .anc F.ANC_IRQ_STATUS.GROWN_BAD) s1
  let sbs := (List.range (min 8 s2.nblocks)).filter (fun g => decide ((s2.nblk g).state < 7))
  let s3 := sbs.foldl (fun a g => a.setNblk g (fun b => { b with state := Nb.super })) s2
  let s4 := s3.onAnc (fun a => { a with sbA := sbs.headD 0, sbB := (sbs.drop 1).headD 1, sbPageA := 0, sbPageB := 0 })
  let s5 := (State.ancDrain 100000 s4.newPair)
  (s5.onAnc (fun a => { a with jDone := [], jPrev := [] })).mountOrOff

/-! ### Flush and PWRFAIL_N (R377, R379) -/

/-- A flush request (Table 12-9). -/
def State.ancFlush (s : State) : State :=
  let st := s.ancState
  if st = Anc.ready then (((s.setFld F.ANC_STATUS.STATE Anc.flushing).onAnc (fun a => { a with flushing := true })).wantCommit).ancStep
  else if st = Anc.unformatted ∨ st = Anc.fault then (s.setFld F.ANC_STATUS.STATE Anc.off).ancVote
  else s

/-- PWRFAIL_N asserted while enabled (R379). -/
def State.ancPwrfail (s : State) : State :=
  let st := s.ancState
  if st = Anc.mounting ∨ st = Anc.unformatted ∨ st = Anc.formatting then s.ancLose.ancHalted
  else if st = Anc.ready ∨ st = Anc.flushing then
    let here := match s.anc.open_.head? with | some g => s.pageAddr g s.anc.page | none => 0
    let whole (f : FreshRec) : Bool := s.anc.buf.isEmpty || !(s.recPages f.record).contains here
    let s1 := s.onAnc (fun a => { a with halting := true, fresh := a.fresh.filter whole, buf := [], bufFirst := none, wanted := true, ckPhase := 0, flushing := false, moving := [] })
    s1.beginCommit
  else ({ s with pmu := { s.pmu with pwrfailHold := false } }).repower

/-- A DRAM-domain reset (R378, Table 12-9): the tables and staging rings are lost. -/
def State.ancDramReset (s : State) : State :=
  let st := s.ancState
  let s1 := (s.noteLost.loseRings.refuseWaits.ancLose).onAnc (fun a => { a with gapDue := true })
  if st = Anc.mounting ∨ st = Anc.unformatted ∨ st = Anc.ready ∨ st = Anc.flushing then s1.startMount
  else s1

/-- The NAND domain leaves RUN for KEEP or OFF: the ANC is OFF. -/
def State.ancPowerDown (s : State) : State := s.refuseWaits.ancLose.setFld F.ANC_STATUS.STATE Anc.off

/-- The NAND domain reaches RUN (R364). -/
def State.ancWake (s : State) : State := if s.ancState = Anc.off then s.startMount else s

/-- An image switch (Table 12-9): a new policy mounts, a removed one flushes, a bad one is reported. -/
def State.ancSwitch (s : State) : State :=
  let policy := imgHas s.sil.active Sec.archivePolicy
  if policy then
    if s.ancState = Anc.off then (if s.unitOn .anc then s.startMount else s.ancVote)
    else match ancCheck s.fld with
      | some d => s.post .anc AncCode.badConfig d
      | none => s
  else s.ancFlush.ancVote

/-! ### Commands -/

/-- A page program or erase ends. -/
def execPageProgramDone (fail : Bool) (s : State) : Host.Outcome State Fault Refusal :=
  .next (if s.anc.ops.isEmpty then s else (s.opDone fail).ancStep)

/-- NAND_OP_TIMEOUT: the oldest operation is handled as a FAIL; the target's RESET leaves nothing in the model (R348). -/
def execNandOpTimeout (s : State) : Host.Outcome State Fault Refusal :=
  .next (if s.anc.ops.isEmpty then s else (s.opDone true).ancStep)

/-- COMMIT_MS_EXPIRY: COMMIT_MS since the first uncommitted program (R360). -/
def execCommitMsExpiry (t : Nat) (s : State) : Host.Outcome State Fault Refusal :=
  let s1 := s.at_ t
  .next (match s1.anc.firstAt with
    | some a => if s1.now ≥ a + msec * s1.fld F.ANC_POL1.COMMIT_MS then s1.wantCommit.ancStep else s1
    | none => s1)

/-- CHECKPOINT_WRITTEN (R362). -/
def execCheckpointWritten (s : State) : Host.Outcome State Fault Refusal :=
  .next (if s.anc.ckPhase = 2 ∧ !s.anc.ops.any (·.kind == .checkpoint) then s.checkpointWritten.ancStep else s)

/-- NAND_ZQ_CALIBRATION: ZQ calibration long, every 128 ms in NV-DDR3; nothing the spec names changes (R348). -/
def execNandZqCalibration (s : State) : Host.Outcome State Fault Refusal := .next s

/-- FORMAT_COMPLETE: `bad` the factory-bad blocks found, `failed` those that failed to erase (R376). -/
def execFormatComplete (bad failed : List Nat) (s : State) : Host.Outcome State Fault Refusal :=
  .next (if s.unitOn .anc && s.ancState == Anc.formatting then s.formatDone bad failed else s)

/-- FLUSH_COMPLETE (R377): the ANC is OFF, and mounts where a policy has come into force again (Table 12-9). -/
def execFlushComplete (s : State) : Host.Outcome State Fault Refusal :=
  let a := s.anc
  .next (if s.ancState = Anc.flushing ∧ !a.flushing ∧ a.ckPhase = 0 ∧ a.ops = [] ∧ a.job.isNone ∧ !a.wanted then
      let z := ((s.ancLose).setFld F.ANC_STATUS.STATE Anc.off).ancVote
      if z.unitOn .anc then z.startMount else z
    else s)

/-- The pin is sampled: where it is newly asserted with PWRFAIL_EN, the hold is set and the ANC halts (17 R457, R379). -/
def State.pwrfailSample (s : State) : State :=
  if s.pmu.pwrfailPin && s.flag F.PMU_CFG.PWRFAIL_EN && !s.flag F.PMU_STATUS.PWRFAIL then
    let s1 := ({ s with pmu := { s.pmu with pwrfailHold := true } }).repower
    ((s1.setFld F.PMU_STATUS.PWRFAIL 1).raise .pmu F.PMU_IRQ_STATUS.PWRFAIL).ancPwrfail
  else if s.flag F.PMU_CFG.PWRFAIL_EN then s
  else s.setFld F.PMU_STATUS.PWRFAIL 0

/-- PWRFAIL_ASSERT: the pin is asserted. -/
def execPwrfailAssert (s : State) : Host.Outcome State Fault Refusal :=
  .next (({ s with pmu := { s.pmu with pwrfailPin := true } }).pwrfailSample)

/-- PWRFAIL_RELEASE: inactive for 10 ms without a reset; a HALTED ANC mounts (R379). -/
def execPwrfailRelease (s : State) : Host.Outcome State Fault Refusal :=
  let s1 := ({ s with pmu := { s.pmu with pwrfailPin := false } }).setFld F.PMU_STATUS.PWRFAIL 0
  .next (if s1.ancState = Anc.halted ∧ s.pmu.pwrfailPin then s1.startMount else s1)

/-- A request for a READY archive; otherwise, and once PWRFAIL_N has stopped it (log entry 168), it is refused NOT_MOUNTED. -/
def State.whenReady (s : State) (v : Via) (act : State → State) : State :=
  if s.ancTakes then act s else s.finish v .anc AncCode.notMounted 0

/-- ARC_COMMIT, or COMMIT_NOW: the answer waits for the commit (R360). -/
def execArcCommit (via : Via) (s : State) : Host.Outcome State Fault Refusal :=
  .next (s.withRequest via [0x0703] (fun s => s.onUnit via .anc R.ANC_CTRL (fun s => s.whenReady via (fun s =>
    ((s.onAnc (fun a => { a with waits := a.waits ++ [.commit via] })).wantCommit).ancStep))))

/-- ARC_DELETE: DATA and GAP records up to a sequence (R370). -/
def execArcDelete (o : Origin) (seq : Word) (s : State) : Host.Outcome State Fault Refusal :=
  let v : Via := .msg o seq
  .next (s.withRequest v [0x0702] (fun s => s.onUnit v .anc R.ANC_CTRL (fun s => s.whenReady v (fun s =>
    let n := field (s.payload v) 0 8
    if n > s.anc.commitSeq then s.finish v .anc AncCode.badArg 0
    else ((s.onAnc (fun a => { a with deleted := addDelete a.deleted n 1, waits := a.waits ++ [.delete v] })).wantCommit).ancStep))))

/-- ARC_READ: a record by sequence; `flips` the bits (page, bit) that read wrong in each attempt (R367, R368).
The request waits during a DMC freeze, for the tables lie in DRAM (R378). -/
def execArcRead (o : Origin) (seq : Word) (flips : List (List (Nat × Nat))) (s : State) : Host.Outcome State Fault Refusal :=
  let v : Via := .msg o seq
  .next (if s.dmcState = Dmc.frozen then s else s.withRequest v [0x0701] (fun s => s.onUnit v .anc R.ANC_CTRL (fun s => s.whenReady v (fun s =>
    let n := field (s.payload v) 0 8
    match (s.anc.recs.find? (·.seq == n)) with
    | none => s.finish v .anc AncCode.badArg 0
    | some r =>
      if n < s.oldestSeq ∨ n > s.anc.commitSeq then s.finish v .anc AncCode.badArg 0
      else
        let x := s.readRecord r flips
        let s1 := (s.noteRead r x).ancStep
        (if x.status = 0 then s1.show .anc 0 0 else s1).toHost o seq 8 x.status Unit.anc.top x.detail x.bytes (leBytes 4 x.bytes.length ++ zeros 4)))))

/-- From the start of a format no superblock can be read, so that the medium mounts as UNFORMATTED until the format has written both copies (R376;
DESIGN CHOICE, log entry 198). -/
def State.dropSuper (s : State) : State :=
  let copy (x : Nat) : Bool := superBlock (s.blockOf x) && (match tabGet (fun _ => none) s.anc.pages x with | some p => tagOk 4 p.main | none => false)
  s.onAnc (fun a => { a with pages := tabDrop copy a.pages })

/-- ARC_FORMAT: every request clears the key; a wrong key is refused BAD_ARG (R376; DEDUCED, log entry 98: the message's KEY is the key it
writes). -/
def execArcFormat (via : Via) (s : State) : Host.Outcome State Fault Refusal :=
  .next (s.withRequest via [0x0704] (fun s => s.onUnit via .anc R.ANC_CTRL (fun s =>
    let key := match via with | .reg _ => (s.reg R.ANC_FORMAT_KEY).toNat | .msg _ _ => field (s.payload via) 0 4
    let s1 := s.setReg R.ANC_FORMAT_KEY 0
    let st := s1.ancState
    if st = Anc.off then s1.finish via .anc AncCode.notMounted 0
    else if st ≠ Anc.unformatted ∧ st ≠ Anc.fault then s1.finish via .anc AncCode.busy 0
    else if key ≠ 0x464F524D then s1.finish via .anc AncCode.badArg 0
    else ((s1.dropSuper.setFld F.ANC_STATUS.STATE Anc.formatting).finish via .anc 0 0).ancVote)))

/-- The registers the ANC computes from its tables, as they read (Table 12-11). -/
def State.ancLive (s : State) (off : Nat) : Option Word :=
  let a := s.anc
  let erases := (a.blocks.filter (fun b => decide (b.2.state < 7))).map (·.2.erase)
  let mounted := !(a.blocks.isEmpty)
  if off = R.ANC_NEXT_SEQ_LO then some (if mounted then w32 a.nextSeq else 0)
  else if off = R.ANC_NEXT_SEQ_HI then some (if mounted then w32 (a.nextSeq / 2 ^ 32) else 0)
  else if off = R.ANC_COMMIT_SEQ_LO then some (if mounted then w32 a.commitSeq else 0)
  else if off = R.ANC_COMMIT_SEQ_HI then some (if mounted then w32 (a.commitSeq / 2 ^ 32) else 0)
  else if off = R.ANC_OLDEST_SEQ_LO then some (if mounted then w32 s.oldestSeq else 0)
  else if off = R.ANC_OLDEST_SEQ_HI then some (if mounted then w32 (s.oldestSeq / 2 ^ 32) else 0)
  else if off = R.ANC_FREE then some (if mounted then w32 s.freeBlocks else 0)
  else if off = R.ANC_BAD then
    some (w32 (min 65535 (s.blocksIn (· == Nb.factoryBad)).length + 65536 * min 65535 (s.blocksIn (fun x => x == 8 || x == 9)).length))
  else if off = R.ANC_ERASE_MAX then some (w32 (erases.foldl max 0))
  else if off = R.ANC_ERASE_MIN then some (if erases.length < s.goodBlocks then 0 else w32 (erases.foldl min (erases.headD 0)))
  else if off = R.ANC_UNCOMMITTED then
    some (w32 (min (2 ^ 17 - 1) (((s.tce.chans.map (fun x => x.2.stagedBytes)).sum + s.uncommitted) / 1024)))
  else if off = R.ANC_STATUS then
    some (s.reg R.ANC_STATUS ||| (if s.pmu.pwrfailPin && s.flag F.PMU_CFG.PWRFAIL_EN then 8 else 0))
  else none

/-- ARC_INFO (18 Table 18-4). -/
def execArcInfo (o : Origin) (seq : Word) (s : State) : Host.Outcome State Fault Refusal :=
  let v : Via := .msg o seq
  .next (s.withRequest v [0x0705] (fun s => s.onUnit v .anc R.ANC_CTRL (fun s =>
    let reg (r : Nat) : Bytes := leBytes 4 ((s.ancLive r).getD 0).toNat
    s.finish v .anc 0 0 (leBytes 8 s.anc.nextSeq ++ leBytes 8 s.anc.commitSeq ++ leBytes 8 s.oldestSeq ++ reg R.ANC_FREE ++ reg R.ANC_STATUS))))

/-- PATROL_NOW: a new pass starts at once (R374). -/
def State.patrolNow (s : State) : State :=
  ((s.setReg R.ANC_PATROL 0).onAnc (fun a => { a with passStart := s.arcTime, corrected := [] }))
def execPatrolNow (src : Src) (s : State) : Host.Outcome State Fault Refusal :=
  .next (s.onUnit (.reg src) .anc R.ANC_CTRL (fun s => s.whenReady (.reg src) (fun s => (s.patrolNow).finish (.reg src) .anc 0 0)))

/-- PATROL_READ: the patrol reads the next block that it covers; `flips` the bits (page, bit) that read wrong. The pass is
behind where less of it is done than its time asks (R374). -/
def State.patrolRead (s : State) (flips : List (Nat × Nat)) : State :=
  let next := s.fld F.ANC_PATROL.NEXT
  let todo := sortBy id ((s.blocksIn (fun x => decide (3 ≤ x ∧ x ≤ 5))).filter (fun g => decide (next ≤ g)))
  match todo with
  | [] => (s.onAnc (fun a => { a with lastPass := some a.corrected })).patrolNow
  | g :: _ =>
    let pages := (List.range s.npages).map (s.pageAddr g)
    let r := s.readPages pages flips
    let x := r.pages
    let s1 := (x.foldl (fun a p => a.notePatrol p.1 p.2) s).notePages x r.bad
    let worst := x.foldl (fun m p => max m p.2) 0
    let old := decide (s1.arcTime - (s1.nblk g).time > 86400 * s1.fld F.ANC_POL3.RETENTION_DAYS)
    let s2 := if worst > s1.fld F.ANC_POL2.REFRESH_BITS ∨ old then s1.retireBlock g else s1
    let s3 := s2.setFld F.ANC_PATROL.NEXT (g + 1)
    let spent := s3.arcTime - s3.anc.passStart
    s3.setFlag F.ANC_PATROL.BEHIND (decide ((g + 1) * (86400 * s3.fld F.ANC_POL2.PATROL_DAYS) < spent * s3.totalBlocks))
def execPatrolRead (flips : List (Nat × Nat)) (s : State) : Host.Outcome State Fault Refusal :=
  .next (if s.ancState = Anc.ready ∧ s.dmcState ≠ Dmc.frozen then (s.patrolRead flips).ancStep else s)

/-- NAND_PAGE_READ_DONE: a page read ends; bits of it have gone wrong on the medium since it was programmed; it counts at
its block, which is moved where a codeword is uncorrectable or its reads reach RD_LIMIT (R351, R373, 21 Table 21-5). -/
def execNandPageReadDone (page : Nat) (flips : List Nat) (s : State) : Host.Outcome State Fault Refusal :=
  .next (if !s.unitOn .anc || !(s.ancState == Anc.ready || s.ancState == Anc.flushing || s.ancState == Anc.mounting) then s
    else
      let s1 := if flips.isEmpty then s else s.onAnc (fun a => { a with pages := tabPut (fun _ => none) a.pages page (some (s.rawPage page flips)) })
      let r := s1.readPage page []
      let s2 := s1.notePages [(page, r.worst)] (if r.clean then [] else [page])
      if s2.ancState = Anc.mounting then s2 else s2.ancStep)

/-- ANC_COUNT_CLR. -/
def State.ancCountClr (s : State) : State :=
  [R.ANC_REPAIRED, R.ANC_CORRUPT, R.ANC_MOVED, R.ANC_CORR_MAX, R.ANC_DROP].foldl (fun a r => a.setReg r 0) s
def execAncCountClr (src : Src) (s : State) : Host.Outcome State Fault Refusal :=
  .next (s.onUnit (.reg src) .anc R.ANC_CTRL State.ancCountClr)

/-- ANC_FAULT_CLR: from FAULT the ANC mounts (Table 12-9). -/
def State.ancFaultClr (s : State) : State := if s.ancState = Anc.fault then s.startMount else s
def execAncFaultClr (src : Src) (s : State) : Host.Outcome State Fault Refusal :=
  .next (s.onUnit (.reg src) .anc R.ANC_CTRL State.ancFaultClr)

/-! ### Taking data and records (R355, R357, R360) -/

/-- A PAYLOAD record of the ZNT or the ALM with who waits for it; false where the log has no room yet. -/
def State.payloadRecord (s : State) (type : Nat) (content : Bytes) (w : Nat → ArcWait) : Bool × State :=
  let r := s.makeRoom (content.length + 96)
  if s.anc.halting then (false, s)
  else if !r.1 then (false, r.2.ancStep)
  else
    let q := s.anc.nextSeq
    let s1 := s.newRecord (s.arcHead type 0xFF) (arcItem 5 content)
    (true, (s1.onAnc (fun a => { a with waits := a.waits ++ [w q] })).wantCommit)

/-- The oldest zone change not yet submitted goes to the archive. One that is not READY refuses it NOT_MOUNTED (R357); during a mount it waits
(R366). -/
def State.submitZone (s : State) : State :=
  match s.znt.changes.findIdx? (fun c => !c.submitted) with
  | none => s
  | some i =>
    match s.znt.changes[i]? with
    | none => s
    | some c =>
      let drop (a : State) : State := { a with znt := { a.znt with changes := a.znt.changes.eraseIdx i } }
      if s.ancState = Anc.mounting then s
      else if s.ancState ≠ Anc.ready then
        (drop ((s.count F.ZNT_CHANGE_COUNT.REFUSED 1).raise .znt F.ZNT_IRQ_STATUS.CHANGE_REFUSED)).finish (.msg c.origin c.seq) .anc AncCode.notMounted 0
      else
        let r := s.payloadRecord 3 c.bytes (.zone c.number)
        if r.1 then ({ r.2 with znt := { r.2.znt with changes := modAt r.2.znt.changes i (fun c => { c with submitted := true }) } }).ancStep
        else r.2

/-- The append at the head of the queue is formed and goes to the archive (20 R504, R505); it waits during a mount (R366). -/
def State.submitCal (s : State) : State :=
  match s.alm.appends with
  | [] => s
  | a :: rest =>
    if !a.record.isEmpty ∨ s.ancState = Anc.mounting then s
    else if s.ancState ≠ Anc.ready then (s.post .anc AncCode.notMounted 0).appendFails AlmCode.notMounted 0
    else
      let head := s.chainHead
      let sub := a.entries.flatMap (walkEntries 1)
      let merged := mergeEntries (recEntries head) sub
      let b := formRecord head merged (imgSerial s.sil.active) s.run (if a.who.isSome then 1 else 2) s.frame s.timeNs (s.lockByte s.ttu.stepped)
      if b.length > 65536 then s.appendFails AlmCode.badRecord (sub.length - 1)
      else
        let r := s.payloadRecord 4 b .cal
        if r.1 then ({ r.2 with alm := { r.2.alm with appends := { a with record := b } :: rest } }).ancStep else r.2

/-- The buffered histories go to the archive as one record (20 R510). One that is not READY refuses them NOT_MOUNTED, and they stay in the buffer
(R357); during a mount, and where there is no archive, they wait. -/
def State.submitHist (s : State) : State :=
  let b := s.alm.buf
  if b.isEmpty ∨ s.ancState = Anc.mounting ∨ !imgHas s.sil.active Sec.archivePolicy then s
  else if s.ancState ≠ Anc.ready then s.post .anc AncCode.notMounted 0
  else
    let r := s.payloadRecord 5 b.flatten (.history b.length)
    if r.1 then (({ r.2 with alm := { r.2.alm with buf := [], firstEvent := none } }).histFill).ancStep else r.2

/-- ARCHIVE_RECORD_SUBMIT: 0 a zone change, 1 a calibration record, 2 the histories. -/
def execArchiveRecordSubmit (kind : Fin 3) (t : Nat) (s : State) : Host.Outcome State Fault Refusal :=
  let s1 := s.at_ t
  .next (match kind with
    | 0 => s1.submitZone
    | 1 => s1.submitCal
    | 2 => s1.submitHist)

/-- Staged items before the first block with HIST_RESET are discarded (R355); headers they held are kept in mind. -/
def State.skipStaged (s : State) (c : Nat) : State :=
  let l := (s.tch c).staged
  let marks := blockMarks 0 l
  let before := marks.takeWhile (fun x => !x.2)
  let n := match before.getLast? with | some (i, _) => i + 1 | none => 0
  let hs := (l.take n).foldl (fun h x => match x with | .header f b => (f, b) :: h | _ => h) (s.knownHeaders c)
  let s1 := (s.dropStaged c n).keepHeaders c hs
  if marks.length > before.length then s1.onAnc (fun a => { a with skip := a.skip.filter (· != c) }) else s1

/-- The span open for a channel is closed by the frame its next record begins with. A span of R365 is committed before new data are taken. -/
def State.closeSpan (s : State) (g : ArcGap) (h : ArcHead) : State :=
  let s1 := s.onAnc (fun a => { a with spans := a.spans.filter (·.chan != g.chan) })
  if g.run = h.run ∧ h.first ≤ g.first then s1
  else
    let m := s.makeRoom 120
    if !m.1 then m.2
    else
      let s2 := (s1.gapRecord g.chan ⟨g.cause, g.chan, 0xFFFF, g.run, g.first, h.run, h.first, g.head⟩).wantCommit
      if g.cause ≥ 7 then s2.onAnc (fun a => { a with gapSeq := a.nextSeq - 1 }) else s2

/-- A record read from a channel's ring is programmed; a full archive under STOP refuses it; the gap before it, and a commit where COMMIT_MIB would
be passed, come first (R355, R360, R365, R369). -/
def State.takeRecord (s0 : State) (c n : Nat) (items : List RingItem) : State :=
  let d := s0.dataRecord c items
  let h := d.1
  if s0.anc.full && s0.fld F.ANC_POL2.FULL_POLICY == 1 then
    let s1 := (s0.dropStaged c n).keepHeaders c d.2.2
    let s2 := s1.count F.ANC_DROP.COUNT 1
    if s2.anc.refused.any (·.chan == c) then s2
    else s2.onAnc (fun a => { a with refused := a.refused ++ [⟨c, 6, h.run, h.first, ⟨h.epoch, h.serial, h.lock⟩⟩] })
  else match s0.anc.refused.find? (·.chan == c) with
  | some g =>
    (s0.askBoundary c).onAnc (fun a => { a with refused := a.refused.filter (·.chan != c), spans := a.spans.filter (·.chan != c) ++ [g], skip := c :: a.skip })
  | none =>
    match s0.anc.spans.find? (·.chan == c) with
    | some g => s0.closeSpan g h
    | none =>
      if s0.anc.commitSeq < s0.anc.gapSeq then s0
      else
        let m := s0.makeRoom (80 + d.2.1.length)
        if !m.1 then m.2 else (((s0.newRecord h d.2.1).dropStaged c n).keepHeaders c d.2.2)

/-- Frames before a place are delivered or lost, so that nothing more of them can come to the archive. -/
def State.doneBefore (s : State) (m : Nat) : Bool :=
  let before (f : Nat) : Bool := decide (runFrame s.run f < m)
  let late (d : Dispatch) : Bool := before d.frame
  let past (t : Option Nat) : Bool := match t with | some t => decide (t ≤ s.now) | none => false
  !s.mrs.queue.any late && !s.mrs.groups.any (fun g => g.2.ring.any late || g.2.open_.any late)
    && !(s.therm.due ++ s.therm.jobs ++ s.therm.brilWait).any (fun j => before j.last)
    && s.mrs.frames.all (fun f => !decide (runFrame (field f.header 4 4) f.num < m) || !f.real || f.lost || f.diag || past (s.horizon f))

/-- A record ends with what is staged: the TCE takes no more, or a close event has passed and all of the channel that came before it is staged (R302,
R355). -/
def State.recordCloses (s : State) (c : Nat) : Bool :=
  s.fld F.TCE_STATUS.STATE != Blk.running
    || (match s.tce.marks.head? with | some m => (s.tch c).mark != some m && (s.tceFrames c).isEmpty && s.doneBefore m | none => false)

/-- The next DATA record of a channel is taken from its ring (R355). -/
def State.takeData (s : State) (c : Nat) : State :=
  let s0 := if s.anc.skip.contains c then s.skipStaged c else s
  let x := s0.tch c
  match recordEnd (s0.fld F.ANC_POL0.RECORD_BLOCKS) (s0.recordCloses c) x.staged with
  | none => s0
  | some n =>
    let it := State.readItems (x.staged.take n) s0
    match it.2 with
    | none => it.1
    | some items => it.1.takeRecord c n items

/-- STAGED_RECORD_PROGRAM. -/
def execStagedRecordProgram (c : Fin 32) (s : State) : Host.Outcome State Fault Refusal :=
  .next (if s.unitOn .anc && (s.ancState == Anc.ready || s.ancState == Anc.flushing) && !s.anc.halting && s.dmcServes then
      (s.takeData c.val).judgeSpace.ancStep.tceStall
    else s)

end Sys2Proof.Machine
end

