-- ==== Sys2Proof/Machine/Csp.lean ====
section
/-! DEFINITION. Chorus: training and membership, forwarded requests and their checks, partner traces and cascade-wide commits
(19 R484-R495). -/

namespace Sys2Proof.Machine

/-- CSP states and codes (19 Tables 19-4, 19-5). -/
abbrev Csp.off : Nat := 0
abbrev Csp.training : Nat := 1
abbrev Csp.standalone : Nat := 2
abbrev Csp.head : Nat := 3
abbrev Csp.member : Nat := 4
abbrev CspCode.badConfig : Nat := 1
abbrev CspCode.busy : Nat := 2
abbrev CspCode.noHead : Nat := 3
abbrev CspCode.headConflict : Nat := 4
abbrev CspCode.full : Nat := 5
abbrev CspCode.memberLost : Nat := 6
abbrev CspCode.headLost : Nat := 7
abbrev CspCode.quarantined : Nat := 9

def State.cspState (s : State) : Nat := s.fld F.CSP_STATUS.STATE
def State.onCsp (s : State) (f : CspSt → CspSt) : State := { s with csp := f s.csp }

/-- Die identity of this chip as a number (20 R496). -/
def State.dieId (s : State) : Nat := (List.range 4).foldl (fun a i => a + 2 ^ (32 * i) * (s.reg (R.ALM_DIE_IDi i)).toNat) 0

/-- The CHORUS owner's vote: RUN in TRAINING, HEAD and MEMBER (R495). -/
def State.cspVote (s : State) : State :=
  let st := s.cspState
  s.vote (.unit .csp) 12 (if st = Csp.training ∨ st = Csp.head ∨ st = Csp.member then 0 else 3)

/-! ### Training (R486, R487) -/

/-- Training starts: indexes are to be assigned anew. -/
def State.cspTrain (s : State) : State :=
  let s1 := s.onCsp (fun c => { c with beaten := false, index := none, full := false, ring := false, trainAt := some s.now, up := 1, last := 15 })
  let s2 := (s1.setFld F.CSP_STATUS.STATE Csp.training).setFld F.CSP_STATUS.RING 0
  ((s2.setFld (F.CSP_PORTp_STATUS.LINK 0) 1).setFld (F.CSP_PORTp_STATUS.LINK 1) 1).cspVote

/-- CHORUS reaches RUN with EN = 1. -/
def State.cspWake (s : State) : State :=
  if s.cspState = Csp.off ∧ s.flag F.CSP_CFG.EN then s.cspTrain else s

/-- The head answers NO_MEMBER for what it forwarded to members (18 R476). -/
def State.cspNoMember (s : State) (gone : Nat → Bool) : State :=
  (s.hif.reqs.filter (fun r => gone r.member && !r.here)).foldl (fun a r => a.answer r.origin r.seq 4 18 0 []) s

/-- A lost member, or one that has lost its head, discards forwarded requests it has not answered (R490). -/
def State.cspDiscard (s : State) : State :=
  let mine (r : Req) : Bool := match r.origin with | .chorus _ => true | .session _ => false
  { s with hif := { s.hif with reqs := s.hif.reqs.filter (fun r => !mine r) } }

/-- A cascade is left, or numbered anew: what it held is gone, and its unanswered requests end as those of a lost member do. -/
def State.cspForget (s : State) : State :=
  ((s.cspNoMember (fun _ => true)).cspDiscard).onCsp (fun c => { c with rx := [], tx := [], sent := [], prepare := none, trace := [], data := [] })

/-- A cascade-wide commit ends without its record; one whose record is appended goes on (R494). -/
def State.ccDrop (s : State) : State :=
  match s.csp.job with
  | some j => if j.appended then s else s.ccAbort
  | none => s

/-- The map and the number of chips in it. -/
def State.setMap (s : State) (map : Nat) : State :=
  let m := map % 65536
  if m = s.fld F.CSP_MAP.MAP then s
  else
    let n := (List.range 16).foldl (fun k i => if bitAt m i then k + 1 else k) 0
    ((s.setFld F.CSP_MAP.MAP m).setFld F.CSP_MAP.MEMBERS n).raise .csp F.CSP_IRQ_STATUS.MAP_CHANGE

/-- CHORUS leaves RUN: the chip leaves the cascade (R495). -/
def State.cspSleep (s : State) : State :=
  if s.cspState = Csp.off then s
  else
    let s1 := (s.ccDrop.cspForget).onCsp (fun c => { c with trainAt := none, job := none })
    let s2 := ((s1.setFld F.CSP_STATUS.STATE Csp.off).setFld F.CSP_STATUS.RING 0).setFld F.CSP_STATUS.INDEX 0
    (((s2.setMap 0).setFld (F.CSP_PORTp_STATUS.LINK 0) 0).setFld (F.CSP_PORTp_STATUS.LINK 1) 0).cspVote

/-- A training event. -/
def State.cspEvent (s : State) (code : Nat) : State := (s.post .csp code 0).raise .csp F.CSP_IRQ_STATUS.TRAIN_EVENT

/-- TRAIN: CSP_CTRL.TRAIN (Table 19-4). -/
def execTrain (src : Src) (s : State) : Host.Outcome State Fault Refusal :=
  .next (s.onUnit (.reg src) .csp R.CSP_CTRL (fun s => if s.cspState = Csp.off then s else s.cspTrain))

/-- HELLO: a neighbour's die identity and HEAD bit. Of two candidates the one with the lower identity becomes head. -/
def execHello (_port : Fin 2) (die : BitVec 128) (head : Bool) (s : State) : Host.Outcome State Fault Refusal :=
  .next (if s.unitOn .csp && s.cspState == Csp.training && head && s.flag F.CSP_CFG.HEAD && decide (die.toNat < s.dieId) && !s.csp.beaten then
      (s.onCsp (fun c => { c with beaten := true })).cspEvent CspCode.headConflict
    else s)

/-- ENUM: the token comes with the sender's index. At the head it closes the ring on CS1; another chip takes the next index and
forwards it, and one that would receive 16 does neither (R486, R487). -/
def execEnum (port : Fin 2) (index : Fin 16) (s : State) : Host.Outcome State Fault Refusal :=
  .next (if !s.unitOn .csp || s.cspState != Csp.training then s
    else if s.flag F.CSP_CFG.HEAD && !s.csp.beaten then
      (if port.val = 1 ∧ s.csp.last = 15 then s.onCsp (fun c => { c with ring := true }) else s)
    else if s.csp.index.isSome then s
    else if index.val = 15 then (s.onCsp (fun c => { c with full := true })).cspEvent CspCode.full
    else
      let i := index.val + 1
      let s1 := s.onCsp (fun c => { c with index := some i, up := port.val })
      s1.give (.chorus (1 - port.val) (chorusFrame 2 i 0 0 0 [])))

/-- ENUM_TIMEOUT: no token within 1 ms; the head numbers on out of CS1 from the last index assigned, as a chain. -/
def execEnumTimeout (last : Fin 16) (s : State) : Host.Outcome State Fault Refusal :=
  .next (if s.unitOn .csp && s.cspState == Csp.training && s.flag F.CSP_CFG.HEAD && !s.csp.beaten && !s.csp.ring then
      (s.onCsp (fun c => { c with last := last.val })).give (.chorus 1 (chorusFrame 2 last.val 0 0 0 []))
    else s)

/-- TRAINING_END: the map the head distributes, its die identity, and which ports are up: HEAD, MEMBER, or STANDALONE. -/
def execTrainingEnd (map : BitVec 16) (die : BitVec 128) (up : BitVec 2) (s : State) : Host.Outcome State Fault Refusal :=
  .next (if !s.unitOn .csp || s.cspState != Csp.training then s
    else
      let s0 := (List.range 2).foldl (fun (a : State) p =>
        (a.setFld (F.CSP_PORTp_STATUS.LINK p) (if up.getLsbD p then 2 else 0)).setFld (F.CSP_PORTp_STATUS.LANES p) (if up.getLsbD p then 15 else 0))
        s.cspForget
      let ident (a : State) (d : Nat) : State := (List.range 4).foldl (fun b i => b.setReg (R.CSP_GROUP_IDi i) (w32 (d / 2 ^ (32 * i)))) a
      let join (a : State) (st i : Nat) : State :=
        ((a.setFld F.CSP_STATUS.STATE st).setFld F.CSP_STATUS.INDEX i).setFlag F.CSP_STATUS.RING a.csp.ring
      if s.flag F.CSP_CFG.HEAD && !s.csp.beaten then
        (((ident (join s0 Csp.head 0) s.dieId).setMap (map.toNat ||| 1)).onCsp (fun c => { c with period := s.now })).cspVote
      else match s.csp.index with
        | some i => ((ident (join s0 Csp.member i) die.toNat).setMap (map.toNat ||| 1 ||| 2 ^ i)).cspVote
        | none =>
          let a := ((s0.setFld F.CSP_STATUS.STATE Csp.standalone).setFld F.CSP_STATUS.INDEX 0).setMap 0
          (if s.csp.full then a else a.cspEvent CspCode.noHead).cspVote)

/-- HELLO_TIMER: an idle link sends HELLO with this chip's die identity and HEAD bit (R490). -/
def execHelloTimer (port : Fin 2) (s : State) : Host.Outcome State Fault Refusal :=
  .next (if s.unitOn .csp && s.cspState != Csp.off then
      s.give (.chorus port.val (chorusFrame 1 (s.fld F.CSP_STATUS.INDEX) 0 0 0 (leBytes 16 s.dieId ++ leBytes 1 (s.fld F.CSP_CFG.HEAD))))
    else s)

/-! ### Loss (R490) -/

/-- MEMBER_LOST: no frame from a member for 1 ms. At the head the member leaves the map; a chip that has lost its head retrains
(Table 19-5). -/
def execMemberLost (m : Fin 16) (s : State) : Host.Outcome State Fault Refusal :=
  .next (if !s.unitOn .csp then s
    else if s.cspState = Csp.head ∧ m.val ≠ 0 ∧ bitAt (s.fld F.CSP_MAP.MAP) m.val then
      let s1 := s.setMap (s.fld F.CSP_MAP.MAP - 2 ^ m.val)
      let s2 := (s1.post .csp CspCode.memberLost m.val).raise .csp F.CSP_IRQ_STATUS.MEMBER_LOST
      ((s2.onCsp (fun c => { c with sent := c.sent.filter (fun x => x.1 != m.val) })).cspNoMember (· == m.val)).ccDrop
    else if s.cspState = Csp.member ∧ m.val = 0 then
      ((((s.post .csp CspCode.headLost 0).raise .csp F.CSP_IRQ_STATUS.MEMBER_LOST).onCsp (fun c => { c with prepare := none })).cspDiscard).cspTrain
    else s)

/-- A link of a port goes down. -/
def State.cspLinkDown (s : State) (port : Nat) : State :=
  if s.cspState = Csp.off then s
  else
    let s1 := (s.setFld (F.CSP_PORTp_STATUS.LINK port) 0).setFld (F.CSP_PORTp_STATUS.LANES port) 0
    if s1.cspState = Csp.head ∨ s1.cspState = Csp.member then s1 else s1.cspTrain

/-- LINK_DOWN: a link goes down; TRAINING restarts and STANDALONE trains at once, HEAD and MEMBER when 1 ms has passed
(`later`). -/
def execLinkDown (port : Fin 2) (later : Bool) (s : State) : Host.Outcome State Fault Refusal :=
  .next (if !s.unitOn .csp then s
    else if later then
      (if (s.cspState = Csp.head ∨ s.cspState = Csp.member) ∧ s.fld (F.CSP_PORTp_STATUS.LINK port.val) = 0 then s.cspTrain else s)
    else s.cspLinkDown port.val)

/-- HOP_RETRANSMIT: a frame is rejected or unacknowledged; up to 8 retransmissions are made and counted, and the ninth failure
takes the link down. `made` counts those already made. -/
def execHopRetransmit (port : Fin 2) (made : Fin 9) (s : State) : Host.Outcome State Fault Refusal :=
  .next (if !s.unitOn .csp || s.cspState == Csp.off then s
    else if made.val < 8 then s.count (F.CSP_PORTp_STATUS.RETRY port.val) 1
    else s.cspLinkDown port.val)

/-- CHORUS_CRC_REJECT: a frame with a bad CRC is discarded and counted (R485). -/
def execChorusCrcReject (s : State) : Host.Outcome State Fault Refusal :=
  .next (if s.unitOn .csp then s.count F.CSP_ERR_COUNT.CRC_REJECT 1 else s)

/-- CSP_COUNT_CLR. -/
def State.cspCountClr (s : State) : State :=
  (List.range 2).foldl (fun a p => a.setFld (F.CSP_PORTp_STATUS.RETRY p) 0) (s.setReg R.CSP_ERR_COUNT 0)
def execCspCountClr (src : Src) (s : State) : Host.Outcome State Fault Refusal :=
  .next (s.onUnit (.reg src) .csp R.CSP_CTRL State.cspCountClr)

/-! ### Frames between chips (R488, R489) -/

/-- Receiving state of a source. -/
def State.pairRx (s : State) (m : Nat) : PairRx := tabGet (fun _ => ⟨0, [], false⟩) s.csp.rx m
def State.setPairRx (s : State) (m : Nat) (x : PairRx) : State :=
  s.onCsp (fun c => { c with rx := tabPut (fun _ => ⟨0, [], false⟩) c.rx m x })

/-- Fields of a frame (Table 19-1). -/
abbrev Cf.type (b : Bytes) : Nat := field b 0 1
abbrev Cf.src (b : Bytes) : Nat := field b 1 1
abbrev Cf.dst (b : Bytes) : Nat := field b 2 1
abbrev Cf.seq (b : Bytes) : Word := w32 (field b 4 4)
abbrev Cf.len (b : Bytes) : Nat := field b 8 4
abbrev Cf.arg (b : Bytes) : Nat := field b 12 4
def Cf.payload (b : Bytes) : Bytes := (b.drop 16).take (Cf.len b)

/-- The checks of R469 and R470 as R488 reads them; none accepts. -/
def State.cspCheck (s : State) (b : Bytes) : Option Nak :=
  let t := Cf.type b
  let x := s.pairRx (Cf.src b)
  let p := Cf.payload b
  let slot := t == 3 || t == 4
  let waiting := (s.hif.reqs.filter (fun r => match r.origin with | .chorus m => m.val == Cf.src b | .session _ => false)).length
  let len := field p 0 2
  let pay := (p.take len).drop 16
  if x.quarantined then some .quarantined
  else if t = 3 ∧ waiting + 1 > 64 then some .windowOverflow
  else if Cf.len b > 65536 ∨ b.length ≠ 20 + Cf.len b ∨ (slot ∧ (len < 16 ∨ len > 64 ∨ len % 8 ≠ 0)) then some .badLength
  else if t = 0 ∨ t > 9 then some .unknownOpcode
  else match (if slot then payloadSize (field p 2 2) pay else some 0) with
    | none => some .unknownOpcode
    | some k =>
      if t = 3 ∧ len ≠ 16 + 8 * ((k + 7) / 8) then some .badLength
      else match seqCheck x.expect (Cf.seq b) 64 with
        | some n => some n
        | none =>
          if field b 3 1 ≠ 0 ∨ Cf.src b ≥ 16 ∨ Cf.dst b ≠ s.fld F.CSP_STATUS.INDEX ∨ Cf.arg b ≠ 0
            ∨ (t = 3 ∧ (field p 5 1 ≠ s.fld F.CSP_STATUS.INDEX ∨ field p 6 2 ≠ 0 ∨ field p 12 4 ≠ 0
              ∨ field p 2 2 / 256 = 1 ∨ !zeroAt pay k (pay.length - k) ∨ !fieldsOk (field p 2 2) pay)) then some .malformed
          else none

/-- The violation 64 before now lies within 1 s (18 R471). -/
def quickViolations (now : Nat) (hist : List Nat) : Bool :=
  match hist[63]? with
  | some t => decide (now - t ≤ second)
  | none => false

/-- A failing frame: NAKed with the offending SEQ; but for QUARANTINED counted, logged with ORIGIN 1, and the source quarantined
at its 65th violation within 1 s (R488, R489). -/
def State.cspNak (s : State) (b : Bytes) (k : Nak) : State :=
  let m := Cf.src b % 16
  let back (a : State) : State := a.give (.chorus (a.chorusPort m) (chorusFrame 9 (a.fld F.CSP_STATUS.INDEX) m (Cf.seq b).toNat 0 (leBytes 1 k.code)))
  if k = .quarantined then back s
  else
    let x := s.pairRx m
    let q := quickViolations s.now x.hist
    let op := if Cf.type b = 3 ∨ Cf.type b = 4 then field (Cf.payload b) 2 2 else 0
    let s1 := (s.setPairRx m { x with hist := (s.now :: x.hist).take 64, quarantined := x.quarantined || q }).logViolation
      (256 * k.code + 65536 * op) (Cf.seq b) m true
    let s2 := s1.count F.CSP_ERR_COUNT.VIOLATIONS 1
    let s3 := if q then ((s2.post .csp CspCode.quarantined m).raise .csp F.CSP_IRQ_STATUS.QUARANTINE).raise .hif F.HIF_IRQ_STATUS.QUARANTINE
      else s2
    back s3

/-- A REQUEST, ANSWER, DATA or TRACE frame, or one of an unknown type, arrives: one for another chip of the map passes on, one
for this chip is checked and takes its effect. Frames reach a HEAD or MEMBER alone. -/
def State.cspFrame (s : State) (port : Nat) (b : Bytes) (act : State → State) : State :=
  if !s.unitOn .csp || !(s.cspState == Csp.head || s.cspState == Csp.member) then s
  else if Cf.dst b ≠ s.fld F.CSP_STATUS.INDEX ∧ bitAt (s.fld F.CSP_MAP.MAP) (Cf.dst b) then s.give (.chorus (1 - port) b)
  else match s.cspCheck b with
    | some k => s.cspNak b k
    | none =>
      let x := s.pairRx (Cf.src b)
      act (s.setPairRx (Cf.src b) { x with expect := x.expect + 1 })

/-- REQUEST: a forwarded request becomes an accepted request of this chip, known by its frame's SEQ. A frame of an unknown type
comes here too, and fails its checks. -/
def execRequest (port : Fin 2) (b : List (BitVec 8)) (s : State) : Host.Outcome State Fault Refusal :=
  .next (if Cf.type b = 3 ∨ Cf.type b = 0 ∨ Cf.type b > 9 then s.cspFrame port.val b (fun s =>
      let p := Cf.payload b
      let r : Req := ⟨.chorus (Fin.ofNat 16 (Cf.src b)), Cf.seq b, field p 2 2, field p 5 1, (p.take (field p 0 2)).drop 16, false,
        (field p 4 1, w32 (field p 8 4))⟩
      { s with hif := { s.hif with reqs := s.hif.reqs ++ [r] } })
    else s)

/-- ANSWER: a member's result goes to its session with the header the request had (18 R476). -/
def execAnswer (port : Fin 2) (b : List (BitVec 8)) (s : State) : Host.Outcome State Fault Refusal :=
  .next (if Cf.type b = 4 then s.cspFrame port.val b (fun s =>
      let p := Cf.payload b
      let n := field p 4 1
      let q := w32 (field p 8 4)
      match s.hif.reqs.find? (fun r => r.origin = .session (Fin.ofNat 256 n) ∧ r.seq = q ∧ r.member = Cf.src b) with
      | none => s
      | some r =>
        let s1 : State := { s with
          hif := { s.hif with reqs := s.hif.reqs.erase r }
          csp := { s.csp with sent := s.csp.sent.filter (fun x => !(x.2.2.1 == r.origin && x.2.2.2 == q)), data := s.csp.data.filter (fun d => !(d.1 == r.origin && d.2.1 == q)) } }
        if r.orphan then s1 else s1.putAnswer n (modAt (fitBytes 64 p) 7 (· &&& 0x7F)))
    else s)

/-- Place of the host buffer in a request's payload. -/
def hbOffset (op : Nat) : Nat :=
  match op with
  | 0x0804 | 0x0805 => 0
  | 0x0802 => 16
  | _ => 8

/-- DATA: bytes of a request's host buffer, which the operand names: the head writes them on in host memory; a member collects
those of a request it executes. -/
def execData (port : Fin 2) (b : List (BitVec 8)) (o : Origin) (seq : Word) (s : State) : Host.Outcome State Fault Refusal :=
  .next (if Cf.type b = 5 then s.cspFrame port.val b (fun s =>
      let got := match s.csp.data.find? (fun d => d.1 == o && d.2.1 == seq) with | some d => d.2.2 | none => []
      let keep (a : State) : State := a.onCsp (fun c => { c with
        data := c.data.filter (fun d => !(d.1 == o && d.2.1 == seq)) ++ [(o, seq, got ++ Cf.payload b)] })
      match s.request o seq with
      | none => s
      | some r =>
        if r.here then keep s
        else (keep s).give (.hostWrite (field r.payload (hbOffset r.opcode) 8 + got.length) (Cf.payload b)))
    else s)

/-- CHORUS_NAK: a frame this chip sent is NAKed; a forwarded request ends with that NAK. -/
def execChorusNak (b : List (BitVec 8)) (s : State) : Host.Outcome State Fault Refusal :=
  .next (if s.unitOn .csp && Cf.type b == 9 then
      match s.csp.sent.find? (fun x => x.1 == Cf.src b && x.2.1 == (Cf.seq b).toNat) with
      | none => s
      | some x =>
        let s1 := s.onCsp (fun c => { c with sent := c.sent.erase x })
        match s1.request x.2.2.1 x.2.2.2, x.2.2.1 with
        | some r, .session n =>
          let s2 : State := { s1 with hif := { s1.hif with reqs := s1.hif.reqs.erase r } }
          let e := match s2.session n.val with | some y => y.expect | none => 0
          if r.orphan then s2
          else s2.putAnswer n.val (answerSlot r true false (field (Cf.payload b) 0 1) 18 0 (leBytes 4 e.toNat ++ leBytes 2 r.opcode ++ [0, 0]))
        | _, _ => s1
    else s)

/-- REOPEN: a source's quarantine ends and its pair starts at sequence 0 (R489). -/
def State.cspReopen (s : State) (m : Nat) : State := (s.setPairRx m ⟨0, [], false⟩).show .csp 0 0
def execReopen (src : Src) (m : Fin 16) (s : State) : Host.Outcome State Fault Refusal :=
  .next (s.onUnit (.reg src) .csp R.CSP_CTRL (fun s => s.cspReopen m.val))

/-- CASCADE_INFO: group identity, map and members (Table 18-4). -/
def execCascadeInfo (o : Origin) (seq : Word) (s : State) : Host.Outcome State Fault Refusal :=
  .next (s.withRequest (.msg o seq) [0x0A01] (fun s => s.onUnit (.msg o seq) .csp R.CSP_CTRL (fun s =>
    s.answer o seq 0 Unit.csp.top 0 ((List.range 4).flatMap (fun i => leBytes 4 (s.reg (R.CSP_GROUP_IDi i)).toNat)
      ++ leBytes 2 (s.fld F.CSP_MAP.MAP) ++ leBytes 1 (s.fld F.CSP_MAP.MEMBERS) ++ zeros 5))))

/-! ### Partner traces (R492) -/

/-- lnR and var_n of a record's cells (06 R193) as single-precision words, the invalid code for a cell that is not valid. -/
def ThermDue.traceCells (d : ThermDue) (r : RamanRec) : List Word :=
  (RamanJob.cells ⟨r, d.params, d.store, f64 d.mps⟩).flatMap (fun c =>
    if c.valid then [toF32 c.lnR, toF32 c.var] else [0x7FC00000, 0x7FC00000])

/-- Frames of at most 65,536 bytes carry a byte string. -/
def State.chorusBulk (type dst : Nat) : Nat → Bytes → State → State
  | 0, _, s => s
  | n + 1, bs, s => if bs.isEmpty then s else State.chorusBulk type dst n (bs.drop 65536) (s.chorusSend type dst 0 (bs.take 65536))

/-- A closed Raman record goes to the partner as TRACE frames. -/
def State.sendTrace (s : State) (d : ThermDue) (r : RamanRec) : State :=
  if !s.unitOn .csp || !s.flag F.CSP_DE_CFG.EN || !(s.cspState == Csp.head || s.cspState == Csp.member) then s
  else
    let p := d.params
    let mean := toF32 (fNat r.phaseSum / fNat (max 1 r.count))
    let body := fitBytes 64 r.header ++ leBytes 4 (Tp.cells p) ++ leBytes 1 (Tp.q p) ++ zeros 3 ++ leBytes 4 r.count
      ++ leBytes 4 mean.toNat ++ (d.traceCells r).flatMap (fun w => leBytes 4 w.toNat)
    State.chorusBulk 6 (s.fld F.CSP_DE_CFG.PARTNER) (body.length / 65536 + 1) body s

/-- Bytes of a partner's record that stand in the buffer whole. -/
def State.traceWhole (s : State) : Bool := decide (80 ≤ s.csp.trace.length) && decide (80 + 8 * field s.csp.trace 64 4 ≤ s.csp.trace.length)

/-- Device address of the slot the next record goes to. -/
def State.traceSlot (s : State) : Nat := s.reg64 R.CSP_DE_BASE_LO R.CSP_DE_BASE_HI + s.csp.slot * 2 ^ 21

/-- A whole record waits for DRAM that takes it. -/
def State.traceWaits (s : State) : Bool := s.traceWhole && s.spanReady s.traceSlot (min (2 ^ 21) s.csp.trace.length)

/-- A whole record goes to its slot, and the thermal group's lowest member is rung. -/
def State.traceStore (s : State) : State :=
  let n := 80 + 8 * field s.csp.trace 64 4
  let s1 := (s.onCsp (fun c => { c with trace := c.trace.drop n, slot := 1 - c.slot })).dramWrite (fixedPath .csp) 2 s.traceSlot
    (s.csp.trace.take (min n (2 ^ 21)))
  match s1.thermEngine with
  | some e => match s1.streamOf e with
    | some t => s1.setPend t 2
    | none => s1
  | none => s1

/-- TRACE: bytes of the partner's record; a whole one goes to its slot as DRAM takes it, else its write stalls at the port (01 R59). -/
def execTrace (port : Fin 2) (b : List (BitVec 8)) (s : State) : Host.Outcome State Fault Refusal :=
  .next (if Cf.type b = 6 then s.cspFrame port.val b (fun s =>
      if !s.flag F.CSP_DE_CFG.EN then s
      else
        let s1 := s.onCsp (fun c => { c with trace := c.trace ++ Cf.payload b })
        if s1.traceWhole then s1.withDram s1.traceSlot (min (2 ^ 21) s1.csp.trace.length) State.traceStore else s1)
    else s)

/-! ### Cascade-wide commits (R493, R494) -/

/-- The head starts a cascade-wide commit. -/
def State.ccStart (s : State) : State :=
  if s.csp.job.isSome then s.post .csp CspCode.busy 0
  else
    let cc := (s.csp.number + 1) % 2 ^ 32
    let map := s.fld F.CSP_MAP.MAP
    let s1 := s.onCsp (fun c => { c with number := cc, job := some ⟨cc, map, [], false, s.now⟩ })
    let s2 := (List.range 16).foldl (fun a m => if m ≠ 0 ∧ bitAt map m then a.chorusSend 7 m cc [] else a) s1
    if s2.ancState ≠ Anc.ready ∨ !s2.unitOn .anc then s2.ccAbort
    else ((s2.onAnc (fun a => { a with waits := a.waits ++ [.cascade cc] })).wantCommit).ancStep

/-- CC_REQ: at the head alone. -/
def execCcReq (src : Src) (s : State) : Host.Outcome State Fault Refusal :=
  .next (s.onUnit (.reg src) .csp R.CSP_CTRL (fun s => if s.cspState = Csp.head then s.ccStart else s))

/-- CC_PERIOD_EXPIRY: CC_PERIOD s have passed at the head since the latest. -/
def execCcPeriodExpiry (t : Nat) (s0 : State) : Host.Outcome State Fault Refusal :=
  let s := s0.at_ t
  let due := s.csp.period + s.fld F.CSP_CFG.CC_PERIOD * second
  .next (if s.unitOn .csp && s.cspState == Csp.head && s.fld F.CSP_CFG.CC_PERIOD != 0 && decide (due ≤ s.now) then
      (s.onCsp (fun c => { c with period := s.now })).ccStart
    else s)

/-- CC_TIMEOUT: a reply is late once CC_TIMEOUT ms have passed. -/
def execCcTimeout (t : Nat) (s0 : State) : Host.Outcome State Fault Refusal :=
  let s := s0.at_ t
  .next (match s.csp.job with
    | some j => if j.begun + s.fld F.CSP_CFG.CC_TIMEOUT * msec ≤ s.now then s.ccDrop else s
    | none => s)

/-- PREPARE: a member commits its archive; PREPARED follows when the commit is in force. Without a READY archive it does not
reply. -/
def execPrepare (cc : Word) (s : State) : Host.Outcome State Fault Refusal :=
  .next (if s.unitOn .csp && s.cspState == Csp.member && s.unitOn .anc && s.ancState == Anc.ready then
      (((s.onCsp (fun c => { c with prepare := some cc.toNat })).onAnc (fun a => { a with waits := a.waits ++ [.cascade cc.toNat] })).wantCommit).ancStep
    else s)

/-- PREPARED: a member's commit number and last committed record. -/
def execPrepared (m : Fin 16) (cc : Word) (commit last : Nat) (s : State) : Host.Outcome State Fault Refusal :=
  .next (match s.csp.job with
    | some j =>
      if s.unitOn .csp && s.cspState == Csp.head && j.cc == cc.toNat && bitAt j.map m.val && !j.replies.any (·.1 == m.val) then
        (({ s with csp := { s.csp with job := some { j with replies := j.replies ++ [(m.val, commit % 2 ^ 64, last % 2 ^ 64)] } } }).ccReady).ancStep
      else s
    | none => s)

/-- The checks of a switch (Table 19-5), after which an image that takes the ports out of use puts the CSP in OFF: the detail is the register's offset over 4. -/
def State.cspSwitch (s : State) : State :=
  let bad := if s.fld F.CSP_CFG.CC_TIMEOUT = 0 then some 2
    else if s.flag F.CSP_DE_CFG.EN && (s.cspState == Csp.head || s.cspState == Csp.member) && s.fld F.CSP_DE_CFG.PARTNER == s.fld F.CSP_STATUS.INDEX then some 9
    else if (s.reg R.CSP_DE_BASE_LO).toNat % 2 ^ 21 ≠ 0 then some 10 else none
  let s1 := match bad with | some d => s.post .csp CspCode.badConfig d | none => s
  if !s1.flag F.CSP_CFG.EN then s1.cspSleep else if s1.unitOn .csp then s1.cspWake else s1

end Sys2Proof.Machine
end

