-- ==== Sys2Proof/Machine/Cvu.lean ====
section
/-! DEFINITION. The check-value unit (13 R380-R387). -/

namespace Sys2Proof.Machine

/-- CVU codes (13 Table 13-2). -/
abbrev CvuCode.busy : Nat := 1
abbrev CvuCode.badArg : Nat := 2
abbrev CvuCode.aborted : Nat := 3
abbrev CvuCode.dramLost : Nat := 4

/-- Width of an algorithm, its Init and its final XOR (Table 13-1). -/
def crcWidth : Nat → Nat
  | 2 => 16 | 3 => 64 | _ => 32
def crcInit (poly : Nat) : Nat := 2 ^ crcWidth poly - 1
def crcXor (poly : Nat) : Nat := if poly = 2 then 0 else crcInit poly

/-- One bit of the non-reflected CRC-16. -/
def crc16Bit (s : Nat) : Nat := if bitAt s 15 then (2 * s) % 65536 ^^^ 0x1021 else 2 * s
def crc16Byte (s : Nat) (b : Byte) : Nat := (List.range 8).foldl (fun a _ => crc16Bit a) (s ^^^ (b.toNat * 256))

/-- A state run over bytes (R381). -/
def crcOver (poly s : Nat) (bs : Bytes) : Nat :=
  match poly with
  | 0 => (crcRun (0x82F63B78 : BitVec 32) (BitVec.ofNat 32 s) bs).toNat
  | 1 => (crcRun (0xEDB88320 : BitVec 32) (BitVec.ofNat 32 s) bs).toNat
  | 2 => bs.foldl crc16Byte s
  | _ => (crcRun (0xC96C5795D7870F42 : BitVec 64) (BitVec.ofNat 64 s) bs).toNat

/-- A channel's algorithm and whether it is BUSY. -/
def State.cvuPoly (s : State) (n : Nat) : Nat := s.fld (F.CVU_CHn_CFG.POLY n)
def State.cvuBusy (s : State) (n : Nat) : Bool := s.flag (F.CVU_CHn_STATUS.BUSY n)

/-- A channel's state and count take values, unused state bits 0; RESULT follows (R381). -/
def State.cvuSet (s : State) (n st count : Nat) : State :=
  let p := s.cvuPoly n
  let v := st % 2 ^ crcWidth p
  ((s.setReg64 (R.CVU_CHn_STATE_LO n) (R.CVU_CHn_STATE_HI n) v).setReg64 (R.CVU_CHn_COUNT_LO n) (R.CVU_CHn_COUNT_HI n) (count % 2 ^ 64)).setReg64
    (R.CVU_CHn_RESULT_LO n) (R.CVU_CHn_RESULT_HI n) (v ^^^ crcXor p)

/-- State and count of a channel. -/
def State.cvuState (s : State) (n : Nat) : Nat := s.reg64 (R.CVU_CHn_STATE_LO n) (R.CVU_CHn_STATE_HI n)
def State.cvuCount (s : State) (n : Nat) : Nat := s.reg64 (R.CVU_CHn_COUNT_LO n) (R.CVU_CHn_COUNT_HI n)

/-- Bytes enter a channel. -/
def State.cvuAbsorb (s : State) (n : Nat) (bs : Bytes) : State :=
  s.cvuSet n (crcOver (s.cvuPoly n) (s.cvuState n) bs) (s.cvuCount n + bs.length)

/-- A status bit of CVU_IRQ_STATUS is set. -/
def State.cvuRaise (s : State) (i : Nat) : State :=
  (s.setReg R.CVU_IRQ_STATUS (s.reg R.CVU_IRQ_STATUS ||| w32 (2 ^ i))).settleIrqAt Unit.cvu.source

/-- A request to a channel is refused with a code (R384, R385). -/
def State.cvuRefuse (s : State) (n code : Nat) : State :=
  (((s.setFld (F.CVU_CHn_STATUS.CODE n) code).count F.CVU_REFUSED.COUNT 1).logAt (fixedPath .cvu) code).cvuRaise (8 + n)

/-- A channel that is not BUSY takes a request. -/
def State.cvuIdle (s : State) (n : Nat) (act : State → State) : State :=
  if s.cvuBusy n then s.cvuRefuse n CvuCode.busy else act s

/-- INIT. -/
def State.cvuInit (s : State) (n : Nat) : State :=
  s.cvuIdle n (fun s => (s.cvuSet n (crcInit (s.cvuPoly n)) 0).setFld (F.CVU_CHn_STATUS.CODE n) 0)

/-- Source and length of a channel's transfer. -/
def State.cvuSrc (s : State) (n : Nat) : Nat := (s.reg (R.CVU_CHn_SRC_LO n)).toNat + 2 ^ 32 * s.fld (F.CVU_CHn_SRC_HI.ADDR_HI n)
def State.cvuLen (s : State) (n : Nat) : Nat := (s.reg (R.CVU_CHn_LEN n)).toNat

/-- GO (R383, R385). -/
def State.cvuGo (s : State) (n : Nat) : State :=
  s.cvuIdle n (fun s =>
    if s.cvuLen n = 0 ∨ s.cvuSrc n + s.cvuLen n > s.deviceTop then s.cvuRefuse n CvuCode.badArg
    else ({ s with cvu := s.cvu ++ [(n, s.cvuSrc n, s.cvuLen n)] }).setFld (F.CVU_CHn_STATUS.BUSY n) 1)

/-- A channel's transfer as GO took it. -/
def State.cvuJob (s : State) (n : Nat) : Nat × Nat := ((s.cvu.find? (·.1 = n)).map (·.2)).getD (0, 0)

/-- A transfer processes its first `k` bytes, as far as DRAM gives them; nothing comes of it where it does not. -/
def State.cvuTake (s : State) (n k : Nat) : Option State :=
  if !s.dmcServes then none
  else
    let r := s.dramRead (fixedPath .cvu) 5 (s.cvuJob n).1 k
    match r.2 with
    | some bs => some (r.1.cvuAbsorb n bs)
    | none => some r.1

/-- A transfer ends with a code. -/
def State.cvuEnd (s : State) (n code : Nat) : State :=
  let s0 : State := { s with cvu := s.cvu.filter (·.1 ≠ n) }
  let s1 := (s0.setFld (F.CVU_CHn_STATUS.BUSY n) 0).setFld (F.CVU_CHn_STATUS.CODE n) code
  if code = 0 then s1.cvuRaise n else (s1.logAt (fixedPath .cvu) code).cvuRaise (8 + n)

/-- ABORT after `done` bytes (R384). -/
def State.cvuAbort (s : State) (n done : Nat) : State :=
  if !s.cvuBusy n then s
  else
    let k := min done (s.cvuJob n).2
    ((if k = 0 then s else (s.cvuTake n k).getD s).cvuEnd n CvuCode.aborted)

/-- A DATA write (R383). -/
def State.cvuData (s : State) (n : Nat) (w : Word) : State :=
  s.cvuIdle n (fun s => s.cvuAbsorb n (leBytes (s.fld (F.CVU_CHn_CFG.DATA_BYTES n) + 1) w.toNat))

/-- A CFG write (R386). -/
def State.cvuCfg (s : State) (n : Nat) (w : Word) : State :=
  s.cvuIdle n (fun s =>
    let old := s.cvuPoly n
    let s1 := s.setReg (R.CVU_CHn_CFG n) (w &&& 0xF)
    if s1.cvuPoly n = old then s1 else s1.cvuSet n (crcInit (s1.cvuPoly n)) 0)

/-- A write to one of a channel's STATE or COUNT words: bits unused by the algorithm take no write (R386). -/
def State.cvuContext (s : State) (n : Nat) (off : Nat) (w : Word) : State :=
  s.cvuIdle n (fun s => let a := s.setReg off w; a.cvuSet n (a.cvuState n) (a.cvuCount n))

/-- CVU_INIT, CVU_GO, CVU_ABORT, CVU_DATA_WRITE, CVU_CFG_WRITE, CVU_COUNT_CLR. -/
def execCvuInit (src : Src) (n : Fin 8) (s : State) : Host.Outcome State Fault Refusal :=
  .next (s.onUnit (.reg src) .cvu (R.CVU_CHn_CMD n) (fun s => s.cvuInit n))
def execCvuGo (src : Src) (n : Fin 8) (s : State) : Host.Outcome State Fault Refusal :=
  .next (s.onUnit (.reg src) .cvu (R.CVU_CHn_CMD n) (fun s => s.cvuGo n))
def execCvuAbort (src : Src) (n : Fin 8) (done : Nat) (s : State) : Host.Outcome State Fault Refusal :=
  .next (s.onUnit (.reg src) .cvu (R.CVU_CHn_CMD n) (fun s => s.cvuAbort n done))
def execCvuDataWrite (src : Src) (n : Fin 8) (w : Word) (s : State) : Host.Outcome State Fault Refusal :=
  .next (s.onUnit (.reg src) .cvu (R.CVU_CHn_DATA n) (fun s => s.cvuData n w))
def execCvuCfgWrite (src : Src) (n : Fin 8) (w : Word) (s : State) : Host.Outcome State Fault Refusal :=
  .next (s.onUnit (.reg src) .cvu (R.CVU_CHn_CFG n) (fun s => s.cvuCfg n w))
def execCvuCountClr (src : Src) (s : State) : Host.Outcome State Fault Refusal :=
  .next (s.onUnit (.reg src) .cvu R.CVU_CTRL (fun s => s.setReg R.CVU_REFUSED 0))

/-- CVU_TRANSFER_DONE: the transfer of a channel has read all its bytes. DRAM that does not answer keeps it BUSY; a
DRAM-domain reset ends it DRAM_LOST (R385). -/
def execCvuTransferDone (n : Fin 8) (s : State) : Host.Outcome State Fault Refusal :=
  .next (if !s.cvuBusy n then s
    else match s.cvuTake n (s.cvuJob n).2 with
    | none => s
    | some a => if a.dmcServes then a.cvuEnd n 0 else a)

/-- A DRAM-domain reset: transfers end DRAM_LOST (R385). -/
def State.cvuDramReset (s : State) : State :=
  (List.range 8).foldl (fun a n => if a.cvuBusy n then a.cvuEnd n CvuCode.dramLost else a) s

/-- CORE enters KEEP or OFF: contexts are lost (R387). -/
def State.cvuPowerDown (s : State) : State := ({ s with cvu := [] }).resetRegs 0xD80000 0xE00000

end Sys2Proof.Machine
end

