-- ==== Sys2Proof/Machine/Flash.lean ====
section
/-! DEFINITION. The SPI boot flash: pairs of sectors with 16-byte records (02 R75, 20 R498). -/

namespace Sys2Proof.Machine

/-- An erased byte reads 0xFF. -/
def flashBlank (_ : Nat) : Byte := 0xFF

/-- A command to the flash: opcode, address bytes, data lines, dummy clocks and clock in kHz (21 R519, R520). -/
structure SpiCmd where
  opcode : Nat
  addr : Nat
  lines : Nat
  dummy : Nat
  kHz : Nat
  deriving DecidableEq, Repr

/-- The read of the start-up header (R519). -/
def spiHeaderRead : SpiCmd := ⟨0x03, 3, 1, 0, 12500⟩

/-- Clock of the SPI in kHz, and the commands of every access after the header read (R520): read, write enable, page program, erase of
64 KiB, status poll. -/
def State.spiClock (s : State) : Nat := if s.flag F.GLB_STARTUP.HEADER_VALID then 200000 / max 2 (field s.glb.header 9 1) else 12500
def State.spiRead (s : State) : SpiCmd :=
  if s.flag F.GLB_STARTUP.HEADER_VALID then
    if field s.glb.header 8 1 = 1 then ⟨0xEC, 4, 4, field s.glb.header 0xA 1, s.spiClock⟩ else ⟨0x0C, 4, 1, field s.glb.header 0xA 1, s.spiClock⟩
  else ⟨0x13, 4, 1, 0, s.spiClock⟩
def State.spiWriteEnable (s : State) : SpiCmd := ⟨0x06, 0, 1, 0, s.spiClock⟩
def State.spiProgram (s : State) : SpiCmd := ⟨0x12, 4, 1, 0, s.spiClock⟩
def State.spiErase (s : State) : SpiCmd := ⟨0xDC, 4, 1, 0, s.spiClock⟩
def State.spiPoll (s : State) : SpiCmd := ⟨0x05, 0, 1, 0, s.spiClock⟩

/-- Bytes of the flash, and bytes programmed into it. -/
def State.flashBytes (s : State) (a n : Nat) : Bytes := memBytes flashBlank s.flash a n
def State.flashPut (s : State) (a : Nat) (bs : Bytes) : State := { s with flash := memPut flashBlank s.flash a bs }

/-- A range is erased. -/
def State.flashErase (s : State) (a n : Nat) : State :=
  { s with flash := tabDrop (fun k => decide (a ≤ k) && decide (k < a + n)) s.flash }

/-- A sector of records, and the records it holds. -/
abbrev sectorSize : Nat := 65536
abbrev sectorRecs : Nat := 4096

/-- The start addresses of the records of a sector that are not erased, in rising order. -/
def State.sectorUsed (s : State) (a : Nat) : List Nat :=
  (((s.flash.filter (fun c => decide (a ≤ c.1) && decide (c.1 < a + sectorSize))).map (fun c => a + (c.1 - a) / 16 * 16))).eraseDups

/-- A record's CRC-32C over its first 12 bytes matches. -/
def flashRecOk (b : Bytes) : Bool := field b 12 4 == (crc32c (b.take 12)).toNat

/-- The valid records of a pair of sectors with their sectors. -/
def State.flashRecs (s : State) (a0 a1 : Nat) : List (Nat × Bytes) :=
  ([a0, a1].flatMap (fun a => (s.sectorUsed a).map (fun x => (a, s.flashBytes x 16)))).filter (fun x => flashRecOk x.2)

/-- Rank of a record: its first four bytes (SEQ, or RUN), then the next four, so that of two run records of one run the one with more
powered minutes is newer (log entry 172). -/
def flashRank (b : Bytes) : Nat := field b 0 4 * 2 ^ 32 + field b 4 4

/-- The newest valid record: the highest rank. -/
def newestRec : List (Nat × Bytes) → Option (Nat × Bytes)
  | [] => none
  | x :: t => match newestRec t with
    | some y => if flashRank x.2 ≤ flashRank y.2 then some y else some x
    | none => some x

/-- A record with its CRC. -/
def flashRec (body : Bytes) : Bytes := body ++ leBytes 4 (crc32c body).toNat

/-- A record is programmed behind the last one of a sector. -/
def State.sectorPut (s : State) (a : Nat) (rec_ : Bytes) : State :=
  match (s.sectorUsed a).getLast? with
  | some x => s.flashPut (x + 16) rec_
  | none => s.flashPut a rec_

/-- A sector has no free record. -/
def State.sectorFull (s : State) (a : Nat) : Bool :=
  match (s.sectorUsed a).getLast? with
  | some x => decide (x + 16 ≥ a + sectorSize)
  | none => false

/-- A record goes behind the newest one of a pair; a full sector gives way to the other, erased. `other` puts it into the
other sector at once. -/
def State.flashAppend (s : State) (a0 a1 : Nat) (rec_ : Bytes) (other : Bool) : State :=
  let cur := match newestRec (s.flashRecs a0 a1) with | some (a, _) => a | none => a0
  let next := if cur = a0 then a1 else a0
  if s.sectorFull cur || other then (s.flashErase next sectorSize).sectorPut next rec_ else s.sectorPut cur rec_

end Sys2Proof.Machine
end

