-- ==== Sys2Proof/Machine/Alm.lean ====
section
/-! DEFINITION. The Almanac: identity, runs, calibration records, epochs, histories, ageing indicators and its summary
(20 R496-R515). -/

namespace Sys2Proof.Machine

/-- ALMANAC's vote: RUN from STARTING until READY, DOZE in READY (R515). -/
def State.almVote (s : State) : State :=
  let st := s.almState
  s.vote (.unit .alm) 1 (if st = Alm.off then 3 else if st = Alm.ready then 1 else 0)

/-- A state of Table 20-6 is entered. -/
def State.almEnter (s : State) (st : Nat) : State := (s.setFld F.ALM_STATUS.STATE st).almVote

/-! ### Identity (R496, R497) -/

/-- DETAIL of the first check of a die identity that fails: its CRC, a character of LOT, WAFER, GRADE. -/
def idCheck (d : BitVec 128) : Option Nat :=
  let n := d.toNat
  let chars := (List.range 7).map (fun i => n / 2 ^ (86 + 6 * i) % 64)
  let wafer := n / 2 ^ 81 % 32
  let grade := n / 2 ^ 53 % 16
  if crcOver 2 0xFFFF (beBytes 14 (n / 2 ^ 16)) ≠ n % 2 ^ 16 then some 0
  else if chars.any (fun c => decide (c > 0x23)) then some 127
  else if wafer < 1 ∨ wafer > 25 then some 85
  else if grade ≠ 1 ∧ grade ≠ 2 then some 56
  else none

/-- ID_VALID and FACTORY_VALID follow the OTP; at power-on a failing check is reported once (R497, R501). -/
def State.almIdentity (s : State) (report : Bool) : State :=
  let s1 := (s.setFlag F.ALM_STATUS.ID_VALID (idCheck s.otp.dieId).isNone).setFlag F.ALM_STATUS.FACTORY_VALID s.otp.factoryOk
  if !report then s1
  else
    let s2 := match idCheck s.otp.dieId with
      | some d => s1.post .alm AlmCode.idCrc d
      | none => s1
    if s.otp.factoryOk then s2 else s2.post .alm AlmCode.factoryCrc 0

/-! ### Runs and powered time (R498-R500) -/

/-- The run sectors of the SPI flash, and their newest valid record. -/
abbrev runSector0 : Nat := 0x30000
abbrev runSector1 : Nat := 0x40000
def State.newestRun (s : State) : Bytes := match newestRec (s.flashRecs runSector0 runSector1) with | some (_, b) => b | none => []

/-- A run record of the counts as they stand. -/
def State.runRecord (s : State) : Bytes :=
  flashRec (leBytes 4 s.run ++ leBytes 4 (s.reg R.ALM_POWERED).toNat ++ leBytes 4 (f64 s.alm.stress).floor.toUInt64.toNat)

/-- At power-on the AO part takes its counts from the newest run record (log entry 6 without one). -/
def State.almPowerOn (s : State) : State :=
  let b := s.newestRun
  let s1 := (s.setReg R.ALM_RUN (w32 (field b 0 4))).setReg R.ALM_POWERED (w32 (field b 4 4))
  let s2 : State := { s1 with alm := { s1.alm with stress := toF64 (fNat (field b 8 4)), minutes := 0, lastFrame := none } }
  let s3 := (List.range 4).foldl (fun a i => a.setReg (R.ALM_DIE_IDi i) (w32 (s.otp.dieId.toNat / 2 ^ (32 * i)))) s2
  s3.almIdentity true

/-! ### The chain and its load (R504-R508) -/

/-- Content of the PAYLOAD item of an archive record. -/
def payloadItem (b : Bytes) : Bytes := (b.drop 72).take (field b 68 4)

/-- A chain as it is read at a mount: what follows a record, first failing link. -/
structure ChainRun where
  chain : List (Nat × Bool × Bytes)
  crc : Nat
  broken : Option Nat
  deriving DecidableEq, Repr

/-- The next CAL_RECORD joins the chain; its REC_CRC and PREV_CRC are checked (R508). -/
def ChainRun.add (x : ChainRun) (corrupt : Bool) (b : Bytes) : ChainRun :=
  let prev := match x.chain.getLast? with | some (e, _) => e | none => 0
  let ok := recCrc b == field b 0x3C 4
  let e := if corrupt || !ok then prev + 1 else field b 8 4
  ⟨x.chain ++ [(e, !corrupt && ok, b)], field b 0x3C 4,
   if x.broken.isNone && (!ok || field b 0x10 4 != x.crc) then some e else x.broken⟩

/-- The chain is read anew at a mount (R508). -/
def State.readChain (s : State) : State :=
  let recs := sortBy (·.seq) (s.anc.recs.filter (·.type == 4))
  let r := recs.foldl (fun (acc : State × ChainRun) r =>
    let x := acc.1.readRecord r []
    (acc.1.noteRead r x, acc.2.add (x.status == AncCode.corrupt) (payloadItem x.bytes))) (s, ⟨[], 0, none⟩)
  let head := match r.2.chain.getLast? with | some (e, _) => e | none => 0
  let s1 := ({ r.1 with alm := { r.1.alm with chain := r.2.chain } }).setReg R.ALM_EPOCH_HEAD (w32 head)
  match r.2.broken with
  | some e => (s1.post .alm AlmCode.chainBreak (e % 65536)).raise .alm F.ALM_IRQ_STATUS.CHAIN
  | none => s1

/-- History entries of the archive, oldest first. -/
def splitEntries : Nat → Bytes → List Bytes
  | 0, _ => []
  | k + 1, b => if b.length < 48 then [] else b.take 48 :: splitEntries k (b.drop 48)
def State.archiveHistory (s : State) : List Bytes :=
  (sortBy (·.seq) (s.anc.recs.filter (·.type == 5))).flatMap (fun r =>
    let x := s.readRecord r []
    if x.status = AncCode.corrupt then [] else let p := payloadItem x.bytes; splitEntries (p.length / 48) p)

/-- The ALM_HISTORY records are read: damage is reported as for any read (12 R367, 01 R66). -/
def State.noteHistory (s : State) : State :=
  (sortBy (·.seq) (s.anc.recs.filter (·.type == 5))).foldl (fun a r => a.noteRead r (a.readRecord r [])) s

/-- The epoch the newest committed EPOCH_APPLIED entry names (R507). -/
def State.namedEpoch (s : State) : Nat :=
  match (s.archiveHistory.filter (fun e => field e 0 1 == Hist.epochApplied)).getLast? with
  | some e => field e 24 4
  | none => 0

/-- The record store takes an epoch's record; templates of the PCX follow it: a request of the PCX (`pcx`) applies what it staged,
any other epoch its TEMPLATE entries, tones without one becoming IDEAL (R162, R164, R506). -/
def State.loadStore (s : State) (e : Nat) (pcx : Bool) : State :=
  let rec_ := match s.chainRec e with | some (_, b) => b | none => []
  let s1 := ({ s with alm := { s.alm with store := rec_ } }).setReg R.ALM_EPOCH (w32 e)
  let own := pcx && s1.pcx.epoch == some e
  let one (a : State) (k : Nat) : State :=
    match recEntry rec_ 3 k with
    | some c =>
      if own ∧ srcBits (a.reg R.PCX_TF_STAGE_SRC) k = 0 then a
      else a.activateTone k (field c 0 1) ((List.range 64).map (fun q => w32 (field c (12 + 4 * q) 4)))
    | none => if own then a else a.idealTone k
  let s2 := (List.range 16).foldl one s1
  if pcx then
    let s3 := s2.clearStage
    ({ s3 with pcx := { s3.pcx with epoch := none, second := none } }).raise .pcx F.PCX_IRQ_STATUS.TF_APPLIED
  else s2

/-- The epoch in force changes, with its history entry and cause; the entry is submitted at once, ahead of any record of a frame under the
new epoch (R506, R507). -/
def State.takeEpoch (s : State) (e cause : Nat) (pcx : Bool) : State :=
  let old := (s.reg R.ALM_EPOCH).toNat
  let s1 := (s.almEvent Hist.epochApplied Unit.alm.top 0 (leBytes 4 e ++ leBytes 4 old ++ leBytes 1 cause)).submitHist
  let s2 := if e = old then s1.loadStore e pcx else (s1.loadStore e pcx).raise .alm F.ALM_IRQ_STATUS.EPOCH_APPLIED
  if cause = 3 then { s2 with alm := { s2.alm with lost := true } } else { s2 with alm := { s2.alm with lost := false } }

/-- The epoch in force is lost: it becomes 0 (R508). -/
def State.epochLost (s : State) : State :=
  ((s.post .alm AlmCode.epochLost 0).raise .alm F.ALM_IRQ_STATUS.CHAIN).takeEpoch 0 3 false

/-! ### Indicators (R511-R513) -/

/-- Lowest values of an indicator that has no sample. -/
def Indicator.fresh : Indicator := ⟨0, toF64 0.0, toF64 0.0, toF64 0.0, toF64 0.0, toF64 0.0, toF64 0.0, 0x7FC00000, 0, 0, 0, false⟩
def State.indicator (s : State) (id : Nat) : Indicator := tabGet (fun _ => Indicator.fresh) s.alm.indicators id
def State.setIndicator (s : State) (id : Nat) (x : Indicator) : State :=
  { s with alm := { s.alm with indicators := tabPut (fun _ => Indicator.fresh) s.alm.indicators id x } }

/-- The model functions: LOG for indicator 1, LINEAR for the others, with their inverses. -/
def indG (id : Nat) (t : Float) : Float := if id = 1 then (1.0 + t / 100.0).log else t
def indInverse (id : Nat) (g : Float) : Float := if id = 1 then 100.0 * (g.exp - 1.0) else g

/-- An indicator is issued. -/
def indIssued (id : Nat) : Bool := inRange 1 6 id || inRange 8 24 id || inRange 33 63 id

/-- Powered hours with BASE_HOURS: the time of a sample now. -/
def State.indNow (s : State) : Float := fNat (s.reg R.ALM_POWERED).toNat / 60.0 + fNat s.baseHours

/-- The limit in force: ALM_IND_LIMIT, or the default where it is a NaN; none where there is none (Table 20-5). -/
def State.indLimit (s : State) (id : Nat) : Option Float :=
  let own := f32 (w32 (s.indicator id).limit)
  if !own.isNaN then some own
  else if id = 1 then some 90.0
  else if id = 2 then some 100.0
  else if id = 3 then some 64.0
  else if id = 4 then some 20.0
  else if id = 5 then some 100000.0
  else if id = 6 then some 3600.0
  else if inRange 8 15 id then some (fNat (s.reg R.ANC_ENDURANCE).toNat)
  else if inRange 16 23 id then some (fNat (s.nluns * s.nblocks) / 50.0)
  else if id = 24 then some (fNat (s.fld F.ANC_POL2.REFRESH_BITS))
  else none

/-- A sample enters the sums. -/
def Indicator.add (x : Indicator) (id : Nat) (t y : Float) : Indicator :=
  let g := indG id t
  { x with n := satSucc 16777215 x.n, sx := toF64 (f64 x.sx + g), sy := toF64 (f64 x.sy + y), sxx := toF64 (f64 x.sxx + g * g)
           sxy := toF64 (f64 x.sxy + g * y), syy := toF64 (f64 x.syy + y * y), value := toF64 y }

/-- Hours that remain, as ALM_IND_REMAIN holds them. -/
def remainHours (x : Float) : Nat := min 0xFFFFFFFE x.floor.toUInt64.toNat

/-- The prediction at the current time, step by step as R512 prints it: with D = sign(L - y_now) its EXCEEDED test holds at D = 0 alone, and
an indicator beyond its limit reads NO_TREND or the return to the limit (log entry 172). -/
def Indicator.predict (x : Indicator) (id : Nat) (limit : Option Float) (now : Float) : Indicator :=
  let halt (st nom early : Nat) : Indicator := { x with state := st, nom := nom, early := early }
  match limit with
  | none => halt 1 0 0
  | some lim =>
    let n := fNat x.n
    let xm := f64 x.sx / n
    let ym := f64 x.sy / n
    let qxx := f64 x.sxx - n * xm * xm
    let qxy := f64 x.sxy - n * xm * ym
    let qyy := f64 x.syy - n * ym * ym
    if x.n < 8 ∨ qxx ≤ 0.0 then halt 0 0 0
    else
      let b := qxy / qxx
      let rest := (qyy - b * qxy) / (n - 2.0)
      let sb := ((if rest > 0.0 then rest else 0.0) / qxx).sqrt
      let y := ym + b * (indG id now - xm)
      let l := if id ≤ 2 ∧ y < 0.0 then -lim else lim
      let d : Float := if l - y > 0.0 then 1.0 else if l - y < 0.0 then -1.0 else 0.0
      if d == 0.0 ∨ d * (l - y) < 0.0 then halt 4 0 0
      else if b * d ≤ 0.0 then halt 2 0xFFFFFFFF 0xFFFFFFFF
      else halt 3 (remainHours (indInverse id (xm + (l - ym) / b) - now)) (remainHours (indInverse id (xm + (l - ym) / (b + d * 1.2816 * sb)) - now))

/-- The 32-byte head of the summary as the values stand (R514). -/
def State.headNow (s : State) : Bytes :=
  let b (x : Bool) (i : Nat) : Nat := if x then 2 ^ i else 0
  let best := s.alm.indicators.foldl (fun (m : Option (Nat × Nat)) x =>
    if x.2.state < 3 then m else match m with
      | some (_, e) => if x.2.early < e then some (x.1, x.2.early) else m
      | none => some (x.1, x.2.early)) none
  leBytes 1 1 ++ leBytes 1 (s.dieId / 2 ^ 53 % 16)
    ++ leBytes 2 (b (s.flag F.ALM_STATUS.ID_VALID) 0 + b (s.flag F.ALM_STATUS.FACTORY_VALID) 1 + b (s.flag F.ALM_STATUS.RUN_UNSTORED) 2
      + b (s.flag F.ALM_STATUS.NO_ARCHIVE) 3 + b s.alm.lost 4 + b (s.alm.indicators.any (·.2.warned)) 5)
    ++ leBytes 4 s.run ++ leBytes 4 ((s.reg R.ALM_POWERED).toNat / 60) ++ leBytes 4 (s.reg R.ALM_EPOCH).toNat
    ++ leBytes 4 (s.reg R.ALM_EPOCH_HEAD).toNat ++ leBytes 2 ((best.map (·.1)).getD 0xFFFF) ++ zeros 2
    ++ leBytes 4 ((best.map (·.2)).getD 0) ++ leBytes 4 (s.fld F.ALM_HIST_STAT.LOST)

/-- AO takes the head: at power-on, at a run's start, and after every prediction (R514, log entry 172). -/
def State.putHead (s : State) : State := { s with alm := { s.alm with head := s.headNow } }

/-- The head of the summary that AO holds. -/
def State.almHead (s : State) : Bytes := s.alm.head

/-- A predicted end-of-life date in ns of the time scale for a REMAIN value; 0 while EPOCH_VALID is clear (R512). -/
def State.eolDate (s : State) (remain : Nat) : Nat := if bitAt (s.fld F.TTU_STATUS.LOCK_STATE) 3 then s.timeNs + remain * 3600000000000 else 0

/-- The prediction is updated, and EOL_WARN raised once where it falls below WARN_HOURS. -/
def State.indPredict (s : State) (id : Nat) : State :=
  let x := (s.indicator id).predict id (s.indLimit id) s.indNow
  if x.state ≥ 3 ∧ x.early < s.fld F.ALM_CFG.WARN_HOURS ∧ !x.warned then
    (((s.setIndicator id { x with warned := true }).post .alm AlmCode.eolWarn id).raise .alm F.ALM_IRQ_STATUS.EOL_WARN).putHead
  else (s.setIndicator id x).putHead

/-- What an indicator reads now; none where it is not sampled (Table 20-5). The figures of the NAND are those of the latest checkpoint. -/
def State.indRead (s : State) (id : Nat) : Option Float :=
  let target (t : Nat) : Option NandReport := s.alm.nand.find? (·.target == t)
  let cal (f : Nat → Nat) (i : Nat) : Nat := (signed 16 (f i)).natAbs
  let largest (l : List Nat) : Nat := l.foldl max 0
  if id = 1 then (if s.flag F.TTU_STATUS.OSC_VALID then s.alm.osc.map (fun z => fInt z / 1e6) else none)
  else if id = 2 then s.alm.rDev.map (fun z => fInt z / 1000.0)
  else if id = 3 then some (fNat (largest ((List.range 4).map (cal (fun i => s.fld (F.FAFE_CALn.OFFSET i))))) / 16.0)
  else if id = 4 then some (fNat (largest ((List.range 4).map (cal (fun i => s.fld (F.FAFE_CALn.SKEW i))))) / 10.0)
  else if id = 5 then some (f64 s.alm.stress / 60.0)
  else if id = 6 then
    let c := s.fld F.DMC_ECC_CORR.COUNT
    some (fNat (if c < s.alm.corrAt then c else c - s.alm.corrAt))
  else if inRange 8 15 id then
    (target (id - 8)).map (fun r => fNat r.erase)
  else if inRange 16 23 id then (target (id - 16)).map (fun r => fNat r.bad)
  else if id = 24 then
    (let l := s.alm.nand.filterMap (·.corrected)
     if l.isEmpty then none else some (fNat (largest l)))
  else if inRange 33 63 id then
    let c := tabGet (fun _ => (toF64 0.0, 0)) s.alm.currents (id - 32)
    if c.2 = 0 then none else some (f64 c.1 / fNat c.2)
  else none

/-- An indicator is sampled: its sums, prediction and INDICATOR entry (R509, R512). -/
def State.indSample (s : State) (id : Nat) : State :=
  match s.indRead id with
  | none => s
  | some y =>
    let t := s.indNow
    let s1 := (s.setIndicator id ((s.indicator id).add id t y)).indPredict id
    let s2 := s1.histPut (s1.histEntry Hist.indicator Unit.alm.top 0 (leBytes 2 id ++ zeros 2 ++ leBytes 4 t.floor.toUInt64.toNat ++ leBytes 8 (toF64 y)))
    if id = 6 then { s2 with alm := { s2.alm with corrAt := s2.fld F.DMC_ECC_CORR.COUNT } }
    else if inRange 33 63 id then { s2 with alm := { s2.alm with currents := tabPut (fun _ => (toF64 0.0, 0)) s2.alm.currents (id - 32) (toF64 0.0, 0) } }
    else s2

/-- The sums start with the factory baseline of indicators 1 to 4 (R511); limits stay. -/
def State.indBaseline (s : State) : State :=
  let cleared := s.alm.indicators.map (fun x => (x.1, { Indicator.fresh with limit := x.2.limit, warned := x.2.warned }))
  let s1 : State := { s with alm := { s.alm with indicators := cleared.filter (fun x => x.2 ≠ Indicator.fresh) } }
  s.baseline.foldl (fun a b => if inRange 1 4 b.1 then a.setIndicator b.1 ((a.indicator b.1).add b.1 (f64 b.2.1) (f64 b.2.2)) else a) s1

/-- The replay of the archive's INDICATOR entries (R513). -/
def State.indReplay (s : State) : State :=
  let es := s.archiveHistory.filter (fun e => field e 0 1 == Hist.indicator)
  let s := s.noteHistory
  let s1 := es.foldl (fun a e =>
    let id := field e 24 2
    if indIssued id then a.setIndicator id ((a.indicator id).add id (fNat (field e 28 4)) (f64 (field e 32 8))) else a) s.indBaseline
  (s1.alm.indicators.map (·.1)).foldl (fun a id => if (a.indicator id).n = 0 then a else a.indPredict id) s1

/-! ### States (Table 20-6) -/

/-- The epoch of R507 is loaded and the sums are rebuilt: READY. -/
def State.almLoaded (s : State) : State :=
  let e := s.alm.loading
  let s1 := s.indReplay
  let s2 := if e = 0 then s1.loadStore 0 false
    else match s1.chainRec e with
      | some (true, _) => s1.loadStore e false
      | _ => (s1.setReg R.ALM_EPOCH (w32 e)).epochLost
  s2.almEnter Alm.ready

/-- The ALM follows the archive (Table 20-6): it is read where it is READY, and given up where there is none. -/
def State.almArchive (s : State) : State :=
  let none_ := !imgHas s.sil.active Sec.archivePolicy || s.ancState == Anc.unformatted || s.ancState == Anc.fault
  if s.almState = Alm.waitArchive ∧ s.imageActive then
    if none_ then ((s.setFlag F.ALM_STATUS.NO_ARCHIVE true).indBaseline.loadStore 0 false).almEnter Alm.ready
    else if s.ancState = Anc.ready then
      let s1 := (s.setFlag F.ALM_STATUS.NO_ARCHIVE false).readChain
      ({ s1 with alm := { s1.alm with loading := s1.namedEpoch } }).almEnter Alm.loading
    else s
  else if s.almState = Alm.loading ∧ none_ then
    ((s.setReg R.ALM_EPOCH (w32 s.alm.loading)).indBaseline.epochLost).almEnter Alm.ready
  else s

/-- A mount ends: the ALM waits for it, or reads the chain and the sums anew, and an epoch in force whose record is unreadable is lost
(R508, R513). -/
def State.almMounted (s : State) : State :=
  if s.almState = Alm.ready ∧ s.ancState = Anc.ready then
    let s1 := (s.setFlag F.ALM_STATUS.NO_ARCHIVE false).readChain.indReplay
    match (s1.reg R.ALM_EPOCH).toNat with
    | 0 => s1
    | e + 1 => match s1.chainRec (e + 1) with
      | some (true, _) => s1
      | _ => s1.epochLost
  else s.almArchive

/-- CORE reaches RUN: STARTING, and on at once where the run's record stands already, as after KEEP. -/
def State.almWake (s : State) : State :=
  if s.almState ≠ Alm.off then s
  else if s.alm.runStored.isNone then s.almEnter Alm.starting
  else (s.almEnter Alm.waitArchive).almArchive

/-- The CORE part after a power-on or warm reset: what lies in CORE is lost; `last` the last frame of the run that ended. -/
def AlmSt.afterReset (a : AlmSt) (last : Option Nat) : AlmSt :=
  ⟨[], none, [], [], [], [], [], a.stress, a.minutes, none, none, none, 0, [], last, 0, false, [], a.head⟩

/-- CORE loses its state: the CORE part is OFF, the run goes on. -/
def State.almLose (s : State) : State :=
  let r := s.alm.runStored
  (s.setFld F.ALM_STATUS.STATE Alm.off).setReg R.ALM_EPOCH 0 |> fun a => { a with alm := { a.alm.afterReset none with runStored := r } }

/-- A DRAM-domain reset: STARTING, and a run record is due (R499, R515). -/
def State.almRestart (s : State) : State :=
  let s1 : State := { s with alm := { s.alm with runStored := none, lastFrame := some s.frame } }
  if s1.almState = Alm.off then s1 else s1.almEnter Alm.starting

/-- The run record is stored, or both sectors have failed: `fails` sectors failed (R499). -/
def State.runStart (s : State) (fails : Nat) : State :=
  if s.almState ≠ Alm.starting ∨ s.alm.runStored.isSome then s
  else
    let prev := s.run
    let s1 := s.setReg R.ALM_RUN (w32 (max (field s.newestRun 0 4) prev + 1))
    let s2 : State := { s1 with alm := { s1.alm with runStored := some s1.now } }
    let s3 := if fails ≥ 2 then (s2.setFlag F.ALM_STATUS.RUN_UNSTORED true).post .alm AlmCode.runUnstored 0
      else (s2.flashAppend runSector0 runSector1 s2.runRecord (fails == 1)).setFlag F.ALM_STATUS.RUN_UNSTORED false
    let last : Bytes × State := match s.alm.lastFrame with
      | some f => (leBytes 8 (f % 2 ^ 48), s3)
      | none => s3.freeBytes 8
    let s4 := last.2.almEvent Hist.runStart Unit.alm.top 0 (leBytes 4 prev ++ last.1 ++ leBytes 1 (if fails ≥ 2 then 1 else 0))
    (s4.putHead.almEnter Alm.waitArchive).almArchive

/-! ### The boundary (R506) -/

/-- What a boundary that opens frame `n` does with apply requests; `carry` is the CAL_EPOCH of a switch there. -/
def State.almBoundary (s : State) (n : Nat) (carry : Option Nat) : State :=
  let due (a : CalApply) : Bool := decide (a.at_ + 2 * usec ≤ s.now)
  let ps := s.alm.applies.filter due
  match carry with
  | some i =>
    let refuse (a : State) (p : CalApply) : State :=
      match p.who with
      | some (o, q) => (a.post .alm AlmCode.epochRefused 0).answer o q AlmCode.epochRefused Unit.alm.top 0 (leBytes 4 p.epoch ++ zeros 12)
      | none => (a.post .alm AlmCode.epochRefused 0).pcxRefused
    let s1 : State := ps.foldl refuse { s with alm := { s.alm with applies := s.alm.applies.filter (fun a => !due a || a.who.isNone) } }
    let s2 := match s1.chainRec i with
      | some (true, _) => s1.takeEpoch i 2 false
      | _ => s1.post .alm AlmCode.epochUnknown (i % 65536)
    s2.showPending
  | none =>
    if ps.isEmpty then s
    else
      let e := ps.foldl (fun m a => max m a.epoch) 0
      let s1 := (({ s with alm := { s.alm with applies := s.alm.applies.filter (fun a => !due a) } }).takeEpoch e 1 (ps.any (·.who.isNone))).show .alm 0 0
      let done (a : State) (p : CalApply) : State :=
        match p.who with
        | some (o, q) => a.answer o q 0 Unit.alm.top 0 (leBytes 4 e ++ zeros 4 ++ leBytes 8 (n % 2 ^ 48))
        | none => a
      (ps.foldl done s1).showPending

/-- The epoch in force will change at a boundary now. -/
def State.epochDue (s : State) (carry : Option Nat) : Bool :=
  match carry with
  | some i => match s.chainRec i with | some (ok, _) => ok | none => false
  | none => s.alm.applies.any (fun a => decide (a.at_ + 2 * usec ≤ s.now))

/-! ### Appends and reads (R501, R504, R505) -/

/-- Appends queued or still on their way from the host. -/
def State.appendCount (s : State) : Nat :=
  s.alm.appends.length + (s.hif.transfers.filter (fun t => match t.kind with | .calAppend _ => true | _ => false)).length

/-- CAL_RECORD_APPEND. -/
def execCalRecordAppend (o : Origin) (seq : Word) (s : State) : Host.Outcome State Fault Refusal :=
  let v : Via := .msg o seq
  .next (s.withRequest v [0x0404] (fun s => s.onUnit v .alm R.ALM_CTRL (fun s =>
    let refuse (code : Nat) : State := s.finish v .alm code 0 (zeros 16)
    if s.ancState ≠ Anc.ready then refuse AlmCode.notMounted
    else if s.appendCount ≥ 4 then refuse AlmCode.busy
    else s.transfer o seq 8 (s.hbLen o seq 8) 0 Unit.alm.top 0 (.calAppend (bitAt (field (s.payload v) 0 4) 0)))))

/-- The submission of a host has arrived: it is checked and queued (R504). -/
def State.takeSubmission (s : State) (o : Origin) (seq : Word) (apply : Bool) (b : Bytes) : State :=
  let es := walkEntries (b.length / 8 + 1) b
  match badEntry true 0 [] es with
  | some i => s.finish (.msg o seq) .alm AlmCode.badRecord i (zeros 16)
  | none => { s with alm := { s.alm with appends := s.alm.appends ++ [⟨some (o, seq), es.map CalEntry.bytes, apply, []⟩] } }

/-- CAL_RECORD_READ: epoch 0 is the factory record. -/
def execCalRecordRead (o : Origin) (seq : Word) (s : State) : Host.Outcome State Fault Refusal :=
  let v : Via := .msg o seq
  .next (s.withRequest v [0x0405] (fun s => s.onUnit v .alm R.ALM_CTRL (fun s =>
    let e := field (s.payload v) 0 4
    let send (code : Nat) (b : Bytes) : State := (s.show .alm code 0).toHost o seq 8 code Unit.alm.top 0 b (leBytes 4 b.length ++ zeros 4)
    if e = 0 then send 0 s.otp.factory
    else match s.chainRec e with
      | some (true, b) => send 0 b
      | some (false, b) => send AlmCode.epochLost b
      | none => s.finish v .alm AlmCode.epochUnknown (e % 65536) (zeros 8))))

/-- TEMPLATE entries of the tones staged at the PCX (R162, R504). -/
def State.stagedEntries (s : State) : List CalEntry :=
  ((List.range 16).filter (fun k => srcBits (s.reg R.PCX_TF_STAGE_SRC) k != 0)).map (fun k =>
    let delay := signed 24 (s.fld (F.PCX_TF_DIFFk.DELAY k))
    let rho := toF32 (fNat (s.fld (F.PCX_TF_DIFFk.RHO k)) / 255.0)
    ⟨3, k, 268, leBytes 1 (srcBits (s.reg R.PCX_TF_STAGE_SRC) k) ++ zeros 3 ++ leBytes 4 (unsigned 32 delay) ++ leBytes 4 rho.toNat
      ++ (List.range 64).flatMap (fun q => leBytes 4 (s.reg (R.PCX_TF_STAGEk_q k q)).toNat)⟩)

/-- TEMPLATE_BUILD_DONE: the new templates stand in the second bank; the coefficients pass to the ALM for a record; a refused append returns the PCX to STAGED. -/
def execTemplateBuildDone (s : State) : Host.Outcome State Fault Refusal :=
  .next (if !s.pcx.building then s
    else if s.ancState ≠ Anc.ready ∨ s.appendCount ≥ 4 ∨ !s.unitOn .alm then
      let code := if s.ancState ≠ Anc.ready then AlmCode.notMounted else AlmCode.busy
      let b := (if s.unitOn .alm then s.post .alm code 0 else s).pcxRefused
      ({ b with pcx := { b.pcx with building := false, appending := false, epoch := none, retry := true } }).setFld F.PCX_STATUS.TF_STATE Tf.staged
    else
      let es := s.stagedEntries.map CalEntry.bytes
      { s with pcx := { s.pcx with building := false, appending := true, second := some s.stagedSet }, alm := { s.alm with appends := s.alm.appends ++ [⟨none, es, true, []⟩] } })

/-! ### Histories, samples and the summary -/

/-- POWERED_MINUTE: a minute of AO operation; every 60, a run record, stored or not, and the hour's entries (R500, R510). -/
def execPoweredMinute (stored : Bool) (t : Nat) (s : State) : Host.Outcome State Fault Refusal :=
  let s0 := s.at_ t
  .next (if s.glb.porHeld then s
    else
      let tj := fInt (signed 16 (s0.fld F.GLB_TJ.TJ)) / 16.0
      let stress := f64 s0.alm.stress + (8123.5 * (1.0 / 378.15 - 1.0 / (tj + 273.15))).exp
      let s1 := s0.setReg R.ALM_POWERED (s0.reg R.ALM_POWERED + 1)
      let s2 : State := { s1 with alm := { s1.alm with stress := toF64 stress, minutes := (s1.alm.minutes + 1) % 60 } }
      if s2.alm.minutes ≠ 0 then s2
      else
        let s3 := if stored then (s2.flashAppend runSector0 runSector1 s2.runRecord false).setFlag F.ALM_STATUS.RUN_UNSTORED false else s2
        if s3.unitOn .alm then s3.submitHist else s3)

/-- INDICATOR_SAMPLE. -/
def execIndicatorSample (id : Fin 64) (t : Nat) (s : State) : Host.Outcome State Fault Refusal :=
  let s0 := s.at_ t
  .next (if s0.unitOn .alm && s0.almState == Alm.ready && indIssued id then s0.indSample id else s0)

/-- HISTORY_SUBMIT: within 1 ms of the first pending event (R510). -/
def execHistorySubmit (t : Nat) (s : State) : Host.Outcome State Fault Refusal :=
  let s0 := s.at_ t
  .next (if s0.alm.firstEvent.isSome then s0.submitHist else s0)

/-- FLUSH: ALM_CTRL.FLUSH. -/
def execFlush (src : Src) (s : State) : Host.Outcome State Fault Refusal :=
  .next (s.onUnit (.reg src) .alm R.ALM_CTRL State.submitHist)

/-- ALM_COUNT_CLR: ALM_CTRL.COUNT_CLR. -/
def State.almCountClr (s : State) : State := s.setFld F.ALM_HIST_STAT.LOST 0
def execAlmCountClr (src : Src) (s : State) : Host.Outcome State Fault Refusal :=
  .next (s.onUnit (.reg src) .alm R.ALM_CTRL State.almCountClr)

/-- An indicator's entry of the summary. -/
def indBytes (id : Nat) (x : Indicator) : Bytes :=
  leBytes 2 id ++ leBytes 1 x.state ++ leBytes 1 (if id = 1 then 1 else 0) ++ leBytes 4 (toF32 (f64 x.value)).toNat
    ++ leBytes 4 x.nom ++ leBytes 4 x.early

/-- ALM_SUMMARY. -/
def execAlmSummary (o : Origin) (seq : Word) (s : State) : Host.Outcome State Fault Refusal :=
  let v : Via := .msg o seq
  .next (s.withRequest v [0x0804] (fun s => s.onUnit v .alm R.ALM_CTRL (fun s =>
    let b := s.almHead ++ (s.alm.indicators.filter (fun x => x.2.n ≠ 0)).flatMap (fun x => indBytes x.1 x.2)
    (s.show .alm 0 0).toHost o seq 0 0 Unit.alm.top 0 b (leBytes 4 b.length ++ zeros 4))))

/-- The registers of the indicator selected, as they read (Table 20-8). -/
def State.indReg (s : State) (off : Nat) : Word :=
  let id := s.fld F.ALM_IND_SEL.ID
  let x := s.indicator id
  if off = R.ALM_IND_INFO then w32 (x.state + (if id = 1 then 8 else 0) + 256 * x.n)
  else if off = R.ALM_IND_VALUE then (if x.n = 0 then 0 else toF32 (f64 x.value))
  else if off = R.ALM_IND_LIMIT then w32 x.limit
  else if off = R.ALM_IND_REMAIN_NOM then w32 x.nom
  else w32 x.early

/-- OSC_OFFSET_REPORT: once per hour of lock the mean offset passes to the ALM (14 R396). -/
def execOscOffsetReport (s : State) : Host.Outcome State Fault Refusal :=
  .next (if s.ttu.oscSecs < 3600 then s
    else { s with ttu := { s.ttu with oscSecs := 0 }, alm := { s.alm with osc := some (signed 32 (s.reg R.TTU_OSC_OFFSET).toNat) } })

end Sys2Proof.Machine
end

