-- ==== Sys2Proof/Machine/Pins.lean ====
section
/-! DEFINITION. The balls of the package and the states of the pins in reset (22 R532-R535, R542), and the drive settings of the NAND
balls (22 R556). -/

namespace Sys2Proof.Machine

/-! ### Ball assignment (R533, R534) -/

/-- Names of the 24 rows, in order (R533). -/
def ballRows : List String :=
  ["A", "B", "C", "D", "E", "F", "G", "H", "J", "K", "L", "M", "N", "P", "T", "U", "V", "W", "Y", "AA", "AB", "AC", "AD", "AE"]

/-- What a region lists: a ball, or a pair that takes adjacent balls, P first. -/
inductive BallItem where
  | one (name : String)
  | pair (name : String)
  deriving DecidableEq, Repr

/-- A region of Table 22-2: rows by index and columns, both inclusive, its items in assignment order, and its supplies with their
number. -/
structure BallRegion where
  top : Nat
  bottom : Nat
  left : Nat
  right : Nat
  items : List BallItem
  supplies : List (String × Nat)
  deriving DecidableEq, Repr

/-- A name with an index, and `n` of them. -/
def ixName (a : String) (i : Nat) (b : String := "") : String := a ++ toString i ++ b
def ones (a : String) (n : Nat) (b : String := "") : List BallItem := (List.range n).map (fun i => .one (ixName a i b))
def pairs (a : String) (n : Nat) : List BallItem := (List.range n).map (fun i => .pair (ixName a i))

/-- The signals of a DRAM channel, and of a NAND channel. -/
def ddrBalls (n : Nat) : List BallItem :=
  let d := ixName "DDR" n
  ones (d ++ "_DQ") 16 ++ [.pair (d ++ "_DQS0"), .pair (d ++ "_DQS1")] ++ ones (d ++ "_CA") 6 ++ [.pair (d ++ "_CK")]
    ++ ones (d ++ "_CKE") 2 ++ ones (d ++ "_CS") 2
def nandBalls (d : String) : List BallItem :=
  ones (d ++ "_DQ") 8 ++ [.pair (d ++ "_DQS"), .pair (d ++ "_RE"), .one (d ++ "_WE_N"), .one (d ++ "_CLE"), .one (d ++ "_ALE"),
    .one (d ++ "_WP_N")] ++ ones (d ++ "_CE") 4 "_N" ++ [.one (d ++ "_RB_N")]

/-- The four sense and force balls of a Vernier input. -/
def vxBalls (d : String) : List BallItem := ["_FP", "_FN", "_SP", "_SN"].map (fun x => .one (d ++ x))

/-- The eight regions of Table 22-2. -/
def ballRegions : List BallRegion :=
  [⟨0, 3, 5, 16, pairs "FAIN" 4 ++ pairs "MAIN" 4 ++ pairs "PDAC" 2 ++ pairs "GATE" 2 ++ [.one "AFE_RBIAS"],
      [("VDD_AFE10", 8), ("VDD_AFE18", 10)]⟩,
   ⟨0, 10, 1, 4, (List.range 8).flatMap (fun i => vxBalls (ixName "VX" i)) ++ vxBalls "VREF" ++ [.one "MAINS_SYNC"], [("VDD_PFE", 4)]⟩,
   ⟨0, 6, 17, 20, [.one "LAUNCH_IN", .one "LAUNCH_OUT", .one "BLANK_IN", .pair "REFCLK", .one "PPS_IN", .one "PPS_OUT", .one "XO_IN",
      .one "XO_OUT"] ++ ones "EV" 4 ++ pairs "HF" 4 ++ ones "TGATE" 4, []⟩,
   ⟨0, 11, 21, 24, pairs "CS0_TX" 4 ++ pairs "CS0_RX" 4 ++ pairs "CS1_TX" 4 ++ pairs "CS1_RX" 4, [("VDD_SER", 6)]⟩,
   ⟨12, 23, 21, 24, pairs "PE_TX" 4 ++ pairs "PE_RX" 4 ++ [.pair "PE_REFCLK", .one "PERST_N"], [("VDD_SER", 4)]⟩,
   ⟨11, 23, 1, 7, ddrBalls 0 ++ ddrBalls 1 ++ [.one "DDR_RESET_N", .one "DDR_ZQ"], [("VDD2", 8), ("VDDQ", 10)]⟩,
   ⟨17, 23, 8, 15, nandBalls "NA" ++ nandBalls "NB", [("VDD_IO", 6)]⟩,
   ⟨14, 23, 16, 20, [.one "RESET_N", .one "PWRFAIL_N", .one "IRQ_N", .one "SPI_CLK", .one "SPI_CS_N"] ++ ones "SPI_IO" 4
      ++ [.one "SMB_CLK", .one "SMB_DAT", .one "TCK", .one "TMS", .one "TDI", .one "TDO", .one "TRST_N", .pair "DLK", .one "DLK_DIR"]
      ++ ones "GPIO" 16, [("VDD_IO", 6), ("VDD_AO", 4)]⟩]

/-- Items laid out in a row-by-row list of balls of the given width: a P ball in the last column becomes VSS, and the pair starts in the
next row (R534). `used` balls are taken already. -/
def layItems (width : Nat) : List BallItem → Nat → List String
  | [], _ => []
  | .one n :: t, used => n :: layItems width t (used + 1)
  | .pair n :: t, used =>
    if used % width = width - 1 then "VSS" :: (n ++ "_P") :: (n ++ "_N") :: layItems width t (used + 3)
    else (n ++ "_P") :: (n ++ "_N") :: layItems width t (used + 2)

/-- The names of a region's balls, row by row: signals, supplies, VSS. -/
def BallRegion.names (r : BallRegion) : List String :=
  let w := r.right - r.left + 1
  let l := layItems w r.items 0 ++ r.supplies.flatMap (fun x => List.replicate x.2 x.1)
  l ++ List.replicate (w * (r.bottom - r.top + 1) - l.length) "VSS"

/-- A region holds a ball, given by row index and column. -/
def BallRegion.holds (r : BallRegion) (row col : Nat) : Bool := inRange r.top r.bottom row && inRange r.left r.right col

/-- Balls of the core region, row by row: every ball outside regions 1 to 8. -/
def coreBalls : List (Nat × Nat) :=
  ((List.range 24).flatMap (fun a => (List.range 24).map (fun b => (a, b + 1)))).filter (fun x => !ballRegions.any (fun r => r.holds x.1 x.2))

/-- The name of a ball (R534): of its region, else of the core region, whose first four balls are RSVD and next 64 VDD_CORE. -/
def ballName (row col : Nat) : String :=
  match ballRegions.find? (fun r => r.holds row col) with
  | some r => (r.names[(row - r.top) * (r.right - r.left + 1) + (col - r.left)]?).getD "VSS"
  | none =>
    match coreBalls.idxOf? (row, col) with
    | some i => if i < 4 then "RSVD" else if i < 68 then "VDD_CORE" else "VSS"
    | none => "VSS"

/-! ### Pins in reset (R542, Table 22-5) -/

/-- How a pin stands while reset is asserted and until its block first configures it. -/
inductive PinState where
  | inputDown | inputUp | released | undriven | low | high | electricalIdle
  deriving DecidableEq, Repr

/-- The groups of pins of Table 22-5. -/
inductive PinGroup where
  | gpio | jtagSpiUp | trst | irq | outputs | dlkDir | pdacGate | ddrReset | nandSelect | nandOther | serialTx
  deriving DecidableEq, Repr

/-- A pin's state in reset: `core` that CORE is in RUN, `ddr` that step t0 + 200 us of 11 Table 11-3 has come. -/
def PinGroup.inReset (core ddr : Bool) : PinGroup → PinState
  | .gpio | .trst => .inputDown
  | .jtagSpiUp => .inputUp
  | .irq => .released
  | .outputs | .pdacGate | .nandOther => .undriven
  | .dlkDir => if core then .low else .undriven
  | .ddrReset => if ddr then .high else .low
  | .nandSelect => .high
  | .serialTx => .electricalIdle

/-- The pins stand as Table 22-5 says: power-on or warm reset is asserted. -/
def State.pinsReset (s : State) : Bool := s.glb.porHeld || s.glb.warm

/-! ### NAND balls (R556) -/

/-- Output drive in ohms, and on-die termination in ohms where it is enabled, at a rate in MT/s. -/
def nandDrive (rate : Nat) : Nat × Option Nat := if rate ≤ 533 then (35, none) else (50, some 50)

end Sys2Proof.Machine
end

