-- ==== Sys2Proof/Machine/Hif.lean ====
section
/-! DEFINITION. The host interface: doorbells, sessions, status words and error logs of units, the violation log and MSI-X
(18 R460-R478, 01 R47-R56). -/

namespace Sys2Proof.Machine

/-- Codes of Table 18-5. -/
abbrev HifCode.capacity : Nat := 1
abbrev HifCode.badArg : Nat := 2
abbrev HifCode.badState : Nat := 3
abbrev HifCode.noMember : Nat := 4
abbrev HifCode.shortBuffer : Nat := 5
abbrev HifCode.hostDma : Nat := 6
abbrev HifCode.unmapped : Nat := 8
abbrev HifCode.frozenAccess : Nat := 9
abbrev HifCode.doorbell : Nat := 10
abbrev HifCode.partialWrite : Nat := 11

/-! ### Rings -/

/-- A session's tail is written; without bus mastering the doorbell is remembered, the latest of a session alone (R460, R465). -/
def State.doorbell (s : State) (n : Fin 256) (tail : Nat) (slots : List Bytes) : State :=
  if s.hif.busMaster then s.takeTail n tail slots
  else { s with hif := { s.hif with doorbells := s.hif.doorbells.filter (fun d => d.1 != n.val) ++ [(n.val, tail)] } }

/-- SQ_TAIL_WRITE: the operand holds the new slots' bytes in host memory. -/
def execSqTailWrite (n : Fin 256) (tail : Fin 4096) (slots : List (List Byte)) (s : State) : Host.Outcome State Fault Refusal :=
  .next (s.onUnit (.reg .host) .hif (R.HIF_SQ_TAILs n.val) (fun s => s.doorbell n tail.val slots))

/-- CQ_HEAD_WRITE: the host returns completion slots (R465, R466). -/
def execCqHeadWrite (n : Fin 256) (head : Fin 4096) (s : State) : Host.Outcome State Fault Refusal :=
  .next (s.onUnit (.reg .host) .hif (R.HIF_CQ_HEADs n.val) (fun s => s.takeHead n head.val))

/-- Remembered doorbells are acted on in their order, each with the new slots of its ring. -/
def State.ringDoorbells : List (Nat × Nat) → List (List Bytes) → State → State
  | [], _, s => s
  | d :: rest, slots, s => State.ringDoorbells rest slots.tail (s.takeTail (Fin.ofNat 256 d.1) d.2 (slots.headD []))

/-- BUS_MASTER_ENABLE: the host sets Bus Master Enable, and MSI-X Enable and Function Mask as it chooses; remembered doorbells
are acted on, and vectors the function mask alone held pending are sent (R460, R463). -/
def execBusMasterEnable (msix mask : Bool) (slots : List (List (List Byte))) (s : State) : Host.Outcome State Fault Refusal :=
  .next (if !s.unitOn .hif then s
    else
      let ds := s.hif.doorbells
      let s1 : State := { s with hif := { s.hif with busMaster := true, msixOn := msix, msixMask := mask, doorbells := [] } }
      let s2 := if !msix || mask then s1
        else (List.range 64).foldl (fun (a : State) v =>
          if bitAt (a.reg (R.MSIX_PBAi (v / 32))).toNat (v % 32) && !a.flag (F.MSIX_TABLEv_CONTROL.MASK v) then
            (a.setReg (R.MSIX_PBAi (v / 32)) (a.reg (R.MSIX_PBAi (v / 32)) &&& ~~~((1 : Word) <<< (v % 32)))).signal v
          else a) s1
      State.ringDoorbells ds slots s2)

/-- A vector's mask bit is cleared: its pending message is sent (R463). -/
def State.msixUnmask (s : State) (v : Nat) : State :=
  let s1 := s.setFld (F.MSIX_TABLEv_CONTROL.MASK v) 0
  let r := R.MSIX_PBAi (v / 32)
  if bitAt (s1.reg r).toNat (v % 32) && s1.hif.msixOn && !s1.hif.msixMask then
    (s1.setReg r (s1.reg r &&& ~~~((1 : Word) <<< (v % 32)))).signal v
  else s1

/-- MSIX_UNMASK. -/
def execMsixUnmask (v : Fin 64) (s : State) : Host.Outcome State Fault Refusal :=
  .next (s.onUnit (.reg .host) .hif (R.MSIX_TABLEv_CONTROL v.val) (fun s => s.msixUnmask v.val))

/-! ### Sessions (R468, R471) -/

/-- SESSION_OPEN: the lowest free number, or CAPACITY. -/
def execSessionOpen (o : Origin) (seq : Word) (s : State) : Host.Outcome State Fault Refusal :=
  .next (s.withRequest (.msg o seq) [0x0101] (fun s =>
    let p := s.payload (.msg o seq)
    match s.freeSession with
    | none => s.answer o seq HifCode.capacity Unit.hif.top 0 []
    | some n =>
      (s.openSession n (field p 0 8) (field p 8 8) (field p 16 1) (field p 17 1) (field p 18 1) (field p 19 1)).answer o seq 0
        Unit.hif.top 0 (leBytes 1 n ++ zeros 7)))

/-- The outcome of a session operation by HIF_SESS_CTRL stands in HIF_STATUS, by message in its answer. -/
def State.sessionResult (s : State) (v : Via) (code n : Nat) : State :=
  match v with
  | .reg _ => s.post .hif code n
  | .msg o seq => s.answer o seq code Unit.hif.top n []

/-- SESSION_CLOSE by message, or HIF_SESS_CTRL OP CLOSE for the session of the operand: a closed session is BAD_STATE, session 0
by message BAD_ARG; a session that closes itself has no answer (R468, Table 18-4). -/
def execSessionClose (via : Via) (n : Fin 256) (s : State) : Host.Outcome State Fault Refusal :=
  .next (s.withRequest via [0x0102] (fun s => s.onUnit via .hif R.HIF_SESS_CTRL (fun s =>
    let k := match via with | .reg _ => n.val | .msg _ _ => field (s.payload via) 0 1
    let viaMsg := match via with | .reg _ => false | .msg _ _ => true
    if viaMsg && k == 0 then s.sessionResult via HifCode.badArg k
    else if (s.session k).isNone then s.sessionResult via HifCode.badState k
    else (s.closeSession k).sessionResult via 0 k)))

/-- SESSION_REOPEN by message, or HIF_SESS_CTRL OP REOPEN with E from HIF_SESS_NEXT (R471). -/
def execSessionReopen (via : Via) (n : Fin 256) (s : State) : Host.Outcome State Fault Refusal :=
  .next (s.withRequest via [0x0103] (fun s => s.onUnit via .hif R.HIF_SESS_CTRL (fun s =>
    let p := s.payload via
    let k : Fin 256 := match via with | .reg _ => n | .msg _ _ => Fin.ofNat 256 (field p 0 1)
    let e := match via with | .reg _ => s.reg R.HIF_SESS_NEXT | .msg _ _ => w32 (field p 4 4)
    if (s.session k.val).isNone then s.sessionResult via HifCode.badState k.val
    else (s.reopenSession k e).sessionResult via 0 k.val)))

/-- HIF_SESS_CTRL OP OPEN for a session: session 0 alone, from the S0 registers (R468, Table 18-9). -/
def State.session0Open (s : State) (n : Nat) : State :=
  let sq := s.reg64 R.HIF_S0_SQ_LO R.HIF_S0_SQ_HI
  let cq := s.reg64 R.HIF_S0_CQ_LO R.HIF_S0_CQ_HI
  let f := s.fld
  if n ≠ 0 ∨ !sessionOk sq cq (f F.HIF_S0_CFG.SQ_LOG2) (f F.HIF_S0_CFG.CQ_LOG2) (f F.HIF_S0_CFG.WINDOW) (f F.HIF_S0_CFG.VECTOR) then
    s.post .hif HifCode.badArg n
  else if (s.session 0).isSome then s.post .hif HifCode.badState 0
  else (s.openSession 0 sq cq (f F.HIF_S0_CFG.SQ_LOG2) (f F.HIF_S0_CFG.CQ_LOG2) (f F.HIF_S0_CFG.WINDOW) (f F.HIF_S0_CFG.VECTOR)).post .hif 0 0

/-- SESSION0_OPEN. -/
def execSession0Open (src : Src) (n : Fin 256) (s : State) : Host.Outcome State Fault Refusal :=
  .next (s.onUnit (.reg src) .hif R.HIF_SESS_CTRL (fun s => s.session0Open n.val))

/-- ECHO: the request's DATA comes back. -/
def execEcho (o : Origin) (seq : Word) (s : State) : Host.Outcome State Fault Refusal :=
  .next (s.withRequest (.msg o seq) [0x0104] (fun s => s.answer o seq 0 Unit.hif.top 0 (s.payload (.msg o seq))))

/-- HIF_SESS_INFO of the selected session: STATE, OUTSTANDING, VIOL. -/
def State.sessInfo (s : State) : Word :=
  let n := s.fld F.HIF_SESS_SEL.SESSION
  match s.session n with
  | none => 0
  | some x => w32 ((if x.quarantined then 2 else 1) + 4 * min 127 (s.outstanding (Fin.ofNat 256 n)) + 65536 * x.viol)

/-- HIF_SESS_EXPECT of the selected session. -/
def State.sessExpect (s : State) : Word :=
  match s.session (s.fld F.HIF_SESS_SEL.SESSION) with | some x => x.expect | none => 0

/-! ### Units (01 R47-R56) -/

/-- A unit path as levels of Table 1-5. -/
inductive PathOf where
  | chip
  | array
  | block (top : Nat)
  | engines (lo n : Nat)
  deriving DecidableEq, Repr

/-- The path of a path word; none for one that is not issued (R48). -/
def readPath (w : Nat) : Option PathOf :=
  let d := w / 2 ^ 29
  let top := w / 2 ^ 24 % 32
  let t := w / 2 ^ 20 % 16
  let q := w / 2 ^ 16 % 16
  let e := w / 2 ^ 12 % 16
  if w % 4096 ≠ 0 then none
  else match d with
    | 0 => if w % 2 ^ 29 = 0 then some .chip else none
    | 1 => if w % 2 ^ 24 ≠ 0 ∨ top > 20 then none else some (if top = 0 then .array else .block top)
    | 2 => if top = 0 ∧ t < 4 ∧ q = 0 ∧ e = 0 then some (.engines (16 * t) 16) else none
    | 3 => if top = 0 ∧ t < 4 ∧ q < 4 ∧ e = 0 then some (.engines (16 * t + 4 * q) 4) else none
    | 4 => if top = 0 ∧ t < 4 ∧ q < 4 ∧ e < 4 then some (.engines (16 * t + 4 * q + e) 1) else none
    | _ => none

/-- A fixed block by its TOP. -/
def topUnit : Nat → Unit
  | 1 => .pmu | 2 => .sil | 3 => .mrs | 4 => .pgu | 5 => .fafe | 6 => .ddc | 7 => .pcx | 8 => .mafe | 9 => .znt
  | 10 => .stu | 11 => .tce | 12 => .anc | 13 => .dmc | 14 => .cvu | 15 => .ttu | 16 => .vpf | 17 => .dlk | 18 => .hif
  | 19 => .csp | 20 => .alm | _ => .gea

/-- The image uses a fixed block. -/
def State.usesUnit (s : State) (u : Unit) : Bool :=
  let img := s.sil.active
  match u with
  | .pgu | .fafe | .ddc | .pcx => s.usesFast
  | .mafe => s.usesMed
  | .znt => imgHas img Sec.zoneTree
  | .stu => imgHas img Sec.triggerPrograms
  | .tce | .anc => imgHas img Sec.archivePolicy
  | .vpf => imgHas img Sec.vernierSetup
  | .dlk => imgHas img Sec.driverlinkTable
  | _ => true

/-- HEALTH, POWER, GROUPING and log of one member. -/
structure UnitWord where
  health : Nat
  power : Nat
  grouping : Nat
  log : UnitLog
  deriving DecidableEq, Repr

/-- HEALTH of a group as it reads: OFFLINE where a tile of it is not on. -/
def State.groupHealth (s : State) (g : Nat) : Nat :=
  match s.groups[g]? with
  | some x => if x.tiles.any (fun t => decide (s.domState (2 + t) ≥ 2)) then 3 else s.fld (F.MRS_GROUPg_STATUS.HEALTH g)
  | none => 3

/-- Power state of a group: the most active of its members' tiles (R54). -/
def State.groupPower (s : State) (g : Group) : Nat := g.tiles.foldl (fun m t => min m (s.domState (2 + t))) 3

/-- An engine as a member: a fused group's members report the group's state (R52); the group's vote is MERIDIAN's (R55). -/
def State.engineWord (s : State) (e : Nat) : UnitWord :=
  let g := s.groupOf e
  { health := match g with | some (i, _) => s.groupHealth i | none => 3
    power := match g with | some (_, x) => s.groupPower x | none => s.domState (2 + e / 16)
    grouping := match g with | some (_, x) => x.kind | none => 0
    log := s.logOf (enginePath e) }

/-- A fixed block as a member. -/
def State.blockWord (s : State) (top : Nat) : UnitWord :=
  let u := topUnit top
  let p := s.domState u.domain
  { health := if (decide (u.domain ≠ 0) && decide (p ≥ 2)) || !s.usesUnit u then 3 else 0
    power := if u.domain = 0 then 0 else p
    grouping := 0
    log := s.logOf (fixedPath u) }

/-- Members of a path, lowest first. -/
def State.members (s : State) : PathOf → List UnitWord
  | .engines lo n => (List.range n).map (fun i => s.engineWord (lo + i))
  | .array => (List.range 64).map s.engineWord
  | .block t => [s.blockWord t]
  | .chip => (List.range 64).map s.engineWord ++ (List.range 20).map (fun i => s.blockWord (i + 1))

/-- The status word of a path (Table 1-6, R54). -/
def State.pathWord (s : State) (p : PathOf) : Word :=
  let ms := s.members p
  let health := ms.foldl (fun m x => max m x.health) 0
  let power := ms.foldl (fun m x => min m x.power) 3
  let group := match p, ms with
    | .chip, _ => 0
    | _, x :: _ => x.grouping
    | _, [] => 0
  let n := ms.foldl (fun m x => m + x.log.entries.length) 0
  let ov := ms.any (fun x => x.log.overflow)
  w32 (health + 16 * power + 64 * group + 256 * min 255 n + (if ov then 65536 else 0))

/-- An error log entry's 16 bytes (R56). -/
def LogEntry.bytes (e : LogEntry) : Bytes :=
  leBytes 4 e.frame ++ leBytes 4 (e.frame / 2 ^ 32 % 65536 + 65536 * (e.code % 65536)) ++ leBytes 4 (e.bin % 2 ^ 18 + 2 ^ 18 * e.rep)
    ++ leBytes 4 e.path

/-- Logs of a path: path words of its members. -/
def PathOf.paths : PathOf → List Nat
  | .engines lo n => (List.range n).map (fun i => enginePath (lo + i))
  | .array => (List.range 64).map enginePath
  | .block t => [fixedPath (topUnit t)]
  | .chip => (List.range 64).map enginePath ++ (List.range 20).map (fun i => fixedPath (topUnit (i + 1)))

/-- The entries of several logs in range-time order (R56). -/
def State.logUnion (s : State) (keys : List Nat) : List LogEntry :=
  sortBy (fun e => e.frame * 2 ^ 18 + e.bin) (keys.flatMap (fun k => (s.logOf k).entries))

/-- Keys of a zone's error logs: its own and those of the zones under it (01 R47, R56; log entry 167). -/
def State.zoneKeys (s : State) (z : Nat) : List Nat := (treeOf s.znt.zones 9 z).map zoneKey

/-- A zone's status word: LATE where a block of its interval came late, in it or a zone under it; it shares the power of CORE; a zone that
is not in the table is OFFLINE (R53, R54). -/
def State.zoneWord (s : State) (z : Nat) : Word :=
  let t := treeOf s.znt.zones 9 z
  let late := t.any (fun n => match (s.znt.stats.find? (·.1 = n)).map (·.2) with | some x => x.late | none => false)
  let ls := (s.zoneKeys z).map s.logOf
  let n := (ls.map (·.entries.length)).sum
  w32 ((if t.isEmpty then 3 else if late then 1 else 0) + 16 * s.domState 1 + 256 * min 255 n + (if ls.any (·.overflow) then 65536 else 0))

/-- UNIT_STATUS (R477). -/
def execUnitStatus (o : Origin) (seq : Word) (s : State) : Host.Outcome State Fault Refusal :=
  .next (s.withRequest (.msg o seq) [0x0801] (fun s =>
    let p := s.payload (.msg o seq)
    if field p 0 1 = 1 then s.answer o seq 0 Unit.hif.top 0 (leBytes 4 (s.zoneWord (field p 2 2)).toNat ++ zeros 4)
    else match readPath (field p 4 4) with
      | none => s.answer o seq HifCode.badArg Unit.hif.top 0 []
      | some q => s.answer o seq 0 Unit.hif.top 0 (leBytes 4 (s.pathWord q).toNat ++ zeros 4)))

/-- ERROR_LOG: entries in range-time order, and the logs emptied where CLEAR asks (R478); a log that does not fit is
SHORT_BUFFER. -/
def execErrorLog (o : Origin) (seq : Word) (s : State) : Host.Outcome State Fault Refusal :=
  .next (s.withRequest (.msg o seq) [0x0802] (fun s =>
    let p := s.payload (.msg o seq)
    let keys := if field p 0 1 = 1 then some (s.zoneKeys (field p 2 2)) else (readPath (field p 4 4)).map PathOf.paths
    match keys with
    | none => s.answer o seq HifCode.badArg Unit.hif.top 0 []
    | some keys =>
      let es := s.logUnion keys
      let out := es.flatMap LogEntry.bytes
      let pay := leBytes 4 es.length ++ zeros 4
      if out.length > s.hbLen o seq 16 then s.answer o seq HifCode.shortBuffer Unit.hif.top 0 pay
      else s.transfer o seq 16 out.length 0 Unit.hif.top 0 (.errorLog out pay (if field p 8 4 % 2 = 1 then keys else []))))

/-- IDENTITY (R477). -/
def execIdentity (o : Origin) (seq : Word) (s : State) : Host.Outcome State Fault Refusal :=
  .next (s.withRequest (.msg o seq) [0x0803] (fun s =>
    s.answer o seq 0 Unit.hif.top 0 (leBytes 4 (s.reg R.GLB_CHIP_ID).toNat ++ leBytes 4 s.run
      ++ (List.range 4).flatMap (fun i => leBytes 4 (s.reg (R.ALM_DIE_IDi i)).toNat)
      ++ leBytes 1 (s.fld F.CSP_STATUS.INDEX) ++ zeros 7)))

/-! ### The violation log (R472) -/

/-- HIF_VLOG_STAT as it reads. -/
def State.vlogStat (s : State) : Word := setBits (s.reg R.HIF_VLOG_STAT) 26 16 s.hif.vlog.length

/-- VIOLATION_LOG: at most LEN / 16 entries are drained; COUNT and OVERFLOW stand in the answer (R478). -/
def execViolationLog (o : Origin) (seq : Word) (s : State) : Host.Outcome State Fault Refusal :=
  .next (s.withRequest (.msg o seq) [0x0805] (fun s =>
    let es := s.hif.vlog.take (s.hbLen o seq 0 / 16)
    let out := es.flatMap (fun e => e.flatMap (fun w => leBytes 4 w.toNat))
    s.transfer o seq 0 out.length 0 Unit.hif.top 0
      (.vlog out (leBytes 4 es.length ++ leBytes 4 (s.fld F.HIF_VLOG_STAT.OVERFLOW)) es.length)))

/-- Word `w` of the oldest violation: W0 latches it, W3 removes it. -/
def State.vlogWord (s : State) (w : Nat) : State × Word :=
  let s1 : State := if w = 0 then { s with hif := { s.hif with vlogLatch := s.hif.vlog.headD [] } } else s
  let v := s1.hif.vlogLatch[w]?.getD 0
  if w = 3 then
    ({ s1 with hif := { s1.hif with
        vlog := if s1.hif.vlog.head? = some s1.hif.vlogLatch then s1.hif.vlog.tail else s1.hif.vlog, vlogLatch := [] } }, v)
  else (s1, v)

/-- VLOG_READ. -/
def execVlogRead (src : Src) (w : Fin 4) (s : State) : Host.Outcome State Fault Refusal :=
  let off := R.HIF_VLOG_W0 + 4 * w.val
  .next (if !s.unitOn .hif then (s.logOff src false false off Unit.hif.domain).give (.readData off 0)
    else
      let r := s.vlogWord w.val
      r.1.give (.readData off r.2.toNat))

/-- HIF_CTRL.VLOG_CLR. -/
def State.vlogClr (s : State) : State :=
  ({ s with hif := { s.hif with vlog := [], vlogLatch := [] } }).setFld F.HIF_VLOG_STAT.OVERFLOW 0

def execVlogClr (src : Src) (s : State) : Host.Outcome State Fault Refusal :=
  .next (s.onUnit (.reg src) .hif R.HIF_CTRL State.vlogClr)

/-- HIF_CTRL.COUNT_CLR: drop counts and every session's violation count. -/
def State.hifCountClr (s : State) : State :=
  let s1 := (List.range 32).foldl (fun a c => a.setReg (R.HIF_STRc_DROP c) 0) s
  { s1 with hif := { s1.hif with sessions := s1.hif.sessions.map (fun x => (x.1, { x.2 with viol := 0 })) } }

def execHifCountClr (src : Src) (s : State) : Host.Outcome State Fault Refusal :=
  .next (s.onUnit (.reg src) .hif R.HIF_CTRL State.hifCountClr)

end Sys2Proof.Machine
end

