-- ==== Sys2Proof/Machine/StuCap.lean ====
section
/-! DEFINITION. Taps of the STRAIN_RATE product, the measurements and delivery of capture records, the records at
boundaries, and the capture requests (09 R276, R278, R288, R293, R295, R296). -/

namespace Sys2Proof.Machine

/-! ### Taps (R276-R278) -/

/-- A forwarded STRAIN_RATE block: header, descriptor of 05 Table 5-2, K planes, quality words. -/
structure StrainBlock where
  frame : Nat
  k : Nat
  first : Nat
  bins : Nat
  late : Bool
  data : Bytes
  deriving DecidableEq, Repr

/-- A stream block of PRODUCT STRAIN_RATE, read. -/
def readStrain (b : Bytes) : Option StrainBlock :=
  let d := b.drop 64
  if field d 0 2 = 2 then
    some ⟨field b 8 6, field d 2 1, field d 4 4, min 256 (field d 8 4), bitAt (field d 14 2) 0, d.drop 32⟩
  else none

/-- The tapped bin at an offset of a block. -/
def StrainBlock.bin (b : StrainBlock) (i : Nat) : BinTap :=
  let q := w32 (field b.data (4 * (b.k * b.bins + i)) 4)
  { vals := (List.range b.k).map (fun k => signed 32 (field b.data (4 * (k * b.bins + i)) 4))
    fade := bitsOf q 31 16, counts := bitsOf q 9 8 == 0, lost := false }

/-- RESUME of a block's bin. -/
def StrainBlock.resume (b : StrainBlock) (i : Nat) : Bool := bitAt (field b.data (4 * (b.k * b.bins + i)) 4) 13

/-- A block enters the frames of a record. During a DMC freeze two frames are held; what belongs to a later one is missing (R299). -/
def State.tapCap (s : State) (b : StrainBlock) (r : Nat) : State :=
  let st := s.capSt r
  if st ≠ Cap.armed ∧ st ≠ Cap.triggered then s
  else
    let s1 := s.awaitFrames r b.frame
    let x := s1.cap r
    let lo := (s1.recSpan r).1
    let missing := s1.dmcState == Dmc.frozen && !(x.frames.take 2).any (·.num == b.frame)
    let tap (i : Nat) : BinTap := if missing then BinTap.missing b.k else b.bin i
    let put (c : CapFrame) : CapFrame :=
      (List.range b.bins).foldl (fun c i =>
        if lo ≤ b.first + i then c.put (b.first + i - lo) (tap i) (b.late && !missing) (b.resume i && !missing) else c) c
    let s2 := s1.setCap r { x with frames := x.frames.map (fun c => if c.num = b.frame then put c else c) }
    s2.settleCap r

/-- STRAIN_RATE_TAP: the ZNT's filters and the STU's records take a forwarded block. -/
def State.tapStrain (s : State) (block : Bytes) : State :=
  match readStrain block with
  | none => s
  | some b =>
    let ru := s.rulesOf b.frame
    let s1 := if s.fld F.ZNT_STATUS.STATE = Blk.running then
        (List.range b.bins).foldl (fun a i =>
          let t := b.bin i
          a.tapBin ru b.frame (b.first + i) t.vals t.fade t.counts b.late) s
      else s
    if s1.fld F.STU_STATUS.STATE ≠ Blk.running then s1
    else
      let s2 := s1.recIds.foldl (fun a r => a.tapCap b r) s1
      { s2 with stu := { s2.stu with tapped := max s2.stu.tapped (b.frame + 1) } }

/-! ### Measurements (R295) -/

/-- The rows of a record, oldest first: those before the trigger row up to PRE, and POST from it. -/
def CapRec.preRows (x : CapRec) : List CapRow :=
  match x.trig with
  | some t => x.rows.filter (fun w => decide (w.seq < t) && decide (t - x.pre ≤ w.seq))
  | none => []
def CapRec.postRows (x : CapRec) : List CapRow :=
  match x.trig with
  | some t => x.rows.filter (fun w => decide (t ≤ w.seq) && decide (w.seq < t + x.post))
  | none => []

/-- Every instant from the record's first row to its last, dropped rows too. -/
def CapRec.insts (x : CapRec) : List CapInst :=
  match x.trig with
  | some t =>
    let mine := (x.gone ++ x.rows).filter (fun w => decide (t - x.pre ≤ w.seq) && decide (w.seq < t + x.post))
    (sortBy CapRow.seq mine).flatMap (·.insts)
  | none => []

/-- Counted values of an instant: bin offset and value in nanostrain per second. -/
def CapInst.counted (c : CapInst) : List (Nat × Int) :=
  (((List.range c.vals.length).zip (c.vals.zip c.counts)).filter (fun e => e.2.2)).map (fun e => (e.1, e.2.1))

/-- The largest magnitude: value, bin offset, instant; the earliest instant, then the lowest bin. -/
def peakOf (l : List CapInst) : Option (Int × Nat × Nat) :=
  (l.flatMap (fun c => c.counted.map (fun e => (e.2, e.1, c.i)))).foldl (fun b e =>
    match b with
    | none => some e
    | some p => if p.1.natAbs < e.1.natAbs then some e else b) none

/-- DOM_FREQ of N values at K / T Hz. -/
def domFreq (v : List Float) (rate : Float) : Float :=
  let n := v.length
  if n < 4 then 0.0
  else
    let mean := v.foldl (· + ·) 0.0 / fNat n
    let w := (List.range n).map (fun i => ((v[i]?.getD 0.0) - mean) * (0.5 - 0.5 * (2.0 * fPi * fNat i / fNat n).cos))
    let mag := (List.range (n / 2 + 1)).map (fun m => Cx.abs (dft n (fun i => (w[i]?.getD 0.0, 0.0)) m))
    let at_ (m : Nat) : Float := mag[m]?.getD 0.0
    let best := (List.range (n / 2)).foldl (fun b m => if 1 ≤ m && at_ m > at_ b then m else b) 1
    let den := at_ (best - 1) - 2.0 * at_ best + at_ (best + 1)
    let off := if den == 0.0 then 0.0 else 0.5 * (at_ (best - 1) - at_ (best + 1)) / den
    (fNat best + off) * rate / fNat n

/-- Least-squares slope of y against x. -/
def slopeOf (pts : List (Float × Float)) : Float :=
  let n := fNat pts.length
  let sx := (pts.map (·.1)).foldl (· + ·) 0.0
  let sy := (pts.map (·.2)).foldl (· + ·) 0.0
  let sxx := (pts.map (fun p => p.1 * p.1)).foldl (· + ·) 0.0
  let sxy := (pts.map (fun p => p.1 * p.2)).foldl (· + ·) 0.0
  (n * sxy - sx * sy) / (n * sxx - sx * sx)

/-- The measurements of a record: 36 bytes from PEAK to VELOCITY, and VEL_INVALID. -/
def State.measure (s : State) (r : Nat) (x : CapRec) (trigInst : Nat) : Bytes × Bool :=
  let l := x.insts
  let lo := (s.recSpan r).1
  match peakOf l with
  | none => (zeros 32 ++ leBytes 4 0x7FC00000, true)
  | some (pv, pb, pi) =>
    let v (z : Int) : Float := fInt z / 256.0
    let all := l.flatMap CapInst.counted
    let sq := all.foldl (fun a e => a + v e.2 * v e.2) 0.0
    let rms := (sq / fNat all.length).sqrt
    let cb := all.foldl (fun a e => a + fNat (lo + e.1) * v e.2 * v e.2) 0.0 / sq
    let mps := s.metresPerSample * fNat (s.fld F.MRS_GEOM.PITCH)
    let k := 2 ^ s.fld F.MRS_GEOM.K_CODE
    let tk := fNat (s.fld F.MRS_PERIOD.T) * 0.8e-9 / fNat k
    let half := l.filter (fun c => c.counted.any (fun e => decide (pv.natAbs ≤ 2 * e.2.natAbs)))
    let dur := match half.head?, half.getLast? with | some a, some b => fNat (b.i + 1 - a.i) * tk | _, _ => 0.0
    let en := l.map (fun c =>
      let e := c.counted.foldl (fun a e => a + v e.2 * v e.2) 0.0
      let m := c.counted.foldl (fun a e => a + fNat (lo + e.1) * v e.2 * v e.2) 0.0
      (c.time, e, if e > 0.0 then m / e else 0.0))
    let top := en.foldl (fun a e => if e.2.1 > a then e.2.1 else a) 0.0
    let pts := (en.filter (fun e => e.2.1 > 0.0 && decide (e.2.1 ≥ top / 4.0))).map (fun e => (fNat e.1 * 0.8e-9, e.2.2 * mps))
    let bad := decide (pts.length < 3)
    let nd := pow2Below 12 l.length
    let pos := (l.takeWhile (fun c => c.i != pi)).length
    let start := min (pos - nd / 2) (l.length - nd)
    let xs := ((l.drop start).take nd).map (fun c => v (c.vals[pb]?.getD 0))
    let f (y : Float) : Bytes := leBytes 4 (toF32 y).toNat
    (f (v pv) ++ leBytes 4 (lo + pb) ++ leBytes 4 (unsigned 32 ((pi : Int) - trigInst)) ++ f rms ++ f (domFreq xs (1.0 / tk)) ++ f dur ++ f cb
      ++ f (cb * mps) ++ (if bad then leBytes 4 0x7FC00000 else f (slopeOf pts)), bad)
where
  /-- The largest power of two not above a number, 2^k at most. -/
  pow2Below : Nat → Nat → Nat
    | 0, _ => 1
    | k + 1, n => if 2 ^ (k + 1) ≤ n then 2 ^ (k + 1) else pow2Below k n

/-- The frames of consecutive instants leave one out. -/
def straddles : List CapInst → Bool
  | a :: b :: rest => decide (a.frame + 1 < b.frame) || straddles (b :: rest)
  | _ => false

/-- Header and descriptor of a record (R296, Table 9-10); its rows follow from DRAM. -/
def State.capBlock (s : State) (r : Nat) (d : RecDef) : Bytes :=
  let x := s.cap r
  let pre := x.preRows
  let post := x.postRows
  let l := x.insts
  let trigRow : Option CapRow := match x.trig with | some t => x.rows.find? (fun (w : CapRow) => w.seq = t) | none => none
  let first : Option CapInst := trigRow.bind (fun w => w.insts.head?)
  let ti := (first.map (·.i)).getD 0
  let sp := s.recSpan r
  let m := s.measure r x ti
  let b (v : Bool) (i : Nat) : Nat := if v then 2 ^ i else 0
  let flags := b (decide (pre.length < x.pre)) 0 + b (l.any (·.lost) || straddles l) 1 + b (l.any (·.late)) 2 + b (decide (0 < x.dropped)) 3
    + b (l.any (·.faded)) 4 + b (l.any (·.resume)) 5 + b x.postShort 6 + b m.2 7
  ((first.map (·.header)).getD (zeros 64)) ++ leBytes 2 0x21 ++ leBytes 1 r ++ leBytes 1 d.decimExp ++ leBytes 2 d.zone ++ leBytes 2 flags
    ++ leBytes 4 sp.1 ++ leBytes 4 (sp.2 + 1 - sp.1) ++ leBytes 8 (ti % 2 ^ 52) ++ leBytes 4 pre.length ++ leBytes 4 post.length
    ++ leBytes 2 x.count ++ leBytes 2 x.dead ++ leBytes 2 x.missed ++ [0, 0] ++ leBytes 4 x.dropped ++ leBytes 4 x.deadUs ++ m.1 ++ zeros 12

/-- The spans of DRAM that hold a record's rows, oldest first. -/
def State.capSpans (s : State) (r : Nat) : List (Nat × Nat) := ((s.cap r).preRows ++ (s.cap r).postRows).map (fun w => s.rowSpan r w.pos)

/-! ### Records through their states (Table 9-9) -/

/-- A record enters CLOSING: its measurements are formed and its block is delivered. -/
def State.capClose (s : State) (r : Nat) (short : Bool) : State :=
  match s.recDef r with
  | none => s
  | some d =>
    let s1 := if short then s.capFill r else s.settleCap r
    let y := s1.cap r
    let z := if short && !y.part.isEmpty then s1.pushRow r y.part else s1
    let s2 := z.setCap r { z.cap r with postShort := short && decide ((z.cap r).postRows.length < (z.cap r).post) }
    let s3 := (s2.setCapSt r Cap.closing).settleDeads
    s3.streamOut (s3.fld F.STU_CFG.CAPTURE_CHANNEL) .dram (s3.capBlock r d) (s3.capSpans r)

/-- POST rows of a triggered record are full. -/
def State.capComplete (s : State) (r : Nat) : Bool :=
  let x := s.cap r
  match x.trig with | some t => decide (t + x.post ≤ x.seq) | none => false

/-- CAPTURE_POST_COMPLETE: the record enters CLOSING (R290). -/
def execCapturePostComplete (r : Fin 64) (s : State) : Host.Outcome State Fault Refusal :=
  let s1 := s.settleCap r.val
  .next (if s1.capSt r.val = Cap.triggered && s1.capComplete r.val then s1.capClose r.val false else s1)

/-- Stream bytes are a record's block. -/
def capOf (r : Nat) (data : Bytes) : Bool := field data 64 2 == 0x21 && field data 66 1 == r

/-- A record's block still waits for the host or for the TCE. -/
def State.capWaiting (s : State) (r : Nat) : Bool :=
  s.hif.waiting.any (fun w => w.from_ == .dram && capOf r w.data) || s.tce.queue.any (fun w => capOf r w.data)

/-- CAPTURE_DELIVERY_DONE: the record enters REARM; its hold-off runs from the current frame (R293, R296). -/
def execCaptureDeliveryDone (r : Fin 64) (s : State) : Host.Outcome State Fault Refusal :=
  .next (if s.capSt r.val ≠ Cap.closing || s.capWaiting r.val then s
    else
      let x := s.cap r.val
      let h := ((s.recDef r.val).map (·.holdoff)).getD 0
      let s1 := s.setCap r.val { x with holdoff := some (s.frame + h), frames := [], part := [], rows := [], gone := [] }
      let s2 := s1.setCapSt r.val (if x.retire then Cap.idle else Cap.rearm)
      (s2.raise .stu F.STU_IRQ_STATUS.CAPTURE_DONE).settleDeads)

/-- A record is armed anew with its definition, or rests (REARM's exits). -/
def State.capReturn (s : State) (r : Nat) (again : Bool) : State :=
  let s1 := s.setCapSt r Cap.idle
  if again then s1.ownArm (((s1.recDef r).map (·.zone)).getD 0) r else s1

/-- CAPTURE_HOLDOFF at the boundary that opens frame `n`. -/
def State.capHoldoff (s : State) (n : Nat) : State :=
  (s.recIds.foldl (fun a r =>
    let due := match (a.cap r).holdoff with | some f => decide (f ≤ n) | none => false
    if a.capSt r = Cap.rearm && due then
      a.capReturn r (bitAt (((a.recDef r).map (·.flags)).getD 0) 0 && !a.flag (F.STU_RECr_STATE.REARM_CANCELLED r))
    else a) s).settleDeads

/-- A record is discarded at a new run. -/
def State.capLost (s : State) (r : Nat) : State :=
  let keep (w : WaitBlock) : Bool := !(w.from_ == .dram && capOf r w.data)
  let s1 : State := { s with
    hif := { s.hif with waiting := s.hif.waiting.filter keep }
    tce := { s.tce with queue := s.tce.queue.filter (fun w => !capOf r w.data) } }
  ((s1.count F.STU_LOST_COUNT.COUNT 1).post .stu StuCode.captureLost 0).raise .stu F.STU_IRQ_STATUS.CAPTURE_LOST

/-- A new run (Table 9-9). -/
def State.stuNewRun (s : State) : State :=
  let s0 : State := { s with stu := { s.stu with tapped := 0, lost := [], since := 0 } }
  (s0.recIds.foldl (fun a r =>
    let st := a.capSt r
    let auto := bitAt (((a.recDef r).map (·.flags)).getD 0) 0
    if st = Cap.armed then a.capEmpty r (a.cap r).pre (a.cap r).post
    else if st = Cap.triggered ∨ st = Cap.closing then (a.capLost r).capReturn r auto
    else if st = Cap.rearm then a.capReturn r auto
    else a) s0).settleDeads

/-- Acquisition stops: triggered records close with the rows written, and armed ones take what they await as missing (R291). -/
def State.stuStop (s : State) : State :=
  (s.recIds.foldl (fun a r =>
    if a.capSt r = Cap.triggered then a.capClose r true else if a.capSt r = Cap.armed then a.capFill r else a) s).settleDeads

/-- A switch: what armed and triggered records await of the frames before it is missing (R291). -/
def State.stuSwitch (s : State) : State :=
  s.recIds.foldl (fun a r => if a.capSt r = Cap.armed ∨ a.capSt r = Cap.triggered then a.capFill r else a) s

/-- A switch that changes TRIGGER_PROGRAMS or ZONE_TREE, under the old image (Table 9-9). -/
def State.stuRetire (s : State) : State :=
  s.recIds.foldl (fun a r =>
    let st := a.capSt r
    if st = Cap.armed ∨ st = Cap.rearm then a.setCapSt r Cap.idle
    else if st = Cap.triggered then
      let b := a.capClose r true
      b.setCap r { b.cap r with retire := true }
    else if st = Cap.closing then a.setCap r { a.cap r with retire := true }
    else a) s

/-- The record definitions of the ACTIVE image hold from frame `n` on, and its lengths go into force for the records that rest. -/
def State.stuLoad (s0 : State) (n : Nat) : State :=
  let s : State := { s0 with stu := { s0.stu with since := n } }
  (List.range 64).foldl (fun a r =>
    let rows := ((a.recDef r).map (·.rows)).getD 0
    if a.capSt r = Cap.idle then
      ((a.setCap r { a.cap r with newLen := none }).setFld (F.STU_RECr_STATE.LENGTH r) rows).setFld (F.STU_RECr_STATE.LEN_PENDING r) 0
    else a.setCap r { a.cap r with newLen := some rows }) s

/-- Records with ARM_AT_START are armed, and instances start anew. -/
def State.stuArmAll (s : State) : State :=
  s.recIds.foldl (fun a r => if bitAt (((a.recDef r).map (·.flags)).getD 0) 1 then a.ownArm (((a.recDef r).map (·.zone)).getD 0) r else a) s
def State.stuFresh (s : State) : State := { s with stu := { s.stu with insts := [] } }

/-! ### Requests (Table 9-15, 18 Table 18-4) -/

/-- What a request names: record, and PRE and POST of its own. A register request carries the word written to STU_CMD. -/
def State.capArgs (s : State) (v : Via) (w : Word) : Nat × Option (Nat × Nat) :=
  match v with
  | .reg _ => (bitsOf w 5 0, if bitAt w.toNat 11 then some (s.fld F.STU_ARG_PRE.PRE, s.fld F.STU_ARG_POST.POST) else none)
  | .msg _ _ =>
    let p := s.payload v
    (field p 0 1, if field p 1 1 = 1 then some (field p 4 4, field p 8 4) else none)

/-- A request ends: its code in STU_RESULT and the status, and the answer. -/
def State.capFinish (v : Via) (r : Nat) (x : State × Nat) : State :=
  (((x.1.setFld F.STU_RESULT.CODE x.2).setFld F.STU_RESULT.RECORD r).settleDeads).finish v .stu x.2 0

def State.capArmReq (s : State) (v : Via) (w : Word) : State :=
  let a := s.capArgs v w
  State.capFinish v a.1 (s.capArm a.1 a.2)
def State.capDisarmReq (s : State) (v : Via) (w : Word) : State :=
  let a := s.capArgs v w
  State.capFinish v a.1 (s.capDisarm a.1)
def State.capTriggerReq (s : State) (v : Via) (w : Word) : State :=
  let a := s.capArgs v w
  match s.recDef a.1 with
  | none => State.capFinish v a.1 (s, StuCode.badArg)
  | some d => State.capFinish v a.1 (s.capTrigger d.zone a.1)
def State.capLengthReq (s : State) (v : Via) (w : Word) : State :=
  let a := s.capArgs v w
  let n := match v with | .reg _ => s.fld F.STU_ARG_LEN.ROWS | .msg _ _ => field (s.payload v) 4 4
  State.capFinish v a.1 (s.capLength a.1 n)

/-- CAP_ARM. `w` is the word written to STU_CMD for a register request. -/
def execCapArm (via : Via) (w : Word) (s : State) : Host.Outcome State Fault Refusal :=
  .next (s.withRequest via [0x0601] (fun s => s.onUnit via .stu R.STU_CMD (fun s => s.capArmReq via w)))

/-- CAP_DISARM. -/
def execCapDisarm (via : Via) (w : Word) (s : State) : Host.Outcome State Fault Refusal :=
  .next (s.withRequest via [0x0602] (fun s => s.onUnit via .stu R.STU_CMD (fun s => s.capDisarmReq via w)))

/-- CAP_TRIGGER. -/
def execCapTrigger (via : Via) (w : Word) (s : State) : Host.Outcome State Fault Refusal :=
  .next (s.withRequest via [0x0603] (fun s => s.onUnit via .stu R.STU_CMD (fun s => s.capTriggerReq via w)))

/-- CAP_SET_LENGTH. -/
def execCapSetLength (via : Via) (w : Word) (s : State) : Host.Outcome State Fault Refusal :=
  .next (s.withRequest via [0x0604] (fun s => s.onUnit via .stu R.STU_CMD (fun s => s.capLengthReq via w)))

/-- CAP_STATE: STU_RECr_STATE of a record (18 R477). -/
def execCapState (o : Origin) (seq : Word) (s : State) : Host.Outcome State Fault Refusal :=
  .next (s.withRequest (.msg o seq) [0x0605] (fun s => s.onUnit (.msg o seq) .stu R.STU_CMD (fun s =>
    let r := field (s.payload (.msg o seq)) 0 1
    s.finish (.msg o seq) .stu 0 0 (leBytes 4 (s.reg (R.STU_RECr_STATE r)).toNat ++ zeros 4))))

/-- STU_COUNT_CLR. -/
def State.stuCountClr (s : State) : State :=
  [R.STU_MISSED_COUNT, R.STU_DEAD_COUNT, R.STU_DROPPED_COUNT, R.STU_LOST_COUNT].foldl (fun a r => a.setReg r 0) s
def execStuCountClr (src : Src) (s : State) : Host.Outcome State Fault Refusal :=
  .next (s.onUnit (.reg src) .stu R.STU_CTRL State.stuCountClr)

end Sys2Proof.Machine
end

