-- ==== Sys2Proof/Machine/Port.lean ====
section
/-! DEFINITION. The DMC request port as DRAM comes back: requests that waited and units whose own accesses stalled are granted in the order of
Table 1-7 (01 R57-R59, 11 R325, R338, R339). -/

namespace Sys2Proof.Machine

/-- A unit's access that stalled at the port and goes on of itself: a capture record's rows in class 1, a partner trace in class 2. -/
inductive Stalled where
  | rows (record : Nat)
  | trace
  deriving DecidableEq, Repr

/-- What has stalled and may go on now. -/
def State.stalledNow (s : State) : List Stalled :=
  ((List.range 64).filter (fun r => s.rowsWait r)).map Stalled.rows ++ (if s.traceWaits then [Stalled.trace] else [])

/-- Its request as the arbiter sees it. -/
def Stalled.req : Stalled → ArbReq
  | .rows _ => ⟨fixedPath .stu, 1, 0⟩
  | .trace => ⟨fixedPath .csp, 2, 0⟩

/-- It goes on. -/
def State.goOn (s : State) : Stalled → State
  | .rows r => s.settleCap r
  | .trace => s.traceStore

/-- The port grants one request after another to what waits in its queue and to what has stalled in the units (01 R58). `n` counts the
grants of this round. -/
def State.portGrants : Nat → Nat → State → State
  | 0, _, s => s
  | k + 1, n, s =>
    let rs := s.dmc.waiting.filter s.dmcCan
    let us := s.stalledNow
    match arbPick s.dmc.winners (rs.map (s.portReq n) ++ us.map Stalled.req) with
    | none => s
    | some (i, w) =>
      let s1 : State := { s with dmc := { s.dmc with winners := w } }
      match rs[i]? with
      | some r => State.portGrants k (n + 1) (({ s1 with dmc := { s1.dmc with waiting := s1.dmc.waiting.erase r } }).dmcServe r)
      | none => match us[i - rs.length]? with
        | some u => State.portGrants k (n + 1) (s1.goOn u)
        | none => s

/-- The port turns to what waits. -/
def State.portResume (s : State) : State :=
  if s.dmcServes then State.portGrants (s.dmc.waiting.length + s.stalledNow.length) 0 s else s

/-- SR_EXIT: exit completes; waiting requests are served (R338). -/
def execSrExit (s : State) : Host.Outcome State Fault Refusal :=
  .next (if s.dmcState = Dmc.srExit then s.srLeave.portResume else s)

/-- UNRETAINED_FILL_DONE: an eighth has been filled, and what waited for it is served (R339). -/
def execUnretainedFillDone (e : Fin 16) (s : State) : Host.Outcome State Fault Refusal :=
  .next (if s.dmc.unfilled.contains e.val && s.dmcServes then (s.eighthFilled e.val).portResume else s)

/-- The block with no command waiting: the DMC's scrubber makes its next read, of class 5 (R327; log entry 80). -/
def State.idle (s : State) : State := s.scrubRead

end Sys2Proof.Machine
end

