-- ==== Sys2Proof/Machine/Dlk.lean ====
section
/-! DEFINITION. DriverLink: frames, bus order, entry into service, polls, derating, load diagnosis and states
(16 R430-R444). -/

namespace Sys2Proof.Machine

/-- DLK states and codes (16 Tables 16-3, 16-4). -/
abbrev Dlk.off : Nat := 0
abbrev Dlk.init : Nat := 1
abbrev Dlk.running : Nat := 2
abbrev Dlk.safe : Nat := 3
abbrev Dlk.fault : Nat := 4
abbrev DlkCode.badConfig : Nat := 1
abbrev DlkCode.busy : Nat := 2

/-- Commands of Table 16-2 that the DLK sends on its own. -/
abbrev DlkCmd.identify : Nat := 1
abbrev DlkCmd.status : Nat := 2
abbrev DlkCmd.setSetpoint : Nat := 3
abbrev DlkCmd.enable : Nat := 4
abbrev DlkCmd.watchdog : Nat := 6
abbrev DlkCmd.safe : Nat := 7

def State.dlkState (s : State) : Nat := s.fld F.DLK_STATUS.STATE
def State.onDlk (s : State) (f : DlkSt → DlkSt) : State := { s with dlk := f s.dlk }

/-- A device not yet heard of. -/
def dlkNew : DlkDevSt := ⟨false, false, 0, false, false, false, false, 0, false, false, none, 0⟩

/-- State of a device, and its change; a device outside the table has none. -/
def State.dlkDev (s : State) (a : Nat) : Option DlkDevSt := (s.dlk.devs.find? (fun x => x.1 == a)).map (·.2)
def State.dlkMod (s : State) (a : Nat) (f : DlkDevSt → DlkDevSt) : State :=
  s.onDlk (fun d => { d with devs := d.devs.map (fun x => if x.1 = a then (a, f x.2) else x) })

/-- A device's entries in the ACTIVE image. -/
def State.dlkEntry (s : State) (a : Nat) : Option DlkDev := (imgDevices s.sil.active).find? (fun d => d.addr == a)
def State.dlkCurve (s : State) (a : Nat) : Option Curve := (imgCurves s.sil.active).find? (fun c => c.addr == a)
def DlkDev.derates (d : DlkDev) : Bool := bitAt d.flags 0

/-! ### Frames (R432, Table 16-1) -/

/-- A frame of either direction, its CRC most significant byte first. -/
def dlkFrame (addr cmd seq : Nat) (data : Bytes) : Bytes :=
  let b := leBytes 1 addr ++ leBytes 1 cmd ++ leBytes 1 seq ++ leBytes 1 data.length ++ data
  let c := crcOver 2 (crcInit 2) b
  b ++ leBytes 1 (c / 256) ++ leBytes 1 c

/-- The characters of a frame on the line, one after another: a start bit 0, eight data bits from the lowest, a stop bit 1 (R431). -/
def dlkLine (fr : Bytes) : List Bool := fr.flatMap (fun b => false :: ((List.range 8).map (fun i => bitAt b.toNat i) ++ [true]))

/-- The request goes out on the pair, which it drives for its characters of 400 ns (R430, R431). -/
def State.dlkSend (s : State) (fr : Bytes) : State :=
  let from_ := max s.now s.dlk.free
  let to_ := from_ + 500 * fr.length
  (s.give (.dlk fr (dlkLine fr))).onDlk (fun d => { d with driveFrom := from_, driveTo := to_, free := to_ })

/-- Level of `DLK_DIR` (R430). -/
def State.dlkDir (s : State) : Bool := decide (s.dlk.driveFrom ≤ s.now) && decide (s.now < s.dlk.driveTo)

/-- The time for a response has passed: 4 us after the request's end (R433). -/
def State.dlkLate (s : State) : Bool := decide (s.dlk.driveTo + 4 * usec ≤ s.now)

/-- A received frame is whole, of at most 32 payload bytes, and its CRC matches. -/
def dlkFrameOk (b : Bytes) : Bool :=
  decide (6 ≤ b.length) && decide (b.length ≤ 38) && b == dlkFrame (field b 0 1) (field b 1 1) (field b 2 1) ((b.drop 4).take (b.length - 6))

/-! ### Shown state (R439-R441) -/

/-- Diagnosis of a device is available (R440): without a gate, with a gate open 50 ns or longer, or while DIAG frames run with
its gate's DIAG_EN. -/
def State.dlkDiag (s : State) (a : Nat) : Bool :=
  match s.dlkEntry a with
  | none => false
  | some d =>
    d.gate == 0xFF || decide (s.fld (F.PGU_GATEn_WIDTH.WIDTH d.gate) ≥ 125)
      || (s.diagActive && s.flag (F.PGU_GATEn_CFG.DIAG_EN d.gate))

/-- DRV of a device: the first that applies (R441). -/
def State.dlkDrv (s : State) (a : Nat) : Nat :=
  match s.dlkDev a with
  | none => 0
  | some x =>
    if x.noResp then 7 else if x.mismatch then 8 else if s.dlkState = Dlk.safe then 11
    else if x.hot then 10 else if x.fault then 9
    else if x.diag = 3 then 5 else if x.diag = 4 then 6 else if x.diag = 2 then 4
    else if !s.dlkDiag a then 3 else if x.diag = 0 then 2 else 1

/-- Code of a DRV value, 0 for those without one (Table 16-4). -/
def dlkDrvCode : Nat → Nat
  | 7 => 3 | 8 => 4 | 9 => 5 | 4 => 6 | 5 => 7 | 6 => 8 | 10 => 9 | 3 => 10 | _ => 0

/-- A device is derated (R439). -/
def DlkDevSt.derated (x : DlkDevSt) : Bool := x.low || x.noResp

/-- DRV and DERATED of a device are shown anew: a change of DRV to other than OK or PENDING raises its code and DRIVER, a
change of DERATED passes to the ALM (R439, R441). -/
def State.dlkShow (s : State) (a : Nat) : State :=
  match s.dlkDev a with
  | none => s
  | some x =>
    let v := s.dlkDrv a
    let s1 := if v = s.fld (F.DLK_DEVd_STATUS.DRV a) then s
      else
        let b := s.setFld (F.DLK_DEVd_STATUS.DRV a) v
        if v = 1 ∨ v = 2 then b
        else (if dlkDrvCode v = 0 then b else b.post .dlk (dlkDrvCode v) a).raise .dlk F.DLK_IRQ_STATUS.DRIVER
    if x.derated = s1.flag (F.DLK_DEVd_STATUS.DERATED a) then s1
    else
      let b := s1.setFlag (F.DLK_DEVd_STATUS.DERATED a) x.derated
      let c := if x.derated then b.count (F.DLK_DEVd_COUNT.DERATE_EVENTS a) 1 else b
      (c.raise .dlk F.DLK_IRQ_STATUS.DERATE).almEvent Hist.derate Unit.dlk.top 0
        (leBytes 1 a ++ [if x.derated then 1 else 0] ++ leBytes 2 (c.fld (F.DLK_DEVd_STATUS.TEMP a))
          ++ leBytes 2 (c.fld (F.DLK_DEVd_SETPOINT.IN_FORCE a)))

/-- Every device is shown anew. -/
def State.dlkShowAll (s : State) : State := (s.dlk.devs.map (·.1)).foldl State.dlkShow s

/-- A frame opened now carries DERATED (R439). -/
def State.dlkDerated (s : State) : Bool :=
  s.dlk.devs.any (fun x => x.2.derated && (match s.dlkEntry x.1 with | some d => d.derates | none => false))

/-! ### Derating (R438) -/

/-- f at a temperature in units of 1/10,000. -/
def Curve.f (c : Curve) (x : Int) : Int :=
  if x ≤ c.knee then 10000
  else if x < c.tOff then max (10 * (c.floor : Int)) (10000 - c.slope * (x - c.knee))
  else 0

/-- The setpoint of a factor. -/
def dlkScale (nominal : Nat) (f : Int) : Nat := (roundDiv (nominal * f) 10000).toNat

/-- The curve value of a device by its latest TEMP, and whether f is 0; NOMINAL without a curve or a STATUS. -/
def State.dlkCurveValue (s : State) (a : Nat) : Nat × Bool :=
  let nom := match s.dlkEntry a with | some d => d.nominal | none => 0
  match (s.dlkEntry a).filter DlkDev.derates, s.dlkCurve a, (s.dlkDev a).filter (·.known) with
  | some _, some c, some _ =>
    let f := c.f (s.fldInt (F.DLK_DEVd_STATUS.TEMP a))
    (dlkScale nom f, f == 0)
  | _, _, _ => (nom, false)

/-- A STATUS sets what is to be written (R438). -/
def State.dlkDerate (s : State) (a : Nat) : State :=
  match (s.dlkEntry a).filter DlkDev.derates, s.dlkCurve a, (s.dlkDev a).filter (·.inService) with
  | some d, some c, some x =>
    let t := s.fldInt (F.DLK_DEVd_STATUS.TEMP a)
    let inForce := if x.hot then 0 else s.fld (F.DLK_DEVd_SETPOINT.IN_FORCE a)
    let sp := dlkScale d.nominal (c.f t)
    let s2 := dlkScale d.nominal (c.f (t + c.hyst))
    let new := if sp < inForce then sp else if sp > inForce then (if s2 > inForce then s2 else inForce) else inForce
    let zero := c.f t == 0
    s.dlkMod a (fun y => { y with target := if new = inForce ∧ !(zero && !x.hot) then none else some (new, zero) })
  | _, _, _ => s

/-! ### The bus (R433, R437) -/

/-- A transaction becomes due. -/
def State.dlkPush (s : State) (x : DlkTx) : State := s.onDlk (fun d => { d with due := d.due ++ [x] })

/-- Whether one due transaction goes before another: by class, then by address. -/
def DlkTx.before (x y : DlkTx) : Bool := decide (x.cls < y.cls) || (x.cls == y.cls && decide (x.addr < y.addr))

/-- The due transaction that runs first. -/
def dlkFirst : List DlkTx → Option DlkTx
  | [] => none
  | x :: t => match dlkFirst t with
    | some y => if y.before x then some y else some x
    | none => some x

/-- A host transaction is queued or running. -/
def State.dlkHostBusy (s : State) : Bool :=
  let host (x : DlkTx) : Bool := match x.kind with | .host _ => true | _ => false
  s.dlk.due.any host || (match s.dlk.busy with | some (x, _) => host x | none => false)

/-- A host transaction ends: its result stands in the registers and in the answer (R437, 18 Table 18-4). -/
def State.dlkHostEnd (s : State) (v : Via) (a : Nat) (failed : Bool) (st : Nat) (data : Bytes) : State :=
  let s1 := (List.range 8).foldl (fun b i => b.setReg (R.DLK_HOST_DATAi i) (w32 (field data (4 * i) 4))) s
  let s2 := (((s1.setFlag F.DLK_HOST_RESULT.BUSY s.dlkHostBusy).setFlag F.DLK_HOST_RESULT.FAILED failed).setFld F.DLK_HOST_RESULT.LEN
    data.length).setFld F.DLK_HOST_RESULT.DEV_STATUS st
  (s2.raise .dlk F.DLK_IRQ_STATUS.HOST_DONE).finish v .dlk 0 a
    (leBytes 1 st ++ leBytes 1 data.length ++ [if failed then 1 else 0, 0] ++ fitBytes 32 data)

/-- A write that a start of it puts below NOMINAL derates its device (R439). -/
def State.dlkLower (s : State) (a cmd : Nat) (data : Bytes) : State :=
  match s.dlkEntry a with
  | none => s
  | some d =>
    if (cmd = DlkCmd.setSetpoint ∧ data.length = 2 ∧ field data 0 2 < d.nominal) ∨ (cmd = DlkCmd.enable ∧ data = [0]) then
      (s.dlkMod a (fun x => { x with low := true })).dlkShow a
    else s

/-- The next due transaction starts where the bus is free; a broadcast ends with its request. -/
def State.dlkPump : Nat → State → State
  | 0, s => s
  | n + 1, s =>
    match s.dlk.busy, dlkFirst s.dlk.due with
    | none, some x =>
      let seq := (tabGet (fun _ => 0) s.dlk.seqs x.addr + 1) % 256
      let fr := dlkFrame x.addr x.cmd seq x.data
      let s1 := s.onDlk (fun d => { d with due := d.due.erase x, seqs := tabPut (fun _ => 0) d.seqs x.addr seq })
      let s2 := (s1.dlkSend fr).dlkLower x.addr x.cmd x.data
      if x.addr = 0 then
        State.dlkPump n (match x.kind with | .host v => s2.dlkHostEnd v 0 false 0 [] | _ => s2)
      else s2.onDlk (fun d => { d with busy := some (x, fr, 0) })
    | _, _ => s

/-- Due transactions run as far as the bus is free. -/
def State.dlkRun (s : State) : State := State.dlkPump (s.dlk.due.length + 1) s

/-! ### Service (R435, R436) -/

/-- The request of a step of entry into service: IDENTIFY, WATCHDOG, SET_SETPOINT, ENABLE, STATUS; at f = 0 the output is
disabled in place of the setpoint write. -/
def State.dlkEntryTx (s : State) (a step : Nat) : DlkTx :=
  let v := s.dlkCurveValue a
  let tx (cmd : Nat) (data : Bytes) : DlkTx := ⟨4, a, cmd, data, .entry step⟩
  match step with
  | 0 => tx DlkCmd.identify []
  | 1 => tx DlkCmd.watchdog (leBytes 1 (s.fld F.DLK_CFG.WD_MS))
  | 2 => if v.2 then tx DlkCmd.enable [0] else tx DlkCmd.setSetpoint (leBytes 2 v.1)
  | 3 => tx DlkCmd.enable [if v.2 then 0 else 1]
  | _ => tx DlkCmd.status []

/-- A device starts its entry into service. -/
def State.dlkEnter (s : State) (a : Nat) : State :=
  ((s.dlkMod a (fun x => { x with inService := false, diag := 0 })).dlkPush (s.dlkEntryTx a 0)).dlkShow a

/-- The DLK's vote: CORE at RUN in INIT and RUNNING (R443). -/
def State.dlkVote (s : State) : State :=
  s.vote (.unit .dlk) 1 (if s.dlkState = Dlk.init ∨ s.dlkState = Dlk.running then 0 else 3)

/-- An entry into service in progress is given up: its transaction on the bus ends by itself. -/
def DlkSt.giveUp (d : DlkSt) : DlkSt :=
  { d with busy := d.busy.map (fun x => (match x.1.kind with | .entry _ => { x.1 with kind := .own } | _ => x.1, x.2)) }

/-- A device at the start of INIT, by what is known of it: whether it answers, its latest STATUS, HOT, and whether it stands
below NOMINAL (R436, R439). -/
def DlkDevSt.again (x : DlkDevSt) : DlkDevSt := { x with tried := false, inService := false, mismatch := false, target := none }

/-- Devices that send and take more than STATUS: the DLK is in INIT or RUNNING. -/
def State.dlkServes (s : State) : Bool := s.dlkState == Dlk.init || s.dlkState == Dlk.running

/-- INIT: every entry of the table enters service; without entries the DLK is RUNNING at once. -/
def State.dlkInit (s : State) : State :=
  let as := sortBy id ((imgDevices s.sil.active).map (·.addr))
  let s1 := s.onDlk (fun d => { d.giveUp with devs := as.map (fun a => (a, ((s.dlkDev a).getD dlkNew).again)), due := d.due.filter (fun x => x.cls ≤ 2 || x.cls == 5) })
  let s2 := as.foldl State.dlkEnter (s1.setFld F.DLK_STATUS.STATE Dlk.init)
  ((if as.isEmpty then s2.setFld F.DLK_STATUS.STATE Dlk.running else s2).dlkVote).dlkRun

/-- INIT ends when every entry has been tried once. -/
def State.dlkTried (s : State) : State :=
  if s.dlkState = Dlk.init ∧ s.dlk.devs.all (fun x => x.2.tried) then s.setFld F.DLK_STATUS.STATE Dlk.running else s

/-! ### Responses -/

/-- An accepted STATUS (R435, R438, R440, R441): `read` says whether it is a post-diagnostic one. -/
def State.dlkStatus (s : State) (a : Nat) (data : Bytes) (read : Bool) : State :=
  if data.length ≠ 8 then s
  else
    let st := field data 6 1
    let s1 := ((s.setFld (F.DLK_DEVd_STATUS.TEMP a) (field data 0 2)).setFld (F.DLK_DEVd_CURRENT.CURRENT a) (field data 2 2)).setFld
      (F.DLK_DEVd_STATUS.ENABLED a) (st % 2)
    let short := match s.dlkEntry a with
      | some d => d.gate != 0xFF && decide (s.fld (F.PGU_GATEn_WIDTH.WIDTH d.gate) < 125)
      | none => true
    let counts := s.dlkDiag a && (!short || read)
    let g := st / 4 % 8
    let s2 := s1.dlkMod a (fun x => { x with
      known := true, fault := bitAt st 1, diag := if counts && decide (1 ≤ g) && decide (g ≤ 4) then g else x.diag })
    let inForce := s2.fld (F.DLK_DEVd_SETPOINT.IN_FORCE a)
    let full := match (s2.dlkEntry a).filter DlkDev.derates, s2.dlkCurve a with
      | some _, some c => c.f (s2.fldInt (F.DLK_DEVd_STATUS.TEMP a)) == 10000
      | _, _ => true
    let s3 := if full && decide (0 < inForce) then
        let x := fNat (field data 2 2 * 65535) / fNat inForce
        let c := tabGet (fun _ => (toF64 0.0, 0)) s2.alm.currents a
        { s2 with alm := { s2.alm with currents := tabPut (fun _ => (toF64 0.0, 0)) s2.alm.currents a (toF64 (f64 c.1 + x), c.2 + 1) } }
      else s2
    s3.dlkDerate a

/-- An acknowledged write (R438, R439). -/
def State.dlkAck (s : State) (a cmd : Nat) (data : Bytes) : State :=
  if cmd = DlkCmd.setSetpoint ∧ data.length = 2 then
    let v := field data 0 2
    let s1 := s.setFld (F.DLK_DEVd_SETPOINT.IN_FORCE a) v
    match s.dlkEntry a with
    | some d => if v = d.nominal then s1.dlkMod a (fun x => { x with low := false }) else s1
    | none => s1
  else if cmd = DlkCmd.enable ∧ data = [1] then s.dlkMod a (fun x => { x with hot := false })
  else s

/-- What follows an accepted response in its transaction (R435-R440). -/
def State.dlkEffect (s : State) (x : DlkTx) (st : Nat) (data : Bytes) : State :=
  let ok := st == 0
  let s1 := if ok && x.cmd == DlkCmd.status then s.dlkStatus x.addr data (x.kind == .diag) else s
  let s2 := if ok then s1.dlkAck x.addr x.cmd x.data else s1
  match x.kind with
  | .host v => s2.dlkHostEnd v x.addr false st data
  | .entry step =>
    match s2.dlkEntry x.addr with
    | none => s2
    | some d =>
      if step = 0 ∧ ok ∧ data.length ≥ 1 ∧ field data 0 1 ≠ d.type then
        s2.dlkMod x.addr (fun y => { y with mismatch := true, tried := true, inService := false })
      else if step ≥ 4 then s2.dlkMod x.addr (fun y => { y with tried := true, inService := true, polled := s2.now })
      else
        let hot := (s2.dlkCurveValue x.addr).2
        let s3 := if step = 1 then s2.dlkMod x.addr (fun y => { y with hot := hot }) else s2
        s3.dlkPush (s3.dlkEntryTx x.addr (step + 1))
  | .own =>
    let wasHot : Bool := match s.dlkDev x.addr with | some y => y.hot | none => false
    if ok ∧ x.cmd = DlkCmd.setSetpoint ∧ wasHot ∧ s.dlkServes then s2.dlkPush ⟨2, x.addr, DlkCmd.enable, [1], .own⟩ else s2
  | .poll | .diag => s2

/-- A response frame arrives (R432, R433): a bad CRC counts, another address or SEQ is not the response; an accepted one ends
the transaction, takes its effect, and puts a lost device back into service. -/
def State.dlkReceive (s : State) (b : Bytes) : State :=
  match s.dlk.busy with
  | none => s
  | some (x, fr, _) =>
    if !dlkFrameOk b then s.count F.DLK_ERR_COUNT.CRC 1
    else if field b 0 1 ≠ 128 + x.addr ∨ field b 2 1 ≠ field fr 2 1 then s
    else
      let back := match s.dlkDev x.addr with | some y => !y.mismatch && (y.noResp || (!y.inService && y.tried)) | none => false
      let entering := match x.kind with | .entry _ => true | _ => false
      let s1 := (s.onDlk (fun d => { d with busy := none, free := s.now + 250 })).dlkMod x.addr (fun y => { y with fails := 0, noResp := false })
      let s2 := s1.dlkEffect x (field b 1 1) ((b.drop 4).take (field b 3 1))
      let s3 := if back && !entering && s.dlkServes then s2.dlkEnter x.addr else s2
      ((s3.dlkShow x.addr).dlkTried).dlkRun

/-- No accepted response in time (R433, R436): the attempt counts; it is repeated, or the transaction has failed. -/
def State.dlkExpire (s : State) : State :=
  match s.dlk.busy with
  | none => s
  | some (x, fr, k) =>
    let s1 := s.count F.DLK_ERR_COUNT.TIMEOUT 1
    if k < s.fld F.DLK_CFG.RETRIES ∧ s.dlkState ≠ Dlk.fault then
      (s1.dlkSend fr).onDlk (fun d => { d with busy := some (x, fr, k + 1) })
    else
      let s2 := s1.onDlk (fun d => { d with busy := none })
      let entering := match x.kind with | .entry _ => true | _ => false
      let lost := match s2.dlkDev x.addr with | some y => decide (y.fails + 1 ≥ 3) && !y.noResp | none => false
      let s3 := s2.dlkMod x.addr (fun y => { y with
        fails := min 3 (y.fails + 1), noResp := y.noResp || lost, tried := y.tried || entering,
        polled := if entering then s2.now else y.polled, inService := y.inService && !lost, target := if lost then none else y.target })
      let s4 := if lost then s3.count (F.DLK_DEVd_COUNT.NO_RESPONSE x.addr) 1 else s3
      let s5 := match x.kind with | .host v => s4.dlkHostEnd v x.addr true 0 [] | _ => s4
      ((s5.dlkShow x.addr).dlkTried).dlkRun

/-! ### States (R442, Table 16-3) -/

/-- DETAIL of the first failing check at a switch. -/
def State.dlkCheck (s : State) : Option Nat :=
  let ds := imgDevices s.sil.active
  let cs := imgCurves s.sil.active
  let ok (d : DlkDev) : Bool :=
    decide (1 ≤ d.addr) && decide (d.addr ≤ 31) && (ds.filter (fun e => e.addr == d.addr)).length == 1 && decide (d.type ≤ 4)
      && (d.gate == 0 || d.gate == 1 || d.gate == 0xFF)
      && (!d.derates || (match cs.find? (fun c => c.addr == d.addr) with
          | some c => decide (c.knee < c.tOff) && decide (c.floor ≤ 1000)
          | none => false))
  match ds.find? (fun d => !ok d) with
  | some d => some d.addr
  | none => if s.fld F.DLK_CFG.POLL_US < 100 ∨ s.fld F.DLK_CFG.WD_MS = 0 then some 0 else none

/-- The DLK enters FAULT and sends nothing more. -/
def State.dlkFault (s : State) (detail : Nat) : State :=
  let s1 := s.onDlk (fun d => { d.giveUp with due := [], devs := d.devs.map (fun x => (x.1, { x.2 with target := none, inService := false })) })
  let host (x : DlkTx) : Option Via := match x.kind with | .host v => some v | _ => none
  let s2 := (s.dlk.due.filterMap host).foldl (fun b v => b.finish v .dlk DlkCode.badConfig detail) s1
  ((((s2.setFld F.DLK_STATUS.STATE Dlk.fault).setFlag F.DLK_HOST_RESULT.BUSY s2.dlkHostBusy).post .dlk DlkCode.badConfig detail).raise .dlk F.DLK_IRQ_STATUS.FAULT).dlkVote

/-- A SAFE broadcast. -/
def State.dlkBroadcastSafe (s : State) : State := (s.dlkPush ⟨1, 0, DlkCmd.safe, [], .own⟩).dlkRun

/-- DLK_CTRL.SAFE. -/
def State.dlkSafe (s : State) : State :=
  let st := s.dlkState
  if st = Dlk.init ∨ st = Dlk.running then
    let own (x : DlkTx) : Bool := match x.kind with | .host _ => true | _ => false
    let s1 := s.onDlk (fun d => { d.giveUp with
      due := d.due.filter own, devs := d.devs.map (fun x => (x.1, { x.2 with target := none, inService := false })) })
    (((s1.setFld F.DLK_STATUS.STATE Dlk.safe).dlkVote).dlkBroadcastSafe).dlkShowAll
  else if st = Dlk.fault then s.dlkBroadcastSafe
  else s

/-- NOMINAL of every device shows the table's. -/
def State.dlkNominals (s : State) : State :=
  (List.range 32).foldl (fun b a =>
    if a = 0 then b
    else b.setFld (F.DLK_DEVd_SETPOINT.NOMINAL a) (match s.dlkEntry a with | some d => d.nominal | none => 0)) s

/-- Devices that have left the table are disabled and no longer shown; those new to it stand in it. -/
def State.dlkLeave (s : State) : State :=
  let as := sortBy id ((imgDevices s.sil.active).map (·.addr))
  let join (a : State) : State := if a.dlkState = Dlk.off then a else a.onDlk (fun d => { d with devs := as.map (fun k => (k, ((d.devs.find? (·.1 == k)).map (·.2)).getD dlkNew)) })
  join <| (s.dlk.devs.map (·.1)).foldl (fun b a =>
    match b.dlkEntry a with
    | some _ => b
    | none =>
      let c := if b.dlkState = Dlk.init ∨ b.dlkState = Dlk.running then b.dlkPush ⟨2, a, DlkCmd.enable, [0], .own⟩ else b
      ((c.setReg (R.DLK_DEVd_STATUS a) 0).setReg (R.DLK_DEVd_SETPOINT a) 0).setReg (R.DLK_DEVd_CURRENT a) 0) s

/-- OFF with CORE at RUN: a table with entries starts INIT where the checks pass, and else the start is refused (Tables 16-3,
16-4). -/
def State.dlkStart (s : State) : State :=
  if (imgDevices s.sil.active).isEmpty then s
  else match s.dlkCheck with
    | some d => s.post .dlk DlkCode.badConfig d
    | none => s.dlkInit

/-- A switch (Table 16-3); `old` is the image it replaces. -/
def State.dlkSwitch (s : State) (old : Bytes) : State :=
  let pay (t : Nat) : Bool := imgPay old t != imgPay s.sil.active t
  let changed := pay Sec.driverlinkTable || pay Sec.deratingCurves
  let s0 := if changed then s.dlkNominals.dlkLeave else s
  let st := s0.dlkState
  if st = Dlk.off then (if s0.domState 1 = 0 then s0.dlkStart else s0)
  else match s0.dlkCheck with
    | some d => if st = Dlk.fault then s0.post .dlk DlkCode.badConfig d else s0.dlkFault d
    | none => if changed && (st == Dlk.init || st == Dlk.running) then s0.dlkInit else s0.dlkShowAll

/-- CORE reaches RUN. -/
def State.dlkWake (s : State) : State :=
  if s.dlkState = Dlk.off then s.dlkNominals.dlkStart else s

/-- The DLK loses its state (R443): the bus goes idle. -/
def State.dlkLose (s : State) : State :=
  ({ s with dlk := ⟨[], [], none, [], 0, 0, 0⟩ }).setFld F.DLK_STATUS.STATE Dlk.off

/-- A boundary starts setpoint writes (R438): lower values, and higher ones where no lower is pending. -/
def State.dlkBoundary (s : State) : State :=
  let inForce (a : Nat) (x : DlkDevSt) : Nat := if x.hot then 0 else s.fld (F.DLK_DEVd_SETPOINT.IN_FORCE a)
  let want := s.dlk.devs.filterMap (fun x => x.2.target.map (fun t => (x.1, t, decide (t.1 < inForce x.1 x.2) || t.2)))
  let now := if want.any (·.2.2) then want.filter (·.2.2) else want
  (now.foldl (fun b (x : Nat × (Nat × Bool) × Bool) =>
    let a := x.1
    let t := x.2.1
    let tx : DlkTx := if t.2 then ⟨2, a, DlkCmd.enable, [0], .own⟩ else ⟨2, a, DlkCmd.setSetpoint, leBytes 2 t.1, .own⟩
    let c := b.dlkMod a (fun y => { y with target := none, hot := y.hot || t.2 })
    ((c.dlkPush tx).dlkLower a tx.cmd tx.data).dlkShow a) s).dlkShowAll.dlkRun

/-! ### Commands -/

/-- A host transaction, from DLK_HOST_REQ and DLK_HOST_DATA or from a message (R437). -/
def State.dlkHost (s : State) (via : Via) : State :=
  let p := s.payload via
  let reg := match via with | .reg _ => true | .msg _ _ => false
  let a := if reg then s.fld F.DLK_HOST_REQ.ADDR else field p 0 1
  let cmd := if reg then s.fld F.DLK_HOST_REQ.CMD else field p 1 1
  let len := if reg then s.fld F.DLK_HOST_REQ.LEN else field p 2 1
  let data := if reg then (List.range 8).flatMap (fun i => leBytes 4 (s.reg (R.DLK_HOST_DATAi i)).toNat) else p.drop 4
  let isHost (x : DlkTx) : Bool := match x.kind with | .host _ => true | _ => false
  let held := (s.dlk.due.filter isHost).length + (match s.dlk.busy with | some (x, _) => if isHost x then 1 else 0 | none => 0)
  if len > 32 ∨ s.dlkState = Dlk.fault then s.finish via .dlk DlkCode.badConfig a
  else if held ≥ 4 then s.finish via .dlk DlkCode.busy a
  else ((s.setFld F.DLK_HOST_RESULT.BUSY 1).dlkPush ⟨5, a, cmd, fitBytes len data, .host via⟩).dlkRun

/-- DLK_CTRL.HOST_GO or DLK_TRANSACT (R437). -/
def execDlkTransact (via : Via) (s : State) : Host.Outcome State Fault Refusal :=
  .next (s.withRequest via [0x0903] (fun s => s.onUnit via .dlk R.DLK_CTRL (fun s => s.dlkHost via)))

/-- DLK_CTRL.SAFE (R442). -/
def execSafe (src : Src) (s : State) : Host.Outcome State Fault Refusal :=
  .next (s.onUnit (.reg src) .dlk R.DLK_CTRL State.dlkSafe)

/-- DLK_CTRL.RESUME (R442): SAFE to INIT; without effect elsewhere. -/
def execDlkResume (src : Src) (s : State) : Host.Outcome State Fault Refusal :=
  .next (s.onUnit (.reg src) .dlk R.DLK_CTRL (fun s => if s.dlkState = Dlk.safe then s.dlkInit else s))

/-- DLK_CTRL.FAULT_CLR (R442): FAULT to INIT if the checks pass. -/
def execDlkFaultClr (src : Src) (s : State) : Host.Outcome State Fault Refusal :=
  .next (s.onUnit (.reg src) .dlk R.DLK_CTRL (fun s =>
    if s.dlkState = Dlk.fault then
      match s.dlkCheck with
      | some d => s.post .dlk DlkCode.badConfig d
      | none => (s.show .dlk 0 0).dlkInit
    else s))

/-- DLK_CTRL.COUNT_CLR (Table 16-6). -/
def execDlkCountClr (src : Src) (s : State) : Host.Outcome State Fault Refusal :=
  .next (s.onUnit (.reg src) .dlk R.DLK_CTRL (fun s =>
    (List.range 32).foldl (fun b a => if a = 0 then b else b.setReg (R.DLK_DEVd_COUNT a) 0) (s.setReg R.DLK_ERR_COUNT 0)))

/-- POLL_US has passed for a device in INIT or RUNNING (R436, R437): a STATUS is due, unless one is already or a
post-diagnostic read takes its place; before POLL_US has passed nothing is due. -/
def execStatusPoll (d : Fin 32) (t : Nat) (s0 : State) : Host.Outcome State Fault Refusal :=
  let s := s0.at_ t
  let same (x : DlkTx) : Bool := x.addr == d.val && (x.kind == .poll || x.kind == .diag)
  let entering (x : DlkTx) : Bool := x.addr == d.val && (match x.kind with | .entry _ => true | _ => false)
  let busy (p : DlkTx → Bool) : Bool := s.dlk.due.any p || (match s.dlk.busy with | some (x, _) => p x | none => false)
  .next (if (s.dlkState = Dlk.init ∨ s.dlkState = Dlk.running) ∧ !busy entering ∧
      (s.dlkDev d).any (fun x => decide (x.polled + s.fld F.DLK_CFG.POLL_US * usec ≤ s.now)) then
      let s1 := s.dlkMod d (fun x => { x with polled := s.now })
      if busy same then s1 else (s1.dlkPush ⟨4, d, DlkCmd.status, [], .poll⟩).dlkRun
    else s)

/-- 1 us after the launch reference of a DIAG frame (R437, R440): the post-diagnostic reads start, in the place of polls that
are due. -/
def execPostDiagRead (t : Nat) (s0 : State) : Host.Outcome State Fault Refusal :=
  let s := s0.at_ t
  let diag : Bool := match s.cur with | some f => f.diag && f.real && decide (f.launch + usec ≤ s.now) | none => false
  let short (x : Nat × DlkDevSt) : Bool :=
    match s.dlkEntry x.1 with
    | some d => x.2.inService && d.gate != 0xFF && decide (s.fld (F.PGU_GATEn_WIDTH.WIDTH d.gate) < 125) && s.dlkDiag x.1
    | none => false
  .next (if (s.dlkState = Dlk.init ∨ s.dlkState = Dlk.running) ∧ diag then
      let as := (s.dlk.devs.filter short).map (·.1)
      (as.foldl (fun b a => (b.onDlk (fun d => { d with
        due := d.due.filter (fun x => !(x.addr == a && x.kind == .poll)) })).dlkPush ⟨3, a, DlkCmd.status, [], .diag⟩) s).dlkRun
    else s)

/-- Bytes of a response frame have arrived (R432, R433). -/
def execDlkResponse (bytes : List (BitVec 8)) (t : Nat) (s : State) : Host.Outcome State Fault Refusal :=
  .next ((s.at_ t).dlkReceive bytes)

/-- The time for a response has passed (R433); before that nothing follows. -/
def execDlkResponseTimeout (t : Nat) (s : State) : Host.Outcome State Fault Refusal :=
  let s1 := s.at_ t
  .next (if s1.dlkLate then s1.dlkExpire else s1)

end Sys2Proof.Machine
end

