-- ==== Sys2Proof/Machine/Sil.lean ====
section
/-! DEFINITION. The structure image loader: loading, validation, switch requests and pointer records (02 R72-R93), and
the phases of the start-up sequence they move (21 R521-R523). -/

namespace Sys2Proof.Machine

/-! ### The PENDING bank (R80, Table 2-7) -/

/-- A state of the PENDING bank is entered. -/
def State.pendEnter (s : State) (st : Nat) : State := s.setFld F.SIL_STATE.PENDING_STATE st

/-- PENDING is emptied. -/
def State.dropPending (s : State) : State :=
  let armed := if s.sil.restart then s.sil.armed else none
  let s1 : State := { s with sil := { s.sil with pending := [], len := 0, armed := armed, boot := false } }
  ((s1.pendEnter Pend.empty).setReg R.SIL_PENDING_SERIAL 0).setFlag F.SIL_STATE.PENDING_HEAVY false

/-- PENDING is emptied with ABORTED. -/
def State.abortPending (s : State) : State := s.dropPending.post .sil SilCode.aborted 0

/-- An image slot of the flash, and the pointer sectors (Table 2-6). -/
def slotBase (slot : Nat) : Nat := if slot = 0 then 0x100000 else 0x900000
abbrev slotSize : Nat := 0x800000
abbrev pointer0 : Nat := 0x10000
abbrev pointer1 : Nat := 0x20000

/-- The newest valid pointer record, among those that satisfy a condition; a record of erased bytes carries no valid CRC. -/
def State.pointerRec (s : State) (p : Bytes → Bool) : Option Bytes :=
  (newestRec ((s.flashRecs pointer0 pointer1).filter (fun x => p x.2))).map (·.2)

/-- Slot a persisted load is written to: the one the newest valid record does not name, A without one (R76). -/
def State.spareSlot (s : State) : Nat := match s.pointerRec (fun _ => true) with | some b => if field b 4 1 = 0 then 1 else 0 | none => 0

/-- The SIL's vote: CORE at DOZE or above while ACTIVE_COPY is 0 (R91). -/
def State.silVote (s : State) : State := s.vote (.unit .sil) 1 (if s.flag F.SIL_STATE.ACTIVE_COPY then 3 else 1)

/-- What the checks know of the chip (R68). -/
def State.keyCfg (s : State) : KeyCfg :=
  ⟨s.flag F.SIL_KEY_CFG.REQUIRE, s.fld F.SIL_KEY_CFG.SLOT_ENABLE, s.otp.keys, s.otp.keyEnable.toNat⟩

/-- A slot's bytes as the SPI read brings them: IMAGE_LENGTH of its header where that is a possible one. -/
def State.slotBytes (s : State) (slot : Nat) : Bytes :=
  let n := field (s.flashBytes (slotBase slot) 64) 8 4
  s.flashBytes (slotBase slot) (if n % 8 = 0 ∧ 96 ≤ n ∧ n ≤ slotSize then n else 96)

/-- The SIL starts to read a boot slot: LOADING. -/
def State.bootSlot (s : State) (slot serial : Nat) : State :=
  let s1 : State := { s with sil := { s.sil with boot := true, persist := false, slot := slot, bootSerial := serial, tried := slot :: s.sil.tried } }
  s1.pendEnter Pend.loading

/-- Device address of an image bank: the top 16 MiB of the device addresses of rank 0, 8 MiB each (R72, 11 R320). -/
def State.bankBase (s : State) (b : Nat) : Nat := s.rankBytes / 8 * 7 - 2 ^ 24 + b * 2 ^ 23

/-- The SIL writes and reads a bank through the MRS port in class 0 (R72). -/
def State.bankWrite (s : State) (b off : Nat) (bs : Bytes) : State := s.dramWrite (fixedPath .sil) 0 (s.bankBase b + off) bs
def State.bankRead (s : State) (b n : Nat) : State × Option Bytes := s.dramRead (fixedPath .sil) 0 (s.bankBase b) n

/-- The bank PENDING loads into. -/
def State.pendBank (s : State) : Nat := 1 - s.sil.bank

/-- The boot load: the slot of the newest valid pointer record, after a failure the newest that names the other slot; without
one the part waits for the host (R78, 21 R523). A valid record whose SLOT is neither 0 nor 1 names no slot and is passed over: the model's
choice, the spec is silent (log entry 146). -/
def State.silBoot (s : State) : State :=
  match s.pointerRec (fun b => !s.sil.tried.contains (field b 4 1) && decide (field b 4 1 ≤ 1)) with
  | some b =>
    let s1 := if s.sil.tried.isEmpty then s else s.raise .sil F.SIL_IRQ_STATUS.BOOT_FALLBACK
    s1.bootSlot (field b 4 1) (field b 8 4)
  | none => s.startFails GlbCode.bootNoImage 0

/-- The IMAGE phase begins. -/
def State.imagePhase (s : State) : State := ({ s with sil := { s.sil with tried := [] } }.setPhase Phase.image).silBoot

/-- The current frame is the one an image governs: none while the MRS is NO_IMAGE. -/
def State.noImage (s : State) : Bool := s.acq == Mrs.noImage

/-- A switch request: for frame `f`, or for the next boundary (R81, R93, 21 R522). Answers code and DETAIL. One accepted while a
restart switch waits takes its place (log entry 147). -/
def State.switchReq (s : State) (f : Option Nat) : State × Nat × Nat :=
  let st := s.pendState
  if st = Pend.armed ∨ st = Pend.switching then (s, SilCode.busy, st)
  else if st ≠ Pend.ready then (s, SilCode.notReady, st)
  else
    let at_ : Option SwitchAt :=
      if s.noImage then (if f = none ∨ f = some 0 then some (.first s.now) else none)
      else match f with
        | none => some (.next s.now)
        | some n => if n > s.frame + 1 then some (.frame n) else none
    match at_ with
    | none => (s, SilCode.tooLate, 0)
    | some a =>
      let s1 := ({ s with sil := { s.sil with armed := some a, restart := false } }).pendEnter Pend.armed
      (if s1.phase = Phase.image then s1.setPhase Phase.switch else s1, 0, 0)

/-- A request's end: the SIL's code and the answer. -/
def State.silFinish (v : Via) (x : State × Nat × Nat) : State := x.1.finish v .sil x.2.1 x.2.2

/-- A request for the SIL, by register or message. -/
def State.onSil (s : State) (via : Via) (op : Nat) (act : State → State) : State :=
  s.withRequest via [op] (fun s => s.onUnit via .sil R.SIL_CTRL act)

/-- A message's IMAGE_SWITCH has the given MODE; a register request always fits. -/
def State.switchMode (s : State) (via : Via) (mode : Nat) : Bool :=
  match via with | .reg _ => true | .msg _ _ => field (s.payload via) 0 1 == mode

/-- SWITCH_NEXT: SIL_CTRL, or IMAGE_SWITCH with MODE 0. -/
def State.switchNext (s : State) (via : Via) : State := State.silFinish via (s.switchReq none)
def execSwitchNext (via : Via) (t : Nat) (s : State) : Host.Outcome State Fault Refusal :=
  .next ((s.at_ t).onSil via 0x0203 (fun s => if s.switchMode via 0 then s.switchNext via else s))

/-- SWITCH_AT: SIL_CTRL with SIL_SWITCH_FRAME, or IMAGE_SWITCH with MODE 1 and FRAME. -/
def State.switchAt (s : State) (via : Via) : State :=
  let f := match via with
    | .reg _ => s.reg64 R.SIL_SWITCH_FRAME_LO R.SIL_SWITCH_FRAME_HI
    | .msg _ _ => field (s.payload via) 8 8
  State.silFinish via (s.switchReq (some f))
def execSwitchAt (via : Via) (t : Nat) (s : State) : Host.Outcome State Fault Refusal :=
  .next ((s.at_ t).onSil via 0x0203 (fun s => if s.switchMode via 1 then s.switchAt via else s))

/-- Instant of the armed boundary where it is fixed: in master mode from the period; in slave mode `next`, the instant of the
next boundary, serves; a first switch's only once the run record is stored (R82). -/
def State.armedBoundary (s : State) (next : Nat) : Option Nat :=
  let t1 := if s.slave then next else s.launch + s.fld F.MRS_PERIOD.T
  let per := s.fld F.MRS_PERIOD.T
  match s.sil.armed with
  | some (.next a) => some (if a + 2 * usec ≤ t1 then t1 else t1 + per)
  | some (.frame m) => some (t1 + (m - s.frame - 1) * per)
  | some (.first a) => s.alm.runStored.map (fun r => max (a + 2 * usec) r)
  | none => none

/-- A disarm or abort of an ARMED image arrives less than 2 us before its boundary. -/
def State.armTooLate (s : State) (next : Nat) : Bool :=
  match s.armedBoundary next with | some b => decide (s.now + 2 * usec > b) | none => false

/-- The armed switch is given up. -/
def State.unarm (s : State) : State := { s with sil := { s.sil with armed := none, restart := false } }

/-- IMAGE_DISARM (R82, Table 2-7); a waiting restart switch is given up likewise (R82, log entry 147). -/
def State.disarm (s : State) (via : Via) (next : Nat) : State :=
  let st := s.pendState
  if st = Pend.armed ∨ s.sil.restart then
    if s.armTooLate next then s.finish via .sil SilCode.tooLate 0
    else (if st = Pend.armed then s.unarm.pendEnter Pend.ready else s.unarm).finish via .sil 0 0
  else if st = Pend.ready then s.finish via .sil 0 0
  else s.finish via .sil (if st = Pend.switching then SilCode.tooLate else SilCode.notReady) (if st = Pend.switching then 0 else st)
def execImageDisarm (via : Via) (next t : Nat) (s : State) : Host.Outcome State Fault Refusal :=
  .next ((s.at_ t).onSil via 0x0204 (fun s => s.disarm via next))

/-- IMAGE_ABORT (R82, Table 2-7): an accepted abort is answered OK, and SIL_RESULT shows ABORTED; it gives up a waiting restart
switch too (R82, log entry 147). -/
def State.imageAbort (s : State) (via : Via) (next : Nat) : State :=
  let st := s.pendState
  if st = Pend.empty ∧ !s.sil.restart then s.finish via .sil 0 0
  else if st = Pend.switching ∨ ((st = Pend.armed ∨ s.sil.restart) ∧ s.armTooLate next) then s.finish via .sil SilCode.tooLate 0
  else
    let s1 := s.unarm.abortPending.reply via .sil 0 0
    if s.sil.boot ∧ (s1.phase = Phase.image ∨ s1.phase = Phase.switch) then s1.startFails GlbCode.bootNoImage 0 else s1
def execImageAbort (via : Via) (next t : Nat) (s : State) : Host.Outcome State Fault Refusal :=
  .next ((s.at_ t).onSil via 0x0205 (fun s => s.imageAbort via next))

/-- IMAGE_STATE: SIL_STATE, SIL_RESULT and both serials. -/
def execImageState (o : Origin) (seq : Word) (s : State) : Host.Outcome State Fault Refusal :=
  .next (s.onSil (.msg o seq) 0x0206 (fun s => s.answer o seq 0 Unit.sil.top 0
    ([R.SIL_STATE, R.SIL_RESULT, R.SIL_ACTIVE_SERIAL, R.SIL_PENDING_SERIAL].flatMap (fun r => leBytes 4 (s.reg r).toNat))))

/-- LOCK_CLR. -/
def State.lockClr (s : State) : State := s.setReg R.SIL_LOCK_COUNT 0
def execLockClr (src : Src) (s : State) : Host.Outcome State Fault Refusal :=
  .next (s.onUnit (.reg src) .sil R.SIL_CTRL State.lockClr)

/-! ### Loading (R73, R76, 18 R478) -/

/-- IMAGE_BEGIN: a LENGTH out of range is refused at once; EMPTY and READY begin a load. -/
def execImageBegin (o : Origin) (seq : Word) (s : State) : Host.Outcome State Fault Refusal :=
  let v : Via := .msg o seq
  .next (s.onSil v 0x0201 (fun s =>
    let len := field (s.payload v) 0 4
    let st := s.pendState
    if len % 8 ≠ 0 ∨ len < 96 ∨ len > slotSize then s.finish v .sil SilCode.length 0xFFFF
    else if st ≠ Pend.empty ∧ st ≠ Pend.ready then s.finish v .sil SilCode.busy st
    else
      let s1 := s.dropPending
      let s2 : State := { s1 with sil := { s1.sil with len := len, clear := true, persist := bitAt (field (s.payload v) 4 4) 0 } }
      (s2.pendEnter Pend.loading).finish v .sil 0 0))

/-- IMAGE_CHUNK: accepted in LOADING of a host load, inside LENGTH; its bytes follow from the host buffer. -/
def execImageChunk (o : Origin) (seq : Word) (s : State) : Host.Outcome State Fault Refusal :=
  let v : Via := .msg o seq
  .next (s.onSil v 0x0202 (fun s =>
    let p := s.payload v
    let off := field p 0 4
    if s.pendState ≠ Pend.loading ∨ s.sil.boot then s.finish v .hif 3 0
    else if off + s.hbLen o seq 8 > s.sil.len then s.finish v .hif 2 0
    else s.transfer o seq 8 (s.hbLen o seq 8) 0 Unit.sil.top 0 (.imageChunk off (bitAt (field p 4 4) 0))))

/-- The first bytes of a load find its LENGTH of the PENDING bank cleared: what no chunk writes reads 0 (18 R478). -/
def State.clearBank (s : State) : State :=
  if s.sil.clear then ({ s with sil := { s.sil with clear := false } }).bankWrite s.pendBank 0 (zeros s.sil.len) else s

/-- Bytes of a chunk arrive in the PENDING bank (R72); the final one completes the data. -/
def State.takeChunk (s : State) (off : Nat) (final : Bool) (b : Bytes) : State :=
  if s.pendState ≠ Pend.loading ∨ s.sil.boot then s
  else
    let s1 := s.clearBank.bankWrite s.pendBank off b
    if final then s1.pendEnter Pend.validating else s1

/-- The transfer of a chunk of `n` bytes fails: its range of the PENDING bank is undefined (18 R474). -/
def State.chunkLost (s : State) (off n : Nat) : State := let r := s.freeBytes n; r.2.takeChunk off false r.1

/-- BOOT_IMAGE_LOAD: the SPI read of the boot slot into the PENDING bank ends (R78); without the DMC it stalls (R92). -/
def execBootImageLoad (t : Nat) (s : State) : Host.Outcome State Fault Refusal :=
  let s0 := s.at_ t
  .next (if s0.pendState ≠ Pend.loading ∨ !s0.sil.boot then s0
    else
      let b := s0.slotBytes s0.sil.slot
      s0.withDram (s0.bankBase s0.pendBank) b.length (fun s0 =>
        let s1 := s0.bankWrite s0.pendBank 0 b
        ({ s1 with sil := { s1.sil with len := b.length } }).pendEnter Pend.validating))

/-- First failure of PENDING's checks, the boot record's serial last (R78, R80). -/
def State.pendingFails (s : State) : Option (Nat × Nat) :=
  let img := s.sil.pending
  orElseFail (checkImage s.keyCfg (installedDram (s.fld F.DMC_GEOM.DENSITY) (s.fld F.DMC_GEOM.RANKS)) img)
    (if s.sil.boot ∧ imgSerial img ≠ s.sil.bootSerial then some (SilCode.serialMismatch, 0) else none)

/-- A load ends with a failure: EMPTY, LOAD_DONE; a boot image gives way to the older slot; a failure of code 125 shows at the PMU
too (R78, R80, 17 R456). -/
def State.checksFail (s : State) (code detail : Nat) : State :=
  let s1 := ((if code = SilCode.limit ∧ detail = 125 then s.post .pmu 1 (powerFault s.sil.pending) else s).dropPending.post .sil code detail).raise
    .sil F.SIL_IRQ_STATUS.LOAD_DONE
  if s.sil.boot then s1.silBoot else s1

/-- A persisted load is written to a slot. What a write that fails leaves in the slot the spec does not say: the bytes are free
(R76, log entry 148). -/
def State.persistSlot (s : State) (slot : Nat) (written : Bool) : State :=
  let gone := decide (slot = s.sil.activeSlot)
  let s0 : State := { s with sil := { s.sil with stored := s.sil.stored && !gone } }
  if written then (s0.flashErase (slotBase slot) slotSize).flashPut (slotBase slot) s.sil.pending
  else
    let r := (s0.flashErase (slotBase slot) slotSize).freeBytes s.sil.pending.length
    r.2.flashPut (slotBase slot) r.1

/-- A load passes: READY, with its serial and kind; a boot image arms its own first switch (R80, R84). -/
def State.checksPass (s : State) (slot : Nat) : State :=
  let img := s.sil.pending
  let s2 : State := { s with sil := { s.sil with slot := slot } }
  let heavy := isHeavy (if s2.imageActive then some s2.sil.active else none) img
  let s3 := ((s2.pendEnter Pend.ready).setReg R.SIL_PENDING_SERIAL (w32 (imgSerial img))).setFlag F.SIL_STATE.PENDING_HEAVY heavy
  let s4 := (s3.show .sil 0 0).raise .sil F.SIL_IRQ_STATUS.LOAD_DONE
  if s4.sil.boot then (s4.switchReq none).1 else s4

/-- The image read from the PENDING bank is checked; a persisted one is written to its slot before PENDING is READY (R76, R80). -/
def State.checkPending (s : State) (written : Bool) : State :=
  match s.pendingFails with
  | some (c, d) => s.checksFail c d
  | none =>
    let slot := if s.sil.boot then s.sil.slot else s.spareSlot
    let s1 := if s.sil.persist then s.persistSlot slot written else s
    if s.sil.persist ∧ !written then s1.checksFail SilCode.persistFail slot else s1.checksPass slot

/-- IMAGE_CHECKS_COMPLETE: the PENDING bank is read and checked: READY, or EMPTY with the first failure; `written`: the flash write
and read-back of a persisted load succeed. While the DMC does not serve, checking stalls (R76, R78, R80, R92). -/
def execImageChecksComplete (written : Bool) (t : Nat) (s : State) : Host.Outcome State Fault Refusal :=
  let s0 := s.at_ t
  .next (if s0.pendState ≠ Pend.validating then s0
    else s0.withDram (s0.bankBase s0.pendBank) s0.sil.len (fun s0 =>
      let r := s0.bankRead s0.pendBank s0.sil.len
      match r.2 with
      | none => r.1
      | some img => ({ r.1 with sil := { r.1.sil with pending := img } }).checkPending written))

/-! ### After a switch (R76, R86, R91) -/

/-- POINTER_RECORD_APPEND: after a persisted image's switch the record names its slot. The first record of all takes SEQ 1: the
model's choice, the spec states no first value (R75, R76, log entry 149). -/
def execPointerRecordAppend (s : State) : Host.Outcome State Fault Refusal :=
  .next (if !s.sil.pointerDue then s
    else
      let n := match s.pointerRec (fun _ => true) with | some b => field b 0 4 + 1 | none => 1
      let b := flashRec (leBytes 4 n ++ leBytes 1 s.sil.activeSlot ++ zeros 3 ++ leBytes 4 (imgSerial s.sil.active))
      ({ s.flashAppend pointer0 pointer1 b false with sil := { s.sil with pointerDue := false } }).setFlag F.SIL_STATE.ACTIVE_PERSISTENT true)

/-- HEAVY_SWITCH_DRAIN_DONE: the old frames are finished, and the new engine memories are written (R86 steps 2 and 3). -/
def State.drainDone (s : State) : State :=
  let gs := (List.range (imgGroups s.sil.active).length).zip (imgGroups s.sil.active)
  let off := (List.range 64).filter (fun e => !gs.any (fun g => g.2.engines.contains e))
  let s1 : State := { s with
    sil := { s.sil with drained := true, toLoad := gs.map (·.1), old := [] }, gea := { s.gea with kept := [], threads := [], halts := [] } }
  let s2 := s1.mrsReload.setEng off Eng.off
  gs.foldl (fun a g => a.setEng g.2.engines (if a.groupOn g.2 then Eng.loading else Eng.off)) s2
def execHeavySwitchDrainDone (t : Nat) (s : State) : Host.Outcome State Fault Refusal :=
  let s0 := s.at_ t
  .next (if s0.pendState = Pend.switching ∧ !s0.sil.drained ∧ s0.lastDelivered then s0.drainDone else s0)

/-- ACTIVE_COPY_REWRITE_DONE: the bank copy is whole again, and a load that waits for it can be made; while the DMC does not serve
it stalls (R91, R92, 21 R530). -/
def execActiveCopyRewriteDone (s : State) : Host.Outcome State Fault Refusal :=
  let b := s.slotBytes s.sil.activeSlot
  .next (if !s.sil.rewriting then s
    else s.withDram (s.bankBase s.sil.bank) b.length (fun s =>
      let s1 := s.bankWrite s.sil.bank 0 b
      (({ s1 with sil := { s1.sil with rewriting := false } }).setFlag F.SIL_STATE.ACTIVE_COPY true).silVote))

/-- The RWL fields of a register take a value. -/
def State.putRwl (s : State) (off : Nat) (v : Word) : State :=
  match famOf off with
  | some f => let m := f.maskOf .rwl; s.setReg off ((s.reg off &&& ~~~m) ||| (v &&& m))
  | none => s

/-- A register takes a section's value: its RWL fields, and the RW fields of DMC_PASR and VPF_CHc_EXC, which a section names too
(15 R429, 17 R456). -/
def State.putSection (s : State) (off : Nat) (v : Word) : State :=
  match famOf off with
  | some f => let m := f.maskOf .rwl ||| f.maskOf .rw; s.setReg off ((s.reg off &&& ~~~m) ||| (v &&& m))
  | none => s

/-- The registers of a domain that sections give RW fields of take the ACTIVE image's values again (R90, 15 R428). -/
def State.restoreSections (s : State) (mine : Nat → Bool) : State :=
  ((sectionWrites s.sil.active).filter (fun w => mine w.1)).foldl (fun a w => a.putSection w.1 (w32 w.2)) s

/-- CORE enters KEEP (R90): a load is aborted, an ARMED image is READY again. -/
def State.silKeep (s : State) : State :=
  let st := s.pendState
  if st = Pend.loading ∨ st = Pend.validating then s.abortPending
  else if st = Pend.armed then ({ s with sil := { s.sil with armed := none } }).pendEnter Pend.ready
  else s

end Sys2Proof.Machine
end

