-- ==== Sys2Proof/Machine/TtuCh.lean ====
section
/-! DEFINITION. The TTU's input channels and interval units (14 R400-R411). -/

namespace Sys2Proof.Machine

/-- A channel and a unit with no history. -/
def TtuChan.fresh : TtuChan := ⟨false, false, true, false, false, none, [], [], [], true, false, 0, 0, none⟩
def TtuUnit.fresh : TtuUnit := ⟨[], [], none, false, 0, 0, 0, 0, 0, 0, 0, 0, [], [], false, none⟩

/-- A channel and an interval unit by number. -/
def State.chan (s : State) (c : Nat) : TtuChan := s.ttu.chans[c]?.getD TtuChan.fresh
def State.iu (s : State) (u : Nat) : TtuUnit := s.ttu.units[u]?.getD TtuUnit.fresh
def State.modChan (s : State) (c : Nat) (f : TtuChan → TtuChan) : State :=
  { s with ttu := { s.ttu with chans := modAt s.ttu.chans c f } }
def State.modIu (s : State) (u : Nat) (f : TtuUnit → TtuUnit) : State :=
  { s with ttu := { s.ttu with units := modAt s.ttu.units u f } }

/-! ### Queues (R404, R405, R408) -/

/-- Entries a queue holds at most. -/
abbrev queueTop : Nat := 4096

/-- A read of W0 latches the oldest entry, W1 and W2 return the latched one, and W2 removes it; an empty queue
reads 0 (R405). The result: queue, latch, value. -/
def queueRead (q : List (List Word)) (latch : List Word) (w : Nat) : List (List Word) × List Word × Word :=
  match w with
  | 0 => let l := q.headD []; (q, l, l[0]?.getD 0)
  | 1 => (q, latch, latch[1]?.getD 0)
  | _ => if latch.isEmpty then (q, [], 0) else (q.drop 1, [], latch[2]?.getD 0)

/-- FILL of a channel and of a unit follows its queue. -/
def State.chanFill (s : State) (c : Nat) : State := s.setFld (F.TTU_CHc_STATUS.FILL c) (s.chan c).queue.length
def State.iuFill (s : State) (u : Nat) : State := s.setFld (F.TTU_IUu_STATUS.FILL u) (s.iu u).queue.length

/-! ### Interval units (R406-R408) -/

/-- Pending lists, and the partial block with them, are discarded. -/
def TtuUnit.clearLists (x : TtuUnit) : TtuUnit := { x with starts := [], stops := [], prev := none, gap := true }
def TtuUnit.clearBlock (x : TtuUnit) : TtuUnit :=
  { x with starts := [], stops := [], prev := none, n := 0, order := 0, under := 0 }

/-- The square root of a rational, rounded to the nearest integer. -/
def isqrtRound (num den : Nat) : Nat := (isqrt (4 * num / den) + 1) / 2

/-- The result words of a complete block: MEAN, SD, MIN, MAX, COUNT and FLAGCOUNT (R407). -/
def TtuUnit.result (x : TtuUnit) : List Word :=
  let n := x.n
  let mean := unsigned 64 (roundDiv (256 * (x.x0 * n + x.s1)) n)
  let var : Nat := (x.s2 * n - x.s1 * x.s1).toNat
  let sd := if n > 1 then min (2 ^ 32 - 1) (isqrtRound (65536 * var) (n * (n - 1))) else 0
  let mn := unsigned 64 x.mn
  let mx := unsigned 64 x.mx
  [w32 mean, w32 (mean / 2 ^ 32), w32 sd, w32 mn, w32 (mn / 2 ^ 32), w32 mx, w32 (mx / 2 ^ 32), w32 n,
    w32 (min 65535 x.order + 65536 * min 65535 x.under)]

/-- A result set goes into the result registers. -/
def State.latchResult (s : State) (u : Nat) (l : List Word) : State :=
  let s1 := ((List.range 9).zip l).foldl (fun a e => a.setReg (R.TTU_IUu_MEAN_LO u + 4 * e.1) e.2) s
  s1.setFlag (F.TTU_IUu_STATUS.RESULT_NEW u) true

/-- A block is complete: latched, or held while the set is frozen (R407). -/
def State.iuDone (s : State) (u : Nat) : State :=
  let l := (s.iu u).result
  let s1 := s.modIu u (fun x => { x with n := 0, order := 0, under := 0 })
  let s2 := if s1.flag (F.TTU_IUu_STATUS.FROZEN u) then s1.modIu u (fun x => { x with held := some l })
    else s1.latchResult u l
  s2.raise .ttu F.TTU_IRQ_STATUS.STATS_DONE

/-- The statistics take an interval that is not ORDER. -/
def TtuUnit.take (x : TtuUnit) (v : Int) : TtuUnit :=
  let y : TtuUnit := if x.n = 0 then { x with x0 := v, s1 := 0, s2 := 0, mn := v, mx := v } else x
  let d := v - y.x0
  { y with s1 := y.s1 + d, s2 := y.s2 + d * d, n := y.n + 1, mn := min y.mn v, mx := max y.mx v }

/-- An interval enters the interval queue (R408). -/
def State.iuQueue (s : State) (u : Nat) (v : Int) (gap : Bool) : State :=
  if !s.flag (F.TTU_IUu_CFG.QUEUE_EN u) then s
  else if (s.iu u).queue.length ≥ queueTop then
    (((s.modIu u (fun x => { x with dropped := true })).count (F.TTU_IUu_STATUS.DROP u) 1).post .ttu
      TtuCode.queueDrop (8 + u)).raise .ttu F.TTU_IRQ_STATUS.QUEUE_DROP
  else
    let n := unsigned 64 v
    let f (b : Bool) (i : Nat) : Nat := if b then 2 ^ i else 0
    let w2 := f (v == 0) 0 + f (decide (v < 0)) 1 + f gap 2 + f (s.iu u).dropped 3 + 2 ^ 31
    (s.modIu u (fun x => { x with queue := x.queue ++ [[w32 n, w32 (n / 2 ^ 32), w32 w2]], dropped := false })).iuFill u

/-- An interval is emitted (R406). -/
def State.iuEmit (s : State) (u : Nat) (v : Int) : State :=
  let x := s.iu u
  let s1 := (s.iuQueue u v x.gap).modIu u (fun x => { x with gap := false })
  let s2 := if v < 0 ∧ x.order = 0 then s1.post .ttu TtuCode.order u
    else if v = 0 ∧ x.under = 0 then s1.post .ttu TtuCode.underres u else s1
  let s3 := s2.modIu u (fun x => { x with
    order := if v < 0 then x.order + 1 else x.order, under := if v = 0 then x.under + 1 else x.under })
  if v < 0 ∨ s3.fld (F.TTU_IUu_N.N u) = 0 then s3
  else
    let s4 := s3.modIu u (fun x => x.take v)
    if (s4.iu u).n ≥ s4.fld (F.TTU_IUu_N.N u) then s4.iuDone u else s4

/-- START and STOP stamps pair while both lists hold one. -/
def State.iuPair (u : Nat) : Nat → State → State
  | 0, s => s
  | k + 1, s =>
    match (s.iu u).starts, (s.iu u).stops with
    | a :: as_, b :: bs =>
      let s1 := s.modIu u (fun x => { x with starts := as_, stops := bs })
      State.iuPair u k (s1.iuEmit u ((b : Int) - (a : Int)))
    | _, _ => s

/-- A channel is one that an interval unit takes stamps from; STOP counts in PAIR mode only (R406). -/
def State.iuStart (s : State) (u c : Nat) : Bool := s.fld (F.TTU_IUu_CFG.START u) == c
def State.iuStop (s : State) (u c : Nat) : Bool := s.fld (F.TTU_IUu_CFG.STOP u) == c && s.fld (F.TTU_IUu_CFG.MODE u) == 0

/-- A channel disarms: the units that use it discard their lists. -/
def State.iuDisarm (s : State) (c : Nat) : State :=
  (List.range 4).foldl (fun a u => if a.iuStart u c || a.iuStop u c then a.modIu u TtuUnit.clearLists else a) s

/-- Stamps of a unit's pending lists that are older than WINDOW at a stamp instant are discarded (R406). -/
def State.iuExpire (s : State) (u stamp : Nat) : State :=
  let win := 512 * s.fld (F.TTU_IUu_WINDOW.NS u)
  let old (a : Nat) : Bool := decide (a + win < stamp)
  let x := s.iu u
  let n := (x.starts.filter old).length + (x.stops.filter old).length
  if win = 0 ∨ n = 0 then s
  else ((s.modIu u (fun x => { x with
      starts := x.starts.filter (fun a => !old a), stops := x.stops.filter (fun a => !old a), gap := true })).count
    (F.TTU_IUu_EXPIRED.COUNT u) n).post .ttu TtuCode.expired u

/-- A channel's stamp reaches one interval unit, what has expired by then being gone; `gap` marks a stamp that carries GAP (R406). -/
def State.iuStamp (s0 : State) (u c stamp : Nat) (gap : Bool) : State :=
  let start := s0.iuStart u c
  let stop := s0.iuStop u c
  if !s0.flag (F.TTU_IUu_CFG.EN u) then s0
  else
    let s := s0.iuExpire u stamp
    if !start && !stop then s
    else
      let s1 := if gap then s.modIu u TtuUnit.clearLists else s
      if s1.fld (F.TTU_IUu_CFG.MODE u) = 1 then
        let p := (s1.iu u).prev
        let s2 := s1.modIu u (fun x => { x with prev := some stamp })
        match p with
        | some a => s2.iuEmit u ((stamp : Int) - (a : Int))
        | none => s2
      else
        let x := s1.iu u
        if (start && decide (x.starts.length ≥ 16)) || (stop && decide (x.stops.length ≥ 16)) then s1.modIu u TtuUnit.clearLists
        else
          let s2 := s1.modIu u (fun x => { x with
            starts := if start then x.starts ++ [stamp] else x.starts, stops := if stop then x.stops ++ [stamp] else x.stops })
          State.iuPair u 16 s2

/-! ### Channels (R400-R404) -/

/-- A channel is HF. -/
def isHf (c : Nat) : Bool := decide (4 ≤ c)

/-- A SLOT-mode channel is armed for a stamp. -/
def TtuChan.slotArmed (x : TtuChan) (stamp : Nat) : Bool :=
  match x.slotEdges.find? (fun e => decide (e.1 ≤ stamp)) with
  | some e => e.2
  | none => false

/-- A channel is armed for a stamp, given the level of its gate 8.0 ns before (R403). -/
def State.armedAt (s : State) (c stamp : Nat) (gate : Bool) : Bool :=
  let x := s.chan c
  s.domOn 1 && x.calibrated && !x.stuck && (match s.fld (F.TTU_CHc_CFG.ARM_MODE c) with
    | 0 => false
    | 1 => true
    | 2 => gate != s.flag (F.TTU_CHc_CFG.GATE_POL c)
    | _ => x.slotArmed stamp)

/-- STATUS.ARMED follows. -/
def State.showArmed (s : State) (c stamp : Nat) (gate : Bool) : State :=
  s.setFlag (F.TTU_CHc_STATUS.ARMED c) (s.armedAt c stamp gate)

/-- The stamp entry of Table 14-3. -/
def State.stampEntry (s : State) (c stamp : Nat) (falling : Bool) : List Word :=
  let z := s.scaleAt (5 * stamp)
  let x := s.chan c
  let f (b : Bool) (i : Nat) : Nat := if b then 2 ^ i else 0
  [w32 (scaleNs z), w32 (scaleNs z / 2 ^ 32),
    w32 (scaleFrac z + f falling 9 + f x.dropped 10 + f x.gap 11 + 4096 * s.lockByte (x.stepped && s.stepIn (5 * stamp)) + 2 ^ 31)]

/-- An accepted stamp enters the channel's queue (R404). -/
def State.chanQueue (s : State) (c stamp : Nat) (falling : Bool) : State :=
  if !s.flag (F.TTU_CHc_CFG.QUEUE_EN c) then s
  else if (s.chan c).queue.length ≥ queueTop then
    (((s.modChan c (fun x => { x with dropped := true })).count (F.TTU_CHc_DROP_COUNT.COUNT c) 1).post .ttu
      TtuCode.queueDrop c).raise .ttu F.TTU_IRQ_STATUS.QUEUE_DROP
  else
    let e := s.stampEntry c stamp falling
    (s.modChan c (fun x => { x with
      queue := x.queue ++ [e], dropped := false, gap := false, stepped := x.stepped && !s.stepIn (5 * stamp) })).chanFill c

/-- An accepted stamp: counted, queued, and handed to the interval units. -/
def State.chanStamp (s : State) (c stamp : Nat) (falling : Bool) : State :=
  let gap := (s.chan c).gapIu
  let s1 := s.modChan c (fun x => { x with last := some stamp, gapIu := false })
  let s2 := s1.setReg (R.TTU_CHc_STAMP_COUNT c) (s1.reg (R.TTU_CHc_STAMP_COUNT c) + 1)
  (List.range 4).foldl (fun a u => a.iuStamp u c stamp gap) (s2.chanQueue c stamp falling)

/-- The next entry of a channel, and its next stamp at the interval units, carry GAP. -/
def State.chanGap (s : State) (c : Nat) : State := s.modChan c (fun x => { x with gap := true, gapIu := true })

/-- A SLOT-mode disarm takes effect once a stamp is not before it (R403). -/
def State.slotSettle (s : State) (c stamp : Nat) : State :=
  match (s.chan c).slotOff with
  | some x => if x ≤ stamp then ((s.modChan c (fun y => { y with slotOff := none })).chanGap c).iuDisarm c else s
  | none => s

/-- An EV input's level after an edge, and the edge's stamp. -/
def State.evLevel (s : State) (c : Nat) (falling : Bool) (stamp : Nat) : State :=
  (s.setFlag (F.TTU_CHc_STATUS.LEVEL c) (!falling)).modChan c (fun x => { x with edgeAt := stamp })

/-- A level is the active level of an EV channel (R400). -/
def State.evActive (s : State) (c : Nat) (high : Bool) : Bool :=
  if s.fld (F.TTU_CHc_CFG.EDGE c) = 1 then !high else high

/-- An edge of the polarity the channel stamps. -/
def State.edgeTaken (s : State) (c : Nat) (falling : Bool) : Bool :=
  match s.fld (F.TTU_CHc_CFG.EDGE c) with
  | 0 => !falling
  | 1 => falling
  | _ => true

/-- EV_EDGE: an edge of an EV input, its stamp, the level of its gate pin 8.0 ns before, and whether that gate was
inactive at any time since the input's previous edge (R400, R401, R403). Only edges that EDGE selects are edges of the channel: the ring of
chapter 14's example, which falls and rises in the hold-off, counts once (DEDUCED, log entry 199). -/
def execEvEdge (c : Fin 4) (falling : Bool) (stamp : Nat) (gate ungated : Bool) (s : State) : Host.Outcome State Fault Refusal :=
  let s0 := ((s.at_ (5 * stamp / 2048)).evLevel c.val falling stamp).slotSettle c.val stamp
  .next (if !s0.domOn 1 then s0.chanGap c.val
    else if (s0.chan c.val).stuck then
      -- the returning edge of a STUCK channel re-arms it and is not stamped
      if s0.evActive c.val (!falling) then s0
      else (((s0.chanGap c.val).modChan c.val (fun x => { x with stuck := false })).setFlag (F.TTU_CHc_STATUS.STUCK c.val) false).showArmed
        c.val stamp gate
    else
      let s1 := s0.showArmed c.val stamp gate
      let s2 := if s1.fld (F.TTU_CHc_CFG.ARM_MODE c.val) = 2 ∧ ungated then (s1.chanGap c.val).iuDisarm c.val else s1
      if !s2.armedAt c.val stamp gate then s2.chanGap c.val
      else if !s2.edgeTaken c.val falling then s2
      else
        let hold := 512 * s2.fld (F.TTU_CHc_TIMING.HOLDOFF c.val)
        match (s2.chan c.val).last with
        | some p =>
          if stamp < p + hold then s2.count (F.TTU_CHc_HOLDOFF_COUNT.COUNT c.val) 1 else s2.chanStamp c.val stamp falling
        | none => s2.chanStamp c.val stamp falling)

/-- An EV input has been at its active level for longer than STUCK_US (R401). -/
def State.evStuck (s : State) (c t : Nat) : Bool :=
  let us := s.fld (F.TTU_CHc_TIMING.STUCK_US c)
  us != 0 && s.evActive c (s.flag (F.TTU_CHc_STATUS.LEVEL c)) && decide (5 * ((s.chan c).edgeAt + 512000 * us) < 2048 * t)

/-- STUCK: an EV input has stayed at its active level for longer than STUCK_US (R401). -/
def execStuck (c : Fin 4) (t : Nat) (s : State) : Host.Outcome State Fault Refusal :=
  let s0 := s.at_ t
  .next (if !s0.domOn 1 ∨ (s0.chan c.val).stuck ∨ !s0.evStuck c.val t then s0
    else
      let s1 := ((s0.chanGap c.val).modChan c.val (fun x => { x with stuck := true })).iuDisarm c.val
      let s2 := ((s1.setFlag (F.TTU_CHc_STATUS.STUCK c.val) true).setFlag (F.TTU_CHc_STATUS.ARMED c.val) false).count
        (F.TTU_CHc_EVENT_COUNT.STUCK c.val) 1
      (s2.post .ttu TtuCode.stuck c.val).raise .ttu F.TTU_IRQ_STATUS.STUCK)

/-- One rising edge of an HF input: the prescaler's D-th gives a stamp, accepted inside the arming (R402). -/
def State.hfEdge (c : Nat) (s : State) (e : Nat × Bool) : State :=
  let n := ((s.chan c).div + 1) % 2 ^ s.fld (F.TTU_CHc_CFG.DIV c)
  let a := s.modChan c (fun x => { x with div := n })
  if n ≠ 0 then a
  else
    let b := (a.slotSettle c e.1).showArmed c e.1 e.2
    if b.armedAt c e.1 e.2 then b.chanStamp c e.1 false else b.chanGap c

/-- HF_WINDOW: a 1 us window of HF input `h` closes with its rising edges, each with the level of its gate pin 8.0 ns before: over
the rating all stamps are discarded, else the prescaler's stamps inside the arming are accepted (R402). -/
def execHfWindow (h : Fin 4) (edges : List (Nat × Bool)) (t : Nat) (s : State) : Host.Outcome State Fault Refusal :=
  let c := 4 + h.val
  let count := edges.length
  let s0 := s.at_ t
  .next (if !s0.domOn 1 then s0.chanGap c
    else
      let s1 := s0.setReg (R.TTU_CHc_HF_FREQ c) (w32 (1000 * count))
      let excess := decide (count > min 4000 (250 * 2 ^ s1.fld (F.TTU_CHc_CFG.DIV c)))
      let s2 := s1.setFlag (F.TTU_CHc_STATUS.OVERRANGE c) excess
      if excess then
        ((((s2.modChan c (fun x => { x with div := (x.div + count) % 2 ^ s2.fld (F.TTU_CHc_CFG.DIV c) })).chanGap c).count
          (F.TTU_CHc_EVENT_COUNT.OVERRANGE c) 1).post .ttu TtuCode.overrange c).raise .ttu
          F.TTU_IRQ_STATUS.OVERRANGE
      else edges.foldl (State.hfEdge c) s2)

/-! ### Arming (R403, R411) -/

/-- A SLOT-mode arm or disarm from a stamp on; once it takes effect, a disarm leaves GAP and discards the lists of the units that
use the channel. -/
def State.slotArm (s : State) (c : Nat) (on : Bool) (stamp : Nat) : State :=
  let s1 := s.modChan c (fun x => { x with
    slotEdges := ((stamp, on) :: x.slotEdges).take 4, slotOff := if on then x.slotOff else x.slotOff.or (some stamp) })
  let s2 := s1.slotSettle c (sampleStamp s1.now)
  if s2.fld (F.TTU_CHc_CFG.ARM_MODE c) = 3 then s2.showArmed c stamp false else s2

/-- A write to TTU_ARM. -/
def State.ttuArmWrite (s : State) (mask : Nat) : State :=
  (List.range 8).foldl (fun a c =>
    let b := if bitAt mask c then a.slotArm c true (sampleStamp a.now) else a
    if bitAt mask (8 + c) then b.slotArm c false (sampleStamp b.now) else b) s

/-- TTU_ARM. -/
def execTtuArm (src : Src) (mask : Word) (s : State) : Host.Outcome State Fault Refusal :=
  .next (s.onUnit (.reg src) .ttu R.TTU_ARM (fun s => s.ttuArmWrite mask.toNat))

/-- A NOTIFY slot of the TTU at an instant (R403): arms, disarms, restarts, or logs BAD_CONFIG. -/
def State.ttuNotify (s : State) (arg instant : Nat) : State :=
  let at_ := sampleStamp (instant + 20)
  if arg < 8 then s.slotArm arg true at_
  else if arg < 16 then s.slotArm (arg - 8) false at_
  else if arg < 20 then s.modIu (arg - 16) TtuUnit.clearBlock
  else s.post .ttu TtuCode.badConfig 0

/-- TDC_CALIBRATION: a channel's calibration ends (R411). -/
def execTdcCalibration (c : Fin 8) (ok : Bool) (s : State) : Host.Outcome State Fault Refusal :=
  .next (if !s.domOn 1 ∨ (s.chan c.val).calibrated ∨ (s.chan c.val).calFailed then s
    else if ok then
      ((s.modChan c.val (fun x => { x with calibrated := true })).showArmed c.val (sampleStamp s.now) false)
    else ((s.modChan c.val (fun x => { x with calFailed := true })).post .ttu TtuCode.calFail c.val).raise .ttu
      F.TTU_IRQ_STATUS.CAL_FAIL)

/-- CORE leaves RUN: no edge is stamped, and a channel's calibration is due again (R410, R411). -/
def State.ttuCoreStop (s : State) : State :=
  (List.range 8).foldl (fun a c => ((a.chanGap c).modChan c (fun x => { x with calibrated := false, calFailed := false })).setFlag
    (F.TTU_CHc_STATUS.ARMED c) false) s

/-- CORE loses its state: queues, pending lists and partial blocks are lost (R410). -/
def State.ttuCoreLost (s : State) : State :=
  let s1 : State := { s with ttu := { s.ttu with
    chans := s.ttu.chans.map (fun x => { TtuChan.fresh with stepped := x.stepped, edgeAt := x.edgeAt }), units := s.ttu.units.map (fun _ => TtuUnit.fresh) } }
  (List.range 4).foldl State.iuFill ((List.range 8).foldl State.chanFill s1)

/-! ### Register accesses with effects (R405, R407) -/

/-- A read of queue word `w`: queues 0 to 7 are the channels', 8 to 11 the interval units'. -/
def State.queueWord (s : State) (q w : Nat) : State × Word :=
  if q < 8 then
    let r := queueRead (s.chan q).queue (s.chan q).latch w
    ((s.modChan q (fun x => { x with queue := r.1, latch := r.2.1 })).chanFill q, r.2.2)
  else
    let u := q - 8
    let r := queueRead (s.iu u).queue (s.iu u).latch w
    ((s.modIu u (fun x => { x with queue := r.1, latch := r.2.1 })).iuFill u, r.2.2)

/-- Offset of a queue word's register. -/
def queueOff (q w : Nat) : Nat := if q < 8 then R.TTU_CHc_Q_W0 q + 4 * w else R.TTU_IUu_Q_W0 (q - 8) + 4 * w

/-- STAMP_QUEUE_READ. -/
def execStampQueueRead (src : Src) (q : Fin 12) (w : Fin 3) (s : State) : Host.Outcome State Fault Refusal :=
  .next (if !s.domOn 1 then (s.logOff src false false (queueOff q.val w.val) 1).give (.readData (queueOff q.val w.val) 0)
    else
      let r := s.queueWord q.val w.val
      r.1.give (.readData (queueOff q.val w.val) r.2.toNat))

/-- A write to TTU_CHc_CFG has changed the arming: what the channel missed while it was not armed is a gap (R403). -/
def State.chanCfgWritten (s old : State) (c : Nat) : State :=
  let moved := [F.TTU_CHc_CFG.ARM_MODE c, F.TTU_CHc_CFG.GATE c, F.TTU_CHc_CFG.GATE_POL c].any (fun f => s.fld f != old.fld f)
  (if moved then (s.chanGap c).iuDisarm c else s).showArmed c (sampleStamp s.now) false

/-- A PAIR configuration with START = STOP is refused (R406). -/
def iuCfgBad (w : Word) : Bool := !bitAt w.toNat 1 && bitsOf w 4 2 == bitsOf w 7 5

/-- A write to TTU_IUu_CFG or TTU_IUu_N discards the partial block and the pending lists (R407); a PAIR
configuration whose START is its STOP is refused with BAD_CONFIG. -/
def State.iuCfgWrite (s : State) (u : Nat) (n : Bool) (w : Word) : State :=
  let off := if n then R.TTU_IUu_N u else R.TTU_IUu_CFG u
  if !n && iuCfgBad w then s.post .ttu TtuCode.badConfig ((off - 0xE00000) / 4)
  else (s.setReg off (if n then w &&& 0xFFFFFF else w &&& 0x1FF)).modIu u TtuUnit.clearBlock

/-- IU_CFG_WRITE. -/
def execIuCfgWrite (src : Src) (u : Fin 4) (n : Bool) (w : Word) (s : State) : Host.Outcome State Fault Refusal :=
  .next (s.onUnit (.reg src) .ttu (if n then R.TTU_IUu_N u.val else R.TTU_IUu_CFG u.val) (fun s => s.iuCfgWrite u.val n w))

/-- A read of MEAN_LO freezes the result set. -/
def State.iuMeanRead (s : State) (u : Nat) : State := s.setFlag (F.TTU_IUu_STATUS.FROZEN u) true

/-- A read of COUNT releases the freeze, clears RESULT_NEW and latches a held block. -/
def State.iuCountRead (s : State) (u : Nat) : State :=
  let s1 := (s.setFlag (F.TTU_IUu_STATUS.FROZEN u) false).setFlag (F.TTU_IUu_STATUS.RESULT_NEW u) false
  match (s1.iu u).held with
  | some l => (s1.modIu u (fun x => { x with held := none })).latchResult u l
  | none => s1

/-- A read of a CORE register by a source: logged and 0 while CORE is off. -/
def State.ttuRead (s : State) (src : Src) (off : Nat) (act : State → State) : State :=
  if !s.domOn 1 then (s.logOff src false false off 1).give (.readData off 0)
  else
    let v := (s.reg off).toNat
    (act s).give (.readData off v)

/-- IU_MEAN_READ. -/
def execIuMeanRead (src : Src) (u : Fin 4) (s : State) : Host.Outcome State Fault Refusal :=
  .next (s.ttuRead src (R.TTU_IUu_MEAN_LO u.val) (fun s => s.iuMeanRead u.val))

/-- IU_COUNT_READ. -/
def execIuCountRead (src : Src) (u : Fin 4) (s : State) : Host.Outcome State Fault Refusal :=
  .next (s.ttuRead src (R.TTU_IUu_COUNT u.val) (fun s => s.iuCountRead u.val))

/-- IU_WINDOW_EXPIRY: pending stamps older than WINDOW at a stamp instant are discarded (R406). -/
def execIuWindowExpiry (u : Fin 4) (stamp : Nat) (s : State) : Host.Outcome State Fault Refusal :=
  .next (if !s.domOn 1 then s else s.iuExpire u.val stamp)

end Sys2Proof.Machine
end

