-- ==== Sys2Proof/Machine/Vpf.lean ====
section
/-! DEFINITION. The Vernier precision front end: the measurement cycle, disturbances, curves, results and states
(15 R412-R429). -/

namespace Sys2Proof.Machine

/-- VPF states and codes (15 Tables 15-5, 15-6). -/
abbrev Vpf.off : Nat := 0
abbrev Vpf.calibrating : Nat := 1
abbrev Vpf.idle : Nat := 2
abbrev Vpf.scanning : Nat := 3
abbrev Vpf.paused : Nat := 4
abbrev Vpf.fault : Nat := 5
abbrev VpfCode.badConfig : Nat := 1
abbrev VpfCode.calFail : Nat := 2
abbrev VpfCode.busy : Nat := 3

/-- Bits of FLAGS (Table 15-4); a result's code is its bit's number plus 3. -/
abbrev Vf.settling : Nat := 2
abbrev Vf.rangeStep : Nat := 4
abbrev Vf.overrange : Nat := 8
abbrev Vf.openLead : Nat := 16
abbrev Vf.outOfCurve : Nat := 32
abbrev Vf.cjStale : Nat := 64
abbrev Vf.intRef : Nat := 128
abbrev Vf.mains : Nat := 256
abbrev Vf.blanked : Nat := 512

def State.vpfState (s : State) : Nat := s.fld F.VPF_STATUS.STATE
def State.onVpf (s : State) (f : VpfSt → VpfSt) : State := { s with vpf := f s.vpf }

/-! ### Checks (R427) -/

/-- DETAIL of the first failing VPF check: a channel, or a register's offset over 4. `factory` says whether the factory
record is valid, `stream` whether a channel is open. -/
def vpfCheck (f : Fld → Nat) (factory : Bool) (stream : Nat → Bool) : Option Nat :=
  let chan (c : Nat) : Bool :=
    let tc := f (F.VPF_CHc_CFG.WIRING c) == 3
    let cv := f (F.VPF_CHc_CFG.CURVE c)
    let j := f (F.VPF_CHc_CFG.CJ c)
    let e := f (F.VPF_CHc_EXC.MICROAMP c)
    f (F.VPF_CHc_CFG.EN c) == 0
      || ((if tc then e == 0 else decide (10 ≤ e) && decide (e ≤ 1000)) && (if tc then cv == 0 || decide (5 ≤ cv) else decide (cv ≤ 4))
        && (!tc || cv == 0 || (f (F.VPF_CHc_CFG.WIRING j) != 3 && decide (1 ≤ f (F.VPF_CHc_CFG.CURVE j)) && decide (f (F.VPF_CHc_CFG.CURVE j) ≤ 4)
            && f (F.VPF_CHc_CFG.EN j) == 1))
        && (tc || f F.VPF_CFG.REF_SRC == 0 || factory))
  if f F.VPF_CFG.NPLC = 0 ∨ f F.VPF_CFG.NAVG_EXP = 7 ∨ f F.VPF_CFG.CJ_AGE = 0
      ∨ (f F.VPF_CFG.STREAM_EN = 1 ∧ stream (f F.VPF_CFG.STREAM_CHANNEL) = false) then some 2
  else if f F.VPF_RING.RING_EN = 1 ∧ (f F.VPF_RING.OFFSET % 8 ≠ 0 ∨ f F.VPF_RING.OFFSET + 8200 > 2 ^ 22) then some 3
  else if f F.VPF_CFG.REF_SRC = 0 ∧ f F.VPF_RS.RS = 0 then some 4
  else (List.range 8).find? (fun c => !chan c)

def State.vpfChecks (s : State) : Option Nat :=
  vpfCheck s.fld (s.flag F.ALM_STATUS.FACTORY_VALID) (fun c => (s.channel c).isSome)

/-- VERNIER_SEQ's votes (R427). -/
def State.vpfVote (s : State) : State :=
  let on := s.vpfState == Vpf.calibrating || s.vpfState == Vpf.scanning
  let tile := s.fld F.VPF_RING.TILE + 2
  let s1 := s.castVote (Voter.unit .vpf).index 8 (if on then 0 else 3)
  ([2, 3, 4, 5].foldl (fun a d => a.castVote (Voter.unit .vpf).index d (if on && s.flag F.VPF_RING.RING_EN && d == tile then 0 else 3)) s1).repower

/-- The VPF enters a state. -/
def State.vpfEnter (s : State) (st : Nat) : State := (s.setFld F.VPF_STATUS.STATE st).vpfVote

/-- FAULT with a code. -/
def State.vpfFault (s : State) (code detail : Nat) : State :=
  ((s.vpfEnter Vpf.fault).post .vpf code detail).raise .vpf F.VPF_IRQ_STATUS.FAULT

/-! ### Mains (R417) -/

/-- Sum over 16 mains periods in samples, and whether it is locked, in the tracking modes. -/
def State.mainsLock (s : State) : Bool := s.fld F.VPF_CFG.MAINS_MODE ≥ 2 && s.flag F.VPF_STATUS.MAINS_LOCK

/-- MAINS_UNLOCKED, while a tracking mode has no mains reference. -/
def State.mainsFlag (s : State) : Nat := if s.fld F.VPF_CFG.MAINS_MODE ≥ 2 && !s.mainsLock then Vf.mains else 0

/-- t_conv in 0.4 us: NPLC periods, rounded to nearest. -/
def State.tConv (s : State) : Nat :=
  let m := s.fld F.VPF_CFG.MAINS_MODE
  let n := s.fld F.VPF_CFG.NPLC
  if s.mainsLock then (roundDiv ((n * s.vpf.mains.sum : Nat) : Int) (16 * 500)).toNat
  else if m % 2 = 0 then n * 50000 else (roundDiv ((n * 125000 : Nat) : Int) 3).toNat

/-- MAINS_LOCK takes a value. -/
def State.setMains (s : State) (b : Bool) : State :=
  if s.flag F.VPF_STATUS.MAINS_LOCK = b then s else (s.setFlag F.VPF_STATUS.MAINS_LOCK b).raise .vpf F.VPF_IRQ_STATUS.MAINS_CHANGE

/-- A mains period inside the limits: 14.3 to 25.0 ms. -/
def mainsOk (p : Nat) : Bool := decide (17875000 ≤ p) && decide (p ≤ 31250000)

/-- The mains reference is lost once 100 ms have passed without an edge. -/
def State.mainsAge (s : State) (t : Nat) : State :=
  match s.vpf.mainsLast with
  | some a => if t ≥ a + 100 * msec then (s.onVpf (fun v => { v with mainsLast := none, mains := [] })).setMains false else s
  | none => s

/-- MAINS_SYNC_EDGE: 16 periods in a row inside the limits lock; once locked, the mean follows the last 16 (R417). -/
def execMainsSyncEdge (t : Nat) (s : State) : Host.Outcome State Fault Refusal :=
  let s0 := (s.at_ t).mainsAge t
  .next (if !s0.unitOn .vpf ∨ s0.fld F.VPF_CFG.MAINS_MODE < 2 then s0
    else match s0.vpf.mainsLast with
    | none => s0.onVpf (fun v => { v with mainsLast := some t })
    | some a =>
      let s1 := s0.onVpf (fun v => { v with mainsLast := some t, mains := ((t - a) :: v.mains).take 16 })
      if s1.vpf.mains.length < 16 ∨ !(s1.flag F.VPF_STATUS.MAINS_LOCK || s1.vpf.mains.all mainsOk) then s1
      else (s1.setFld F.VPF_MAINS.PERIOD (roundDiv (s1.vpf.mains.sum : Nat) 8000).toNat).setMains true)

/-- MAINS_TIMEOUT: 100 ms without an edge. -/
def execMainsTimeout (t : Nat) (s : State) : Host.Outcome State Fault Refusal :=
  .next ((s.at_ t).mainsAge t)

/-! ### Phases (Table 15-1) -/

/-- A phase of a result: sensor, lead or reference, and its sign. -/
inductive Phase where
  | s (plus : Bool)
  | l (plus : Bool)
  | r (plus : Bool)
  deriving DecidableEq, Repr

/-- Phases of a channel's result; the reference comparison is a 4-wire result. -/
def phasesOf (wiring : Nat) (reverse : Bool) : List Phase :=
  if wiring = 3 then [.s true, .s false]
  else if wiring = 1 then [.s true, .s false, .l true, .l false, .r false, .r true]
  else if reverse then [.s true, .s false, .r false, .r true]
  else [.s true, .r true]
def State.vpfPhases (s : State) (c : Nat) : List Phase :=
  if c = 8 then phasesOf 0 true else phasesOf (s.fld (F.VPF_CHc_CFG.WIRING c)) (s.flag (F.VPF_CHc_CFG.REVERSE c))

/-- Full scale of a range in volts (Table 15-2). -/
def vpfScale : Nat → Float
  | 0 => 1.2 | 1 => 0.3 | 2 => 0.075 | _ => 0.01875

/-- A Vernier entry of the calibration record in force: R_S, or a channel's coefficients (R421). -/
def State.vpfRs (s : State) : Nat :=
  if s.fld F.VPF_CFG.REF_SRC = 1 then s.otp.rInt
  else match recEntry s.alm.store 4 0 with
    | some c => field c 0 8
    | none => (s.reg R.VPF_RS).toNat
def State.vpfCoefs (s : State) (c : Nat) : List Word :=
  match recEntry s.alm.store 5 c with
  | some e => (List.range 4).map (fun i => w32 (field e (4 * i) 4))
  | none => [s.reg (R.VPF_CHc_COEF0 c), s.reg (R.VPF_CHc_COEF1 c), s.reg (R.VPF_CHc_COEF2 c), s.reg (R.VPF_CHc_COEF3 c)]

/-- Excitation of a channel in micro-ampere; the comparison uses 1,000 (log entry 52). -/
def State.vpfExc (s : State) (c : Nat) : Nat := if c = 8 then 1000 else s.fld (F.VPF_CHc_EXC.MICROAMP c)

/-- A result begins at an instant (R415). -/
def State.vpfBegin (s : State) (c t : Nat) : State :=
  let r := if c = 8 then 0 else if s.flag (F.VPF_CHc_CFG.AUTO c) then tabGet (fun k => s.fld (F.VPF_CHc_CFG.RANGE k)) s.vpf.ranges c
    else s.fld (F.VPF_CHc_CFG.RANGE c)
  let x : VpfRes := ⟨c, 0, [], t, t, s.tConv, 0, 0, r, s.vpfExc c, s.mainsFlag, true,
    s.vpfRs, if c = 8 then [] else s.vpfCoefs c⟩
  let old := s.vpf.frames.filter (fun f => decide (t ≤ f.2.1))
  let base := (s.vpf.frames.find? (fun f => decide (f.2.1 < t))).toList
  (s.onVpf (fun v => { v with res := some x, frames := old ++ base })).setFld F.VPF_STATUS.CHANNEL (c % 8)

/-- The enabled channel after a channel; none at the end of a scan. -/
def State.vpfNext (s : State) (from_ : Nat) : Option Nat :=
  (List.range 8).find? (fun c => decide (from_ ≤ c) && s.flag (F.VPF_CHc_CFG.EN c))

/-- The scan starts at the lowest enabled channel. -/
def State.vpfScan (s : State) (t : Nat) : State :=
  match s.vpfNext 0 with
  | some c => ((s.vpfEnter Vpf.scanning).onVpf (fun v => { v with lastConv := t, pausing := false })).vpfBegin c t
  | none => s.vpfEnter Vpf.idle

/-- What follows a result: a pause, the next channel, or the next scan; where the hourly comparison is due the scan rests until
it begins (R424, REFERENCE_COMPARISON). -/
def State.vpfFollow (s : State) (c t : Nat) : State :=
  let s1 := s.onVpf (fun v => { v with res := none })
  if s1.vpf.pausing then (s1.onVpf (fun v => { v with pausing := false })).vpfEnter Vpf.paused
  else match (if c = 8 then s1.vpfNext 0 else s1.vpfNext (c + 1)) with
    | some d => s1.vpfBegin d t
    | none =>
      if s1.fld F.VPF_CFG.REF_SRC = 0 ∧ s1.vpf.scanned ≥ 3600 * second then s1
      else match s1.vpfNext 0 with
        | some d => s1.vpfBegin d t
        | none => s1.vpfEnter Vpf.idle

/-! ### Curves (R421-R423) -/

/-- Newton's iteration: stops when a step is below 1 uK, or fails after the steps given. -/
def newton (f df : Float → Float) : Nat → Float → Option Float
  | 0, _ => none
  | k + 1, t =>
    let n := t - f t / df t
    if (n - t).abs < 1e-6 then some n else newton f df k n

/-- IEC 60751 (curves 1 and 2). -/
def platinum (r0 r : Float) : Option Float :=
  let a : Float := 3.9083e-3
  let b : Float := -5.775e-7
  let c : Float := -4.183e-12
  let t := (-a + (a * a - 4.0 * b * (1.0 - r / r0)).sqrt) / (2.0 * b)
  if r ≥ r0 then some t
  else newton (fun t => r0 * (1.0 + a * t + b * t * t + c * (t - 100.0) * t * t * t) - r)
    (fun t => r0 * (a + 2.0 * b * t + c * (4.0 * t * t * t - 300.0 * t * t))) 16 t

/-- ITS-90 (curve 3). -/
def its90Of (co : List Float) (r : Float) : Option Float :=
  let g (i : Nat) : Float := co[i]?.getD 0.0
  let w := r / g 0
  let d := if w ≥ 1.0 then g 1 * (w - 1.0) + g 2 * (w - 1.0) * (w - 1.0) + g 3 * (w - 1.0) * (w - 1.0) * (w - 1.0)
    else g 1 * (w - 1.0) + g 2 * (w - 1.0) * w.log
  Config.its90 (w - d)

/-- Temperature of a resistance or a thermocouple voltage, and whether it lies in the curve's range. -/
def curveTemp (curve : Nat) (co : List Float) (x cj : Float) : Option Float :=
  let within (lo hi : Float) (t : Option Float) : Option Float := t.filter (fun v => v ≥ lo && v ≤ hi)
  let g (i : Nat) : Float := co[i]?.getD 0.0
  match curve with
  | 1 => within (-200.0) 850.0 (platinum (if g 0 == 0.0 then 100.0 else g 0) x)
  | 2 => within (-200.0) 850.0 (platinum (if g 0 == 0.0 then 1000.0 else g 0) x)
  | 3 => within (-189.3442) 660.323 (its90Of co x)
  | 4 => let l := x.log; within (-80.0) 300.0 (some (1.0 / (g 0 + g 1 * l + g 2 * l * l * l) - 273.15))
  | 5 => within (-270.0) 1372.0 (Config.tcTemp 5 (x + Config.tcVolts 5 cj))
  | 6 => within (-270.0) 1300.0 (Config.tcTemp 6 (x + Config.tcVolts 6 cj))
  | 7 => within (-50.0) 1768.1 (Config.tcTemp 7 (x + Config.tcVolts 7 cj))
  | _ => none

/-! ### Results (R425, R426) -/

/-- Range-time of an instant: frame, bin and header (01 R29). -/
def State.stampAt (s : State) (t : Nat) : Nat × Nat × Bytes :=
  match s.vpf.frames.find? (fun f => decide (f.2.1 ≤ t)) with
  | some (n, l, h) => (n, if s.fld F.MRS_GEOM.PITCH = 0 then 0 else min (2 ^ 18 - 1) ((t - l) / s.fld F.MRS_GEOM.PITCH), h)
  | none => (s.frame, 0, zeros 64)

/-- A frame opens: the VPF keeps its launch reference for stamps. -/
def State.vpfFrame (s : State) (n launch : Nat) (header : Bytes) : State :=
  let keep := match s.vpf.res with
    | some r =>
      let l := s.vpf.frames
      let inside := l.takeWhile (fun f => decide (r.start ≤ f.2.1))
      inside ++ (l.drop inside.length).take 1
    | none => []
  s.onVpf (fun v => { v with frames := (n, launch, header) :: keep })

/-- A result is delivered on its three paths (VPF_RESULT). -/
def State.vpfDeliver (s : State) (x : VpfRes) (flags : Nat) (value : Option Float) (raw aux : Word) (t : Nat) : State :=
  let c := x.chan
  let bad := flags &&& (Vf.settling + Vf.rangeStep + Vf.overrange + Vf.openLead + Vf.outOfCurve + Vf.cjStale)
  let fl := flags + (if bad = 0 then 1 else 0)
  let val : Word := match value with
    | some v => if bad = 0 then w32 (unsigned 32 (fRound (v * 65536.0))) else 0x80000000
    | none => 0x80000000
  let seq := tabGet (fun _ => 0) s.vpf.seqs c
  let st := s.stampAt ((x.start + t) / 2)
  let curve := if c = 8 then 0 else s.fld (F.VPF_CHc_CFG.CURVE c)
  let entry := leBytes 1 c ++ leBytes 1 curve ++ leBytes 1 x.range ++ leBytes 1 seq ++ leBytes 2 fl ++ [0, 0] ++ leBytes 4 val.toNat ++ leBytes 4 raw.toNat
    ++ leBytes 4 aux.toNat ++ leBytes 4 st.2.1 ++ leBytes 8 (st.1 % 2 ^ 48)
  let s1 := s.onVpf (fun v => { v with
    seqs := tabPut (fun _ => 0) v.seqs c ((seq + 1) % 256)
    valid := match value with
      | some z => if bad = 0 then (c, toF64 z, t) :: v.valid.filter (·.1 != c) else v.valid
      | none => if bad = 0 then (c, toF64 0.0, t) :: v.valid.filter (·.1 != c) else v.valid })
  let s2 := if c = 8 then s1 else
    (((s1.setReg (R.VPF_CHc_VALUE c) val).setReg (R.VPF_CHc_RAW c) raw).setReg (R.VPF_CHc_AUX c) aux).setReg (R.VPF_CHc_INFO c)
      (w32 (fl + 2 ^ 16 * x.range + 2 ^ 24 * seq))
  let tile := s2.fld F.VPF_RING.TILE
  let s3 := if s2.flag F.VPF_RING.RING_EN && s2.domOn (2 + tile) then
      let at_ := 0x1000000 * tile + s2.fld F.VPF_RING.OFFSET
      let n := s2.vpf.ringCount
      let a := (s2.setEmem (at_ + 8 + 32 * (n % 256)) entry).setEmem at_ (leBytes 8 (n + 1))
      { a with vpf := { a.vpf with ringCount := n + 1 } }
    else s2
  let s4 := if s3.flag F.VPF_CFG.STREAM_EN then s3.streamOut (s3.fld F.VPF_CFG.STREAM_CHANNEL) .block (entryBlock st.2.2 0x41 1 entry) else s3
  let s5 := ((List.range 9).drop 1).foldl (fun a i => if bitAt flags i && i != 7 then a.post .vpf (if i = 8 then 10 else i + 3) c else a) s4
  let s6 := s5.raise .vpf F.VPF_IRQ_STATUS.RESULT
  if bad = 0 then s6 else s6.raise .vpf F.VPF_IRQ_STATUS.INVALID

/-- Mean of a phase in volts, as a fraction of full scale is a 24-bit code. -/
def phaseVolts (x : VpfRes) (ps : List Phase) (p : Phase → Bool) : Float :=
  let one (i : Nat) : Float := f64 (unsigned 64 (x.vals[i]?.getD 0))
  match (List.range ps.length).find? (fun i => match ps[i]? with | some q => p q | none => false) with
  | some i => one i
  | none => 0.0

/-- A result ends with the phases it has: ratio, resistance or voltage, and temperature (R421-R423). `cut` says that it ended
early. -/
def State.vpfFinish (s : State) (x : VpfRes) (cut : Bool) (t : Nat) : State :=
  let c := x.chan
  let ps := s.vpfPhases c
  let v (p : Phase → Bool) : Float := phaseVolts x ps p
  let has (p : Phase → Bool) : Bool := ps.any p
  let sp := v (· == .s true); let sm := v (· == .s false)
  let rp := v (· == .r true); let rm := v (· == .r false)
  let lp := v (· == .l true); let lm := v (· == .l false)
  let tc := c ≠ 8 && s.fld (F.VPF_CHc_CFG.WIRING c) == 3
  let den := if has (· == .r false) then rp - rm else rp
  let r := (if has (· == .s false) then sp - sm else sp) / den
  let rl := (lp - lm) / den
  let rref := fNat x.rRef * 1e-6
  let ref := if c ≠ 8 && (tc || s.fld F.VPF_CFG.REF_SRC == 1) then Vf.intRef else 0
  let co := x.coefs.map f32
  let wiring := if c = 8 then 0 else s.fld (F.VPF_CHc_CFG.WIRING c)
  let curve := if c = 8 then 0 else s.fld (F.VPF_CHc_CFG.CURVE c)
  let res := if wiring = 1 then r * rref - rl * rref else if wiring = 2 then r * rref - fNat (s.fld (F.VPF_CHc_LEAD.MOHM c)) / 1000.0 else r * rref
  let volts := (sp - sm) / 2.0
  let cj := s.vpf.valid.find? (·.1 == s.fld (F.VPF_CHc_CFG.CJ c))
  let fresh := match cj with | some (_, _, at_) => decide (t ≤ at_ + s.fld F.VPF_CFG.CJ_AGE * second) | none => false
  let tcj := match cj with | some (_, z, _) => f64 z | none => 0.0
  let stale := tc && curve ≠ 0 && !fresh
  let raw : Word := if cut then 0 else if tc then w32 (unsigned 32 (fRound (volts * 1e9))) else w32 (fRound (r * 268435456.0)).toNat
  let aux : Word := if cut then 0 else if tc then (if curve = 0 then 0 else w32 (unsigned 32 (fRound (tcj * 65536.0))))
    else if wiring = 1 then w32 (fRound (rl * rref * 1000.0)).toNat else 0
  let temp := if curve = 0 ∨ cut then none else curveTemp curve co (if tc then volts else res) tcj
  let out := if curve ≠ 0 && !cut && temp.isNone then Vf.outOfCurve else 0
  let flags := (x.flags ||| s.mainsFlag) + ref + out + (if stale then Vf.cjStale else 0)
  let s1 := s.vpfDeliver x flags temp raw aux t
  let ok := flags &&& (Vf.settling + Vf.rangeStep + Vf.overrange + Vf.openLead + Vf.outOfCurve + Vf.cjStale) == 0
  let s2 := if c = 8 then
      if ok then { s1 with alm := { s1.alm with rDev := some (fRound ((r * rref / (fNat s1.otp.rInt * 1e-6) - 1.0) * 1e9)) } } else s1
    else if s1.flag (F.VPF_CHc_CFG.AUTO c) then
      let next := if ok && x.low && decide (x.range < 3) then x.range + 1 else if bitAt x.flags 2 then x.range - 1 else x.range
      s1.onVpf (fun v => { v with ranges := tabPut (fun k => s1.fld (F.VPF_CHc_CFG.RANGE k)) v.ranges c next })
    else s1
  s2.vpfFollow c t

/-! ### Conversions (R416-R420) -/

/-- A window overlaps an interval in which a level was active: it was active at its beginning, or became so inside. Before the first
edge the level is low (log entry 169). -/
def wasActive (active : Bool) (edges : List (Nat × Bool)) (delay a b : Nat) : Bool :=
  edges.any (fun e => decide (a < e.1 + delay) && decide (e.1 + delay < b) && e.2 == active)
    || (match edges.find? (fun e => decide (e.1 + delay ≤ a)) with | some e => e.2 == active | none => !active)

/-- A conversion's filter window overlaps a blank interval (R420). -/
def State.vpfBlank (s : State) (a b : Nat) : Bool :=
  wasActive true s.vpf.slots 0 a b
    || (s.flag F.VPF_CFG.BLANK_IN_EN && wasActive (!s.flag F.VPF_CFG.BLANK_IN_POL) s.vpf.pins 0 a b)

/-- A discarded conversion. -/
def State.vpfDiscard (s : State) : State := s.count F.VPF_DISCARD.COUNT 1

/-- A conversion of the result in progress. `code` is the converter's signed 24-bit output, `open_` whether the force pair
stood above 2.8 V. -/
def State.vpfConvert (s : State) (x : VpfRes) (code : Int) (open_ : Bool) (t : Nat) : State :=
  let put (a : State) (y : VpfRes) : State := a.onVpf (fun v => { v with res := some y })
  let ps := s.vpfPhases x.chan
  let x0 := if open_ && x.exc != 0 then { x with flags := x.flags ||| Vf.openLead } else x
  if t ≤ x.switchAt + (3 + s.fld F.VPF_CFG.EXTRA) * (500 * x.conv) then put s.vpfDiscard x0
  else if s.vpfBlank (t - 3 * (500 * x.conv)) t then put s.vpfDiscard { x0 with flags := x0.flags ||| Vf.blanked }
  else
    let mag := code.natAbs
    let excess := decide (100 * mag > 95 * 2 ^ 23)
    let isS := match ps[x.phase]? with | some (.s _) => true | _ => false
    let auto := x.chan ≠ 8 && s.flag (F.VPF_CHc_CFG.AUTO x.chan)
    if excess && auto && isS && decide (0 < x.range) then s.vpfDiscard.vpfFinish { x0 with flags := x0.flags ||| Vf.rangeStep } true t
    else
      let x1 : VpfRes := { x0 with
        flags := if excess && (!auto || x.range == 0) then x0.flags ||| Vf.overrange else x0.flags
        low := x0.low && decide (fNat mag * vpfScale x.range < 0.8 * vpfScale (x.range + 1) * 8388608.0)
        n := x0.n + 1, sum := x0.sum + code }
      if x1.n < 2 ^ s.fld F.VPF_CFG.NAVG_EXP then put s x1
      else
        let volts := fInt x1.sum / fNat x1.n / 8388608.0 * vpfScale x1.range
        let x2 : VpfRes := { x1 with vals := x1.vals ++ [(toF64 volts : Int)], phase := x1.phase + 1, n := 0, sum := 0, switchAt := t, conv := s.tConv
                                     exc := s.vpfExc x1.chan }
        if x2.phase < ps.length then put s x2 else s.vpfFinish x2 false t

/-- VPF_CONVERSION. -/
def execVpfConversion (code : Int) (open_ : Bool) (t : Nat) (s : State) : Host.Outcome State Fault Refusal :=
  let s0 := s.at_ t
  .next (if s0.vpfState ≠ Vpf.scanning ∨ !s0.unitOn .vpf then s0
    else match s0.vpf.res with
    | none => s0
    | some x =>
      let s1 := s0.onVpf (fun v => { v with lastConv := t, scanned := v.scanned + (t - v.lastConv) })
      s1.vpfConvert x (satInt 24 code) open_ t)

/-- A write to VPF_CHc_EXC: 0 or 10 to 1,000, others refused BAD_CONFIG; inside a phase of its channel it is a switch
(R418). -/
def State.vpfExcWrite (s : State) (c : Nat) (w : Word) (t : Nat) : State :=
  let e := w.toNat % 2048
  if e ≠ 0 ∧ (e < 10 ∨ e > 1000) then s.post .vpf VpfCode.badConfig c
  else
    let s1 := s.setFld (F.VPF_CHc_EXC.MICROAMP c) e
    match s1.vpf.res with
    | some x => if x.chan = c ∧ s1.vpfState = Vpf.scanning then
        s1.onVpf (fun v => { v with res := some { x with switchAt := t, n := 0, sum := 0, exc := e, flags := x.flags ||| Vf.settling } })
      else s1
    | none => s1
def execVpfExcWrite (src : Src) (c : Fin 8) (w : Word) (t : Nat) (s : State) : Host.Outcome State Fault Refusal :=
  .next ((s.at_ t).onUnit (.reg src) .vpf (R.VPF_CHc_EXC c) (fun s => s.vpfExcWrite c w t))

/-! ### States (Table 15-5) -/

/-- Checks as IDLE: SCANNING where a channel is enabled, IDLE without one, FAULT where one fails. -/
def State.vpfRecheck (s : State) (t : Nat) : State :=
  match s.vpfChecks with
  | some d => s.vpfFault VpfCode.badConfig d
  | none => s.vpfScan t

/-- PAUSE, RESUME, CAL_REQ, FAULT_CLR and COUNT_CLR. -/
def State.vpfPause (s : State) : State := if s.vpfState = Vpf.scanning then s.onVpf (fun v => { v with pausing := true }) else s
def State.vpfResume (s : State) : State := if s.vpfState = Vpf.paused then s.vpfScan s.now else s
def State.vpfCalReq (s : State) : State :=
  let st := s.vpfState
  if st = Vpf.off then s
  else if st = Vpf.calibrating ∨ st = Vpf.scanning then s.post .vpf VpfCode.busy 0
  else s.vpfEnter Vpf.calibrating
def State.vpfFaultClr (s : State) : State :=
  if s.vpfState = Vpf.calibrating then s.post .vpf VpfCode.busy 0
  else if s.vpfState = Vpf.fault then (s.vpfEnter Vpf.calibrating).show .vpf 0 0 else s

def execPause (src : Src) (s : State) : Host.Outcome State Fault Refusal := .next (s.onUnit (.reg src) .vpf R.VPF_CTRL State.vpfPause)
def execVpfResume (src : Src) (s : State) : Host.Outcome State Fault Refusal := .next (s.onUnit (.reg src) .vpf R.VPF_CTRL State.vpfResume)
def execVpfCalReq (src : Src) (s : State) : Host.Outcome State Fault Refusal := .next (s.onUnit (.reg src) .vpf R.VPF_CTRL State.vpfCalReq)
def execVpfFaultClr (src : Src) (s : State) : Host.Outcome State Fault Refusal := .next (s.onUnit (.reg src) .vpf R.VPF_CTRL State.vpfFaultClr)
def execVpfCountClr (src : Src) (s : State) : Host.Outcome State Fault Refusal :=
  .next (s.onUnit (.reg src) .vpf R.VPF_CTRL (fun s => s.setReg R.VPF_DISCARD 0))

/-- A calibration passes: every range's offset within 0.1 % of full scale and its gain within 1 %, both in ppm (Table 15-5). -/
def vpfCalPass (offsets gains : List Int) : Bool :=
  offsets.all (fun z => decide (z.natAbs ≤ 1000)) && gains.all (fun z => decide ((z - 1000000).natAbs ≤ 10000))

/-- VPF_CALIBRATION_DONE, with what it has measured of each range. The state it enters passes the checks of R427 first. -/
def execVpfCalibrationDone (offsets gains : List Int) (t : Nat) (s : State) : Host.Outcome State Fault Refusal :=
  let s0 := s.at_ t
  .next (if s0.vpfState ≠ Vpf.calibrating ∨ !s0.unitOn .vpf then s0
    else if vpfCalPass offsets gains then (s0.raise .vpf F.VPF_IRQ_STATUS.CAL_DONE).vpfRecheck t
    else s0.vpfFault VpfCode.calFail 0)

/-- A NOTIFY slot: a blank interval begins (0) or ends (1); other events are ignored and logged (R420). -/
def State.vpfNotify (s : State) (arg t : Nat) : State :=
  if arg ≤ 1 then s.onVpf (fun v => { v with slots := ((t, arg == 0) :: v.slots).take 1024 }) else s.post .vpf VpfCode.badConfig 0

/-- The ring is empty again, its count word 0 (R426). -/
def State.vpfRingEmpty (s : State) : State :=
  let s1 := s.onVpf (fun v => { v with ringCount := 0 })
  let tile := s1.fld F.VPF_RING.TILE
  if s1.flag F.VPF_RING.RING_EN && s1.domOn (2 + tile) then
    s1.setEmem (0x1000000 * tile + s1.fld F.VPF_RING.OFFSET) (zeros 8)
  else s1

/-- CORE or the ring's tile is back in RUN. -/
def State.vpfRingWake (s : State) (d : Nat) : State := if d = 1 ∨ d = 2 + s.fld F.VPF_RING.TILE then s.vpfRingEmpty else s

/-- A result in progress is abandoned. -/
def State.vpfAbandon (s : State) : State :=
  if s.vpf.res.isSome then (s.onVpf (fun v => { v with res := none, pausing := false })).vpfDiscard else s

/-- A switch that changes VERNIER_SETUP (Table 15-5). FAULT stays, and a check that fails shows its code
(log entry 169). -/
def State.vpfSwitch (s : State) (t : Nat) : State :=
  let s0 := (s.vpfRingEmpty).onVpf (fun v => { v with ranges := [] })
  let st := s0.vpfState
  if st = Vpf.calibrating then s0.vpfVote
  else if st = Vpf.fault then (match s0.vpfChecks with | some d => s0.post .vpf VpfCode.badConfig d | none => s0)
  else if st = Vpf.idle ∨ st = Vpf.scanning then s0.vpfAbandon.vpfRecheck t
  else if st = Vpf.paused then
    match s0.vpfChecks with
    | some d => s0.vpfFault VpfCode.badConfig d
    | none => s0.vpfEnter Vpf.paused
  else s0

/-- VERNIER reaches RUN, and leaves it: KEEP or OFF loses calibration, the mains period and the result (R428). -/
def State.vpfWake (s : State) : State := if s.vpfState = Vpf.off then s.vpfEnter Vpf.calibrating else s
def State.vpfSleep (s : State) : State :=
  (s.onVpf (fun v => { v with res := none, pausing := false })).setFld F.VPF_STATUS.STATE Vpf.off
def State.vpfPowerDown (s : State) : State :=
  ((s.onVpf (fun v => { v with res := none, pausing := false, mainsLast := none, mains := [], ranges := [], valid := [] })).setFld F.VPF_STATUS.MAINS_LOCK 0).setFld
    F.VPF_STATUS.STATE Vpf.off

end Sys2Proof.Machine
end

