-- ==== Sys2Proof/Machine/Slots.lean ====
section
/-! DEFINITION. The actions of slots (08 R251, R252, Table 8-1). -/

namespace Sys2Proof.Machine

/-- A GPIO output is driven by a slot; a pin that CAL_SEL uses keeps its function suspended (03 R109). -/
def State.driveGpio (s : State) (n : Nat) (high : Bool) : State :=
  if n > 15 ∨ (s.flag F.PGU_CAL_CFG.GPIO_EN ∧ s.fld F.PGU_CAL_CFG.GPIO = n) then s
  else { s with gpio := if high then s.gpio ||| (1 <<< n) else s.gpio &&& ~~~((1 : BitVec 16) <<< n) }

/-- An event reaches a fixed block; the TTU and the VPF give it a meaning (14 R403, 15 R420), and only while they are on. -/
def State.notifyUnit (s : State) (r : SlotRun) : State :=
  if r.target = fixedPath .ttu then (if s.unitOn .ttu then s.ttuNotify r.arg r.instant else s)
  else if r.target = fixedPath .vpf then (if s.unitOn .vpf then s.vpfNotify r.arg r.instant else s)
  else s

/-- NOTIFY. -/
def execNotify (ref : SlotRef) (s : State) : Host.Outcome State Fault Refusal :=
  .next (s.runSlot ref 1 (fun r s => s.notifyUnit r))

/-- GPIO_SET. -/
def execGpioSet (ref : SlotRef) (s : State) : Host.Outcome State Fault Refusal :=
  .next (s.runSlot ref 2 (fun r s => s.driveGpio r.arg true))

/-- GPIO_CLEAR. -/
def execGpioClear (ref : SlotRef) (s : State) : Host.Outcome State Fault Refusal :=
  .next (s.runSlot ref 3 (fun r s => s.driveGpio r.arg false))

/-- DECISION (09 R279). -/
def execDecision (ref : SlotRef) (s : State) : Host.Outcome State Fault Refusal :=
  .next (s.runSlot ref 4 (fun r s => s.decide_ r))

/-- CAPTURE_OPEN: the record named triggers (09 R289). -/
def execCaptureOpen (ref : SlotRef) (s : State) : Host.Outcome State Fault Refusal :=
  .next (s.runSlot ref 5 (fun r s =>
    if s.fld F.STU_STATUS.STATE ≠ Blk.running then s
    else match s.recDef r.arg with
      | some d => s.ownTrigger d.zone r.arg
      | none => s))

/-- TIMER (09 R283). -/
def execTimer (ref : SlotRef) (s : State) : Host.Outcome State Fault Refusal :=
  .next (s.runSlot ref 6 (fun r s => s.tickTimers r))

/-- SLOT_DOORBELL: IPEND.DOORBELL of the group whose lowest member TARGET names. -/
def execSlotDoorbell (ref : SlotRef) (s : State) : Host.Outcome State Fault Refusal :=
  .next (s.runSlot ref 7 (fun r s => match s.groups.find? (fun g => enginePath g.lowest == r.target) with
    | some g => s.pendGroup g 2
    | none => s))

end Sys2Proof.Machine
end

