-- ==== Sys2Proof/Machine/Start.lean ====
section
/-! DEFINITION. Acquisition start and stop (08 R265, Table 8-4): the checks of a start, what follows when a unit becomes
ready, and the commands by which one does. -/

namespace Sys2Proof.Machine

/-! ### Start -/

/-- A unit the image uses that is in FAULT: its stored code and TOP, the lowest first (Table 8-4). -/
def State.unitFault (s : State) : Option (Nat × Nat) :=
  let grp := (imgGroups s.sil.active).findSome? (fun g =>
    if s.groupState g = Eng.fault then some ((g.engines.map (fun e => s.fld (F.GEA_ENGk_STATE.CODE e))).foldl max 0, 0) else none)
  let one (used : Bool) (u : Unit) (st : Fld) (code : Fld) : Option (Nat × Nat) :=
    if used && s.fld st == 3 then some (s.fld code, u.top) else none
  [grp,
   one s.usesFast .pgu F.PGU_STATUS.STATE F.PGU_STATUS.CODE, one s.usesFast .fafe F.FAFE_STATUS.STATE F.FAFE_STATUS.CODE,
   one s.usesFast .pcx F.PCX_STATUS.STATE F.PCX_STATUS.CODE, one s.usesMed .mafe F.MAFE_STATUS.STATE F.MAFE_STATUS.CODE,
   one true .znt F.ZNT_STATUS.STATE F.ZNT_STATUS.CODE, one true .stu F.STU_STATUS.STATE F.STU_STATUS.CODE,
   one true .tce F.TCE_STATUS.STATE F.TCE_STATUS.CODE].findSome? id

/-- A unit's start check fails: the unit reports BAD_CONFIG, and the start is refused with its TOP (Table 8-4). -/
def State.refuseStart (s : State) (u : Unit) (detail : Nat) : State := (s.post u 1 detail).acqFault 1 u.top

/-- The first unit whose start checks fail, in TOP order, with its DETAIL (08 R250, R252, R267; 03 R119; 04 R147; 05 R181;
09 R297; 10 R316). -/
def State.startFailure (s : State) : Option (Unit × Nat) :=
  let img := s.sil.active
  let zs := s.znt.zones
  let on (used : Bool) (u : Unit) (d : Option Nat) : Option (Unit × Nat) := if used then d.map (fun x => (u, x)) else none
  [on true .mrs (mrsCheck s.fld img), on s.usesFast .pgu (pguCheck s.fld), on s.usesFast .fafe (fafeCheck s.fld),
   on s.usesFast .pcx (pcxCheck s.fld), on true .znt (zntCheck s.fld zs (imgRecords img).length), on true .stu (stuCheck s.fld img zs),
   on true .tce (tceCheck s.fld img)].findSome? id

/-- Every unit is ready: the checks are made; once they pass the start can take effect 2 us later. -/
def State.startChecks (s : State) : State :=
  match s.startFailure with
  | none => { s with mrs := { s.mrs with readyAt := some s.now } }
  | some (.mrs, d) => (s.logAt (fixedPath .mrs) MrsCode.badConfig).acqFault MrsCode.badConfig d
  | some (.pgu, d) => (s.pguFault PguCode.badConfig d).acqFault PguCode.badConfig Unit.pgu.top
  | some (u, d) => s.refuseStart u d

/-- STARTING goes on: a unit in FAULT refuses, a unit that is not ready keeps the MRS waiting, and once all are the checks are
made (R265). -/
def State.tryStart (s : State) : State :=
  if s.acq ≠ Mrs.starting then s
  else match s.unitFault with
    | some (c, top) => s.acqFault c top
    | none =>
      if !s.unitsReady then { s with mrs := { s.mrs with readyAt := none } }
      else if s.mrs.readyAt.isSome then s
      else s.startChecks

/-- The same after an event by which a unit may have become ready. -/
def State.thenStart (s old : State) : State :=
  if s.acq ≠ Mrs.starting then s
  else if old.unitsReady then s.tryStart
  else ({ s with mrs := { s.mrs with readyAt := none } }).tryStart

/-- START (Table 8-4): refused NO_IMAGE or BUSY, no effect in RUNNING, else MERIDIAN votes RUN and the start waits. -/
def State.acqStart (s : State) (via : Via) : State :=
  let st := s.acq
  if st = Mrs.noImage then s.finish via .mrs MrsCode.noImage 0
  else if st = Mrs.starting ∨ st = Mrs.stopping then s.finish via .mrs MrsCode.busy 0
  else if st = Mrs.running then s.finish via .mrs 0 0
  else
    let s1 := (s.setFld F.MRS_STATUS.STATE Mrs.starting).finish via .mrs 0 0
    (({ s1 with mrs := { s1.mrs with readyAt := none, stopAt := none } }).meridian 0).tryStart

/-- STOP (Table 8-4): STARTING falls back, RUNNING stops at the next boundary 2 us later. -/
def State.acqStop (s : State) (via : Via) : State :=
  let st := s.acq
  let s0 := s.finish via .mrs 0 0
  if st = Mrs.starting then
    let s1 := s0.stoppedNow
    ({ s1 with mrs := { s1.mrs with readyAt := none } }).meridian 1
  else if st = Mrs.running ∧ s.mrs.stopAt.isNone then { s0 with mrs := { s0.mrs with stopAt := some s.now } }
  else s0

/-- ACQ_START. -/
def execAcqStart (via : Via) (t : Nat) (s : State) : Host.Outcome State Fault Refusal :=
  .next ((s.at_ t).withRequest via [0x0301] (fun s => s.onUnit via .mrs R.MRS_CTRL (fun s => s.acqStart via)))

/-- ACQ_STOP. -/
def execAcqStop (via : Via) (t : Nat) (s : State) : Host.Outcome State Fault Refusal :=
  .next ((s.at_ t).withRequest via [0x0302] (fun s => s.onUnit via .mrs R.MRS_CTRL (fun s => s.acqStop via)))

/-- The units that run with acquisition come to rest once the last real frame is delivered (05 Table 5-4, 09 R297, 10 R316). -/
def State.unitsRest (s : State) : State :=
  let ready (a : State) (st : Fld) : State := if a.fld st = Blk.running then a.setFld st Blk.ready else a
  (ready (ready s.pcxStopped F.ZNT_STATUS.STATE) F.STU_STATUS.STATE).tceStop

/-- STOPPING ends. -/
def State.acqStopped (s : State) : State :=
  s.stoppedNow.unitsRest.meridian 1

/-- ACQUISITION_STOPPED: the last real frame is fully delivered or lost (Table 8-4). -/
def execAcquisitionStopped (t : Nat) (s : State) : Host.Outcome State Fault Refusal :=
  let s0 := s.at_ t
  .next (if s0.acq = Mrs.stopping ∧ s0.lastDelivered then s0.acqStopped else s0)

/-- RESUME: LOADED groups run from ENTRY, HALTED ones at their PC; LOAD starts anew (07 R243, 08 R261), and a start that waits for them may
follow (R265). -/
def State.resumeGroups (s : State) : State :=
  (s.selected.foldl (fun a x =>
    let st := a.groupState x.2
    let b := if st = Eng.loaded then a.startGroup x.1 x.2
      else x.2.streams.foldl (fun b k => if b.engState k = Eng.halted then b.setEng (b.lanesOf k) Eng.running else b) a
    if st = Eng.loaded ∨ st = Eng.halted then b.clearLoad x.1 else b) s).thenStart s

/-- RESUME. -/
def execResume (src : Src) (s : State) : Host.Outcome State Fault Refusal :=
  .next (s.onUnit (.reg src) .gea R.GEA_CTRL State.resumeGroups)

/-! ### Units become ready -/

/-- PDAC_PLL_LOCK: FAST_AFE is in RUN and the PLL locks (03 Table 3-3, 04 Table 4-5). -/
def execPdacPllLock (t : Nat) (s : State) : Host.Outcome State Fault Refusal :=
  let s0 := s.at_ t
  .next (if !s0.domOn 6 ∨ s0.flag F.PGU_STATUS.PLL_LOCK then s0 else (s0.pguLock.fafeWake).thenStart s0)

/-- PLL_UNLOCK. -/
def execPllUnlock (t : Nat) (s : State) : Host.Outcome State Fault Refusal :=
  let s0 := s.at_ t
  .next (if !s0.flag F.PGU_STATUS.PLL_LOCK then s0 else (s0.pguUnlock.fafeUnlock).thenStart s0)

/-- ADC_CALIBRATION_DONE: a calibration in progress ends with what it measured (04 R141). -/
def execAdcCalibrationDone (mafe : Bool) (offsets skews : List Int) (t : Nat) (s : State) : Host.Outcome State Fault Refusal :=
  let s0 := s.at_ t
  .next (if s0.domOn (if mafe then 7 else 6) && (if mafe then s0.mafeState else s0.fafeState) == Afe.calibrating then
      (s0.adcCalDone mafe offsets skews).thenStart s0
    else s0)

/-- PCX_FAULT_CLR. -/
def execPcxFaultClr (src : Src) (s : State) : Host.Outcome State Fault Refusal :=
  .next (s.onUnit (.reg src) .pcx R.PCX_CTRL (fun s => s.pcxFaultClr.thenStart s))

/-- ZNT_FAULT_CLR. -/
def execZntFaultClr (src : Src) (s : State) : Host.Outcome State Fault Refusal :=
  .next (s.onUnit (.reg src) .znt R.ZNT_CTRL (fun s => (s.blkFaultClr .znt F.ZNT_STATUS.STATE).thenStart s))

/-- STU_FAULT_CLR. -/
def execStuFaultClr (src : Src) (s : State) : Host.Outcome State Fault Refusal :=
  .next (s.onUnit (.reg src) .stu R.STU_CTRL (fun s => (s.blkFaultClr .stu F.STU_STATUS.STATE).thenStart s))

/-- TCE_FAULT_CLR. -/
def execTceFaultClr (src : Src) (s : State) : Host.Outcome State Fault Refusal :=
  .next (s.onUnit (.reg src) .tce R.TCE_CTRL (fun s => (s.blkFaultClr .tce F.TCE_STATUS.STATE).thenStart s))

/-- A group is loaded from the ACTIVE bank's bytes (02 R72, 07 R242, R243): LOADED, or RUNNING at once while acquisition runs and no heavy switch holds frames
virtual. -/
def State.groupLoaded (s : State) (img : Bytes) (i : Nat) (g : Group) : State :=
  let s1 := ((s.writeGroup img i g).initGroup i g).setEng g.engines Eng.loaded
  let s2 : State := { s1 with sil := { s1.sil with toLoad := s1.sil.toLoad.filter (· ≠ i) } }
  if s2.acq = Mrs.running ∧ s2.pendState ≠ Pend.switching ∧ !s2.sil.reload then (s2.startGroup i g).clearLoad i else s2

/-- The SIL reads the ACTIVE bank through the MRS port for a group's load; bytes that DRAM cannot give load nothing (02 R72, 11 R340). -/
def State.loadGroup (s : State) (i : Nat) (g : Group) : State :=
  s.withDram (s.bankBase s.sil.bank) s.sil.active.length (fun s =>
    let r := s.bankRead s.sil.bank s.sil.active.length
    match r.2 with
    | none => r.1
    | some img => (r.1.groupLoaded img i g).thenStart s)

/-- ENGINE_LOAD_COMPLETE: a group that is LOADING is written from the ACTIVE bank, the new image's once its switch has drained
(07 R242, R246, 02 R72, R86). While the DMC does not serve the load stalls (R92). -/
def execEngineLoadComplete (g : Fin 64) (t : Nat) (s : State) : Host.Outcome State Fault Refusal :=
  let s0 := s.at_ t
  .next (match s0.groups[g.val]? with
    | some x =>
      if s0.groupState x = Eng.loading ∧ s0.groupOn x ∧ s0.flag F.SIL_STATE.ACTIVE_COPY
          ∧ !s0.sil.rewriting ∧ (s0.pendState ≠ Pend.switching ∨ s0.sil.drained) then s0.loadGroup g.val x
      else s0
    | none => s0)

/-- RUN_RECORD_STORED: `fails` of the two run sectors failed (20 R499). -/
def execRunRecordStored (fails : Fin 3) (t : Nat) (s : State) : Host.Outcome State Fault Refusal :=
  let s0 := s.at_ t
  .next ((s0.runStart fails.val).thenStart s0)

/-- EPOCH_LOAD_COMPLETE (20 R507, Table 20-6). -/
def execEpochLoadComplete (t : Nat) (s : State) : Host.Outcome State Fault Refusal :=
  let s0 := s.at_ t
  .next (if s0.almState = Alm.loading ∧ s0.ancState = Anc.ready then s0.almLoaded.thenStart s0 else s0)

/-! ### The archive -/

/-- The committed ZONE_CHANGE records that carry the serial of the ACTIVE image are replayed once the archive is READY
(09 R275). -/
def State.zoneReplay (s : State) : State :=
  if s.znt.replayed || s.ancState ≠ Anc.ready || !s.imageActive then s
  else
    let recs := sortBy (·.seq) (s.anc.recs.filter (·.type == 3))
    let s1 := recs.foldl (fun a r =>
      let x := a.readRecord r []
      let b := a.noteRead r x
      if x.status ≠ AncCode.corrupt ∧ field x.bytes 0x2C 4 = imgSerial a.sil.active then b.applyChange (changeOfBytes (payloadItem x.bytes)) else b) s
    ({ s1 with znt := { s1.znt with replayed := true } } : State).meridianNow

/-- ANC_MOUNT: the mount ends; `id` is what the targets answer (12 R346, R364-R366, 09 R275, 20 Table 20-6). -/
def execAncMount (id : List (Nat × NandAnswer)) (t : Nat) (s : State) : Host.Outcome State Fault Refusal :=
  let s0 := s.at_ t
  .next (if !s0.unitOn .anc || s0.ancState ≠ Anc.mounting then s0
    else
      let s1 := match mediumFault id with
        | some target => s0.ancFault AncCode.unsupported target
        | none => (s0.setGeometry id).mountTables
      (s1.zoneReplay.almMounted).thenStart s0)

/-- COMMIT_IN_FORCE: both copies of the journal have passed (12 R359). -/
def execCommitInForce (t : Nat) (s : State) : Host.Outcome State Fault Refusal :=
  let s0 := s.at_ t
  .next (if s0.anc.job.isSome && s0.anc.passed then s0.commitInForce.ancStep else s0)

/-- REFERENCE_COMPARISON: at a scan boundary after an hour of SCANNING the VPF compares R_INT with R_S (15 R424). -/
def execReferenceComparison (t : Nat) (s : State) : Host.Outcome State Fault Refusal :=
  let s0 := s.at_ t
  .next (if s0.unitOn .vpf && s0.vpfState == Vpf.scanning && s0.vpf.res.isNone && s0.fld F.VPF_CFG.REF_SRC == 0
      && decide (3600 * second ≤ s0.vpf.scanned) then
      (s0.onVpf (fun v => { v with scanned := 0 })).vpfBegin 8 s0.now
    else s0)

end Sys2Proof.Machine
end

