-- ==== Sys2Proof/Machine/PowerStep.lean ====
section
/-! DEFINITION. Power steps: what a domain's blocks do as it reaches RUN, leaves it, or loses its state (17 R446-R453, and the
power rules of each block's chapter). -/

namespace Sys2Proof.Machine

/-! ### What is lost -/

/-- The domain whose blocks own a register; 0 for the registers of AO (17 Table 17-1, 14 R409, 11 R345, 20 R515). -/
def regDomain (off : Nat) : Nat :=
  if off < 0x200000 then 0
  else if off < 0x400000 then 1
  else if off < 0x700000 then 6
  else if off < 0x800000 then 7
  else if off < 0xC00000 then 1
  else if off < 0xD00000 then 10
  else if off < 0xD80000 then (if inRange R.DMC_FRZ_CAUSE R.DMC_FRZ_SYND off || inRange (R.DMC_HISTi_LO 0) (R.DMC_HISTi_HI 31) off then 0 else 9)
  else if off < 0xE00000 then 1
  else if off < 0xE80000 then (if off ≤ 0xE00040 then 0 else 1)
  else if off < 0xEC0000 then 8
  else if off < 0xF00000 then 1
  else if off < 0xF40000 then 11
  else if off < 0xF80000 then 12
  else if inRange (R.ALM_DIE_IDi 0) R.ALM_POWERED off || decide (0xFC0000 ≤ off) then 0 else 1

/-- Bits of a register that stand again when its domain returns from KEEP or OFF: the RWL fields of an ACTIVE image (02 R90),
the configuration of the TTU channels (14 R410), the codes that Tables 3-3, 4-5 and 5-4 keep, and what identifies the image and the
state of the loader and the scheduler. -/
def State.keptBits (s : State) (off : Nat) : Word :=
  if [R.SIL_STATE, R.SIL_RESULT, R.SIL_ACTIVE_SERIAL, R.SIL_PENDING_SERIAL, R.SIL_KEY_CFG, R.SIL_LAST_SWITCH_LO, R.SIL_LAST_SWITCH_HI].contains off then
    BitVec.allOnes 32
  else
    let rwl := match famOf off with
      | some f => (if s.imageActive then f.maskOf .rwl else 0) ||| (if inRange 0xE00041 0xE7FFFF off then f.maskOf .rw else 0)
      | none => 0
    let codes := [Unit.pgu, .fafe, .pcx, .mafe, .znt, .stu, .tce].foldl (fun m u => match u.codeFlds with
      | some (c, d) => if c.reg = off then m ||| w32 (2 ^ (c.hi + 1) - 2 ^ c.lo) ||| w32 (2 ^ (d.hi + 1) - 2 ^ d.lo) else m
      | none => m) 0
    rwl ||| codes ||| (if off = R.MRS_STATUS then 0xF else 0)

/-- The registers of a domain lose what is not kept. -/
def State.loseRegs (s : State) (d : Nat) : State :=
  { s with regs := s.regs.filterMap (fun e =>
      if regDomain e.1 ≠ d then some e
      else
        let m := s.keptBits e.1
        let v := (e.2 &&& m) ||| (resetWord e.1 &&& ~~~m)
        if v = resetWord e.1 then none else some (e.1, v)) }

/-- What the DMC's registers keep in KEEP: the configuration and timing registers, and its state (17 R447, 11 R337). -/
def dmcKept (off : Nat) : Word :=
  if inRange R.DMC_GEOM R.DMC_PASR off ∨ off = R.DMC_IRQ_ENABLE then BitVec.allOnes 32 else if off = R.DMC_STATUS then 0xF else 0
def State.loseDmcRegs (s : State) : State :=
  { s with regs := s.regs.filterMap (fun e =>
      if regDomain e.1 ≠ 9 then some e
      else
        let v := (e.2 &&& dmcKept e.1) ||| (resetWord e.1 &&& ~~~dmcKept e.1)
        if v = resetWord e.1 then none else some (e.1, v)) }

/-- Domain of the unit of a path word. -/
def pathDomain (p : Nat) : Nat :=
  if p / 2 ^ 29 = 4 then 2 + p / 2 ^ 20 % 4 else (topUnit (p / 2 ^ 24 % 32)).domain

/-- The error logs of a domain's units are lost. -/
def State.loseLogs (s : State) (d : Nat) : State := { s with logs := tabDrop (fun p => pathDomain p == d) s.logs }

/-! ### Leaving RUN -/

/-- A unit with the states of 05 Table 5-4 leaves RUN: READY and FAULT become OFF, the code kept. -/
def State.unitOff (s : State) (st : Fld) : State := if s.fld st = Blk.ready ∨ s.fld st = Blk.fault then s.setFld st Blk.off else s

/-- Groups with an engine of a tile leave RUN (07 Table 7-9). -/
def State.geaDoze (s : State) (t : Nat) : State :=
  (s.groupsOn t).foldl (fun a x =>
    let st := a.groupState x.2
    if st = Eng.running ∨ st = Eng.waiting then a else a.setEng x.2.engines Eng.off) s

/-- A domain reaches DOZE from RUN. -/
def State.dozeDomain (s : State) (d : Nat) : State :=
  match d with
  | 1 => ((s.ttuCoreStop.unitOff F.ZNT_STATUS.STATE).unitOff F.STU_STATUS.STATE).unitOff F.TCE_STATUS.STATE
  | 2 => (s.geaDoze 0).thermTile 0
  | 3 => (s.geaDoze 1).thermTile 1
  | 4 => (s.geaDoze 2).thermTile 2
  | 5 => (s.geaDoze 3).thermTile 3
  | 6 => s.pguPowerDown.unitOff F.PCX_STATUS.STATE
  | 7 => s.thermLost
  | 8 => s.vpfSleep
  | 12 => s.cspSleep
  | _ => s

/-- A domain enters KEEP or OFF. -/
def State.loseDomain (s : State) (d : Nat) (keep : Bool) : State :=
  let s1 : State := match d with
    | 1 =>
      let a := ((s.silKeep.ttuCoreLost.tceLose.dlkLose).cvuPowerDown).almLose
      { a with znt := { a.znt with stats := [], filters := [], replayed := false }, stu := { a.stu with insts := [], deads := [], recs := [] } }
    | 2 => (s.geaLose 0 keep).thermTile 0
    | 3 => (s.geaLose 1 keep).thermTile 1
    | 4 => (s.geaLose 2 keep).thermTile 2
    | 5 => (s.geaLose 3 keep).thermTile 3
    | 6 =>
      let a := s.pguPowerDown.pcxWithdraw
      { a with
        afe := { AfeSt.reset with
          blankEdges := a.afe.blankEdges, upTo := a.afe.upTo, med := a.afe.med, madcDesc := a.afe.madcDesc, asleep := a.afe.asleep, since := a.afe.since }
        pcx := PcxSt.reset }
    | 7 => s.thermLost
    | 8 => s.vpfPowerDown
    | 9 => if keep then { s with dmc := { s.dmc with scrub := none, winners := [] } }
      else { s with dmc := { DmcSt.reset with waiting := s.dmc.waiting, hist := s.dmc.hist } }
    | 10 => s.ancPowerDown
    | 12 => s.cspSleep
    | _ => s
  ((if d = 9 ∧ keep then s1.loseDmcRegs else s1.loseRegs d)).loseLogs d

/-! ### Returning -/

/-- The coefficients in force are reloaded from the record in force (05 R164). -/
def State.pcxReload (s : State) : State :=
  (List.range 16).foldl (fun a k =>
    match recEntry a.alm.store 3 k with
    | some c => a.activateTone k (field c 0 1) ((List.range 64).map (fun q => w32 (field c (12 + 4 * q) 4)))
    | none => a.idealTone k) s

/-- The SIL reads the ACTIVE bank copy where it is present and the DMC serves (02 R90). -/
def State.copyRead (s : State) : State :=
  if s.flag F.SIL_STATE.ACTIVE_COPY && s.dmcServes then (s.bankRead s.sil.bank s.sil.active.length).1 else s

/-- A domain comes out of KEEP or OFF, `from_`: what the ACTIVE image gives its blocks stands again (02 R90, 09 R298, 05 R164, 15 R428). -/
def State.restoreDomain (s : State) (d from_ : Nat) : State :=
  if !s.imageActive then s
  else match d with
    | 1 => ((((s.copyRead.geaUsed.mrsReload).zntLoad.zntFresh).stuLoad s.frame).stuFresh).stuArmAll
    | 6 => s.pcxReload.pcxGeometry.pguRest
    | 8 => s.restoreSections (fun r => (List.range 8).any (fun c => r == R.VPF_CHc_EXC c))
    | 9 => if from_ = 3 then s.restoreSections (fun r => r == R.DMC_PASR) else s
    | _ => s

/-- The link state changes. -/
def State.linkTo (s : State) (l : Nat) : State := ((s.setFld F.HIF_STATUS.LINK l).raise .hif F.HIF_IRQ_STATUS.LINK_CHANGE).repower

/-- Training of the link may begin: PERST_N is inactive and the HEADER phase, or the RESET phase of a host boot, has passed (21 R524). -/
def State.linkTrains (s : State) : State := if s.hif.perst ∨ s.fld F.HIF_STATUS.LINK ≠ 0 then s else s.linkTo 1

/-- CORE and DMC have reached RUN: the RESET phase ends, in a host boot with WAIT_HOST (21 Table 21-3, R523). -/
def State.coreUp (s : State) : State :=
  if s.phase = Phase.reset ∧ s.pmu.bootHold ∧ s.domOn 1 ∧ s.domOn 9 then
    if s.flag F.GLB_STARTUP.BOOT_SRC then s.waitHost.linkTrains else s.setPhase Phase.header
  else s

/-- A unit with the states of 05 Table 5-4 reaches RUN. -/
def State.unitReady (s : State) (st : Fld) : State := if s.fld st = Blk.off then s.setFld st Blk.ready else s

/-- A domain reaches RUN. -/
def State.wakeDomain (s : State) (d : Nat) : State :=
  match d with
  | 1 => (((((s.almWake.unitReady F.ZNT_STATUS.STATE).unitReady F.STU_STATUS.STATE).unitReady F.TCE_STATUS.STATE).zoneReplay).dlkWake).coreUp
  | 2 => s.geaWake 0
  | 3 => s.geaWake 1
  | 4 => s.geaWake 2
  | 5 => s.geaWake 3
  | 6 => s.pcxWake
  | 7 => s.mafeWake
  | 8 => s.vpfWake
  | 9 => s.portResume.coreUp
  | 10 => s.ancWake
  | 12 => s.cspWake
  | _ => s

/-! ### The step -/

/-- A step of a domain ends (R452). -/
def State.stepDone (s : State) (d : Nat) : State :=
  let st := s.domState d
  let dest := stepDest st (s.fld (F.PMU_DOMd_STATUS.TARGET d))
  let s1 := ((s.setFld (F.PMU_DOMd_STATUS.STATE d) dest).setFld (F.PMU_DOMd_STATUS.BUSY d) 0).count (F.PMU_DOMd_STATUS.STEPS d) 1
  let s2 := if bitAt (s1.fld F.PMU_STEP_MASK.MASK) d then s1.raise .pmu F.PMU_IRQ_STATUS.STEP else s1
  let s3 := if s2.flag (F.PMU_DOMd_STATUS.Q_VALID d) then
      ((s2.setFld (F.PMU_DOMd_STATUS.TARGET d) (s2.fld (F.PMU_DOMd_STATUS.QUEUED d))).setFld (F.PMU_DOMd_STATUS.QUEUED d) 0).setFld
        (F.PMU_DOMd_STATUS.Q_VALID d) 0
    else s2
  let s4 := if dest = 0 then ((s3.afeAwake d).wakeDomain d).vpfRingWake d
    else if dest < st then s3.restoreDomain d st
    else if dest = 1 then s3.dozeDomain d
    else s3.loseDomain d (dest == 2)
  let s5 := if dest = 2 then s4.dropVotesOf d else s4
  (s5.repower).thenStart s

/-- POWER_STEP_COMPLETE. -/
def execPowerStepComplete (d : Fin 13) (t : Nat) (s : State) : Host.Outcome State Fault Refusal :=
  let s0 := s.at_ t
  .next (if d.val ≠ 0 ∧ s0.flag (F.PMU_DOMd_STATUS.BUSY d.val) then s0.stepDone d.val else s0)

end Sys2Proof.Machine
end

