-- ==== Sys2Proof/Machine/Reset.lean ====
section
/-! DEFINITION. Resets and start-up: power-on, warm, DRAM-domain and link reset, the supplies and pins that cause them, and the
start-up sequence up to the image load (21 R516-R524, R530, 18 R483, 11 R328, R343). -/

namespace Sys2Proof.Machine

/-- Bits of GLB_RESET_CAUSE (21 Table 21-8). -/
abbrev Cause.pin : Nat := 1
abbrev Cause.wdt : Nat := 2
abbrev Cause.soft : Nat := 3
abbrev Cause.coreSupply : Nat := 4
abbrev Cause.thermal : Nat := 5
abbrev Cause.dram : Nat := 6
abbrev Cause.perst : Nat := 7

/-- A cause is recorded. -/
def State.resetCause (s : State) (bit : Nat) : State := s.setReg R.GLB_RESET_CAUSE (s.reg R.GLB_RESET_CAUSE ||| w32 (2 ^ bit))

/-! ### Warm reset (R516, R517) -/

/-- What a register holds after a warm reset (Table 21-1, R458, R409, R345, 23 R566). -/
def warmReg (off : Nat) (w : Word) : Word :=
  let keep (m : Nat) : Word := w &&& w32 m
  if off = R.GLB_RESET_CAUSE ∨ off = R.GLB_RESET_COUNT ∨ off = R.PMU_OFFLOG_STAT then w
  else if off = R.GLB_STARTUP then keep 0x38
  else if off = R.GLB_TJ then keep 0xFFFF0000
  else if off = R.TTU_STATUS then keep 0xC0000FFF
  else if inRange R.TTU_REF_CFG R.TTU_STEP_COUNT off then w
  else if inRange R.DMC_FRZ_CAUSE R.DMC_FRZ_SYND off ∨ inRange (R.DMC_HISTi_LO 0) (R.DMC_HISTi_HI 31) off then w
  else if inRange (R.ALM_DIE_IDi 0) R.ALM_POWERED off then w
  else match famOf off with
    | some f => f.warmValue w
    | none => 0

/-- The block as a warm reset leaves it: everything outside what Table 21-1 keeps is as after power-on. -/
def State.warmState (s : State) : State :=
  let z := State.reset
  { z with
    pending := s.pending, now := s.now, otp := s.otp, flash := s.flash, free := s.free, out := s.out
    regs := s.regs.filterMap (fun e => let v := warmReg e.1 e.2; if v = resetWord e.1 then none else some (e.1, v))
    glb := { z.glb with tap := s.glb.tap, porHeld := false, strapsTaken := s.glb.strapsTaken, warm := true, pinLow := s.glb.pinLow, coreLow := s.glb.coreLow,
                        hot := s.glb.hot, ended := s.now, tjTaken := s.glb.tjTaken }
    pmu := { z.pmu with offlog := s.pmu.offlog, offLatch := s.pmu.offLatch, pwrfailPin := s.pmu.pwrfailPin }
    hif := { z.hif with perst := s.hif.perst }
    afe := { z.afe with blankEdges := s.afe.blankEdges, upTo := s.now, since := (s.now, s.now) }
    vpf := { z.vpf with pins := s.vpf.pins }
    ttu := { s.ttu with chans := z.ttu.chans, units := z.ttu.units }
    anc := { z.anc with pages := s.anc.pages }
    alm := s.alm.afterReset (if s.mrs.open_ then some s.frame else s.alm.lastFrame) }

/-- A cause of a warm reset ends now (R517). -/
def State.causeEnds (s : State) : State := { s with glb := { s.glb with ended := s.now } }

/-- A warm reset with a cause: causes that overlap form one, and it includes a DRAM-domain reset (R516, R517). -/
def State.warmReset (s : State) (cause : Nat) : State :=
  if s.glb.porHeld then s
  else if s.glb.warm then s.causeEnds.resetCause cause
  else (((s.warmState.count F.GLB_RESET_COUNT.WARM 1).count F.GLB_RESET_COUNT.DRAM 1).resetCause cause).resetCause Cause.dram

/-- A cause still holds the reset. -/
def State.resetHeld (s : State) : Bool := s.glb.pinLow || s.glb.coreLow || s.glb.hot

/-! ### Start-up (R518-R524) -/

/-- Start-up begins: straps are sampled once per power-on, the fuses and the die identity are taken, and the BOOT hold is set
(R518, R521, 02 R68, 20 R497). -/
def State.startUp (s : State) (straps : Fin 8) : State :=
  let s1 := if s.glb.strapsTaken then s.almIdentity false
    else
      let a := ((s.setFld F.GLB_STARTUP.SMB_STRAP (straps.val % 4)).setFld F.GLB_STARTUP.BOOT_SRC (straps.val / 4))
      let b := (a.setFld F.SIL_KEY_CFG.SLOT_ENABLE a.otp.keyEnable.toNat).setFlag F.SIL_KEY_CFG.REQUIRE a.otp.require
      ({ b with glb := { b.glb with strapsTaken := true } }).almPowerOn.putHead
  let s2 : State := { s1 with glb := { s1.glb with warm := false }, pmu := { s1.pmu with bootHold := true } }
  ((s2.setPhase Phase.reset).setFlag F.PMU_STATUS.BOOT true).repower

/-- POWER_ON_RESET: VDD_AO's monitor clears everything on chip; fuses, boot flash and NAND stay, and so do the levels at the pins
(R516, Table 21-1). -/
def execPowerOnReset (s : State) : Host.Outcome State Fault Refusal :=
  let z := State.reset
  .next { z with
    pending := s.pending, otp := s.otp, flash := s.flash, free := s.free, out := s.out
    glb := { z.glb with pinLow := s.glb.pinLow, coreLow := s.glb.coreLow }
    pmu := { z.pmu with pwrfailPin := s.pmu.pwrfailPin }
    hif := { z.hif with perst := s.hif.perst }
    anc := { z.anc with pages := s.anc.pages } }

/-- POWER_ON_RESET_RELEASE: the time base is FREE and holds the factory trim (14 R395), and start-up begins, or a warm reset that a pin or supply still holds goes on (R518, 22 R538, R540).
`straps` are GPIO0 to GPIO2. -/
def execPowerOnResetRelease (straps : Fin 8) (t : Nat) (s : State) : Host.Outcome State Fault Refusal :=
  let s0 := s.at_ t
  .next (if !s0.glb.porHeld then s0
    else
      let s1 : State := { s0 with glb := { s0.glb with porHeld := false }, ttu := { s0.ttu with steerGoal := s0.trim, steerAt := s0.now } }
      if s1.resetHeld then { s1 with glb := { s1.glb with warm := true } } else s1.startUp straps)

/-- RESET_N: the pin has been low for 1 us, or is high again (R517). -/
def execResetN (low : Bool) (t : Nat) (s : State) : Host.Outcome State Fault Refusal :=
  let s0 := s.at_ t
  let s1 : State := { s0 with glb := { s0.glb with pinLow := low } }
  .next (if low ∧ !s0.glb.pinLow then s1.warmReset Cause.pin else if low then s1 else s1.causeEnds)

/-- WARM_RESET_RELEASE: 20 us after the last cause has ended (R517). -/
def execWarmResetRelease (straps : Fin 8) (t : Nat) (s : State) : Host.Outcome State Fault Refusal :=
  let s0 := s.at_ t
  .next (if s0.glb.warm && !s0.glb.porHeld && !s0.resetHeld && decide (s0.glb.ended + 20 * usec ≤ s0.now) then s0.startUp straps else s0)

/-- CORE_SUPPLY: VDD_CORE leaves its range (R527). -/
def execCoreSupply (t : Nat) (s : State) : Host.Outcome State Fault Refusal :=
  let s0 := s.at_ t
  let s1 : State := { s0 with glb := { s0.glb with coreLow := true } }
  .next (if s0.glb.coreLow then s0 else s1.warmReset Cause.coreSupply)

/-- CORE_SUPPLY_RECOVERED: VDD_CORE has been in range for 1 ms (R527). -/
def execCoreSupplyRecovered (t : Nat) (s : State) : Host.Outcome State Fault Refusal :=
  let s0 := s.at_ t
  .next ({ s0 with glb := { s0.glb with coreLow := false } } : State).causeEnds

/-- TRST_N: the JTAG TAP alone is reset (R516). -/
def execTrstN (s : State) : Host.Outcome State Fault Refusal := .next { s with glb := { s.glb with tap := .testLogicReset } }

/-- Offset of the first field of a start-up header that fails (R519, Table 21-2). -/
def headerFault (b : Bytes) : Option Nat :=
  firstSome [
    if field b 0 4 ≠ 0x48535A52 then some 0 else none,
    if field b 4 2 ≠ 1 then some 4 else none,
    if field b 6 2 ≠ 128 then some 6 else none,
    if field b 8 1 > 1 then some 8 else none,
    if field b 9 1 < 2 then some 9 else none,
    if field b 0xA 1 > 15 then some 0xA else none,
    if field b 0xB 1 > 7 then some 0xB else none,
    if field b 0x30 2 = 0 then some 0x30 else none,
    if !zeroAt b 0x32 74 then some 0x32 else none,
    if field b 0x7C 4 ≠ (crc32c (b.take 0x7C)).toNat then some 0x7C else none]

/-- HEADER_READ: an accepted header sets the registers it feeds and starts the DMC; a refused one leaves start-up to the host
(R519, R523). -/
def execHeaderRead (t : Nat) (s : State) : Host.Outcome State Fault Refusal :=
  let s0 := s.at_ t
  .next (if s0.phase ≠ Phase.header then s0
    else
      let b := s0.flashBytes 0 128
      match headerFault b with
      | some d => (s0.startFails GlbCode.headerBad d).linkTrains
      | none =>
        let fl := field b 0xB 1
        let s1 : State := { s0 with glb := { s0.glb with header := b } }
        let s2 := ((((s1.setFlag F.GLB_STARTUP.HEADER_VALID true).setFlag F.GLB_STARTUP.AUTO_START (bitAt fl 0)).setFlag F.GLB_WDT_CFG.FLUSH (bitAt fl 2)).setFld
          F.GLB_WDT_CFG.TIMEOUT_MS (field b 0x30 2)).setPhase Phase.dmcInit
        let put (a : State) (off r : Nat) : State := match famOf r with
          | some f => a.setReg r (f.applyWrite false (a.reg r) (w32 (field b off 4)))
          | none => a
        let s3 := [(0x10, R.DMC_GEOM), (0x14, R.DMC_TIMING0), (0x18, R.DMC_TIMING1), (0x1C, R.DMC_TIMING2), (0x20, R.DMC_TIMING3), (0x24, R.DMC_REF_CFG),
          (0x28, R.DMC_PAGE_CFG), (0x2C, R.DMC_ECC_CFG)].foldl (fun a x => put a x.1 x.2) s2
        let s4 := s3.dmcInit.linkTrains
        if s4.dmcState = Dmc.init then s4 else s4.dmcFails DmcCode.badConfig)

/-- DMC_INIT: DMC_CTRL.INIT (11 R328). -/
def execDmcInit (src : Src) (s : State) : Host.Outcome State Fault Refusal :=
  .next (s.onUnit (.reg src) .dmc R.DMC_CTRL State.dmcInit)

/-- The DMC is READY: during start-up the image load follows (21 Table 21-3). -/
def State.dmcUp (s : State) : State := if s.phase = Phase.dmcInit ∧ s.dmcState = Dmc.ready then s.imagePhase else s

/-- DMC_INIT_COMPLETE: `check` how training ends, `mrr` a mode register that reads back wrong, with the value written and the value
read (11 R328, R329). Requests that wait are served. -/
def execDmcInitComplete (check : TrainCheck) (mrr : Option (Nat × Nat × Nat)) (t : Nat) (s : State) : Host.Outcome State Fault Refusal :=
  .next (((s.at_ t).dmcTrained check mrr).portResume.dmcUp)

/-! ### DRAM-domain reset (R516, R530, 11 R343) -/

/-- Acquisition is abandoned: the MRS is NO_IMAGE, its rings and queues are empty, its dynamic slots are left for the new run to cancel, and the units that ran with it rest (R530, 10
R317). -/
def State.mrsAbandon (s : State) : State :=
  let again := s.acq = Mrs.starting ∨ s.acq = Mrs.running
  let s0 := s.settleDeads
  let s1 := if s0.pguState = Pgu.running then s0.pguEnter Pgu.stopped else s0
  let s2 := (s1.setFld F.MRS_STATUS.STATE Mrs.noImage).settleDeads.unitsRest
  let s3 : State := { s2 with
    mrs := { MrsSt.reset with
      dyn := s2.mrs.dyn
      autoStart := decide again || s2.mrs.autoStart
      groups := s2.mrs.groups.map (fun g => (g.1, { GroupSt.fresh with written := g.2.written, popped := g.2.written, pushes := g.2.pushes })) }
    tce := { s2.tce with queue := [], blocks := [], chans := [], marks := [], stopping := false, stalled := false }
    therm := { s2.therm with open_ := none, closed := [], due := [], bril := none, brilWait := [], jobs := [], prev := none, avg := Therm.idle,
                             prog := if s2.therm.prog = Therm.running then Therm.idle else s2.therm.prog }
    znt := { s2.znt with replayed := false }
    gaps := [] }
  if s3.fld F.TCE_STATUS.STATE = Blk.running then s3.setFld F.TCE_STATUS.STATE Blk.ready else s3

/-- The loader at a DRAM-domain reset: PENDING is emptied with ABORTED; with an ACTIVE image a restart switch is armed, heavy where
the reset falls into a heavy switch (02 R87, R91, R92, 21 R530); without one start-up loads the boot image again. -/
def State.silRestart (s : State) : State :=
  let st := s.pendState
  let chunks := s.hif.transfers.filter (fun x => match x.kind with | .imageChunk _ _ => true | _ => false)
  let s0 : State := { s with hif := { s.hif with transfers := s.hif.transfers.filter (fun x => !chunks.contains x) } }
  let s1 := chunks.foldl (fun a x => a.answer x.origin x.seq SilCode.aborted Unit.sil.top 0 []) s0
  let heavy := st = Pend.switching ∨ s.sil.reload
  let s2 := if st = Pend.empty then s1 else s1.abortPending
  if s2.imageActive then
    let s3 : State := { s2 with sil := { s2.sil with
      restart := true, reload := heavy, armed := some (.first s2.now), old := [], heavyFrames := 0, rewriting := s2.sil.stored } }
    (if s3.sil.rewriting then s3 else s3.setFlag F.SIL_STATE.ACTIVE_COPY false).silVote
  else if s2.phase = Phase.image ∨ s2.phase = Phase.switch then s2.setPhase Phase.dmcInit
  else s2

/-- The DMC restarts its initialisation with the configuration it keeps; its counters and the contents of DRAM are lost (R343). -/
def State.dmcRestart (s : State) : State :=
  (s.dmcBegin.dmcCountClr.setFlag F.DMC_STATUS.FROZEN false).show .dmc 0 0

/-- A DRAM-domain reset. -/
def State.dramReset (s : State) : State :=
  let s1 := (s.count F.GLB_RESET_COUNT.DRAM 1).resetCause Cause.dram
  ((((s1.dmcRestart.mrsAbandon).almRestart).silRestart.cvuDramReset).ancDramReset).repower

/-- DRAM_RESET: DMC_CTRL.DRAM_RESET; discarded during a warm reset (R517). -/
def execDramReset (src : Src) (t : Nat) (s : State) : Host.Outcome State Fault Refusal :=
  .next ((s.at_ t).onUnit (.reg src) .dmc R.DMC_CTRL (fun s => if s.glb.warm then s else s.dramReset))

/-! ### Link reset (18 R483, 21 Table 21-1) -/

/-- A host-buffer transfer ends with the link: a chunk's range is undefined, nothing else changes (18 R474, R483). -/
def State.transferCut (s : State) (x : Transfer) : State :=
  match x.kind with
  | .imageChunk off _ => s.chunkLost off x.len
  | _ => s

/-- The HIF is reset: sessions close, stream channels are disabled, its registers, logs and histories take their reset values,
transfers end with their answers discarded, and Bus Master Enable and MSI-X are off. -/
def State.hifReset (s : State) : State :=
  let s1 := s.hif.sessions.foldl (fun a x => a.closeSession x.1) (s.hif.transfers.foldl State.transferCut s)
  let gone (r : Req) : Bool := s1.hif.transfers.any (fun x => x.origin == r.origin && x.seq == r.seq)
  let h : HifSt := { HifSt.reset with perst := s.hif.perst, reqs := s1.hif.reqs.filter (fun r => !gone r), levels := s.hif.levels }
  (({ s1 with hif := h }).resetRegs 0xF00000 0xF40000).settleIrqAt Unit.hif.source

/-- PERST_ASSERT. -/
def execPerstAssert (t : Nat) (s : State) : Host.Outcome State Fault Refusal :=
  let s0 := s.at_ t
  .next (if s0.hif.perst then s0
    else
      let s1 : State := { s0 with hif := { s0.hif with perst := true } }
      ((s1.hifReset).resetCause Cause.perst).repower)

/-- PERST_DEASSERT: the LINK hold is set, and the link trains once start-up has come that far (R524). -/
def execPerstDeassert (t : Nat) (s : State) : Host.Outcome State Fault Refusal :=
  let s0 := s.at_ t
  let s1 : State := { s0 with hif := { s0.hif with perst := false } }
  .next (if !s0.hif.perst then s0 else (if s1.phase = Phase.reset ∨ s1.phase = Phase.header then s1 else s1.linkTrains).repower)

/-- LINK_TRAINED: L0 at Gen1 to Gen3 with one, two or four lanes; no more retry status (R524). -/
def execLinkTrained (speed width : Fin 3) (t : Nat) (s : State) : Host.Outcome State Fault Refusal :=
  let s0 := s.at_ t
  .next (if s0.hif.perst ∨ !s0.unitOn .hif ∨ s0.phase = Phase.reset ∨ s0.phase = Phase.header then s0
    else
      let s1 : State := { s0 with hif := { s0.hif with retry := false } }
      (((s1.setFld F.HIF_STATUS.SPEED (speed.val + 1)).setFld F.HIF_STATUS.WIDTH (width.val + 1))).linkTo 2)

/-- LINK_L1_ENTRY (17 Table 17-3). -/
def execLinkL1Entry (t : Nat) (s : State) : Host.Outcome State Fault Refusal :=
  let s0 := s.at_ t
  .next (if s0.fld F.HIF_STATUS.LINK = 2 then s0.linkTo 3 else s0)

/-- LINK_L1_EXIT. -/
def execLinkL1Exit (t : Nat) (s : State) : Host.Outcome State Fault Refusal :=
  let s0 := s.at_ t
  .next (if s0.fld F.HIF_STATUS.LINK = 3 then s0.linkTo 2 else s0)

end Sys2Proof.Machine
end

