-- ==== Sys2Proof/Machine/Glb.lean ====
section
/-! DEFINITION. The watchdog, the junction temperature and the GLB's requests (21 R516, R517, R525-R528). -/

namespace Sys2Proof.Machine

/-! ### Watchdog (R525, R526) -/

/-- TIMEOUT_MS in fast samples; 0 acts as 1. -/
def State.wdtTimeout (s : State) : Nat := max 1 (s.fld F.GLB_WDT_CFG.TIMEOUT_MS) * msec

/-- The watchdog starts when EN is set. -/
def State.wdtStart (s : State) : State :=
  if s.flag F.GLB_WDT_CFG.EN then s
  else
    let s1 := s.setFlag F.GLB_WDT_CFG.EN true
    { s1 with glb := { s1.glb with wdtEnd := some (s1.now + s1.wdtTimeout), wdtLen := s1.wdtTimeout } }

/-- WDT_ENABLE. -/
def execWdtEnable (_src : Src) (t : Nat) (s : State) : Host.Outcome State Fault Refusal := .next (s.at_ t).wdtStart

/-- A write of GLB_WDT_KICK: the right word restarts a running count, any other is counted; after expiry nothing changes. -/
def State.wdtKick (s : State) (w : Word) : State :=
  if s.glb.flushCause.isSome then s
  else if w = 0xA5C3 then
    match s.glb.wdtEnd with
    | some _ => { s with glb := { s.glb with wdtEnd := some (s.now + s.wdtTimeout), wdtLen := s.wdtTimeout } }
    | none => s
  else (s.count F.GLB_WDT_STATUS.BAD_KICKS 1).post .glb GlbCode.badKick 0

/-- WDT_KICK. -/
def execWdtKick (_src : Src) (w : Word) (t : Nat) (s : State) : Host.Outcome State Fault Refusal := .next ((s.at_ t).wdtKick w)

/-- WDT_WARN: half of the timeout remains. -/
def execWdtWarn (t : Nat) (s : State) : Host.Outcome State Fault Refusal :=
  let s0 := s.at_ t
  .next (match s0.glb.wdtEnd with
    | some e => if e ≤ s0.now + s0.glb.wdtLen / 2 then s0.raise .glb F.GLB_IRQ_STATUS.WDT_WARN else s0
    | none => s0)

/-- A warm reset follows with a cause; a thermal trip is recorded after it (Table 21-7). -/
def State.expiryReset (s : State) (cause : Nat) : State :=
  let s1 := s.warmReset cause
  if cause = Cause.thermal then s1.post .glb GlbCode.thermalTrip 0 else s1

/-- An expiry that flushes: the ANC is signalled as on PWRFAIL_N, and the reset follows; at once where the ANC is not READY (R526). -/
def State.flushReset (s : State) (cause : Nat) : State :=
  if s.ancState ≠ Anc.ready then s.expiryReset cause
  else
    let s1 : State := { s with
      glb := { s.glb with flushCause := some cause, flushAt := s.now, wdtEnd := none }, pmu := { s.pmu with pwrfailHold := true } }
    s1.repower.ancPwrfail

/-- WDT_EXPIRY: the count reaches 0. -/
def execWdtExpiry (t : Nat) (s : State) : Host.Outcome State Fault Refusal :=
  let s0 := s.at_ t
  .next (match s0.glb.wdtEnd with
    | some e =>
      if s0.now < e then s0
      else
        let s1 : State := { s0 with glb := { s0.glb with wdtEnd := none } }
        if s1.flag F.GLB_WDT_CFG.FLUSH then s1.flushReset Cause.wdt else s1.expiryReset Cause.wdt
    | none => s0)

/-- FLUSH_RESET_TIMEOUT: the ANC is HALTED, or 2 ms have passed (R526). -/
def execFlushResetTimeout (t : Nat) (s : State) : Host.Outcome State Fault Refusal :=
  let s0 := s.at_ t
  .next (match s0.glb.flushCause with
    | some c => if s0.ancState = Anc.halted ∨ s0.glb.flushAt + 2 * msec ≤ s0.now then s0.expiryReset c else s0
    | none => s0)

/-! ### Temperature (R528) -/

/-- TJ_SAMPLE: `tj` in 1/16 degC. -/
def execTjSample (tj : Int) (t : Nat) (s : State) : Host.Outcome State Fault Refusal :=
  let s0 := s.at_ t
  .next (if s0.glb.porHeld then s0
    else
      let top := if s0.glb.tjTaken then max tj (s0.fldInt F.GLB_TJ.TJ_MAX) else tj
      let s1 := (s0.setFld F.GLB_TJ.TJ (unsigned 16 tj)).setFld F.GLB_TJ.TJ_MAX (unsigned 16 top)
      let high := decide (tj > 110 * 16) && s1.glb.tjArmed
      let trip := decide (tj ≥ 125 * 16) && !s1.glb.hot && s1.glb.flushCause.isNone
      let s2 : State := { s1 with glb := { s1.glb with
        tjTaken := true, tjArmed := if high then false else s1.glb.tjArmed || decide (tj < 105 * 16)
        hot := if trip then true else s1.glb.hot && decide (tj ≥ 100 * 16) } }
      let cool := s0.glb.hot && !s2.glb.hot
      let s2 := if cool then s2.causeEnds else s2
      let s3 := if high then (s2.post .glb GlbCode.tjHigh 0).raise .glb F.GLB_IRQ_STATUS.TJ_HIGH else s2
      if trip then s3.flushReset Cause.thermal else s3)

/-! ### Requests (Table 21-8) -/

/-- CAUSE_CLR. -/
def State.causeClr (s : State) : State := s.setReg R.GLB_RESET_CAUSE 0
def execCauseClr (_src : Src) (s : State) : Host.Outcome State Fault Refusal := .next s.causeClr

/-- GLB_COUNT_CLR: GLB_RESET_COUNT and BAD_KICKS. -/
def State.glbCountClr (s : State) : State := (s.setReg R.GLB_RESET_COUNT 0).setFld F.GLB_WDT_STATUS.BAD_KICKS 0
def execGlbCountClr (_src : Src) (s : State) : Host.Outcome State Fault Refusal := .next s.glbCountClr

/-- WARM_REQ: needs the key, and clears it. -/
def State.warmReq (s : State) : State :=
  let ok := s.reg R.GLB_RESET_KEY = 0x5A3C
  let s1 := s.setReg R.GLB_RESET_KEY 0
  if ok then s1.warmReset Cause.soft else s1.post .glb GlbCode.badKey 0
def execWarmReq (_src : Src) (t : Nat) (s : State) : Host.Outcome State Fault Refusal := .next (s.at_ t).warmReq

/-- GLB_WDT_STATUS as it reads: whole milliseconds to expiry, and BAD_KICKS. -/
def State.wdtStatus (s : State) : Word :=
  setBits (s.reg R.GLB_WDT_STATUS) 15 0 (match s.glb.wdtEnd with | some e => (e - s.now) / msec | none => 0)

end Sys2Proof.Machine
end

