-- ==== Sys2Proof/Machine/Frame.lean ====
section
/-! DEFINITION. Frame boundaries: the image switch, the actions of Table 1-4, the header, and the start and stop of acquisition
(01 R35-R46, 02 R81-R89, 08 R248, R265, 21 R521-R523). -/

namespace Sys2Proof.Machine

/-- What the surroundings give the frame that a boundary ends: the inputs of the fast and medium converters in microvolts, one list a
converter, from the samples last taken, and each group's RUNNING cycles with the cycles of the frame. -/
structure FrameIn where
  fadc : List (List Int)
  madc : List (List Int)
  runs : List Nat
  cycles : Nat
  deriving DecidableEq, Repr

/-- The frame in progress ends at an instant. -/
def State.closeFrame (s : State) (x : FrameIn) (t : Nat) : State :=
  let s0 := ((s.synthTo (2 * t)).at_ t).takeSamples x.fadc x.madc t
  if !s.mrs.open_ then s0
  else
    let s1 := (((s0.pcxOverflow t).calCollect false).afeBoundary t).mediumEnd t |>.thermFrame t
    if s1.acq = Mrs.running ∨ s1.acq = Mrs.stopping then s1.loadFrame x.runs x.cycles else s1

/-! ### DONE (21 R521) -/

/-- The switch that ends start-up is complete: the BOOT hold is released, the watchdog starts, acquisition is requested. -/
def State.startupDone (s : State) : State :=
  if s.phase = Phase.done then s
  else
    let s1 := ({ s with pmu := { s.pmu with bootHold := false } }).setFlag F.PMU_STATUS.BOOT false
    let s2 := ((s1.setPhase Phase.done).raise .glb F.GLB_IRQ_STATUS.STARTUP_DONE).repower
    let s3 := if s2.flag F.GLB_STARTUP.HEADER_VALID && bitAt (field s2.glb.header 0xB 1) 1 then s2.wdtStart else s2
    if s3.flag F.GLB_STARTUP.AUTO_START then s3.acqStart (.reg .host) else s3

/-! ### The image switch (02 R83-R89) -/

/-- Every RWL register takes the value the image gives it: REGISTER_INIT before the sections, its reset value without either
(R89). -/
def State.loadImage (s : State) (img : Bytes) : State :=
  let s1 := (s.regs.map (·.1)).foldl (fun a off => a.putRwl off (resetWord off)) s
  let s2 := (sectionWrites img).foldl (fun a w => a.putSection w.1 (w32 w.2)) s1
  let s3 := (initPairs img).foldl (fun a w => a.putRwl w.1 (w32 w.2)) s2
  (List.range 16).foldl (fun a k => a.putRwl (R.DDC_TONEk_NCO k) (imgReg img (R.DDC_TONEk_NCO k))) s3

/-- PENDING becomes ACTIVE at the boundary that opens frame `n`; a restart switch keeps the ACTIVE image (R83, R91, 21 R530). DESIGN CHOICE: a pointer record still due is replaced (log 179). -/
def State.silTake (s : State) (n : Nat) (heavy : Bool) : State :=
  let g := s.sil
  let s1 := s.setReg64 R.SIL_LAST_SWITCH_LO R.SIL_LAST_SWITCH_HI n
  if g.restart then { s1 with sil := { g with restart := false, armed := none, heavyFrames := 0 } }
  else
    let named := match s.pointerRec (fun _ => true) with
      | some b => g.boot && field b 4 1 == g.slot && field b 8 4 == imgSerial g.pending
      | none => false
    let x : SilSt := { g with
      active := g.pending, bank := 1 - g.bank, stored := g.persist || g.boot, old := if heavy then g.active else [], pending := [], len := 0, armed := none, boot := false
      activeSlot := g.slot, drained := false, toLoad := [], heavyFrames := 0, reload := false, rewriting := false
      firstDone := true, pointerDue := g.persist }
    let s2 := ({ s1 with sil := x }).setReg R.SIL_ACTIVE_SERIAL (w32 (imgSerial g.pending))
    let s3 := (((s2.setFlag F.SIL_STATE.ACTIVE_VALID true).setFlag F.SIL_STATE.ACTIVE_PERSISTENT named).setFlag F.SIL_STATE.ACTIVE_COPY true)
    let s4 := if g.firstDone then s3
      else (s3.setFlag F.SIL_STATE.BOOT_SLOT (g.boot && g.slot == 1)).setFld F.SIL_STATE.BOOT_SOURCE (if g.boot then 1 else 2)
    ((s4.setReg R.SIL_PENDING_SERIAL 0).setFlag F.SIL_STATE.PENDING_HEAVY false).pendEnter (if heavy then Pend.switching else Pend.empty)

/-- DEGRADED lasts until a switch (08 R262). -/
def State.clearDegraded (s : State) : State :=
  (List.range 64).foldl (fun a g =>
    if a.fld (F.MRS_GROUPg_STATUS.HEALTH g) = 2 then (a.setFld (F.MRS_GROUPg_STATUS.HEALTH g) 0).showHealth g else a) s

/-- A RUNNING unit with the states of 05 Table 5-4 whose checks fail: FAULT, and acquisition stops (03 R120). -/
def State.blkSwitch (s : State) (u : Unit) (st irq : Fld) (check : Option Nat) : State :=
  match check with
  | some d => if s.fld st = Blk.running then (((s.setFld st Blk.fault).post u 1 d).raise u irq).acqFault 1 u.top else s
  | none => s

/-- The units under acquisition check the new image. -/
def State.checkUnits (s old : State) : State :=
  let s1 := ((s.pguSwitch).fafeSwitch).pcxSwitch old
  let s2 := match mrsCheck s1.fld s1.sil.active with
    | some d => if s1.acq = Mrs.running then (s1.post .mrs MrsCode.badConfig d).acqFault MrsCode.badConfig d else s1
    | none => s1
  let img := s2.sil.active
  let s3 := s2.blkSwitch .znt F.ZNT_STATUS.STATE F.ZNT_IRQ_STATUS.FAULT (zntCheck s2.fld s2.znt.zones (imgRecords img).length)
  let s4 := s3.blkSwitch .stu F.STU_STATUS.STATE F.STU_IRQ_STATUS.FAULT (stuCheck s3.fld img s3.znt.zones)
  let s5 := s4.blkSwitch .tce F.TCE_STATUS.STATE F.TCE_IRQ_STATUS.FAULT (tceCheck s4.fld img)
  { s5 with mrs := { s5.mrs with frames := old.mrs.frames, gapFrom := old.mrs.gapFrom, readyAt := none } }

/-- A payload differs between two images. -/
def payChanged (a b : Bytes) (t : Nat) : Bool := imgPay a t != imgPay b t

/-- The registers, zones and programs of a new image. -/
def State.switchTables (s : State) (t n : Nat) : State :=
  let img := s.switchImage
  let heavy := s.switchHeavy
  let restart := s.sil.restart
  let old := s.sil.active
  let zones := restart || payChanged old img Sec.zoneTree || payChanged old img Sec.detectorBands
  let progs := payChanged old img Sec.triggerPrograms || payChanged old img Sec.zoneTree
  let s0 := s.stuSwitch
  let s1 := if progs then s0.stuRetire else s0
  let s2 := ((s1.silTake n heavy).loadImage img).keepProfile s
  let s3 := (if restart && heavy then s2.drainDone else s2).clearDegraded
  let s4 := if zones then (if filtersMoved s s3 then ({ s3 with znt := { s3.znt with filters := [] } } : State) else s3).zntLoad else s3
  let s5 := if progs then (s4.stuLoad n).stuFresh else s4
  let s5 := if payChanged old img Sec.triggerPrograms then s5.stuArmAll else s5
  let s6 := ((s5.geaUsed.checkUnits s).dlkSwitch old).cspSwitch
  let s7 := if payChanged old img Sec.vernierSetup then s6.vpfSwitch t else s6
  s7.ancSwitch.almArchive

/-- The run that frame 0 opens (01 R35, R36): filters, backgrounds and program instances start anew (09 R279, R282, R299). -/
def State.newRun (s : State) : State := ((((s.stuNewRun).zntFresh.stuFresh).thermNewRun).cancelDyn 0).tceMark 0

/-- IMAGE_SWITCH_BOUNDARY: the armed switch takes place at the boundary at `t` that opens frame `n`. A light switch is complete at
once (R85). -/
def State.switchBoundary (s : State) (t n : Nat) : State :=
  let heavy := s.switchHeavy
  let first := s.noImage
  let s0 := s.switchTables t n
  let s1 := if first then s0.stoppedNow else s0
  let s2 := ((s1.meridianNow.silVote).repower).pwrfailSample
  let s3 := (s2.cancelDyn n).tceMark n
  let s4 := if first then ({ s3 with znt := { s3.znt with replayed := false } } : State).zoneReplay else s3
  if heavy then ({ s4 with pmu := { s4.pmu with switchHold := true } }).repower
  else (s4.raise .sil F.SIL_IRQ_STATUS.SWITCH_DONE).startupDone

/-- SWITCH_DONE: the first boundary after a heavy switch whose load is complete (R86, 21 R522). -/
def State.heavyComplete (s : State) (n : Nat) : State :=
  let s1 := if s.pendState = Pend.switching then s.pendEnter Pend.empty else s
  let s2 := s1.setFld F.SIL_HEAVY_VIRTUAL.FRAMES (min 65535 s1.sil.heavyFrames)
  let s3 : State := { s2 with sil := { s2.sil with reload := false, drained := false }, pmu := { s2.pmu with switchHold := false } }
  let gs := (List.range (imgGroups s3.sil.active).length).zip (imgGroups s3.sil.active)
  let s4 := if s3.acq = Mrs.running then
      gs.foldl (fun a x => if a.groupState x.2 = Eng.loaded then (a.startGroup x.1 x.2).clearLoad x.1 else a) s3
    else s3
  (((s4.raise .sil F.SIL_IRQ_STATUS.SWITCH_DONE).repower).thermChange n true).startupDone

/-! ### Start and stop (08 R265) -/

/-- ACQUISITION_START_EFFECT: every unit the image uses runs. -/
def State.startEffect (s : State) (n : Nat) : State :=
  let s1 := (s.setFld F.MRS_STATUS.STATE Mrs.running).raise .mrs F.MRS_IRQ_STATUS.STARTED
  let s2 : State := { s1 with mrs := { s1.mrs with readyAt := none, stopAt := none }, tce := { s1.tce with stopping := false } }
  let s3 := if s2.usesFast then s2.pguStart.pcxStart else s2
  let s4 := [F.ZNT_STATUS.STATE, F.STU_STATUS.STATE, F.TCE_STATUS.STATE].foldl (fun a st => a.setFld st Blk.running) s3
  let gs := (List.range (imgGroups s4.sil.active).length).zip (imgGroups s4.sil.active)
  let s5 := gs.foldl (fun a x => (if a.groupState x.2 = Eng.loaded then a.startGroup x.1 x.2 else a).clearLoad x.1) s4
  (((s5.zntFresh.stuFresh).stuArmAll).thermStart n).tceMark n

/-- ACQUISITION_STOP_EFFECT, and what follows a fault at the next boundary: the units that acquire stop, and the archive commits
(12 R360). -/
def State.stopEffect (s : State) (n : Nat) : State :=
  let s1 := ((s.pguStop.thermStop n).stuStop).tceMark n
  if s1.ancState = Anc.ready then s1.wantCommit else s1

/-- Something still acquires after the end of acquisition. -/
def State.stopDue (s : State) : Bool :=
  (match s.cur with | some f => f.real | none => false) || (s.pguState == Pgu.running && !s.pgu.stopping) || s.therm.prog == Therm.running

/-- A tracker reset at a switch (05 R169). -/
def trackChanged (old new : State) : Bool :=
  [F.MRS_GEOM.K_CODE, F.MRS_GEOM.GAUGE, F.PCX_RAY_CFG.H, F.PCX_RAY_CFG.ALPHA_EXP].any (fun f => old.fld f != new.fld f)
    || [R.PCX_RANGE, R.PCX_COUNT].any (fun r => old.reg r != new.reg r) || (List.range 16).any (planChanged old new)

/-! ### The frame opened -/

/-- The header of a frame (Table 1-2). -/
def State.frameHeader (s : State) (t n : Nat) (flags : Nat) : Bytes :=
  let z := s.scaleAt (2048 * t)
  let period := if n = 0 then 0 else (t - s.launch) * 2048 / 5
  let member := if s.cspState = Csp.head ∨ s.cspState = Csp.member then s.fld F.CSP_STATUS.INDEX else 0
  let b := leBytes 2 1 ++ leBytes 2 64 ++ leBytes 4 s.run ++ leBytes 8 n ++ leBytes 8 (scaleNs z) ++ leBytes 2 (scaleFrac z)
    ++ leBytes 1 (s.lockByte (s.ttu.stepped && s.stepIn (2048 * t))) ++ leBytes 1 flags ++ leBytes 4 period ++ leBytes 4 (imgSerial s.sil.active)
    ++ leBytes 4 (s.reg R.ALM_EPOCH).toNat ++ leBytes 16 s.dieId ++ leBytes 1 member ++ zeros 3
  b ++ leBytes 4 (crc32c b).toNat

/-- Frames still known once another opens: the newest 127, those whose processing or slots are not complete (01 R44, 08 R249), and the one a gap
began with (12 R353). -/
def State.keptFrames (s : State) : List FrameRec :=
  let used (f : FrameRec) : Bool :=
    (s.mrs.queue ++ s.mrs.groups.flatMap (fun g => g.2.ring ++ g.2.open_)).any (·.frame == f.num)
      || (s.therm.due ++ s.therm.jobs ++ s.therm.brilWait).any (·.last == f.num)
      || s.tce.queue.any (fun x => field x.data 8 6 == f.num) || s.tce.blocks.any (·.frame == f.num)
      || !(s.frameSlots f).isEmpty || s.mrs.dyn.any (·.frame == f.num)
      || (match s.mrs.gapFrom with | some g => g.2.1 == f.num && g.1 == field f.header 4 4 | none => false)
  s.mrs.frames.take 127 ++ (s.mrs.frames.drop 127).filter used

/-- A frame opens with its header (FRAME_HEADER_WRITE). `edge`: its launch is taken from LAUNCH_IN; `missing`: for want of one. -/
def State.openFrame (s : State) (t n : Nat) (real : Bool) (edge : Option Nat) (missing reset : Bool) : State :=
  let q := if real then s.fld F.PGU_CAL_STATUS.PHASE else 0
  let cal := decide (q ≥ 2)
  let diag := s.diagFrame s.fld n real cal
  let flags := (if s.dlkDerated then 1 else 0) + (if diag then 2 else 0) + (if cal then 4 else 0) + (if real then 0 else 8) + (if edge.isSome then 16 else 0)
  let h := s.frameHeader t n flags
  let due := match s.cur with | some f => f.reset && (!f.real || f.diag || f.cal) | none => false
  let f : FrameRec := { num := n, launch := t, real := real, diag := diag, cal := cal, guardFrame := q == 2 || q == 4, lost := false
                        edge := edge, missing := missing, reset := reset || due
                        track := if reset || due then n else match s.cur with | some g => g.track | none => n
                        cfg := s.frameCfg, rules := s.frameRules, header := h }
  let s1 := ((s.diagSelect n real cal).setFlag F.MRS_STATUS.VIRTUAL (!real)).setFlag F.MRS_STATUS.SLAVE s.slave
  let s2 : State := { s1 with
    frame := n, launch := t
    mrs := { s1.mrs with open_ := true, frames := f :: s1.keptFrames
                         pendRefs := if s.slave then s1.mrs.pendRefs else [] }
    ttu := { s1.ttu with stepped := s1.ttu.stepped && !s1.stepIn (2048 * t) } }
  let held := s2.pendState = Pend.switching ∨ s2.sil.reload
  let s3 : State := if held ∧ !real then { s2 with sil := { s2.sil with heavyFrames := s2.sil.heavyFrames + 1 } } else s2
  let s4 := if real ∨ !s3.unitOn .mrs then s3 else s3.count F.MRS_VIRTUAL_COUNT.COUNT 1
  s4.pendFrame.vpfFrame n t h

/-- The gap that virtual frames leave opens and closes (01 R37, R62); a run may open with it. -/
def State.trackGap (s : State) (n : Nat) (real heavy : Bool) : State :=
  let was := match s.cur with | some f => f.real | none => false
  if real then
    match s.mrs.gapFrom with
    | some (r, first, cause) => ({ s with mrs := { s.mrs with gapFrom := none } }).noteGap cause 32 0xFFFF r first s.run n
    | none => s
  else if was || n == 0 then s.openGap n (if heavy then 2 else 1)
  else s

/-- Actions 2 to 4 of Table 1-4: epoch, zones and block moves at a boundary at `t` that opens frame `n`. -/
def State.boundaryActions (s : State) (t n : Nat) (switched : Bool) (carry : Option Nat) : State :=
  let epoch := s.epochDue carry
  let s1 := s.almBoundary n carry
  let s2 := if epoch then s1.tceMark n else s1
  let s3 := if epoch ∨ switched then s2.thermChange n switched else s2
  let s4 := s3.applyChanges t n
  (if s4.znt.reset then s4.zntReset else s4).moveAll n

/-- What follows once the frame is open. -/
def State.afterOpen (s0 old : State) (n : Nat) (turned : Bool) : State :=
  let s := s0.pguGates s0.launch
  let s1 := ((s.entryFlush n).judgeAll n).capHoldoff n
  let s2 := if turned then s1 else s1.thermTurn n
  let s3 := (s2.therm.due.filter (fun d => !old.therm.due.contains d)).foldl (fun a d => match d.raman with | some r => a.sendTrace d r | none => a) s2
  let s4 := if s3.pcx.retry then s3.tfApply else s3
  let s5 := s4.ancStep.tryStart
  if s5.mrs.autoStart ∧ s5.acq = Mrs.stopped then ({ s5 with mrs := { s5.mrs with autoStart := false } }).acqStart (.reg .host) else s5

/-- A boundary at `t`: the frame in progress ends and the next opens. DESIGN CHOICE: a run in TRAIL ends before a periodic request due then is judged (log 180). -/
def State.boundary (s : State) (x : FrameIn) (t : Nat) (edge : Option Nat) (missing : Bool) : State :=
  let roll := decide (s.frame + 1 ≥ 2 ^ 48)
  let n := if !s.mrs.open_ || roll then 0 else s.frame + 1
  let real := !missing && s.realAt t n
  let sw := s.switchDue t n
  let heavy := s.switchHeavy
  let plain := sw && !s.noImage && !s.sil.restart
  let a := s.closeFrame x t
  let stopped := decide (a.acq = Mrs.running) && (match a.mrs.stopAt with | some z => decide (z + 2 * usec ≤ t) | none => false)
  let b : State := if stopped then { a.setFld F.MRS_STATUS.STATE Mrs.stopping with mrs := { a.mrs with stopAt := none } } else a
  let held := b.pendState = Pend.switching ∨ b.sil.reload
  let c := if held ∧ !sw ∧ b.heavyDone then b.heavyComplete n else b
  let d := if sw then c.switchBoundary t n else c
  let e := if n = 0 then (if roll then d.setReg R.ALM_RUN (d.reg R.ALM_RUN + 1) else d).newRun else d
  let starting := real && decide (e.acq = Mrs.starting)
  let f := if starting then e.startEffect n else e
  let isReal := real && decide (f.acq = Mrs.running)
  let stopping := decide (f.acq = Mrs.stopping) && (decide (s.acq = Mrs.running) || f.stopDue)
  let g := if stopping then f.stopEffect n else f
  let carry := if plain ∧ imgCalEpoch g.sil.active ≠ 0 then some (imgCalEpoch g.sil.active) else none
  let turned := sw || starting || stopping || g.epochDue carry
  let h := (g.trackGap n isReal (sw && heavy && decide (g.acq = Mrs.running))).boundaryActions t n sw carry
  let i := h.calAdvance t isReal sw
  let j := (if isReal then i.calPeriodic n else i).dlkBoundary
  let reset := starting || n == 0 || (sw && trackChanged s d)
  ((j.bankAt t).openFrame t n isReal edge missing reset).afterOpen s n turned

/-! ### When a boundary falls -/

/-- Instant of the next boundary that the MRS schedules itself: T after the last in master mode, and the first switch's while it is
NO_IMAGE (01 R40, 21 R522). -/
def State.ownBoundary (s : State) : Option Nat :=
  if s.noImage then
    (if s.pendState = Pend.armed ∨ s.sil.restart then
      match s.sil.armed, s.alm.runStored with
      | some (.first a), some r => some (max (a + 2 * usec) r)
      | _, _ => none
    else none)
  else if s.slave ∨ !s.mrs.open_ then none
  else some (s.launch + s.fld F.MRS_PERIOD.T)

/-- FRAME_BOUNDARY. -/
def execFrameBoundary (t : Nat) (fadc madc : List (List Int)) (runs : List Nat) (cycles : Nat) (s : State) : Host.Outcome State Fault Refusal :=
  .next (match s.ownBoundary with
    | some i => if i ≤ t then (s.boundary ⟨fadc, madc, runs, cycles⟩ i none false).at_ t else s.at_ t
    | none => s.at_ t)

/-- SLAVE_LAUNCH_REFERENCE: the launch reference of an accepted edge has come (01 R41, R42). -/
def execSlaveLaunchReference (t : Nat) (fadc madc : List (List Int)) (runs : List Nat) (cycles : Nat) (s : State) : Host.Outcome State Fault Refusal :=
  .next (match s.mrs.pendRefs with
    | (r, e) :: rest =>
      if s.slave && s.mrs.open_ && decide (r ≤ t) then
        (({ s with mrs := { s.mrs with pendRefs := rest } }).boundary ⟨fadc, madc, runs, cycles⟩ (max r s.launch) (some e) false).at_ t
      else s.at_ t
    | [] => s.at_ t)

/-- T_max, 2 x T where the image gives 0 (08 Table 8-7). -/
def State.tMax (s : State) : Nat := if s.fld F.MRS_TMAX.T_MAX = 0 then 2 * s.fld F.MRS_PERIOD.T else s.fld F.MRS_TMAX.T_MAX

/-- The current frame was opened for a missing edge. -/
def State.forMissing (s : State) : Bool := match s.cur with | some f => f.missing | none => false

/-- VIRTUAL_FRAME_TIMEOUT: no edge has been accepted within T_max of the last boundary, or within T of a virtual frame opened so
(01 R42). -/
def execVirtualFrameTimeout (t : Nat) (fadc madc : List (List Int)) (runs : List Nat) (cycles : Nat) (s : State) : Host.Outcome State Fault Refusal :=
  let i := s.launch + (if s.forMissing then s.fld F.MRS_PERIOD.T else s.tMax)
  .next (if s.slave && s.mrs.open_ && s.mrs.pendRefs.isEmpty && decide (i ≤ t) then
      (s.boundary ⟨fadc, madc, runs, cycles⟩ i none true).at_ t
    else s.at_ t)

end Sys2Proof.Machine
end

