-- ==== Sys2Proof/Machine/Pmu.lean ====
section
/-! DEFINITION. Power management: votes of the host and of units, the DMC port hold, and the log of accesses to blocks that
are off (17 R448, R449, R454, R455). Steps stand in PowerStep. -/

namespace Sys2Proof.Machine

/-- The HOST request of each domain takes new fields, AO reading 0; a changed vote for a disabled domain is reported once
(R448). -/
def State.hostVote (s : State) (w : Nat) : State :=
  let old := s.fld F.PMU_HOST_VOTE.VOTE
  let new := w % 2 ^ 26 - w % 4
  let s1 := s.setReg R.PMU_HOST_VOTE (w32 new)
  (domains.foldl (fun a d => if domField old d = domField new d then a else a.checkVote d (domField new d)) s1).repower

/-- A word of two bits per domain with the fields of some domains replaced. -/
def mergeVote (old new mask : Nat) : Nat :=
  domains.foldl (fun a d => a + 4 ^ d * (if bitAt mask d then domField new d else domField old d)) 0

/-- POWER_VOTE: PMU_HOST_VOTE is written, or a message updates the domains of its MASK and is answered with the HOST vote in
force (R448, 18 Table 18-4). -/
def execPowerVote (via : Via) (w : Word) (s : State) : Host.Outcome State Fault Refusal :=
  .next (s.withRequest via [0x0304] (fun s =>
    match via with
    | .reg _ => s.hostVote w.toNat
    | .msg _ _ =>
      let p := s.payload via
      let s1 := s.hostVote (mergeVote (s.fld F.PMU_HOST_VOTE.VOTE) (field p 0 4) (field p 4 4))
      s1.finish via .pmu 0 0 (leBytes 4 (s1.voteWord 0).toNat ++ zeros 4)))

/-- UNIT_VOTE: a unit's vote for a domain takes a value (R448, 01 R55): a fixed block or the GEA by TOP, the thermal program set
22, JTAG debug 23, engine e as 32 + e. A vote for AO, and a vote no owner takes, has no effect. -/
def execUnitVote (voter : Fin 96) (d : Fin 13) (v : Fin 4) (s : State) : Host.Outcome State Fault Refusal :=
  .next (if d.val = 0 ∨ ownerOf voter.val = 8 then s else (s.castVote voter.val d.val v.val).repower)

/-- DMC_PORT_RELEASE: the port has seen no request for DMC_IDLE_US (R449). -/
def execDmcPortRelease (t : Nat) (s0 : State) : Host.Outcome State Fault Refusal :=
  let s := s0.at_ t
  let quiet := s.dmc.waiting.isEmpty && s.dmc.lastReq.all (fun x => decide (x.2 + s.fld F.PMU_CFG.DMC_IDLE_US * usec ≤ s.now))
  .next (if s.pmu.dmcPortHold && quiet then ({ s with pmu := { s.pmu with dmcPortHold := false } }).repower else s)

/-- PMU_OFFLOG_STAT as it reads: LOST, and FILL of the ring. -/
def State.offlogStat (s : State) : Word := setBits (s.reg R.PMU_OFFLOG_STAT) 22 16 s.pmu.offlog.length

/-- Word `w` of the oldest PMU_OFFLOG entry as a read returns it: W0 latches the entry, W3 removes it (R455). -/
def State.offlogWord (s : State) (w : Nat) : State × Word :=
  let s1 : State := if w = 0 then { s with pmu := { s.pmu with offLatch := s.pmu.offlog.headD [] } } else s
  let v := s1.pmu.offLatch[w]?.getD 0
  if w = 3 then
    ({ s1 with pmu := { s1.pmu with
        offlog := if s1.pmu.offlog.head? = some s1.pmu.offLatch then s1.pmu.offlog.tail else s1.pmu.offlog, offLatch := [] } }, v)
  else (s1, v)

/-- OFFLOG_READ. The PMU lies in AO. -/
def execOfflogRead (_src : Src) (w : Fin 4) (s : State) : Host.Outcome State Fault Refusal :=
  let r := s.offlogWord w.val
  .next (r.1.give (.readData (R.PMU_OFFLOG_W0 + 4 * w.val) r.2.toNat))

/-- PMU_CTRL.COUNT_CLR. -/
def State.pmuCountClr (s : State) : State :=
  (List.range 13).foldl (fun a d => a.setFld (F.PMU_DOMd_STATUS.STEPS d) 0) (s.setFld F.PMU_OFFLOG_STAT.LOST 0)

def execPmuCountClr (_src : Src) (s : State) : Host.Outcome State Fault Refusal := .next s.pmuCountClr

/-- PMU_CTRL.OFFLOG_CLR: the ring is emptied. -/
def State.offlogClr (s : State) : State := { s with pmu := { s.pmu with offlog := [], offLatch := [] } }

def execOfflogClr (_src : Src) (s : State) : Host.Outcome State Fault Refusal := .next s.offlogClr

end Sys2Proof.Machine
end

