-- ==== Sys2Proof/Machine/BusRead.lean ====
section
/-! DEFINITION. Reads of BAR0 registers: the domain a register needs, registers that report live state, and reads with an effect
(00 R19-R23, 17 R454, R455, 23 R563-R566). -/

namespace Sys2Proof.Machine

/-- The block of an offset is on (17 R454). -/
def State.regOn (s : State) (off : Nat) : Bool := regDomain off == 0 || s.domOn (regDomain off)

/-- Index of an offset in a run of `n` registers from `base`, `stride` apart. -/
def indexOf (base stride n off : Nat) : Option Nat :=
  if base ≤ off ∧ (off - base) % stride = 0 ∧ (off - base) / stride < n then some ((off - base) / stride) else none

/-- STU_ZSTATE, STU_ZCOUNT and STU_ZTIMER of the selected zone (09 Table 9-14). -/
def State.stuZone (s : State) (off : Nat) : Word :=
  let z := s.fld F.STU_SEL.ZONE
  let x := tabGet (fun _ => (⟨0, 0, 0, 0, 0, 0, 0, false, false⟩ : TrigInst)) s.stu.insts z
  let has := match zoneOf s.znt.zones z with | some y => y.program != 0xFF | none => false
  if off = R.STU_ZSTATE then
    w32 ((if has then x.state else 0) + (if s.zoneDead z then 8 else 0) + (if has then 0 else 16) + 65536 * min 65535 (s.zdead z).dead)
  else if off = R.STU_ZCOUNT then (if has then w32 (min 65535 x.c0 + 65536 * min 65535 x.c1) else 0)
  else if has then w32 (min 65535 x.t0 + 65536 * min 65535 x.t1) else 0

/-- Registers of the chip's middle that report live state; none where the stored word is what reads. -/
def State.liveCore (s : State) (off : Nat) : Option Word :=
  if off = R.GLB_WDT_STATUS then some s.wdtStatus
  else if off = R.PMU_STATUS then some (setBits (s.reg off) 0 0 (if s.pmu.pwrfailPin && s.flag F.PMU_CFG.PWRFAIL_EN then 1 else 0))
  else if off = R.PMU_OFFLOG_STAT then some s.offlogStat
  else if off = R.PMU_ENABLE then some (s.reg off ||| 0xA03)
  else if off = R.MRS_FRAME_LO then some (w32 s.frame)
  else if off = R.MRS_FRAME_HI then some (w32 (s.frame / 2 ^ 32 % 65536))
  else if off = R.PGU_STATUS then some (setBits (s.reg off) 3 3 (if s.diagActive then 1 else 0))
  else if off = R.PGU_STAGGER then some (w32 (s.fld F.MRS_PERIOD.T / 2 ^ s.fld F.PGU_TONE_CFG.K_CODE))
  else if off = R.ZNT_ZINFO then some (w32 (zinfo s.znt.zones (s.fld F.ZNT_SEL.ZONE)))
  else if off = R.ZNT_ZBG then some (s.zoneBg (s.fld F.ZNT_SEL.ZONE) (s.fld F.ZNT_SEL.BAND))
  else if off = R.ZNT_ZRMS then some (s.zoneRms (s.fld F.ZNT_SEL.ZONE) (s.fld F.ZNT_SEL.BAND))
  else if inRange R.STU_ZSTATE R.STU_ZTIMER off then some (s.stuZone off)
  else if off = R.HIF_SESS_INFO then some s.sessInfo
  else if off = R.HIF_SESS_EXPECT then some s.sessExpect
  else if off = R.HIF_VLOG_STAT then some s.vlogStat
  else if inRange R.ALM_IND_INFO R.ALM_IND_REMAIN_EARLY off then some (s.indReg off)
  else none

/-- A register as it reads, without the effect of a read. -/
def State.busPeek (s : State) (off : Nat) : Word :=
  match s.liveCore off with
  | some w => w
  | none => match (if inRange 0xC00000 0xCFFFFF off then s.ancLive off else none) with
    | some w => w
    | none => match indexOf (R.PMU_VOTEo 0) 4 8 off with
      | some o => s.voteWord o
      | none => match indexOf (R.PMU_DOMd_STATUS 0) 4 13 off with
        | some d => s.domWord d
        | none => match indexOf (R.MRS_GROUPg_STATUS 0) 4 64 off with
          | some g => setBits (s.reg off) 19 16 (s.groupHealth g)
          | none => s.reg off

/-- Reads with an effect (14 R390, R405, R407, 17 R455, 18 R472); the PGU has emitted and counted every sample before a read of its
registers (03 R99). -/
def State.readEffect (s : State) (off : Nat) : Option (State × Word) :=
  if inRange 0x400000 0x4FFFFF off then
    let s1 := s.synthTo (2 * s.now)
    some (s1, s1.busPeek off)
  else if off = R.TTU_FREQ_OFFSET then some (s, w32 (unsigned 32 s.steerNow))
  else if off = R.TTU_NOW_LO then some (s.latchNow, s.latchNow.reg R.TTU_NOW_LO)
  else match indexOf R.PMU_OFFLOG_W0 4 4 off with
  | some w => some (s.offlogWord w)
  | none => match indexOf R.HIF_VLOG_W0 4 4 off with
  | some w => some (s.vlogWord w)
  | none => match (List.range 12).findSome? (fun q => (indexOf (queueOff q 0) 4 3 off).map (fun w => (q, w))) with
  | some x => some (s.queueWord x.1 x.2)
  | none => match indexOf (R.TTU_IUu_MEAN_LO 0) 0x80 4 off with
  | some u => some (s.iuMeanRead u, s.reg off)
  | none => match indexOf (R.TTU_IUu_COUNT 0) 0x80 4 off with
  | some u => some (s.iuCountRead u, s.reg off)
  | none => none

/-- A 32-bit read of a BAR0 offset by a source: 0 and a log entry where the block is off, 0 where no register is. -/
def State.busRead (s : State) (src : Src) (off : Nat) : State × Word :=
  if !s.regOn off then (s.logOff src false false off (regDomain off), 0)
  else if (famOf off).isNone then (s, 0)
  else match s.readEffect off with
    | some r => r
    | none => (s, s.busPeek off)

/-- Consecutive reads in ascending offset (18 R461). -/
def State.busReads (src : Src) : Nat → Nat → State → State × List Word
  | 0, _, s => (s, [])
  | n + 1, off, s =>
    let r := s.busRead src off
    let q := State.busReads src n (off + 4) r.1
    (q.1, r.2 :: q.2)

/-- Source of a register access by message: a forwarded request is the cascade head's (18 R476). -/
def originSrc : Origin → Src
  | .session _ => .host
  | .chorus _ => .cascade

/-- OFFSET and COUNT of REG_READ and REG_WRITE fit: dword-aligned, 1 to 8 words inside BAR0 (18 R478). -/
def regArgs (p : List Byte) : Option (Nat × Nat) :=
  let off := field p 0 4
  let n := field p 4 4
  if off % 4 = 0 ∧ 1 ≤ n ∧ n ≤ 8 ∧ off + 4 * n ≤ 2 ^ 24 then some (off, n) else none

/-- REG_READ. -/
def execRegRead (o : Origin) (seq : Word) (t : Nat) (s0 : State) : Host.Outcome State Fault Refusal :=
  let s := s0.at_ t
  .next (s.withRequest (.msg o seq) [0x0901] (fun s =>
    match regArgs (s.payload (.msg o seq)) with
    | none => s.answer o seq HifCode.badArg Unit.hif.top 0 []
    | some (off, n) =>
      let r := State.busReads (originSrc o) n off s
      r.1.answer o seq 0 Unit.hif.top 0 (r.2.flatMap (fun w => leBytes 4 w.toNat))))

end Sys2Proof.Machine
end

