-- ==== Sys2Proof/Machine/Bus.lean ====
section
/-! DEFINITION. Writes of BAR0 registers: by the access codes of their fields, with the actions, ranges and conditions that the
register tables of the blocks state (00 R19-R23, 02 R88, 17 R454, 18 R461, 23 R564). -/

namespace Sys2Proof.Machine

/-! ### Shared -/

/-- The actions of the bits of a control register that are written 1, lowest bit first. -/
def State.ctrlBits (s : State) (w : Word) (acts : List (Nat × (State → State))) : State :=
  acts.foldl (fun a x => if bitAt w.toNat x.1 then x.2 a else a) s

/-- More than one of the lowest `n` bits is written 1. -/
def manyBits (w : Word) (n : Nat) : Bool := decide (1 < ((List.range n).filter (fun i => bitAt w.toNat i)).length)

/-- A discarded write to an RWL field is recorded (02 R88). -/
def State.lockViolation (s : State) (src : Src) (off : Nat) : State :=
  let s1 := (s.count F.SIL_LOCK_COUNT.COUNT 1).setFld F.SIL_LOCK_ADDR.OFFSET off
  let s2 := (s1.setFld F.SIL_LOCK_SRC.SOURCE (srcCode src)).setFld F.SIL_LOCK_SRC.BIN s.bin
  let s3 := (s2.setReg R.SIL_LOCK_FRAME_LO (w32 s.frame)).setFld F.SIL_LOCK_FRAME_HI.FRAME_HI (s.frame / 2 ^ 32)
  s3.raise .sil F.SIL_IRQ_STATUS.LOCK_VIOL

/-- A write acts on a register's fields by their access codes (00 Table 0-4, R20). -/
def State.plainWrite (s : State) (src : Src) (f : RegFam) (off : Nat) (w : Word) : State :=
  let old := s.reg off
  let s1 := if s.imageActive && ((old ^^^ w) &&& f.maskOf .rwl) != 0 then s.lockViolation src off else s
  (s1.setReg off (f.applyWrite s.imageActive (s1.reg off) w)).settleIrq

/-! ### Actions of the control registers -/

/-- GLB, PMU and SIL. -/
def State.writeGlb (s : State) (src : Src) (env : BusEnv) (off : Nat) (w : Word) : Option State :=
  if off = R.GLB_CTRL then some (s.ctrlBits w [(0, State.causeClr), (1, State.warmReq), (2, State.glbCountClr)])
  else if off = R.GLB_WDT_CFG then
    let s1 := (s.setFld F.GLB_WDT_CFG.TIMEOUT_MS w.toNat).setFld F.GLB_WDT_CFG.FLUSH (w.toNat / 2 ^ 17)
    some (if bitAt w.toNat 16 then s1.wdtStart else s1)
  else if off = R.GLB_WDT_KICK then some (s.wdtKick w)
  else if off = R.PMU_CTRL then some (s.ctrlBits w [(0, State.pmuCountClr), (1, State.offlogClr)])
  else if off = R.PMU_HOST_VOTE then some (s.hostVote w.toNat)
  else if off = R.SIL_CTRL then
    let via : Via := .reg src
    let s1 := if manyBits w 4 then s.post .sil SilCode.busy s.pendState
      else s.ctrlBits w [(0, fun a => a.switchNext via), (1, fun a => a.switchAt via), (2, fun a => a.disarm via env.next),
        (3, fun a => a.imageAbort via env.next)]
    some (s1.ctrlBits w [(4, State.lockClr)])
  else if off = R.SIL_KEY_CFG then
    some (s.setReg off (w32 (w.toNat % 16 &&& s.otp.keyEnable.toNat) ||| (w &&& 0x10)))
  else none

/-- MRS, PGU and the front ends. -/
def State.writeMrs (s : State) (src : Src) (off : Nat) (w : Word) : Option State :=
  let via : Via := .reg src
  if off = R.MRS_CTRL then
    let s1 := if manyBits w 2 then s else s.ctrlBits w [(0, fun a => a.acqStart via), (1, fun a => a.acqStop via)]
    some (s1.ctrlBits w [(2, State.mrsCountClr), (3, State.mrsHealthClr), (4, State.mrsRebalance)])
  else if off = R.PGU_CTRL then
    let cal (a : State) : State := match a.calRefusal with
      | some c => a.finish via .pgu c 0
      | none => (a.calBegin).finish via .pgu 0 0
    some (s.ctrlBits w [(0, cal), (1, State.pguFaultClr), (2, State.pguCountClr)])
  else if off = R.FAFE_CTRL then
    some (s.ctrlBits w [(0, State.fafeCalReq), (1, State.fafeCountClr), (2, State.stepcalReq), (3, State.fafeFaultClr)])
  else if off = R.MAFE_CTRL then
    some (s.ctrlBits w [(0, State.mafeCalReq), (1, State.mafeCountClr), (3, State.mafeFaultClr)])
  else none

/-- PCX and the GEA. -/
def State.writePcx (s : State) (src : Src) (off : Nat) (w : Word) : Option State :=
  let via : Via := .reg src
  if off = R.PCX_CTRL then
    let s1 := if manyBits w 3 then s.finish via .pcx PcxCode.tfBusy 0
      else s.ctrlBits w [(0, fun a => a.tfLoad via), (1, fun a => a.tfCommit via), (2, fun a => a.tfDiscard via)]
    some (s1.ctrlBits w [(3, State.pcxCountClr), (4, fun a => a.pcxFaultClr.thenStart a)])
  else if inRange 0x601000 0x601FFF off ∧ s.tfState = Tf.applying then some s
  else if off = R.GEA_CTRL then
    let s1 := if manyBits w 2 then s else s.ctrlBits w [(0, State.haltReq), (1, State.resumeGroups)]
    some (s1.ctrlBits w [(2, State.geaFaultClr), (3, State.geaDoorbell), (4, State.geaCountClr)])
  else none

/-- ZNT, STU and TCE. -/
def State.writeZnt (s : State) (src : Src) (off : Nat) (w : Word) : Option State :=
  let via : Via := .reg src
  if off = R.ZNT_CTRL then
    some (s.ctrlBits w [(0, fun a => a.setReg R.ZNT_CHANGE_COUNT 0), (1, fun a => (a.blkFaultClr .znt F.ZNT_STATUS.STATE).thenStart a),
      (2, State.zntStatsReset)])
  else if off = R.STU_CTRL then
    some (s.ctrlBits w [(0, State.stuCountClr), (1, fun a => (a.blkFaultClr .stu F.STU_STATUS.STATE).thenStart a)])
  else if off = R.STU_CMD then
    some (match bitsOf w 10 8 with
      | 0 => s
      | 1 => s.capArmReq via w
      | 2 => s.capDisarmReq via w
      | 3 => s.capTriggerReq via w
      | 4 => s.capLengthReq via w
      | _ => State.capFinish via (w.toNat % 64) (s, StuCode.badArg))
  else if off = R.TCE_CTRL then
    some (s.ctrlBits w [(0, State.tceCountClr), (1, fun a => (a.blkFaultClr .tce F.TCE_STATUS.STATE).thenStart a)])
  else none

/-- A FORMAT by register: the key is cleared by every request (12 R376). -/
def State.formatReg (s : State) (src : Src) : State :=
  let via : Via := .reg src
  let key := (s.reg R.ANC_FORMAT_KEY).toNat
  let s1 := s.setReg R.ANC_FORMAT_KEY 0
  let st := s1.ancState
  if st = Anc.off then s1.finish via .anc AncCode.notMounted 0
  else if st ≠ Anc.unformatted ∧ st ≠ Anc.fault then s1.finish via .anc AncCode.busy 0
  else if key ≠ 0x464F524D then s1.finish via .anc AncCode.badArg 0
  else ((s1.setFld F.ANC_STATUS.STATE Anc.formatting).finish via .anc 0 0).ancVote

/-- ANC and DMC. -/
def State.writeAnc (s : State) (src : Src) (off : Nat) (w : Word) : Option State :=
  let via : Via := .reg src
  if off = R.ANC_CTRL then
    some (s.ctrlBits w [(0, fun a => a.formatReg src),
      (1, fun a => a.whenReady via (fun b => ((b.onAnc (fun c => { c with waits := c.waits ++ [.commit via] })).wantCommit).ancStep)),
      (2, fun a => a.whenReady via (fun b => (b.patrolNow).finish via .anc 0 0)), (3, State.ancCountClr), (4, State.ancFaultClr)])
  else if off = R.DMC_CTRL then
    some (s.ctrlBits w [(0, State.dmcInit), (1, fun a => if a.glb.warm then a else a.dramReset), (2, State.dmcCountClr), (3, State.scrubStart)])
  else if inRange R.DMC_GEOM R.DMC_TIMING3 off ∧ s.dmcState ≠ Dmc.off then some s
  else if off = R.DMC_DIAG_ADDR_LO then some (s.setReg off (w &&& 0xFFFFFFE0))
  else if off = R.DMC_DIAG_CTRL then some (if bitAt w.toNat 0 then s.dmcDiag else s)
  else none

/-- CVU: CTRL, and the registers of a channel. -/
def State.writeCvu (s : State) (env : BusEnv) (off : Nat) (w : Word) : Option State :=
  if off = R.CVU_CTRL then some (s.ctrlBits w [(0, fun a => a.setReg R.CVU_REFUSED 0)])
  else
    let n := (off - 0xD80100) / 0x40
    let r := (off - 0xD80100) % 0x40
    if !inRange 0xD80100 0xD802FF off then none
    else match r with
      | 0x00 => some (s.cvuCfg n w)
      | 0x04 => some (s.ctrlBits w [(0, fun a => a.cvuInit n), (1, fun a => a.cvuGo n), (2, fun a => a.cvuAbort n env.done)])
      | 0x08 => some (s.cvuData n w)
      | 0x18 | 0x1C | 0x20 | 0x24 => some (s.cvuContext n off w)
      | _ => none

/-- A value out of a TTU register's range (14 Tables 14-6, 14-7). -/
def ttuBad (off : Nat) (w : Word) : Bool :=
  let b := bitsOf w
  if off = R.TTU_REF_CFG then decide (13 ≤ b 7 4) || b 15 8 == 0
  else if off = R.TTU_PPS_CFG then b 15 0 == 0 || decide (50000 < b 15 0)
  else if off = R.TTU_HOLD_CFG then b 15 0 == 0 || b 31 16 == 0
  else match indexOf (R.TTU_CHc_CFG 0) 0x40 8 off with
    | some c => b 1 0 == 3 || (decide (4 ≤ c) && b 1 0 != 0) || decide (11 ≤ b 11 8) || (decide (c < 4) && b 11 8 != 0)
    | none => match indexOf (R.TTU_CHc_TIMING 0) 0x40 8 off with
      | some c => decide (c < 4) && b 15 0 == 0
      | none => false

/-- TTU. -/
def State.writeTtu (s : State) (src : Src) (f : RegFam) (off : Nat) (w : Word) : Option State :=
  let via : Via := .reg src
  if off = R.TTU_CTRL then
    let s1 := if manyBits w 3 then s.post .ttu TtuCode.badConfig 0
      else s.ctrlBits w [(0, fun a => a.setNow via), (1, fun a => a.setAtPps via), (2, fun a => a.cancelSet via)]
    some (s1.ctrlBits w [(3, State.ttuCountClr)])
  else if off = R.TTU_ARM then some (s.ttuArmWrite w.toNat)
  else if ttuBad off w then some (s.post .ttu TtuCode.badConfig ((off - 0xE00000) / 4))
  else if off = R.TTU_REF_CFG then some (s.plainWrite src f off w).refsWritten
  else match indexOf (R.TTU_IUu_CFG 0) 0x80 4 off with
    | some u => some (s.iuCfgWrite u false w)
    | none => match indexOf (R.TTU_IUu_N 0) 0x80 4 off with
      | some u => some (s.iuCfgWrite u true w)
      | none => match indexOf (R.TTU_CHc_CFG 0) 0x40 8 off with
        | some c => some ((s.plainWrite src f off w).chanCfgWritten s c)
        | none => none

/-- VPF and DLK. -/
def State.writeVpf (s : State) (src : Src) (off : Nat) (w : Word) : Option State :=
  if off = R.VPF_CTRL then
    some (s.ctrlBits w [(0, State.vpfPause), (1, State.vpfResume), (2, fun a => a.setReg R.VPF_DISCARD 0), (3, State.vpfFaultClr),
      (4, State.vpfCalReq)])
  else if off = R.DLK_CTRL then
    let clear (a : State) : State := if a.dlkState = Dlk.fault then
        match a.dlkCheck with
        | some d => a.post .dlk DlkCode.badConfig d
        | none => (a.show .dlk 0 0).dlkInit
      else a
    let counts (a : State) : State :=
      (List.range 32).foldl (fun b i => if i = 0 then b else b.setReg (R.DLK_DEVd_COUNT i) 0) (a.setReg R.DLK_ERR_COUNT 0)
    some (s.ctrlBits w [(0, State.dlkSafe), (1, fun a => if a.dlkState = Dlk.safe then a.dlkInit else a), (2, clear),
      (3, fun a => a.dlkHost (.reg src)), (4, counts)])
  else (indexOf (R.VPF_CHc_EXC 0) 0x40 8 off).map (fun c => s.vpfExcWrite c w s.now)

/-- HIF_SESS_CTRL (18 Table 18-9). -/
def State.sessCtrl (s : State) (src : Src) (w : Word) : State :=
  let n := w.toNat % 256
  match bitsOf w 9 8 with
  | 0 => s
  | 1 => s.session0Open n
  | 2 => if (s.session n).isNone then s.sessionResult (.reg src) HifCode.badState n else (s.closeSession n).sessionResult (.reg src) 0 n
  | _ =>
    if (s.session n).isNone then s.sessionResult (.reg src) HifCode.badState n
    else (s.reopenSession (Fin.ofNat 256 n) (s.reg R.HIF_SESS_NEXT)).sessionResult (.reg src) 0 n

/-- HIF. The EN bits of the reserved sources 22 and 23 take no write. -/
def State.writeHif (s : State) (src : Src) (env : BusEnv) (f : RegFam) (off : Nat) (w : Word) : Option State :=
  if off = R.HIF_CTRL then some (s.ctrlBits w [(0, State.hifCountClr), (1, State.vlogClr)])
  else if off = R.HIF_SESS_CTRL then some (s.sessCtrl src w)
  else if off = R.HIF_IRQ_MAPm 5 then some (s.plainWrite src f off (w &&& 0x7F7FFFFF))
  else match indexOf (R.HIF_SQ_TAILs 0) 4 256 off with
    | some n => some (s.doorbell (Fin.ofNat 256 n) (w.toNat % 4096) env.slots)
    | none => match indexOf (R.HIF_CQ_HEADs 0) 4 256 off with
      | some n => some (s.takeHead (Fin.ofNat 256 n) (w.toNat % 4096))
      | none => match indexOf (R.HIF_STRc_CFG 0) 0x20 32 off with
        | some c => some (s.streamCfg c w)
        | none => match indexOf (R.MSIX_TABLEv_CONTROL 0) 0x10 64 off with
          | some v => if bitAt w.toNat 0 then none else some (s.msixUnmask v)
          | none => none

/-- CSP and ALM. -/
def State.writeAlm (s : State) (off : Nat) (w : Word) : Option State :=
  if off = R.CSP_CTRL then
    some (s.ctrlBits w [(0, fun a => if a.cspState = Csp.off then a else a.cspTrain),
      (1, fun a => if a.cspState = Csp.head then a.ccStart else a), (2, fun a => a.cspReopen (bitsOf w 6 3)), (7, State.cspCountClr)])
  else if off = R.ALM_CTRL then some (s.ctrlBits w [(0, State.almCountClr), (1, State.submitHist)])
  else if off = R.ALM_IND_LIMIT then
    let id := s.fld F.ALM_IND_SEL.ID
    some (s.setIndicator id { s.indicator id with limit := w.toNat })
  else none

/-- A write with an action, a range or a condition of its own; none where the fields' access codes say it all. -/
def State.writeAction (s : State) (src : Src) (env : BusEnv) (f : RegFam) (off : Nat) (w : Word) : Option State :=
  if off < 0x300000 then s.writeGlb src env off w
  else if off < 0x600000 then s.writeMrs src off w
  else if off < 0x700000 then s.writePcx src off w
  else if off < 0x800000 then s.writeMrs src off w
  else if off < 0x900000 then s.writePcx src off w
  else if off < 0xC00000 then s.writeZnt src off w
  else if off < 0xD80000 then s.writeAnc src off w
  else if off < 0xE00000 then s.writeCvu env off w
  else if off < 0xE80000 then s.writeTtu src f off w
  else if off < 0xF00000 then s.writeVpf src off w
  else if off < 0xF40000 then s.writeHif src env f off w
  else s.writeAlm off w

/-- A 32-bit write of a BAR0 offset by a source: discarded and logged where the block is off, discarded where no register is.
The PMU follows its own registers. -/
def State.busWrite (s0 : State) (src : Src) (env : BusEnv) (off : Nat) (w : Word) : State :=
  if !s0.regOn off then s0.logOff src false true off (regDomain off)
  else
    let s := if inRange 0x400000 0x4FFFFF off then s0.synthTo (2 * s0.now) else s0
    match famOf off with
    | none => s
    | some f => match s.writeAction src env f off w with
      | some s1 => s1
      | none =>
        let s1 := s.plainWrite src f off w
        if inRange R.PMU_CFG R.PMU_RETAIN off then s1.repower.pwrfailSample
        else if off = R.PGU_CAL_CFG ∨ off = R.PGU_IQ_OFFSET ∨ off = R.PGU_IQ_GAIN then s1.pguShown else s1

/-- Consecutive writes in ascending offset (18 R461). -/
def State.busWrites (src : Src) (env : BusEnv) : Nat → List Word → State → State
  | _, [], s => s
  | off, w :: ws, s => State.busWrites src env (off + 4) ws (s.busWrite src env off w)

/-! ### Commands -/

/-- REGISTER_WRITE: a BAR0 write; with partial byte enables it is discarded and logged, and an access to
a block that is off is logged as every such access is (00 R23, 18 R461). -/
def execRegisterWrite (src : Src) (off : BitVec 24) (be : Fin 16) (w : Word) (env : BusEnv) (s0 : State) : Host.Outcome State Fault Refusal :=
  let s := s0.at_ env.t
  let a := off.toNat / 4 * 4
  .next (if be.val ≠ 15 then (if s.regOn a then s else s.logOff src false true a (regDomain a)).post .hif HifCode.partialWrite (a / 4)
    else s.busWrite src env a w)

/-- REG_WRITE. -/
def execRegWrite (o : Origin) (seq : Word) (env : BusEnv) (s0 : State) : Host.Outcome State Fault Refusal :=
  let s := s0.at_ env.t
  .next (s.withRequest (.msg o seq) [0x0902] (fun s =>
    let p := s.payload (.msg o seq)
    match regArgs p with
    | none => s.answer o seq HifCode.badArg Unit.hif.top 0 []
    | some (off, n) =>
      (State.busWrites (originSrc o) env off ((List.range n).map (fun i => w32 (field p (8 + 4 * i) 4))) s).answer o seq 0 Unit.hif.top 0 []))

/-- OFF_ACCESS: an access to a block or a tile that is not on reads 0 or is discarded, and is logged (17 R454, R455). -/
def execOffAccess (src : Accessor) (aperture write : Bool) (off : BitVec 26) (t : Nat) (s0 : State) : Host.Outcome State Fault Refusal :=
  let s := s0.at_ t
  let n := if aperture then off.toNat else off.toNat % 2 ^ 24 / 4 * 4
  let d := if aperture then 2 + n / 2 ^ 24 else regDomain n
  .next (if d = 0 ∨ s.domOn d then s
    else
      let s1 := s.logOffBy (accessorCode src) aperture write n d
      if write then s1 else s1.give (.readData n 0))

end Sys2Proof.Machine
end

