-- ==== Sys2Proof/Machine/Forward.lean ====
section
/-! DEFINITION. What an engine group hands over and takes: outputs pushed to OUTQ, dispatch descriptors popped from DISPQ, and the
lanes' DMA channels (07 R234, R235, 08 R256-R259). -/

namespace Sys2Proof.Machine

/-! ### Outputs (08 R258, R259) -/

/-- An output descriptor (08 Table 8-3). -/
structure OutDesc where
  block : Nat
  chan : Nat
  final : Bool
  addr : Nat
  len : Nat
  lateOff : Nat
  qwOff : Nat
  qwCount : Nat
  deriving DecidableEq, Repr

/-- Its 24 bytes. -/
def readOutDesc (b : Bytes) : OutDesc :=
  ⟨field b 0 2, field b 2 1, bitAt (field b 3 1) 0, field b 4 4, field b 8 4, field b 0xC 4, field b 0x10 4, field b 0x14 4⟩

/-- A bit of a little-endian word of an output is set. -/
def markBit (b : Bytes) (off bit : Nat) : Bytes := modAt b (off + bit / 8) (fun x => x ||| BitVec.ofNat 8 (2 ^ (bit % 8)))

/-- The marks of a late block: bit 0 at LATE_OFF, bit 15 of each quality word (R259). -/
def OutDesc.mark (d : OutDesc) (b : Bytes) : Bytes :=
  let b1 := if d.lateOff = 0xFFFFFFFF then b else markBit b d.lateOff 0
  (List.range (min 4096 d.qwCount)).foldl (fun a i => markBit a (d.qwOff + 4 * i) 15) b1

/-- A late block is counted. -/
def State.blockLate (s : State) (g frame : Nat) : State :=
  ((s.count F.MRS_LATE_COUNT.COUNT 1).raise .mrs F.MRS_IRQ_STATUS.LATE).markLate g frame

/-- BLOCK_FORWARD: an output, at its place in engine memory, goes out with the header of its frame, to its channel and to the taps of STRAIN_RATE. -/
def State.forward (s : State) (g : Nat) (d : OutDesc) (place : Option (Nat × Nat)) (header out : Bytes) : State :=
  let data := header ++ out
  let s1 := s.streamOut d.chan (.engine g (s.grp g).pushes place) data
  match s.channelFor (field header 8 6) d.chan with
  | some ch => if ch.product = 2 then s1.tapStrain data else s1
  | none => s1

/-- A group runs the Rayleigh program set (05 R150). -/
def State.linked (s : State) (g : Nat) : Bool :=
  (imgSections s.engImage).any (fun x => x.type == Sec.engineProgram && field x.payload 0 2 == g && Config.linksRayleigh x.payload)

/-- A product that a program set forms (05 R174, 06 R207). -/
def fixedProduct (product : Nat) : Bool := inRange 1 3 product || inRange 0x11 0x13 product

/-- Where an output of a program set carries LATE and its quality words (05 Tables 5-2, 5-3, 06 Table 6-4). -/
def OutDesc.placed (d : OutDesc) (product : Nat) (out : Bytes) : OutDesc :=
  if product ≥ 0x11 then { d with lateOff := 2, qwCount := 0 }
  else
    let n := field out 8 4
    { d with lateOff := 14, qwOff := 32 + 4 * field out 2 1 * n, qwCount := if product = 3 then 0 else n }

/-- The output that a push of block `y` hands over, with its descriptor: of a program set's product the next block it has formed, none where
it has formed none or the thermal set is in PARAM_FAULT (06 R210); of any other what lies at ADDR. -/
def State.pushed (s : State) (g e : Nat) (d : OutDesc) (y : Dispatch) : State × OutDesc × Option Bytes :=
  let product := match s.channelFor y.frame d.chan with | some ch => ch.product | none => 0
  let src := match s.streams.find? (fun x => x.1 = y.stream) with | some (_, st) => st.source | none => 3
  if !fixedProduct product || !(productsOf src).contains product || (src == 0 && !s.linked g) then (s, d, some (s.localBytes e d.addr d.len))
  else if src ≠ 0 ∧ s.therm.prog = Therm.paramFault then (s, d, none)
  else match s.mrs.expect.find? (fun x => x.frame == y.frame && x.block == y.block && x.product == product) with
    | some x => match x.data with
      | b :: rest =>
        let l := s.mrs.expect.map (fun z => if z == x then { x with data := rest } else z)
        ({ s with mrs := { s.mrs with expect := l } }, d.placed product b, some b)
      | [] => (s, d, none)
    | none => (s, d, none)

/-- A push of engine `e` of group `g`: the descriptor at an engine-local address. A push that names no block the group holds has no
frame and goes nowhere. Every output pushed after the deadline carries LATE (05 R180, 06 R208); the block is late with its FINAL push
(R259). -/
def State.outPush (s : State) (g e addr : Nat) : State :=
  let d := readOutDesc (s.localBytes e addr 24)
  let x := s.grp g
  let s1 := (s.setGrp g { x with pushes := x.pushes + 1 }).tceAge g
  match x.open_.find? (fun y => y.block == d.block) with
  | none => s1
  | some y =>
    let late := s1.isLate y.frame (s1.fixedDeadline y)
    let q := s1.pushed g e d y
    let s2 := q.1
    let b := s2.blk y.block
    let s3 := (if d.final then (s2.setGrp g { s2.grp g with open_ := (s2.grp g).open_.erase y }).rayCommit y.frame y.block else s2).setBlk y.block
      { b with
        lost := if d.final then b.lost.filter (fun n => decide (y.frame < n)) else b.lost
        chans := if b.chans.contains d.chan then b.chans else b.chans ++ [d.chan] }
    let s4 := if late && d.final then s3.blockLate g y.frame else s3
    match q.2.2 with
    | none => s4.pumpQueue
    | some out =>
      let out1 := if late then q.2.1.mark out else out
      let s5 := match localAddr e d.addr with
        | some ap => s4.setEmem ap out1
        | none => s4
      let thermal := match s5.channelFor y.frame d.chan with | some ch => inRange 0x11 0x13 ch.product | none => false
      let s6 := if late && thermal then
          ({ s5 with therm := { s5.therm with late := satSucc (2 ^ 32 - 1) s5.therm.late } }).thermStatus
        else s5
      (s6.forward g d ((localAddr e d.addr).map (fun ap => (ap, out1.length))) y.header out1).pumpQueue

/-! ### Dispatch descriptors (07 R234, 08 R256) -/

/-- Engine-local address at which engine `e` of a group finds ring entry `n`. -/
def State.popAddr (g : Group) (e n : Nat) : Word :=
  if e = g.lowest ∨ g.kind ≠ 0 then w32 (ringAddr n)
  else if e / 4 = g.lowest / 4 then w32 (0x200000 + g.lowest % 4 * 0x20000 + ringAddr n)
  else Config.farRing e n

/-- The program sets take what a popped descriptor names (05 R150, 06 R184). -/
def State.takeBlock (s : State) (g : Nat) (d : Dispatch) : State :=
  match s.streams.find? (fun x => x.1 = d.stream) with
  | none => s
  | some (_, st) =>
    if st.source = 0 then (if s.linked g then s.rayTake d.frame d.block else s)
    else if st.source = 3 then s
    else s.thermTake st.source d.frame d.block

/-- The next descriptor is popped for a stream; 0 where the queue is empty. -/
def State.dispqPop (s : State) (k : Nat) : State × Word :=
  match s.groupOf k with
  | none => (s, 0)
  | some (i, g) =>
    let x := s.grp i
    match x.ring with
    | [] => (s, 0)
    | d :: rest => (((s.setGrp i { x with ring := rest, open_ := x.open_ ++ [d], popped := x.popped + 1 }).takeBlock i d).pumpQueue, State.popAddr g k x.popped)

/-! ### DMA channels (07 R234, R235) -/

/-- A lane's DMA channel. -/
def State.dma (s : State) (e : Nat) : Dma := (s.lane e).dma
def State.setDma (s : State) (e : Nat) (d : Dma) : State := s.setLane e { s.lane e with dma := d }

/-- A span of engine-local addresses is mapped. -/
def spanMapped (e a n : Nat) : Bool :=
  match localAddr e a, localAddr e (a + n - 1) with
  | some x, some y => n != 0 && x + (n - 1) == y
  | _, _ => false

/-- A GO of a lane's channel lies inside the group's spill region and mapped memory. -/
def State.dmaOk (s : State) (e : Nat) : Bool :=
  let d := s.dma e
  match s.groupOf e with
  | some (i, _) =>
    let r := Config.spillRegion i
    decide (r.1 ≤ d.dram) && decide (d.dram + d.len ≤ r.1 + r.2) && spanMapped e d.localAddr d.len
  | none => false

/-- A store of GO: refused while BUSY. `toLocal`: from DRAM. -/
def State.dmaStart (s : State) (e : Nat) (toLocal : Bool) : State :=
  let d := s.dma e
  s.setDma e (if d.busy then { d with refused := true } else { d with busy := true, toLocal := toLocal })

/-- A transfer has ended: DMA_DONE is pending in the lane's stream. -/
def State.dmaEnd (s : State) (e : Nat) : State :=
  let s1 := s.setDma e { s.dma e with busy := false }
  match s1.streamOf e with
  | some k => s1.setPend k 3
  | none => s1

/-- The engine of a lane's channel faults in a transfer (R245). -/
def State.dmaFault (s : State) (e : Nat) : State :=
  let k := (s.streamOf e).getD e
  (s.setDma e { s.dma e with busy := false }).engineFault e k GeaCode.eccFail GeaCode.eccFail (s.thread k).pc

/-- DMA_DONE: a transfer in progress is made, while the DMC serves it; a word of engine memory with two upset bits faults the engine (07
R235, R245, 01 R59). -/
def execDmaDone (e : Fin 64) (ecc : Upsets) (s0 : State) : Host.Outcome State Fault Refusal :=
  let s := s0.upset ecc
  let e := e.val
  let d := s.dma e
  .next (if !d.busy ∨ !s.dmcCan ⟨enginePath e, 2, !d.toLocal, d.dram, s.localBytes e d.localAddr d.len, d.len, s.now⟩ then s
    else match localAddr e d.localAddr with
      | none => s.dmaEnd e
      | some ap =>
        if d.toLocal then
          let r := s.dramRead (enginePath e) 2 d.dram d.len
          match r.2 with
          | some b => (r.1.setEmem ap b).dmaEnd e
          | none => r.1
        else if !(s.upsetIn ap d.len true).isEmpty then s.dmaFault e
        else ((s.eccRead ap d.len).dramWrite (enginePath e) 2 d.dram (s.emem ap d.len)).dmaEnd e)

end Sys2Proof.Machine
end

