-- ==== Sys2Proof/Machine/GeckoCore.lean ====
section
/-! DEFINITION. A Gecko engine issues an instruction: its word and fields, which lanes it acts in, the restrictions whose breach is
ILLEGAL, faults, loops, delay slots and repeats (07 R213-R215, R220-R226, R238, R239, R244). -/

namespace Sys2Proof.Machine

/-! ### Words and registers (Tables 7-1, 7-3) -/

/-- A field of an instruction word. -/
def wBits (w hi lo : Nat) : Nat := w / 2 ^ lo % 2 ^ (hi + 1 - lo)

/-- The instruction word at an index of a stream. -/
def State.insn (s : State) (k pc : Nat) : Nat := leNat (s.emem (imemBase k + 8 * pc) 8)

/-- CLASS and OP. -/
def wCls (w : Nat) : Nat := wBits w 63 60
def wOp (w : Nat) : Nat := wBits w 55 48

/-- A data register of a bank by its name (R224). -/
def Bank.reg (b : Bank) (n : Nat) : Word := b.dr.getD (drIndex b.rrb n) 0

/-- A predicate of a bank. -/
def Bank.pred (b : Bank) (n : Nat) : Bool := n == 0 || bitAt b.pd.toNat n

/-- Low and high lane of a register, as signed numbers. -/
def loLane (w : Word) : Int := signed 16 (w.toNat % 2 ^ 16)
def hiLane (w : Word) : Int := signed 16 (w.toNat / 2 ^ 16)

/-- A register of two lanes. -/
def lanesWord (hi lo : Int) : Word := w32 (unsigned 16 hi * 2 ^ 16 + unsigned 16 lo)

/-- Redundant sign bits of a `k`-bit number (R218). -/
def redundant (k : Nat) (z : Int) : Nat :=
  let m := (if z < 0 then -z - 1 else z).toNat
  k - 1 - (if m = 0 then 0 else m.log2 + 1)

/-- A register of a stream's lane, by its name; a name past DR31 holds an undefined value (ROT, ST64 of DR31). -/
def State.readDr (s : State) (k lane n : Nat) : Word × State :=
  if n < 32 then ((s.bankOf k lane).reg n, s)
  else
    let r := s.freeBytes 4
    (w32 (leNat r.1), r.2)

/-- A result for a data register is issued. -/
def State.flyDr (s : State) (k lane latency name : Nat) (v : Word) : State :=
  if name < 32 then s.fly k lane latency false (.dr (drIndex (s.bankOf k lane).rrb name) v) else s

/-- Sticky ESR bits are issued with a result. -/
def State.flySticky (s : State) (k lane latency bit : Nat) (b : Bool) : State :=
  if b then s.fly k lane latency false (.flags (w32 (2 ^ bit)) 0) else s

/-! ### Who executes (R213, R226, R238) -/

/-- The condition of an instruction in a bank. -/
def condIn (b : Bank) (w : Nat) : Bool := (b.pred (wBits w 58 56)).xor (bitAt w 59)

/-- The condition of a BR: PD[PSEL] reduced by RED. -/
def State.brCond (s : State) (k w : Nat) : Bool :=
  let ps := (s.lanesOf k).map (fun e => (s.bankOf k e).pred (wBits w 58 56))
  let p := if wBits w 35 34 = 1 then ps.any id else if wBits w 35 34 = 2 then ps.all id else ps.headD true
  p.xor (bitAt w 59)

/-- CTRL operations that act per lane: TRAP and LOG. -/
def perLane (w : Nat) : Bool := wCls w != 0 || wOp w == 0xA || wOp w == 0xB

/-- Lanes in which an instruction executes. -/
def State.executing (s : State) (k w : Nat) : List Nat :=
  let es := s.lanesOf k
  if perLane w then es.filter (fun e => condIn (s.bankOf k e) w)
  else if wOp w = 1 then (if s.brCond k w then es else [])
  else if condIn (s.bankOf k k) w then es else []

/-- Lanes in which a MAC instruction loads (R216). -/
def State.loading (s : State) (k w : Nat) : List Nat :=
  if bitAt w 27 then (s.lanesOf k).filter (fun e => (s.bankOf k e).pred (wBits w 16 14)) else []

/-! ### ILLEGAL (R215) -/

/-- Operations listed in a class (Table 7-4). -/
def opsListed (cls : Nat) : Nat := [12, 26, 5, 10, 7, 5, 4, 5].getD cls 0

/-- Reserved operand bits of a word. -/
def reservedBits (w : Nat) : Nat :=
  match wCls w with
  | 0 => wBits w 24 16
  | 1 => wBits w 12 0
  | 2 => wBits w 13 0
  | 3 => wBits w 24 8
  | 4 => wBits w 37 32 + wBits w 15 0
  | 5 => wBits w 32 0
  | 7 => wBits w 31 0
  | _ => 0

/-- Count of LOOP or REP, from IMM or from lane 0's DR. -/
def State.ctrlCount (s : State) (k w : Nat) : Nat :=
  if bitAt w 33 then ((s.bankOf k k).reg (wBits w 32 28)).toNat else wBits w 15 0 + 1

/-- Restrictions on CTRL operations (R223, R225-R227, Table 7-3). -/
def State.ctrlIllegal (s : State) (k w : Nat) : Bool :=
  let b := s.bankOf k k
  let th := s.thread k
  let tgt := wBits w 47 36
  let width := s.widthOf k
  match wOp w with
  | 1 => wBits w 35 34 == 3
  | 4 => b.active || decide (tgt < th.pc + 1) || decide (th.pc + 256 < tgt) || decide (65536 < s.ctrlCount k w) || decide (16 ≤ width)
  | 5 => decide (65536 < s.ctrlCount k w) || decide (width < 16)
  | 6 => th.bank1
  | _ => false

/-- Restrictions on the other classes (Table 7-4, R219, R238). -/
def State.formIllegal (s : State) (k w : Nat) : Bool :=
  match wCls w with
  | 0 => s.ctrlIllegal k w
  | 2 => (if wOp w = 2 ∨ wOp w = 4 then wBits w 46 45 != 0 else bitAt w 45) || (bitAt w 27 && bitAt w 22)
  | 4 => wOp w == 1 && bitAt w 43
  | 5 => bitAt w 43
  | 6 => decide (2 ≤ wOp w) && decide (48 ≤ wBits w 37 32)
  | 7 => s.widthOf k == 1
  | _ => false

/-- The next instruction of a stream is illegal. -/
def State.illegal (s : State) (k w : Nat) : Bool :=
  let th := s.thread k
  let b := s.bankOf k k
  let acts := !(s.executing k w).isEmpty || (wCls w == 2 && !(s.loading k w).isEmpty)
  (b.active && th.slots.isSome && th.pc == b.lend) ||
  (acts && (decide (opsListed (wCls w) ≤ wOp w) || reservedBits w != 0 || (wCls w == 0 && wOp w != 0 && th.slots.isSome)
    || (th.rep.isSome && (wCls w == 0 || (wCls w == 6 && wOp w == 3))) || s.formIllegal k w))

/-! ### Faults (R239, R244) -/

/-- Engines that fault with one instruction: each with its code and its error-log code. -/
abbrev Faulting := List (Nat × Nat × Nat)

/-- An instruction faults: the group stops, and every faulting member keeps its code and PC. -/
def State.engineFaults (s : State) (k pc : Nat) : Faulting → State
  | [] => s
  | (e, code, logCode) :: rest =>
    let bin := s.dispatchBin (((s.groupOf k).map (·.1)).getD 0)
    rest.foldl (fun a x => ((a.setFld (F.GEA_ENGk_STATE.CODE x.1) x.2.1).setFld (F.GEA_ENGk_STATE.PC x.1) pc).logFor (enginePath x.1)
      x.2.2 a.frame bin) (s.engineFault e k code logCode pc)

/-- Every lane of a list faults with one code. -/
def allFault (es : List Nat) (code : Nat) : Faulting := es.map (fun e => (e, code, code))

/-! ### Advance (R220, R223, R225, R226) -/

/-- A lane's loop registers after the instruction at LEND. -/
def Bank.loopEnd (b : Bank) : Bank :=
  let lc := b.lc - 1
  let ec := if 0 < b.lc then b.ec else (b.ec + 7) % 8
  let b1 := { b with lc := lc, ec := ec }
  if lc = 0 ∧ ec = 0 then b1
  else
    let p := b.pd.toNat
    { b1 with rrb := (b.rrb + 15) % 16
              pd := BitVec.ofNat 8 (p % 16 + (if 0 < lc then 16 else 0) + p / 16 % 8 * 32) }

/-- The instruction at LEND has issued: every lane's loop registers, and whether the loop goes on as lane 0 says. -/
def State.loopEnd (s : State) (k : Nat) : State :=
  let s1 := (s.lanesOf k).foldl (fun a e => a.setBankOf k e (a.bankOf k e).loopEnd) s
  let b := s1.bankOf k k
  if b.lc = 0 ∧ b.ec = 0 then (s1.lanesOf k).foldl (fun a e => a.setBankOf k e { a.bankOf k e with active := false }) s1 else s1

/-- A stream moves to its next instruction, and one advancing cycle passes. -/
def State.advance (s : State) (k : Nat) : State :=
  let th := s.thread k
  let b := s.bankOf k k
  let stay := match th.rep with | some r => decide (1 < r) | none => false
  let atEnd := !stay && b.active && th.pc == b.lend
  let s1 := if atEnd then s.loopEnd k else s
  let pc := if stay then th.pc else if atEnd && (s1.bankOf k k).active then b.lstart else th.pc + 1
  let th1 := { th with
    pc := pc, cycle := (th.cycle + 1) % 2 ^ 64, rep := if stay then th.rep.map (· - 1) else none }
  match th.slots with
  | none => s1.setThread k th1
  | some (n, t, rti) =>
    if 1 < n then s1.setThread k { th1 with slots := some (n - 1, t, rti) }
    else
      let s2 := s1.setThread k { th1 with pc := t, slots := none, bank1 := th.bank1 && !rti }
      if rti then (s2.lanesOf k).foldl (fun a e => a.setFld (F.GEA_ENGk_STATE.BANK e) 0) s2 else s2

/-! ### Issue -/

/-- A stream issues instructions: it runs and no halt is due here. -/
def State.canIssue (s : State) (k : Nat) : Bool :=
  s.engState k == Eng.running && !((s.thread k).halting && (s.thread k).atPoint)

/-- A stream stands before its next instruction: results due have landed (R220), and the word is fetched, a single upset bit of it corrected
(R245). -/
def State.fetched (s : State) (k : Nat) : State :=
  let s0 := s.settle k
  s0.eccRead (imemBase k + 8 * (s0.thread k).pc) 8

/-- What an instruction does in a stream: stream, word and executing lanes. It faults some engines, or gives the state before the
stream advances. -/
abbrev Run := Nat → Nat → List Nat → State → Except Faulting State

/-- The stream of engine `e` issues its next instruction, if that is operation `op` of class `cls`. A word with two upset bits faults the
engine (R245). `after` follows the advance. -/
def State.issueThen (s : State) (e : Fin 64) (cls op : Nat) (run : Run) (after : Nat → Nat → List Nat → State → State) : State :=
  match s.streamOf e.val with
  | none => s
  | some k =>
    if !s.canIssue k then s
    else
      let s0 := s.fetched k
      let pc := (s0.thread k).pc
      let w := s0.insn k pc
      let ex := s0.executing k w
      if 4096 ≤ pc then s0.engineFaults k pc [(k, GeaCode.memRange, GeaCode.memRange)]
      else if !(s0.upsetIn (imemBase k + 8 * pc) 8 true).isEmpty then s0.engineFaults k pc [(k, GeaCode.eccFail, GeaCode.eccFail)]
      else if s0.illegal k w then
        s0.engineFaults k pc (allFault (if ex.isEmpty || !perLane w then [k] else ex) GeaCode.illegal)
      else if wCls w != cls || wOp w != op then s
      else match run k w ex s0 with
        | .error fs => s0.engineFaults k pc fs
        | .ok s1 => after k w ex (s1.advance k)

/-- The same with nothing after the advance. -/
def State.issue (s : State) (e : Fin 64) (cls op : Nat) (run : Run) : State := s.issueThen e cls op run (fun _ _ _ a => a)

/-- An instruction that acts in each executing lane on its own and faults nothing. -/
def eachLane (f : Nat → Nat → Nat → State → State) : Run := fun k w ex s => .ok (ex.foldl (fun a e => f k w e a) s)

end Sys2Proof.Machine
end

