-- ==== Sys2Proof/Machine/GeckoCtl.lean ====
section
/-! DEFINITION. Gecko control instructions (07 Table 7-4 class CTRL, R223, R225-R228, R243, R244). -/

namespace Sys2Proof.Machine

/-- Operation classes (Table 7-3). -/
abbrev Cls.ctrl : Nat := 0
abbrev Cls.alu : Nat := 1
abbrev Cls.mac : Nat := 2
abbrev Cls.acc : Nat := 3
abbrev Cls.ls : Nat := 4
abbrev Cls.sfu : Nat := 5
abbrev Cls.move : Nat := 6
abbrev Cls.xch : Nat := 7

/-- An instruction that changes nothing of its own. -/
def runNop : Run := fun _ _ _ s => .ok s

/-- A branch: two delay slots, then the target (R226). -/
def State.branch (s : State) (k target : Nat) (rti : Bool) : State := s.setThread k { s.thread k with slots := some (3, target, rti) }

/-- Every lane's bank of a stream is changed. -/
def State.eachBank (s : State) (k : Nat) (f : Bank → Bank) : State :=
  (s.lanesOf k).foldl (fun a e => a.setBankOf k e (f (a.bankOf k e))) s

/-- BR: a target outside the active loop ends it. -/
def runBr : Run := fun k w ex s => .ok (
  if ex.isEmpty then s
  else
    let t := wBits w 47 36
    let b := s.bankOf k k
    let out := b.active && (decide (t < b.lstart) || decide (b.lend < t))
    (if out then s.eachBank k (fun x => { x with active := false }) else s).branch k t false)

/-- CALL: LNK is the return index. -/
def runCall : Run := fun k w ex s => .ok (
  if ex.isEmpty then s
  else (s.eachBank k (fun x => { x with lnk := ((s.thread k).pc + 3) % 4096 })).branch k (wBits w 47 36) false)

/-- RET: to lane 0's LNK. -/
def runRet : Run := fun k _ ex s => .ok (if ex.isEmpty then s else s.branch k (s.bankOf k k).lnk false)

/-- Results that reach LC, EC or a predicate that LOOP writes in LOOP's own cycle land before it, and its own are kept; WCOL (R222). -/
def State.loopMeets (s : State) (k : Nat) : State :=
  let th := s.thread k
  let meets (f : Flight) : Bool := f.due == th.cycle && f.bank1 == th.bank1 && (match f.landing with
    | .sr n _ => n == 1 || n == 2 || n == 7
    | .pred n _ => decide (4 ≤ n)
    | _ => false)
  let l := th.flights.filter meets
  let s1 := State.landAll k l (s.setThread k { th with flights := th.flights.filter (fun f => !meets f) })
  l.foldl (fun a f => a.setLane f.lane ((a.lane f.lane).setBank f.bank1 ((a.lane f.lane).bank f.bank1).collide)) s1

/-- LOOP (R223): a count of 0 goes past TARGET. -/
def runLoop : Run := fun k w ex s => .ok (
  if ex.isEmpty then s
  else
    let n := s.ctrlCount k w
    let t := wBits w 47 36
    if n = 0 then s.setThread k { s.thread k with pc := t }
    else (s.loopMeets k).eachBank k (fun x => { x with
      lc := n, ec := wBits w 27 25, pd := (x.pd &&& 0x0F) ||| 0x10, lstart := ((s.thread k).pc + 1) % 4096, lend := t, active := true }))

/-- REP (R225): the next instruction issues n times; 0 skips it. -/
def afterRep (k w : Nat) (ex : List Nat) (s : State) : State :=
  if ex.isEmpty then s
  else
    let n := s.ctrlCount k w
    let th := s.thread k
    s.setThread k (if n = 0 then { th with pc := th.pc + 1 } else { th with rep := some n })

/-- WAIT: the group waits (R227, R243). -/
def afterWait (_k _w : Nat) (ex : List Nat) (s : State) : State := if ex.isEmpty then s else s.setEng ex Eng.waiting

/-- HALT: the group halts. -/
def afterHalt (k _w : Nat) (ex : List Nat) (s : State) : State := if ex.isEmpty then s else (s.haltStream k).haltDone

/-- RTI: to EPC in bank 0 after two slots (R228). -/
def runRti : Run := fun k _ ex s => .ok (if ex.isEmpty then s else s.branch k (s.thread k).epc true)

/-- TRAP: each executing lane faults. -/
def runTrap : Run := fun _ w ex s => if ex.isEmpty then .ok s else .error (ex.map (fun e => (e, GeaCode.trap, 0x0100 + wBits w 7 0)))

/-- LOG: each executing lane posts its code. -/
def runLog : Run := eachLane (fun k w e s => s.logFor (enginePath e) (0x8000 + wBits w 14 0) s.frame
  (s.dispatchBin (((s.groupOf k).map (·.1)).getD 0)))

/-- NOP. -/
def execNop (e : Fin 64) (s : State) : Host.Outcome State Fault Refusal := .next (s.issue e Cls.ctrl 0x0 runNop)

/-- BR. -/
def execBr (e : Fin 64) (s : State) : Host.Outcome State Fault Refusal := .next (s.issue e Cls.ctrl 0x1 runBr)

/-- CALL. -/
def execCall (e : Fin 64) (s : State) : Host.Outcome State Fault Refusal := .next (s.issue e Cls.ctrl 0x2 runCall)

/-- RET. -/
def execRet (e : Fin 64) (s : State) : Host.Outcome State Fault Refusal := .next (s.issue e Cls.ctrl 0x3 runRet)

/-- LOOP. -/
def execLoop (e : Fin 64) (s : State) : Host.Outcome State Fault Refusal := .next (s.issue e Cls.ctrl 0x4 runLoop)

/-- REP. -/
def execRep (e : Fin 64) (s : State) : Host.Outcome State Fault Refusal := .next (s.issueThen e Cls.ctrl 0x5 runNop afterRep)

/-- WAIT. -/
def execWait (e : Fin 64) (s : State) : Host.Outcome State Fault Refusal := .next (s.issueThen e Cls.ctrl 0x6 runNop afterWait)

/-- HALT. -/
def execHalt (e : Fin 64) (s : State) : Host.Outcome State Fault Refusal := .next (s.issueThen e Cls.ctrl 0x7 runNop afterHalt)

/-- RTI. -/
def execRti (e : Fin 64) (s : State) : Host.Outcome State Fault Refusal := .next (s.issue e Cls.ctrl 0x8 runRti)

/-- FENCE: stores are visible at once in this model, so nothing is left to wait for (R233). -/
def execFence (e : Fin 64) (s : State) : Host.Outcome State Fault Refusal := .next (s.issue e Cls.ctrl 0x9 runNop)

/-- TRAP. -/
def execTrap (e : Fin 64) (s : State) : Host.Outcome State Fault Refusal := .next (s.issue e Cls.ctrl 0xA runTrap)

/-- LOG. -/
def execLog (e : Fin 64) (s : State) : Host.Outcome State Fault Refusal := .next (s.issue e Cls.ctrl 0xB runLog)

end Sys2Proof.Machine
end

