-- ==== Sys2Proof/Machine/GeckoAlu.lean ====
section
/-! DEFINITION. Gecko ALU instructions (07 Table 7-4 class ALU, Table 7-2, R218). -/

namespace Sys2Proof.Machine

/-- What an ALU operation gives: its result, C, V, and whether it saturated. -/
structure AluOut where
  v : Word
  c : Bool
  o : Bool
  sat : Bool
  deriving DecidableEq, Repr

/-- A result with no carry, overflow or saturation. -/
def aluPlain (v : Word) : AluOut := ⟨v, false, false, false⟩

/-- A `k`-bit sum of two numbers given unsigned, with the carry: sum, carry and overflow. -/
def addWith (k a b c : Nat) : Nat × Bool × Bool :=
  let r := (a + b + c) % 2 ^ k
  (r, decide (2 ^ k ≤ a + b + c), signed k r != signed k a + signed k b + c)

/-- a + b, and a - b as a + ~b + 1: C is the carry out, or no borrow. -/
def addFlags (k a b : Nat) : Nat × Bool × Bool := addWith k a b 0
def subFlags (k a b : Nat) : Nat × Bool × Bool := addWith k a (2 ^ k - 1 - b) 1

/-- A `k`-bit result with overflow replaced by the end of the range it left; the sign of `a` says which. -/
def satAt (k a : Nat) (r : Nat × Bool × Bool) : Nat :=
  if r.2.2 then (if signed k a < 0 then 2 ^ (k - 1) else 2 ^ (k - 1) - 1) else r.1

/-- A 32-bit sum or difference. -/
def aluWide (f : Nat → Nat → Nat → Nat × Bool × Bool) (sat : Bool) (a b : Word) : AluOut :=
  let r := f 32 a.toNat b.toNat
  ⟨w32 (if sat then satAt 32 a.toNat r else r.1), r.2.1, r.2.2, sat && r.2.2⟩

/-- A sum or difference per lane; C and V are the high lane's. -/
def aluLanes (f : Nat → Nat → Nat → Nat × Bool × Bool) (sat : Bool) (a b : Word) : AluOut :=
  let lo := f 16 (a.toNat % 2 ^ 16) (b.toNat % 2 ^ 16)
  let hi := f 16 (a.toNat / 2 ^ 16) (b.toNat / 2 ^ 16)
  let l := if sat then satAt 16 (a.toNat % 2 ^ 16) lo else lo.1
  let h := if sat then satAt 16 (a.toNat / 2 ^ 16) hi else hi.1
  ⟨w32 (h * 2 ^ 16 + l), hi.2.1, hi.2.2, sat && (lo.2.2 || hi.2.2)⟩

/-- Second operand: IMM16, signed, or DR[SB]. -/
def aluB (b : Bank) (w : Nat) : Word := if bitAt w 32 then w32 (unsigned 32 (signed 16 (wBits w 31 16))) else b.reg (wBits w 37 33)

/-- First operand. -/
def aluA (b : Bank) (w : Nat) : Word := b.reg (wBits w 42 38)

/-- Flags of an operation from ADD to ABS. -/
def AluOut.flags (x : AluOut) : Word :=
  w32 ((if x.v = 0 then 1 else 0) + (if x.v.msb then 2 else 0) + (if x.c then 4 else 0) + (if x.o then 8 else 0))

/-- An ALU operation with a result in DR[DST]; `nzcv`: it sets the flags. -/
def runAlu (nzcv : Bool) (f : Word → Word → AluOut) : Run := eachLane (fun k w e s =>
  let b := s.bankOf k e
  let x := f (aluA b w) (aluB b w)
  let s1 := s.flyDr k e 1 (wBits w 47 43) x.v
  let s2 := if nzcv then s1.fly k e 1 false (.flags x.flags 0xF) else s1
  s2.flySticky k e 1 12 x.sat)

/-- A signed compare into PD[PDST]. -/
def runCmp (f : Int → Int → Bool) : Run := eachLane (fun k w e s =>
  let b := s.bankOf k e
  s.fly k e 1 false (.pred (wBits w 15 13) (f (aluA b w).toInt (aluB b w).toInt)))

/-- A lane-by-lane operation on signed lanes. -/
def aluPair (f : Int → Int → Int) (a b : Word) : AluOut :=
  aluPlain (lanesWord (f (hiLane a) (hiLane b)) (f (loLane a) (loLane b)))

/-- ADD. -/
def execAdd (e : Fin 64) (s : State) : Host.Outcome State Fault Refusal := .next (s.issue e Cls.alu 0x00 (runAlu true (aluWide addFlags false)))

/-- SUB. -/
def execSub (e : Fin 64) (s : State) : Host.Outcome State Fault Refusal := .next (s.issue e Cls.alu 0x01 (runAlu true (aluWide subFlags false)))

/-- ADDS. -/
def execAdds (e : Fin 64) (s : State) : Host.Outcome State Fault Refusal := .next (s.issue e Cls.alu 0x02 (runAlu true (aluWide addFlags true)))

/-- SUBS. -/
def execSubs (e : Fin 64) (s : State) : Host.Outcome State Fault Refusal := .next (s.issue e Cls.alu 0x03 (runAlu true (aluWide subFlags true)))

/-- ADD2. -/
def execAdd2 (e : Fin 64) (s : State) : Host.Outcome State Fault Refusal := .next (s.issue e Cls.alu 0x04 (runAlu true (aluLanes addFlags false)))

/-- ADDS2. -/
def execAdds2 (e : Fin 64) (s : State) : Host.Outcome State Fault Refusal := .next (s.issue e Cls.alu 0x05 (runAlu true (aluLanes addFlags true)))

/-- SUB2. -/
def execSub2 (e : Fin 64) (s : State) : Host.Outcome State Fault Refusal := .next (s.issue e Cls.alu 0x06 (runAlu true (aluLanes subFlags false)))

/-- SUBS2. -/
def execSubs2 (e : Fin 64) (s : State) : Host.Outcome State Fault Refusal := .next (s.issue e Cls.alu 0x07 (runAlu true (aluLanes subFlags true)))

/-- AND. -/
def execAnd (e : Fin 64) (s : State) : Host.Outcome State Fault Refusal :=
  .next (s.issue e Cls.alu 0x08 (runAlu true (fun a b => aluPlain (a &&& b))))

/-- OR. -/
def execOr (e : Fin 64) (s : State) : Host.Outcome State Fault Refusal :=
  .next (s.issue e Cls.alu 0x09 (runAlu true (fun a b => aluPlain (a ||| b))))

/-- XOR. -/
def execXor (e : Fin 64) (s : State) : Host.Outcome State Fault Refusal :=
  .next (s.issue e Cls.alu 0x0A (runAlu true (fun a b => aluPlain (a ^^^ b))))

/-- SHL, by SB[4:0]. -/
def execShl (e : Fin 64) (s : State) : Host.Outcome State Fault Refusal :=
  .next (s.issue e Cls.alu 0x0B (runAlu true (fun a b => aluPlain (a <<< (b.toNat % 32)))))

/-- SHR. -/
def execShr (e : Fin 64) (s : State) : Host.Outcome State Fault Refusal :=
  .next (s.issue e Cls.alu 0x0C (runAlu true (fun a b => aluPlain (a >>> (b.toNat % 32)))))

/-- SHRA. -/
def execShra (e : Fin 64) (s : State) : Host.Outcome State Fault Refusal :=
  .next (s.issue e Cls.alu 0x0D (runAlu true (fun a b => aluPlain (a.sshiftRight (b.toNat % 32)))))

/-- MIN, signed. -/
def execMin (e : Fin 64) (s : State) : Host.Outcome State Fault Refusal :=
  .next (s.issue e Cls.alu 0x0E (runAlu true (fun a b => aluPlain (if a.slt b then a else b))))

/-- MAX, signed. -/
def execMax (e : Fin 64) (s : State) : Host.Outcome State Fault Refusal :=
  .next (s.issue e Cls.alu 0x0F (runAlu true (fun a b => aluPlain (if b.slt a then a else b))))

/-- ABS, saturating. -/
def execAbs (e : Fin 64) (s : State) : Host.Outcome State Fault Refusal :=
  .next (s.issue e Cls.alu 0x10 (runAlu true (fun a _ =>
    if a = 0x80000000 then ⟨0x7FFFFFFF, false, true, true⟩ else aluPlain (if a.msb then -a else a))))

/-- MIN2. -/
def execMin2 (e : Fin 64) (s : State) : Host.Outcome State Fault Refusal := .next (s.issue e Cls.alu 0x11 (runAlu false (aluPair min)))

/-- MAX2. -/
def execMax2 (e : Fin 64) (s : State) : Host.Outcome State Fault Refusal := .next (s.issue e Cls.alu 0x12 (runAlu false (aluPair max)))

/-- SHRA2, by SB[3:0]. -/
def execShra2 (e : Fin 64) (s : State) : Host.Outcome State Fault Refusal :=
  .next (s.issue e Cls.alu 0x13 (runAlu false (fun a b =>
    let n : Int := ((2 ^ (b.toNat % 16) : Nat) : Int)
    aluPlain (lanesWord (hiLane a / n) (loLane a / n)))))

/-- CMPEQ. -/
def execCmpeq (e : Fin 64) (s : State) : Host.Outcome State Fault Refusal := .next (s.issue e Cls.alu 0x14 (runCmp (fun a b => a == b)))

/-- CMPLT. -/
def execCmplt (e : Fin 64) (s : State) : Host.Outcome State Fault Refusal := .next (s.issue e Cls.alu 0x15 (runCmp (fun a b => decide (a < b))))

/-- CMPLE. -/
def execCmple (e : Fin 64) (s : State) : Host.Outcome State Fault Refusal := .next (s.issue e Cls.alu 0x16 (runCmp (fun a b => decide (a ≤ b))))

/-- EXPW (R218). -/
def execExpw (e : Fin 64) (s : State) : Host.Outcome State Fault Refusal :=
  .next (s.issue e Cls.alu 0x17 (runAlu false (fun a _ => aluPlain (w32 (redundant 32 a.toInt)))))

/-- EXPH (R218). -/
def execExph (e : Fin 64) (s : State) : Host.Outcome State Fault Refusal :=
  .next (s.issue e Cls.alu 0x18 (runAlu false (fun a _ => aluPlain (w32 (min (redundant 16 (hiLane a)) (redundant 16 (loLane a)))))))

/-- CONJ: the high lane is negated, saturating. -/
def execConj (e : Fin 64) (s : State) : Host.Outcome State Fault Refusal :=
  .next (s.issue e Cls.alu 0x19 (runAlu false (fun a _ =>
    ⟨lanesWord (satInt 16 (-(hiLane a))) (loLane a), false, false, decide (hiLane a = -32768)⟩)))

end Sys2Proof.Machine
end

