-- ==== Sys2Proof/Machine/GeckoLs.lean ====
section
/-! DEFINITION. Gecko loads and stores, with the I/O page (07 R213, R214, R232-R235, R239, R245, Tables 7-6, 7-7). -/

namespace Sys2Proof.Machine

/-! ### Addresses (R213, R214) -/

/-- An address register after a circular update; a length of 0 makes it linear. -/
def circular (ad ba cl step : Word) : Word :=
  if cl = 0 then ad + step
  else ba + w32 (((((ad.toNat : Int) - (ba.toNat : Int)) + step.toInt) % (cl.toNat : Int)).toNat)

/-- Address and new ADn for a MODE and a step. -/
def lsUpdate (b : Bank) (n mode : Nat) (off : Word) : Word × Word :=
  let ad := b.ad.getD n 0
  match mode with
  | 0 => (ad + off, ad)
  | 1 => (ad, ad + off)
  | 2 => (ad, ad + b.md.getD n 0)
  | _ => (ad, circular ad (b.ba.getD n 0) (b.cl.getD n 0) off)

/-- An access of a lane: lane, address and the new value of the address register. -/
structure EngAccess where
  lane : Nat
  addr : Nat
  reg : Nat
  next : Word
  deriving DecidableEq, Repr

/-- The access of an LS instruction. -/
def State.lsAccess (s : State) (k w lane : Nat) : EngAccess :=
  let n := wBits w 42 40
  let r := lsUpdate (s.bankOf k lane) n (wBits w 39 38) (w32 (unsigned 32 (signed 16 (wBits w 31 16))))
  ⟨lane, r.1.toNat, n, r.2⟩

/-- The access of a MAC instruction's load: PMODE 0 is a post-increment by 8; the circular step is MDn. -/
def State.macAccess (s : State) (k w lane : Nat) : EngAccess :=
  let n := wBits w 21 19
  let b := s.bankOf k lane
  let r := match wBits w 18 17 with
    | 0 => lsUpdate b n 1 8
    | 1 => lsUpdate b n 1 (Config.macStep w)
    | 2 => lsUpdate b n 2 0
    | _ => lsUpdate b n 3 (b.md.getD n 0)
  ⟨lane, r.1.toNat, n, r.2⟩

/-- The address registers after an instruction's accesses (R221). -/
def State.updateAds (s : State) (k : Nat) (xs : List EngAccess) : State :=
  xs.foldl (fun a x => let b := a.bankOf k x.lane; a.setBankOf k x.lane { b with ad := b.ad.set x.reg x.next }) s

/-! ### The I/O page (Table 7-7) -/

/-- The offset in the I/O page of an address that lies in it. -/
def ioOffset (a : Nat) : Option Nat := if ioBase ≤ a ∧ a < ioBase + 0x100 then some (a - ioBase) else none

/-- Offsets that can be loaded, and stored. -/
def ioLoads : List Nat := [0x00, 0x04, 0x08, 0x0C, 0x10, 0x20, 0x24, 0x28, 0x2C, 0x30, 0x34]
def ioStores : List Nat := [0x04, 0x20, 0x24, 0x28, 0x2C, 0x30]

/-- What is wrong with an access of `n` bytes: alignment, then the address map. -/
def accessFault (lane addr n : Nat) (store : Bool) : Option Nat :=
  if addr % n ≠ 0 then some GeaCode.misalign
  else match ioOffset addr with
    | some off =>
      let ok (o : Nat) : Bool := (if store then ioStores else ioLoads).contains o
      if ok off && (n != 8 || ok (off + 4)) then none else some GeaCode.memRange
    | none => if (localAddr lane addr).isSome then none else some GeaCode.memRange

/-- Faults of a list of accesses. -/
def accessFaults (n : Nat) (store : Bool) (xs : List EngAccess) : Faulting :=
  xs.filterMap (fun x => (accessFault x.lane x.addr n store).map (fun c => (x.lane, c, c)))

/-- A word of the I/O page as a lane loads it; `popped` is what this instruction took from DISPQ. -/
def State.ioWord (s : State) (lane : Nat) (popped : Word) (off : Nat) : Word :=
  let d := s.dma lane
  match off with
  | 0x00 => popped
  | 0x08 => w32 s.frame
  | 0x0C => w32 (s.frame / 2 ^ 32 % 2 ^ 16)
  | 0x10 => w32 (s.bin % 2 ^ 18)
  | 0x20 => w32 d.dram
  | 0x24 => w32 (d.dram / 2 ^ 32)
  | 0x28 => w32 d.localAddr
  | 0x2C => w32 d.len
  | 0x34 => w32 ((if d.busy then 1 else 0) + (if d.refused then 2 else 0))
  | _ => 0

/-- Offsets of the I/O page that an access touches. -/
def ioTouched (x : EngAccess) (n : Nat) : List Nat :=
  match ioOffset x.addr with
  | some off => if n = 8 then [off, off + 4] else [off]
  | none => []

/-- A word stored to the I/O page by a lane; OUTQ is handled once per instruction. -/
def State.ioStore (s : State) (lane off : Nat) (v : Word) : State :=
  let d := s.dma lane
  match off with
  | 0x20 => s.setDma lane { d with dram := d.dram / 2 ^ 32 * 2 ^ 32 + v.toNat / 8 * 8 }
  | 0x24 => s.setDma lane { d with dram := d.dram % 2 ^ 32 + v.toNat % 2 * 2 ^ 32 }
  | 0x28 => s.setDma lane { d with localAddr := v.toNat }
  | 0x2C => s.setDma lane { d with len := v.toNat }
  | 0x30 => if bitAt v.toNat 0 then s.dmaStart lane (bitAt v.toNat 1) else s
  | _ => s

/-! ### Loads -/

/-- Bytes an access loads, and the load's latency. -/
def State.loaded (s : State) (popped : Word) (n : Nat) (x : EngAccess) : Bytes × Nat :=
  match ioOffset x.addr with
  | some off => ((leBytes 4 (s.ioWord x.lane popped off).toNat ++ leBytes 4 (s.ioWord x.lane popped (off + 4)).toNat).take n, 8)
  | none => (s.localBytes x.lane x.addr n, loadLatency x.addr)

/-- A load from DMA_STATUS clears REFUSED. -/
def State.ioRead (s : State) (n : Nat) (x : EngAccess) : State :=
  if (ioTouched x n).contains 0x34 then s.setDma x.lane { s.dma x.lane with refused := false } else s

/-- What an access reads of engine memory: its aperture offset; none for the I/O page. -/
def EngAccess.memory (x : EngAccess) : Option Nat := match ioOffset x.addr with
  | some _ => none
  | none => localAddr x.lane x.addr

/-- Lanes whose access of `n` bytes reads a word with two upset bits (R245). -/
def State.eccFaults (s : State) (n : Nat) (xs : List EngAccess) : Faulting :=
  (xs.filter (fun x => match x.memory with | some ap => !(s.upsetIn ap n true).isEmpty | none => false)).map
    (fun x => (x.lane, GeaCode.eccFail, GeaCode.eccFail))

/-- The words that accesses of `n` bytes read are corrected (R245). -/
def State.eccReads (s : State) (n : Nat) (xs : List EngAccess) : State :=
  xs.foldl (fun a x => match x.memory with | some ap => a.eccRead ap n | none => a) s

/-- A list of loads of `n` bytes: faults, or the bytes and latencies and the state after reads with an effect. -/
def State.loads (s : State) (k n : Nat) (xs : List EngAccess) : Except Faulting (List (EngAccess × Bytes × Nat) × State) :=
  match accessFaults n false xs ++ s.eccFaults n xs with
  | f :: fs => .error (f :: fs)
  | [] =>
    let s0 := s.eccReads n xs
    let r := if xs.any (fun x => (ioTouched x n).contains 0x00) then s0.dispqPop k else (s0, 0)
    .ok (xs.map (fun x => (x, r.1.loaded r.2 n x)), xs.foldl (fun a x => a.ioRead n x) r.1)

/-- A load into DR: `conv` makes the registers' values from the bytes. -/
def runLoad (n : Nat) (conv : Bytes → List Word) : Run := fun k w ex s =>
  match s.loads k n (ex.map (s.lsAccess k w)) with
  | .error fs => .error fs
  | .ok (xs, s1) =>
    let d := wBits w 47 43
    let s2 := xs.foldl (fun a x =>
      let vs := conv x.2.1
      ((List.range vs.length).zip vs).foldl (fun b v => b.flyDr k x.1.lane x.2.2 (d + v.1) v.2) a) s1
    .ok (s2.updateAds k (xs.map (·.1)))

/-- Words of a load. -/
def wordsOf (b : Bytes) : List Word := [w32 (leNat (b.take 4))]
def pairOf (b : Bytes) : List Word := [w32 (leNat (b.take 4)), w32 (leNat (b.drop 4))]

/-! ### Stores -/

/-- What each lane stores: the bytes of the words of DR. -/
def State.stored (s : State) (k n : Nat) (d : Nat) : List EngAccess → List (EngAccess × Bytes) × State
  | [] => ([], s)
  | x :: xs =>
    let a := s.readDr k x.lane d
    let b := if n = 8 then a.2.readDr k x.lane (d + 1) else (0, a.2)
    let r := State.stored b.2 k n d xs
    ((x, (leBytes 4 a.1.toNat ++ leBytes 4 b.1.toNat).take n) :: r.1, r.2)

/-- A GO with settings out of range faults, unless the channel is busy (R235). -/
def State.goFaults (s : State) (xs : List (EngAccess × Bytes)) : Faulting :=
  xs.filterMap (fun x =>
    if ioOffset x.1.addr == some 0x30 && bitAt (leNat x.2) 0 && !(s.dma x.1.lane).busy && !s.dmaOk x.1.lane
    then some (x.1.lane, GeaCode.dmaRange, GeaCode.dmaRange) else none)

/-- One lane's store. -/
def State.storeOne (s : State) (x : EngAccess × Bytes) : State :=
  match ioOffset x.1.addr with
  | some off =>
    let s1 := s.ioStore x.1.lane off (w32 (leNat (x.2.take 4)))
    if x.2.length = 8 then s1.ioStore x.1.lane (off + 4) (w32 (leNat (x.2.drop 4))) else s1
  | none => match localAddr x.1.lane x.1.addr with
    | some ap => s.setEmem ap x.2
    | none => s

/-- The OUTQ push of an instruction: lane 0's value, once. DEDUCED (log entry 63): with lane 0 predicated off nothing is pushed. -/
def State.pushOnce (s : State) (k : Nat) (xs : List (EngAccess × Bytes)) : State :=
  match xs.find? (fun x => ioOffset x.1.addr == some 0x04 && some x.1.lane == (s.lanesOf k).head?), s.groupOf k with
  | some x, some (g, _) => s.outPush g x.1.lane (leNat x.2)
  | _, _ => s

/-- A store of `n` bytes of DR; of two lanes at one address the higher-numbered persists. -/
def runStore (n : Nat) : Run := fun k w ex s =>
  let xs := ex.map (s.lsAccess k w)
  match accessFaults n true xs with
  | f :: fs => .error (f :: fs)
  | [] =>
    let r := s.stored k n (wBits w 47 43) xs
    match r.2.goFaults r.1 with
    | f :: fs => .error (f :: fs)
    | [] => .ok (((r.1.foldl (fun a x => a.storeOne x) r.2).pushOnce k r.1).updateAds k xs)

/-- LD32. -/
def execLd32 (e : Fin 64) (ecc : Upsets) (s : State) : Host.Outcome State Fault Refusal := .next ((s.upset ecc).issue e Cls.ls 0x0 (runLoad 4 wordsOf))

/-- LD64. -/
def execLd64 (e : Fin 64) (ecc : Upsets) (s : State) : Host.Outcome State Fault Refusal := .next ((s.upset ecc).issue e Cls.ls 0x1 (runLoad 8 pairOf))

/-- LD16S. -/
def execLd16s (e : Fin 64) (ecc : Upsets) (s : State) : Host.Outcome State Fault Refusal :=
  .next ((s.upset ecc).issue e Cls.ls 0x2 (runLoad 2 (fun b => [w32 (unsigned 32 (signed 16 (leNat b)))])))

/-- LD16U. -/
def execLd16u (e : Fin 64) (ecc : Upsets) (s : State) : Host.Outcome State Fault Refusal := .next ((s.upset ecc).issue e Cls.ls 0x3 (runLoad 2 wordsOf))

/-- ST32. -/
def execSt32 (e : Fin 64) (s : State) : Host.Outcome State Fault Refusal := .next (s.issue e Cls.ls 0x4 (runStore 4))

/-- ST64. -/
def execSt64 (e : Fin 64) (s : State) : Host.Outcome State Fault Refusal := .next (s.issue e Cls.ls 0x5 (runStore 8))

/-- ST16. -/
def execSt16 (e : Fin 64) (s : State) : Host.Outcome State Fault Refusal := .next (s.issue e Cls.ls 0x6 (runStore 2))

/-! ### Accesses to the I/O page that are commands of their own -/

/-- The next instruction of engine `e`'s stream is a 32-bit load or store of an offset of the I/O page. -/
def State.pointsAt (s : State) (e : Fin 64) (op off : Nat) : Bool :=
  match s.streamOf e.val with
  | none => false
  | some k =>
    let s0 := s.settle k
    let w := s0.insn k (s0.thread k).pc
    wCls w == Cls.ls && wOp w == op && (s0.executing k w).any (fun x => ioOffset (s0.lsAccess k w x).addr == some off)

/-- DISPQ_POP: a load from DISPQ. -/
def execDispqPop (e : Fin 64) (s : State) : Host.Outcome State Fault Refusal :=
  .next (if s.pointsAt e 0x0 0x00 then s.issue e Cls.ls 0x0 (runLoad 4 wordsOf) else s)

/-- OUTQ_PUSH: a store to OUTQ. -/
def execOutqPush (e : Fin 64) (s : State) : Host.Outcome State Fault Refusal :=
  .next (if s.pointsAt e 0x4 0x04 then s.issue e Cls.ls 0x4 (runStore 4) else s)

/-- DMA_GO: a store to DMA_CTRL. -/
def execDmaGo (e : Fin 64) (s : State) : Host.Outcome State Fault Refusal :=
  .next (if s.pointsAt e 0x4 0x30 then s.issue e Cls.ls 0x4 (runStore 4) else s)

/-- DMA_STATUS_LOAD: a load of DMA_STATUS. -/
def execDmaStatusLoad (e : Fin 64) (s : State) : Host.Outcome State Fault Refusal :=
  .next (if s.pointsAt e 0x0 0x34 then s.issue e Cls.ls 0x0 (runLoad 4 wordsOf) else s)

end Sys2Proof.Machine
end

