-- ==== Sys2Proof/Machine/GeckoMac.lean ====
section
/-! DEFINITION. Gecko multiply-accumulate and accumulator instructions (07 Table 7-4 classes MAC and ACC, R216-R218). -/

namespace Sys2Proof.Machine

/-- An accumulator of a bank, as landed. -/
def Bank.acc (b : Bank) (n : Nat) : Int := (b.ac.getD n 0).toInt

/-- A 40-bit value. -/
def acWord (z : Int) : BitVec 40 := BitVec.ofNat 40 (unsigned 40 z)

/-! ### MAC (R216) -/

/-- An accumulator as a MAC instruction sees it: the latest MAC result in flight, else what has landed (Table 7-4: latency 1 to the
next MAC). -/
def State.macAcc (s : State) (k lane n : Nat) : Int :=
  let th := s.thread k
  let mine := th.flights.filterMap (fun f =>
    if f.mac && f.lane == lane && f.bank1 == th.bank1 then
      match f.landing with | .ac m v _ => if m = n then some v.toInt else none | _ => none
    else none)
  match mine.getLast? with | some v => v | none => (s.bankOf k lane).acc n

/-- A MAC operation: its sums from a, b and c, for AC[ACB] onward. -/
abbrev MacSums := Word → Word → Word → List Int

/-- A lane's sums go to its accumulators. -/
def State.macLane (s : State) (k w : Nat) (f : MacSums) (lane : Nat) : State :=
  let b := s.bankOf k lane
  let sums := f (b.reg (wBits w 44 40)) (b.reg (wBits w 39 35)) (b.reg (wBits w 34 30))
  let acb := wBits w 47 45
  let vals := ((List.range sums.length).zip sums).map (fun x =>
    let n := acb + x.1
    let z := (if bitAt w 29 then 0 else s.macAcc k lane n) + (if bitAt w 28 then -x.2 else x.2)
    (n, satInt 40 z, decide (satInt 40 z ≠ z)))
  vals.foldl (fun a x => a.fly k lane 2 true (.ac x.1 (acWord x.2.1) x.2.2)) s

/-- A MAC instruction: its load, whose lanes PPSEL picks, and its sums. -/
def runMac (f : MacSums) : Run := fun k w ex s =>
  match s.loads k 8 ((s.loading k w).map (s.macAccess k w)) with
  | .error fs => .error fs
  | .ok (xs, s1) =>
    let d := wBits w 26 22
    let s2 := ex.foldl (fun a e => a.macLane k w f e) s1
    let s3 := xs.foldl (fun a x =>
      let vs := pairOf x.2.1
      (a.flyDr k x.1.lane x.2.2 d (vs.getD 0 0)).flyDr k x.1.lane x.2.2 (d + 1) (vs.getD 1 0)) s2
    .ok (s3.updateAds k (xs.map (·.1)))

/-- CMAC. -/
def execCmac (e : Fin 64) (ecc : Upsets) (s : State) : Host.Outcome State Fault Refusal :=
  .next ((s.upset ecc).issue e Cls.mac 0x0 (runMac (fun a b _ =>
    [loLane a * loLane b - hiLane a * hiLane b, loLane a * hiLane b + hiLane a * loLane b])))

/-- CMACJ. -/
def execCmacj (e : Fin 64) (ecc : Upsets) (s : State) : Host.Outcome State Fault Refusal :=
  .next ((s.upset ecc).issue e Cls.mac 0x1 (runMac (fun a b _ =>
    [loLane a * loLane b + hiLane a * hiLane b, hiLane a * loLane b - loLane a * hiLane b])))

/-- CRMAC. -/
def execCrmac (e : Fin 64) (ecc : Upsets) (s : State) : Host.Outcome State Fault Refusal :=
  .next ((s.upset ecc).issue e Cls.mac 0x2 (runMac (fun a b c =>
    [loLane a * loLane c, hiLane a * loLane c, loLane b * hiLane c, hiLane b * hiLane c])))

/-- DMAC. -/
def execDmac (e : Fin 64) (ecc : Upsets) (s : State) : Host.Outcome State Fault Refusal :=
  .next ((s.upset ecc).issue e Cls.mac 0x3 (runMac (fun a b c =>
    [loLane a * loLane c + hiLane a * hiLane c, loLane b * loLane c + hiLane b * hiLane c])))

/-- QMAC. -/
def execQmac (e : Fin 64) (ecc : Upsets) (s : State) : Host.Outcome State Fault Refusal :=
  .next ((s.upset ecc).issue e Cls.mac 0x4 (runMac (fun a b _ =>
    [loLane a * loLane b, hiLane a * hiLane b, loLane a * hiLane b, hiLane a * loLane b])))

/-! ### ACC (R217, R218) -/

/-- The shift amount: from a register, bits [5:0] and at most 39 (R213). -/
def shiftAmount (b : Bank) (w : Nat) : Nat :=
  if bitAt w 36 then min 39 ((b.reg (wBits w 35 31)).toNat % 64) else wBits w 30 25

/-- An exact rounded right shift. -/
def roundShift (v : Int) (sh : Nat) : Int :=
  if sh = 0 then v else (v + ((2 ^ (sh - 1) : Nat) : Int)) / ((2 ^ sh : Nat) : Int)

/-- AC[ACA], rounded. -/
def accRounded (b : Bank) (w : Nat) : Int := roundShift (b.acc (wBits w 42 40)) (shiftAmount b w)

/-- An accumulator result saturated to 40 bits. -/
def State.flyAc (s : State) (k lane n : Nat) (z : Int) : State :=
  s.fly k lane 1 false (.ac n (acWord (satInt 40 z)) (decide (satInt 40 z ≠ z)))

/-- RND32. -/
def execRnd32 (e : Fin 64) (s : State) : Host.Outcome State Fault Refusal :=
  .next (s.issue e Cls.acc 0x0 (eachLane (fun k w e s =>
    let r := accRounded (s.bankOf k e) w
    (s.flyDr k e 2 (wBits w 47 43) (w32 (unsigned 32 (satInt 32 r)))).flySticky k e 2 12 (decide (satInt 32 r ≠ r)))))

/-- RNDL. -/
def execRndl (e : Fin 64) (s : State) : Host.Outcome State Fault Refusal :=
  .next (s.issue e Cls.acc 0x1 (eachLane (fun k w e s =>
    let b := s.bankOf k e
    let r := accRounded b w
    (s.fly k e 2 false (.drLow (drIndex b.rrb (wBits w 47 43)) (BitVec.ofNat 16 (unsigned 16 (satInt 16 r))))).flySticky k e 2 12
      (decide (satInt 16 r ≠ r)))))

/-- RNDH. -/
def execRndh (e : Fin 64) (s : State) : Host.Outcome State Fault Refusal :=
  .next (s.issue e Cls.acc 0x2 (eachLane (fun k w e s =>
    let b := s.bankOf k e
    let r := accRounded b w
    (s.fly k e 2 false (.drHigh (drIndex b.rrb (wBits w 47 43)) (BitVec.ofNat 16 (unsigned 16 (satInt 16 r))))).flySticky k e 2 12
      (decide (satInt 16 r ≠ r)))))

/-- EXPA. -/
def execExpa (e : Fin 64) (s : State) : Host.Outcome State Fault Refusal :=
  .next (s.issue e Cls.acc 0x3 (eachLane (fun k w e s =>
    s.flyDr k e 2 (wBits w 47 43) (w32 (redundant 40 ((s.bankOf k e).acc (wBits w 42 40)))))))

/-- EXPB: the smallest EXPA over MASK. -/
def execExpb (e : Fin 64) (s : State) : Host.Outcome State Fault Refusal :=
  .next (s.issue e Cls.acc 0x4 (eachLane (fun k w e s =>
    let ns := (List.range 8).filter (fun n => bitAt w n)
    s.flyDr k e 2 (wBits w 47 43) (w32 (ns.foldl (fun m n => min m (redundant 40 ((s.bankOf k e).acc n))) 39)))))

/-- NORM. -/
def execNorm (e : Fin 64) (s : State) : Host.Outcome State Fault Refusal :=
  .next (s.issue e Cls.acc 0x5 (eachLane (fun k w e s =>
    let b := s.bankOf k e
    s.flyAc k e (wBits w 42 40) (b.acc (wBits w 42 40) * ((2 ^ shiftAmount b w : Nat) : Int)))))

/-- ASHR. -/
def execAshr (e : Fin 64) (s : State) : Host.Outcome State Fault Refusal :=
  .next (s.issue e Cls.acc 0x6 (eachLane (fun k w e s => s.flyAc k e (wBits w 42 40) (accRounded (s.bankOf k e) w))))

/-- ACLR. -/
def execAclr (e : Fin 64) (s : State) : Host.Outcome State Fault Refusal :=
  .next (s.issue e Cls.acc 0x7 (eachLane (fun k w e s =>
    ((List.range 8).filter (fun n => bitAt w n)).foldl (fun a n => a.flyAc k e n 0) s)))

/-- AADD. -/
def execAadd (e : Fin 64) (s : State) : Host.Outcome State Fault Refusal :=
  .next (s.issue e Cls.acc 0x8 (eachLane (fun k w e s =>
    let b := s.bankOf k e
    s.flyAc k e (wBits w 42 40) (b.acc (wBits w 42 40) + b.acc (wBits w 39 37)))))

/-- AMOV: the register times 2^SHIMM. -/
def execAmov (e : Fin 64) (s : State) : Host.Outcome State Fault Refusal :=
  .next (s.issue e Cls.acc 0x9 (eachLane (fun k w e s =>
    s.flyAc k e (wBits w 42 40) (((s.bankOf k e).reg (wBits w 47 43)).toInt * ((2 ^ wBits w 30 25 : Nat) : Int)))))

end Sys2Proof.Machine
end

