-- ==== Sys2Proof/Machine/GeckoSfu.lean ====
section
/-! DEFINITION. Gecko special functions, moves and exchanges across lanes (07 Table 7-4 classes SFU, MOVE and XCH, R212, R219,
R238). -/

namespace Sys2Proof.Machine

/-! ### SFU (R219) -/

/-- How far a result lies from the exact one: within `lim` of it, otherwise open. -/
def sfuDev (lim : Int) (i : Nat) (a b c : Word) : Int := max (-lim) (min lim (Config.sfuError i a b c))

/-- Leading zeros of a word. -/
def leadingZeros (x : Nat) : Nat := if x = 0 then 32 else 31 - x.log2

/-- A signed double rounded to an integer. -/
def roundFloat (x : Float) : Int :=
  if x < 0 then -((x.neg + 0.5).floor.toUInt64.toNat : Int) else ((x + 0.5).floor.toUInt64.toNat : Int)

/-- An angle in units of pi * 2^-31 rad, as radians. -/
def angleRad (a : Word) : Float := Float.ofInt a.toInt * (3.141592653589793 / 2147483648.0)

/-- VEC: magnitude and angle of (re, im). -/
def sfuVec (re im : Word) : Word × Word :=
  if re = 0 ∧ im = 0 then (0, 0)
  else
    let n := (re.toInt * re.toInt + im.toInt * im.toInt).toNat
    let mag : Int := ((isqrt (4 * n) + 1) / 2 : Nat)
    let ang := roundFloat (Float.atan2 (Float.ofInt im.toInt) (Float.ofInt re.toInt) * (2147483648.0 / 3.141592653589793))
    (w32 (min (2 ^ 32 - 1) (mag + sfuDev 2 0 re im 0).toNat), w32 (unsigned 32 (ang + sfuDev 512 1 re im 0)))

/-- ROT: (x, y) turned by an angle, before saturation. -/
def sfuRot (x y a : Word) : Int × Int :=
  let c := (angleRad a).cos
  let n := (angleRad a).sin
  let fx := Float.ofInt x.toInt
  let fy := Float.ofInt y.toInt
  (roundFloat (fx * c - fy * n) + sfuDev 2 2 x y a, roundFloat (fx * n + fy * c) + sfuDev 2 3 x y a)

/-- SINCOS in Q1.30. -/
def sfuSincos (a : Word) : Word × Word :=
  (w32 (unsigned 32 (roundFloat ((angleRad a).cos * 1073741824.0) + sfuDev 2 4 a 0 0)),
    w32 (unsigned 32 (roundFloat ((angleRad a).sin * 1073741824.0) + sfuDev 2 5 a 0 0)))

/-- A mantissa within one of `m`, in 32 bits. -/
def mantissa (m : Nat) (dev : Int) : Word := w32 (min (2 ^ 32 - 1) (((min (2 ^ 32 - 1) m : Nat) : Int) + dev).toNat)

/-- RECIP of a nonzero x: mantissa and shift. -/
def sfuRecip (x : Word) : Word × Word :=
  let z := leadingZeros x.toNat
  (mantissa (2 ^ 62 / (x.toNat * 2 ^ z)) (sfuDev 1 6 x 0 0), w32 z)

/-- RSQRT of a nonzero x: mantissa and half the shift. -/
def sfuRsqrt (x : Word) : Word × Word :=
  let z := leadingZeros x.toNat / 2 * 2
  (mantissa (isqrt (2 ^ 94 / (x.toNat * 2 ^ z))) (sfuDev 1 7 x 0 0), w32 (z / 2))

/-- A pair of results. -/
def State.flyPair (s : State) (k lane latency name : Nat) (v : Word × Word) : State :=
  (s.flyDr k lane latency name v.1).flyDr k lane latency (name + 1) v.2

/-- VEC. -/
def execVec (e : Fin 64) (s : State) : Host.Outcome State Fault Refusal :=
  .next (s.issue e Cls.sfu 0x0 (eachLane (fun k w e s =>
    let b := s.bankOf k e
    s.flyPair k e 8 (wBits w 47 43) (sfuVec (b.reg (wBits w 42 38)) (b.reg (wBits w 37 33))))))

/-- ROT. -/
def execRot (e : Fin 64) (s : State) : Host.Outcome State Fault Refusal :=
  .next (s.issue e Cls.sfu 0x1 (eachLane (fun k w e s =>
    let x := s.readDr k e (wBits w 42 38)
    let y := x.2.readDr k e (wBits w 42 38 + 1)
    let r := sfuRot x.1 y.1 ((s.bankOf k e).reg (wBits w 37 33))
    let q := (satInt 32 r.1, satInt 32 r.2)
    (y.2.flyPair k e 8 (wBits w 47 43) (w32 (unsigned 32 q.1), w32 (unsigned 32 q.2))).flySticky k e 8 12 (q != r))))

/-- SINCOS. -/
def execSincos (e : Fin 64) (s : State) : Host.Outcome State Fault Refusal :=
  .next (s.issue e Cls.sfu 0x2 (eachLane (fun k w e s =>
    s.flyPair k e 8 (wBits w 47 43) (sfuSincos ((s.bankOf k e).reg (wBits w 42 38))))))

/-- RECIP: 0 gives the largest mantissa, 32 and DZ. -/
def execRecip (e : Fin 64) (s : State) : Host.Outcome State Fault Refusal :=
  .next (s.issue e Cls.sfu 0x3 (eachLane (fun k w e s =>
    let x := (s.bankOf k e).reg (wBits w 42 38)
    (s.flyPair k e 4 (wBits w 47 43) (if x = 0 then (0xFFFFFFFF, 32) else sfuRecip x)).flySticky k e 4 13 (x == 0))))

/-- RSQRT: 0 gives the largest mantissa, 16 and DZ. -/
def execRsqrt (e : Fin 64) (s : State) : Host.Outcome State Fault Refusal :=
  .next (s.issue e Cls.sfu 0x4 (eachLane (fun k w e s =>
    let x := (s.bankOf k e).reg (wBits w 42 38)
    (s.flyPair k e 4 (wBits w 47 43) (if x = 0 then (0xFFFFFFFF, 16) else sfuRsqrt x)).flySticky k e 4 13 (x == 0))))

/-! ### MOVE (R212, Table 7-1) -/

/-- A lane's place in its group. -/
def State.laneIndex (s : State) (k e : Nat) : Nat := ((s.lanesOf k).findIdx? (· == e)).getD 0

/-- A special register as a lane reads it. -/
def State.readSr (s : State) (k e n : Nat) : Word :=
  let b := s.bankOf k e
  let th := s.thread k
  match n with
  | 0 => (b.esr &&& 0x7FFF) ||| (if th.bank1 then 0x8000 else 0)
  | 1 => w32 b.lc
  | 2 => w32 b.ec
  | 3 => w32 b.rrb
  | 4 => w32 b.lnk
  | 5 => w32 b.lstart
  | 6 => w32 b.lend
  | 7 => w32 (b.pd.toNat / 2 * 2)
  | 8 => w32 th.epc
  | 9 => w32 th.ivec
  | 10 => w32 th.imask
  | 11 => w32 (s.ipend k)
  | 12 => w32 (s.laneIndex k e)
  | 13 => w32 (s.widthOf k)
  | 14 => w32 th.cycle
  | 15 => w32 (th.cycle / 2 ^ 32)
  | _ =>
    if n < 24 then b.ad.getD (n - 16) 0
    else if n < 32 then b.md.getD (n - 24) 0
    else if n < 40 then b.ba.getD (n - 32) 0
    else b.cl.getD (n - 40) 0

/-- A special register of a lane's bank is written; the group's registers are written elsewhere. -/
def Bank.writeSr (b : Bank) (n : Nat) (v : Word) : Bank :=
  match n with
  | 0 => { b with esr := v &&& 0x7FFF }
  | 4 => { b with lnk := v.toNat % 4096 }
  | _ =>
    if n < 16 then b
    else if n < 24 then { b with ad := b.ad.set (n - 16) v }
    else if n < 32 then { b with md := b.md.set (n - 24) v }
    else if n < 40 then { b with ba := b.ba.set (n - 32) v }
    else { b with cl := b.cl.set (n - 40) v }

/-- A register of the stream is written; IPEND bits 1 to 3 clear where written 1 (R227). -/
def Thread.writeSr (t : Thread) (n : Nat) (v : Word) : Thread :=
  match n with
  | 8 => { t with epc := v.toNat % 4096 }
  | 9 => { t with ivec := v.toNat % 4096 }
  | 11 => { t with ipend := t.ipend &&& (15 ^^^ (v.toNat % 16)) }
  | _ => t

/-- SWR in the executing lanes: LC, EC, RRB, predicates and IMASK take effect after two cycles. -/
def runSwr : Run := fun k w ex s =>
  let n := wBits w 37 32
  let val (e : Nat) : Word := (s.bankOf k e).reg (wBits w 42 38)
  .ok (match ex with
    | [] => s
    | e0 :: _ =>
      if n = 10 then s.fly k e0 2 false (.sr 10 (val e0))
      else if n = 8 ∨ n = 9 ∨ n = 11 then s.setThread k ((s.thread k).writeSr n (val e0))
      else if n = 1 ∨ n = 2 ∨ n = 3 ∨ n = 7 then ex.foldl (fun a e => a.fly k e 2 false (.sr n (val e))) s
      else ex.foldl (fun a e => a.setBankOf k e ((a.bankOf k e).writeSr n (val e))) s)

/-- MOV. -/
def execMov (e : Fin 64) (s : State) : Host.Outcome State Fault Refusal :=
  .next (s.issue e Cls.move 0x0 (eachLane (fun k w e s => s.flyDr k e 1 (wBits w 47 43) ((s.bankOf k e).reg (wBits w 42 38)))))

/-- MOVI. -/
def execMovi (e : Fin 64) (s : State) : Host.Outcome State Fault Refusal :=
  .next (s.issue e Cls.move 0x1 (eachLane (fun k w e s => s.flyDr k e 1 (wBits w 47 43) (w32 (wBits w 31 0)))))

/-- SRD. -/
def execSrd (e : Fin 64) (s : State) : Host.Outcome State Fault Refusal :=
  .next (s.issue e Cls.move 0x2 (eachLane (fun k w e s => s.flyDr k e 1 (wBits w 47 43) (s.readSr k e (wBits w 37 32)))))

/-- SWR. -/
def execSwr (e : Fin 64) (s : State) : Host.Outcome State Fault Refusal := .next (s.issue e Cls.move 0x3 runSwr)

/-! ### XCH (R238) -/

/-- Latency of an exchange at a width. -/
def xchLatency (width : Nat) : Nat := if width = 4 then 2 else if width = 16 then 4 else 6

/-- An exchange: `f` gives lane `i`'s result from every lane's DR[SA], with whether it saturated. -/
def runXch (f : List Word → Nat → Nat → Word × Bool) : Run := fun k w ex s =>
  let vs := (s.lanesOf k).map (fun e => (s.bankOf k e).reg (wBits w 42 38))
  let n := xchLatency (s.widthOf k)
  .ok (ex.foldl (fun a e =>
    let r := f vs (s.laneIndex k e) (wBits w 37 32)
    (a.flyDr k e n (wBits w 47 43) r.1).flySticky k e n 12 r.2) s)

/-- LROT. -/
def execLrot (e : Fin 64) (s : State) : Host.Outcome State Fault Refusal :=
  .next (s.issue e Cls.xch 0x0 (runXch (fun vs i arg => (vs.getD ((i + arg) % vs.length) 0, false))))

/-- LBC. -/
def execLbc (e : Fin 64) (s : State) : Host.Outcome State Fault Refusal :=
  .next (s.issue e Cls.xch 0x1 (runXch (fun vs _ arg => (vs.getD (arg % vs.length) 0, false))))

/-- LSUM, saturating. -/
def execLsum (e : Fin 64) (s : State) : Host.Outcome State Fault Refusal :=
  .next (s.issue e Cls.xch 0x2 (runXch (fun vs _ _ =>
    let z := vs.foldl (fun a v => a + v.toInt) 0
    (w32 (unsigned 32 (satInt 32 z)), decide (satInt 32 z ≠ z)))))

/-- LMIN. -/
def execLmin (e : Fin 64) (s : State) : Host.Outcome State Fault Refusal :=
  .next (s.issue e Cls.xch 0x3 (runXch (fun vs _ _ => (vs.foldl (fun a v => if v.slt a then v else a) (vs.headD 0), false))))

/-- LMAX. -/
def execLmax (e : Fin 64) (s : State) : Host.Outcome State Fault Refusal :=
  .next (s.issue e Cls.xch 0x4 (runXch (fun vs _ _ => (vs.foldl (fun a v => if a.slt v then v else a) (vs.headD 0), false))))

end Sys2Proof.Machine
end

