-- ==== Sys2Proof/Machine/Pcie.lean ====
section
/-! DEFINITION. What the part shows of itself outside BAR0: the PCI Express configuration space (18 R460), the JTAG port (22 R554) and
the framing of an SMBus block (18 R482). -/

namespace Sys2Proof.Machine

/-! ### PCI Express configuration space (18 R460) -/

/-- The identity that configuration space presents. -/
structure PciIdentity where
  vendor : Nat
  device : Nat
  revision : Nat
  classCode : Nat
  subsysVendor : Nat
  subsys : Nat
  serial : Nat
  deriving DecidableEq, Repr

/-- R460: the vendor from the fuses, the revision from GLB_CHIP_ID, the subsystem from the start-up header (Table 21-2), the serial number
from the die identity. Without an accepted header the subsystem reads 0 (log entry 171). -/
def State.pciIdentity (s : State) : PciIdentity :=
  { vendor := s.otp.vendor.toNat, device := 0x4810, revision := (s.reg R.GLB_CHIP_ID).toNat / 2 ^ 8 % 2 ^ 8, classCode := 0x118000,
    subsysVendor := field s.glb.header 0x0C 2, subsys := field s.glb.header 0x0E 2, serial := s.otp.dieId.toNat % 2 ^ 64 }

/-- A base address register: its index, size in bytes, address width and whether it is prefetchable. -/
structure PciBar where
  index : Nat
  size : Nat
  bits : Nat
  prefetch : Bool
  deriving DecidableEq, Repr

/-- The two BARs; there is no other and no expansion ROM. -/
def pciBars : List PciBar := [⟨0, 16 * 2 ^ 20, 32, false⟩, ⟨2, 256 * 2 ^ 20, 64, true⟩]

/-- The capabilities presented. -/
inductive PciCap where
  | powerManagement | pciExpress | msix (vectors : Nat) | aer | serialNumber
  deriving DecidableEq, Repr

def pciCaps : List PciCap := [.powerManagement, .pciExpress, .msix 64, .aer, .serialNumber]

/-- Largest read request the HIF issues with a Max Read Request Size. -/
def readRequestMax (mrrs : Nat) : Nat := min mrrs 512

/-- A configuration read of the identity: none while the HIF answers with retry status (21 R524). -/
def State.configRead (s : State) : Option PciIdentity := if s.hif.retry then none else some s.pciIdentity

/-! ### JTAG (22 R554) -/

/-- The TAP controller's next state at a rising TCK (IEEE 1149.1, PRESUMED: log entry 171). -/
def Tap.next (tms : Bool) : Tap → Tap
  | .testLogicReset => if tms then .testLogicReset else .runTestIdle
  | .runTestIdle => if tms then .selectDr else .runTestIdle
  | .selectDr => if tms then .selectIr else .captureDr
  | .captureDr => if tms then .exit1Dr else .shiftDr
  | .shiftDr => if tms then .exit1Dr else .shiftDr
  | .exit1Dr => if tms then .updateDr else .pauseDr
  | .pauseDr => if tms then .exit2Dr else .pauseDr
  | .exit2Dr => if tms then .updateDr else .shiftDr
  | .updateDr => if tms then .selectDr else .runTestIdle
  | .selectIr => if tms then .testLogicReset else .captureIr
  | .captureIr => if tms then .exit1Ir else .shiftIr
  | .shiftIr => if tms then .exit1Ir else .shiftIr
  | .exit1Ir => if tms then .updateIr else .pauseIr
  | .pauseIr => if tms then .exit2Ir else .pauseIr
  | .exit2Ir => if tms then .updateIr else .shiftIr
  | .updateIr => if tms then .selectDr else .runTestIdle

/-- The IDCODE register (R554). -/
def State.idcode (s : State) : Word := (2 : BitVec 4) ++ (0x4810 : BitVec 16) ++ s.otp.jep106 ++ (1 : BitVec 1)

/-- The kinds of ball of chapter 22. -/
inductive Ball where
  | lvcmos | nand | lpddr | fain | main | pdac | gate | hf | vx | vref | xo | pcie | chorus
  deriving DecidableEq, Repr

/-- The balls that the boundary-scan chain covers (R554). -/
def Ball.scanned : Ball → Bool
  | .lvcmos | .nand | .lpddr => true
  | .fain | .main | .pdac | .gate | .hf | .vx | .vref | .xo | .pcie | .chorus => false

/-! ### SMBus (18 R482) -/

/-- The target's address: 0x5A and the strap value sampled at power-on. -/
def State.smbusAddress (s : State) : Nat := 0x5A + s.fld F.GLB_STARTUP.SMB_STRAP

/-- One byte of the SMBus packet error code, x^8 + x^2 + x + 1 from 0 (PRESUMED from SMBus 2.0: log entry 171). -/
def pecStep (c : BitVec 8) (b : Byte) : BitVec 8 :=
  (List.range 8).foldl (fun a _ => if a.msb then (a <<< 1) ^^^ 0x07 else a <<< 1) (c ^^^ b)

/-- A Block Read's answer: the count, the block, and the PEC over both addresses, the command, the count and the block, which the target
supplies to a master that reads one byte more. -/
def State.smbusFrame (s : State) (cmd : BitVec 8) (block : Bytes) : Bytes :=
  let addr := s.smbusAddress
  let body := BitVec.ofNat 8 block.length :: block
  body ++ [([BitVec.ofNat 8 (2 * addr), cmd, BitVec.ofNat 8 (2 * addr + 1)] ++ body).foldl pecStep 0]

end Sys2Proof.Machine
end

