-- ==== Sys2Proof/Machine/HostDma.lean ====
section
/-! DEFINITION. The ends of host-buffer transfers, and the SMBus target (18 R474, R478, R482, 19 R488). -/

namespace Sys2Proof.Machine

/-! ### Host-buffer transfers (R474) -/

/-- Bytes of a Chorus DATA frame's payload at most (19 Table 19-1). -/
abbrev dataFrame : Nat := 65536

/-- Bytes go to another chip as DATA frames. -/
def State.sendData (dst : Nat) : Nat → Bytes → State → State
  | 0, _, s => s
  | k + 1, b, s => if b.isEmpty then s else State.sendData dst k (b.drop dataFrame) (s.chorusSend 5 dst 0 (b.take dataFrame))

/-- Bytes for a request's host buffer: into host memory, or to the head for a forwarded request. -/
def State.toBuffer (s : State) (x : Transfer) (b : Bytes) : State :=
  match x.origin with
  | .session _ => s.give (.hostWrite x.addr b)
  | .chorus m => State.sendData m.val (b.length / dataFrame + 1) b s

/-- Bytes that a request's host buffer held: read from host memory, or collected from the head's DATA frames. -/
def State.fromBuffer (s : State) (x : Transfer) (data : Bytes) : Bytes :=
  match x.origin with
  | .session _ => fitBytes x.len data
  | .chorus _ => fitBytes x.len ((s.csp.data.find? (fun d => d.1 == x.origin && d.2.1 == x.seq)).map (·.2.2) |>.getD [])

/-- Logs of unit paths are emptied and their LOG_OVERFLOW cleared. -/
def State.clearLogs (s : State) (paths : List Nat) : State := { s with logs := s.logs.filter (fun e => !paths.contains e.1) }

/-- A transfer ends well. -/
def State.transferDone (s : State) (x : Transfer) (data : Bytes) : State :=
  let done (a : State) (payload : Bytes) : State := a.answer x.origin x.seq x.code x.source x.detail payload
  match x.kind with
  | .imageChunk off final => done (s.takeChunk off final (s.fromBuffer x data)) []
  | .calAppend apply => s.takeSubmission x.origin x.seq apply (s.fromBuffer x data)
  | .toHost b p => done (s.toBuffer x b) p
  | .errorLog b p paths => done ((s.toBuffer x b).clearLogs paths) p
  | .vlog b p n => done { s.toBuffer x b with hif := { (s.toBuffer x b).hif with vlog := (s.toBuffer x b).hif.vlog.drop n } } p
  | .forward m => State.sendData m (x.len / dataFrame + 1) (fitBytes x.len data) s

/-- HOST_DMA_COMPLETE: a transfer in progress ends; a failed one answers HOST_DMA and changes nothing but a chunk's range, which is
then undefined. An image chunk waits while the DMC does not serve (02 R92). -/
def execHostDmaComplete (o : Origin) (seq : Word) (ok : Bool) (data : List (BitVec 8)) (t : Nat) (s0 : State) :
    Host.Outcome State Fault Refusal :=
  let s := s0.at_ t
  .next (match s.hif.transfers.find? (fun x => x.origin = o ∧ x.seq = seq) with
    | none => s
    | some x =>
      let chunk := match x.kind with | .imageChunk _ _ => true | _ => false
      if chunk && !s.dmcServes then s.dmcTouch
      else
        let s1 : State := { s with hif := { s.hif with transfers := s.hif.transfers.erase x } }
        if ok then s1.transferDone x data
        else
          let s2 := match x.kind with
            | .imageChunk off _ => s1.chunkLost off x.len
            | _ => s1
          ((s2.post .hif HifCode.hostDma (match o with | .session n => n.val | .chorus _ => 0)).raise .hif F.HIF_IRQ_STATUS.HOST_DMA).answer o seq HifCode.hostDma Unit.hif.top 0 [])

/-! ### SMBus (R482, Table 18-7) -/

/-- Two bits per domain, as PMU fields. -/
def State.domainStates (s : State) : Nat := (List.range 13).foldl (fun a d => a + 4 ^ d * (if d = 0 then 0 else s.domState d)) 0

/-- The block a command returns; none for a command that is not answered. -/
def State.smbusBlock (s : State) (cmd : Nat) : Option Bytes :=
  match cmd with
  | 0x01 => some (leBytes 4 (s.reg R.GLB_CHIP_ID).toNat ++ (List.range 4).flatMap (fun i => leBytes 4 (s.reg (R.ALM_DIE_IDi i)).toNat)
      ++ leBytes 4 s.run)
  | 0x02 => some (leBytes 4 (s.reg R.GLB_TJ).toNat)
  | 0x03 => some (leBytes 4 s.domainStates ++ leBytes 4 (s.busPeek R.PMU_STATUS).toNat)
  | 0x04 => some s.almHead
  | 0x05 => some (leBytes 4 (s.pathWord .chip).toNat ++ leBytes 1 s.acq ++ leBytes 1 (s.reg R.HIF_STATUS).toNat ++ [0, 0])
  | 0x06 => some (leBytes 8 s.timeNs ++ leBytes 1 (s.fld F.TTU_STATUS.LOCK_STATE))
  | _ => none

/-- SMBUS_BLOCK_READ: a snapshot at the command byte, with its packet error code; any other command is NACKed. -/
def execSmbusBlockRead (cmd : BitVec 8) (t : Nat) (s0 : State) : Host.Outcome State Fault Refusal :=
  let s := s0.at_ t
  .next (if s.glb.porHeld then s
    else s.give (.smbus (match s.smbusBlock cmd.toNat with | some b => s.smbusFrame cmd b | none => [])))

end Sys2Proof.Machine
end

