-- ==== Sys2Proof/Machine/Windows.lean ====
section
/-! DEFINITION. The windows onto memory: the engine-memory aperture and BAR2 (07 R236, R237, R245, 01 R59, 18 R462). -/

namespace Sys2Proof.Machine

/-- Bytes of the engine-memory aperture, and its device address (07 R236). -/
abbrev apertureSize : Nat := 0x4000000
abbrev apertureBase : Nat := 0x400000000

/-- The engine whose instruction memory holds an aperture offset. -/
def imemAt (ap : Nat) : Option Nat :=
  let o := ap % 0x1000000
  if 0x800000 ≤ o ∧ o < 0x880000 then some (16 * (ap / 0x1000000) + (o - 0x800000) / 0x8000) else none

/-- An aperture offset holds memory (Table 7-8). -/
def apertureMapped (ap : Nat) : Bool := decide (ap % 0x1000000 < 0x880000)

/-- Every group that fetches from an engine's instruction memory is HALTED, LOADED or FAULT (R237). -/
def State.imemQuiet (s : State) (e : Nat) : Bool :=
  match s.groupOf e with
  | some (_, g) =>
    if g.kind ≠ 0 ∧ g.lowest ≠ e then true
    else [Eng.halted, Eng.loaded, Eng.fault].contains (s.groupState g)
  | none => true

/-- An access outside the mapped ranges: reads 0, writes nothing, and is logged (18 R462). -/
def State.unmapped (s : State) (write : Bool) (addr : Nat) : State :=
  let s1 := (s.post .hif HifCode.unmapped 0).raise .hif F.HIF_IRQ_STATUS.UNMAPPED
  if write then s1 else s1.give (.readData addr 0)

/-- A read of engine memory from outside: single upset bits are corrected and counted, words with two raise ECC_UNCORR (R245). -/
def State.outsideRead (s : State) (ap len : Nat) : State :=
  (s.upsetIn ap len true).foldl (fun a w => a.eccEvent w true) (s.eccRead ap len)

/-- An access of a host to mapped engine memory of a tile that is on. -/
def State.apertureServe (s : State) (write : Bool) (ap : Nat) (data : Bytes) (len : Nat) : State :=
  if write then
    match imemAt ap with
    | some e =>
      if s.imemQuiet e then s.setEmem ap data
      else (s.logAt (enginePath e) GeaCode.imemWrite).raise .gea F.GEA_IRQ_STATUS.IMEM_WRITE
    | none => s.setEmem ap data
  else (s.outsideRead ap len).give (.readData (apertureBase + ap) (leNat (s.emem ap len)))

/-- An access through the aperture by a host's source (R236, R237). -/
def State.aperture (s : State) (src : Src) (write : Bool) (ap : Nat) (data : Bytes) (len : Nat) : State :=
  let d := 2 + ap / 0x1000000
  if !s.domOn d then
    let s1 := s.logOff src true write ap d
    if write then s1 else s1.give (.readData (apertureBase + ap) 0)
  else if !apertureMapped ap then s.unmapped write (apertureBase + ap)
  else s.apertureServe write ap data len

/-- APERTURE_ACCESS. The SIL's own accesses pass the MRS port: a write changes memory alone, a read what ECC makes of it. DESIGN CHOICE (log
189): words with two upset bits count as in a host's read. -/
def execApertureAccess (sil : Bool) (src : Src) (write : Bool) (off : BitVec 26) (data : List (BitVec 8)) (len : Nat) (ecc : Upsets) (t : Nat)
    (s0 : State) : Host.Outcome State Fault Refusal :=
  let s := (s0.at_ t).upset ecc
  let ap := off.toNat
  .next (if sil then
      (if !(s.domOn (2 + ap / 0x1000000) && apertureMapped ap) then s else if write then s.setEmem ap data else s.outsideRead ap len)
    else s.aperture src write ap data len)

/-- The window's device address (18 Table 18-9). -/
def State.winBase (s : State) : Nat :=
  s.fld F.HIF_WIN_BASE_LO.ADDR * 2 ^ 20 + s.fld F.HIF_WIN_BASE_HI.ADDR * 2 ^ 32

/-- A window access to DRAM: a class-4 request; during a freeze a read returns ones, a write is discarded, and the access is logged
(R59). -/
def State.windowDram (s : State) (write : Bool) (a : Nat) (data : Bytes) (len : Nat) : State :=
  if s.dmcState = Dmc.frozen then s.frozenWindow write a len
  else s.dmcEnqueue ⟨fixedPath .hif, 4, write, a, data, len, s.now⟩

/-- BAR2_ACCESS. -/
def execBar2Access (write : Bool) (off : BitVec 28) (data : List (BitVec 8)) (len : Nat) (ecc : Upsets) (t : Nat) (s0 : State) :
    Host.Outcome State Fault Refusal :=
  let s := (s0.at_ t).upset ecc
  let a := s.winBase + off.toNat
  let n := if write then data.length else len
  .next (if !s.unitOn .hif then s
    else if a + n ≤ s.deviceTop then s.windowDram write a data len
    else if apertureBase ≤ a ∧ a + n ≤ apertureBase + apertureSize then s.aperture .host write (a - apertureBase) data len
    else s.unmapped write a)

end Sys2Proof.Machine
end

