-- ==== Sys2Proof/Machine/Dispatch.lean ====
section
/-! DEFINITION. exec: one arm per command, each a direct call of its meaning. -/

namespace Sys2Proof.Machine

def exec (i : Instr) (s : State) : Host.Outcome State Fault Refusal :=
  match i with
  | .powerOnReset => Sys2Proof.Machine.execPowerOnReset s
  | .powerOnResetRelease straps t => Sys2Proof.Machine.execPowerOnResetRelease straps t s
  | .resetN low t => Sys2Proof.Machine.execResetN low t s
  | .warmResetRelease straps t => Sys2Proof.Machine.execWarmResetRelease straps t s
  | .coreSupply t => Sys2Proof.Machine.execCoreSupply t s
  | .coreSupplyRecovered t => Sys2Proof.Machine.execCoreSupplyRecovered t s
  | .trstN => Sys2Proof.Machine.execTrstN s
  | .perstAssert t => Sys2Proof.Machine.execPerstAssert t s
  | .perstDeassert t => Sys2Proof.Machine.execPerstDeassert t s
  | .headerRead t => Sys2Proof.Machine.execHeaderRead t s
  | .linkTrained speed width t => Sys2Proof.Machine.execLinkTrained speed width t s
  | .linkL1Entry t => Sys2Proof.Machine.execLinkL1Entry t s
  | .linkL1Exit t => Sys2Proof.Machine.execLinkL1Exit t s
  | .frameBoundary t fadc madc runs cycles => Sys2Proof.Machine.execFrameBoundary t fadc madc runs cycles s
  | .acquisitionStopped t => Sys2Proof.Machine.execAcquisitionStopped t s
  | .virtualFrameTimeout t fadc madc runs cycles => Sys2Proof.Machine.execVirtualFrameTimeout t fadc madc runs cycles s
  | .launchInEdge stamp falling => Sys2Proof.Machine.execLaunchInEdge stamp falling s
  | .slaveLaunchReference t fadc madc runs cycles => Sys2Proof.Machine.execSlaveLaunchReference t fadc madc runs cycles s
  | .toneLaunch k frame => Sys2Proof.Machine.execToneLaunch k frame s
  | .gateEdge n t2 => Sys2Proof.Machine.execGateEdge n t2 s
  | .launchOutEdge t => Sys2Proof.Machine.execLaunchOutEdge t s
  | .calSelChange t2 => Sys2Proof.Machine.execCalSelChange t2 s
  | .pgaStep t => Sys2Proof.Machine.execPgaStep t s
  | .blankWindowEdge w t => Sys2Proof.Machine.execBlankWindowEdge w t s
  | .blankInChange level t => Sys2Proof.Machine.execBlankInChange level t s
  | .notify ref => Sys2Proof.Machine.execNotify ref s
  | .gpioSet ref => Sys2Proof.Machine.execGpioSet ref s
  | .gpioClear ref => Sys2Proof.Machine.execGpioClear ref s
  | .decision ref => Sys2Proof.Machine.execDecision ref s
  | .captureOpen ref => Sys2Proof.Machine.execCaptureOpen ref s
  | .timer ref => Sys2Proof.Machine.execTimer ref s
  | .slotDoorbell ref => Sys2Proof.Machine.execSlotDoorbell ref s
  | .dynamicSlotRequest t requester frame off action arg tag => Sys2Proof.Machine.execDynamicSlotRequest t requester frame off action arg tag s
  | .dynamicSlotCancel t requester tag => Sys2Proof.Machine.execDynamicSlotCancel t requester tag s
  | .blockDispatch stream index frame fadc madc t => Sys2Proof.Machine.execBlockDispatch stream index frame fadc madc t s
  | .acqStart via t => Sys2Proof.Machine.execAcqStart via t s
  | .acqStop via t => Sys2Proof.Machine.execAcqStop via t s
  | .mrsCountClr src => Sys2Proof.Machine.execMrsCountClr src s
  | .healthClr src => Sys2Proof.Machine.execHealthClr src s
  | .rebalanceReset src => Sys2Proof.Machine.execRebalanceReset src s
  | .imageBegin o seq => Sys2Proof.Machine.execImageBegin o seq s
  | .imageChunk o seq => Sys2Proof.Machine.execImageChunk o seq s
  | .bootImageLoad t => Sys2Proof.Machine.execBootImageLoad t s
  | .imageChecksComplete written t => Sys2Proof.Machine.execImageChecksComplete written t s
  | .switchNext via t => Sys2Proof.Machine.execSwitchNext via t s
  | .switchAt via t => Sys2Proof.Machine.execSwitchAt via t s
  | .imageDisarm via next t => Sys2Proof.Machine.execImageDisarm via next t s
  | .imageAbort via next t => Sys2Proof.Machine.execImageAbort via next t s
  | .imageState o seq => Sys2Proof.Machine.execImageState o seq s
  | .lockClr src => Sys2Proof.Machine.execLockClr src s
  | .heavySwitchDrainDone t => Sys2Proof.Machine.execHeavySwitchDrainDone t s
  | .engineLoadComplete g t => Sys2Proof.Machine.execEngineLoadComplete g t s
  | .pointerRecordAppend => Sys2Proof.Machine.execPointerRecordAppend s
  | .registerWrite src off be w env => Sys2Proof.Machine.execRegisterWrite src off be w env s
  | .offAccess src aperture write off t => Sys2Proof.Machine.execOffAccess src aperture write off t s
  | .calRun via => Sys2Proof.Machine.execCalRun via s
  | .pguFaultClr src => Sys2Proof.Machine.execPguFaultClr src s
  | .pguCountClr src => Sys2Proof.Machine.execPguCountClr src s
  | .pdacPllLock t => Sys2Proof.Machine.execPdacPllLock t s
  | .pllUnlock t => Sys2Proof.Machine.execPllUnlock t s
  | .fafeCalReq src => Sys2Proof.Machine.execFafeCalReq src s
  | .mafeCalReq src => Sys2Proof.Machine.execMafeCalReq src s
  | .adcCalibrationDone mafe offsets skews t => Sys2Proof.Machine.execAdcCalibrationDone mafe offsets skews t s
  | .stepcalReq src => Sys2Proof.Machine.execStepcalReq src s
  | .stepcalDone responses => Sys2Proof.Machine.execStepcalDone responses s
  | .fafeCountClr src => Sys2Proof.Machine.execFafeCountClr src s
  | .mafeCountClr src => Sys2Proof.Machine.execMafeCountClr src s
  | .fafeFaultClr src => Sys2Proof.Machine.execFafeFaultClr src s
  | .mafeFaultClr src => Sys2Proof.Machine.execMafeFaultClr src s
  | .tfEvaluation fadc madc t => Sys2Proof.Machine.execTfEvaluation fadc madc t s
  | .tfStage o seq => Sys2Proof.Machine.execTfStage o seq s
  | .tfLoad via => Sys2Proof.Machine.execTfLoad via s
  | .tfCommit via => Sys2Proof.Machine.execTfCommit via s
  | .tfDiscard via => Sys2Proof.Machine.execTfDiscard via s
  | .templateBuildDone => Sys2Proof.Machine.execTemplateBuildDone s
  | .pcxFaultClr src => Sys2Proof.Machine.execPcxFaultClr src s
  | .pcxCountClr src => Sys2Proof.Machine.execPcxCountClr src s
  | .bankRelease => Sys2Proof.Machine.execBankRelease s
  | .nop e => Sys2Proof.Machine.execNop e s
  | .br e => Sys2Proof.Machine.execBr e s
  | .call e => Sys2Proof.Machine.execCall e s
  | .ret e => Sys2Proof.Machine.execRet e s
  | .loop e => Sys2Proof.Machine.execLoop e s
  | .rep e => Sys2Proof.Machine.execRep e s
  | .wait e => Sys2Proof.Machine.execWait e s
  | .halt e => Sys2Proof.Machine.execHalt e s
  | .rti e => Sys2Proof.Machine.execRti e s
  | .fence e => Sys2Proof.Machine.execFence e s
  | .trap e => Sys2Proof.Machine.execTrap e s
  | .log e => Sys2Proof.Machine.execLog e s
  | .add e => Sys2Proof.Machine.execAdd e s
  | .sub e => Sys2Proof.Machine.execSub e s
  | .adds e => Sys2Proof.Machine.execAdds e s
  | .subs e => Sys2Proof.Machine.execSubs e s
  | .add2 e => Sys2Proof.Machine.execAdd2 e s
  | .adds2 e => Sys2Proof.Machine.execAdds2 e s
  | .sub2 e => Sys2Proof.Machine.execSub2 e s
  | .subs2 e => Sys2Proof.Machine.execSubs2 e s
  | .and e => Sys2Proof.Machine.execAnd e s
  | .or e => Sys2Proof.Machine.execOr e s
  | .xor e => Sys2Proof.Machine.execXor e s
  | .shl e => Sys2Proof.Machine.execShl e s
  | .shr e => Sys2Proof.Machine.execShr e s
  | .shra e => Sys2Proof.Machine.execShra e s
  | .min e => Sys2Proof.Machine.execMin e s
  | .max e => Sys2Proof.Machine.execMax e s
  | .abs e => Sys2Proof.Machine.execAbs e s
  | .min2 e => Sys2Proof.Machine.execMin2 e s
  | .max2 e => Sys2Proof.Machine.execMax2 e s
  | .shra2 e => Sys2Proof.Machine.execShra2 e s
  | .cmpeq e => Sys2Proof.Machine.execCmpeq e s
  | .cmplt e => Sys2Proof.Machine.execCmplt e s
  | .cmple e => Sys2Proof.Machine.execCmple e s
  | .expw e => Sys2Proof.Machine.execExpw e s
  | .exph e => Sys2Proof.Machine.execExph e s
  | .conj e => Sys2Proof.Machine.execConj e s
  | .cmac e ecc => Sys2Proof.Machine.execCmac e ecc s
  | .cmacj e ecc => Sys2Proof.Machine.execCmacj e ecc s
  | .crmac e ecc => Sys2Proof.Machine.execCrmac e ecc s
  | .dmac e ecc => Sys2Proof.Machine.execDmac e ecc s
  | .qmac e ecc => Sys2Proof.Machine.execQmac e ecc s
  | .rnd32 e => Sys2Proof.Machine.execRnd32 e s
  | .rndl e => Sys2Proof.Machine.execRndl e s
  | .rndh e => Sys2Proof.Machine.execRndh e s
  | .expa e => Sys2Proof.Machine.execExpa e s
  | .expb e => Sys2Proof.Machine.execExpb e s
  | .norm e => Sys2Proof.Machine.execNorm e s
  | .ashr e => Sys2Proof.Machine.execAshr e s
  | .aclr e => Sys2Proof.Machine.execAclr e s
  | .aadd e => Sys2Proof.Machine.execAadd e s
  | .amov e => Sys2Proof.Machine.execAmov e s
  | .ld32 e ecc => Sys2Proof.Machine.execLd32 e ecc s
  | .ld64 e ecc => Sys2Proof.Machine.execLd64 e ecc s
  | .ld16s e ecc => Sys2Proof.Machine.execLd16s e ecc s
  | .ld16u e ecc => Sys2Proof.Machine.execLd16u e ecc s
  | .st32 e => Sys2Proof.Machine.execSt32 e s
  | .st64 e => Sys2Proof.Machine.execSt64 e s
  | .st16 e => Sys2Proof.Machine.execSt16 e s
  | .vec e => Sys2Proof.Machine.execVec e s
  | .rot e => Sys2Proof.Machine.execRot e s
  | .sincos e => Sys2Proof.Machine.execSincos e s
  | .recip e => Sys2Proof.Machine.execRecip e s
  | .rsqrt e => Sys2Proof.Machine.execRsqrt e s
  | .mov e => Sys2Proof.Machine.execMov e s
  | .movi e => Sys2Proof.Machine.execMovi e s
  | .srd e => Sys2Proof.Machine.execSrd e s
  | .swr e => Sys2Proof.Machine.execSwr e s
  | .lrot e => Sys2Proof.Machine.execLrot e s
  | .lbc e => Sys2Proof.Machine.execLbc e s
  | .lsum e => Sys2Proof.Machine.execLsum e s
  | .lmin e => Sys2Proof.Machine.execLmin e s
  | .lmax e => Sys2Proof.Machine.execLmax e s
  | .resultWriteback e => Sys2Proof.Machine.execResultWriteback e s
  | .interruptEntry e => Sys2Proof.Machine.execInterruptEntry e s
  | .dispqPop e => Sys2Proof.Machine.execDispqPop e s
  | .outqPush e => Sys2Proof.Machine.execOutqPush e s
  | .dmaGo e => Sys2Proof.Machine.execDmaGo e s
  | .dmaDone e ecc => Sys2Proof.Machine.execDmaDone e ecc s
  | .dmaStatusLoad e => Sys2Proof.Machine.execDmaStatusLoad e s
  | .haltReq src => Sys2Proof.Machine.execHaltReq src s
  | .haltComplete e => Sys2Proof.Machine.execHaltComplete e s
  | .resume src => Sys2Proof.Machine.execResume src s
  | .geaFaultClr src => Sys2Proof.Machine.execGeaFaultClr src s
  | .geaDoorbell src => Sys2Proof.Machine.execGeaDoorbell src s
  | .geaCountClr src => Sys2Proof.Machine.execGeaCountClr src s
  | .apertureAccess sil src write off data len ecc t => Sys2Proof.Machine.execApertureAccess sil src write off data len ecc t s
  | .bar2Access write off data len ecc t => Sys2Proof.Machine.execBar2Access write off data len ecc t s
  | .zoneAdd o seq => Sys2Proof.Machine.execZoneAdd o seq s
  | .zoneRemove o seq => Sys2Proof.Machine.execZoneRemove o seq s
  | .zoneRead o seq => Sys2Proof.Machine.execZoneRead o seq s
  | .statsReset src => Sys2Proof.Machine.execStatsReset src s
  | .zntCountClr src => Sys2Proof.Machine.execZntCountClr src s
  | .zntFaultClr src => Sys2Proof.Machine.execZntFaultClr src s
  | .capArm via w => Sys2Proof.Machine.execCapArm via w s
  | .capDisarm via w => Sys2Proof.Machine.execCapDisarm via w s
  | .capTrigger via w => Sys2Proof.Machine.execCapTrigger via w s
  | .capSetLength via w => Sys2Proof.Machine.execCapSetLength via w s
  | .capState o seq => Sys2Proof.Machine.execCapState o seq s
  | .capturePostComplete r => Sys2Proof.Machine.execCapturePostComplete r s
  | .captureDeliveryDone r => Sys2Proof.Machine.execCaptureDeliveryDone r s
  | .stuCountClr src => Sys2Proof.Machine.execStuCountClr src s
  | .stuFaultClr src => Sys2Proof.Machine.execStuFaultClr src s
  | .tceBlockIntake => Sys2Proof.Machine.execTceBlockIntake s
  | .tceBlockCoded c flips t => Sys2Proof.Machine.execTceBlockCoded c flips t s
  | .tceCountClr src => Sys2Proof.Machine.execTceCountClr src s
  | .tceFaultClr src => Sys2Proof.Machine.execTceFaultClr src s
  | .dmcInit src => Sys2Proof.Machine.execDmcInit src s
  | .dmcInitComplete check mrr t => Sys2Proof.Machine.execDmcInitComplete check mrr t s
  | .dramReset src t => Sys2Proof.Machine.execDramReset src t s
  | .dmcCountClr src => Sys2Proof.Machine.execDmcCountClr src s
  | .scrubNow src => Sys2Proof.Machine.execScrubNow src s
  | .scrubPeriod t => Sys2Proof.Machine.execScrubPeriod t s
  | .dmcRequest path cls write addr data len flips => Sys2Proof.Machine.execDmcRequest path cls write addr data len flips s
  | .refreshInterval r t => Sys2Proof.Machine.execRefreshInterval r t s
  | .refreshIssue r t => Sys2Proof.Machine.execRefreshIssue r t s
  | .mr4Poll r c0 c1 t => Sys2Proof.Machine.execMr4Poll r c0 c1 t s
  | .zqCalibration => Sys2Proof.Machine.execZqCalibration s
  | .rowIdleClose bank t => Sys2Proof.Machine.execRowIdleClose bank t s
  | .srEntry read => Sys2Proof.Machine.execSrEntry read s
  | .srExit => Sys2Proof.Machine.execSrExit s
  | .unretainedFillDone e => Sys2Proof.Machine.execUnretainedFillDone e s
  | .dmcDiagRead via => Sys2Proof.Machine.execDmcDiagRead via s
  | .arcRead o seq flips => Sys2Proof.Machine.execArcRead o seq flips s
  | .arcDelete o seq => Sys2Proof.Machine.execArcDelete o seq s
  | .arcCommit via => Sys2Proof.Machine.execArcCommit via s
  | .arcFormat via => Sys2Proof.Machine.execArcFormat via s
  | .arcInfo o seq => Sys2Proof.Machine.execArcInfo o seq s
  | .patrolNow src => Sys2Proof.Machine.execPatrolNow src s
  | .ancCountClr src => Sys2Proof.Machine.execAncCountClr src s
  | .ancFaultClr src => Sys2Proof.Machine.execAncFaultClr src s
  | .ancMount id t => Sys2Proof.Machine.execAncMount id t s
  | .formatComplete bad failed => Sys2Proof.Machine.execFormatComplete bad failed s
  | .archiveRecordSubmit kind t => Sys2Proof.Machine.execArchiveRecordSubmit kind t s
  | .stagedRecordProgram c => Sys2Proof.Machine.execStagedRecordProgram c s
  | .pageProgramDone fail => Sys2Proof.Machine.execPageProgramDone fail s
  | .nandOpTimeout => Sys2Proof.Machine.execNandOpTimeout s
  | .commitMsExpiry t => Sys2Proof.Machine.execCommitMsExpiry t s
  | .commitInForce t => Sys2Proof.Machine.execCommitInForce t s
  | .checkpointWritten => Sys2Proof.Machine.execCheckpointWritten s
  | .patrolRead flips => Sys2Proof.Machine.execPatrolRead flips s
  | .nandZqCalibration => Sys2Proof.Machine.execNandZqCalibration s
  | .flushComplete => Sys2Proof.Machine.execFlushComplete s
  | .pwrfailAssert => Sys2Proof.Machine.execPwrfailAssert s
  | .pwrfailRelease => Sys2Proof.Machine.execPwrfailRelease s
  | .cvuInit src n => Sys2Proof.Machine.execCvuInit src n s
  | .cvuGo src n => Sys2Proof.Machine.execCvuGo src n s
  | .cvuAbort src n done => Sys2Proof.Machine.execCvuAbort src n done s
  | .cvuDataWrite src n w => Sys2Proof.Machine.execCvuDataWrite src n w s
  | .cvuCfgWrite src n w => Sys2Proof.Machine.execCvuCfgWrite src n w s
  | .cvuTransferDone n => Sys2Proof.Machine.execCvuTransferDone n s
  | .cvuCountClr src => Sys2Proof.Machine.execCvuCountClr src s
  | .setNow via => Sys2Proof.Machine.execSetNow via s
  | .setAtPps via => Sys2Proof.Machine.execSetAtPps via s
  | .cancelSet via => Sys2Proof.Machine.execCancelSet via s
  | .ttuCountClr src => Sys2Proof.Machine.execTtuCountClr src s
  | .ppsInEdge stamp falling steer => Sys2Proof.Machine.execPpsInEdge stamp falling steer s
  | .ppsMissing t => Sys2Proof.Machine.execPpsMissing t s
  | .refclkWindow freq steer t => Sys2Proof.Machine.execRefclkWindow freq steer t s
  | .refclkTimeout t => Sys2Proof.Machine.execRefclkTimeout t s
  | .holdLimit t => Sys2Proof.Machine.execHoldLimit t s
  | .ppsOutPulse t => Sys2Proof.Machine.execPpsOutPulse t s
  | .oscOffsetReport => Sys2Proof.Machine.execOscOffsetReport s
  | .ttuNowRead src => Sys2Proof.Machine.execTtuNowRead src s
  | .evEdge c falling stamp gate ungated => Sys2Proof.Machine.execEvEdge c falling stamp gate ungated s
  | .stuck c t => Sys2Proof.Machine.execStuck c t s
  | .hfWindow h edges t => Sys2Proof.Machine.execHfWindow h edges t s
  | .ttuArm src mask => Sys2Proof.Machine.execTtuArm src mask s
  | .stampQueueRead src q w => Sys2Proof.Machine.execStampQueueRead src q w s
  | .iuCfgWrite src u n w => Sys2Proof.Machine.execIuCfgWrite src u n w s
  | .iuMeanRead src u => Sys2Proof.Machine.execIuMeanRead src u s
  | .iuCountRead src u => Sys2Proof.Machine.execIuCountRead src u s
  | .iuWindowExpiry u stamp => Sys2Proof.Machine.execIuWindowExpiry u stamp s
  | .tdcCalibration c ok => Sys2Proof.Machine.execTdcCalibration c ok s
  | .vpfConversion code open_ t => Sys2Proof.Machine.execVpfConversion code open_ t s
  | .vpfExcWrite src c w t => Sys2Proof.Machine.execVpfExcWrite src c w t s
  | .pause src => Sys2Proof.Machine.execPause src s
  | .vpfResume src => Sys2Proof.Machine.execVpfResume src s
  | .vpfCalReq src => Sys2Proof.Machine.execVpfCalReq src s
  | .vpfFaultClr src => Sys2Proof.Machine.execVpfFaultClr src s
  | .vpfCountClr src => Sys2Proof.Machine.execVpfCountClr src s
  | .vpfCalibrationDone offsets gains t => Sys2Proof.Machine.execVpfCalibrationDone offsets gains t s
  | .mainsSyncEdge t => Sys2Proof.Machine.execMainsSyncEdge t s
  | .mainsTimeout t => Sys2Proof.Machine.execMainsTimeout t s
  | .referenceComparison t => Sys2Proof.Machine.execReferenceComparison t s
  | .dlkTransact via => Sys2Proof.Machine.execDlkTransact via s
  | .safe src => Sys2Proof.Machine.execSafe src s
  | .dlkResume src => Sys2Proof.Machine.execDlkResume src s
  | .dlkFaultClr src => Sys2Proof.Machine.execDlkFaultClr src s
  | .dlkCountClr src => Sys2Proof.Machine.execDlkCountClr src s
  | .statusPoll d t => Sys2Proof.Machine.execStatusPoll d t s
  | .postDiagRead t => Sys2Proof.Machine.execPostDiagRead t s
  | .dlkResponse bytes t => Sys2Proof.Machine.execDlkResponse bytes t s
  | .dlkResponseTimeout t => Sys2Proof.Machine.execDlkResponseTimeout t s
  | .powerVote via w => Sys2Proof.Machine.execPowerVote via w s
  | .unitVote voter d v => Sys2Proof.Machine.execUnitVote voter d v s
  | .powerStepComplete d t => Sys2Proof.Machine.execPowerStepComplete d t s
  | .dmcPortRelease t => Sys2Proof.Machine.execDmcPortRelease t s
  | .offlogRead src w => Sys2Proof.Machine.execOfflogRead src w s
  | .pmuCountClr src => Sys2Proof.Machine.execPmuCountClr src s
  | .offlogClr src => Sys2Proof.Machine.execOfflogClr src s
  | .sqTailWrite n tail slots => Sys2Proof.Machine.execSqTailWrite n tail slots s
  | .cqHeadWrite n head => Sys2Proof.Machine.execCqHeadWrite n head s
  | .sessionOpen o seq => Sys2Proof.Machine.execSessionOpen o seq s
  | .sessionClose via n => Sys2Proof.Machine.execSessionClose via n s
  | .sessionReopen via n => Sys2Proof.Machine.execSessionReopen via n s
  | .session0Open src n => Sys2Proof.Machine.execSession0Open src n s
  | .echo o seq => Sys2Proof.Machine.execEcho o seq s
  | .unitStatus o seq => Sys2Proof.Machine.execUnitStatus o seq s
  | .errorLog o seq => Sys2Proof.Machine.execErrorLog o seq s
  | .identity o seq => Sys2Proof.Machine.execIdentity o seq s
  | .almSummary o seq => Sys2Proof.Machine.execAlmSummary o seq s
  | .violationLog o seq => Sys2Proof.Machine.execViolationLog o seq s
  | .vlogRead src w => Sys2Proof.Machine.execVlogRead src w s
  | .regRead o seq t => Sys2Proof.Machine.execRegRead o seq t s
  | .regWrite o seq env => Sys2Proof.Machine.execRegWrite o seq env s
  | .cascadeInfo o seq => Sys2Proof.Machine.execCascadeInfo o seq s
  | .hifCountClr src => Sys2Proof.Machine.execHifCountClr src s
  | .vlogClr src => Sys2Proof.Machine.execVlogClr src s
  | .streamEnable src c w => Sys2Proof.Machine.execStreamEnable src c w s
  | .streamRdWrite src c w => Sys2Proof.Machine.execStreamRdWrite src c w s
  | .streamRecordWrite c => Sys2Proof.Machine.execStreamRecordWrite c s
  | .streamDrop c => Sys2Proof.Machine.execStreamDrop c s
  | .msixUnmask v => Sys2Proof.Machine.execMsixUnmask v s
  | .smbusBlockRead cmd t => Sys2Proof.Machine.execSmbusBlockRead cmd t s
  | .train src => Sys2Proof.Machine.execTrain src s
  | .trainingEnd map die up => Sys2Proof.Machine.execTrainingEnd map die up s
  | .ccReq src => Sys2Proof.Machine.execCcReq src s
  | .ccPeriodExpiry t => Sys2Proof.Machine.execCcPeriodExpiry t s
  | .ccTimeout t => Sys2Proof.Machine.execCcTimeout t s
  | .reopen src m => Sys2Proof.Machine.execReopen src m s
  | .cspCountClr src => Sys2Proof.Machine.execCspCountClr src s
  | .hello port die head => Sys2Proof.Machine.execHello port die head s
  | .enum port index => Sys2Proof.Machine.execEnum port index s
  | .request port b => Sys2Proof.Machine.execRequest port b s
  | .answer port b => Sys2Proof.Machine.execAnswer port b s
  | .data port b o seq => Sys2Proof.Machine.execData port b o seq s
  | .trace port b => Sys2Proof.Machine.execTrace port b s
  | .prepare cc => Sys2Proof.Machine.execPrepare cc s
  | .prepared m cc commit last => Sys2Proof.Machine.execPrepared m cc commit last s
  | .chorusNak b => Sys2Proof.Machine.execChorusNak b s
  | .chorusCrcReject => Sys2Proof.Machine.execChorusCrcReject s
  | .hopRetransmit port made => Sys2Proof.Machine.execHopRetransmit port made s
  | .helloTimer port => Sys2Proof.Machine.execHelloTimer port s
  | .enumTimeout last => Sys2Proof.Machine.execEnumTimeout last s
  | .memberLost m => Sys2Proof.Machine.execMemberLost m s
  | .linkDown port later => Sys2Proof.Machine.execLinkDown port later s
  | .calRecordAppend o seq => Sys2Proof.Machine.execCalRecordAppend o seq s
  | .calRecordRead o seq => Sys2Proof.Machine.execCalRecordRead o seq s
  | .runRecordStored fails t => Sys2Proof.Machine.execRunRecordStored fails t s
  | .poweredMinute stored t => Sys2Proof.Machine.execPoweredMinute stored t s
  | .indicatorSample id t => Sys2Proof.Machine.execIndicatorSample id t s
  | .historySubmit t => Sys2Proof.Machine.execHistorySubmit t s
  | .epochLoadComplete t => Sys2Proof.Machine.execEpochLoadComplete t s
  | .flush src => Sys2Proof.Machine.execFlush src s
  | .almCountClr src => Sys2Proof.Machine.execAlmCountClr src s
  | .warmReq src t => Sys2Proof.Machine.execWarmReq src t s
  | .causeClr src => Sys2Proof.Machine.execCauseClr src s
  | .glbCountClr src => Sys2Proof.Machine.execGlbCountClr src s
  | .wdtEnable src t => Sys2Proof.Machine.execWdtEnable src t s
  | .wdtKick src w t => Sys2Proof.Machine.execWdtKick src w t s
  | .wdtWarn t => Sys2Proof.Machine.execWdtWarn t s
  | .wdtExpiry t => Sys2Proof.Machine.execWdtExpiry t s
  | .flushResetTimeout t => Sys2Proof.Machine.execFlushResetTimeout t s
  | .tjSample tj t => Sys2Proof.Machine.execTjSample tj t s
  | .chirpEnd k => Sys2Proof.Machine.execChirpEnd k s
  | .activeCopyRewriteDone => Sys2Proof.Machine.execActiveCopyRewriteDone s
  | .hostDmaComplete o seq ok data t => Sys2Proof.Machine.execHostDmaComplete o seq ok data t s
  | .nandPageReadDone page flips => Sys2Proof.Machine.execNandPageReadDone page flips s
  | .busMasterEnable msix mask slots => Sys2Proof.Machine.execBusMasterEnable msix mask slots s

end Sys2Proof.Machine
end

