-- ==== Sys2Proof/Machine/Step.lean ====
section
/-! DEFINITION. One step of the block: the command at the front of the queue, or an idle tick. -/

namespace Sys2Proof.Machine

/-- One step: the front command runs on the state with the rest of the queue; with no command waiting one
fast sample passes, and the scrubber may read (DESIGN CHOICE, log entries 1, 80). -/
def step (s : State) : Host.Outcome State Fault Refusal :=
  match s.pending with
  | [] => .next ({ s with now := s.now + 1 }).idle
  | c :: rest => exec c { s with pending := rest }

/-- The command a table word spells goes to the front of the queue; no row of the table carries bits, so the
state stays as it is. -/
def State.withFetchWord (s : State) (nbits w : Nat) : State :=
  match decodeTableWord nbits w with
  | some c => { s with pending := c :: s.pending }
  | none => s

end Sys2Proof.Machine
end

