-- ==== Sys2Proof/WellFormed.lean ====
section
/-! DEFINITION. Well-formed commands: what the operands of a command must look like for it to be one that the surroundings
can send. A meaning is total all the same. -/

namespace Sys2Proof

/-- The inputs of the four converters of each kind since the samples last taken, as many samples of each (04 R124, R127). -/
def samplesWf (fadc madc : List (List Int)) : Bool :=
  fadc.length == 4 && madc.length == 4 && fadc.all (fun l => l.length == (fadc.headD []).length)
    && madc.all (fun l => l.length == (madc.headD []).length)

/-- A register access names a 32-bit register (18 R461). -/
def regWf (off : Nat) : Bool := decide (off < 2 ^ 24) && off % 4 == 0

/-- A submission slot has 64 bytes (18 R465). -/
def slotWf (b : Bytes) : Bool := b.length == 64

/-- A value for each of four converter channels (04 R141). -/
def channelsWf (l : List Int) : Bool := l.length == 4

/-- X and Y of gain codes 0 to 7 (04 R143). -/
def stepWf (l : List (Int × Int)) : Bool := l.length == 16

/-- A write carries its data, a read carries none. -/
def dataWf (write : Bool) (data : Bytes) (len : Nat) : Bool := if write then data.length == len else data.isEmpty

/-- An access lies inside its window, and a write carries its data (07 R236, 18 R462). -/
def windowWf (size : Nat) (write : Bool) (off : Nat) (data : Bytes) (len : Nat) : Bool :=
  decide (0 < len) && decide (off + len ≤ size) && dataWf write data len

/-- Targets 0 to 7 in rising order, each once (12 R346). -/
def targetsWf (id : List (Nat × NandAnswer)) : Bool :=
  id.all (fun x => decide (x.1 < 8)) && decide (id.Pairwise (fun a b => a.1 < b.1))

/-- A Chorus frame has its header and its check, and at most 65,536 bytes of payload (19 Table 19-1). -/
def chorusWf (b : Bytes) : Bool := decide (20 ≤ b.length) && decide (b.length ≤ 65556)

/-- The command is well-formed. -/
def Instr.wf : Instr → Bool
  | .powerOnReset => true
  | .powerOnResetRelease .. => true
  | .resetN .. => true
  | .warmResetRelease .. => true
  | .coreSupply .. => true
  | .coreSupplyRecovered .. => true
  | .trstN => true
  | .perstAssert .. => true
  | .perstDeassert .. => true
  | .headerRead .. => true
  | .linkTrained .. => true
  | .linkL1Entry .. => true
  | .linkL1Exit .. => true
  | .frameBoundary _ fadc madc _ _ => samplesWf fadc madc
  | .acquisitionStopped .. => true
  | .virtualFrameTimeout _ fadc madc _ _ => samplesWf fadc madc
  | .launchInEdge .. => true
  | .slaveLaunchReference _ fadc madc _ _ => samplesWf fadc madc
  | .toneLaunch .. => true
  | .gateEdge .. => true
  | .launchOutEdge .. => true
  | .calSelChange .. => true
  | .pgaStep .. => true
  | .blankWindowEdge .. => true
  | .blankInChange .. => true
  | .notify .. => true
  | .gpioSet .. => true
  | .gpioClear .. => true
  | .decision .. => true
  | .captureOpen .. => true
  | .timer .. => true
  | .slotDoorbell .. => true
  | .dynamicSlotRequest .. => true
  | .dynamicSlotCancel .. => true
  | .blockDispatch _ _ _ fadc madc _ => samplesWf fadc madc
  | .acqStart .. => true
  | .acqStop .. => true
  | .mrsCountClr .. => true
  | .healthClr .. => true
  | .rebalanceReset .. => true
  | .imageBegin .. => true
  | .imageChunk .. => true
  | .bootImageLoad .. => true
  | .imageChecksComplete .. => true
  | .switchNext .. => true
  | .switchAt .. => true
  | .imageDisarm .. => true
  | .imageAbort .. => true
  | .imageState .. => true
  | .lockClr .. => true
  | .heavySwitchDrainDone .. => true
  | .engineLoadComplete .. => true
  | .pointerRecordAppend => true
  | .registerWrite _ off _ _ env => regWf off.toNat && env.slots.all slotWf
  | .offAccess src aperture write off _ => (aperture || regWf off.toNat) && !(write && src == .smbus)
  | .calRun .. => true
  | .pguFaultClr .. => true
  | .pguCountClr .. => true
  | .pdacPllLock .. => true
  | .pllUnlock .. => true
  | .fafeCalReq .. => true
  | .mafeCalReq .. => true
  | .adcCalibrationDone mafe offsets skews _ => channelsWf offsets && (mafe || channelsWf skews)
  | .stepcalReq .. => true
  | .stepcalDone responses => stepWf responses
  | .fafeCountClr .. => true
  | .mafeCountClr .. => true
  | .fafeFaultClr .. => true
  | .mafeFaultClr .. => true
  | .tfEvaluation fadc madc _ => samplesWf fadc madc
  | .tfStage .. => true
  | .tfLoad .. => true
  | .tfCommit .. => true
  | .tfDiscard .. => true
  | .templateBuildDone => true
  | .pcxFaultClr .. => true
  | .pcxCountClr .. => true
  | .bankRelease => true
  | .nop .. => true
  | .br .. => true
  | .call .. => true
  | .ret .. => true
  | .loop .. => true
  | .rep .. => true
  | .wait .. => true
  | .halt .. => true
  | .rti .. => true
  | .fence .. => true
  | .trap .. => true
  | .log .. => true
  | .add .. => true
  | .sub .. => true
  | .adds .. => true
  | .subs .. => true
  | .add2 .. => true
  | .adds2 .. => true
  | .sub2 .. => true
  | .subs2 .. => true
  | .and .. => true
  | .or .. => true
  | .xor .. => true
  | .shl .. => true
  | .shr .. => true
  | .shra .. => true
  | .min .. => true
  | .max .. => true
  | .abs .. => true
  | .min2 .. => true
  | .max2 .. => true
  | .shra2 .. => true
  | .cmpeq .. => true
  | .cmplt .. => true
  | .cmple .. => true
  | .expw .. => true
  | .exph .. => true
  | .conj .. => true
  | .cmac .. => true
  | .cmacj .. => true
  | .crmac .. => true
  | .dmac .. => true
  | .qmac .. => true
  | .rnd32 .. => true
  | .rndl .. => true
  | .rndh .. => true
  | .expa .. => true
  | .expb .. => true
  | .norm .. => true
  | .ashr .. => true
  | .aclr .. => true
  | .aadd .. => true
  | .amov .. => true
  | .ld32 .. => true
  | .ld64 .. => true
  | .ld16s .. => true
  | .ld16u .. => true
  | .st32 .. => true
  | .st64 .. => true
  | .st16 .. => true
  | .vec .. => true
  | .rot .. => true
  | .sincos .. => true
  | .recip .. => true
  | .rsqrt .. => true
  | .mov .. => true
  | .movi .. => true
  | .srd .. => true
  | .swr .. => true
  | .lrot .. => true
  | .lbc .. => true
  | .lsum .. => true
  | .lmin .. => true
  | .lmax .. => true
  | .resultWriteback .. => true
  | .interruptEntry .. => true
  | .dispqPop .. => true
  | .outqPush .. => true
  | .dmaGo .. => true
  | .dmaDone .. => true
  | .dmaStatusLoad .. => true
  | .haltReq .. => true
  | .haltComplete .. => true
  | .resume .. => true
  | .geaFaultClr .. => true
  | .geaDoorbell .. => true
  | .geaCountClr .. => true
  | .apertureAccess _ _ write off d len _ _ => windowWf (2 ^ 26) write off.toNat d len
  | .bar2Access write off d len _ _ => windowWf (2 ^ 28) write off.toNat d len
  | .zoneAdd .. => true
  | .zoneRemove .. => true
  | .zoneRead .. => true
  | .statsReset .. => true
  | .zntCountClr .. => true
  | .zntFaultClr .. => true
  | .capArm .. => true
  | .capDisarm .. => true
  | .capTrigger .. => true
  | .capSetLength .. => true
  | .capState .. => true
  | .capturePostComplete .. => true
  | .captureDeliveryDone .. => true
  | .stuCountClr .. => true
  | .stuFaultClr .. => true
  | .tceBlockIntake => true
  | .tceBlockCoded .. => true
  | .tceCountClr .. => true
  | .tceFaultClr .. => true
  | .dmcInit .. => true
  | .dmcInitComplete .. => true
  | .dramReset .. => true
  | .dmcCountClr .. => true
  | .scrubNow .. => true
  | .scrubPeriod .. => true
  | .dmcRequest _ _ write _ d len flips => dataWf write d len && flips.all (fun b => decide (b < 288))
  | .refreshInterval .. => true
  | .refreshIssue .. => true
  | .mr4Poll .. => true
  | .zqCalibration => true
  | .rowIdleClose .. => true
  | .srEntry .. => true
  | .srExit => true
  | .unretainedFillDone .. => true
  | .dmcDiagRead .. => true
  | .arcRead .. => true
  | .arcDelete .. => true
  | .arcCommit .. => true
  | .arcFormat .. => true
  | .arcInfo .. => true
  | .patrolNow .. => true
  | .ancCountClr .. => true
  | .ancFaultClr .. => true
  | .ancMount id _ => targetsWf id
  | .formatComplete .. => true
  | .archiveRecordSubmit .. => true
  | .stagedRecordProgram .. => true
  | .pageProgramDone .. => true
  | .nandOpTimeout => true
  | .commitMsExpiry .. => true
  | .commitInForce .. => true
  | .checkpointWritten => true
  | .patrolRead .. => true
  | .nandZqCalibration => true
  | .flushComplete => true
  | .pwrfailAssert => true
  | .pwrfailRelease => true
  | .cvuInit .. => true
  | .cvuGo .. => true
  | .cvuAbort .. => true
  | .cvuDataWrite .. => true
  | .cvuCfgWrite .. => true
  | .cvuTransferDone .. => true
  | .cvuCountClr .. => true
  | .setNow .. => true
  | .setAtPps .. => true
  | .cancelSet .. => true
  | .ttuCountClr .. => true
  | .ppsInEdge .. => true
  | .ppsMissing .. => true
  | .refclkWindow .. => true
  | .refclkTimeout .. => true
  | .holdLimit .. => true
  | .ppsOutPulse .. => true
  | .oscOffsetReport => true
  | .ttuNowRead .. => true
  | .evEdge .. => true
  | .stuck .. => true
  | .hfWindow .. => true
  | .ttuArm .. => true
  | .stampQueueRead .. => true
  | .iuCfgWrite .. => true
  | .iuMeanRead .. => true
  | .iuCountRead .. => true
  | .iuWindowExpiry .. => true
  | .tdcCalibration .. => true
  | .vpfConversion .. => true
  | .vpfExcWrite .. => true
  | .pause .. => true
  | .vpfResume .. => true
  | .vpfCalReq .. => true
  | .vpfFaultClr .. => true
  | .vpfCountClr .. => true
  | .vpfCalibrationDone offsets gains _ => decide (offsets.length = 4) && decide (gains.length = 4)
  | .mainsSyncEdge .. => true
  | .mainsTimeout .. => true
  | .referenceComparison .. => true
  | .dlkTransact .. => true
  | .safe .. => true
  | .dlkResume .. => true
  | .dlkFaultClr .. => true
  | .dlkCountClr .. => true
  | .statusPoll .. => true
  | .postDiagRead .. => true
  | .dlkResponse .. => true
  | .dlkResponseTimeout .. => true
  | .powerVote .. => true
  | .unitVote .. => true
  | .powerStepComplete .. => true
  | .dmcPortRelease .. => true
  | .offlogRead .. => true
  | .pmuCountClr .. => true
  | .offlogClr .. => true
  | .sqTailWrite _ _ slots => slots.all slotWf
  | .cqHeadWrite .. => true
  | .sessionOpen .. => true
  | .sessionClose .. => true
  | .sessionReopen .. => true
  | .session0Open .. => true
  | .echo .. => true
  | .unitStatus .. => true
  | .errorLog .. => true
  | .identity .. => true
  | .almSummary .. => true
  | .violationLog .. => true
  | .vlogRead .. => true
  | .regRead .. => true
  | .regWrite _ _ env => env.slots.all slotWf
  | .cascadeInfo .. => true
  | .hifCountClr .. => true
  | .vlogClr .. => true
  | .streamEnable .. => true
  | .streamRdWrite .. => true
  | .streamRecordWrite .. => true
  | .streamDrop .. => true
  | .msixUnmask .. => true
  | .smbusBlockRead .. => true
  | .train .. => true
  | .trainingEnd .. => true
  | .ccReq .. => true
  | .ccPeriodExpiry .. => true
  | .ccTimeout .. => true
  | .reopen .. => true
  | .cspCountClr .. => true
  | .hello .. => true
  | .enum .. => true
  | .request _ b => chorusWf b
  | .answer _ b => chorusWf b
  | .data _ b _ _ => chorusWf b
  | .trace _ b => chorusWf b
  | .prepare .. => true
  | .prepared .. => true
  | .chorusNak b => chorusWf b
  | .chorusCrcReject => true
  | .hopRetransmit .. => true
  | .helloTimer .. => true
  | .enumTimeout .. => true
  | .memberLost .. => true
  | .linkDown .. => true
  | .calRecordAppend .. => true
  | .calRecordRead .. => true
  | .runRecordStored .. => true
  | .poweredMinute .. => true
  | .indicatorSample .. => true
  | .historySubmit .. => true
  | .epochLoadComplete .. => true
  | .flush .. => true
  | .almCountClr .. => true
  | .warmReq .. => true
  | .causeClr .. => true
  | .glbCountClr .. => true
  | .wdtEnable .. => true
  | .wdtKick .. => true
  | .wdtWarn .. => true
  | .wdtExpiry .. => true
  | .flushResetTimeout .. => true
  | .tjSample .. => true
  | .chirpEnd .. => true
  | .activeCopyRewriteDone => true
  | .hostDmaComplete .. => true
  | .nandPageReadDone .. => true
  | .busMasterEnable _ _ slots => slots.all (fun l => l.all slotWf)

end Sys2Proof
end

