-- ==== Sys2Proof/Safety.lean ====
section
/-! DEFINITION. What a sound state is, and what a run may be said to do: the canonical forms of the tables and memories, and
what no command may touch. -/

namespace Sys2Proof.Machine

/-- A sparse memory is in canonical form: addresses rise strictly, and no entry equals what an unlisted address reads as. -/
abbrev Memory.wf (dflt : Nat → Byte) (m : Mem) : Bool := tabWf dflt m

/-- The register list is in canonical form: offsets rise strictly, and no entry equals the register's reset value. -/
def State.regsWf (s : State) : Bool := tabWf resetWord s.regs

/-- The error logs are in canonical form, and each holds at most 16 entries (01 R56). -/
def State.logsWf (s : State) : Bool :=
  tabWf (fun _ => (⟨[], false⟩ : UnitLog)) s.logs && s.logs.all (fun l => decide (l.2.entries.length ≤ 16))

/-- The boot flash, the DRAM and the engine memories are in canonical form. -/
def State.memsWf (s : State) : Bool :=
  Memory.wf flashBlank s.flash && Memory.wf dramDflt s.dmc.dram && Memory.wf (fun _ => 0) s.gea.mem

/-- Registers, logs and memories are in canonical form, so that equal contents are equal data. -/
def State.canonical (s : State) : Prop := s.regsWf = true ∧ s.logsWf = true ∧ s.memsWf = true

/-! ### When a command takes its effect -/

/-- A request through `v` reaches unit `u`: the unit is on (17 R454), and a message names an accepted request for this chip
with one of the given opcodes (18 R473, R475). -/
def State.takesUp (s : State) (v : Via) (ops : List Nat) (u : Unit) : Bool :=
  s.unitOn u && (match v with | .reg _ => true | .msg o seq => (s.requestOf o seq ops).isSome)

/-- The stream of engine `e` issues word `w`, an instruction of class `cls` and operation `op`: the stream `k` runs with no halt
due, its PC lies in the instruction memory, and the word has no two upset bits and is not ILLEGAL there (07 R213, R215, R220, R245). -/
structure State.Issues (s : State) (e : Fin 64) (cls op k w : Nat) : Prop where
  stream : s.streamOf e.val = some k
  running : s.canIssue k = true
  word : (s.fetched k).insn k ((s.fetched k).thread k).pc = w
  inside : ((s.fetched k).thread k).pc < 4096
  sound : (s.fetched k).upsetIn (imemBase k + 8 * ((s.fetched k).thread k).pc) 8 true = []
  legal : (s.fetched k).illegal k w = false
  cls_eq : wCls w = cls
  op_eq : wOp w = op

/-- A stream's state after an instruction that acts in each executing lane on its own, with results due landed and its word fetched before it and the
advance after it (07 R213, R220). -/
def State.afterLanes (s : State) (k w : Nat) (f : Nat → State → State) : State :=
  (((s.fetched k).executing k w).foldl (fun a x => f x a) (s.fetched k)).advance k

/-- The same for an instruction that acts once for its stream when it executes at all. -/
def State.afterOnce (s : State) (k w : Nat) (f : State → State) : State :=
  (if ((s.fetched k).executing k w).isEmpty then s.fetched k else f (s.fetched k)).advance k

end Sys2Proof.Machine
end

