-- ==== Sys2Proof/Certificates/Slice0/Obligations.lean ====
section
/-! DEFINITION. Statements for the provers: what the block does as a whole, what its shared operations do, and, family by family,
the next state of every command under conditions on state and operands alone. -/

open Sys2Proof Sys2Proof.Machine

/-- For every command c, queue l and state s: a step of s with c in front of l is exec of c on s with the queue l.
(spec/opcode_table.json) -/
def Obligations.StepRunsFront : Prop :=
  ∀ (c : Instr) (l : List Instr) (s : State), step { s with pending := c :: l } = exec c { s with pending := l }

/-- A step on an empty queue adds one to the monotonic count (the model's choice, log entries 1 and 80). While a scrub pass
goes on, nothing waits at the DRAM port and the unit at the scrub pointer is filled, the read of that unit enters the port
in class 5; else nothing changes besides the count. No row of the table gives bits: no word decodes to a command, and
placing a word leaves every state as it is. (R389, R327, spec/opcode_table.json) -/
def Obligations.IdleTickAndNoWords : Prop :=
  (∀ s : State, s.pending = [] →
      let u : State := { s with now := s.now + 1 }
      (∀ a, s.dmc.scrub = some a → s.dmc.waiting = [] → u.spanReady a 32 = true → step s = .next (u.dmcEnqueue ⟨dmcPath, 5, false, a, [], 32, u.now⟩))
        ∧ (s.dmc.scrub = none ∨ s.dmc.waiting ≠ [] ∨ (∀ a, s.dmc.scrub = some a → u.spanReady a 32 = false) → step s = .next u))
    ∧ ∀ (n w : Nat) (s : State), decodeTableWord n w = none ∧ s.withFetchWord n w = s

/-- State.reset has no command waiting, is canonical, holds every register at its reset value and every error log empty, and
has power-on reset asserted. The reset values of Table 23-3 are in resetWord; that reset is the asserted state is the
model's choice (log entry 72). (R516, R566) -/
def Obligations.ResetState : Prop :=
  State.reset.pending = [] ∧ State.reset.canonical ∧ (∀ off, State.reset.reg off = resetWord off)
    ∧ (∀ p, State.reset.logOf p = ⟨[], false⟩) ∧ State.reset.glb.porHeld = true

/-- For every canonical state, a step that answers a next state leaves it canonical: register table, error logs (each of at
most 16 entries), boot flash, DRAM and engine memory have rising keys and no entry equal to what an unlisted key reads as.
State.reset is canonical by ResetState. (R19, R56, R566) -/
def Obligations.StepKeepsCanonical : Prop :=
  ∀ s t : State, s.canonical → step s = .next t → t.canonical

/-- Whatever command runs on whatever state, exec answers a next state (no command ends in a fault or a refusal), and there
the queue of waiting commands and the one-time-programmable fuses (die identity, factory record, keys) are as before. (R497,
R501, R516, spec/opcode_table.json) -/
def Obligations.CommandsCompleteAndKeepQueueAndFuses : Prop :=
  ∀ (c : Instr) (s : State), ∃ t, exec c s = .next t ∧ t.pending = s.pending ∧ t.otp = s.otp

/-- In a canonical state, storing a word at an offset makes that offset hold the word, leaves every other offset as it was,
and keeps the state canonical; nothing but the register table changes. (R19, R563) -/
def Obligations.RegisterReadBack : Prop :=
  ∀ (s : State) (off : Nat) (w : Word), s.canonical →
    (s.setReg off w).reg off = w ∧ (∀ r, r ≠ off → (s.setReg off w).reg r = s.reg r) ∧ (s.setReg off w).canonical
      ∧ { s.setReg off w with regs := s.regs } = s

/-- In a canonical state, bytes written to engine memory at an aperture offset, or to boot flash at an address, read back;
every byte outside them reads as before. (R232, R74, R520) -/
def Obligations.MemoryReadBack : Prop :=
  ∀ (s : State) (a : Nat) (b : Bytes), s.canonical →
    (s.setEmem a b).emem a b.length = b
      ∧ (∀ x, x < a ∨ a + b.length ≤ x → (s.setEmem a b).emem x 1 = s.emem x 1)
      ∧ (s.flashPut a b).flashBytes a b.length = b
      ∧ (∀ x, x < a ∨ a + b.length ≤ x → (s.flashPut a b).flashBytes x 1 = s.flashBytes x 1)

/-- Every entry has 16 bytes. In a canonical state a log holds at most 16 entries after a code is logged; a code that does
not repeat the latest entry stands last, and when 16 entries were there the oldest has gone. (R56) -/
def Obligations.ErrorLogRing : Prop :=
  (∀ e : LogEntry, e.bytes.length = 16)
    ∧ ∀ (s : State) (p code frame bin : Nat), s.canonical →
      ((s.logFor p code frame bin).logOf p).entries.length ≤ 16
        ∧ ((∀ x, (s.logOf p).entries.getLast? = some x → ¬(x.code = code ∧ x.frame = frame)) →
            ((s.logFor p code frame bin).logOf p).entries
              = (if (s.logOf p).entries.length = 16 then (s.logOf p).entries.tail else (s.logOf p).entries) ++ [⟨frame, code, bin, 0, p⟩])
        ∧ ∀ q, q ≠ p → (s.logFor p code frame bin).logOf q = s.logOf q

/-- In a canonical state, counting n on a field of a register makes the field the smaller of its old value plus n and its
largest value, and leaves the other bits of that register and every other register as they were. (R20, R19) -/
def Obligations.SaturatingCount : Prop :=
  ∀ (s : State) (f : Fld) (n : Nat), s.canonical → f.lo ≤ f.hi → f.hi < 32 →
    (s.count f n).fld f = min (2 ^ (f.hi + 1 - f.lo) - 1) (s.fld f + n)
      ∧ (∀ i, i < 32 → (i < f.lo ∨ f.hi < i) → ((s.count f n).reg f.reg).getLsbD i = (s.reg f.reg).getLsbD i)
      ∧ ∀ r, r ≠ f.reg → (s.count f n).reg r = s.reg r

/-- For every register of the map, a write while an image is ACTIVE leaves every RWL bit at its old value; locked or not, a
bit of no writable field keeps its value, and a written RW or RWS bit takes the value written. (R88, R20) -/
def Obligations.LockedFieldsKeepTheirValue : Prop :=
  ∀ (off : Nat) (f : RegFam) (locked : Bool) (old w : Word), famOf off = some f →
    (f.applyWrite true old w &&& f.maskOf .rwl = old &&& f.maskOf .rwl)
      ∧ (f.applyWrite locked old w &&& (f.maskOf .rw ||| f.maskOf .rws) = w &&& (f.maskOf .rw ||| f.maskOf .rws))
      ∧ (f.applyWrite locked old w &&& ~~~(f.maskOf .rw ||| f.maskOf .rws ||| f.maskOf .rwl ||| f.maskOf .w1c ||| f.maskOf .w1s)
        = old &&& ~~~(f.maskOf .rw ||| f.maskOf .rws ||| f.maskOf .rwl ||| f.maskOf .w1c ||| f.maskOf .w1s))

/-- At a boundary the frame number becomes 0 when no frame is open yet or when the count would reach 2^48, and else the old
number plus one, whatever else happens at that boundary; the launch reference becomes the instant of the boundary. (R35,
R36) -/
def Obligations.FrameNumberAtBoundary : Prop :=
  ∀ (s : State) (x : FrameIn) (t : Nat) (edge : Option Nat) (missing : Bool),
    (s.boundary x t edge missing).frame = (if s.mrs.open_ = false ∨ 2 ^ 48 ≤ s.frame + 1 then 0 else s.frame + 1)
      ∧ (s.boundary x t edge missing).launch = t

/-- State codes are lower for more active states. For an enabled domain below 13 other than AO, the resolved target is at
most every owner's vote, its floor field and its holds; CORE resolves to RUN while any child's own target is RUN; DMC is at
least as active as NAND; a disabled domain other than CORE and DMC resolves to OFF; AO is always in RUN. (R449, R446, R448)
-/
def Obligations.PowerTargets : Prop :=
  ∀ (s : State) (d o : Nat), d < 13 → o < 8 →
    (d ≠ 0 → s.domEnabled d = true → s.resolved d ≤ s.ownerVote o d ∧ s.resolved d ≤ domField (s.fld F.PMU_FLOOR.FLOOR) d
        ∧ s.resolved d ≤ s.holdOn d)
      ∧ ((∃ c ∈ coreChildren, s.resolved c = 0) → s.resolved 1 = 0)
      ∧ s.resolved 9 ≤ s.resolved 10
      ∧ (d ≠ 0 → d ≠ 1 → d ≠ 9 → s.domEnabled d = false → s.resolved d = 3)
      ∧ s.resolved 0 = 0

/-- For every state, whatever the link does, IRQ_N is driven low exactly when some source 0 to 21 whose HIF_IRQN_MASK bit is
set has level 1. (R464) -/
def Obligations.IrqPin : Prop :=
  ∀ s : State, s.irqN = true ↔ ∃ n, n < 22 ∧ bitAt (s.fld F.HIF_IRQN_MASK.MASK) n = true ∧ s.irqLevel n = true

/-- A name n of 16 to 31 addresses physical register 16 + ((n - 16 + RRB) mod 16), and a lower name itself; two names of one
bank never address one register. A result in flight carries the physical register named at its issue: lands there whatever
RRB is when it lands. (R224) -/
def Obligations.DataRegisterNames : Prop :=
  (∀ rrb n, n < 16 → drIndex rrb n = n) ∧ (∀ rrb n, 16 ≤ n → drIndex rrb n = 16 + (n - 16 + rrb) % 16)
    ∧ (∀ rrb m n, m < 32 → n < 32 → drIndex rrb m = drIndex rrb n → m = n)
    ∧ (∀ (s : State) (k lane lat name : Nat) (v : Word), name < 32 →
        s.flyDr k lane lat name v
          = s.setThread k { s.thread k with flights := (s.thread k).flights
              ++ [⟨(s.thread k).cycle + lat - 1, lane, (s.thread k).bank1, false, .dr (drIndex (s.bankOf k lane).rrb name) v⟩] })
    ∧ ∀ (b : Bank) (i rrb : Nat) (v : Word), ({ b with rrb := rrb }).land (.dr i v) = { b.land (.dr i v) with rrb := rrb }

/-- For a k-bit signed number, the count of redundant sign bits is at most k - 1, shifting left by it stays in k bits, and,
below k - 1, one more shift does not; so a NORM by EXPA never saturates. With shift amount sh, the read-out r of an
accumulator of value v satisfies r * 2^sh <= v + 2^(sh-1) < (r + 1) * 2^sh for a shift of at least 1, and r = v for a shift
of 0. (R217, R218) -/
def Obligations.ExponentsAndRounding : Prop :=
  (∀ (k : Nat) (z : Int), 0 < k → -(2 ^ (k - 1) : Int) ≤ z → z < 2 ^ (k - 1) →
      redundant k z ≤ k - 1
        ∧ (-(2 ^ (k - 1) : Int) ≤ z * 2 ^ redundant k z ∧ z * 2 ^ redundant k z < 2 ^ (k - 1))
        ∧ (redundant k z < k - 1 →
          ¬(-(2 ^ (k - 1) : Int) ≤ z * 2 ^ (redundant k z + 1) ∧ z * 2 ^ (redundant k z + 1) < 2 ^ (k - 1))))
    ∧ ∀ (b : Bank) (w : Nat),
      (shiftAmount b w = 0 → accRounded b w = b.acc (wBits w 42 40))
        ∧ (0 < shiftAmount b w →
          accRounded b w * (2 ^ shiftAmount b w : Int) ≤ b.acc (wBits w 42 40) + 2 ^ (shiftAmount b w - 1)
            ∧ b.acc (wBits w 42 40) + 2 ^ (shiftAmount b w - 1) < (accRounded b w + 1) * (2 ^ shiftAmount b w : Int))

/-- ADD and SUB give the sum and difference modulo 2^32; C is the carry out, or no borrow; V says that the exact signed
result does not fit. ADDS and SUBS give the exact signed result clamped to 32 bits, and report saturation exactly when it
does not fit. (spec/07_gecko_engine_array.md Table 7-4, spec/07_gecko_engine_array.md Table 7-2) -/
def Obligations.AluSumsAndFlags : Prop :=
  ∀ a b : Word,
    aluWide addFlags false a b = ⟨a + b, decide (2 ^ 32 ≤ a.toNat + b.toNat), decide (a.toInt + b.toInt ≠ (a + b).toInt), false⟩
      ∧ aluWide subFlags false a b = ⟨a - b, decide (b.toNat ≤ a.toNat), decide (a.toInt - b.toInt ≠ (a - b).toInt), false⟩
      ∧ (aluWide addFlags true a b).v.toInt = max (-2147483648) (min 2147483647 (a.toInt + b.toInt))
      ∧ (aluWide subFlags true a b).v.toInt = max (-2147483648) (min 2147483647 (a.toInt - b.toInt))
      ∧ (aluWide addFlags true a b).sat = decide (a.toInt + b.toInt ≠ (a + b).toInt)
      ∧ (aluWide subFlags true a b).sat = decide (a.toInt - b.toInt ≠ (a - b).toInt)

/-- With d = SEQ - E as a signed 32-bit number: d = 0 is accepted; from -WINDOW to -1 it is a DUPLICATE; anything else is
OUT_OF_WINDOW. For a WINDOW below 2^31, repeating the last WINDOW sequence numbers is always a DUPLICATE. (R470) -/
def Obligations.RequestSequence : Prop :=
  (∀ (e q : Word) (w : Nat), seqCheck e q w = none ↔ q = e)
    ∧ (∀ (e q : Word) (w : Nat), seqCheck e q w = some .duplicate ↔ -(w : Int) ≤ (q - e).toInt ∧ (q - e).toInt < 0)
    ∧ (∀ (e q : Word) (w : Nat), seqCheck e q w = some .outOfWindow ↔ (q - e).toInt < -(w : Int) ∨ 0 < (q - e).toInt)
    ∧ ∀ (e : Word) (w i : Nat), w < 2 ^ 31 → 0 < i → i ≤ w → seqCheck e (e - BitVec.ofNat 32 i) w = some .duplicate

/-- For a 32-bit register access by any source to a domain that is not on: a write leaves the state of the logged access,
which does not depend on the word written, and a read gives 0 besides. The log entry is the newest of PMU_OFFLOG. The same
holds for OFF_ACCESS, and for a write or a read through the bus. (R23) -/
def Obligations.OffBlockAccess : Prop :=
  ∀ (s : State) (src : Src) (off : BitVec 26) (t : Nat) (env : BusEnv) (w : Word),
    let n := off.toNat % 2 ^ 24 / 4 * 4
    let u := s.at_ t
    regDomain n ≠ 0 → u.domOn (regDomain n) = false →
      exec (.offAccess (.bus src) false true off t) s = .next (u.logOff src false true n (regDomain n))
        ∧ exec (.offAccess (.bus src) false false off t) s = .next ((u.logOff src false false n (regDomain n)).give (.readData n 0))
        ∧ u.busWrite src env n w = u.logOff src false true n (regDomain n)
        ∧ u.busRead src n = (u.logOff src false false n (regDomain n), 0)
        ∧ ∀ wr : Bool, (u.logOff src false wr n (regDomain n)).pmu.offlog.getLast? = some
            [w32 (n % 2 ^ 26 + (if wr then 2 ^ 27 else 0) + 2 ^ 28 * srcCode src), w32 u.frame,
              w32 (u.frame / 2 ^ 32 % 65536 + 65536 * regDomain n), w32 (u.bin + 2 ^ 31)]

/-- In a canonical state TTU_NOW_READ completes: TTU_NOW_LO, HI and FRAC hold the low and high nanoseconds and the fraction
of the time scale at that instant, the low word is given to the reader, a later read of HI or FRAC returns the latched
value, and no other register changes. (R390) -/
def Obligations.TimeScaleLatch : Prop :=
  ∀ (s : State) (src : Src), s.canonical →
    let z := s.scaleAt (2048 * s.now)
    ∃ t, exec (.ttuNowRead src) s = .next t
      ∧ t.reg R.TTU_NOW_LO = w32 (scaleNs z) ∧ t.reg R.TTU_NOW_HI = w32 (scaleNs z / 2 ^ 32) ∧ t.reg R.TTU_NOW_FRAC = w32 (scaleFrac z)
      ∧ t.out = .readData R.TTU_NOW_LO (w32 (scaleNs z)).toNat :: s.out
      ∧ (t.busRead src R.TTU_NOW_HI).2 = w32 (scaleNs z / 2 ^ 32) ∧ (t.busRead src R.TTU_NOW_FRAC).2 = w32 (scaleFrac z)
      ∧ (∀ r, r ≠ R.TTU_NOW_LO → r ≠ R.TTU_NOW_HI → r ≠ R.TTU_NOW_FRAC → t.reg r = s.reg r)
      ∧ { t with regs := s.regs, out := s.out } = s

/-- POWER_ON_RESET leaves the reset state but for queue, fuses, flash, NAND pages and pin levels. Its release starts the
sequencer when nothing holds a warm reset. RESET_N low, and VDD_CORE leaving its range, cause a warm reset with their
causes; the warm release starts the sequencer; RESET_N high and VDD_CORE back end their hold; TRST_N changes nothing here.
(R516, R517, R521, R527, R538) -/
def Obligations.ResetCommandsComplete : Prop :=
  ∀ (s : State) (straps : Fin 8) (t : Nat),
    let u := s.at_ t
    exec .powerOnReset s = .next { State.reset with
        pending := s.pending, otp := s.otp, flash := s.flash, free := s.free, out := s.out
        glb := { State.reset.glb with pinLow := s.glb.pinLow, coreLow := s.glb.coreLow }
        pmu := { State.reset.pmu with pwrfailPin := s.pmu.pwrfailPin }
        hif := { State.reset.hif with perst := s.hif.perst }
        anc := { State.reset.anc with pages := s.anc.pages } }
      ∧ (s.glb.porHeld = true → s.resetHeld = false →
          exec (.powerOnResetRelease straps t) s = .next (({ u with
            glb := { u.glb with porHeld := false }, ttu := { u.ttu with steerGoal := u.trim, steerAt := u.now } } : State).startUp straps))
      ∧ (s.glb.porHeld = true → s.resetHeld = true → exec (.powerOnResetRelease straps t) s = .next { u with
          glb := { u.glb with porHeld := false, warm := true }, ttu := { u.ttu with steerGoal := u.trim, steerAt := u.now } })
      ∧ (s.glb.pinLow = false →
          exec (.resetN true t) s = .next (({ u with glb := { u.glb with pinLow := true } }).warmReset Cause.pin))
      ∧ exec (.resetN false t) s = .next ({ u with glb := { u.glb with pinLow := false } } : State).causeEnds
      ∧ (s.glb.warm = true → s.glb.porHeld = false → s.resetHeld = false → s.glb.ended + 20 * usec ≤ u.now →
          exec (.warmResetRelease straps t) s = .next (u.startUp straps))
      ∧ (s.glb.coreLow = false →
          exec (.coreSupply t) s = .next (({ u with glb := { u.glb with coreLow := true } }).warmReset Cause.coreSupply))
      ∧ exec (.coreSupplyRecovered t) s = .next ({ u with glb := { u.glb with coreLow := false } } : State).causeEnds
      ∧ exec .trstN s = .next { s with glb := { s.glb with tap := .testLogicReset } }

/-- PERST_N asserted resets the HIF and records its cause; released, it lets the link train once the header phase is over.
LINK_TRAINED shows speed and width and brings the link up; L1 entry and exit move it between up and L1. HEADER_READ with a
bad header fails the start with HEADER_BAD and its detail; with a good one it takes the header flags and timing words,
begins DMC initialisation and lets the link train. (R483, R519, R522, R524, R460) -/
def Obligations.LinkCommandsComplete : Prop :=
  ∀ (s : State) (speed width : Fin 3) (t : Nat),
    let u := s.at_ t
    (s.hif.perst = false → exec (.perstAssert t) s
        = .next (((({ u with hif := { u.hif with perst := true } } : State).hifReset).resetCause Cause.perst).repower))
      ∧ (s.hif.perst = true → s.phase ≠ Phase.reset → s.phase ≠ Phase.header → exec (.perstDeassert t) s
        = .next ((({ u with hif := { u.hif with perst := false } } : State).linkTrains).repower))
      ∧ (s.hif.perst = false → s.unitOn .hif = true → s.phase ≠ Phase.reset → s.phase ≠ Phase.header →
        exec (.linkTrained speed width t) s = .next
          (((({ u with hif := { u.hif with retry := false } } : State).setFld F.HIF_STATUS.SPEED (speed.val + 1)).setFld
            F.HIF_STATUS.WIDTH (width.val + 1)).linkTo 2))
      ∧ (s.fld F.HIF_STATUS.LINK = 2 → exec (.linkL1Entry t) s = .next (u.linkTo 3))
      ∧ (s.fld F.HIF_STATUS.LINK = 3 → exec (.linkL1Exit t) s = .next (u.linkTo 2))
      ∧ (∀ d, s.phase = Phase.header → headerFault (s.flashBytes 0 128) = some d →
        exec (.headerRead t) s = .next ((u.startFails GlbCode.headerBad d).linkTrains))
      ∧ (s.phase = Phase.header → headerFault (s.flashBytes 0 128) = none →
        let b := s.flashBytes 0 128
        let fl := field b 0xB 1
        let s2 := ((((({ u with glb := { u.glb with header := b } } : State).setFlag F.GLB_STARTUP.HEADER_VALID true).setFlag
          F.GLB_STARTUP.AUTO_START (bitAt fl 0)).setFlag F.GLB_WDT_CFG.FLUSH (bitAt fl 2)).setFld
          F.GLB_WDT_CFG.TIMEOUT_MS (field b 0x30 2)).setPhase Phase.dmcInit
        let s3 := [(0x10, R.DMC_GEOM), (0x14, R.DMC_TIMING0), (0x18, R.DMC_TIMING1), (0x1C, R.DMC_TIMING2), (0x20, R.DMC_TIMING3),
          (0x24, R.DMC_REF_CFG), (0x28, R.DMC_PAGE_CFG), (0x2C, R.DMC_ECC_CFG)].foldl (fun a x => match famOf x.2 with
            | some f => a.setReg x.2 (f.applyWrite false (a.reg x.2) (w32 (field b x.1 4)))
            | none => a) s2
        let s4 := s3.dmcInit.linkTrains
        exec (.headerRead t) s = .next (if s4.dmcState = Dmc.init then s4 else s4.dmcFails DmcCode.badConfig))

/-- A due boundary of the part's own closes the frame with what the converters delivered and opens the next; a launch
reference of an accepted LAUNCH_IN edge does so in slave mode, not before the launch of the frame in progress; with none by
the timeout a virtual frame opens. A LAUNCH_IN edge less than T_MIN after the last accepted one is only counted; an accepted
one gives a launch reference L samples after it on the sample grid. ACQUISITION_STOPPED stops once everything is delivered.
(R37, R40, R41, R42, R265) -/
def Obligations.FrameCommandsComplete : Prop :=
  ∀ (s : State) (t stamp : Nat) (fadc madc : List (List Int)) (runs : List Nat) (cycles : Nat) (falling : Bool),
    let u := s.at_ t
    let x : FrameIn := ⟨fadc, madc, runs, cycles⟩
    (∀ i, s.ownBoundary = some i → i ≤ t →
        exec (.frameBoundary t fadc madc runs cycles) s = .next ((s.boundary x i none false).at_ t))
      ∧ (∀ i, i = s.launch + (if s.forMissing then s.fld F.MRS_PERIOD.T else s.tMax) →
        s.slave = true → s.mrs.open_ = true → s.mrs.pendRefs = [] → i ≤ t →
        exec (.virtualFrameTimeout t fadc madc runs cycles) s = .next ((s.boundary x i none true).at_ t))
      ∧ (∀ r e rest, s.mrs.pendRefs = (r, e) :: rest → s.slave = true → s.mrs.open_ = true → r ≤ t →
        exec (.slaveLaunchReference t fadc madc runs cycles) s
          = .next ((({ s with mrs := { s.mrs with pendRefs := rest } } : State).boundary x (max r s.launch) (some e) false).at_ t))
      ∧ (let v := s.at_ (5 * stamp / 2048)
        let a : State := { v with ttu := { v.ttu with launchStamp := some stamp } }
        let stamped : Prop := falling = v.flag F.PGU_LAUNCH_CFG.IN_EDGE ∧ ∀ e, v.ttu.launchStamp = some e → e + 512 ≤ stamp
        (¬stamped → exec (.launchInEdge stamp falling) s = .next v)
        ∧ (stamped → v.slave = false → exec (.launchInEdge stamp falling) s = .next a)
        ∧ (∀ e, stamped → v.slave = true → a.mrs.lastEdge = some e → 5 * stamp < 5 * e + a.fld F.MRS_TMIN.T_MIN * 2048 →
          exec (.launchInEdge stamp falling) s = .next (a.count F.MRS_LAUNCH_IGNORED.COUNT 1))
        ∧ (stamped → v.slave = true → (∀ e, a.mrs.lastEdge = some e → 5 * e + a.fld F.MRS_TMIN.T_MIN * 2048 ≤ 5 * stamp) →
          exec (.launchInEdge stamp falling) s = .next { a with mrs := { a.mrs with
            lastEdge := some stamp, pendRefs := a.mrs.pendRefs ++ [((5 * stamp + 2047) / 2048 + a.fld F.MRS_SLAVE_L.L, stamp)] } }))
      ∧ (u.acq = Mrs.stopping → u.lastDelivered = true → exec (.acquisitionStopped t) s = .next u.acqStopped)

/-- TONE_LAUNCH of a tone of a frame takes the oscillators' start and, with the PGU RUNNING and the frame real and neither a
diagnostic nor a guard frame, begins the chirp. The pins and windows take the level that the frames and registers give at
the instant: each gate, LAUNCH_OUT, CAL_SEL, the gain code and each blanking window. A change of BLANK_IN is kept with its
instant. CHIRP_END runs the synthesiser to the end of the tone's chirp. Nothing else changes but the count of time. (R97,
R102, R103, R110, R131, R132, R136, R137) -/
def Obligations.RangeTimePinsComplete : Prop :=
  ∀ (s : State) (k : Fin 16) (n w : Fin 2) (t t2 frame : Nat) (level : Bool),
    let u := s.at_ t
    let v := s.at_ (t2 / 2)
    (∀ f, s.mrs.frames.find? (·.num = frame) = some f → k.val < f.cfg.k →
        let a := s.at_ (f.toneAt k)
        let b : State := { a with afe := { a.afe with ncoStart := tabPut (fun _ => 0) a.afe.ncoStart k.val (f.toneAt k) } }
        exec (.toneLaunch k frame) s = .next
          (if s.pguState = Pgu.running ∧ f.real = true ∧ f.diag = false ∧ f.guardFrame = false then b.startChirp f k.val else b))
      ∧ exec (.gateEdge n t2) s = .next { v with pgu := { v.pgu with gates := v.pgu.gates.set n.val (v.gateAt n.val t2) } }
      ∧ exec (.launchOutEdge t) s = .next { u with pgu := { u.pgu with launchOut := u.markerAt t } }
      ∧ exec (.calSelChange t2) s = .next (
          let a : State := { v with pgu := { v.pgu with calSel := v.calSelAt t2 } }
          let m : BitVec 16 := 1 <<< v.fld F.PGU_CAL_CFG.GPIO
          if v.flag F.PGU_CAL_CFG.GPIO_EN then
            { a with gpio := if v.calSelAt t2 != v.flag F.PGU_CAL_CFG.POL then v.gpio ||| m else v.gpio &&& ~~~m }
          else a)
      ∧ (u.pgaAt t ≠ u.afe.pga → exec (.pgaStep t) s = .next { u with afe := { u.afe with
          pga := u.pgaAt t, steps := (t :: u.afe.steps).take 4096 } })
      ∧ (u.pgaAt t = u.afe.pga → exec (.pgaStep t) s = .next u)
      ∧ exec (.blankWindowEdge w t) s = .next { u with afe := { u.afe with windows := u.afe.windows.set w.val (u.windowAt w.val t) } }
      ∧ (∃ x, exec (.blankInChange level t) s = .next x ∧ x.afe.blankEdges.head? = some (t, level) ∧ x.vpf.pins.head? = some (t, level)
          ∧ { x with afe := u.afe, vpf := u.vpf } = u)
      ∧ (∀ c, s.pgu.chirps.find? (·.tone = k.val) = some c →
        exec (.chirpEnd k) s = .next (((s.at_ ((c.start + c.len + 1) / 2)).synthTo (c.start + c.len)).pguSettle))

/-- A slot of the schedule, or a dynamic slot, whose action is the command's, takes its lane and acts: NOTIFY tells its
unit, GPIO_SET and GPIO_CLEAR drive the pin of ARG, DECISION decides the zone, CAPTURE_OPEN triggers the record of ARG while
the STU runs, TIMER ticks the timers, and the slot doorbell sets the pending bit of the engine group it names. A dynamic
slot leaves the outstanding ones. (R251, R252, R253) -/
def Obligations.SlotsComplete : Prop :=
  ∀ (s : State) (e n k : Nat) (q : Fin 32) (tag : BitVec 16),
    let prog (a : Nat) (c : SlotRef → Instr) (act : SlotRun → State → State) : Prop :=
      (∀ r, s.progSlot e n k a = some r →
          let u := s.takeLane r.instant
          exec (c (.prog e n k)) s = .next (if s.progNext e k r then
            act r { u with mrs := { u.mrs with slotKey := slotOrder r.instant false e n k } } else s))
        ∧ ∀ d r, s.dynSlot q.val tag.toNat a = some (d, r) →
          let u := s.takeLane r.instant
          exec (c (.dyn q tag)) s = .next (if s.dynNext d then act r { u with mrs := { u.mrs with dyn := u.mrs.dyn.erase d } } else s)
    prog 1 .notify (fun r a => a.notifyUnit r)
      ∧ prog 2 .gpioSet (fun r a => a.driveGpio r.arg true)
      ∧ prog 3 .gpioClear (fun r a => a.driveGpio r.arg false)
      ∧ prog 4 .decision (fun r a => a.decide_ r)
      ∧ prog 5 .captureOpen (fun r a => if a.fld F.STU_STATUS.STATE ≠ Blk.running then a
          else match a.recDef r.arg with
            | some d => a.ownTrigger d.zone r.arg
            | none => a)
      ∧ prog 6 .timer (fun r a => a.tickTimers r)
      ∧ prog 7 .slotDoorbell (fun r a => match a.groups.find? (fun g => enginePath g.lowest == r.target) with
          | some g => a.pendGroup g 2
          | none => a)

/-- A dynamic slot request that no check refuses joins the outstanding ones; a refused one is counted and its code reported.
A cancel at least 100 ns before the slot's instant drops it and reports SLOT_CANCELLED. BLOCK_DISPATCH of a Rayleigh block
of a real frame at or after its ready instant, of a whole-frame block, and of a thermal record that is due, gives the block
to its group. (R253, R254, R255, R256) -/
def Obligations.DynamicSlotsAndDispatchComplete : Prop :=
  ∀ (s : State) (t frame action arg index : Nat) (q : Fin 32) (off : Int) (tag : BitVec 16) (stream : Fin 8) (fadc madc : List (List Int)),
    let u := s.at_ t
    let w := (s.takeSamples fadc madc t).at_ t
    (u.dynRefusal frame off = none → exec (.dynamicSlotRequest t q frame off action arg tag) s = .next { u with mrs := { u.mrs with
          dyn := u.mrs.dyn ++ [⟨tag.toNat, q.val, frame, off, action, arg⟩] } })
      ∧ (∀ code, u.dynRefusal frame off = some code → exec (.dynamicSlotRequest t q frame off action arg tag) s
          = .next ((u.count F.MRS_SLOT_SLIP.REFUSED 1).post .mrs code 0))
      ∧ (∀ d, u.mrs.dyn.find? (fun d => d.requester = q.val ∧ d.tag = tag.toNat) = some d →
          (u.now : Int) + 125 ≤ (match u.slotFrame d.frame with
            | some f => ((slotInstant f 0 d.offset : Nat) : Int)
            | none => ((u.launch + (d.frame - u.frame) * u.fld F.MRS_PERIOD.T : Nat) : Int) + d.offset) →
          exec (.dynamicSlotCancel t q tag) s = .next (u.dropDyn d))
      ∧ (∀ i st, w.streams.find? (fun x => x.1 = stream.val) = some (i, st) → index < st.blockCount →
          (∀ d, st.source = 1 ∨ st.source = 2 → w.therm.due.find? (fun d => d.source == st.source && d.last == frame) = some d →
            let v : State := { w with therm := { w.therm with due := w.therm.due.erase d, jobs := w.therm.jobs ++ [d] } }
            exec (.blockDispatch stream index frame fadc madc t) s = .next (v.readyBlock
              (mkDispatch i d.frame (st.firstBlock + index) 0 0 (d.close + Tp.deadline d.params - d.last) v.now false) []))
          ∧ ∀ f, w.mrs.frames.find? (·.num = frame) = some f → f.real = true → f.lost = false → f.diag = false →
            let b := min 256 (f.rules.count - 256 * index)
            let first := f.rules.firstBin + 256 * index
            let j := st.firstBlock + index
            (∀ ready, w.rayReady f (first + b) = some ready → st.source = 0 → f.cal = false → b ≠ 0 → ready ≤ t →
              exec (.blockDispatch stream index frame fadc madc t) s = .next (if (w.blk j).known f.num then w else
                ({ w with mrs := { w.mrs with rayIn := w.mrs.rayIn ++ [w.rayInput f j first b] } } : State).readyBlock
                  (mkDispatch i f j first b (w.deadlineField f) ready f.reset) (w.packBins f first b)))
            ∧ (st.source ≠ 0 → st.source ≠ 1 → st.source ≠ 2 → index = 0 → f.launch + f.cfg.bins * f.cfg.pitch ≤ t →
              exec (.blockDispatch stream index frame fadc madc t) s = .next (w.readyBlock
                (mkDispatch i f st.firstBlock 0 0 (w.deadlineField f) (f.launch + f.cfg.bins * f.cfg.pitch) false) (w.packMedium f t))))

/-- A start or stop that reaches the MRS, by register or message, acts by its state (Table 8-4): from STOPPED a start enters
STARTING and answers OK; while RUNNING it answers OK; STARTING or STOPPING it is refused BUSY, NO_IMAGE refused NO_IMAGE. A
stop answers OK in every state and, RUNNING, notes its instant. COUNT_CLR zeroes the MRS counts, HEALTH_CLR clears late runs
and DEGRADED of every group, REBALANCE_RESET is taken at the next boundary. (R265, R262, R263, R475) -/
def Obligations.MrsRequestsComplete : Prop :=
  ∀ (s : State) (v : Via) (src : Src) (t : Nat),
    let u := s.at_ t
    (s.takesUp v [0x0301] .mrs = true →
        (s.acq = Mrs.noImage → exec (.acqStart v t) s = .next (u.finish v .mrs MrsCode.noImage 0))
        ∧ (s.acq = Mrs.starting ∨ s.acq = Mrs.stopping → exec (.acqStart v t) s = .next (u.finish v .mrs MrsCode.busy 0))
        ∧ (s.acq = Mrs.running → exec (.acqStart v t) s = .next (u.finish v .mrs 0 0))
        ∧ (s.acq = Mrs.stopped →
          let a := (u.setFld F.MRS_STATUS.STATE Mrs.starting).finish v .mrs 0 0
          exec (.acqStart v t) s
            = .next ((({ a with mrs := { a.mrs with readyAt := none, stopAt := none } } : State).meridian 0).tryStart)))
      ∧ (s.takesUp v [0x0302] .mrs = true →
        let a := u.finish v .mrs 0 0
        (s.acq = Mrs.starting →
          let b := a.stoppedNow
          exec (.acqStop v t) s = .next (({ b with mrs := { b.mrs with readyAt := none } } : State).meridian 1))
        ∧ (s.acq = Mrs.running → s.mrs.stopAt = none →
          exec (.acqStop v t) s = .next { a with mrs := { a.mrs with stopAt := some u.now } })
        ∧ (s.acq ≠ Mrs.starting → s.acq ≠ Mrs.running → exec (.acqStop v t) s = .next a))
      ∧ (s.unitOn .mrs = true →
        exec (.mrsCountClr src) s = .next ([R.MRS_LAUNCH_IGNORED, R.MRS_VIRTUAL_COUNT, R.MRS_SLOT_SLIP, R.MRS_LATE_COUNT,
            R.MRS_MOVE_COUNT, R.MRS_LOST_COUNT].foldl (fun a r => a.setReg r 0) s)
        ∧ exec (.healthClr src) s = .next ((List.range 64).foldl (fun a g =>
            let b := a.setFld (F.MRS_GROUPg_STATUS.LATE_RUN g) 0
            (if b.fld (F.MRS_GROUPg_STATUS.HEALTH g) = 2 then b.setFld (F.MRS_GROUPg_STATUS.HEALTH g) 0 else b).showHealth g) s)
        ∧ exec (.rebalanceReset src) s = .next { s with mrs := { s.mrs with rebalance := true } })

/-- IMAGE_BEGIN with a length that is a multiple of 8 from 96 bytes to 8 MiB, while PENDING is EMPTY or READY, makes PENDING
LOADING with that many bytes to come and answers OK; a bad length is refused LENGTH, another state BUSY. IMAGE_CHUNK inside
the image starts the transfer of its bytes. A boot load reads the slot into the PENDING bank and goes to VALIDATING.
IMAGE_CHECKS_COMPLETE checks the image read from the bank: OK and LOAD_DONE with PENDING READY when every check passes, a
persisted image being in its slot before that, or the first failing check and PENDING EMPTY. A pointer record that is due is
appended and ACTIVE becomes persistent. (R80, R73, R75, R76, R78) -/
def Obligations.ImageLoadsComplete : Prop :=
  ∀ (s : State) (o : Origin) (seq : Word) (t : Nat),
    let v : Via := .msg o seq
    let u := s.at_ t
    let p := s.payload v
    let len := field p 0 4
    (s.takesUp v [0x0201] .sil = true →
        (len % 8 ≠ 0 ∨ len < 96 ∨ slotSize < len → exec (.imageBegin o seq) s = .next (s.finish v .sil SilCode.length 0xFFFF))
        ∧ (len % 8 = 0 → 96 ≤ len → len ≤ slotSize → s.pendState ≠ Pend.empty → s.pendState ≠ Pend.ready →
          exec (.imageBegin o seq) s = .next (s.finish v .sil SilCode.busy s.pendState))
        ∧ (len % 8 = 0 → 96 ≤ len → len ≤ slotSize → s.pendState = Pend.empty ∨ s.pendState = Pend.ready →
          let a := s.dropPending
          exec (.imageBegin o seq) s = .next
            ((({ a with sil := { a.sil with len := len, clear := true, persist := bitAt (field p 4 4) 0 } } : State).pendEnter Pend.loading).finish v .sil 0 0)))
      ∧ (s.takesUp v [0x0202] .sil = true → s.pendState = Pend.loading → s.sil.boot = false → field p 0 4 + s.hbLen o seq 8 ≤ s.sil.len →
        exec (.imageChunk o seq) s = .next (s.transfer o seq 8 (s.hbLen o seq 8) 0 Unit.sil.top 0
          (.imageChunk (field p 0 4) (bitAt (field p 4 4) 0))))
      ∧ (u.pendState = Pend.loading → u.sil.boot = true →
        let b := u.slotBytes u.sil.slot
        u.spanReady (u.bankBase u.pendBank) b.length = true →
        let a := u.bankWrite u.pendBank 0 b
        exec (.bootImageLoad t) s = .next (({ a with sil := { a.sil with len := b.length } } : State).pendEnter Pend.validating))
      ∧ (∀ r img written, u.pendState = Pend.validating → u.spanReady (u.bankBase u.pendBank) u.sil.len = true → u.bankRead u.pendBank u.sil.len = (r, some img) → r.sil.boot = false →
        let a : State := { r with sil := { r.sil with pending := img } }
        (∀ c d, a.pendingFails = some (c, d) → ¬(c = SilCode.limit ∧ d = 125) →
          exec (.imageChecksComplete written t) s = .next ((a.dropPending.post .sil c d).raise .sil F.SIL_IRQ_STATUS.LOAD_DONE))
        ∧ (a.pendingFails = none → a.sil.persist = false ∨ written = true →
          let slot := a.spareSlot
          let k : State := { a with sil := { a.sil with stored := a.sil.stored && !decide (slot = a.sil.activeSlot) } }
          let b := if a.sil.persist then (k.flashErase (slotBase slot) slotSize).flashPut (slotBase slot) img else a
          let x : State := { b with sil := { b.sil with slot := slot } }
          let heavy := isHeavy (if x.imageActive then some x.sil.active else none) img
          exec (.imageChecksComplete written t) s = .next (((((x.pendEnter Pend.ready).setReg R.SIL_PENDING_SERIAL
            (w32 (imgSerial img))).setFlag F.SIL_STATE.PENDING_HEAVY heavy).show .sil 0 0).raise .sil F.SIL_IRQ_STATUS.LOAD_DONE)))
      ∧ (s.sil.pointerDue = true →
        let n := match s.pointerRec (fun _ => true) with | some b => field b 0 4 + 1 | none => 1
        let b := flashRec (leBytes 4 n ++ leBytes 1 s.sil.activeSlot ++ zeros 3 ++ leBytes 4 (imgSerial s.sil.active))
        let a := s.flashAppend pointer0 pointer1 b false
        exec .pointerRecordAppend s
          = .next (({ a with sil := { a.sil with pointerDue := false } } : State).setFlag F.SIL_STATE.ACTIVE_PERSISTENT true))

/-- A switch request that reaches the SIL, by register or a message of its MODE, names the next boundary or the frame of its
request: READY becomes ARMED and OK is answered, a frame that is not later than the next is TOO_LATE. A disarm in time of an
ARMED image or of a waiting restart gives it up, of a READY image it answers OK, too late TOO_LATE. An abort of an EMPTY
bank answers OK, of a SWITCHING one TOO_LATE, else it drops the image. IMAGE_STATE answers the four status words. LOCK_CLR
zeroes the lock count. The drained engines, a loaded group and the rewritten active copy move a heavy switch on. (R80, R81,
R82, R86, R90) -/
def Obligations.ImageSwitchesComplete : Prop :=
  ∀ (s : State) (v : Via) (o : Origin) (seq : Word) (src : Src) (next t : Nat) (g : Fin 64),
    let u := s.at_ t
    let frame := match v with | .reg _ => u.reg64 R.SIL_SWITCH_FRAME_LO R.SIL_SWITCH_FRAME_HI | .msg _ _ => field (u.payload v) 8 8
    let arm (x : SwitchAt) : State := ({ u with sil := { u.sil with armed := some x, restart := false } } : State).pendEnter Pend.armed
    (s.takesUp v [0x0203] .sil = true →
        (u.pendState = Pend.ready → u.noImage = false →
          (u.switchMode v 0 = true → (arm (.next u.now)).phase ≠ Phase.image →
            exec (.switchNext v t) s = .next ((arm (.next u.now)).finish v .sil 0 0))
          ∧ (u.switchMode v 1 = true → u.frame + 1 < frame → (arm (.frame frame)).phase ≠ Phase.image →
            exec (.switchAt v t) s = .next ((arm (.frame frame)).finish v .sil 0 0))
          ∧ (u.switchMode v 1 = true → frame ≤ u.frame + 1 → exec (.switchAt v t) s = .next (u.finish v .sil SilCode.tooLate 0)))
        ∧ (u.switchMode v 0 = true → exec (.switchNext v t) s = .next (State.silFinish v (u.switchReq none)))
        ∧ (u.switchMode v 1 = true → exec (.switchAt v t) s = .next (State.silFinish v (u.switchReq (some frame)))))
      ∧ (s.takesUp v [0x0204] .sil = true →
        (u.pendState = Pend.ready → u.sil.restart = false → exec (.imageDisarm v next t) s = .next (u.finish v .sil 0 0))
        ∧ (u.pendState = Pend.armed → u.armTooLate next = false →
          exec (.imageDisarm v next t) s = .next ((u.unarm.pendEnter Pend.ready).finish v .sil 0 0))
        ∧ (u.pendState ≠ Pend.armed → u.sil.restart = true → u.armTooLate next = false →
          exec (.imageDisarm v next t) s = .next (u.unarm.finish v .sil 0 0))
        ∧ (u.pendState = Pend.armed ∨ u.sil.restart = true → u.armTooLate next = true →
          exec (.imageDisarm v next t) s = .next (u.finish v .sil SilCode.tooLate 0)))
      ∧ (s.takesUp v [0x0205] .sil = true →
        (u.pendState = Pend.empty → u.sil.restart = false → exec (.imageAbort v next t) s = .next (u.finish v .sil 0 0))
        ∧ (u.pendState = Pend.switching → exec (.imageAbort v next t) s = .next (u.finish v .sil SilCode.tooLate 0))
        ∧ (u.pendState = Pend.armed ∨ u.sil.restart = true → u.armTooLate next = true →
          exec (.imageAbort v next t) s = .next (u.finish v .sil SilCode.tooLate 0))
        ∧ (u.pendState = Pend.loading ∨ u.pendState = Pend.validating ∨ u.pendState = Pend.ready → u.sil.restart = false → u.sil.boot = false →
          exec (.imageAbort v next t) s = .next (u.unarm.abortPending.reply v .sil 0 0))
        ∧ (u.pendState = Pend.armed ∨ (u.sil.restart = true ∧ u.pendState ≠ Pend.switching) → u.armTooLate next = false → u.sil.boot = false →
          exec (.imageAbort v next t) s = .next (u.unarm.abortPending.reply v .sil 0 0)))
      ∧ (s.takesUp (.msg o seq) [0x0206] .sil = true →
        exec (.imageState o seq) s = .next (s.answer o seq 0 Unit.sil.top 0
          (leBytes 4 (s.reg R.SIL_STATE).toNat ++ leBytes 4 (s.reg R.SIL_RESULT).toNat ++ leBytes 4 (s.reg R.SIL_ACTIVE_SERIAL).toNat
            ++ leBytes 4 (s.reg R.SIL_PENDING_SERIAL).toNat)))
      ∧ (s.unitOn .sil = true → exec (.lockClr src) s = .next (s.setReg R.SIL_LOCK_COUNT 0))
      ∧ (s.pendState = Pend.switching → s.sil.drained = false → u.lastDelivered = true →
        exec (.heavySwitchDrainDone t) s = .next u.drainDone)
      ∧ (∀ x, u.groups[g.val]? = some x → u.groupState x = Eng.loading → u.groupOn x = true →
        u.flag F.SIL_STATE.ACTIVE_COPY = true → u.sil.rewriting = false → (u.pendState ≠ Pend.switching ∨ u.sil.drained = true) →
        let n := u.sil.active.length
        (u.spanReady (u.bankBase u.sil.bank) n = false → exec (.engineLoadComplete g t) s = .next u.dmcTouch)
        ∧ ∀ r img, u.spanReady (u.bankBase u.sil.bank) n = true → u.bankRead u.sil.bank n = (r, some img) →
          exec (.engineLoadComplete g t) s = .next ((r.groupLoaded img g.val x).thenStart u))
      ∧ (s.sil.rewriting = true → s.spanReady (s.bankBase s.sil.bank) (s.slotBytes s.sil.activeSlot).length = true →
        let a := s.bankWrite s.sil.bank 0 (s.slotBytes s.sil.activeSlot)
        exec .activeCopyRewriteDone s
          = .next ((({ a with sil := { a.sil with rewriting := false } } : State).setFlag F.SIL_STATE.ACTIVE_COPY true).silVote))

/-- A REGISTER_WRITE with all four byte enables to a register of a block that is on gives its fields what their access codes
say, counts a locked write, or has the action of the register; outside the map it does nothing, and where the block is off
it is logged. With fewer byte enables it is reported PARTIAL_WRITE. A BAR2 access inside the installed device addresses
writes or reads DRAM when the port can serve it, waits when it cannot, and is refused while frozen; inside the aperture it
is an aperture access, elsewhere it is unmapped. An aperture access writes or reads engine memory of a tile that is on; a
write to an instruction memory in use is discarded and logged; a tile that is off is logged. (R20, R88, R461, R462, R236,
R237, R245, R59, R454) -/
def Obligations.BusCommandsComplete : Prop :=
  ∀ (s : State) (src : Src) (o24 : BitVec 24) (o26 : BitVec 26) (o28 : BitVec 28) (be : Fin 16) (w : Word) (env : BusEnv) (write : Bool)
      (data : List (BitVec 8)) (len t : Nat) (ecc : Upsets),
    let off := o24.toNat / 4 * 4
    let v := s.at_ env.t
    let x := if inRange 0x400000 0x4FFFFF off then v.synthTo (2 * v.now) else v
    let u := (s.at_ t).upset ecc
    let a := u.winBase + o28.toNat
    let n := if write then data.length else len
    let ap := o26.toNat
    let bytes (k : Nat) : State := (u.outsideRead k len).give (.readData (apertureBase + k) (leNat (u.emem k len)))
    let after (y : State) : State := if inRange R.PMU_CFG R.PMU_RETAIN off then y.repower.pwrfailSample
      else if off = R.PGU_CAL_CFG ∨ off = R.PGU_IQ_OFFSET ∨ off = R.PGU_IQ_GAIN then y.pguShown else y
    let request : DramReq := ⟨fixedPath .hif, 4, write, a, data, len, u.now⟩
    (∀ f, v.regOn off = true → famOf off = some f →
        (x.writeAction src env f off w = none →
          (x.imageActive = false ∨ (x.reg off ^^^ w) &&& f.maskOf .rwl = 0 → exec (.registerWrite src o24 15 w env) s
            = .next (after (x.setReg off (f.applyWrite x.imageActive (x.reg off) w)).settleIrq))
          ∧ (x.imageActive = true → (x.reg off ^^^ w) &&& f.maskOf .rwl ≠ 0 →
            let y := x.lockViolation src off
            exec (.registerWrite src o24 15 w env) s = .next (after (y.setReg off (f.applyWrite true (y.reg off) w)).settleIrq)))
        ∧ ∀ y, x.writeAction src env f off w = some y → exec (.registerWrite src o24 15 w env) s = .next y)
      ∧ (v.regOn off = true → famOf off = none → exec (.registerWrite src o24 15 w env) s = .next x)
      ∧ (v.regOn off = false → exec (.registerWrite src o24 15 w env) s = .next (v.logOff src false true off (regDomain off)))
      ∧ (be.val ≠ 15 → v.regOn off = true → exec (.registerWrite src o24 be w env) s = .next (v.post .hif HifCode.partialWrite (off / 4)))
      ∧ (be.val ≠ 15 → v.regOn off = false → exec (.registerWrite src o24 be w env) s
        = .next ((v.logOff src false true off (regDomain off)).post .hif HifCode.partialWrite (off / 4)))
      ∧ (u.unitOn .hif = true →
        (a + n ≤ u.deviceTop →
          let y := u.dmcTouch
          (u.dmcState ≠ Dmc.frozen → y.dmc.waiting = [] → y.dmcCan request = true → ∃ z : State,
            { z with dmc := { z.dmc with winners := y.dmc.winners } } = y ∧
            (write = true → ∀ c, z.deviceWrite (fixedPath .hif) 4 a data = c →
              exec (.bar2Access write o28 data len ecc t) s = .next (if c.dmcState = Dmc.frozen then c.frozenWindow true a n else c))
            ∧ ∀ c d, write = false → z.deviceRead (fixedPath .hif) 4 a len = (c, d) →
              exec (.bar2Access write o28 data len ecc t) s = .next (match d with
                | some d => c.give (.readData a (leNat d))
                | none => if c.dmcState = Dmc.frozen then c.frozenWindow false a len else c))
          ∧ (u.dmcState ≠ Dmc.frozen → y.dmc.waiting = [] → y.dmcCan request = false →
            exec (.bar2Access write o28 data len ecc t) s = .next { y with dmc := { y.dmc with waiting := [request] } })
          ∧ (u.dmcState = Dmc.frozen →
            let z := (u.post .hif 9 0).raise .hif F.HIF_IRQ_STATUS.UNMAPPED
            exec (.bar2Access write o28 data len ecc t) s = .next (if write then z else z.give (.readData a (2 ^ (8 * len) - 1)))))
        ∧ (u.deviceTop < a + n → apertureBase ≤ a → a + n ≤ apertureBase + apertureSize →
          let k := a - apertureBase
          u.domOn (2 + k / 0x1000000) = true → apertureMapped k = true →
            (write = true → imemAt k = none → exec (.bar2Access write o28 data len ecc t) s = .next (u.setEmem k data))
            ∧ (write = false → exec (.bar2Access write o28 data len ecc t) s = .next (bytes k)))
        ∧ (u.deviceTop < a + n → a < apertureBase ∨ apertureBase + apertureSize < a + n →
          let z := (u.post .hif HifCode.unmapped 0).raise .hif F.HIF_IRQ_STATUS.UNMAPPED
          exec (.bar2Access write o28 data len ecc t) s = .next (if write then z else z.give (.readData a 0))))
      ∧ (u.domOn (2 + ap / 0x1000000) = true → apertureMapped ap = true →
        exec (.apertureAccess true src true o26 data len ecc t) s = .next (u.setEmem ap data)
        ∧ (imemAt ap = none → exec (.apertureAccess false src true o26 data len ecc t) s = .next (u.setEmem ap data))
        ∧ (∀ e, imemAt ap = some e → u.imemQuiet e = true →
          exec (.apertureAccess false src true o26 data len ecc t) s = .next (u.setEmem ap data))
        ∧ (∀ e, imemAt ap = some e → u.imemQuiet e = false → exec (.apertureAccess false src true o26 data len ecc t) s
          = .next ((u.logAt (enginePath e) GeaCode.imemWrite).raise .gea F.GEA_IRQ_STATUS.IMEM_WRITE))
        ∧ exec (.apertureAccess true src false o26 data len ecc t) s = .next (u.outsideRead ap len)
        ∧ exec (.apertureAccess false src false o26 data len ecc t) s = .next (bytes ap))
      ∧ (u.domOn (2 + ap / 0x1000000) = false → exec (.apertureAccess false src true o26 data len ecc t) s
        = .next (u.logOff src true true ap (2 + ap / 0x1000000)))

/-- CAL_RUN that no check refuses begins the run and answers OK, else answers its code. FAULT_CLR in FAULT returns the PGU
to STOPPED, or OFF without PLL lock, with code OK, and in another state changes nothing. COUNT_CLR zeroes its three counts.
A PLL lock with FAST_AFE on sets PLL_LOCK and wakes PGU and FAFE; an unlock clears it and stops them. (R113, R119, R120,
R141, R142) -/
def Obligations.ProbeGenerationComplete : Prop :=
  ∀ (s : State) (v : Via) (src : Src) (t : Nat),
    let u := s.at_ t
    (s.takesUp v [0x0401] .pgu = true →
        (s.calRefusal = none → exec (.calRun v) s = .next (s.calBegin.finish v .pgu 0 0))
        ∧ ∀ c, s.calRefusal = some c → exec (.calRun v) s = .next (s.finish v .pgu c 0))
      ∧ (s.unitOn .pgu = true →
        (s.pguState = Pgu.fault → exec (.pguFaultClr src) s
          = .next ((s.pguEnter (if s.flag F.PGU_STATUS.PLL_LOCK then Pgu.stopped else Pgu.off)).show .pgu 0 0))
        ∧ (s.pguState ≠ Pgu.fault → exec (.pguFaultClr src) s = .next s)
        ∧ exec (.pguCountClr src) s = .next
          ((((s.synthTo (2 * s.now)).setReg R.PGU_CLIP_COUNT 0).setReg R.PGU_EVENT_COUNT 0).setReg R.PGU_DIAG_COUNT 0))
      ∧ (s.domOn 6 = true → s.flag F.PGU_STATUS.PLL_LOCK = false →
        exec (.pdacPllLock t) s = .next ((u.pguLock.fafeWake).thenStart u))
      ∧ (s.flag F.PGU_STATUS.PLL_LOCK = true → exec (.pllUnlock t) s = .next ((u.pguUnlock.fafeUnlock).thenStart u))

/-- From READY with acquisition not RUNNING and no step calibration in progress, and from FAULT, CAL_REQ starts a
calibration; while acquisition runs it is refused BUSY. ADC_CALIBRATION_DONE ends the calibration in progress. STEPCAL_REQ
from READY starts the step calibration, STEPCAL_DONE writes the factors of X and Y of the eight codes, 1.0 for code 0, sets
STEPCAL_VALID and raises STEPCAL_DONE. COUNT_CLR zeroes the four saturation counts; FAULT_CLR in FAULT starts a calibration
anew. (R141, R143, R148, R139, R140) -/
def Obligations.FrontEndsComplete : Prop :=
  ∀ (s : State) (src : Src) (offs skews : List Int) (responses : List (Int × Int)) (t : Nat),
    (s.unitOn .fafe = true →
        (s.fafeState = Afe.fault ∨ (s.fafeState = Afe.ready ∧ s.acq ≠ Mrs.running ∧ s.afe.stepcal = false) →
          exec (.fafeCalReq src) s = .next s.fafeCalStart)
        ∧ (s.fafeState = Afe.ready → s.acq = Mrs.running → exec (.fafeCalReq src) s = .next (s.post .fafe AfeCode.busy 0))
        ∧ (s.fafeState = Afe.ready → s.acq ≠ Mrs.running → s.afe.stepcal = false →
          exec (.stepcalReq src) s = .next { s with afe := { s.afe with stepcal := true } })
        ∧ exec (.fafeCountClr src) s = .next ((List.range 4).foldl (fun a n => a.setReg (R.FAFE_SAT_COUNTn n) 0) s)
        ∧ (s.fafeState = Afe.fault → s.flag F.PGU_STATUS.PLL_LOCK = true → exec (.fafeFaultClr src) s = .next (s.fafeCalStart.show .fafe 0 0))
        ∧ (s.fafeState = Afe.fault → s.flag F.PGU_STATUS.PLL_LOCK = false →
          exec (.fafeFaultClr src) s = .next ((s.setFld F.FAFE_STATUS.STATE Afe.off).show .fafe 0 0)))
      ∧ (s.unitOn .mafe = true →
        (s.mafeState = Afe.fault ∨ (s.mafeState = Afe.ready ∧ s.acq ≠ Mrs.running) → exec (.mafeCalReq src) s = .next s.mafeCalStart)
        ∧ (s.mafeState = Afe.ready → s.acq = Mrs.running → exec (.mafeCalReq src) s = .next (s.post .mafe AfeCode.busy 0))
        ∧ exec (.mafeCountClr src) s = .next ((List.range 4).foldl (fun a n => a.setReg (R.MAFE_SAT_COUNTn n) 0) s)
        ∧ (s.mafeState = Afe.fault → exec (.mafeFaultClr src) s = .next (s.mafeCalStart.show .mafe 0 0)))
      ∧ (s.domOn 6 = true → s.fafeState = Afe.calibrating →
        exec (.adcCalibrationDone false offs skews t) s = .next (((s.at_ t).adcCalDone false offs skews).thenStart (s.at_ t)))
      ∧ (s.domOn 7 = true → s.mafeState = Afe.calibrating →
        exec (.adcCalibrationDone true offs skews t) s = .next (((s.at_ t).adcCalDone true offs skews).thenStart (s.at_ t)))
      ∧ (s.afe.stepcal = true → s.domOn 6 = true →
        let a := (List.range 8).foldl (fun a c => (a.setReg (R.FAFE_STEPCALc_X c) (stepFactor responses c 0)).setReg
          (R.FAFE_STEPCALc_Y c) (stepFactor responses c 1)) s
        stepFactor responses 0 0 = 0x4000 ∧ stepFactor responses 0 1 = 0x4000 ∧ exec (.stepcalDone responses) s = .next
          (((({ a with afe := { a.afe with stepcal := false } } : State).setFld F.FAFE_STATUS.STEPCAL_VALID 1).show .fafe 0 0).raise .fafe
            F.FAFE_IRQ_STATUS.STEPCAL_DONE))

/-- TF_STAGE writes its words to the staging registers and answers OK; while templates are APPLYING it is refused BUSY.
TF_LOAD marks the measured source of every tone as staged, TF_COMMIT applies staged coefficients, TF_DISCARD clears them. An
evaluation that is due runs on the averages of the measuring frames; while templates are APPLYING it is discarded with
TF_BUSY. A template build that ends while the archive can take a record has it appended as a new epoch; otherwise the epoch
is refused and the stage kept. FAULT_CLR and COUNT_CLR act as stated; a released bank leaves the closed records. (R160,
R161, R162, R163, R181, R189) -/
def Obligations.TemplatesComplete : Prop :=
  ∀ (s : State) (v : Via) (o : Origin) (seq : Word) (src : Src) (fadc madc : List (List Int)) (t : Nat),
    let m : Via := .msg o seq
    let p := s.payload m
    let reaches (op : Nat) : Prop := s.takesUp v [0x0403] .pcx = true ∧ (match v with | .reg _ => True | .msg _ _ => field (s.payload v) 0 1 = op)
    let w := ((s.takeSamples fadc madc t).at_ t).calCollect true
    (∀ r, w.pcx.means.find? (·.ended) = some r →
        let a : State := { w with pcx := { w.pcx with means := w.pcx.means.erase r } }
        (w.tfState = Tf.applying → exec (.tfEvaluation fadc madc t) s = .next ((a.post .pcx PcxCode.tfBusy 0).count F.PCX_EVENT_COUNT.BUSY 1))
        ∧ (w.tfState ≠ Tf.applying → exec (.tfEvaluation fadc madc t) s = .next (a.tfEvaluate r)))
      ∧ (w.pcx.means.find? (·.ended) = none → exec (.tfEvaluation fadc madc t) s = .next w)
      ∧ (s.takesUp m [0x0402] .pcx = true →
        (s.tfState = Tf.applying → exec (.tfStage o seq) s = .next (s.finish m .pcx PcxCode.tfBusy 0))
        ∧ (s.tfState ≠ Tf.applying → exec (.tfStage o seq) s = .next
          (((List.range (field p 2 1)).foldl (fun a i =>
            a.setReg (R.PCX_TF_STAGEk_q (field p 0 1) (field p 1 1 + i)) (w32 (field p (4 + 4 * i) 4))) s).finish m .pcx 0 0)))
      ∧ (reaches 1 → s.tfState ≠ Tf.applying → exec (.tfLoad v) s = .next
        (((List.range (min 16 (2 ^ s.fld F.PGU_TONE_CFG.K_CODE))).foldl (fun a i =>
          a.setReg R.PCX_TF_STAGE_SRC (setBits (a.reg R.PCX_TF_STAGE_SRC) (2 * i + 1) (2 * i) 2)) s).finish v .pcx 0 0).tfStaged)
      ∧ (reaches 2 → s.tfState = Tf.staged → exec (.tfCommit v) s = .next (s.finish v .pcx 0 0).tfApply)
      ∧ (reaches 2 → s.tfState ≠ Tf.staged → exec (.tfCommit v) s = .next (s.finish v .pcx PcxCode.tfBusy 0))
      ∧ (reaches 3 → s.tfState = Tf.staged → exec (.tfDiscard v) s = .next (s.clearStage.finish v .pcx 0 0))
      ∧ (s.pcx.building = true → s.ancState = Anc.ready → s.appendCount < 4 → s.unitOn .alm = true →
        exec .templateBuildDone s = .next { s with
          pcx := { s.pcx with building := false, appending := true, second := some s.stagedSet }
          alm := { s.alm with appends := s.alm.appends ++ [⟨none, s.stagedEntries.map CalEntry.bytes, true, []⟩] } })
      ∧ (s.unitOn .pcx = true →
        (s.pcxState = Pcx.fault →
          exec (.pcxFaultClr src) s = .next (((s.setFld F.PCX_STATUS.STATE Pcx.ready).show .pcx 0 0).thenStart s))
        ∧ exec (.pcxCountClr src) s = .next ((s.setReg R.PCX_OVF_COUNT 0).setReg R.PCX_EVENT_COUNT 0))
      ∧ (∀ b rest, s.therm.closed = b :: rest → exec .bankRelease s = .next
        (let a : State := { s with therm := { s.therm with closed := rest } }
        if s.therm.avg = Therm.waiting then ({ a with therm := { a.therm with avg := Therm.accumulating } } : State).thermStatus else a))

/-- When a stream issues a CTRL instruction that executes, it acts once for the stream and the stream advances: BR (no loop
left), CALL, RET and RTI set a target three issues away, CALL with the link; LOOP with a count of at least 1 sets the loop
registers of every lane; REP repeats the next instruction; WAIT and HALT leave the lanes waiting or halted. NOP and FENCE
only advance; LOG enters its code in each executing lane's log; TRAP faults the executing lanes. One that does not execute
only advances. (R215, R222, R223, R225, R226, R229, R239, R243, R244) -/
def Obligations.GeckoControlComplete : Prop :=
  ∀ (s : State) (e : Fin 64) (k w : Nat),
    let ex := (s.fetched k).executing k w
    let b := (s.fetched k).bankOf k k
    let pc := ((s.fetched k).thread k).pc
    let tgt := wBits w 47 36
    (s.Issues e Cls.ctrl 0x0 k w → exec (.nop e) s = .next ((s.fetched k).advance k))
      ∧ (s.Issues e Cls.ctrl 0x1 k w → b.active = false ∨ (b.lstart ≤ tgt ∧ tgt ≤ b.lend) →
        exec (.br e) s = .next (s.afterOnce k w (fun a => a.branch k tgt false)))
      ∧ (s.Issues e Cls.ctrl 0x1 k w → b.active = true → tgt < b.lstart ∨ b.lend < tgt →
        exec (.br e) s = .next (s.afterOnce k w (fun a => (a.eachBank k (fun x => { x with active := false })).branch k tgt false)))
      ∧ (s.Issues e Cls.ctrl 0x2 k w → exec (.call e) s
        = .next (s.afterOnce k w (fun a => (a.eachBank k (fun x => { x with lnk := (pc + 3) % 4096 })).branch k tgt false)))
      ∧ (s.Issues e Cls.ctrl 0x3 k w → exec (.ret e) s = .next (s.afterOnce k w (fun a => a.branch k b.lnk false)))
      ∧ (s.Issues e Cls.ctrl 0x4 k w → (s.fetched k).ctrlCount k w = 0 → exec (.loop e) s
        = .next (s.afterOnce k w (fun a => a.setThread k { a.thread k with pc := tgt })))
      ∧ (s.Issues e Cls.ctrl 0x4 k w → (s.fetched k).ctrlCount k w ≠ 0 → exec (.loop e) s
        = .next (s.afterOnce k w (fun a => (a.loopMeets k).eachBank k (fun x => { x with
            lc := (s.fetched k).ctrlCount k w, ec := wBits w 27 25, pd := (x.pd &&& 0x0F) ||| 0x10
            lstart := (pc + 1) % 4096, lend := tgt, active := true }))))
      ∧ (s.Issues e Cls.ctrl 0x5 k w → ex ≠ [] → ((s.fetched k).advance k).ctrlCount k w ≠ 0 →
        let a := (s.fetched k).advance k
        exec (.rep e) s = .next (a.setThread k { a.thread k with rep := some (a.ctrlCount k w) }))
      ∧ (s.Issues e Cls.ctrl 0x6 k w → ex ≠ [] → exec (.wait e) s = .next (((s.fetched k).advance k).setEng ex Eng.waiting))
      ∧ (s.Issues e Cls.ctrl 0x7 k w → ex ≠ [] → exec (.halt e) s = .next ((((s.fetched k).advance k).haltStream k).haltDone))
      ∧ (s.Issues e Cls.ctrl 0x8 k w → exec (.rti e) s
        = .next (s.afterOnce k w (fun a => a.branch k ((s.fetched k).thread k).epc true)))
      ∧ (s.Issues e Cls.ctrl 0x9 k w → exec (.fence e) s = .next ((s.fetched k).advance k))
      ∧ (s.Issues e Cls.ctrl 0xA k w → ex ≠ [] → exec (.trap e) s
        = .next ((s.fetched k).engineFaults k pc (ex.map (fun x => (x, GeaCode.trap, 0x0100 + wBits w 7 0)))))
      ∧ (s.Issues e Cls.ctrl 0xB k w → exec (.log e) s = .next (s.afterLanes k w (fun x a =>
          a.logFor (enginePath x) (0x8000 + wBits w 14 0) a.frame (a.dispatchBin (((a.groupOf k).map (·.1)).getD 0)))))

/-- When a stream issues an ALU instruction, each executing lane takes DR[SA] and DR[SB] or IMM16, puts the operation's
result in flight to DR[DST] with latency 1, the flags N, Z, C, V where the operation sets them, and the sticky SAT bit on
saturation; compares put their outcome in PD[PDST]. Then the stream advances. Every operation of the class is named with its
function. (spec/07_gecko_engine_array.md Table 7-4, spec/07_gecko_engine_array.md Table 7-2, R213, R218, R220) -/
def Obligations.GeckoAluComplete : Prop :=
  ∀ (s : State) (e : Fin 64) (k w : Nat),
    (∀ c ∈ ([(.add, 0x00, true, aluWide addFlags false), (.sub, 0x01, true, aluWide subFlags false),
          (.adds, 0x02, true, aluWide addFlags true), (.subs, 0x03, true, aluWide subFlags true),
          (.add2, 0x04, true, aluLanes addFlags false), (.adds2, 0x05, true, aluLanes addFlags true),
          (.sub2, 0x06, true, aluLanes subFlags false), (.subs2, 0x07, true, aluLanes subFlags true),
          (.and, 0x08, true, fun a b => aluPlain (a &&& b)), (.or, 0x09, true, fun a b => aluPlain (a ||| b)),
          (.xor, 0x0A, true, fun a b => aluPlain (a ^^^ b)), (.shl, 0x0B, true, fun a b => aluPlain (a <<< (b.toNat % 32))),
          (.shr, 0x0C, true, fun a b => aluPlain (a >>> (b.toNat % 32))),
          (.shra, 0x0D, true, fun a b => aluPlain (a.sshiftRight (b.toNat % 32))),
          (.min, 0x0E, true, fun a b => aluPlain (if a.slt b then a else b)), (.max, 0x0F, true, fun a b => aluPlain (if b.slt a then a else b)),
          (.abs, 0x10, true, fun a _ => if a = 0x80000000 then ⟨0x7FFFFFFF, false, true, true⟩ else aluPlain (if a.msb then -a else a)),
          (.min2, 0x11, false, aluPair min), (.max2, 0x12, false, aluPair max),
          (.shra2, 0x13, false, fun a b => aluPlain (lanesWord (hiLane a / ((2 ^ (b.toNat % 16) : Nat) : Int)) (loLane a / ((2 ^ (b.toNat % 16) : Nat) : Int)))),
          (.expw, 0x17, false, fun a _ => aluPlain (w32 (redundant 32 a.toInt))),
          (.exph, 0x18, false, fun a _ => aluPlain (w32 (min (redundant 16 (hiLane a)) (redundant 16 (loLane a))))),
          (.conj, 0x19, false, fun a _ => ⟨lanesWord (satInt 16 (-(hiLane a))) (loLane a), false, false, decide (hiLane a = -32768)⟩)]
        : List ((Fin 64 → Instr) × Nat × Bool × (Word → Word → AluOut))),
      s.Issues e Cls.alu c.2.1 k w → exec (c.1 e) s = .next (s.afterLanes k w (fun x a =>
        let r := c.2.2.2 (aluA (a.bankOf k x) w) (aluB (a.bankOf k x) w)
        let d := a.flyDr k x 1 (wBits w 47 43) r.v
        (if c.2.2.1 then d.fly k x 1 false (.flags r.flags 0xF) else d).flySticky k x 1 12 r.sat)))
      ∧ ∀ c ∈ ([(.cmpeq, 0x14, fun a b => a == b), (.cmplt, 0x15, fun a b => decide (a < b)), (.cmple, 0x16, fun a b => decide (a ≤ b))]
        : List ((Fin 64 → Instr) × Nat × (Int → Int → Bool))),
      s.Issues e Cls.alu c.2.1 k w → exec (c.1 e) s = .next (s.afterLanes k w (fun x a =>
        a.fly k x 1 false (.pred (wBits w 15 13) (c.2.2 (aluA (a.bankOf k x) w).toInt (aluB (a.bankOf k x) w).toInt))))

/-- When a stream issues a MAC instruction without a parallel load, each executing lane adds to (or, with NEG, subtracts
from) its accumulators, or from 0 with CLR, the sums of products that R216 gives for CMAC, CMACJ, CRMAC, DMAC and QMAC; the
stream advances. With a parallel load that no lane takes a fault on, the loaded words follow in flight and the address
registers are updated. (R216, R220) -/
def Obligations.GeckoMacComplete : Prop :=
  ∀ (s : State) (e : Fin 64) (ecc : Upsets) (k w : Nat),
    let u := s.upset ecc
    let q := u.fetched k
    ∀ c ∈ ([(.cmac, 0x0, fun a b _ => [loLane a * loLane b - hiLane a * hiLane b, loLane a * hiLane b + hiLane a * loLane b]),
        (.cmacj, 0x1, fun a b _ => [loLane a * loLane b + hiLane a * hiLane b, hiLane a * loLane b - loLane a * hiLane b]),
        (.crmac, 0x2, fun a b c => [loLane a * loLane c, hiLane a * loLane c, loLane b * hiLane c, hiLane b * hiLane c]),
        (.dmac, 0x3, fun a b c => [loLane a * loLane c + hiLane a * hiLane c, loLane b * loLane c + hiLane b * hiLane c]),
        (.qmac, 0x4, fun a b _ => [loLane a * loLane b, hiLane a * hiLane b, loLane a * hiLane b, hiLane a * loLane b])]
      : List ((Fin 64 → Upsets → Instr) × Nat × (Word → Word → Word → List Int))),
    u.Issues e Cls.mac c.2.1 k w → ∀ xs a,
      q.loads k 8 ((q.loading k w).map (q.macAccess k w)) = .ok (xs, a) →
      let b := (q.executing k w).foldl (fun y x => y.macLane k w c.2.2 x) a
      let d := xs.foldl (fun y x => (y.flyDr k x.1.lane x.2.2 (wBits w 26 22) ((pairOf x.2.1).getD 0 0)).flyDr k x.1.lane x.2.2
        (wBits w 26 22 + 1) ((pairOf x.2.1).getD 1 0)) b
      exec (c.1 e ecc) s = .next ((d.updateAds k (xs.map (·.1))).advance k)

/-- For a MAC operation that forms one or more sums, lane by lane: the result in flight for accumulator ACB + n is the
40-bit saturation of (0 with CLR, else the accumulator) plus the sum, or minus it with NEG, with OV of that accumulator set
exactly when it saturates; they land one cycle after issue, and nothing but the stream's results in flight changes. (R216)
-/
def Obligations.MacAccumulates : Prop :=
  ∀ (s : State) (k w lane : Nat) (f : Word → Word → Word → List Int),
    let b := s.bankOf k lane
    let sums := f (b.reg (wBits w 44 40)) (b.reg (wBits w 39 35)) (b.reg (wBits w 34 30))
    let th := s.thread k
    ((s.macLane k w f lane).thread k).flights = th.flights ++ (List.range sums.length).map (fun n =>
        let z := (if bitAt w 29 then 0 else s.macAcc k lane (wBits w 47 45 + n)) + (if bitAt w 28 then -(sums.getD n 0) else sums.getD n 0)
        ⟨th.cycle + 1, lane, th.bank1, true, .ac (wBits w 47 45 + n) (acWord (satInt 40 z)) (decide (satInt 40 z ≠ z))⟩)

/-- When a stream issues an ACC instruction, each executing lane reads its accumulators and puts in flight: RND32, RNDL and
RNDH the rounded shift saturated to the register or lane, with SAT on saturation; EXPA and EXPB counts of redundant sign
bits; NORM, ASHR, AADD and AMOV their accumulator; ACLR zero in every accumulator of its mask. Then the stream advances.
(R217, R218, R220) -/
def Obligations.GeckoAccComplete : Prop :=
  ∀ (s : State) (e : Fin 64) (k w : Nat),
    let r (a : State) (x : Nat) : Int := accRounded (a.bankOf k x) w
    let acc (a : State) (x n : Nat) : Int := (a.bankOf k x).acc n
    ∀ c ∈ ([(.rnd32, 0x0, fun x a => (a.flyDr k x 2 (wBits w 47 43) (w32 (unsigned 32 (satInt 32 (r a x))))).flySticky k x 2 12 (decide (satInt 32 (r a x) ≠ r a x))),
        (.rndl, 0x1, fun x a => (a.fly k x 2 false (.drLow (drIndex (a.bankOf k x).rrb (wBits w 47 43))
          (BitVec.ofNat 16 (unsigned 16 (satInt 16 (r a x)))))).flySticky k x 2 12 (decide (satInt 16 (r a x) ≠ r a x))),
        (.rndh, 0x2, fun x a => (a.fly k x 2 false (.drHigh (drIndex (a.bankOf k x).rrb (wBits w 47 43))
          (BitVec.ofNat 16 (unsigned 16 (satInt 16 (r a x)))))).flySticky k x 2 12 (decide (satInt 16 (r a x) ≠ r a x))),
        (.expa, 0x3, fun x a => a.flyDr k x 2 (wBits w 47 43) (w32 (redundant 40 (acc a x (wBits w 42 40))))),
        (.expb, 0x4, fun x a => a.flyDr k x 2 (wBits w 47 43)
          (w32 (((List.range 8).filter (fun n => bitAt w n)).foldl (fun m n => min m (redundant 40 (acc a x n))) 39))),
        (.norm, 0x5, fun x a => a.flyAc k x (wBits w 42 40) (acc a x (wBits w 42 40) * ((2 ^ shiftAmount (a.bankOf k x) w : Nat) : Int))),
        (.ashr, 0x6, fun x a => a.flyAc k x (wBits w 42 40) (r a x)),
        (.aclr, 0x7, fun x a => ((List.range 8).filter (fun n => bitAt w n)).foldl (fun y n => y.flyAc k x n 0) a),
        (.aadd, 0x8, fun x a => a.flyAc k x (wBits w 42 40) (acc a x (wBits w 42 40) + acc a x (wBits w 39 37))),
        (.amov, 0x9, fun x a => a.flyAc k x (wBits w 42 40) (((a.bankOf k x).reg (wBits w 47 43)).toInt * ((2 ^ wBits w 30 25 : Nat) : Int)))]
      : List ((Fin 64 → Instr) × Nat × (Nat → State → State))),
    s.Issues e Cls.acc c.2.1 k w → exec (c.1 e) s = .next (s.afterLanes k w c.2.2)

/-- When a stream issues a load whose accesses no lane faults on, the loaded bytes, converted for the instruction (32 bits,
a pair, 16 bits signed or unsigned), are in flight to DR[DST] on, the address registers are updated and the stream advances.
A store whose accesses no lane faults on stores its bytes lane by lane, pushes what it pushes, updates the address
registers, and the stream advances. The loads and stores of the I/O page (dispatch queue, output queue, DMA GO, DMA status)
are those of LD32 and ST32 at their offset. (R219, R220, R221, R232, R233, R234, spec/07_gecko_engine_array.md Table 7-4) -/
def Obligations.GeckoLoadsStoresComplete : Prop :=
  ∀ (s : State) (e : Fin 64) (ecc : Upsets) (k w : Nat),
    let u := s.upset ecc
    let p := u.fetched k
    let q := s.fetched k
    let xs := (q.executing k w).map (q.lsAccess k w)
    let loaded (conv : Bytes → List Word) (ys : List (EngAccess × Bytes × Nat)) (a : State) : State :=
      ((ys.foldl (fun z x => ((List.range (conv x.2.1).length).zip (conv x.2.1)).foldl (fun b v =>
        b.flyDr k x.1.lane x.2.2 (wBits w 47 43 + v.1) v.2) z) a).updateAds k (ys.map (·.1))).advance k
    (∀ c ∈ ([(.ld32, 0x0, 4, wordsOf), (.ld64, 0x1, 8, pairOf), (.ld16s, 0x2, 2, fun b => [w32 (unsigned 32 (signed 16 (leNat b)))]),
          (.ld16u, 0x3, 2, wordsOf)] : List ((Fin 64 → Upsets → Instr) × Nat × Nat × (Bytes → List Word))),
        u.Issues e Cls.ls c.2.1 k w → ∀ ys a, p.loads k c.2.2.1 ((p.executing k w).map (p.lsAccess k w)) = .ok (ys, a) → exec (c.1 e ecc) s = .next (loaded c.2.2.2 ys a))
      ∧ (∀ c ∈ ([(.dispqPop, 0x00), (.dmaStatusLoad, 0x34)] : List ((Fin 64 → Instr) × Nat)),
        s.Issues e Cls.ls 0x0 k w → s.pointsAt e 0x0 c.2 = true → ∀ ys a, q.loads k 4 xs = .ok (ys, a) →
          exec (c.1 e) s = .next (loaded wordsOf ys a))
      ∧ (∀ c ∈ ([(.st32, 0x4, 4), (.st64, 0x5, 8), (.st16, 0x6, 2)] : List ((Fin 64 → Instr) × Nat × Nat)),
        s.Issues e Cls.ls c.2.1 k w → accessFaults c.2.2 true xs = [] →
          let r := q.stored k c.2.2 (wBits w 47 43) xs
          r.2.goFaults r.1 = [] → exec (c.1 e) s
            = .next ((((r.1.foldl (fun a x => a.storeOne x) r.2).pushOnce k r.1).updateAds k xs).advance k))
      ∧ (∀ c ∈ ([(.outqPush, 0x04), (.dmaGo, 0x30)] : List ((Fin 64 → Instr) × Nat)),
        s.Issues e Cls.ls 0x4 k w → s.pointsAt e 0x4 c.2 = true → accessFaults 4 true xs = [] →
          let r := q.stored k 4 (wBits w 47 43) xs
          r.2.goFaults r.1 = [] → exec (c.1 e) s
            = .next ((((r.1.foldl (fun a x => a.storeOne x) r.2).pushOnce k r.1).updateAds k xs).advance k))

/-- When a stream issues one of these, each executing lane puts in flight: VEC magnitude and angle, ROT the rotated pair
saturated, SINCOS cosine and sine, RECIP and RSQRT mantissa and exponent with DIVZ on 0; MOV, MOVI and SRD their word; LROT,
LBC, LSUM, LMIN and LMAX the word that the lanes of the stream give it. SWR writes its special register by its number. Then
the stream advances. (R219, R220, R221, R238, spec/07_gecko_engine_array.md Table 7-4, spec/07_gecko_engine_array.md Table
7-5) -/
def Obligations.GeckoSfuMoveXchComplete : Prop :=
  ∀ (s : State) (e : Fin 64) (k w : Nat),
    let reg (a : State) (x hi lo : Nat) : Word := (a.bankOf k x).reg (wBits w hi lo)
    (∀ c ∈ ([(.vec, Cls.sfu, 0x0, fun x a => a.flyPair k x 8 (wBits w 47 43) (sfuVec (reg a x 42 38) (reg a x 37 33))),
          (.rot, Cls.sfu, 0x1, fun x a =>
            let p := a.readDr k x (wBits w 42 38)
            let q := p.2.readDr k x (wBits w 42 38 + 1)
            let r := sfuRot p.1 q.1 (reg a x 37 33)
            (q.2.flyPair k x 8 (wBits w 47 43) (w32 (unsigned 32 (satInt 32 r.1)), w32 (unsigned 32 (satInt 32 r.2)))).flySticky k x 8 12
              ((satInt 32 r.1, satInt 32 r.2) != r)),
          (.sincos, Cls.sfu, 0x2, fun x a => a.flyPair k x 8 (wBits w 47 43) (sfuSincos (reg a x 42 38))),
          (.recip, Cls.sfu, 0x3, fun x a => (a.flyPair k x 4 (wBits w 47 43) (if reg a x 42 38 = 0 then (0xFFFFFFFF, 32)
            else sfuRecip (reg a x 42 38))).flySticky k x 4 13 (reg a x 42 38 == 0)),
          (.rsqrt, Cls.sfu, 0x4, fun x a => (a.flyPair k x 4 (wBits w 47 43) (if reg a x 42 38 = 0 then (0xFFFFFFFF, 16)
            else sfuRsqrt (reg a x 42 38))).flySticky k x 4 13 (reg a x 42 38 == 0)),
          (.mov, Cls.move, 0x0, fun x a => a.flyDr k x 1 (wBits w 47 43) (reg a x 42 38)),
          (.movi, Cls.move, 0x1, fun x a => a.flyDr k x 1 (wBits w 47 43) (w32 (wBits w 31 0))),
          (.srd, Cls.move, 0x2, fun x a => a.flyDr k x 1 (wBits w 47 43) (a.readSr k x (wBits w 37 32)))]
        : List ((Fin 64 → Instr) × Nat × Nat × (Nat → State → State))),
      s.Issues e c.2.1 c.2.2.1 k w → exec (c.1 e) s = .next (s.afterLanes k w c.2.2.2))
      ∧ (s.Issues e Cls.move 0x3 k w → ∀ t, runSwr k w ((s.fetched k).executing k w) (s.fetched k) = .ok t → exec (.swr e) s = .next (t.advance k))
      ∧ (∀ c ∈ ([(.lrot, 0x0, fun vs i n => (vs.getD ((i + n) % vs.length) 0, false)), (.lbc, 0x1, fun vs _ n => (vs.getD (n % vs.length) 0, false)),
          (.lsum, 0x2, fun vs _ _ =>
            let z := vs.foldl (fun a v => a + v.toInt) 0
            (w32 (unsigned 32 (satInt 32 z)), decide (satInt 32 z ≠ z))),
          (.lmin, 0x3, fun vs _ _ => (vs.foldl (fun a v => if v.slt a then v else a) (vs.headD 0), false)),
          (.lmax, 0x4, fun vs _ _ => (vs.foldl (fun a v => if a.slt v then v else a) (vs.headD 0), false))]
        : List ((Fin 64 → Instr) × Nat × (List Word → Nat → Nat → Word × Bool))),
      s.Issues e Cls.xch c.2.1 k w →
        let q := s.fetched k
        let vs := (q.lanesOf k).map (fun x => (q.bankOf k x).reg (wBits w 42 38))
        exec (c.1 e) s = .next (s.afterLanes k w (fun x a =>
          let r := c.2.2 vs (q.laneIndex k x) (wBits w 37 32)
          (a.flyDr k x (xchLatency (q.widthOf k)) (wBits w 47 43) r.1).flySticky k x (xchLatency (q.widthOf k)) 12 r.2)))

/-- Results of a running stream that are due land. At an interruptible point with an enabled source pending, a running or
waiting stream enters its interrupt: EPC keeps PC, PC becomes IVEC, bank 1 is in use, two cycles pass. A DMA that the DMC
can serve moves its bytes and ends, setting its pending bit; an uncorrectable local word faults the engine. HALT_REQ,
HALT_COMPLETE, RESUME, FAULT_CLR, DOORBELL and COUNT_CLR act on the selected groups. (R220, R227, R228, R229, R235, R236,
R243, R244, R245) -/
def Obligations.EngineEventsComplete : Prop :=
  ∀ (s : State) (e : Fin 64) (ecc : Upsets) (src : Src) (k : Nat),
    let th := s.thread k
    let q := s.settle k
    let tq := q.thread k
    let u := s.upset ecc
    let d := u.dma e.val
    let can := u.dmcCan ⟨enginePath e.val, 2, !d.toLocal, d.dram, u.localBytes e.val d.localAddr d.len, d.len, u.now⟩
    (s.streamOf e.val = some k →
        (s.engState k = Eng.running → exec (.resultWriteback e) s = .next (s.settle k))
        ∧ ((q.engState k = Eng.running ∨ q.engState k = Eng.waiting) → tq.atPoint = true → (q.ipend k &&& tq.imask) ≠ 0 →
          let a := q.setThread k { tq with epc := tq.pc, pc := tq.ivec, bank1 := true }
          let b := a.setEng (a.lanesOf k) Eng.running
          exec (.interruptEntry e) s = .next
            ((((b.lanesOf k).foldl (fun y x => y.setFld (F.GEA_ENGk_STATE.BANK x) 1) b).tickStream k).tickStream k))
        ∧ (s.engState k = Eng.running → th.halting = true → th.atPoint = true →
          exec (.haltComplete e) s = .next (s.haltStream k).haltDone))
      ∧ (∀ ap, d.busy = true → can = true → localAddr e.val d.localAddr = some ap →
        (∀ a b, d.toLocal = true → u.dramRead (enginePath e.val) 2 d.dram d.len = (a, b) →
          exec (.dmaDone e ecc) s = .next (match b with | some b => (a.setEmem ap b).dmaEnd e.val | none => a))
        ∧ (d.toLocal = false → u.upsetIn ap d.len true = [] → exec (.dmaDone e ecc) s
          = .next (((u.eccRead ap d.len).dramWrite (enginePath e.val) 2 d.dram (u.emem ap d.len)).dmaEnd e.val))
        ∧ (d.toLocal = false → u.upsetIn ap d.len true ≠ [] → exec (.dmaDone e ecc) s = .next (u.dmaFault e.val)))
      ∧ (s.unitOn .gea = true →
        exec (.haltReq src) s = .next s.haltReq
        ∧ exec (.resume src) s = .next ((s.selected.foldl (fun a x =>
            let st := a.groupState x.2
            let b := if st = Eng.loaded then a.startGroup x.1 x.2
              else x.2.streams.foldl (fun a k => if a.engState k = Eng.halted then a.setEng (a.lanesOf k) Eng.running else a) a
            if st = Eng.loaded ∨ st = Eng.halted then b.clearLoad x.1 else b) s).thenStart s)
        ∧ (s.flag F.SIL_STATE.ACTIVE_COPY = true → exec (.geaFaultClr src) s = .next (s.selected.foldl (fun a x =>
            if a.groupState x.2 = Eng.fault then a.setEng x.2.engines Eng.loading else a) s))
        ∧ exec (.geaDoorbell src) s = .next (s.selected.foldl (fun a x => a.pendGroup x.2 2) s)
        ∧ exec (.geaCountClr src) s = .next (s.setReg R.GEA_ECC_CORR 0))

/-- ZONE_ADD and ZONE_REMOVE that a check refuses are counted, raise CHANGE_REFUSED and answer the code and zone; one that
none refuses joins the waiting changes with its request, and its answer waits for the record. ZONE_READ answers the zone's
information, background, RMS and state. STATS_RESET is taken at the next interval; COUNT_CLR zeroes the change count;
FAULT_CLR in FAULT returns the ZNT to READY. (R272, R273, R274, R275, R276, R297) -/
def Obligations.ZonesComplete : Prop :=
  ∀ (s : State) (o : Origin) (seq : Word) (src : Src),
    let v : Via := .msg o seq
    let p := s.payload v
    let z := readZone p 0 (field p 16 1) (field p 17 1)
    let refused (code n : Nat) : State :=
      ((s.count F.ZNT_CHANGE_COUNT.REFUSED 1).raise .znt F.ZNT_IRQ_STATUS.CHANGE_REFUSED).finish v .znt code n
    let taken (add : Option Zone) (n : Nat) : State :=
      { s with znt := { s.znt with changes := s.znt.changes ++ [⟨add, n, o, seq, p, false, none⟩] } }
    (s.takesUp v [0x0501] .znt = true →
        (s.addRefusal z = none → exec (.zoneAdd o seq) s = .next (taken (some z) z.number))
        ∧ ∀ c, s.addRefusal z = some c → exec (.zoneAdd o seq) s = .next (refused c z.number))
      ∧ (s.takesUp v [0x0502] .znt = true →
        (s.removeRefusal (field p 0 2) = none → exec (.zoneRemove o seq) s = .next (taken none (field p 0 2)))
        ∧ ∀ c, s.removeRefusal (field p 0 2) = some c → exec (.zoneRemove o seq) s = .next (refused c (field p 0 2)))
      ∧ (s.takesUp v [0x0503] .znt = true → exec (.zoneRead o seq) s = .next (s.finish v .znt 0 0
          (leBytes 4 (zinfo s.znt.zones (field p 0 2)) ++ leBytes 4 (s.zoneBg (field p 0 2) (field p 2 1)).toNat
            ++ leBytes 4 (s.zoneRms (field p 0 2) (field p 2 1)).toNat ++ leBytes 1 (s.zoneState (field p 0 2)) ++ zeros 3)))
      ∧ (s.unitOn .znt = true →
        exec (.statsReset src) s = .next { s with znt := { s.znt with reset := true } }
        ∧ exec (.zntCountClr src) s = .next (s.setReg R.ZNT_CHANGE_COUNT 0)
        ∧ (s.fld F.ZNT_STATUS.STATE = Blk.fault →
          exec (.zntFaultClr src) s = .next (((s.setFld F.ZNT_STATUS.STATE Blk.ready).show .znt 0 0).thenStart s)))

/-- A capture request that reaches the STU, by register or message, of a record that the image defines: an arm of an IDLE
record whose rows fit empties its buffer and arms it, a disarm makes an ARMED record IDLE and cancels the re-arm of a
CLOSING or REARM one, a trigger makes an ARMED record TRIGGERED at its newest full row with the zone's counts, counts on a
TRIGGERED one, and is missed or dead on the others, a length in range takes effect now or at the next arm; each ends with
code OK or the code that refuses it. CAP_STATE answers the state word. A triggered record whose rows are complete closes and
is delivered; a closing record that is delivered raises CAPTURE_DONE, starts its hold-off and becomes IDLE when retired,
else re-arms. COUNT_CLR zeroes the four counts, FAULT_CLR in FAULT returns to READY. (R287, R288, R289, R290, R292, R293,
R294, R295, R296, R297) -/
def Obligations.CapturesComplete : Prop :=
  ∀ (s : State) (v : Via) (o : Origin) (seq : Word) (src : Src) (w : Word) (r : Fin 64),
    let a := s.capArgs v w
    let st := s.capSt a.1
    let old := s.cap a.1
    let fin (x : State) (code : Nat) : State :=
      (((x.setFld F.STU_RESULT.CODE code).setFld F.STU_RESULT.RECORD a.1).settleDeads).finish v .stu code 0
    (s.takesUp v [0x0601] .stu = true →
        (s.recDef a.1 = none → exec (.capArm v w) s = .next (fin s StuCode.badArg))
        ∧ ∀ d, s.recDef a.1 = some d →
          let pre := (a.2.map (·.1)).getD d.pre
          let post := (a.2.map (·.2)).getD d.post
          let len := old.newLen.getD (s.capLen a.1)
          (st = Cap.idle → post ≠ 0 → pre + post ≤ len → s.flag F.STU_CFG.CAPTURE_EN = true → exec (.capArm v w) s = .next (fin
            ((((s.capLenNow a.1).capEmpty a.1 pre post).setCapSt a.1 Cap.armed).setFld (F.STU_RECr_STATE.REARM_CANCELLED a.1) 0) 0))
          ∧ (post = 0 → exec (.capArm v w) s = .next (fin s StuCode.badArg))
          ∧ (post ≠ 0 → Cap.triggered ≤ st → exec (.capArm v w) s = .next (fin s StuCode.armBusy))
          ∧ (post ≠ 0 → st = Cap.armed → exec (.capArm v w) s = .next (fin s (if a.2.isSome then StuCode.armBusy else 0)))
          ∧ (st = Cap.idle → post ≠ 0 → len < pre + post → exec (.capArm v w) s = .next (fin s StuCode.armTooLong)))
      ∧ (s.takesUp v [0x0602] .stu = true →
        (s.recDef a.1 = none → exec (.capDisarm v w) s = .next (fin s StuCode.badArg))
        ∧ ∀ d, s.recDef a.1 = some d →
          (st = Cap.armed → exec (.capDisarm v w) s = .next (fin (s.setCapSt a.1 Cap.idle) 0))
          ∧ (st = Cap.triggered → exec (.capDisarm v w) s = .next (fin s StuCode.armBusy))
          ∧ (st = Cap.closing ∨ st = Cap.rearm → exec (.capDisarm v w) s = .next (fin (s.setFld (F.STU_RECr_STATE.REARM_CANCELLED a.1) 1) 0))
          ∧ (st = Cap.idle → exec (.capDisarm v w) s = .next (fin s 0)))
      ∧ (s.takesUp v [0x0603] .stu = true →
        (s.recDef a.1 = none → exec (.capTrigger v w) s = .next (fin s StuCode.badArg))
        ∧ ∀ d, s.recDef a.1 = some d → a.1 < 64 →
          (st = Cap.armed →
            let b := (s.settleCap a.1).settleDead d.zone
            let x := b.cap a.1
            let y := b.zdead d.zone
            let c := ((b.setCap a.1 { x with trig := some (x.seq - 1), dead := y.dead, missed := y.missed
                                             deadUs := min (2 ^ 32 - 1) (y.samples / usec), count := 0 }).setCapSt a.1 Cap.triggered).setZdead
              d.zone ZoneDead.fresh
            let e := if (x.rows.filter (fun k => decide (k.seq < x.seq - 1))).length < x.pre then c.postZone d.zone StuCode.shortPre else c
            exec (.capTrigger v w) s = .next (fin ((e.raise .stu F.STU_IRQ_STATUS.TRIGGERED).settleDead d.zone) 0))
          ∧ (st = Cap.triggered → exec (.capTrigger v w) s
            = .next (fin (s.setCap a.1 { old with count := satSucc 65535 old.count }) 0))
          ∧ (st = Cap.idle → exec (.capTrigger v w) s = .next (fin (s.trigMissed d.zone) StuCode.missed))
          ∧ (st = Cap.closing ∨ st = Cap.rearm → exec (.capTrigger v w) s = .next (fin (s.trigDead d.zone) StuCode.dead)))
      ∧ (s.takesUp v [0x0604] .stu = true →
        let n := match v with | .reg _ => s.fld F.STU_ARG_LEN.ROWS | .msg _ _ => field (s.payload v) 4 4
        (s.recDef a.1 = none → exec (.capSetLength v w) s = .next (fin s StuCode.badArg))
        ∧ ∀ d, s.recDef a.1 = some d →
          (n = 0 ∨ d.rows < n → exec (.capSetLength v w) s = .next (fin s StuCode.bufRange))
          ∧ (n ≠ 0 → n ≤ d.rows → st ≠ Cap.idle → n < old.pre + old.post → exec (.capSetLength v w) s = .next (fin s StuCode.armTooLong))
          ∧ (n ≠ 0 → n ≤ d.rows → st = Cap.idle → exec (.capSetLength v w) s
            = .next (fin ((s.setCap a.1 { old with newLen := none }).setFld (F.STU_RECr_STATE.LENGTH a.1) n) 0))
          ∧ (n ≠ 0 → n ≤ d.rows → st ≠ Cap.idle → old.pre + old.post ≤ n → exec (.capSetLength v w) s
            = .next (fin ((s.setCap a.1 { old with newLen := some n }).setFld (F.STU_RECr_STATE.LEN_PENDING a.1) 1) 0)))
      ∧ (s.takesUp (.msg o seq) [0x0605] .stu = true → exec (.capState o seq) s = .next (s.finish (.msg o seq) .stu 0 0
          (leBytes 4 (s.reg (R.STU_RECr_STATE (field (s.payload (.msg o seq)) 0 1))).toNat ++ zeros 4)))
      ∧ (let b := s.settleCap r.val
        ∀ d, b.capSt r.val = Cap.triggered → b.capComplete r.val = true → b.recDef r.val = some d →
          let c := b.settleCap r.val
          let e := ((c.setCap r.val { c.cap r.val with postShort := false }).setCapSt r.val Cap.closing).settleDeads
          exec (.capturePostComplete r) s
            = .next (e.streamOut (e.fld F.STU_CFG.CAPTURE_CHANNEL) .dram (e.capBlock r.val d) (e.capSpans r.val)))
      ∧ (s.capSt r.val = Cap.closing → s.capWaiting r.val = false →
        let x := s.cap r.val
        let b := s.setCap r.val { x with
          holdoff := some (s.frame + ((s.recDef r.val).map (·.holdoff)).getD 0), frames := [], part := [], rows := [], gone := [] }
        exec (.captureDeliveryDone r) s = .next (((b.setCapSt r.val (if x.retire then Cap.idle else Cap.rearm)).raise .stu
          F.STU_IRQ_STATUS.CAPTURE_DONE).settleDeads))
      ∧ (s.unitOn .stu = true →
        exec (.stuCountClr src) s = .next ([R.STU_MISSED_COUNT, R.STU_DEAD_COUNT, R.STU_DROPPED_COUNT, R.STU_LOST_COUNT].foldl
          (fun a r => a.setReg r 0) s)
        ∧ (s.fld F.STU_STATUS.STATE = Blk.fault →
          exec (.stuFaultClr src) s = .next (((s.setFld F.STU_STATUS.STATE Blk.ready).show .stu 0 0).thenStart s)))

/-- With the TCE on, an intake takes the oldest input: the Tadpole blocks of a PLANAR one join the waiting blocks, the words
of a LINEAR one enter the open block. A block of a channel that waits and has room in staging is coded; a verified block, or
a RAW one where no rung holds the bound, is staged with its tag, counted and shown; without room the TCE stalls. COUNT_CLR
zeroes the TCE counts; FAULT_CLR in FAULT returns to READY. (R299, R301, R302, R304, R308, R309, R310, R311, R312, R313,
R314, R317) -/
def Obligations.TadpoleComplete : Prop :=
  ∀ (s : State) (src : Src) (c : Fin 32) (flips : List Nat) (t : Nat),
    let u := s.at_ t
    (s.unitOn .tce = true → ∀ q rest, s.tce.queue = q :: rest → q.spans = [] →
        let a : State := { s with tce := { s.tce with queue := rest } }
        let data := match q.place with | some (ap, n) => q.data ++ s.emem ap n | none => q.data
        let frame := field data 8 6
        let mark := a.markAt data
        let cut (y : State) : State := if q.cut && !(y.tch q.chan).words.isEmpty then y.setTch q.chan { y.tch q.chan with gap := true } else y
        (a.ruleFld frame q.chan (F.TCE_CHc_CFG.GEOM q.chan) ≠ 1 →
          let b := (cut a).stageMeta q.chan data false
          exec .tceBlockIntake s = .next (({ b with tce := { b.tce with
            blocks := b.tce.blocks ++ planarBlocks (b.ruleFld frame q.chan) q.chan mark data } } : State).tceRest.tceStall))
        ∧ (a.ruleFld frame q.chan (F.TCE_CHc_CFG.GEOM q.chan) = 1 →
          let b := (cut (if mark ≠ (a.tch q.chan).wordMark then a.closeLinear q.chan else a)).stageMeta q.chan data true
          exec .tceBlockIntake s = .next (((b.addPayload q.chan frame mark (blockLate data)
            (data.drop (64 + descBytes (field data 64 2)))).workPut q.chan).tceRest.tceStall)))
      ∧ (s.unitOn .tce = true → ∀ q rest, s.tce.queue = q :: rest → q.spans ≠ [] → s.dmcServes = false →
        exec .tceBlockIntake s = .next s.dmcTouch.tceRest.tceStall)
      ∧ (u.unitOn .tce = true → ∀ b, u.tce.blocks.find? (fun b => b.chan = c.val) = some b →
        (u.stageRoom c.val = false → exec (.tceBlockCoded c flips t) s = .next { u with tce := { u.tce with
          stalled := u.tce.blocks.any (fun b => !u.ringRoom b.chan) } })
        ∧ (u.stageRoom c.val = true →
          let a : State := { u with tce := { u.tce with blocks := u.tce.blocks.erase b } }
          let x := a.tch b.chan
          let mark := b.mark
          let reset := x.fresh || mark != x.mark || decide (a.fld F.ANC_POL0.RECORD_BLOCKS ≤ x.since)
          let rule (f : Fld) : Nat := a.ruleFld b.frame b.chan f
          let e := rule (F.TCE_CHc_BOUND.E b.chan)
          let eff := rule (F.TCE_CHc_CFG.EFFORT b.chan)
          let ratio := rule (F.TCE_CHc_CFG.RATIO b.chan)
          let hist := if reset then [] else x.history
          let k := codeBlock b eff ratio e (if rule (F.TCE_CHc_CFG.GEOM b.chan) = 1 then 1024 else b.validInstants)
            (if reset then 0 else x.step - 2) hist flips
          let rung := k.rung.getD ((ladder e).length - 1)
          let y : TceChan := { x with
            mark := mark, fresh := false, since := if reset then 1 else x.since + 1
            history := (k.ys :: hist).take (effortDepth eff), step := rung }
          let staged (tag : Bytes) : State := (((a.setTch b.chan y).workPut b.chan).stageBlock b.chan b.frame (k.bytes ++ tag) reset).count
            F.TCE_BLOCK_COUNT.COUNT 1
          (∀ j q, k.coded = some (j, q) → exec (.tceBlockCoded c flips t) s = .next
            (((((staged (tadTag b ratio j false k.refused reset (e == 0))).setFld (F.TCE_CHc_STEP.LADDER b.chan) j).setFld
              (F.TCE_CHc_STEP.QSTEP b.chan) q).tceRest).tceStall))
          ∧ (k.coded = none →
            let z := ((((staged (tadTag b ratio 255 true k.refused reset (e == 0))).setFld (F.TCE_CHc_STEP.LADDER b.chan) 0x7F).setFld
              (F.TCE_CHc_STEP.QSTEP b.chan) 0).count F.TCE_RAW_COUNT.COUNT 1).raise .tce F.TCE_IRQ_STATUS.RAW
            exec (.tceBlockCoded c flips t) s = .next ((((if k.refused then
              ((z.count F.TCE_VERIFY_COUNT.COUNT 1).post .tce TceCode.verifyFail 0).raise .tce F.TCE_IRQ_STATUS.VERIFY_FAIL
              else z.show .tce TceCode.raw 0)).tceRest).tceStall))))
      ∧ (s.unitOn .tce = true →
        exec (.tceCountClr src) s = .next ([R.TCE_BLOCK_COUNT, R.TCE_RAW_COUNT, R.TCE_VERIFY_COUNT, R.TCE_STALL_CYCLES_LO,
          R.TCE_STALL_CYCLES_HI, R.TCE_DROP_COUNT].foldl (fun a r => a.setReg r 0) s)
        ∧ (s.fld F.TCE_STATUS.STATE = Blk.fault →
          exec (.tceFaultClr src) s = .next (((s.setFld F.TCE_STATUS.STATE Blk.ready).show .tce 0 0).thenStart s)))

/-- INIT from OFF with sound settings enters INIT; the end of initialisation makes the DMC ready when the check passes and
freezes it otherwise. With nothing waiting, a request inside the installed addresses is served when the DMC can, a write
writing and a read giving its data, else it waits; the diagnostic read returns the raw burst in READY or frozen, else is
refused. DRAM_RESET resets the DRAM domain unless a warm reset is under way. Entry to self-refresh loses the unretained
eighths, exit serves what waits, and a filled eighth lets its requests go on. (R325, R328, R329, R330, R336, R337, R338,
R339, R341, R343, R345) -/
def Obligations.DramCommandsComplete : Prop :=
  ∀ (s : State) (src : Src) (check : TrainCheck) (t : Nat) (path : Word) (cls : Fin 6) (write : Bool)
      (addr len : Nat) (data : Bytes) (flips read : List Nat) (e : Fin 16),
    let u := s.at_ t
    let r : DramReq := ⟨path.toNat, cls.val, write, addr, data, len, s.now⟩
    let f := s.flipBits (addr / 32) flips
    let a := f.dmcTouch
    (u.dmcState = Dmc.init →
        let a := u.initCmds
        let inside (r : DramReq) : Bool := decide (r.addr + (if r.write then r.data.length else r.len) ≤ a.deviceTop)
        let b : State := { a with dmc := { a.dmc with
          dram := [], keepPending := false, scrubAt := a.now, waiting := a.dmc.waiting.filter inside } }
        exec (.dmcInitComplete .passes none t) s = .next (((b.setFld F.DMC_STATUS.STATE (if a.dmc.keepPending then Dmc.srEntry else
          Dmc.ready)).raise .dmc F.DMC_IRQ_STATUS.READY).portResume.dmcUp)
        ∧ exec (.dmcInitComplete .stage none t) s = .next (a.dmcFreeze 3 6 0 dmcPath 0 0 0 0 0).portResume.dmcUp
        ∧ (∀ x, exec (.dmcInitComplete (.mismatch x) none t) s = .next
          ((a.checkFill.dmcCmd 2 (a.checkFill.cmdBits (unitPhys (x / 32))) 6).dmcFreeze 3 6 (x / 32 * 32) dmcPath 0 0 0 0 0).portResume.dmcUp)
        ∧ ∀ mr e x, exec (.dmcInitComplete check (some (mr, e, x)) t) s = .next
          (((if mr = 8 then u else u.dmcCmd 7 (2 ^ 9 * (e % 256) + 2 ^ 17 * mr) 6).dmcCmd 8 (2 ^ 9 * (x % 256) + 2 ^ 17 * mr) 6).dmcFreeze
            2 6 0 dmcPath 0 0 mr e x).portResume.dmcUp)
      ∧ (s.unitOn .dmc = true →
        (s.dmcState = Dmc.off → s.dmcCheck = none → exec (.dmcInit src) s = .next (s.dmcBegin.show .dmc 0 0))
        ∧ (∀ d, s.dmcState = Dmc.off → s.dmcCheck = some d → exec (.dmcInit src) s = .next (s.post .dmc DmcCode.badConfig d))
        ∧ (s.dmcState ≠ Dmc.off → exec (.dmcInit src) s = .next (s.post .dmc DmcCode.busy 0))
        ∧ (s.glb.warm = false → exec (.dramReset src t) s = .next u.dramReset)
        ∧ exec (.dmcCountClr src) s = .next ((s.setReg R.DMC_ECC_CORR 0).setReg R.DMC_REF_FORCED 0)
        ∧ (s.dmcState ≠ Dmc.frozen → exec (.scrubNow src) s = .next { s with dmc := { s.dmc with scrub := some 0 } }))
      ∧ (u.flag F.DMC_ECC_CFG.SCRUB_EN = true → u.dmcServes = true → u.dmc.scrubAt + u.scrubPeriod ≤ u.now →
        exec (.scrubPeriod t) s = .next { u with dmc := { u.dmc with scrub := some 0, scrubAt := u.now } })
      ∧ (u.now < u.dmc.scrubAt + u.scrubPeriod → exec (.scrubPeriod t) s = .next u)
      ∧ (f.dmcState ≠ Dmc.off → f.deviceTop < addr + (if write then data.length else len) →
        exec (.dmcRequest path cls write addr data len flips) s = .next s)
      ∧ (f.dmcState = Dmc.off ∨ addr + (if write then data.length else len) ≤ f.deviceTop →
        (cls.val = 4 → f.dmcState = Dmc.frozen →
          exec (.dmcRequest path cls write addr data len flips) s = .next (f.frozenWindow write addr len))
        ∧ (¬(cls.val = 4 ∧ f.dmcState = Dmc.frozen) → a.dmc.waiting = [] →
          (a.dmcCan r = true → ∃ z : State, { z with dmc := { z.dmc with winners := a.dmc.winners } } = a ∧
            (write = true → ∀ b, z.deviceWrite path.toNat cls.val addr data = b →
              exec (.dmcRequest path cls write addr data len flips) s
                = .next (if cls.val = 4 ∧ b.dmcState = Dmc.frozen then b.frozenWindow true addr data.length else b))
            ∧ ∀ b d, write = false → path.toNat ≠ dmcPath → z.deviceRead path.toNat cls.val addr len = (b, d) →
              exec (.dmcRequest path cls write addr data len flips) s = .next (match d with
                | some d => b.give (.readData addr (leNat d))
                | none => if cls.val = 4 ∧ b.dmcState = Dmc.frozen then b.frozenWindow false addr len else b))
          ∧ (a.dmcCan r = false → exec (.dmcRequest path cls write addr data len flips) s
            = .next { a with dmc := { a.dmc with waiting := [r] } })))
      ∧ (s.dmcState = Dmc.srEntry →
        let after (n : Nat) : State := (List.range n).foldl (fun a i => a.srMr17 read i) s.srFlush
        ((∀ i, i < s.ranks → read[i]?.getD 0 = s.srMask i) →
          exec (.srEntry read) s = .next (if s.dmc.exitPending then
            ({ (after s.ranks).srDone with dmc := { (after s.ranks).srDone.dmc with exitPending := false } } : State).srxIssue
            else (after s.ranks).srDone))
        ∧ ∀ i, i < s.ranks → read[i]?.getD 0 ≠ s.srMask i → (∀ j, j < i → read[j]?.getD 0 = s.srMask j) →
          exec (.srEntry read) s = .next ((after (i + 1)).dmcFreeze 2 6 0 dmcPath 0 0 17 (s.srMask i) (read[i]?.getD 0 % 256)))
      ∧ (s.dmcState = Dmc.srExit → exec .srExit s = .next
        (({ s with dmc := { s.dmc with scrubAt := s.now } } : State).setFld F.DMC_STATUS.STATE Dmc.ready).portResume)
      ∧ (s.dmc.unfilled.contains e.val = true → s.dmcServes = true → exec (.unretainedFillDone e) s = .next (s.eighthFilled e.val).portResume)
      ∧ (∀ o seq, s.takesUp (.msg o seq) [0x0904] .dmc = true →
        (s.diagServes = true → exec (.dmcDiagRead (.msg o seq)) s
          = .next ((s.dmcDiagAt (field (s.payload (.msg o seq)) 0 8)).finish (.msg o seq) .dmc 0 0 (s.rawBurst (field (s.payload (.msg o seq)) 0 8))))
        ∧ (s.diagServes = false → exec (.dmcDiagRead (.msg o seq)) s
          = .next ((s.setFlag F.DMC_DIAG_CTRL.REFUSED true).finish (.msg o seq) .dmc DmcCode.busy 0)))
      ∧ (s.unitOn .dmc = true → s.diagServes = true → exec (.dmcDiagRead (.reg src)) s
        = .next (((List.range 8).foldl (fun a i => a.setReg (R.DMC_DIAG_DATAi i)
            (w32 (field (s.rawBurst (s.reg64 R.DMC_DIAG_ADDR_LO R.DMC_DIAG_ADDR_HI)) (4 * i) 4)))
          (s.diagCmd (s.reg64 R.DMC_DIAG_ADDR_LO R.DMC_DIAG_ADDR_HI))).setFlag F.DMC_DIAG_CTRL.REFUSED false))

/-- While READY or frozen, a rank's interval that has run out starts again and in native mode adds one owed refresh to its
rank, or forces one when the limit of its rate is reached; in compatibility mode it refreshes. An owed refresh issues when
its rank has been idle long enough. An MR4 poll takes the higher-rate code of the two channels, starts the interval anew
when the code changes, forces what exceeds its limit, raises TEMP_HOT on reaching a hot code and TEMP_LIMIT on a limit code.
ZQ calibration issues its command to each rank, and an idle row closes. (R331, R332, R333, R334, R335, R327) -/
def Obligations.DramRefreshComplete : Prop :=
  ∀ (s : State) (r : Fin 2) (c0 c1 : Fin 8) (bank : Fin 32) (t : Nat),
    let u := s.at_ t
    let v := u.refStart r.val
    (u.refreshing = true → r.val < u.ranks →
        (u.refDue r.val = true →
          (v.flag F.DMC_REF_CFG.MODE = true → exec (.refreshInterval r t) s = .next (v.refab r.val 1 true))
          ∧ (v.flag F.DMC_REF_CFG.MODE = false → refLimit (v.rate r.val) < v.owed r.val + 1 →
            exec (.refreshInterval r t) s = .next (v.refab r.val 1 true))
          ∧ (v.flag F.DMC_REF_CFG.MODE = false → v.owed r.val + 1 ≤ refLimit (v.rate r.val) →
            exec (.refreshInterval r t) s = .next (v.setOwed r.val (v.owed r.val + 1))))
        ∧ (u.refDue r.val = false → exec (.refreshInterval r t) s = .next u)
        ∧ (0 < u.owed r.val → (∀ x, (u.dmc.lastReq.find? (·.1 = r.val)).map (·.2) = some x → 32 * u.tCtl ≤ (t - x) * 8000) →
          exec (.refreshIssue r t) s = .next ((u.setOwed r.val (u.owed r.val - 1)).refab r.val 1 false))
        ∧ (u.pollDue r.val = true →
          let code := if refQuarters c0.val < refQuarters c1.val then c0.val
            else if refQuarters c1.val < refQuarters c0.val then c1.val else max c0.val c1.val
          let y : State := { u with dmc := { u.dmc with pollAt := (r.val, u.now) :: u.dmc.pollAt.filter (·.1 ≠ r.val) } }
          let m := (y.dmcCmd 8 (32 * r.val + 2 ^ 9 * c0.val + 2 ^ 17 * 4) 6).dmcCmd 8 (16 + 32 * r.val + 2 ^ 9 * c1.val + 2 ^ 17 * 4) 6
          let m := m.dqsRead r.val
          let a := m.setFld (if r.val = 0 then F.DMC_REF_STATUS.RATE0 else F.DMC_REF_STATUS.RATE1) code
          let b := if a.owed r.val > refLimit code then
            (a.refab r.val (a.owed r.val - refLimit code) true).setOwed r.val (refLimit code) else a
          let b := if m.rate r.val = code then b else b.refStart r.val
          let c := if m.rate r.val < 4 ∧ 4 ≤ code then b.raise .dmc F.DMC_IRQ_STATUS.TEMP_HOT else b
          exec (.mr4Poll r c0 c1 t) s = .next
            (if c0.val = 0 ∨ c0.val = 7 ∨ c1.val = 0 ∨ c1.val = 7 then (c.post .dmc DmcCode.tempLimit 0).raise .dmc F.DMC_IRQ_STATUS.TEMP_LIMIT else c)))
      ∧ (s.dmcState = Dmc.ready → s.dmc.zqAt + 128 * msec ≤ s.now →
        let a := (List.range s.ranks).foldl (fun a r => a.dmcCmd 11 (32 * r) 6) s
        exec .zqCalibration s = .next { a with dmc := { a.dmc with zqAt := s.now, zqPend := List.range s.ranks } })
      ∧ (u.fld F.DMC_PAGE_CFG.IDLE_CLOSE ≠ 0 → u.dmc.rows.any (·.1 = bank.val) = true →
        u.fld F.DMC_PAGE_CFG.IDLE_CLOSE * 8 * u.tCtl ≤ (u.now - u.rowUsed bank.val) * 8000 →
        exec (.rowIdleClose bank t) s = .next
          (({ u with dmc := { u.dmc with rows := u.dmc.rows.filter (·.1 ≠ bank.val) } } : State).dmcCmd 4
            (16 * (bank.val / 8 % 2) + 32 * (bank.val / 16) + 64 * (bank.val % 8)) 6))

/-- While READY and not stopped by PWRFAIL_N: ARC_READ of a record between ANC_OLDEST_SEQ and ANC_COMMIT_SEQ reads it and
sends its bytes with its status, of any other sequence it answers BAD_ARG; ARC_DELETE up to ANC_COMMIT_SEQ notes the
deletion and waits for a commit, above it BAD_ARG; ARC_COMMIT waits for a commit. Otherwise they are refused NOT_MOUNTED; a
read waits while the DMC is frozen. ARC_FORMAT with the key, while UNFORMATTED or in FAULT, clears the key, enters
FORMATTING and answers OK. ARC_INFO answers sequences, free space and status. PATROL_NOW starts a pass, COUNT_CLR zeroes
five counts, FAULT_CLR in FAULT mounts. (R364, R365, R368, R370, R376, R378, R374) -/
def Obligations.ArchiveRequestsComplete : Prop :=
  ∀ (s : State) (v : Via) (o : Origin) (seq : Word) (flips : List (List (Nat × Nat))) (src : Src),
    let m : Via := .msg o seq
    let n := field (s.payload m) 0 8
    (s.takesUp m [0x0701] .anc = true →
        (s.dmcState = Dmc.frozen → exec (.arcRead o seq flips) s = .next s)
        ∧ (s.dmcState ≠ Dmc.frozen → s.ancTakes = false → exec (.arcRead o seq flips) s = .next (s.finish m .anc AncCode.notMounted 0))
        ∧ (s.dmcState ≠ Dmc.frozen → s.ancTakes = true → s.anc.recs.find? (·.seq == n) = none ∨ n < s.oldestSeq ∨ s.anc.commitSeq < n →
          exec (.arcRead o seq flips) s = .next (s.finish m .anc AncCode.badArg 0))
        ∧ (∀ r, s.dmcState ≠ Dmc.frozen → s.ancTakes = true → s.anc.recs.find? (·.seq == n) = some r → s.oldestSeq ≤ n → n ≤ s.anc.commitSeq →
          let x := s.readRecord r flips
          let b := (s.noteRead r x).ancStep
          let a := if x.status = 0 then b.show .anc 0 0 else b
          let pay := leBytes 4 x.bytes.length ++ zeros 4
          (x.bytes.length ≤ a.hbLen o seq 8 → exec (.arcRead o seq flips) s
            = .next (a.transfer o seq 8 x.bytes.length x.status Unit.anc.top x.detail (.toHost x.bytes pay)))
          ∧ (a.hbLen o seq 8 < x.bytes.length → exec (.arcRead o seq flips) s = .next (a.answer o seq HifCode.shortBuffer Unit.hif.top 0 pay))))
      ∧ (s.takesUp m [0x0702] .anc = true →
        (s.ancTakes = false → exec (.arcDelete o seq) s = .next (s.finish m .anc AncCode.notMounted 0))
        ∧ (s.ancTakes = true → s.anc.commitSeq < n → exec (.arcDelete o seq) s = .next (s.finish m .anc AncCode.badArg 0))
        ∧ (s.ancTakes = true → n ≤ s.anc.commitSeq → exec (.arcDelete o seq) s = .next
          ((s.onAnc (fun a => { a with deleted := addDelete a.deleted n 1, waits := a.waits ++ [.delete m] })).wantCommit).ancStep))
      ∧ (s.takesUp v [0x0703] .anc = true →
        (s.ancTakes = false → exec (.arcCommit v) s = .next (s.finish v .anc AncCode.notMounted 0))
        ∧ (s.ancTakes = true → exec (.arcCommit v) s
          = .next ((s.onAnc (fun a => { a with waits := a.waits ++ [.commit v] })).wantCommit).ancStep))
      ∧ (s.takesUp v [0x0704] .anc = true →
        let key := match v with | .reg _ => (s.reg R.ANC_FORMAT_KEY).toNat | .msg _ _ => field (s.payload v) 0 4
        let a := s.setReg R.ANC_FORMAT_KEY 0
        a.ancState = Anc.unformatted ∨ a.ancState = Anc.fault →
          (key = 0x464F524D → exec (.arcFormat v) s = .next ((a.dropSuper.setFld F.ANC_STATUS.STATE Anc.formatting).finish v .anc 0 0).ancVote)
          ∧ (key ≠ 0x464F524D → exec (.arcFormat v) s = .next (a.finish v .anc AncCode.badArg 0)))
      ∧ (s.takesUp m [0x0705] .anc = true → exec (.arcInfo o seq) s = .next (s.finish m .anc 0 0
          (leBytes 8 s.anc.nextSeq ++ leBytes 8 s.anc.commitSeq ++ leBytes 8 s.oldestSeq ++ leBytes 4 ((s.ancLive R.ANC_FREE).getD 0).toNat
            ++ leBytes 4 ((s.ancLive R.ANC_STATUS).getD 0).toNat)))
      ∧ (s.unitOn .anc = true →
        (s.ancTakes = true →
          let a := s.setReg R.ANC_PATROL 0
          exec (.patrolNow src) s
            = .next ((a.onAnc (fun x => { x with passStart := a.arcTime, corrected := [] })).finish (.reg src) .anc 0 0))
        ∧ (s.ancTakes = false → exec (.patrolNow src) s = .next (s.finish (.reg src) .anc AncCode.notMounted 0))
        ∧ exec (.ancCountClr src) s = .next ([R.ANC_REPAIRED, R.ANC_CORRUPT, R.ANC_MOVED, R.ANC_CORR_MAX, R.ANC_DROP].foldl
          (fun a r => a.setReg r 0) s)
        ∧ (s.ancState = Anc.fault → imgHas s.sil.active Sec.archivePolicy = true → ancCheck s.fld = none →
          exec (.ancFaultClr src) s = .next ((s.ancLose).setFld F.ANC_STATUS.STATE Anc.mounting).ancVote))

/-- MOUNTING ends with the targets identified: an unsupported medium faults, else the tables are rebuilt from superblock,
checkpoint and journal and the ANC is READY, UNFORMATTED without a superblock, in FAULT without a checkpoint. A format
writes checkpoint, journal and superblock and mounts. A zone change, an append or the histories become a record that waits
for its commit; a channel's staged data becomes a record. A program or erase that ends changes the medium; one that fails
marks its block bad and its data goes on elsewhere. An expired COMMIT_MS wants a commit; a passed one is in force. A written
checkpoint is journaled, the patrol reads on, a flush with nothing left turns the archive OFF, PWRFAIL_N acts by R457.
(R359, R360, R362, R364, R373, R374, R376, R377, R379, R457) -/
def Obligations.ArchiveWorkComplete : Prop :=
  ∀ (s : State) (nand : List (Nat × NandAnswer)) (t page : Nat) (bad pflips : List Nat) (c : Fin 32) (flips : List (Nat × Nat)),
    let u := s.at_ t
    let put (type : Nat) (content : Bytes) (w : ArcWait) : State :=
      ((u.newRecord (u.arcHead type 0xFF) (arcItem 5 content)).onAnc (fun a => { a with waits := a.waits ++ [w] })).wantCommit
    let room (content : Bytes) : Prop := u.ancState = Anc.ready ∧ u.anc.halting = false ∧ (u.makeRoom (content.length + 96)).1 = true
    let mount (a : State) : Prop := imgHas a.sil.active Sec.archivePolicy = true ∧ ancCheck a.fld = none
    (s.unitOn .anc = true →
        (s.ancState = Anc.mounting →
          (∀ d, mediumFault nand = some d → exec (.ancMount nand t) s = .next
            ((((u.ancFault AncCode.unsupported d).zoneReplay).almMounted).thenStart u))
          ∧ (mediumFault nand = none →
            let g := u.setGeometry nand
            let tables (sb b : Bytes) (blocks : List Nat) (page : Nat) : State :=
              let sbs := (List.range 8).filter (fun x => tagOk 4 (g.readPage (g.pageAddr x 0) []).main)
              let used (x : Nat) : Nat := (((List.range g.npages).reverse.find? (fun p => !(g.readPage (g.pageAddr x p) []).erased)).map (· + 1)).getD 0
              let r := replay (2 ^ 17) ((g.onAnc (fun a => { a with
                sbA := sbs.headD 0, sbB := (sbs.drop 1).headD 1, sbPageA := used (sbs.headD 0), sbPageB := used ((sbs.drop 1).headD 1)
                generation := field sb 8 8, formatTime := field sb 0x10 8, ckBlocks := blocks, ckPage := page
                ckPrevPage := field sb 0x2C 4 })).loadCheckpoint b, ⟨[], none, false, true, false⟩)
              let a := r.1.onAnc (fun x => { x with
                nextSeq := x.commitSeq + 1
                blocks := x.blocks.map (fun y => if y.2.state = Nb.open_ then (y.1, { y.2 with state := Nb.full }) else y) })
              let w := ((a.blocksIn (· == Nb.erasePending)).foldl State.eraseBlock a).resume r.2.next (((g.readCheckpoint (field sb 0x2C 4)).map (·.2)).getD [])
              let w := if r.2.clean then w else w.newPair
              let d := State.ancDrain 100000 (w.openAhead w.openTarget).takeCheckpoint.wantCommit
              let e := if r.2.short then (d.post .anc AncCode.journalShort (r.1.anc.commit % 65536)).raise .anc F.ANC_IRQ_STATUS.JOURNAL_SHORT
                else d.show .anc 0 0
              let z := if e.anc.gapDue || r.2.short then e.archived.foldl State.askBoundary e.openSpans else e
              (z.setFld F.ANC_STATUS.STATE Anc.ready).raise .anc F.ANC_IRQ_STATUS.MOUNTED
            let mounted : State := match g.findSuper with
              | none => (g.setFld F.ANC_STATUS.STATE Anc.unformatted).post .anc AncCode.unformatted 0
              | some sb => match g.readCheckpoint (field sb 0x28 4), g.readCheckpoint (field sb 0x2C 4) with
                | some (b, blocks), _ => tables sb b blocks (field sb 0x28 4)
                | none, some (b, blocks) => tables sb b blocks (field sb 0x2C 4)
                | none, none => g.ancFault AncCode.metaLost 0
            exec (.ancMount nand t) s = .next (((mounted.zoneReplay).almMounted).thenStart u)))
        ∧ (s.ancState = Anc.formatting →
          let a := bad.foldl (fun a g => a.setNblk g (fun b => { b with state := Nb.factoryBad })) (s.ancLose.onAnc (fun a => { a with
            pages := tabDrop (fun x => !superBlock (s.blockOf x)) a.pages, commit := 0, commitSeq := 0, nextSeq := 1, oldest := 1
            blockSeq := 0, generation := 0, formatTime := s.timeNs, time := 0, timeAt := s.now, passStart := 0, ckPage := 0, ckPrevPage := 0 }))
          let sbs := (List.range (min 8 a.nblocks)).filter (fun g => decide ((a.nblk g).state < 7))
          let z := (State.ancDrain 100000 (((sbs.foldl (fun a g => a.setNblk g (fun b => { b with state := Nb.super })) a).onAnc
            (fun a => { a with sbA := sbs.headD 0, sbB := (sbs.drop 1).headD 1, sbPageA := 0, sbPageB := 0 })).newPair)).onAnc
              (fun a => { a with jDone := [], jPrev := [] })
          mount z → exec (.formatComplete bad []) s = .next ((z.ancLose).setFld F.ANC_STATUS.STATE Anc.mounting).ancVote)
        ∧ (∀ n a items, s.ancState = Anc.ready → s.anc.halting = false → s.dmcServes = true → s.anc.skip.contains c.val = false →
          recordEnd (s.fld F.ANC_POL0.RECORD_BLOCKS) (s.recordCloses c.val) (s.tch c.val).staged = some n →
          State.readItems ((s.tch c.val).staged.take n) s = (a, some items) →
          let d := a.dataRecord c.val items
          (a.anc.full = true → a.fld F.ANC_POL2.FULL_POLICY = 1 → a.anc.refused.any (·.chan == c.val) = true →
            exec (.stagedRecordProgram c) s = .next ((((a.dropStaged c.val n).keepHeaders c.val d.2.2).count F.ANC_DROP.COUNT 1).judgeSpace.ancStep.tceStall))
          ∧ (a.anc.full = false → a.anc.refused.find? (·.chan == c.val) = none → a.anc.spans.find? (·.chan == c.val) = none →
            (a.anc.commitSeq < a.anc.gapSeq → exec (.stagedRecordProgram c) s = .next a.judgeSpace.ancStep.tceStall)
            ∧ (a.anc.gapSeq ≤ a.anc.commitSeq → (a.makeRoom (80 + d.2.1.length)).1 = false →
              exec (.stagedRecordProgram c) s = .next (a.makeRoom (80 + d.2.1.length)).2.judgeSpace.ancStep.tceStall)
            ∧ (a.anc.gapSeq ≤ a.anc.commitSeq → (a.makeRoom (80 + d.2.1.length)).1 = true → exec (.stagedRecordProgram c) s
              = .next ((((a.newRecord d.1 d.2.1).dropStaged c.val n).keepHeaders c.val d.2.2).judgeSpace.ancStep.tceStall))))
        ∧ (s.ancState = Anc.ready ∨ s.ancState = Anc.flushing ∨ s.ancState = Anc.mounting →
          let a := if pflips.isEmpty then s else s.onAnc (fun a => { a with
            pages := tabPut (fun _ => none) a.pages page (some (s.rawPage page pflips)) })
          let r := a.readPage page []
          let b := a.notePages [(page, r.worst)] (if r.clean then [] else [page])
          exec (.nandPageReadDone page pflips) s = .next (if b.ancState = Anc.mounting then b else b.ancStep)))
      ∧ (∀ i z, u.znt.changes.findIdx? (fun c => !c.submitted) = some i → u.znt.changes[i]? = some z → room z.bytes →
        let a := put 3 z.bytes (.zone z.number u.anc.nextSeq)
        exec (.archiveRecordSubmit 0 t) s = .next ({ a with znt := { a.znt with
          changes := modAt a.znt.changes i (fun c => { c with submitted := true }) } } : State).ancStep)
      ∧ (∀ x rest, u.alm.appends = x :: rest → x.record = [] →
        let b := formRecord u.chainHead (mergeEntries (recEntries u.chainHead) (x.entries.flatMap (walkEntries 1))) (imgSerial u.sil.active) u.run
          (if x.who.isSome then 1 else 2) u.frame u.timeNs (u.lockByte u.ttu.stepped)
        let a := put 4 b (.cal u.anc.nextSeq)
        b.length ≤ 65536 → room b → exec (.archiveRecordSubmit 1 t) s
          = .next ({ a with alm := { a.alm with appends := { x with record := b } :: rest } } : State).ancStep)
      ∧ (u.alm.buf ≠ [] → imgHas u.sil.active Sec.archivePolicy = true → room u.alm.buf.flatten →
        let a := put 5 u.alm.buf.flatten (.history u.alm.buf.length u.anc.nextSeq)
        exec (.archiveRecordSubmit 2 t) s = .next (({ a with alm := { a.alm with buf := [], firstEvent := none } } : State).histFill).ancStep)
      ∧ (∀ op rest, s.anc.ops = op :: rest →
        let g := s.blockOf op.addr
        let a := s.onAnc (fun a => { a with ops := rest })
        let b := a.putPage op.addr op.main
        (op.kind = .erase → exec (.pageProgramDone false) s = .next (a.eraseBlock g).ancStep)
        ∧ (op.kind ≠ .erase → ¬(op.kind = .journal ∧ rest.any (·.kind == .journal) = false) →
          exec (.pageProgramDone false) s = .next b.ancStep)
        ∧ (op.kind = .journal → rest.any (·.kind == .journal) = false →
          exec (.pageProgramDone false) s = .next (b.onAnc (fun x => { x with passed := x.job.isSome })).ancStep)
        ∧ (s.anc.halting = true → exec (.pageProgramDone true) s = .next (a.opLost op).ancStep ∧ exec .nandOpTimeout s = .next (a.opLost op).ancStep)
        ∧ (op.kind = .data → s.anc.halting = false →
          let f := (((a.growBad g AncCode.programFail 1).onAnc (fun x => { x with ops := x.ops.filter (·.kind != .data) })).relay g
            (op :: rest.filter (·.kind == .data))).clearBlock g
          exec (.pageProgramDone true) s = .next f.ancStep ∧ exec .nandOpTimeout s = .next f.ancStep)
        ∧ (op.kind = .erase → s.anc.halting = false →
          let f := a.growBad g AncCode.eraseFail 2
          let f := if superBlock g then f.moveSuper g else f
          exec (.pageProgramDone true) s = .next f.ancStep ∧ exec .nandOpTimeout s = .next f.ancStep))
      ∧ (∀ a, u.anc.firstAt = some a → a + msec * u.fld F.ANC_POL1.COMMIT_MS ≤ u.now →
        exec (.commitMsExpiry t) s = .next (u.onAnc (fun a => { a with wanted := true })).ancStep)
      ∧ (u.anc.job.isSome = true → u.anc.passed = true → exec (.commitInForce t) s = .next u.commitInForce.ancStep)
      ∧ (s.anc.ckPhase = 2 → s.anc.ops.any (·.kind == .checkpoint) = false →
        exec .checkpointWritten s = .next (((s.addEntry (journalEntry 7 (s.pageAddr (s.anc.ckNext.headD 0) 0) s.anc.ckCommit 0 0)).onAnc
          (fun x => { x with ckPhase := 3 })).wantCommit).ancStep)
      ∧ (s.ancState = Anc.ready → s.dmcState ≠ Dmc.frozen →
        let todo := sortBy id ((s.blocksIn (fun x => decide (3 ≤ x ∧ x ≤ 5))).filter (fun g => decide (s.fld F.ANC_PATROL.NEXT ≤ g)))
        (todo = [] →
          let a := (s.onAnc (fun a => { a with lastPass := some a.corrected })).setReg R.ANC_PATROL 0
          exec (.patrolRead flips) s = .next (a.onAnc (fun x => { x with passStart := a.arcTime, corrected := [] })).ancStep)
        ∧ (∀ g rest, todo = g :: rest →
          let r := s.readPages ((List.range s.npages).map (s.pageAddr g)) flips
          let a := (r.pages.foldl (fun a p => a.notePatrol p.1 p.2) s).notePages r.pages r.bad
          let worn := decide (a.arcTime - (a.nblk g).time > 86400 * a.fld F.ANC_POL3.RETENTION_DAYS)
          let b := if r.pages.foldl (fun m p => max m p.2) 0 > a.fld F.ANC_POL2.REFRESH_BITS ∨ worn then a.retireBlock g else a
          let z := b.setFld F.ANC_PATROL.NEXT (g + 1)
          exec (.patrolRead flips) s = .next (z.setFlag F.ANC_PATROL.BEHIND (decide ((g + 1) * (86400 * z.fld F.ANC_POL2.PATROL_DAYS)
            < (z.arcTime - z.anc.passStart) * z.totalBlocks))).ancStep))
      ∧ exec .nandZqCalibration s = .next s
      ∧ (s.ancState = Anc.flushing → s.anc.flushing = false → s.anc.ckPhase = 0 → s.anc.ops = [] → s.anc.job = none → s.anc.wanted = false →
        let z := ((s.ancLose).setFld F.ANC_STATUS.STATE Anc.off).ancVote
        exec .flushComplete s = .next (if z.unitOn .anc then z.startMount else z))
      ∧ (s.flag F.PMU_CFG.PWRFAIL_EN = true → s.flag F.PMU_STATUS.PWRFAIL = false →
        let a := ({ s with pmu := { s.pmu with pwrfailPin := true, pwrfailHold := true } } : State).repower
        exec .pwrfailAssert s = .next ((a.setFld F.PMU_STATUS.PWRFAIL 1).raise .pmu F.PMU_IRQ_STATUS.PWRFAIL).ancPwrfail)
      ∧ (s.flag F.PMU_CFG.PWRFAIL_EN = false → exec .pwrfailAssert s
        = .next (({ s with pmu := { s.pmu with pwrfailPin := true } } : State).setFld F.PMU_STATUS.PWRFAIL 0))
      ∧ (s.pmu.pwrfailPin = true →
        let a := ({ s with pmu := { s.pmu with pwrfailPin := false } } : State).setFld F.PMU_STATUS.PWRFAIL 0
        (a.ancState = Anc.halted → mount a → exec .pwrfailRelease s = .next ((a.ancLose).setFld F.ANC_STATUS.STATE Anc.mounting).ancVote)
        ∧ (a.ancState ≠ Anc.halted → exec .pwrfailRelease s = .next a))

/-- On a channel that is not BUSY: INIT sets the initial state and count 0 with code OK; GO with a length inside the
installed addresses sets BUSY, else it is refused BAD_ARG; DATA absorbs its bytes; a CFG write takes the low four bits and
re-initialises the channel when the polynomial changes. On a BUSY channel these are refused BUSY, and ABORT ends the
transfer with ABORTED after the bytes done. A transfer done with the DMC serving absorbs its range and ends with OK.
COUNT_CLR zeroes the refused count. (R381, R382, R383, R384, R385) -/
def Obligations.CheckValueUnitComplete : Prop :=
  ∀ (s : State) (src : Src) (n : Fin 8) (done : Nat) (w : Word), s.unitOn .cvu = true →
    (s.cvuBusy n = false →
        exec (.cvuInit src n) s = .next ((s.cvuSet n (crcInit (s.cvuPoly n)) 0).setFld (F.CVU_CHn_STATUS.CODE n) 0)
        ∧ (s.cvuLen n ≠ 0 → s.cvuSrc n + s.cvuLen n ≤ s.deviceTop → exec (.cvuGo src n) s
          = .next (({ s with cvu := s.cvu ++ [(n.val, s.cvuSrc n, s.cvuLen n)] } : State).setFld (F.CVU_CHn_STATUS.BUSY n) 1))
        ∧ (s.cvuLen n = 0 ∨ s.deviceTop < s.cvuSrc n + s.cvuLen n → exec (.cvuGo src n) s = .next (s.cvuRefuse n CvuCode.badArg))
        ∧ exec (.cvuDataWrite src n w) s
          = .next (s.cvuAbsorb n (leBytes (s.fld (F.CVU_CHn_CFG.DATA_BYTES n) + 1) w.toNat))
        ∧ (let a := s.setReg (R.CVU_CHn_CFG n) (w &&& 0xF)
          exec (.cvuCfgWrite src n w) s = .next (if a.cvuPoly n = s.cvuPoly n then a else a.cvuSet n (crcInit (a.cvuPoly n)) 0)))
      ∧ (s.cvuBusy n = true →
        let j := s.cvuJob n
        let ended (a : State) (code : Nat) : State :=
          let b := ((({ a with cvu := a.cvu.filter (·.1 ≠ n.val) } : State).setFld (F.CVU_CHn_STATUS.BUSY n) 0).setFld
            (F.CVU_CHn_STATUS.CODE n) code)
          if code = 0 then b.cvuRaise n else (b.logAt (fixedPath .cvu) code).cvuRaise (8 + n)
        exec (.cvuInit src n) s = .next (s.cvuRefuse n CvuCode.busy)
        ∧ (min done j.2 = 0 → exec (.cvuAbort src n done) s = .next (ended s CvuCode.aborted))
        ∧ (∀ a bs, min done j.2 ≠ 0 → s.dmcServes = true → s.dramRead (fixedPath .cvu) 5 j.1 (min done j.2) = (a, some bs) →
          exec (.cvuAbort src n done) s = .next (ended (a.cvuAbsorb n bs) CvuCode.aborted))
        ∧ (∀ a bs, s.dmcServes = true → s.dramRead (fixedPath .cvu) 5 j.1 j.2 = (a, some bs) → (a.cvuAbsorb n bs).dmcServes = true →
          exec (.cvuTransferDone n) s = .next (ended (a.cvuAbsorb n bs) 0)))
      ∧ exec (.cvuCountClr src) s = .next (s.setReg R.CVU_REFUSED 0)

/-- A TIME_SET request of its MODE sets the scale at the next sample, arms it for the next PPS edge on a whole second, or
cancels; a value that is no whole second is refused BAD_CONFIG. COUNT_CLR zeroes the TTU counts. With PPS enabled a first
edge of its direction, and one within the window of a second after the last accepted, is accepted, another is counted as
rejected. Missing edges and lost REFCLK windows lose the reference; HOLD_LIMIT is reported when holdover has lasted; a PPS
pulse begins at the first fast sample of a second; an hour of operation passes the oscillator offset to the ALM. (R390,
R391, R392, R395, R396, R397, R398) -/
def Obligations.TimeBaseComplete : Prop :=
  ∀ (s : State) (v : Via) (src : Src) (stamp t freq : Nat) (steer : Int) (falling : Bool),
    let u := s.at_ t
    let p := s.at_ (5 * stamp / 2048)
    let acc : Prop := match v with | .reg _ => True | .msg o seq => (s.requestOf o seq [0x0303]).isSome = true
    let mode (n : Nat) : Prop := match v with | .reg _ => True | .msg _ _ => field (s.payload v) 0 1 = n
    let set : State := match v with | .reg _ => s | .msg _ _ => s.setReg64 R.TTU_SET_LO R.TTU_SET_HI (field (s.payload v) 8 8)
    (acc →
        (mode 0 → exec (.setNow v) s = .next ((((set.setFlag F.TTU_STATUS.SET_PENDING false).stepScale
          (2560 * ((set.reg64 R.TTU_SET_LO R.TTU_SET_HI : Nat) : Int) - 2048 * ((set.now : Int) + 1)) (set.now + 1)).lockBit 3 true).reply v .ttu 0 0))
        ∧ (mode 1 → set.reg64 R.TTU_SET_LO R.TTU_SET_HI % 1000000000 = 0 →
          exec (.setAtPps v) s = .next ((set.setFlag F.TTU_STATUS.SET_PENDING true).finish v .ttu 0 0))
        ∧ (mode 1 → set.reg64 R.TTU_SET_LO R.TTU_SET_HI % 1000000000 ≠ 0 →
          exec (.setAtPps v) s = .next (set.finish v .ttu TtuCode.badConfig 5))
        ∧ (mode 2 → exec (.cancelSet v) s = .next ((s.setFlag F.TTU_STATUS.SET_PENDING false).finish v .ttu 0 0)))
      ∧ exec (.ttuCountClr src) s = .next s.ttuCountClr
      ∧ (p.flag F.TTU_REF_CFG.PPS_EN = true → falling = p.flag F.TTU_REF_CFG.PPS_EDGE →
        ((∀ a, p.ttu.ppsLast = some a → a + ppsSecond - ppsWindow ≤ stamp ∧ stamp ≤ a + ppsSecond + ppsWindow) →
          let a : State := { p with ttu := { p.ttu with ppsLast := some stamp, ppsRun := min 4 (p.ttu.ppsRun + 1) } }
          exec (.ppsInEdge stamp falling steer) s = .next (p.ppsAccept stamp steer)
          ∧ (p.flag F.TTU_STATUS.SET_PENDING = false → p.ppsOk = false → p.ttu.ppsRun + 1 < 4 →
            let e := a.phaseError stamp
            let b := a.setReg R.TTU_PHASE_ERR (w32 (unsigned 32 (satInt 32 e)))
            exec (.ppsInEdge stamp falling steer) s = .next { b with ttu := { b.ttu with
              ppsGood := if e.natAbs ≤ 20 * 512 then min 4 (b.ttu.ppsGood + 1) else 0
              ppsBad := if 100 * 512 < e.natAbs then min 3 (b.ttu.ppsBad + 1) else 0 } }))
        ∧ ∀ a, p.ttu.ppsLast = some a → stamp < a + ppsSecond - ppsWindow ∨ a + ppsSecond + ppsWindow < stamp →
          exec (.ppsInEdge stamp falling steer) s
            = .next (({ p with ttu := { p.ttu with ppsRun := 0 } } : State).count F.TTU_PPS_REJECT.COUNT 1))
      ∧ (∀ a, u.ttu.ppsLast = some a → 5 * (a + 3 * ppsSecond + ppsWindow) ≤ 2048 * t → exec (.ppsMissing t) s = .next u.ppsLose)
      ∧ (u.flag F.TTU_REF_CFG.REF_EN = true →
        let err := u.refError freq
        (100000000 < err.natAbs → exec (.refclkWindow freq steer t) s = .next u.refLose)
        ∧ (err.natAbs ≤ 100000000 → u.refOk = false → u.ttu.refRun + 1 < 16 →
          exec (.refclkWindow freq steer t) s = .next { u with ttu := { u.ttu with refRun := u.ttu.refRun + 1 } })
        ∧ (err.natAbs ≤ 100000000 → u.refOk = true → u.ttu.winCount + 1 < 1000 →
          let a := ({ u with ttu := { u.ttu with refRun := min 16 (u.ttu.refRun + 1) } } : State).steerTo (steer + u.ttu.slew)
          exec (.refclkWindow freq steer t) s = .next { a with ttu := { a.ttu with
            winSum := a.ttu.winSum + err, winCount := a.ttu.winCount + 1
            steerSum := a.ttu.steerSum + signed 32 (a.reg R.TTU_FREQ_OFFSET).toNat } }))
      ∧ exec (.refclkTimeout t) s = .next u.refLose
      ∧ (∀ a, u.ttu.holdSince = some a → a + 60 * 1250000000 * u.fld F.TTU_HOLD_CFG.LIMIT ≤ t → exec (.holdLimit t) s
        = .next (((u.lockBit 5 true).post .ttu TtuCode.holdLimit 0).raise .ttu F.TTU_IRQ_STATUS.HOLD_LIMIT))
      ∧ (u.flag F.TTU_PPS_CFG.OUT_EN = true → u.scaleAt (2048 * t) % 2560000000000 < 2048 →
        exec (.ppsOutPulse t) s = .next { u with ttu := { u.ttu with ppsOut := some (t + 12500 * u.fld F.TTU_PPS_CFG.WIDTH) } })
      ∧ (3600 ≤ s.ttu.oscSecs → exec .oscOffsetReport s = .next { s with
          ttu := { s.ttu with oscSecs := 0 }, alm := { s.alm with osc := some (signed 32 (s.reg R.TTU_OSC_OFFSET).toNat) } })

/-- With CORE on: an armed channel past its hold-off stamps an edge it takes, one inside the hold-off is counted, an edge
while not armed only marks a gap, one of the direction not selected does nothing. A channel at its active level too long
becomes STUCK, disarmed, counted and reported, and the returning edge re-arms it unstamped. An HF window stores its
frequency and either reports OVERRANGE or stamps its edges. A slot arm write, queue reads, interval-unit configuration, mean
and count reads, an expired window and the TDC calibration act as stated. (R400, R401, R402, R403, R404, R405, R406, R407,
R411) -/
def Obligations.StampChannelsComplete : Prop :=
  ∀ (s : State) (src : Src) (c : Fin 4) (c8 : Fin 8) (q : Fin 12) (w3 : Fin 3) (uu : Fin 4) (falling gate ungated : Bool)
      (stamp t : Nat) (edges : List (Nat × Bool)) (w : Word), s.domOn 1 = true →
    let e := ((s.at_ (5 * stamp / 2048)).evLevel c.val falling stamp).slotSettle c.val stamp
    let a := e.showArmed c.val stamp gate
    let u := s.at_ t
    (e.domOn 1 = true →
        ((e.chan c.val).stuck = true → e.evActive c.val (!falling) = false → exec (.evEdge c falling stamp gate ungated) s = .next
          ((((e.chanGap c.val).modChan c.val (fun x => { x with stuck := false })).setFlag (F.TTU_CHc_STATUS.STUCK c.val) false).showArmed
            c.val stamp gate))
        ∧ ((e.chan c.val).stuck = false → ¬(a.fld (F.TTU_CHc_CFG.ARM_MODE c.val) = 2 ∧ ungated = true) →
          (a.armedAt c.val stamp gate = false → exec (.evEdge c falling stamp gate ungated) s = .next (a.chanGap c.val))
          ∧ (a.armedAt c.val stamp gate = true →
            (a.edgeTaken c.val falling = false → exec (.evEdge c falling stamp gate ungated) s = .next a)
            ∧ (∀ p, a.edgeTaken c.val falling = true → (a.chan c.val).last = some p → stamp < p + 512 * a.fld (F.TTU_CHc_TIMING.HOLDOFF c.val) →
              exec (.evEdge c falling stamp gate ungated) s = .next (a.count (F.TTU_CHc_HOLDOFF_COUNT.COUNT c.val) 1))
            ∧ ((∀ p, (a.chan c.val).last = some p → p + 512 * a.fld (F.TTU_CHc_TIMING.HOLDOFF c.val) ≤ stamp) → a.edgeTaken c.val falling = true →
              exec (.evEdge c falling stamp gate ungated) s = .next (a.chanStamp c.val stamp falling)))))
      ∧ (e.domOn 1 = false → exec (.evEdge c falling stamp gate ungated) s = .next (e.chanGap c.val))
      ∧ (u.domOn 1 = true → u.fld (F.TTU_CHc_TIMING.STUCK_US c.val) ≠ 0 → (u.chan c.val).stuck = false →
        u.evActive c.val (u.flag (F.TTU_CHc_STATUS.LEVEL c.val)) = true →
        5 * ((u.chan c.val).edgeAt + 512000 * u.fld (F.TTU_CHc_TIMING.STUCK_US c.val)) < 2048 * t →
        exec (.stuck c t) s = .next (((((((u.chanGap c.val).modChan c.val (fun x => { x with stuck := true })).iuDisarm c.val).setFlag
          (F.TTU_CHc_STATUS.STUCK c.val) true).setFlag (F.TTU_CHc_STATUS.ARMED c.val) false).count
          (F.TTU_CHc_EVENT_COUNT.STUCK c.val) 1).post .ttu TtuCode.stuck c.val |>.raise .ttu F.TTU_IRQ_STATUS.STUCK))
      ∧ (u.domOn 1 = true →
        let h := 4 + c.val
        let n := edges.length
        let b := u.setReg (R.TTU_CHc_HF_FREQ h) (w32 (1000 * n))
        let limit := min 4000 (250 * 2 ^ b.fld (F.TTU_CHc_CFG.DIV h))
        let z := b.setFlag (F.TTU_CHc_STATUS.OVERRANGE h) (decide (limit < n))
        (limit < n → exec (.hfWindow c edges t) s = .next
          (((((z.modChan h (fun x => { x with div := (x.div + n) % 2 ^ z.fld (F.TTU_CHc_CFG.DIV h) })).chanGap h).count
            (F.TTU_CHc_EVENT_COUNT.OVERRANGE h) 1).post .ttu TtuCode.overrange h).raise .ttu F.TTU_IRQ_STATUS.OVERRANGE))
        ∧ (n ≤ limit → exec (.hfWindow c edges t) s = .next (edges.foldl (State.hfEdge h) z)))
      ∧ exec (.ttuArm src w) s = .next (s.ttuArmWrite w.toNat)
      ∧ exec (.stampQueueRead src q w3) s = .next ((s.queueWord q.val w3.val).1.give
          (.readData (queueOff q.val w3.val) (s.queueWord q.val w3.val).2.toNat))
      ∧ exec (.iuCfgWrite src uu true w) s = .next ((s.setReg (R.TTU_IUu_N uu.val) (w &&& 0xFFFFFF)).modIu uu.val TtuUnit.clearBlock)
      ∧ (iuCfgBad w = false → exec (.iuCfgWrite src uu false w) s
        = .next ((s.setReg (R.TTU_IUu_CFG uu.val) (w &&& 0x1FF)).modIu uu.val TtuUnit.clearBlock))
      ∧ (iuCfgBad w = true → exec (.iuCfgWrite src uu false w) s
        = .next (s.post .ttu TtuCode.badConfig ((R.TTU_IUu_CFG uu.val - 0xE00000) / 4)))
      ∧ exec (.iuMeanRead src uu) s = .next ((s.setFlag (F.TTU_IUu_STATUS.FROZEN uu.val) true).give
          (.readData (R.TTU_IUu_MEAN_LO uu.val) (s.reg (R.TTU_IUu_MEAN_LO uu.val)).toNat))
      ∧ exec (.iuCountRead src uu) s = .next ((s.iuCountRead uu.val).give (.readData (R.TTU_IUu_COUNT uu.val) (s.reg (R.TTU_IUu_COUNT uu.val)).toNat))
      ∧ (let win := 512 * s.fld (F.TTU_IUu_WINDOW.NS uu.val)
        let old (x : Nat) : Bool := decide (x + win < stamp)
        let gone := ((s.iu uu.val).starts.filter old).length + ((s.iu uu.val).stops.filter old).length
        win ≠ 0 → gone ≠ 0 → exec (.iuWindowExpiry uu stamp) s = .next (((s.modIu uu.val (fun x => { x with
          starts := x.starts.filter (fun y => !old y), stops := x.stops.filter (fun y => !old y), gap := true })).count
          (F.TTU_IUu_EXPIRED.COUNT uu.val) gone).post .ttu TtuCode.expired uu.val))
      ∧ ((s.chan c8.val).calibrated = false → (s.chan c8.val).calFailed = false →
        exec (.tdcCalibration c8 true) s
            = .next ((s.modChan c8.val (fun x => { x with calibrated := true })).showArmed c8.val (sampleStamp s.now) false)
          ∧ exec (.tdcCalibration c8 false) s = .next (((s.modChan c8.val (fun x => { x with calFailed := true })).post .ttu TtuCode.calFail c8.val).raise .ttu F.TTU_IRQ_STATUS.CAL_FAIL))

/-- While SCANNING with a result in progress, a conversion that is settled, not blanked and within range adds to its phase;
a comparison with the reference begins when due. An excitation below 10 or above 1000 microamperes, other than 0, is refused
BAD_CONFIG; another takes effect at once in a measurement of its channel, else it is kept. PAUSE, RESUME, CAL_REQ, FAULT_CLR
and COUNT_CLR act by state; a calibration within limits raises CAL_DONE and the scan starts, one beyond them faults. Sixteen
mains periods within limits lock; a missing edge ends the lock. (R416, R417, R418, R425, R427, R428) -/
def Obligations.VernierComplete : Prop :=
  ∀ (s : State) (src : Src) (c : Fin 8) (w : Word) (code : Int) (offsets gains : List Int) (t : Nat),
    let u := s.at_ t
    let x := w.toNat % 2048
    let f := u.setFld (F.VPF_CHc_EXC.MICROAMP c) x
    s.unitOn .vpf = true → u.unitOn .vpf = true →
      (∀ r, u.vpfState = Vpf.scanning → u.vpf.res = some r →
        let a := u.onVpf (fun v => { v with lastConv := t, scanned := v.scanned + (t - v.lastConv) })
        let q := satInt 24 code
        (t ≤ r.switchAt + (3 + a.fld F.VPF_CFG.EXTRA) * (500 * r.conv) →
          exec (.vpfConversion code false t) s = .next ((a.count F.VPF_DISCARD.COUNT 1).onVpf (fun v => { v with res := some r })))
        ∧ (r.switchAt + (3 + a.fld F.VPF_CFG.EXTRA) * (500 * r.conv) < t → a.vpfBlank (t - 3 * (500 * r.conv)) t = false →
          100 * q.natAbs ≤ 95 * 2 ^ 23 → r.n + 1 < 2 ^ a.fld F.VPF_CFG.NAVG_EXP →
          exec (.vpfConversion code false t) s = .next (a.onVpf (fun v => { v with res := some { r with
            low := r.low && decide (fNat q.natAbs * vpfScale r.range < 0.8 * vpfScale (r.range + 1) * 8388608.0)
            n := r.n + 1, sum := r.sum + q } }))))
      ∧ (x ≠ 0 → x < 10 ∨ 1000 < x → exec (.vpfExcWrite src c w t) s = .next (u.post .vpf VpfCode.badConfig c))
      ∧ (x = 0 ∨ (10 ≤ x ∧ x ≤ 1000) →
        (f.vpf.res = none → exec (.vpfExcWrite src c w t) s = .next f)
        ∧ ∀ r, f.vpf.res = some r →
          (¬(r.chan = c.val ∧ f.vpfState = Vpf.scanning) → exec (.vpfExcWrite src c w t) s = .next f)
          ∧ (r.chan = c.val → f.vpfState = Vpf.scanning → exec (.vpfExcWrite src c w t) s = .next (f.onVpf (fun v => { v with
            res := some { r with switchAt := t, n := 0, sum := 0, exc := x, flags := r.flags ||| Vf.settling } }))))
      ∧ (s.vpfState = Vpf.scanning → exec (.pause src) s = .next (s.onVpf (fun v => { v with pausing := true })))
      ∧ (∀ k, s.vpfState = Vpf.paused → s.vpfNext 0 = some k → exec (.vpfResume src) s
        = .next (((s.vpfEnter Vpf.scanning).onVpf (fun v => { v with lastConv := s.now, pausing := false })).vpfBegin k s.now))
      ∧ (s.vpfState = Vpf.calibrating ∨ s.vpfState = Vpf.scanning → exec (.vpfCalReq src) s = .next (s.post .vpf VpfCode.busy 0))
      ∧ (s.vpfState ≠ Vpf.off → s.vpfState ≠ Vpf.calibrating → s.vpfState ≠ Vpf.scanning →
        exec (.vpfCalReq src) s = .next (s.vpfEnter Vpf.calibrating))
      ∧ (s.vpfState = Vpf.fault → exec (.vpfFaultClr src) s = .next ((s.vpfEnter Vpf.calibrating).show .vpf 0 0))
      ∧ exec (.vpfCountClr src) s = .next (s.setReg R.VPF_DISCARD 0)
      ∧ (u.vpfState = Vpf.calibrating →
        let a := u.raise .vpf F.VPF_IRQ_STATUS.CAL_DONE
        let pass : Prop := (∀ z ∈ offsets, z.natAbs ≤ 1000) ∧ ∀ z ∈ gains, (z - 1000000).natAbs ≤ 10000
        (pass → a.vpfChecks = none →
          (∀ k, a.vpfNext 0 = some k → exec (.vpfCalibrationDone offsets gains t) s
            = .next (((a.vpfEnter Vpf.scanning).onVpf (fun v => { v with lastConv := t, pausing := false })).vpfBegin k t))
          ∧ (a.vpfNext 0 = none → exec (.vpfCalibrationDone offsets gains t) s = .next (a.vpfEnter Vpf.idle)))
        ∧ (∀ d, pass → a.vpfChecks = some d → exec (.vpfCalibrationDone offsets gains t) s = .next (a.vpfFault VpfCode.badConfig d))
        ∧ (¬pass → exec (.vpfCalibrationDone offsets gains t) s = .next (u.vpfFault VpfCode.calFail 0)))
      ∧ (let m := u.mainsAge t
        m.unitOn .vpf = true → 2 ≤ m.fld F.VPF_CFG.MAINS_MODE →
        (m.vpf.mainsLast = none → exec (.mainsSyncEdge t) s = .next (m.onVpf (fun v => { v with mainsLast := some t })))
        ∧ ∀ a, m.vpf.mainsLast = some a →
          let b := m.onVpf (fun v => { v with mainsLast := some t, mains := ((t - a) :: v.mains).take 16 })
          let z := b.setFld F.VPF_MAINS.PERIOD (roundDiv (b.vpf.mains.sum : Nat) 8000).toNat
          (b.vpf.mains.length < 16 → exec (.mainsSyncEdge t) s = .next b)
          ∧ (b.vpf.mains.length = 16 → (∀ y ∈ b.vpf.mains, 17875000 ≤ y ∧ y ≤ 31250000) → z.flag F.VPF_STATUS.MAINS_LOCK = false →
            exec (.mainsSyncEdge t) s = .next ((z.setFlag F.VPF_STATUS.MAINS_LOCK true).raise .vpf F.VPF_IRQ_STATUS.MAINS_CHANGE))
          ∧ (b.vpf.mains.length = 16 → b.flag F.VPF_STATUS.MAINS_LOCK = false → (∃ y ∈ b.vpf.mains, y < 17875000 ∨ 31250000 < y) →
            exec (.mainsSyncEdge t) s = .next b)
          ∧ (b.vpf.mains.length = 16 → b.flag F.VPF_STATUS.MAINS_LOCK = true → z.flag F.VPF_STATUS.MAINS_LOCK = true →
            exec (.mainsSyncEdge t) s = .next z))
      ∧ (∀ a, u.vpf.mainsLast = some a → a + 100 * msec ≤ t →
        let b := u.onVpf (fun v => { v with mainsLast := none, mains := [] })
        (b.flag F.VPF_STATUS.MAINS_LOCK = true → exec (.mainsTimeout t) s
          = .next ((b.setFlag F.VPF_STATUS.MAINS_LOCK false).raise .vpf F.VPF_IRQ_STATUS.MAINS_CHANGE))
        ∧ (b.flag F.VPF_STATUS.MAINS_LOCK = false → exec (.mainsTimeout t) s = .next b))
      ∧ ((∀ a, u.vpf.mainsLast = some a → t < a + 100 * msec) → exec (.mainsTimeout t) s = .next u)
      ∧ (u.vpfState = Vpf.scanning → u.vpf.res = none → u.fld F.VPF_CFG.REF_SRC = 0 → 3600 * second ≤ u.vpf.scanned →
        exec (.referenceComparison t) s = .next ((u.onVpf (fun v => { v with scanned := 0 })).vpfBegin 8 u.now))

/-- A host transaction of up to 32 bytes waits on the bus while fewer than four are held; a longer one or one in FAULT is
refused BAD_CONFIG, a fifth BUSY. SAFE in INIT or RUNNING takes every device out of service, enters SAFE and broadcasts it;
RESUME from SAFE, and FAULT_CLR in FAULT when the check passes, enter INIT anew. COUNT_CLR zeroes the error counts. A status
poll and the reads after a diagnostic pulse queue their transactions. An accepted response ends the transaction in progress
with its effect, a bad one is counted; a timeout counts and repeats the request. (R433, R434, R436, R437, R440, R442, R443)
-/
def Obligations.DriverLinkComplete : Prop :=
  ∀ (s : State) (v : Via) (src : Src) (d : Fin 32) (t : Nat) (bytes : List (BitVec 8)),
    let u := s.at_ t
    let own (x : DlkTx) : Bool := match x.kind with | .host _ => true | _ => false
    let reg : Bool := match v with | .reg _ => true | .msg _ _ => false
    let a := if reg then s.fld F.DLK_HOST_REQ.ADDR else field (s.payload v) 0 1
    let cmd := if reg then s.fld F.DLK_HOST_REQ.CMD else field (s.payload v) 1 1
    let len := if reg then s.fld F.DLK_HOST_REQ.LEN else field (s.payload v) 2 1
    let data := if reg then (List.range 8).flatMap (fun i => leBytes 4 (s.reg (R.DLK_HOST_DATAi i)).toNat) else (s.payload v).drop 4
    let held := (s.dlk.due.filter own).length + (match s.dlk.busy with | some (x, _) => if own x then 1 else 0 | none => 0)
    (s.takesUp v [0x0903] .dlk = true →
        (len ≤ 32 → s.dlkState ≠ Dlk.fault → held < 4 → exec (.dlkTransact v) s
          = .next (((s.setFld F.DLK_HOST_RESULT.BUSY 1).dlkPush ⟨5, a, cmd, fitBytes len data, .host v⟩).dlkRun))
        ∧ (32 < len ∨ s.dlkState = Dlk.fault → exec (.dlkTransact v) s = .next (s.finish v .dlk DlkCode.badConfig a))
        ∧ (len ≤ 32 → s.dlkState ≠ Dlk.fault → 4 ≤ held → exec (.dlkTransact v) s = .next (s.finish v .dlk DlkCode.busy a)))
      ∧ (s.unitOn .dlk = true →
        (s.dlkState = Dlk.fault → exec (.safe src) s = .next (s.dlkPush ⟨1, 0, DlkCmd.safe, [], .own⟩).dlkRun)
        ∧ (s.dlkState = Dlk.init ∨ s.dlkState = Dlk.running →
          exec (.safe src) s = .next (((((s.onDlk (fun d => { d.giveUp with
            due := d.due.filter own, devs := d.devs.map (fun x => (x.1, { x.2 with target := none, inService := false })) })).setFld
            F.DLK_STATUS.STATE Dlk.safe).dlkVote).dlkPush ⟨1, 0, DlkCmd.safe, [], .own⟩).dlkRun.dlkShowAll))
        ∧ (s.dlkState = Dlk.safe → exec (.dlkResume src) s = .next s.dlkInit)
        ∧ (s.dlkState = Dlk.fault → s.dlkCheck = none → exec (.dlkFaultClr src) s = .next ((s.show .dlk 0 0).dlkInit))
        ∧ (∀ x, s.dlkState = Dlk.fault → s.dlkCheck = some x → exec (.dlkFaultClr src) s = .next (s.post .dlk DlkCode.badConfig x))
        ∧ exec (.dlkCountClr src) s = .next ((List.range 32).foldl (fun b a => if a = 0 then b else b.setReg (R.DLK_DEVd_COUNT a) 0)
          (s.setReg R.DLK_ERR_COUNT 0)))
      ∧ (u.dlkState = Dlk.init ∨ u.dlkState = Dlk.running → ∀ y, u.dlkDev d = some y →
        (∀ x ∈ u.dlk.due, x.addr ≠ d.val) → u.dlk.busy = none →
        (y.polled + u.fld F.DLK_CFG.POLL_US * usec ≤ u.now → exec (.statusPoll d t) s
          = .next (((u.dlkMod d (fun x => { x with polled := u.now })).dlkPush ⟨4, d, DlkCmd.status, [], .poll⟩).dlkRun))
        ∧ (u.now < y.polled + u.fld F.DLK_CFG.POLL_US * usec → exec (.statusPoll d t) s = .next u))
      ∧ (∀ f, u.dlkState = Dlk.init ∨ u.dlkState = Dlk.running → u.cur = some f → f.diag = true → f.real = true → f.launch + usec ≤ u.now →
        let short (x : Nat × DlkDevSt) : Bool := match u.dlkEntry x.1 with
          | some d => x.2.inService && d.gate != 0xFF && decide (u.fld (F.PGU_GATEn_WIDTH.WIDTH d.gate) < 125) && u.dlkDiag x.1
          | none => false
        exec (.postDiagRead t) s = .next ((((u.dlk.devs.filter short).map (·.1)).foldl (fun b a => (b.onDlk (fun d => { d with
          due := d.due.filter (fun x => !(x.addr == a && x.kind == .poll)) })).dlkPush ⟨3, a, DlkCmd.status, [], .diag⟩) u).dlkRun))
      ∧ (∀ x fr k, u.dlk.busy = some (x, fr, k) →
        let back := match u.dlkDev x.addr with | some y => !y.mismatch && (y.noResp || (!y.inService && y.tried)) | none => false
        let entering := match x.kind with | .entry _ => true | _ => false
        let e := ((u.onDlk (fun d => { d with busy := none, free := u.now + 250 })).dlkMod x.addr (fun y => { y with fails := 0, noResp := false })).dlkEffect
          x (field bytes 1 1) ((bytes.drop 4).take (field bytes 3 1))
        (dlkFrameOk bytes = false → exec (.dlkResponse bytes t) s = .next (u.count F.DLK_ERR_COUNT.CRC 1))
        ∧ (dlkFrameOk bytes = true → field bytes 0 1 = 128 + x.addr → field bytes 2 1 = field fr 2 1 →
          exec (.dlkResponse bytes t) s = .next ((((if back && !entering && u.dlkServes then e.dlkEnter x.addr else e).dlkShow x.addr).dlkTried).dlkRun))
        ∧ (u.dlk.driveTo + 4 * usec ≤ u.now → k < u.fld F.DLK_CFG.RETRIES → u.dlkState ≠ Dlk.fault → exec (.dlkResponseTimeout t) s
          = .next (((u.count F.DLK_ERR_COUNT.TIMEOUT 1).dlkSend fr).onDlk (fun d => { d with busy := some (x, fr, k + 1) })))
        ∧ (u.now < u.dlk.driveTo + 4 * usec → exec (.dlkResponseTimeout t) s = .next u))

/-- A host vote by register takes effect; by message it merges DOMAINS and STATES and answers the vote in force. A unit's
vote for a domain other than AO is cast and targets are formed anew. A completed step ends; a quiet DMC port is released.
The off-access log is read word by word: word 0 latches the oldest entry, word 3 removes it; it clears, and the step and
lost counts clear. (R448, R452, R455, R457, R449) -/
def Obligations.PowerCommandsComplete : Prop :=
  ∀ (s : State) (o : Origin) (seq : Word) (src : Src) (w : Word) (voter : Fin 96) (d : Fin 13) (vt w4 : Fin 4) (t : Nat),
    let u := s.at_ t
    let m : Via := .msg o seq
    exec (.powerVote (.reg src) w) s = .next (s.hostVote w.toNat)
      ∧ ((s.requestOf o seq [0x0304]).isSome = true →
        let a := s.hostVote (mergeVote (s.fld F.PMU_HOST_VOTE.VOTE) (field (s.payload m) 0 4) (field (s.payload m) 4 4))
        exec (.powerVote m w) s = .next (a.finish m .pmu 0 0 (leBytes 4 (a.voteWord 0).toNat ++ zeros 4)))
      ∧ (d.val ≠ 0 → ownerOf voter.val ≠ 8 → exec (.unitVote voter d vt) s = .next (s.castVote voter.val d.val vt.val).repower)
      ∧ (d.val ≠ 0 → u.flag (F.PMU_DOMd_STATUS.BUSY d.val) = true → exec (.powerStepComplete d t) s = .next (u.stepDone d.val))
      ∧ (u.pmu.dmcPortHold = true → u.dmc.waiting = [] →
        (∀ x ∈ u.dmc.lastReq, x.2 + u.fld F.PMU_CFG.DMC_IDLE_US * usec ≤ u.now) →
        exec (.dmcPortRelease t) s = .next ({ u with pmu := { u.pmu with dmcPortHold := false } } : State).repower)
      ∧ exec (.offlogRead src w4) s = .next ((s.offlogWord w4.val).1.give (.readData (R.PMU_OFFLOG_W0 + 4 * w4.val) (s.offlogWord w4.val).2.toNat))
      ∧ exec (.pmuCountClr src) s = .next ((List.range 13).foldl (fun a d => a.setFld (F.PMU_DOMd_STATUS.STEPS d) 0)
          (s.setFld F.PMU_OFFLOG_STAT.LOST 0))
      ∧ exec (.offlogClr src) s = .next { s with pmu := { s.pmu with offlog := [], offLatch := [] } }

/-- A tail write inside its open ring reads the new slots with bus mastering, without it is kept as the latest doorbell; a
head write returns completion slots, writes the held answers and reads on; outside the ring either is a MALFORMED violation.
SESSION_OPEN takes the lowest free number and answers it, or CAPACITY when none is free. Closing or reopening an open
session does so and answers OK, of one not open BAD_STATE, closing session 0 by message BAD_ARG. Session 0 opens from its
registers where they are in range. Enabling bus mastering delivers unmasked pending vectors and reads the kept doorbells;
unmasking a vector delivers a pending one. (R465, R466, R468, R470, R471, R475) -/
def Obligations.SessionsComplete : Prop :=
  ∀ (s : State) (o : Origin) (seq : Word) (src : Src) (n : Fin 256) (tail head : Fin 4096) (slots : List (List Byte))
      (many : List (List (List Byte))) (v : Fin 64),
    let m : Via := .msg o seq
    let p := s.payload m
    let k := field p 0 1
    (s.unitOn .hif = true →
        (∀ x, s.session n.val = some x →
          let size := 2 ^ x.cqLog2
          let k := (tail.val + 2 ^ x.sqLog2 - x.sqTail) % 2 ^ x.sqLog2
          let new := ((slots ++ List.replicate k (zeros 64)).take k).map (fitBytes 64)
          (s.hif.busMaster = true → tail.val < 2 ^ x.sqLog2 → exec (.sqTailWrite n tail slots) s
            = .next (State.readSlots n (x.unread ++ new) (s.setSession n { x with sqTail := tail.val, unread := [] })))
          ∧ (s.hif.busMaster = true → 2 ^ x.sqLog2 ≤ tail.val → exec (.sqTailWrite n tail slots) s = .next (s.violate n .malformed 0 x.expect 0))
          ∧ (head.val < size → exec (.cqHeadWrite n head) s = .next ((State.flushAnswers n x.heldAnswers (s.setSession n { x with
            cqUsed := (x.cqTail + size - head.val) % size, heldAnswers := [] })).resumeSession n))
          ∧ (size ≤ head.val → exec (.cqHeadWrite n head) s = .next (s.violate n .malformed 0 x.expect 0))
          ∧ exec (.sessionReopen (.reg src) n) s = .next (((s.setSession n { x with
            expect := s.reg R.HIF_SESS_NEXT, hist := [], quarantined := false }).resumeSession n).post .hif 0 n.val))
        ∧ (s.hif.busMaster = false → exec (.sqTailWrite n tail slots) s = .next { s with hif := { s.hif with
            doorbells := s.hif.doorbells.filter (fun d => d.1 != n.val) ++ [(n.val, tail.val)] } })
        ∧ (let sq := s.reg64 R.HIF_S0_SQ_LO R.HIF_S0_SQ_HI
          let cq := s.reg64 R.HIF_S0_CQ_LO R.HIF_S0_CQ_HI
          let f := s.fld
          sessionOk sq cq (f F.HIF_S0_CFG.SQ_LOG2) (f F.HIF_S0_CFG.CQ_LOG2) (f F.HIF_S0_CFG.WINDOW) (f F.HIF_S0_CFG.VECTOR) = true →
            (s.session 0 = none → exec (.session0Open src 0) s = .next ((s.openSession 0 sq cq (f F.HIF_S0_CFG.SQ_LOG2)
              (f F.HIF_S0_CFG.CQ_LOG2) (f F.HIF_S0_CFG.WINDOW) (f F.HIF_S0_CFG.VECTOR)).post .hif 0 0))
            ∧ ((s.session 0).isSome = true → exec (.session0Open src 0) s = .next (s.post .hif HifCode.badState 0)))
        ∧ (n ≠ 0 → exec (.session0Open src n) s = .next (s.post .hif HifCode.badArg n.val))
        ∧ ((s.session n.val).isSome = true → exec (.sessionClose (.reg src) n) s = .next ((s.closeSession n.val).post .hif 0 n.val))
        ∧ ((s.session n.val).isNone = true → exec (.sessionClose (.reg src) n) s = .next (s.post .hif HifCode.badState n.val)
          ∧ exec (.sessionReopen (.reg src) n) s = .next (s.post .hif HifCode.badState n.val))
        ∧ (let a (on mask : Bool) : State := { s with hif := { s.hif with busMaster := true, msixOn := on, msixMask := mask, doorbells := [] } }
          (∀ on mask, on = false ∨ mask = true → exec (.busMasterEnable on mask many) s
            = .next (State.ringDoorbells s.hif.doorbells many (a on mask)))
          ∧ exec (.busMasterEnable true false many) s = .next (State.ringDoorbells s.hif.doorbells many
            ((List.range 64).foldl (fun (b : State) i =>
              if bitAt (b.reg (R.MSIX_PBAi (i / 32))).toNat (i % 32) && !b.flag (F.MSIX_TABLEv_CONTROL.MASK i) then
                (b.setReg (R.MSIX_PBAi (i / 32)) (b.reg (R.MSIX_PBAi (i / 32)) &&& ~~~((1 : Word) <<< (i % 32)))).signal i
              else b) (a true false))))
        ∧ (let a := s.setFld (F.MSIX_TABLEv_CONTROL.MASK v.val) 0
          let r := R.MSIX_PBAi (v.val / 32)
          let due := bitAt (a.reg r).toNat (v.val % 32) && a.hif.msixOn && !a.hif.msixMask
          (due = true → exec (.msixUnmask v) s = .next ((a.setReg r (a.reg r &&& ~~~((1 : Word) <<< (v.val % 32)))).signal v.val))
          ∧ (due = false → exec (.msixUnmask v) s = .next a)))
      ∧ (s.takesUp m [0x0102] .hif = true →
        (k = 0 → exec (.sessionClose m n) s = .next (s.answer o seq HifCode.badArg Unit.hif.top k []))
        ∧ (k ≠ 0 → (s.session k).isSome = true →
          exec (.sessionClose m n) s = .next ((s.closeSession k).answer o seq 0 Unit.hif.top k [])))
      ∧ (∀ x, s.takesUp m [0x0103] .hif = true → s.session k = some x → k < 256 →
        exec (.sessionReopen m n) s = .next (((s.setSession k { x with
          expect := w32 (field p 4 4), hist := [], quarantined := false }).resumeSession (Fin.ofNat 256 k)).answer o seq 0 Unit.hif.top k []))
      ∧ ((s.requestOf o seq [0x0101]).isSome = true →
        (s.freeSession = none → exec (.sessionOpen o seq) s = .next (s.answer o seq HifCode.capacity Unit.hif.top 0 []))
        ∧ ∀ i, s.freeSession = some i → exec (.sessionOpen o seq) s = .next
          ((s.openSession i (field p 0 8) (field p 8 8) (field p 16 1) (field p 17 1) (field p 18 1) (field p 19 1)).answer o seq 0
            Unit.hif.top 0 (leBytes 1 i ++ zeros 7)))

/-- Accepted, ECHO answers its payload; UNIT_STATUS the word of a zone or of a path, BAD_ARG for no path; ERROR_LOG
transfers the entries of a zone or a path, SHORT_BUFFER when they do not fit, BAD_ARG for no path; IDENTITY chip, run, die
and index; ALM_SUMMARY transfers the summary, or SHORT_BUFFER; VIOLATION_LOG the oldest entries that fit; REG_READ and
REG_WRITE up to their count of registers, BAD_ARG for bad arguments; CASCADE_INFO the group. The violation log reads word by
word and clears; the counts clear. (R475, R476, R478, R472, R474) -/
def Obligations.HifMessagesComplete : Prop :=
  ∀ (s : State) (o : Origin) (seq : Word) (src : Src) (w : Fin 4) (t : Nat) (env : BusEnv),
    let m : Via := .msg o seq
    let p := s.payload m
    let has (op : Nat) : Prop := (s.requestOf o seq [op]).isSome = true
    (has 0x0104 → exec (.echo o seq) s = .next (s.answer o seq 0 Unit.hif.top 0 p))
      ∧ (has 0x0801 →
        (field p 0 1 = 1 → exec (.unitStatus o seq) s
          = .next (s.answer o seq 0 Unit.hif.top 0 (leBytes 4 (s.zoneWord (field p 2 2)).toNat ++ zeros 4)))
        ∧ (∀ q, field p 0 1 ≠ 1 → readPath (field p 4 4) = some q → exec (.unitStatus o seq) s
          = .next (s.answer o seq 0 Unit.hif.top 0 (leBytes 4 (s.pathWord q).toNat ++ zeros 4)))
        ∧ (field p 0 1 ≠ 1 → readPath (field p 4 4) = none → exec (.unitStatus o seq) s
          = .next (s.answer o seq HifCode.badArg Unit.hif.top 0 [])))
      ∧ (let log (keys : List Nat) : Prop :=
          let out := (s.logUnion keys).flatMap LogEntry.bytes
          let pay := leBytes 4 (s.logUnion keys).length ++ zeros 4
          (s.hbLen o seq 16 < out.length → exec (.errorLog o seq) s = .next (s.answer o seq HifCode.shortBuffer Unit.hif.top 0 pay))
          ∧ (out.length ≤ s.hbLen o seq 16 → exec (.errorLog o seq) s = .next
            (s.transfer o seq 16 out.length 0 Unit.hif.top 0 (.errorLog out pay (if field p 8 4 % 2 = 1 then keys else []))))
        has 0x0802 →
          (field p 0 1 = 1 → log (s.zoneKeys (field p 2 2)))
          ∧ (∀ q, field p 0 1 ≠ 1 → readPath (field p 4 4) = some q → log q.paths)
          ∧ (field p 0 1 ≠ 1 → readPath (field p 4 4) = none → exec (.errorLog o seq) s
            = .next (s.answer o seq HifCode.badArg Unit.hif.top 0 [])))
      ∧ (has 0x0803 → exec (.identity o seq) s = .next (s.answer o seq 0 Unit.hif.top 0 (leBytes 4 (s.reg R.GLB_CHIP_ID).toNat
          ++ leBytes 4 s.run ++ (List.range 4).flatMap (fun i => leBytes 4 (s.reg (R.ALM_DIE_IDi i)).toNat)
          ++ leBytes 1 (s.fld F.CSP_STATUS.INDEX) ++ zeros 7)))
      ∧ (s.takesUp m [0x0804] .alm = true →
        let b := s.almHead ++ (s.alm.indicators.filter (fun x => x.2.n ≠ 0)).flatMap (fun x => indBytes x.1 x.2)
        let a := s.show .alm 0 0
        let pay := leBytes 4 b.length ++ zeros 4
        (b.length ≤ a.hbLen o seq 0 → exec (.almSummary o seq) s
          = .next (a.transfer o seq 0 b.length 0 Unit.alm.top 0 (.toHost b pay)))
        ∧ (a.hbLen o seq 0 < b.length → exec (.almSummary o seq) s = .next (a.answer o seq HifCode.shortBuffer Unit.hif.top 0 pay)))
      ∧ (has 0x0805 →
        let es := s.hif.vlog.take (s.hbLen o seq 0 / 16)
        let out := es.flatMap (fun e => e.flatMap (fun w => leBytes 4 w.toNat))
        exec (.violationLog o seq) s = .next (s.transfer o seq 0 out.length 0 Unit.hif.top 0
          (.vlog out (leBytes 4 es.length ++ leBytes 4 (s.fld F.HIF_VLOG_STAT.OVERFLOW)) es.length)))
      ∧ (∀ off n, (((s.at_ t).requestOf o seq [0x0901]).isSome = true) → regArgs ((s.at_ t).payload m) = some (off, n) →
        let r := State.busReads (originSrc o) n off (s.at_ t)
        exec (.regRead o seq t) s = .next (r.1.answer o seq 0 Unit.hif.top 0 (r.2.flatMap (fun w => leBytes 4 w.toNat))))
      ∧ ((((s.at_ t).requestOf o seq [0x0901]).isSome = true) → regArgs ((s.at_ t).payload m) = none →
        exec (.regRead o seq t) s = .next ((s.at_ t).answer o seq HifCode.badArg Unit.hif.top 0 []))
      ∧ ((((s.at_ env.t).requestOf o seq [0x0902]).isSome = true) → regArgs ((s.at_ env.t).payload m) = none →
        exec (.regWrite o seq env) s = .next ((s.at_ env.t).answer o seq HifCode.badArg Unit.hif.top 0 []))
      ∧ (∀ off n, (((s.at_ env.t).requestOf o seq [0x0902]).isSome = true) → regArgs ((s.at_ env.t).payload m) = some (off, n) →
        exec (.regWrite o seq env) s = .next ((State.busWrites (originSrc o) env off
          ((List.range n).map (fun i => w32 (field ((s.at_ env.t).payload m) (8 + 4 * i) 4))) (s.at_ env.t)).answer o seq 0 Unit.hif.top 0 []))
      ∧ (s.takesUp m [0x0A01] .csp = true → exec (.cascadeInfo o seq) s = .next (s.answer o seq 0 Unit.csp.top 0
          ((List.range 4).flatMap (fun i => leBytes 4 (s.reg (R.CSP_GROUP_IDi i)).toNat)
            ++ leBytes 2 (s.fld F.CSP_MAP.MAP) ++ leBytes 1 (s.fld F.CSP_MAP.MEMBERS) ++ zeros 5)))
      ∧ (s.unitOn .hif = true →
        exec (.vlogRead src w) s = .next ((s.vlogWord w.val).1.give (.readData (R.HIF_VLOG_W0 + 4 * w.val) (s.vlogWord w.val).2.toNat))
        ∧ exec (.hifCountClr src) s = .next s.hifCountClr
        ∧ exec (.vlogClr src) s = .next (({ s with hif := { s.hif with vlog := [], vlogLatch := [] } } : State).setFld F.HIF_VLOG_STAT.OVERFLOW 0))

/-- Enabling a stream channel with a sound ring stores its configuration and starts at the read index; a bad ring is refused
and the channel stays disabled. The read index is stored as written. With bus mastering an enabled channel writes its
waiting record where it fits, a capture's rows read from DRAM; a block that waited too long is dropped and counted. A host-
buffer transfer that ends well does what it was for; a failed one is reported, raises HOST_DMA and answers so. The SMBus
target answers a block read unless power-on reset is asserted. (R474, R479, R480, R482) -/
def Obligations.StreamsComplete : Prop :=
  ∀ (s : State) (src : Src) (c : Fin 32) (w : Word) (cmd : BitVec 8) (t : Nat) (o : Origin) (seq : Word) (data : List (BitVec 8)),
    let x := w &&& 0xFFF
    let u := s.at_ t
    (s.unitOn .hif = true →
        (s.flag (F.HIF_STRc_CFG.EN c.val) = false → bitAt x.toNat 0 = true →
          (s.ringOk c.val x = true → exec (.streamEnable src c w) s = .next
            (((s.setReg (R.HIF_STRc_CFG c.val) x).setReg (R.HIF_STRc_WR c.val) (s.reg (R.HIF_STRc_RD c.val))).setStrm c.val ⟨0, false⟩))
          ∧ (s.ringOk c.val x = false → exec (.streamEnable src c w) s
            = .next ((s.setReg (R.HIF_STRc_CFG c.val) (x &&& ~~~1)).post .hif 2 c.val)))
        ∧ (s.flag (F.HIF_STRc_CFG.EN c.val) = true → bitAt x.toNat 0 = false → exec (.streamEnable src c w) s
          = .next ((s.setReg (R.HIF_STRc_CFG c.val) x).disableStream c.val))
        ∧ exec (.streamRdWrite src c w) s = .next (s.setReg (R.HIF_STRc_RD c.val) w)
        ∧ (∀ b, s.hif.busMaster = true → s.flag (F.HIF_STRc_CFG.EN c.val) = true → s.hif.waiting.find? (fun b => b.chan = c.val) = some b →
          s.expired b = false →
          let need := s.recordPad c.val b
          let free := 2 ^ s.fld (F.HIF_STRc_CFG.SIZE_LOG2 c.val)
            - ((s.reg (R.HIF_STRc_WR c.val)).toNat + 2 ^ 32 - (s.reg (R.HIF_STRc_RD c.val)).toNat) % 2 ^ 32
          (free < need.1 + need.2 → exec (.streamRecordWrite c) s = .next s)
          ∧ (need.1 + need.2 ≤ free →
            (b.spans = [] → exec (.streamRecordWrite c) s = .next (s.putRecord c.val b b.data))
            ∧ (∀ a d, b.spans ≠ [] → s.dmcServes = true → State.readSpans (fixedPath .stu) 1 b.spans s = (a, some d) →
              exec (.streamRecordWrite c) s = .next (a.putRecord c.val b (b.data ++ d)))
            ∧ (b.spans ≠ [] → s.dmcServes = false → exec (.streamRecordWrite c) s = .next s.dmcTouch))))
      ∧ (∀ b, s.hif.waiting.find? (fun b => b.chan = c.val ∧ s.expired b) = some b →
        exec (.streamDrop c) s = .next (({ s with hif := { s.hif with waiting := s.hif.waiting.erase b } } : State).dropBlock c.val))
      ∧ (∀ b, u.hif.transfers.find? (fun b => b.origin = o ∧ b.seq = seq) = some b →
        let a : State := { u with hif := { u.hif with transfers := u.hif.transfers.erase b } }
        let ends (ok : Bool) (z : State) : Prop := exec (.hostDmaComplete o seq ok data t) s = .next z
        let done (z : State) (pay : Bytes) : State := z.answer b.origin b.seq b.code b.source b.detail pay
        (∀ d p, b.kind = .toHost d p → ends true (done (a.toBuffer b d) p))
        ∧ (∀ d p keys, b.kind = .errorLog d p keys → ends true (done ((a.toBuffer b d).clearLogs keys) p))
        ∧ (∀ d p n, b.kind = .vlog d p n → ends true (done { a.toBuffer b d with hif := { (a.toBuffer b d).hif with
          vlog := (a.toBuffer b d).hif.vlog.drop n } } p))
        ∧ (∀ n, b.kind = .forward n → ends true (State.sendData n (b.len / dataFrame + 1) (fitBytes b.len data) a))
        ∧ (∀ off f, b.kind = .imageChunk off f → u.dmcServes = true → ends true (done (a.takeChunk off f (a.fromBuffer b data)) []))
        ∧ (∀ x, b.kind = .calAppend x → ends true (a.takeSubmission b.origin b.seq x (a.fromBuffer b data)))
        ∧ (∀ off f, b.kind = .imageChunk off f → u.dmcServes = false → exec (.hostDmaComplete o seq true data t) s = .next u.dmcTouch
          ∧ exec (.hostDmaComplete o seq false data t) s = .next u.dmcTouch)
        ∧ (let fails (z : State) : State := ((z.post .hif HifCode.hostDma (match o with
            | .session n => n.val
            | .chorus _ => 0)).raise .hif F.HIF_IRQ_STATUS.HOST_DMA).answer o seq HifCode.hostDma Unit.hif.top 0 []
          ((∀ off f, b.kind ≠ .imageChunk off f) → ends false (fails a))
          ∧ ∀ off f, b.kind = .imageChunk off f → u.dmcServes = true → ends false (fails (a.chunkLost off b.len))))
      ∧ (u.glb.porHeld = false →
        (∀ b, u.smbusBlock cmd.toNat = some b → exec (.smbusBlockRead cmd t) s = .next (u.give (.smbus (u.smbusFrame cmd b))))
        ∧ (u.smbusBlock cmd.toNat = none → exec (.smbusBlockRead cmd t) s = .next (u.give (.smbus []))))

/-- TRAIN outside OFF trains anew. In TRAINING: a HELLO of a lower head beats this head; ENUM gives the next index and
passes on, closes the ring at a head that has not numbered on, or reports FULL after 15; the end of training makes the part
HEAD, MEMBER or STANDALONE. As HEAD a commit starts on request or when its period is due, collects the replies of its
members and is aborted at its timeout; as MEMBER a PREPARE waits for a commit. A lost member is reported; a lost head is
reported and the part trains anew; so does a link down in TRAINING, and later in HEAD or MEMBER; REOPEN and COUNT_CLR act as
stated. (R486, R487, R489, R490, R491, R493, R495) -/
def Obligations.CascadeControlComplete : Prop :=
  ∀ (s : State) (src : Src) (map : BitVec 16) (die : BitVec 128) (up : BitVec 2) (port : Fin 2) (m i : Fin 16) (cc : Word) (commit last t : Nat),
    s.unitOn .csp = true →
    let u := s.at_ t
    let start (a : State) (z : State → Prop) : Prop :=
      let b := (List.range 16).foldl (fun x k => if k ≠ 0 ∧ bitAt (a.fld F.CSP_MAP.MAP) k then x.chorusSend 7 k ((a.csp.number + 1) % 2 ^ 32) [] else x)
        (a.onCsp (fun c => { c with number := (a.csp.number + 1) % 2 ^ 32, job := some ⟨(a.csp.number + 1) % 2 ^ 32, a.fld F.CSP_MAP.MAP, [], false, a.now⟩ }))
      a.csp.job = none → b.ancState = Anc.ready → b.unitOn .anc = true →
        z ((b.onAnc (fun x => { x with waits := x.waits ++ [.cascade ((a.csp.number + 1) % 2 ^ 32)] })).wantCommit).ancStep
    let down (a : State) (z : State → Prop) : Prop :=
      let b := (a.setFld (F.CSP_PORTp_STATUS.LINK port.val) 0).setFld (F.CSP_PORTp_STATUS.LANES port.val) 0
      (b.cspState = Csp.head ∨ b.cspState = Csp.member → z b) ∧ (b.cspState ≠ Csp.head → b.cspState ≠ Csp.member → z b.cspTrain)
    (s.cspState ≠ Csp.off → exec (.train src) s = .next s.cspTrain)
      ∧ (s.cspState = Csp.training →
        (s.flag F.CSP_CFG.HEAD = true → s.csp.beaten = false →
          (die.toNat < s.dieId → exec (.hello port die true) s
            = .next ((s.onCsp (fun c => { c with beaten := true })).cspEvent CspCode.headConflict))
          ∧ (s.csp.last = 15 → exec (.enum 1 i) s = .next (s.onCsp (fun c => { c with ring := true })))
          ∧ (s.csp.ring = false → exec (.enumTimeout i) s
            = .next ((s.onCsp (fun c => { c with last := i.val })).give (.chorus 1 (chorusFrame 2 i.val 0 0 0 [])))))
        ∧ (s.flag F.CSP_CFG.HEAD = false → s.csp.index = none →
          (i.val = 15 → exec (.enum port i) s = .next ((s.onCsp (fun c => { c with full := true })).cspEvent CspCode.full))
          ∧ (i.val ≠ 15 → exec (.enum port i) s = .next ((s.onCsp (fun c => { c with index := some (i.val + 1), up := port.val })).give
            (.chorus (1 - port.val) (chorusFrame 2 (i.val + 1) 0 0 0 [])))))
        ∧ (let a := (List.range 2).foldl (fun (a : State) p =>
            (a.setFld (F.CSP_PORTp_STATUS.LINK p) (if up.getLsbD p then 2 else 0)).setFld (F.CSP_PORTp_STATUS.LANES p)
              (if up.getLsbD p then 15 else 0)) s.cspForget
          let ident (a : State) (d : Nat) : State := (List.range 4).foldl (fun b i => b.setReg (R.CSP_GROUP_IDi i) (w32 (d / 2 ^ (32 * i)))) a
          let join (st n : Nat) : State := ((a.setFld F.CSP_STATUS.STATE st).setFld F.CSP_STATUS.INDEX n).setFlag F.CSP_STATUS.RING a.csp.ring
          (s.flag F.CSP_CFG.HEAD = true → s.csp.beaten = false → exec (.trainingEnd map die up) s
            = .next (((ident (join Csp.head 0) s.dieId).setMap (map.toNat ||| 1)).onCsp (fun c => { c with period := s.now })).cspVote)
          ∧ (∀ n, s.flag F.CSP_CFG.HEAD = false → s.csp.index = some n → exec (.trainingEnd map die up) s
            = .next ((ident (join Csp.member n) die.toNat).setMap (map.toNat ||| 1 ||| 2 ^ n)).cspVote)
          ∧ (s.flag F.CSP_CFG.HEAD = false → s.csp.index = none →
            let b := ((a.setFld F.CSP_STATUS.STATE Csp.standalone).setFld F.CSP_STATUS.INDEX 0).setMap 0
            exec (.trainingEnd map die up) s = .next (if s.csp.full then b else b.cspEvent CspCode.noHead).cspVote)))
      ∧ (s.cspState = Csp.head →
        start s (fun z => exec (.ccReq src) s = .next z)
        ∧ (s.csp.job.isSome = true → exec (.ccReq src) s = .next (s.post .csp CspCode.busy 0))
        ∧ (∀ j, s.csp.job = some j → j.cc = cc.toNat → bitAt j.map m.val = true → j.replies.any (·.1 == m.val) = false →
          exec (.prepared m cc commit last) s = .next ((({ s with csp := { s.csp with
            job := some { j with replies := j.replies ++ [(m.val, commit % 2 ^ 64, last % 2 ^ 64)] } } } : State).ccReady).ancStep))
        ∧ (m.val ≠ 0 → bitAt (s.fld F.CSP_MAP.MAP) m.val = true → exec (.memberLost m) s = .next
          ((((((s.setMap (s.fld F.CSP_MAP.MAP - 2 ^ m.val)).post .csp CspCode.memberLost m.val).raise .csp F.CSP_IRQ_STATUS.MEMBER_LOST).onCsp
            (fun c => { c with sent := c.sent.filter (fun x => x.1 != m.val) })).cspNoMember (· == m.val)).ccDrop))
        ∧ (s.fld (F.CSP_PORTp_STATUS.LINK port.val) = 0 → exec (.linkDown port true) s = .next s.cspTrain))
      ∧ (u.unitOn .csp = true → u.cspState = Csp.head → u.fld F.CSP_CFG.CC_PERIOD ≠ 0 →
        u.csp.period + u.fld F.CSP_CFG.CC_PERIOD * second ≤ u.now →
        start (u.onCsp (fun c => { c with period := u.now })) (fun z => exec (.ccPeriodExpiry t) s = .next z))
      ∧ (∀ j, u.csp.job = some j → u.now < j.begun + u.fld F.CSP_CFG.CC_TIMEOUT * msec ∨ j.appended = true → exec (.ccTimeout t) s = .next u)
      ∧ (∀ j, u.csp.job = some j → j.appended = false → j.begun + u.fld F.CSP_CFG.CC_TIMEOUT * msec ≤ u.now → exec (.ccTimeout t) s
        = .next ((({ u with csp := { u.csp with job := none } } : State).post .csp 8 0).raise .csp F.CSP_IRQ_STATUS.CC_ABORTED))
      ∧ (s.cspState = Csp.member →
        (s.unitOn .anc = true → s.ancState = Anc.ready → exec (.prepare cc) s = .next
          ((((s.onCsp (fun c => { c with prepare := some cc.toNat })).onAnc (fun a => { a with waits := a.waits ++ [.cascade cc.toNat] })).wantCommit).ancStep))
        ∧ exec (.memberLost 0) s = .next ((((s.post .csp CspCode.headLost 0).raise .csp F.CSP_IRQ_STATUS.MEMBER_LOST).onCsp
          (fun c => { c with prepare := none })).cspDiscard.cspTrain))
      ∧ (s.cspState ≠ Csp.off → down s (fun z => exec (.linkDown port false) s = .next z))
      ∧ exec (.reopen src m) s = .next ((s.setPairRx m ⟨0, [], false⟩).show .csp 0 0)
      ∧ exec (.cspCountClr src) s = .next ((List.range 2).foldl (fun a p => a.setFld (F.CSP_PORTp_STATUS.RETRY p) 0) (s.setReg R.CSP_ERR_COUNT 0))

/-- As HEAD or MEMBER, a frame for another chip of the map passes on at the other port, and one for this chip that a check
refuses is answered with a NAK. One that passes advances the expected sequence of its pair and acts: a REQUEST joins the
accepted requests; an ANSWER for a waiting request ends it, unless orphaned, in its session; DATA of a request is gathered
here or written to the host buffer; TRACE with DE_CFG.EN is gathered until its record is whole, and then goes to its slot. A
NAK ends the request it names; a CRC reject and a retransmission count, a ninth failure taking the link down; HELLO goes out
at its timer. (R484, R485, R487, R488, R489, R492) -/
def Obligations.CascadeFramesComplete : Prop :=
  ∀ (s : State) (port : Fin 2) (b : List Byte) (o : Origin) (seq : Word) (made : Fin 9), s.unitOn .csp = true →
    let x := s.pairRx (Cf.src b)
    let a := s.setPairRx (Cf.src b) { x with expect := x.expect + 1 }
    let p := Cf.payload b
    let up : Prop := s.cspState = Csp.head ∨ s.cspState = Csp.member
    let away : Prop := Cf.dst b ≠ s.fld F.CSP_STATUS.INDEX ∧ bitAt (s.fld F.CSP_MAP.MAP) (Cf.dst b) = true
    (up → away → Cf.type b = 3 → exec (.request port b) s = .next (s.give (.chorus (1 - port.val) b)))
      ∧ (up → ¬away → Cf.type b = 3 → ∀ k, s.cspCheck b = some k → exec (.request port b) s = .next (s.cspNak b k))
      ∧ (up → ¬away → s.cspCheck b = none →
        (Cf.type b = 3 → exec (.request port b) s = .next { a with hif := { a.hif with reqs := a.hif.reqs ++
          [⟨.chorus (Fin.ofNat 16 (Cf.src b)), Cf.seq b, field p 2 2, field p 5 1, (p.take (field p 0 2)).drop 16, false,
            (field p 4 1, w32 (field p 8 4))⟩] } })
        ∧ (∀ r, Cf.type b = 4 → a.hif.reqs.find? (fun r => r.origin = .session (Fin.ofNat 256 (field p 4 1)) ∧ r.seq = w32 (field p 8 4)
            ∧ r.member = Cf.src b) = some r → r.orphan = false →
          exec (.answer port b) s = .next (({ a with
            hif := { a.hif with reqs := a.hif.reqs.erase r }
            csp := { a.csp with
              sent := a.csp.sent.filter (fun x => !(x.2.2.1 == r.origin && x.2.2.2 == w32 (field p 8 4)))
              data := a.csp.data.filter (fun d => !(d.1 == r.origin && d.2.1 == w32 (field p 8 4))) } } : State).putAnswer
            (field p 4 1) (modAt (fitBytes 64 p) 7 (· &&& 0x7F))))
        ∧ (∀ r, Cf.type b = 5 → a.request o seq = some r →
          let got := match a.csp.data.find? (fun d => d.1 == o && d.2.1 == seq) with | some d => d.2.2 | none => []
          let keep := a.onCsp (fun c => { c with data := c.data.filter (fun d => !(d.1 == o && d.2.1 == seq)) ++ [(o, seq, got ++ p)] })
          exec (.data port b o seq) s = .next (if r.here then keep
            else keep.give (.hostWrite (field r.payload (hbOffset r.opcode) 8 + got.length) p)))
        ∧ (Cf.type b = 6 → a.flag F.CSP_DE_CFG.EN = true →
          ((a.csp.trace ++ p).length < 80 ∨ (a.csp.trace ++ p).length < 80 + 8 * field (a.csp.trace ++ p) 64 4) →
          exec (.trace port b) s = .next (a.onCsp (fun c => { c with trace := a.csp.trace ++ p })))
        ∧ (Cf.type b = 6 → a.flag F.CSP_DE_CFG.EN = true → 80 ≤ (a.csp.trace ++ p).length →
          80 + 8 * field (a.csp.trace ++ p) 64 4 ≤ (a.csp.trace ++ p).length →
          let tr := a.csp.trace ++ p
          let n := 80 + 8 * field tr 64 4
          let g := a.onCsp (fun c => { c with trace := tr })
          let place := a.reg64 R.CSP_DE_BASE_LO R.CSP_DE_BASE_HI + a.csp.slot * 2 ^ 21
          let z := (g.onCsp (fun c => { c with trace := tr.drop n, slot := 1 - c.slot })).dramWrite (fixedPath .csp) 2 place (tr.take (min n (2 ^ 21)))
          (g.spanReady place (min (2 ^ 21) tr.length) = false → exec (.trace port b) s = .next g.dmcTouch)
          ∧ (g.spanReady place (min (2 ^ 21) tr.length) = true →
            (z.thermEngine = none → exec (.trace port b) s = .next z)
            ∧ ∀ e st, z.thermEngine = some e → z.streamOf e = some st → exec (.trace port b) s = .next (z.setPend st 2))))
      ∧ (∀ y, Cf.type b = 9 → s.csp.sent.find? (fun x => x.1 == Cf.src b && x.2.1 == (Cf.seq b).toNat) = some y →
        let z := s.onCsp (fun c => { c with sent := c.sent.erase y })
        (z.request y.2.2.1 y.2.2.2 = none → exec (.chorusNak b) s = .next z)
        ∧ ∀ r n, z.request y.2.2.1 y.2.2.2 = some r → y.2.2.1 = .session n → r.orphan = false →
          let d : State := { z with hif := { z.hif with reqs := z.hif.reqs.erase r } }
          exec (.chorusNak b) s = .next (d.putAnswer n.val (answerSlot r true false (field p 0 1) 18 0
            (leBytes 4 ((d.session n.val).map (fun x => x.expect.toNat) |>.getD 0) ++ leBytes 2 r.opcode ++ [0, 0]))))
      ∧ exec .chorusCrcReject s = .next (s.count F.CSP_ERR_COUNT.CRC_REJECT 1)
      ∧ (s.cspState ≠ Csp.off →
        (made.val < 8 → exec (.hopRetransmit port made) s = .next (s.count (F.CSP_PORTp_STATUS.RETRY port.val) 1))
        ∧ (made.val = 8 →
          let z := (s.setFld (F.CSP_PORTp_STATUS.LINK port.val) 0).setFld (F.CSP_PORTp_STATUS.LANES port.val) 0
          (z.cspState = Csp.head ∨ z.cspState = Csp.member → exec (.hopRetransmit port made) s = .next z)
          ∧ (z.cspState ≠ Csp.head → z.cspState ≠ Csp.member → exec (.hopRetransmit port made) s = .next z.cspTrain))
        ∧ exec (.helloTimer port) s = .next (s.give (.chorus port.val (chorusFrame 1 (s.fld F.CSP_STATUS.INDEX) 0 0 0
          (leBytes 16 s.dieId ++ leBytes 1 (s.fld F.CSP_CFG.HEAD))))))

/-- CAL_RECORD_APPEND while the archive is READY with fewer than four appends waiting starts the transfer of the entries;
otherwise it is refused NOT_MOUNTED or BUSY. CAL_RECORD_READ sends the factory record for epoch 0 or a record of the chain
where it fits, SHORT_BUFFER where not, or EPOCH_UNKNOWN. A stored run record begins the run; each powered minute adds one to
ALM_POWERED and to the minutes, the hour appends a run record; an indicator that reads is sampled; the histories become a
record; a LOADING almanac whose archive is READY ends its load. COUNT_CLR zeroes the lost count. (R498, R504, R506, R507,
R508, R509, R511, R513) -/
def Obligations.AlmanacComplete : Prop :=
  ∀ (s : State) (o : Origin) (seq : Word) (src : Src) (fails : Fin 3) (stored : Bool) (id : Fin 64) (t : Nat),
    let m : Via := .msg o seq
    let u := s.at_ t
    let e := field (s.payload m) 0 4
    let submit (a : State) (z : State → Prop) : Prop :=
      let q := ((a.newRecord (a.arcHead 5 0xFF) (arcItem 5 a.alm.buf.flatten)).onAnc (fun x => { x with
        waits := x.waits ++ [.history a.alm.buf.length a.anc.nextSeq] })).wantCommit
      a.alm.buf ≠ [] → imgHas a.sil.active Sec.archivePolicy = true → a.ancState = Anc.ready → a.anc.halting = false → (a.makeRoom (a.alm.buf.flatten.length + 96)).1 = true →
        z (({ q with alm := { q.alm with buf := [], firstEvent := none } } : State).histFill).ancStep
    (s.takesUp m [0x0404] .alm = true →
        (s.ancState ≠ Anc.ready → exec (.calRecordAppend o seq) s = .next (s.finish m .alm AlmCode.notMounted 0 (zeros 16)))
        ∧ (s.ancState = Anc.ready → 4 ≤ s.appendCount → exec (.calRecordAppend o seq) s = .next (s.finish m .alm AlmCode.busy 0 (zeros 16)))
        ∧ (s.ancState = Anc.ready → s.appendCount < 4 → exec (.calRecordAppend o seq) s = .next (s.transfer o seq 8 (s.hbLen o seq 8) 0
          Unit.alm.top 0 (.calAppend (bitAt (field (s.payload m) 0 4) 0)))))
      ∧ (s.takesUp m [0x0405] .alm = true →
        let send (code : Nat) (b : Bytes) : Prop :=
          let a := s.show .alm code 0
          let pay := leBytes 4 b.length ++ zeros 4
          (b.length ≤ a.hbLen o seq 8 → exec (.calRecordRead o seq) s
            = .next (a.transfer o seq 8 b.length code Unit.alm.top 0 (.toHost b pay)))
          ∧ (a.hbLen o seq 8 < b.length → exec (.calRecordRead o seq) s = .next (a.answer o seq HifCode.shortBuffer Unit.hif.top 0 pay))
        (e = 0 → send 0 s.otp.factory)
        ∧ (∀ b, e ≠ 0 → s.chainRec e = some (true, b) → send 0 b)
        ∧ (∀ b, e ≠ 0 → s.chainRec e = some (false, b) → send AlmCode.epochLost b)
        ∧ (e ≠ 0 → s.chainRec e = none → exec (.calRecordRead o seq) s
          = .next (s.finish m .alm AlmCode.epochUnknown (e % 65536) (zeros 8))))
      ∧ (u.almState = Alm.starting → u.alm.runStored = none → fails.val < 2 →
        let z := u.setReg R.ALM_RUN (w32 (max (field u.newestRun 0 4) u.run + 1))
        let a : State := { z with alm := { z.alm with runStored := some z.now } }
        let b := (a.flashAppend runSector0 runSector1 a.runRecord (fails.val == 1)).setFlag F.ALM_STATUS.RUN_UNSTORED false
        let l : Bytes × State := match u.alm.lastFrame with | some f => (leBytes 8 (f % 2 ^ 48), b) | none => b.freeBytes 8
        exec (.runRecordStored fails t) s = .next ((((l.2.almEvent Hist.runStart Unit.alm.top 0
          (leBytes 4 u.run ++ l.1 ++ leBytes 1 0)).putHead.almEnter Alm.waitArchive).almArchive).thenStart u))
      ∧ (s.glb.porHeld = false →
        let tj := fInt (signed 16 (u.fld F.GLB_TJ.TJ)) / 16.0
        let z := u.setReg R.ALM_POWERED (u.reg R.ALM_POWERED + 1)
        let a : State := { z with alm := { z.alm with
          stress := toF64 (f64 u.alm.stress + (8123.5 * (1.0 / 378.15 - 1.0 / (tj + 273.15))).exp), minutes := (z.alm.minutes + 1) % 60 } }
        (a.alm.minutes ≠ 0 → exec (.poweredMinute stored t) s = .next a)
        ∧ (a.alm.minutes = 0 →
          let b := (a.flashAppend runSector0 runSector1 a.runRecord false).setFlag F.ALM_STATUS.RUN_UNSTORED false
          b.unitOn .alm = false → exec (.poweredMinute true t) s = .next b))
      ∧ (∀ y, u.unitOn .alm = true → u.almState = Alm.ready → indIssued id = true → u.indRead id = some y →
        let a := (u.setIndicator id ((u.indicator id).add id u.indNow y)).indPredict id
        let b := a.histPut (a.histEntry Hist.indicator Unit.alm.top 0 (leBytes 2 id ++ zeros 2 ++ leBytes 4 u.indNow.floor.toUInt64.toNat
          ++ leBytes 8 (toF64 y)))
        exec (.indicatorSample id t) s = .next (if id.val = 6 then { b with alm := { b.alm with corrAt := b.fld F.DMC_ECC_CORR.COUNT } }
          else if inRange 33 63 id then { b with alm := { b.alm with
            currents := tabPut (fun _ => (toF64 0.0, 0)) b.alm.currents (id.val - 32) (toF64 0.0, 0) } }
          else b))
      ∧ (u.alm.firstEvent.isSome = true → submit u (fun z => exec (.historySubmit t) s = .next z))
      ∧ (u.almState = Alm.loading → u.ancState = Anc.ready →
        (u.alm.loading = 0 → exec (.epochLoadComplete t) s = .next (((u.indReplay.loadStore 0 false).almEnter Alm.ready).thenStart u))
        ∧ (∀ b, u.alm.loading ≠ 0 → u.indReplay.chainRec u.alm.loading = some (true, b) → exec (.epochLoadComplete t) s
          = .next (((u.indReplay.loadStore u.alm.loading false).almEnter Alm.ready).thenStart u)))
      ∧ (s.unitOn .alm = true → submit s (fun z => exec (.flush src) s = .next z)
        ∧ exec (.almCountClr src) s = .next (s.setFld F.ALM_HIST_STAT.LOST 0))

/-- WARM_REQ with the key clears the key and resets warm with cause SOFT, without it reports BAD_KEY. Cause and counts
clear. Enabling the watchdog starts its timeout; a kick with 0xA5C3 restarts it, another word is counted and reported;
WDT_WARN is raised when half remains; expiry resets warm, or flushes first. A flush reset ends when the archive is HALTED or
2 ms have passed. A temperature sample is stored with its maximum; one above 110 C on an armed part raises TJ_HIGH; one of
125 C trips, and resets warm. (R517, R525, R526, R528) -/
def Obligations.GlobalBlockComplete : Prop :=
  ∀ (s : State) (src : Src) (w : Word) (t : Nat) (tj : Int),
    let u := s.at_ t
    let z := u.setReg R.GLB_RESET_KEY 0
    (u.reg R.GLB_RESET_KEY = 0x5A3C → exec (.warmReq src t) s = .next (z.warmReset Cause.soft))
      ∧ (u.reg R.GLB_RESET_KEY ≠ 0x5A3C → exec (.warmReq src t) s = .next (z.post .glb GlbCode.badKey 0))
      ∧ exec (.causeClr src) s = .next (s.setReg R.GLB_RESET_CAUSE 0)
      ∧ exec (.glbCountClr src) s = .next ((s.setReg R.GLB_RESET_COUNT 0).setFld F.GLB_WDT_STATUS.BAD_KICKS 0)
      ∧ (u.flag F.GLB_WDT_CFG.EN = false →
        let a := u.setFlag F.GLB_WDT_CFG.EN true
        exec (.wdtEnable src t) s = .next { a with glb := { a.glb with wdtEnd := some (a.now + a.wdtTimeout), wdtLen := a.wdtTimeout } })
      ∧ (u.glb.flushCause = none →
        (∀ e, u.glb.wdtEnd = some e → exec (.wdtKick src 0xA5C3 t) s
          = .next { u with glb := { u.glb with wdtEnd := some (u.now + u.wdtTimeout), wdtLen := u.wdtTimeout } })
        ∧ (w ≠ 0xA5C3 → exec (.wdtKick src w t) s = .next ((u.count F.GLB_WDT_STATUS.BAD_KICKS 1).post .glb GlbCode.badKick 0)))
      ∧ (∀ e, u.glb.wdtEnd = some e →
        (e ≤ u.now + u.glb.wdtLen / 2 → exec (.wdtWarn t) s = .next (u.raise .glb F.GLB_IRQ_STATUS.WDT_WARN))
        ∧ (e ≤ u.now →
          let a : State := { u with glb := { u.glb with wdtEnd := none } }
          (a.flag F.GLB_WDT_CFG.FLUSH = false ∨ a.ancState ≠ Anc.ready → exec (.wdtExpiry t) s = .next (a.warmReset Cause.wdt))
          ∧ (a.flag F.GLB_WDT_CFG.FLUSH = true → a.ancState = Anc.ready → exec (.wdtExpiry t) s = .next (({ a with
            glb := { a.glb with flushCause := some Cause.wdt, flushAt := a.now }
            pmu := { a.pmu with pwrfailHold := true } } : State).repower).ancPwrfail)))
      ∧ (∀ c, u.glb.flushCause = some c → u.ancState = Anc.halted ∨ u.glb.flushAt + 2 * msec ≤ u.now →
        (c ≠ Cause.thermal → exec (.flushResetTimeout t) s = .next (u.warmReset c))
        ∧ (c = Cause.thermal → exec (.flushResetTimeout t) s = .next ((u.warmReset c).post .glb GlbCode.thermalTrip 0)))
      ∧ (u.glb.porHeld = false →
        let top := if u.glb.tjTaken then max tj (u.fldInt F.GLB_TJ.TJ_MAX) else tj
        let a := (u.setFld F.GLB_TJ.TJ (unsigned 16 tj)).setFld F.GLB_TJ.TJ_MAX (unsigned 16 top)
        (tj ≤ 110 * 16 → exec (.tjSample tj t) s = .next { a with glb := { a.glb with
            tjTaken := true, tjArmed := a.glb.tjArmed || decide (tj < 105 * 16), hot := a.glb.hot && decide (tj ≥ 100 * 16)
            ended := if a.glb.hot && decide (tj < 100 * 16) then a.now else a.glb.ended } })
        ∧ (110 * 16 < tj → tj < 125 * 16 → a.glb.tjArmed = true → exec (.tjSample tj t) s
          = .next ((({ a with glb := { a.glb with tjTaken := true, tjArmed := false } } : State).post .glb GlbCode.tjHigh 0).raise
            .glb F.GLB_IRQ_STATUS.TJ_HIGH))
        ∧ (125 * 16 ≤ tj → a.glb.tjArmed = false → a.glb.hot = false → a.glb.flushCause = none → a.ancState ≠ Anc.ready →
          exec (.tjSample tj t) s = .next ((({ a with glb := { a.glb with tjTaken := true, hot := true } } : State).warmReset
            Cause.thermal).post .glb GlbCode.thermalTrip 0)))
end

