-- ==== Sys2Proof/Laws/Tables.lean ====
section
/-! SUPPORT. Laws of sparse tables and memories: a read after a write, and the canonical form kept by every operation. -/

namespace Sys2Proof.Laws

open Sys2Proof.Machine

variable {α : Type}

theorem tabGet_tabPut_self [DecidableEq α] (d : Nat → α) (t : List (Nat × α)) (k : Nat) (v : α) (lo : Option Nat)
    (h : tabWfFrom d lo t = true) : tabGet d (tabPut d t k v) k = v := by
  induction t generalizing lo with
  | nil => unfold tabPut; split <;> simp_all [tabGet]
  | cons e t ih =>
    obtain ⟨k', v'⟩ := e
    simp only [tabWfFrom, Bool.and_eq_true, decide_eq_true_eq] at h
    have miss : ∀ (t : List (Nat × α)) (a : Nat), tabWfFrom d (some a) t = true → ∀ b, b ≤ a → tabGet d t b = d b := by
      intro t
      induction t with
      | nil => intros; rfl
      | cons e t ih2 =>
        obtain ⟨k2, v2⟩ := e
        intro a ha b hb
        simp only [tabWfFrom, Bool.and_eq_true, decide_eq_true_eq] at ha
        unfold tabGet
        rw [if_neg (by omega)]
        exact ih2 k2 ha.2 b (by omega)
    unfold tabPut
    split
    · rename_i hk
      subst hk
      split
      · rename_i hv
        rw [hv]
        exact miss t k h.2 k (Nat.le_refl k)
      · simp [tabGet]
    · split
      · split
        · rename_i hk hlt hv
          rw [hv]; unfold tabGet; rw [if_neg hk]
          exact miss t k' h.2 k (by omega)
        · simp [tabGet]
      · rename_i hk hlt
        unfold tabGet
        rw [if_neg hk]
        exact ih (some k') h.2

theorem tabGet_tabPut_ne [DecidableEq α] (d : Nat → α) (t : List (Nat × α)) (k j : Nat) (v : α) (hj : j ≠ k) :
    tabGet d (tabPut d t k v) j = tabGet d t j := by
  induction t with
  | nil => unfold tabPut; split <;> simp [tabGet, hj]
  | cons e t ih =>
    obtain ⟨k', v'⟩ := e
    unfold tabPut
    split
    · rename_i hk
      subst hk
      split <;> simp [tabGet, hj]
    · split
      · split <;> simp [tabGet, hj]
      · simp [tabGet, ih]

theorem tabWfFrom_weaken [DecidableEq α] (d : Nat → α) (t : List (Nat × α)) (lo lo' : Option Nat)
    (hl : ∀ a, lo' = some a → ∃ b, lo = some b ∧ a ≤ b) (h : tabWfFrom d lo t = true) : tabWfFrom d lo' t = true := by
  cases t with
  | nil => rfl
  | cons e t =>
    obtain ⟨k, v⟩ := e
    simp only [tabWfFrom, Bool.and_eq_true, decide_eq_true_eq] at h ⊢
    refine ⟨⟨?_, h.1.2⟩, h.2⟩
    cases lo' with
    | none => rfl
    | some a =>
      obtain ⟨b, rfl, hab⟩ := hl a rfl
      have := h.1.1
      simp only [decide_eq_true_eq] at this ⊢
      omega

theorem tabWfFrom_tabPut [DecidableEq α] (d : Nat → α) (t : List (Nat × α)) (lo : Option Nat) (k : Nat) (v : α)
    (hk : ∀ a, lo = some a → a < k) (h : tabWfFrom d lo t = true) : tabWfFrom d lo (tabPut d t k v) = true := by
  induction t generalizing lo with
  | nil =>
    unfold tabPut
    split
    · rfl
    · rename_i hv
      cases lo with
      | none => simp [tabWfFrom, hv]
      | some a => simp [tabWfFrom, hv, hk a rfl]
  | cons e t ih =>
    obtain ⟨k', v'⟩ := e
    have h0 := h
    simp only [tabWfFrom, Bool.and_eq_true, decide_eq_true_eq] at h
    unfold tabPut
    split
    · rename_i hkk
      subst hkk
      split
      · exact tabWfFrom_weaken d t (some k) lo (fun a ha => ⟨k, rfl, Nat.le_of_lt (hk a ha)⟩) h.2
      · rename_i hv
        simp only [tabWfFrom, Bool.and_eq_true, decide_eq_true_eq]
        exact ⟨⟨h.1.1, hv⟩, h.2⟩
    · split
      · split
        · exact h0
        · rename_i hlt hv
          simp only [tabWfFrom, Bool.and_eq_true, decide_eq_true_eq]
          refine ⟨⟨?_, hv⟩, ⟨hlt, h.1.2⟩, h.2⟩
          cases lo with
          | none => rfl
          | some a => simpa using hk a rfl
      · rename_i hne hlt
        simp only [tabWfFrom, Bool.and_eq_true, decide_eq_true_eq]
        refine ⟨⟨h.1.1, h.1.2⟩, ih (some k') (fun a ha => ?_) h.2⟩
        cases ha
        omega

/-- Writing keeps the canonical form. -/
theorem tabWf_tabPut [DecidableEq α] (d : Nat → α) (t : List (Nat × α)) (k : Nat) (v : α) (h : tabWf d t = true) :
    tabWf d (tabPut d t k v) = true := tabWfFrom_tabPut d t none k v (by simp) h

theorem tabWfFrom_filterMap [DecidableEq α] (d : Nat → α) (f : Nat × α → Option (Nat × α))
    (hf : ∀ e e', f e = some e' → e'.1 = e.1 ∧ (e.2 ≠ d e.1 → e'.2 ≠ d e'.1)) (t : List (Nat × α)) (lo : Option Nat)
    (h : tabWfFrom d lo t = true) : tabWfFrom d lo (t.filterMap f) = true := by
  induction t generalizing lo with
  | nil => rfl
  | cons e t ih =>
    obtain ⟨k, v⟩ := e
    simp only [tabWfFrom, Bool.and_eq_true, decide_eq_true_eq] at h
    rw [List.filterMap_cons]
    split
    · refine ih lo (tabWfFrom_weaken d t (some k) lo (fun a ha => ⟨k, rfl, ?_⟩) h.2)
      subst ha
      exact Nat.le_of_lt (by simpa using h.1.1)
    · rename_i e' he
      obtain ⟨hk, hv⟩ := hf (k, v) e' he
      obtain ⟨k', v'⟩ := e'
      simp only at hk hv
      subst hk
      simp only [tabWfFrom, Bool.and_eq_true, decide_eq_true_eq]
      exact ⟨⟨h.1.1, hv h.1.2⟩, ih (some k') h.2⟩

theorem tabWfFrom_filter [DecidableEq α] (d : Nat → α) (p : Nat × α → Bool) (t : List (Nat × α)) (lo : Option Nat)
    (h : tabWfFrom d lo t = true) : tabWfFrom d lo (t.filter p) = true := by
  rw [← List.filterMap_eq_filter]
  refine tabWfFrom_filterMap d _ ?_ t lo h
  intro e e' he
  simp only [Option.guard] at he
  split at he
  · cases he; exact ⟨rfl, id⟩
  · cases he

/-- Dropping entries keeps the canonical form. -/
theorem tabWf_tabDrop [DecidableEq α] (d : Nat → α) (p : Nat → Bool) (t : List (Nat × α)) (h : tabWf d t = true) :
    tabWf d (tabDrop p t) = true := tabWfFrom_filter d _ t none h

theorem tabWf_filterMap [DecidableEq α] (d : Nat → α) (f : Nat × α → Option (Nat × α))
    (hf : ∀ e e', f e = some e' → e'.1 = e.1 ∧ (e.2 ≠ d e.1 → e'.2 ≠ d e'.1)) (t : List (Nat × α)) (h : tabWf d t = true) :
    tabWf d (t.filterMap f) = true := tabWfFrom_filterMap d f hf t none h

/-- Writing bytes keeps the canonical form. -/
theorem tabWf_memPut (d : Nat → Byte) (bs : Bytes) (m : Mem) (a : Nat) (h : tabWf d m = true) : tabWf d (memPut d m a bs) = true := by
  induction bs generalizing m a with
  | nil => exact h
  | cons b bs ih => exact ih _ _ (tabWf_tabPut d m a b h)

/-- A byte outside the written run reads as before. -/
theorem tabGet_memPut_of_lt_or_ge (d : Nat → Byte) (bs : Bytes) (m : Mem) (a k : Nat) (hk : k < a ∨ a + bs.length ≤ k) :
    tabGet d (memPut d m a bs) k = tabGet d m k := by
  induction bs generalizing m a with
  | nil => rfl
  | cons b bs ih =>
    simp only [List.length_cons] at hk
    rw [memPut, ih _ _ (by omega), tabGet_tabPut_ne _ _ _ _ _ (by omega)]

/-- A byte of the written run reads as written. -/
theorem tabGet_memPut_at (d : Nat → Byte) (bs : Bytes) (m : Mem) (a i : Nat) (b : Byte) (hi : bs[i]? = some b) (h : tabWf d m = true) :
    tabGet d (memPut d m a bs) (a + i) = b := by
  induction bs generalizing m a i with
  | nil => simp at hi
  | cons c bs ih =>
    cases i with
    | zero =>
      simp only [List.getElem?_cons_zero, Option.some.injEq] at hi
      subst hi
      rw [memPut, tabGet_memPut_of_lt_or_ge _ _ _ _ _ (by omega)]
      exact tabGet_tabPut_self d m a _ none h
    | succ i =>
      simp only [List.getElem?_cons_succ] at hi
      have := ih (tabPut d m a c) (a + 1) i hi (tabWf_tabPut d m a c h)
      rw [memPut]
      rwa [show a + (i + 1) = a + 1 + i by omega]

end Sys2Proof.Laws
end

