-- ==== Sys2Proof/Laws/Keeps.lean ====
section
/-! SUPPORT. What no operation of the block touches: the queue of waiting commands and the fuses, and the canonical form of
registers, logs and memories; the law, and how it runs through folds and branches. -/

namespace Sys2Proof.Laws

open Sys2Proof.Machine

/-- `t` came from `a` by an operation of the block: same queue, same fuses, and canonical where `a` is. -/
structure Keeps (a t : State) : Prop where
  queue : t.pending = a.pending
  fuses : t.otp = a.otp
  canonical : a.canonical → t.canonical

theorem Keeps.refl (a : State) : Keeps a a := ⟨rfl, rfl, id⟩

theorem Keeps.trans {a b c : State} (h : Keeps a b) (k : Keeps b c) : Keeps a c :=
  ⟨k.queue.trans h.queue, k.fuses.trans h.fuses, fun x => k.canonical (h.canonical x)⟩

/-- A change of fields other than queue, fuses, registers, logs and memories. -/
theorem Keeps.upd {a s : State} {x_now : Nat} {x_frame : Nat} {x_launch : Nat} {x_glb : GlbSt} {x_pmu : PmuSt} {x_hif : HifSt} {x_pgu : PguSt} {x_afe
    : AfeSt} {x_pcx : PcxSt} {x_gea : GeaSt} {x_therm : ThermSt} {x_mrs : MrsSt} {x_znt : ZntSt} {x_stu : StuSt} {x_tce : TceSt} {x_anc : AncSt} {x_vpf :
    VpfSt} {x_dlk : DlkSt} {x_csp : CspSt} {x_sil : SilSt} {x_ttu : TtuSt} {x_dmc : DmcSt} {x_alm : AlmSt} {x_cvu : List (Nat × Nat × Nat)} {x_gpio : BitVec 16}
    {x_gaps : List GapNote} {x_free : Nat} {x_out : List Out}
    (d : x_dmc.dram = s.dmc.dram) (g : x_gea.mem = s.gea.mem) (h : Keeps a s) :
    Keeps a ⟨s.pending, x_now, x_frame, x_launch, s.regs, s.logs, s.otp, s.flash, x_glb, x_pmu, x_hif, x_pgu, x_afe, x_pcx, x_gea, x_therm, x_mrs,
    x_znt, x_stu, x_tce, x_anc, x_vpf, x_dlk, x_csp, x_sil, x_ttu, x_dmc, x_alm, x_cvu, x_gpio, x_gaps, x_free, x_out⟩ :=
  ⟨h.queue, h.fuses, fun x => by
    have y := h.canonical x
    simp only [State.canonical, State.regsWf, State.logsWf, State.memsWf] at y ⊢
    rw [d, g]; exact y⟩

theorem Keeps.ite {a s t : State} {c : Prop} [Decidable c] (h : Keeps a s) (k : Keeps a t) : Keeps a (if c then s else t) := by
  split <;> assumption

theorem Keeps.fold {β : Type} {a s : State} {f : State → β → State} {l : List β} (h : Keeps a s)
    (k : ∀ y x, Keeps a y → Keeps a (f y x)) : Keeps a (l.foldl f s) := by
  induction l generalizing s with
  | nil => exact h
  | cons x l ih => exact ih (k s x h)

/-- A fold over a state beside other data. -/
theorem Keeps.fold_fst {β γ : Type} {a : State} {f : State × γ → β → State × γ} {l : List β} {s : State × γ} (h : Keeps a s.1)
    (k : ∀ y x, Keeps a y.1 → Keeps a (f y x).1) : Keeps a (l.foldl f s).1 := by
  induction l generalizing s with
  | nil => exact h
  | cons x l ih => exact ih (k s x h)

theorem Keeps.fold_snd {β γ : Type} {a : State} {f : γ × State → β → γ × State} {l : List β} {s : γ × State} (h : Keeps a s.2)
    (k : ∀ y x, Keeps a y.2 → Keeps a (f y x).2) : Keeps a (l.foldl f s).2 := by
  induction l generalizing s with
  | nil => exact h
  | cons x l ih => exact ih (k s x h)

/-! ### The operations that write registers, logs and memories -/

/-- The registers take a new table in canonical form. -/
theorem Keeps.regs {a s : State} {r : List (Nat × Word)} (w : s.regsWf = true → tabWf resetWord r = true) (h : Keeps a s) :
    Keeps a { s with regs := r } :=
  ⟨h.queue, h.fuses, fun x => by
    have y := h.canonical x
    exact ⟨w y.1, y.2.1, y.2.2⟩⟩

/-- The logs take a new table in canonical form. -/
theorem Keeps.logs {a s : State} {l : List (Nat × UnitLog)}
    (w : s.logsWf = true → (tabWf (fun _ => (⟨[], false⟩ : UnitLog)) l && l.all (fun e => decide (e.2.entries.length ≤ 16))) = true)
    (h : Keeps a s) : Keeps a { s with logs := l } :=
  ⟨h.queue, h.fuses, fun x => by
    have y := h.canonical x
    exact ⟨y.1, w y.2.1, y.2.2⟩⟩

theorem Keeps.flash {a s : State} {m : Mem} (w : Memory.wf flashBlank s.flash = true → Memory.wf flashBlank m = true) (h : Keeps a s) :
    Keeps a { s with flash := m } :=
  ⟨h.queue, h.fuses, fun x => by
    have y := h.canonical x
    have z := y.2.2
    simp only [State.memsWf, Bool.and_eq_true] at z
    refine ⟨y.1, y.2.1, ?_⟩
    simp only [State.memsWf, Bool.and_eq_true]
    exact ⟨⟨w z.1.1, z.1.2⟩, z.2⟩⟩

theorem Keeps.dram {a s : State} {g : DmcSt} (w : Memory.wf dramDflt s.dmc.dram = true → Memory.wf dramDflt g.dram = true) (h : Keeps a s) :
    Keeps a { s with dmc := g } :=
  ⟨h.queue, h.fuses, fun x => by
    have y := h.canonical x
    have z := y.2.2
    simp only [State.memsWf, Bool.and_eq_true] at z
    refine ⟨y.1, y.2.1, ?_⟩
    simp only [State.memsWf, Bool.and_eq_true]
    exact ⟨⟨z.1.1, w z.1.2⟩, z.2⟩⟩

theorem Keeps.emem {a s : State} {g : GeaSt} (w : Memory.wf (fun _ => 0) s.gea.mem = true → Memory.wf (fun _ => 0) g.mem = true) (h : Keeps a s) :
    Keeps a { s with gea := g } :=
  ⟨h.queue, h.fuses, fun x => by
    have y := h.canonical x
    have z := y.2.2
    simp only [State.memsWf, Bool.and_eq_true] at z
    refine ⟨y.1, y.2.1, ?_⟩
    simp only [State.memsWf, Bool.and_eq_true]
    exact ⟨z.1, w z.2⟩⟩

theorem keeps_setReg {a s : State} (off : Nat) (w : Word) (h : Keeps a s) : Keeps a (s.setReg off w) :=
  Keeps.regs (fun x => tabWf_tabPut resetWord s.regs off w x) h

theorem keeps_resetRegs {a s : State} (lo hi : Nat) (h : Keeps a s) : Keeps a (s.resetRegs lo hi) :=
  Keeps.regs (fun x => tabWf_tabDrop resetWord _ s.regs x) h

theorem add_length (l : UnitLog) (e : LogEntry) (h : l.entries.length ≤ 16) : (l.add e).entries.length ≤ 16 := by
  unfold UnitLog.add
  split
  · rename_i x hx
    split
    · simp only [List.length_append, List.length_dropLast, List.length_cons, List.length_nil]
      have : l.entries ≠ [] := by rintro h0; simp [h0] at hx
      have := List.length_pos_iff.mpr this
      omega
    · simp only [lastN, List.length_drop]; omega
  · simp

theorem all_tabPut {α : Type} [DecidableEq α] (d : Nat → α) (p : α → Bool) (t : List (Nat × α)) (k : Nat) (v : α) (hv : p v = true)
    (h : t.all (fun e => p e.2) = true) : (tabPut d t k v).all (fun e => p e.2) = true := by
  induction t with
  | nil => unfold tabPut; split <;> simp [hv]
  | cons e t ih =>
    obtain ⟨k', v'⟩ := e
    simp only [List.all_cons, Bool.and_eq_true] at h
    unfold tabPut
    split
    · split <;> simp [hv, h.2]
    · split
      · split <;> simp [hv, h.1, h.2]
      · simp [h.1, ih h.2]

theorem logOf_length (s : State) (p : Nat) (h : s.logs.all (fun e => decide (e.2.entries.length ≤ 16)) = true) : (s.logOf p).entries.length ≤ 16 := by
  unfold State.logOf
  generalize s.logs = l at h
  induction l with
  | nil => simp [tabGet]
  | cons e l ih =>
    simp only [List.all_cons, Bool.and_eq_true, decide_eq_true_eq] at h
    unfold tabGet
    split
    · exact h.1
    · exact ih h.2

theorem keeps_logFor {a s : State} (path code frame bin : Nat) (h : Keeps a s) : Keeps a (s.logFor path code frame bin) :=
  Keeps.logs (fun x => by
    simp only [State.logsWf, Bool.and_eq_true] at x ⊢
    refine ⟨tabWf_tabPut _ _ _ _ x.1, all_tabPut _ (fun l : UnitLog => decide (l.entries.length ≤ 16)) _ _ _ ?_ x.2⟩
    exact decide_eq_true (add_length _ _ (logOf_length s path x.2))) h

end Sys2Proof.Laws
end

