-- ==== Sys2Proof/Laws/State.lean ====
section
/-! SUPPORT. What each shared update of the state leaves as it is, field by field, and what it writes: a proof cites these
and unfolds no record update. -/

namespace Sys2Proof.Laws

open Sys2Proof.Machine

/-! A register write changes `regs` alone. -/

@[simp] theorem setReg_pending (s : State) (off : Nat) (w : Word) : (s.setReg off w).pending = s.pending := rfl
@[simp] theorem setReg_now (s : State) (off : Nat) (w : Word) : (s.setReg off w).now = s.now := rfl
@[simp] theorem setReg_frame (s : State) (off : Nat) (w : Word) : (s.setReg off w).frame = s.frame := rfl
@[simp] theorem setReg_launch (s : State) (off : Nat) (w : Word) : (s.setReg off w).launch = s.launch := rfl
@[simp] theorem setReg_logs (s : State) (off : Nat) (w : Word) : (s.setReg off w).logs = s.logs := rfl
@[simp] theorem setReg_otp (s : State) (off : Nat) (w : Word) : (s.setReg off w).otp = s.otp := rfl
@[simp] theorem setReg_flash (s : State) (off : Nat) (w : Word) : (s.setReg off w).flash = s.flash := rfl
@[simp] theorem setReg_glb (s : State) (off : Nat) (w : Word) : (s.setReg off w).glb = s.glb := rfl
@[simp] theorem setReg_pmu (s : State) (off : Nat) (w : Word) : (s.setReg off w).pmu = s.pmu := rfl
@[simp] theorem setReg_hif (s : State) (off : Nat) (w : Word) : (s.setReg off w).hif = s.hif := rfl
@[simp] theorem setReg_pgu (s : State) (off : Nat) (w : Word) : (s.setReg off w).pgu = s.pgu := rfl
@[simp] theorem setReg_afe (s : State) (off : Nat) (w : Word) : (s.setReg off w).afe = s.afe := rfl
@[simp] theorem setReg_pcx (s : State) (off : Nat) (w : Word) : (s.setReg off w).pcx = s.pcx := rfl
@[simp] theorem setReg_gea (s : State) (off : Nat) (w : Word) : (s.setReg off w).gea = s.gea := rfl
@[simp] theorem setReg_therm (s : State) (off : Nat) (w : Word) : (s.setReg off w).therm = s.therm := rfl
@[simp] theorem setReg_mrs (s : State) (off : Nat) (w : Word) : (s.setReg off w).mrs = s.mrs := rfl
@[simp] theorem setReg_znt (s : State) (off : Nat) (w : Word) : (s.setReg off w).znt = s.znt := rfl
@[simp] theorem setReg_stu (s : State) (off : Nat) (w : Word) : (s.setReg off w).stu = s.stu := rfl
@[simp] theorem setReg_tce (s : State) (off : Nat) (w : Word) : (s.setReg off w).tce = s.tce := rfl
@[simp] theorem setReg_anc (s : State) (off : Nat) (w : Word) : (s.setReg off w).anc = s.anc := rfl
@[simp] theorem setReg_vpf (s : State) (off : Nat) (w : Word) : (s.setReg off w).vpf = s.vpf := rfl
@[simp] theorem setReg_dlk (s : State) (off : Nat) (w : Word) : (s.setReg off w).dlk = s.dlk := rfl
@[simp] theorem setReg_csp (s : State) (off : Nat) (w : Word) : (s.setReg off w).csp = s.csp := rfl
@[simp] theorem setReg_sil (s : State) (off : Nat) (w : Word) : (s.setReg off w).sil = s.sil := rfl
@[simp] theorem setReg_ttu (s : State) (off : Nat) (w : Word) : (s.setReg off w).ttu = s.ttu := rfl
@[simp] theorem setReg_dmc (s : State) (off : Nat) (w : Word) : (s.setReg off w).dmc = s.dmc := rfl
@[simp] theorem setReg_alm (s : State) (off : Nat) (w : Word) : (s.setReg off w).alm = s.alm := rfl
@[simp] theorem setReg_cvu (s : State) (off : Nat) (w : Word) : (s.setReg off w).cvu = s.cvu := rfl
@[simp] theorem setReg_gpio (s : State) (off : Nat) (w : Word) : (s.setReg off w).gpio = s.gpio := rfl
@[simp] theorem setReg_gaps (s : State) (off : Nat) (w : Word) : (s.setReg off w).gaps = s.gaps := rfl
@[simp] theorem setReg_free (s : State) (off : Nat) (w : Word) : (s.setReg off w).free = s.free := rfl
@[simp] theorem setReg_out (s : State) (off : Nat) (w : Word) : (s.setReg off w).out = s.out := rfl

/-! A reset of a run of registers changes `regs` alone. -/

@[simp] theorem resetRegs_pending (s : State) (lo hi : Nat) : (s.resetRegs lo hi).pending = s.pending := rfl
@[simp] theorem resetRegs_now (s : State) (lo hi : Nat) : (s.resetRegs lo hi).now = s.now := rfl
@[simp] theorem resetRegs_frame (s : State) (lo hi : Nat) : (s.resetRegs lo hi).frame = s.frame := rfl
@[simp] theorem resetRegs_launch (s : State) (lo hi : Nat) : (s.resetRegs lo hi).launch = s.launch := rfl
@[simp] theorem resetRegs_logs (s : State) (lo hi : Nat) : (s.resetRegs lo hi).logs = s.logs := rfl
@[simp] theorem resetRegs_otp (s : State) (lo hi : Nat) : (s.resetRegs lo hi).otp = s.otp := rfl
@[simp] theorem resetRegs_flash (s : State) (lo hi : Nat) : (s.resetRegs lo hi).flash = s.flash := rfl
@[simp] theorem resetRegs_glb (s : State) (lo hi : Nat) : (s.resetRegs lo hi).glb = s.glb := rfl
@[simp] theorem resetRegs_pmu (s : State) (lo hi : Nat) : (s.resetRegs lo hi).pmu = s.pmu := rfl
@[simp] theorem resetRegs_hif (s : State) (lo hi : Nat) : (s.resetRegs lo hi).hif = s.hif := rfl
@[simp] theorem resetRegs_pgu (s : State) (lo hi : Nat) : (s.resetRegs lo hi).pgu = s.pgu := rfl
@[simp] theorem resetRegs_afe (s : State) (lo hi : Nat) : (s.resetRegs lo hi).afe = s.afe := rfl
@[simp] theorem resetRegs_pcx (s : State) (lo hi : Nat) : (s.resetRegs lo hi).pcx = s.pcx := rfl
@[simp] theorem resetRegs_gea (s : State) (lo hi : Nat) : (s.resetRegs lo hi).gea = s.gea := rfl
@[simp] theorem resetRegs_therm (s : State) (lo hi : Nat) : (s.resetRegs lo hi).therm = s.therm := rfl
@[simp] theorem resetRegs_mrs (s : State) (lo hi : Nat) : (s.resetRegs lo hi).mrs = s.mrs := rfl
@[simp] theorem resetRegs_znt (s : State) (lo hi : Nat) : (s.resetRegs lo hi).znt = s.znt := rfl
@[simp] theorem resetRegs_stu (s : State) (lo hi : Nat) : (s.resetRegs lo hi).stu = s.stu := rfl
@[simp] theorem resetRegs_tce (s : State) (lo hi : Nat) : (s.resetRegs lo hi).tce = s.tce := rfl
@[simp] theorem resetRegs_anc (s : State) (lo hi : Nat) : (s.resetRegs lo hi).anc = s.anc := rfl
@[simp] theorem resetRegs_vpf (s : State) (lo hi : Nat) : (s.resetRegs lo hi).vpf = s.vpf := rfl
@[simp] theorem resetRegs_dlk (s : State) (lo hi : Nat) : (s.resetRegs lo hi).dlk = s.dlk := rfl
@[simp] theorem resetRegs_csp (s : State) (lo hi : Nat) : (s.resetRegs lo hi).csp = s.csp := rfl
@[simp] theorem resetRegs_sil (s : State) (lo hi : Nat) : (s.resetRegs lo hi).sil = s.sil := rfl
@[simp] theorem resetRegs_ttu (s : State) (lo hi : Nat) : (s.resetRegs lo hi).ttu = s.ttu := rfl
@[simp] theorem resetRegs_dmc (s : State) (lo hi : Nat) : (s.resetRegs lo hi).dmc = s.dmc := rfl
@[simp] theorem resetRegs_alm (s : State) (lo hi : Nat) : (s.resetRegs lo hi).alm = s.alm := rfl
@[simp] theorem resetRegs_cvu (s : State) (lo hi : Nat) : (s.resetRegs lo hi).cvu = s.cvu := rfl
@[simp] theorem resetRegs_gpio (s : State) (lo hi : Nat) : (s.resetRegs lo hi).gpio = s.gpio := rfl
@[simp] theorem resetRegs_gaps (s : State) (lo hi : Nat) : (s.resetRegs lo hi).gaps = s.gaps := rfl
@[simp] theorem resetRegs_free (s : State) (lo hi : Nat) : (s.resetRegs lo hi).free = s.free := rfl
@[simp] theorem resetRegs_out (s : State) (lo hi : Nat) : (s.resetRegs lo hi).out = s.out := rfl

/-! A field write changes `regs` alone. -/

@[simp] theorem setFld_pending (s : State) (f : Fld) (n : Nat) : (s.setFld f n).pending = s.pending := rfl
@[simp] theorem setFld_now (s : State) (f : Fld) (n : Nat) : (s.setFld f n).now = s.now := rfl
@[simp] theorem setFld_frame (s : State) (f : Fld) (n : Nat) : (s.setFld f n).frame = s.frame := rfl
@[simp] theorem setFld_launch (s : State) (f : Fld) (n : Nat) : (s.setFld f n).launch = s.launch := rfl
@[simp] theorem setFld_logs (s : State) (f : Fld) (n : Nat) : (s.setFld f n).logs = s.logs := rfl
@[simp] theorem setFld_otp (s : State) (f : Fld) (n : Nat) : (s.setFld f n).otp = s.otp := rfl
@[simp] theorem setFld_flash (s : State) (f : Fld) (n : Nat) : (s.setFld f n).flash = s.flash := rfl
@[simp] theorem setFld_glb (s : State) (f : Fld) (n : Nat) : (s.setFld f n).glb = s.glb := rfl
@[simp] theorem setFld_pmu (s : State) (f : Fld) (n : Nat) : (s.setFld f n).pmu = s.pmu := rfl
@[simp] theorem setFld_hif (s : State) (f : Fld) (n : Nat) : (s.setFld f n).hif = s.hif := rfl
@[simp] theorem setFld_pgu (s : State) (f : Fld) (n : Nat) : (s.setFld f n).pgu = s.pgu := rfl
@[simp] theorem setFld_afe (s : State) (f : Fld) (n : Nat) : (s.setFld f n).afe = s.afe := rfl
@[simp] theorem setFld_pcx (s : State) (f : Fld) (n : Nat) : (s.setFld f n).pcx = s.pcx := rfl
@[simp] theorem setFld_gea (s : State) (f : Fld) (n : Nat) : (s.setFld f n).gea = s.gea := rfl
@[simp] theorem setFld_therm (s : State) (f : Fld) (n : Nat) : (s.setFld f n).therm = s.therm := rfl
@[simp] theorem setFld_mrs (s : State) (f : Fld) (n : Nat) : (s.setFld f n).mrs = s.mrs := rfl
@[simp] theorem setFld_znt (s : State) (f : Fld) (n : Nat) : (s.setFld f n).znt = s.znt := rfl
@[simp] theorem setFld_stu (s : State) (f : Fld) (n : Nat) : (s.setFld f n).stu = s.stu := rfl
@[simp] theorem setFld_tce (s : State) (f : Fld) (n : Nat) : (s.setFld f n).tce = s.tce := rfl
@[simp] theorem setFld_anc (s : State) (f : Fld) (n : Nat) : (s.setFld f n).anc = s.anc := rfl
@[simp] theorem setFld_vpf (s : State) (f : Fld) (n : Nat) : (s.setFld f n).vpf = s.vpf := rfl
@[simp] theorem setFld_dlk (s : State) (f : Fld) (n : Nat) : (s.setFld f n).dlk = s.dlk := rfl
@[simp] theorem setFld_csp (s : State) (f : Fld) (n : Nat) : (s.setFld f n).csp = s.csp := rfl
@[simp] theorem setFld_sil (s : State) (f : Fld) (n : Nat) : (s.setFld f n).sil = s.sil := rfl
@[simp] theorem setFld_ttu (s : State) (f : Fld) (n : Nat) : (s.setFld f n).ttu = s.ttu := rfl
@[simp] theorem setFld_dmc (s : State) (f : Fld) (n : Nat) : (s.setFld f n).dmc = s.dmc := rfl
@[simp] theorem setFld_alm (s : State) (f : Fld) (n : Nat) : (s.setFld f n).alm = s.alm := rfl
@[simp] theorem setFld_cvu (s : State) (f : Fld) (n : Nat) : (s.setFld f n).cvu = s.cvu := rfl
@[simp] theorem setFld_gpio (s : State) (f : Fld) (n : Nat) : (s.setFld f n).gpio = s.gpio := rfl
@[simp] theorem setFld_gaps (s : State) (f : Fld) (n : Nat) : (s.setFld f n).gaps = s.gaps := rfl
@[simp] theorem setFld_free (s : State) (f : Fld) (n : Nat) : (s.setFld f n).free = s.free := rfl
@[simp] theorem setFld_out (s : State) (f : Fld) (n : Nat) : (s.setFld f n).out = s.out := rfl

/-! A bit write changes `regs` alone. -/

@[simp] theorem setFlag_pending (s : State) (f : Fld) (b : Bool) : (s.setFlag f b).pending = s.pending := rfl
@[simp] theorem setFlag_now (s : State) (f : Fld) (b : Bool) : (s.setFlag f b).now = s.now := rfl
@[simp] theorem setFlag_frame (s : State) (f : Fld) (b : Bool) : (s.setFlag f b).frame = s.frame := rfl
@[simp] theorem setFlag_launch (s : State) (f : Fld) (b : Bool) : (s.setFlag f b).launch = s.launch := rfl
@[simp] theorem setFlag_logs (s : State) (f : Fld) (b : Bool) : (s.setFlag f b).logs = s.logs := rfl
@[simp] theorem setFlag_otp (s : State) (f : Fld) (b : Bool) : (s.setFlag f b).otp = s.otp := rfl
@[simp] theorem setFlag_flash (s : State) (f : Fld) (b : Bool) : (s.setFlag f b).flash = s.flash := rfl
@[simp] theorem setFlag_glb (s : State) (f : Fld) (b : Bool) : (s.setFlag f b).glb = s.glb := rfl
@[simp] theorem setFlag_pmu (s : State) (f : Fld) (b : Bool) : (s.setFlag f b).pmu = s.pmu := rfl
@[simp] theorem setFlag_hif (s : State) (f : Fld) (b : Bool) : (s.setFlag f b).hif = s.hif := rfl
@[simp] theorem setFlag_pgu (s : State) (f : Fld) (b : Bool) : (s.setFlag f b).pgu = s.pgu := rfl
@[simp] theorem setFlag_afe (s : State) (f : Fld) (b : Bool) : (s.setFlag f b).afe = s.afe := rfl
@[simp] theorem setFlag_pcx (s : State) (f : Fld) (b : Bool) : (s.setFlag f b).pcx = s.pcx := rfl
@[simp] theorem setFlag_gea (s : State) (f : Fld) (b : Bool) : (s.setFlag f b).gea = s.gea := rfl
@[simp] theorem setFlag_therm (s : State) (f : Fld) (b : Bool) : (s.setFlag f b).therm = s.therm := rfl
@[simp] theorem setFlag_mrs (s : State) (f : Fld) (b : Bool) : (s.setFlag f b).mrs = s.mrs := rfl
@[simp] theorem setFlag_znt (s : State) (f : Fld) (b : Bool) : (s.setFlag f b).znt = s.znt := rfl
@[simp] theorem setFlag_stu (s : State) (f : Fld) (b : Bool) : (s.setFlag f b).stu = s.stu := rfl
@[simp] theorem setFlag_tce (s : State) (f : Fld) (b : Bool) : (s.setFlag f b).tce = s.tce := rfl
@[simp] theorem setFlag_anc (s : State) (f : Fld) (b : Bool) : (s.setFlag f b).anc = s.anc := rfl
@[simp] theorem setFlag_vpf (s : State) (f : Fld) (b : Bool) : (s.setFlag f b).vpf = s.vpf := rfl
@[simp] theorem setFlag_dlk (s : State) (f : Fld) (b : Bool) : (s.setFlag f b).dlk = s.dlk := rfl
@[simp] theorem setFlag_csp (s : State) (f : Fld) (b : Bool) : (s.setFlag f b).csp = s.csp := rfl
@[simp] theorem setFlag_sil (s : State) (f : Fld) (b : Bool) : (s.setFlag f b).sil = s.sil := rfl
@[simp] theorem setFlag_ttu (s : State) (f : Fld) (b : Bool) : (s.setFlag f b).ttu = s.ttu := rfl
@[simp] theorem setFlag_dmc (s : State) (f : Fld) (b : Bool) : (s.setFlag f b).dmc = s.dmc := rfl
@[simp] theorem setFlag_alm (s : State) (f : Fld) (b : Bool) : (s.setFlag f b).alm = s.alm := rfl
@[simp] theorem setFlag_cvu (s : State) (f : Fld) (b : Bool) : (s.setFlag f b).cvu = s.cvu := rfl
@[simp] theorem setFlag_gpio (s : State) (f : Fld) (b : Bool) : (s.setFlag f b).gpio = s.gpio := rfl
@[simp] theorem setFlag_gaps (s : State) (f : Fld) (b : Bool) : (s.setFlag f b).gaps = s.gaps := rfl
@[simp] theorem setFlag_free (s : State) (f : Fld) (b : Bool) : (s.setFlag f b).free = s.free := rfl
@[simp] theorem setFlag_out (s : State) (f : Fld) (b : Bool) : (s.setFlag f b).out = s.out := rfl

/-! A count changes `regs` alone. -/

@[simp] theorem count_pending (s : State) (f : Fld) (n : Nat) : (s.count f n).pending = s.pending := rfl
@[simp] theorem count_now (s : State) (f : Fld) (n : Nat) : (s.count f n).now = s.now := rfl
@[simp] theorem count_frame (s : State) (f : Fld) (n : Nat) : (s.count f n).frame = s.frame := rfl
@[simp] theorem count_launch (s : State) (f : Fld) (n : Nat) : (s.count f n).launch = s.launch := rfl
@[simp] theorem count_logs (s : State) (f : Fld) (n : Nat) : (s.count f n).logs = s.logs := rfl
@[simp] theorem count_otp (s : State) (f : Fld) (n : Nat) : (s.count f n).otp = s.otp := rfl
@[simp] theorem count_flash (s : State) (f : Fld) (n : Nat) : (s.count f n).flash = s.flash := rfl
@[simp] theorem count_glb (s : State) (f : Fld) (n : Nat) : (s.count f n).glb = s.glb := rfl
@[simp] theorem count_pmu (s : State) (f : Fld) (n : Nat) : (s.count f n).pmu = s.pmu := rfl
@[simp] theorem count_hif (s : State) (f : Fld) (n : Nat) : (s.count f n).hif = s.hif := rfl
@[simp] theorem count_pgu (s : State) (f : Fld) (n : Nat) : (s.count f n).pgu = s.pgu := rfl
@[simp] theorem count_afe (s : State) (f : Fld) (n : Nat) : (s.count f n).afe = s.afe := rfl
@[simp] theorem count_pcx (s : State) (f : Fld) (n : Nat) : (s.count f n).pcx = s.pcx := rfl
@[simp] theorem count_gea (s : State) (f : Fld) (n : Nat) : (s.count f n).gea = s.gea := rfl
@[simp] theorem count_therm (s : State) (f : Fld) (n : Nat) : (s.count f n).therm = s.therm := rfl
@[simp] theorem count_mrs (s : State) (f : Fld) (n : Nat) : (s.count f n).mrs = s.mrs := rfl
@[simp] theorem count_znt (s : State) (f : Fld) (n : Nat) : (s.count f n).znt = s.znt := rfl
@[simp] theorem count_stu (s : State) (f : Fld) (n : Nat) : (s.count f n).stu = s.stu := rfl
@[simp] theorem count_tce (s : State) (f : Fld) (n : Nat) : (s.count f n).tce = s.tce := rfl
@[simp] theorem count_anc (s : State) (f : Fld) (n : Nat) : (s.count f n).anc = s.anc := rfl
@[simp] theorem count_vpf (s : State) (f : Fld) (n : Nat) : (s.count f n).vpf = s.vpf := rfl
@[simp] theorem count_dlk (s : State) (f : Fld) (n : Nat) : (s.count f n).dlk = s.dlk := rfl
@[simp] theorem count_csp (s : State) (f : Fld) (n : Nat) : (s.count f n).csp = s.csp := rfl
@[simp] theorem count_sil (s : State) (f : Fld) (n : Nat) : (s.count f n).sil = s.sil := rfl
@[simp] theorem count_ttu (s : State) (f : Fld) (n : Nat) : (s.count f n).ttu = s.ttu := rfl
@[simp] theorem count_dmc (s : State) (f : Fld) (n : Nat) : (s.count f n).dmc = s.dmc := rfl
@[simp] theorem count_alm (s : State) (f : Fld) (n : Nat) : (s.count f n).alm = s.alm := rfl
@[simp] theorem count_cvu (s : State) (f : Fld) (n : Nat) : (s.count f n).cvu = s.cvu := rfl
@[simp] theorem count_gpio (s : State) (f : Fld) (n : Nat) : (s.count f n).gpio = s.gpio := rfl
@[simp] theorem count_gaps (s : State) (f : Fld) (n : Nat) : (s.count f n).gaps = s.gaps := rfl
@[simp] theorem count_free (s : State) (f : Fld) (n : Nat) : (s.count f n).free = s.free := rfl
@[simp] theorem count_out (s : State) (f : Fld) (n : Nat) : (s.count f n).out = s.out := rfl

/-! A 64-bit write changes `regs` alone. -/

@[simp] theorem setReg64_pending (s : State) (lo hi n : Nat) : (s.setReg64 lo hi n).pending = s.pending := rfl
@[simp] theorem setReg64_now (s : State) (lo hi n : Nat) : (s.setReg64 lo hi n).now = s.now := rfl
@[simp] theorem setReg64_frame (s : State) (lo hi n : Nat) : (s.setReg64 lo hi n).frame = s.frame := rfl
@[simp] theorem setReg64_launch (s : State) (lo hi n : Nat) : (s.setReg64 lo hi n).launch = s.launch := rfl
@[simp] theorem setReg64_logs (s : State) (lo hi n : Nat) : (s.setReg64 lo hi n).logs = s.logs := rfl
@[simp] theorem setReg64_otp (s : State) (lo hi n : Nat) : (s.setReg64 lo hi n).otp = s.otp := rfl
@[simp] theorem setReg64_flash (s : State) (lo hi n : Nat) : (s.setReg64 lo hi n).flash = s.flash := rfl
@[simp] theorem setReg64_glb (s : State) (lo hi n : Nat) : (s.setReg64 lo hi n).glb = s.glb := rfl
@[simp] theorem setReg64_pmu (s : State) (lo hi n : Nat) : (s.setReg64 lo hi n).pmu = s.pmu := rfl
@[simp] theorem setReg64_hif (s : State) (lo hi n : Nat) : (s.setReg64 lo hi n).hif = s.hif := rfl
@[simp] theorem setReg64_pgu (s : State) (lo hi n : Nat) : (s.setReg64 lo hi n).pgu = s.pgu := rfl
@[simp] theorem setReg64_afe (s : State) (lo hi n : Nat) : (s.setReg64 lo hi n).afe = s.afe := rfl
@[simp] theorem setReg64_pcx (s : State) (lo hi n : Nat) : (s.setReg64 lo hi n).pcx = s.pcx := rfl
@[simp] theorem setReg64_gea (s : State) (lo hi n : Nat) : (s.setReg64 lo hi n).gea = s.gea := rfl
@[simp] theorem setReg64_therm (s : State) (lo hi n : Nat) : (s.setReg64 lo hi n).therm = s.therm := rfl
@[simp] theorem setReg64_mrs (s : State) (lo hi n : Nat) : (s.setReg64 lo hi n).mrs = s.mrs := rfl
@[simp] theorem setReg64_znt (s : State) (lo hi n : Nat) : (s.setReg64 lo hi n).znt = s.znt := rfl
@[simp] theorem setReg64_stu (s : State) (lo hi n : Nat) : (s.setReg64 lo hi n).stu = s.stu := rfl
@[simp] theorem setReg64_tce (s : State) (lo hi n : Nat) : (s.setReg64 lo hi n).tce = s.tce := rfl
@[simp] theorem setReg64_anc (s : State) (lo hi n : Nat) : (s.setReg64 lo hi n).anc = s.anc := rfl
@[simp] theorem setReg64_vpf (s : State) (lo hi n : Nat) : (s.setReg64 lo hi n).vpf = s.vpf := rfl
@[simp] theorem setReg64_dlk (s : State) (lo hi n : Nat) : (s.setReg64 lo hi n).dlk = s.dlk := rfl
@[simp] theorem setReg64_csp (s : State) (lo hi n : Nat) : (s.setReg64 lo hi n).csp = s.csp := rfl
@[simp] theorem setReg64_sil (s : State) (lo hi n : Nat) : (s.setReg64 lo hi n).sil = s.sil := rfl
@[simp] theorem setReg64_ttu (s : State) (lo hi n : Nat) : (s.setReg64 lo hi n).ttu = s.ttu := rfl
@[simp] theorem setReg64_dmc (s : State) (lo hi n : Nat) : (s.setReg64 lo hi n).dmc = s.dmc := rfl
@[simp] theorem setReg64_alm (s : State) (lo hi n : Nat) : (s.setReg64 lo hi n).alm = s.alm := rfl
@[simp] theorem setReg64_cvu (s : State) (lo hi n : Nat) : (s.setReg64 lo hi n).cvu = s.cvu := rfl
@[simp] theorem setReg64_gpio (s : State) (lo hi n : Nat) : (s.setReg64 lo hi n).gpio = s.gpio := rfl
@[simp] theorem setReg64_gaps (s : State) (lo hi n : Nat) : (s.setReg64 lo hi n).gaps = s.gaps := rfl
@[simp] theorem setReg64_free (s : State) (lo hi n : Nat) : (s.setReg64 lo hi n).free = s.free := rfl
@[simp] theorem setReg64_out (s : State) (lo hi n : Nat) : (s.setReg64 lo hi n).out = s.out := rfl

/-! An output changes `out` alone. -/

@[simp] theorem give_pending (s : State) (o : Out) : (s.give o).pending = s.pending := rfl
@[simp] theorem give_now (s : State) (o : Out) : (s.give o).now = s.now := rfl
@[simp] theorem give_frame (s : State) (o : Out) : (s.give o).frame = s.frame := rfl
@[simp] theorem give_launch (s : State) (o : Out) : (s.give o).launch = s.launch := rfl
@[simp] theorem give_regs (s : State) (o : Out) : (s.give o).regs = s.regs := rfl
@[simp] theorem give_logs (s : State) (o : Out) : (s.give o).logs = s.logs := rfl
@[simp] theorem give_otp (s : State) (o : Out) : (s.give o).otp = s.otp := rfl
@[simp] theorem give_flash (s : State) (o : Out) : (s.give o).flash = s.flash := rfl
@[simp] theorem give_glb (s : State) (o : Out) : (s.give o).glb = s.glb := rfl
@[simp] theorem give_pmu (s : State) (o : Out) : (s.give o).pmu = s.pmu := rfl
@[simp] theorem give_hif (s : State) (o : Out) : (s.give o).hif = s.hif := rfl
@[simp] theorem give_pgu (s : State) (o : Out) : (s.give o).pgu = s.pgu := rfl
@[simp] theorem give_afe (s : State) (o : Out) : (s.give o).afe = s.afe := rfl
@[simp] theorem give_pcx (s : State) (o : Out) : (s.give o).pcx = s.pcx := rfl
@[simp] theorem give_gea (s : State) (o : Out) : (s.give o).gea = s.gea := rfl
@[simp] theorem give_therm (s : State) (o : Out) : (s.give o).therm = s.therm := rfl
@[simp] theorem give_mrs (s : State) (o : Out) : (s.give o).mrs = s.mrs := rfl
@[simp] theorem give_znt (s : State) (o : Out) : (s.give o).znt = s.znt := rfl
@[simp] theorem give_stu (s : State) (o : Out) : (s.give o).stu = s.stu := rfl
@[simp] theorem give_tce (s : State) (o : Out) : (s.give o).tce = s.tce := rfl
@[simp] theorem give_anc (s : State) (o : Out) : (s.give o).anc = s.anc := rfl
@[simp] theorem give_vpf (s : State) (o : Out) : (s.give o).vpf = s.vpf := rfl
@[simp] theorem give_dlk (s : State) (o : Out) : (s.give o).dlk = s.dlk := rfl
@[simp] theorem give_csp (s : State) (o : Out) : (s.give o).csp = s.csp := rfl
@[simp] theorem give_sil (s : State) (o : Out) : (s.give o).sil = s.sil := rfl
@[simp] theorem give_ttu (s : State) (o : Out) : (s.give o).ttu = s.ttu := rfl
@[simp] theorem give_dmc (s : State) (o : Out) : (s.give o).dmc = s.dmc := rfl
@[simp] theorem give_alm (s : State) (o : Out) : (s.give o).alm = s.alm := rfl
@[simp] theorem give_cvu (s : State) (o : Out) : (s.give o).cvu = s.cvu := rfl
@[simp] theorem give_gpio (s : State) (o : Out) : (s.give o).gpio = s.gpio := rfl
@[simp] theorem give_gaps (s : State) (o : Out) : (s.give o).gaps = s.gaps := rfl
@[simp] theorem give_free (s : State) (o : Out) : (s.give o).free = s.free := rfl

/-! The stall count changes `regs` alone. -/

@[simp] theorem stallTo_pending (s : State) (t : Nat) : (s.stallTo t).pending = s.pending := by
  unfold State.stallTo; split <;> rfl
@[simp] theorem stallTo_now (s : State) (t : Nat) : (s.stallTo t).now = s.now := by
  unfold State.stallTo; split <;> rfl
@[simp] theorem stallTo_frame (s : State) (t : Nat) : (s.stallTo t).frame = s.frame := by
  unfold State.stallTo; split <;> rfl
@[simp] theorem stallTo_launch (s : State) (t : Nat) : (s.stallTo t).launch = s.launch := by
  unfold State.stallTo; split <;> rfl
@[simp] theorem stallTo_logs (s : State) (t : Nat) : (s.stallTo t).logs = s.logs := by
  unfold State.stallTo; split <;> rfl
@[simp] theorem stallTo_otp (s : State) (t : Nat) : (s.stallTo t).otp = s.otp := by
  unfold State.stallTo; split <;> rfl
@[simp] theorem stallTo_flash (s : State) (t : Nat) : (s.stallTo t).flash = s.flash := by
  unfold State.stallTo; split <;> rfl
@[simp] theorem stallTo_glb (s : State) (t : Nat) : (s.stallTo t).glb = s.glb := by
  unfold State.stallTo; split <;> rfl
@[simp] theorem stallTo_pmu (s : State) (t : Nat) : (s.stallTo t).pmu = s.pmu := by
  unfold State.stallTo; split <;> rfl
@[simp] theorem stallTo_hif (s : State) (t : Nat) : (s.stallTo t).hif = s.hif := by
  unfold State.stallTo; split <;> rfl
@[simp] theorem stallTo_pgu (s : State) (t : Nat) : (s.stallTo t).pgu = s.pgu := by
  unfold State.stallTo; split <;> rfl
@[simp] theorem stallTo_afe (s : State) (t : Nat) : (s.stallTo t).afe = s.afe := by
  unfold State.stallTo; split <;> rfl
@[simp] theorem stallTo_pcx (s : State) (t : Nat) : (s.stallTo t).pcx = s.pcx := by
  unfold State.stallTo; split <;> rfl
@[simp] theorem stallTo_gea (s : State) (t : Nat) : (s.stallTo t).gea = s.gea := by
  unfold State.stallTo; split <;> rfl
@[simp] theorem stallTo_therm (s : State) (t : Nat) : (s.stallTo t).therm = s.therm := by
  unfold State.stallTo; split <;> rfl
@[simp] theorem stallTo_mrs (s : State) (t : Nat) : (s.stallTo t).mrs = s.mrs := by
  unfold State.stallTo; split <;> rfl
@[simp] theorem stallTo_znt (s : State) (t : Nat) : (s.stallTo t).znt = s.znt := by
  unfold State.stallTo; split <;> rfl
@[simp] theorem stallTo_stu (s : State) (t : Nat) : (s.stallTo t).stu = s.stu := by
  unfold State.stallTo; split <;> rfl
@[simp] theorem stallTo_tce (s : State) (t : Nat) : (s.stallTo t).tce = s.tce := by
  unfold State.stallTo; split <;> rfl
@[simp] theorem stallTo_anc (s : State) (t : Nat) : (s.stallTo t).anc = s.anc := by
  unfold State.stallTo; split <;> rfl
@[simp] theorem stallTo_vpf (s : State) (t : Nat) : (s.stallTo t).vpf = s.vpf := by
  unfold State.stallTo; split <;> rfl
@[simp] theorem stallTo_dlk (s : State) (t : Nat) : (s.stallTo t).dlk = s.dlk := by
  unfold State.stallTo; split <;> rfl
@[simp] theorem stallTo_csp (s : State) (t : Nat) : (s.stallTo t).csp = s.csp := by
  unfold State.stallTo; split <;> rfl
@[simp] theorem stallTo_sil (s : State) (t : Nat) : (s.stallTo t).sil = s.sil := by
  unfold State.stallTo; split <;> rfl
@[simp] theorem stallTo_ttu (s : State) (t : Nat) : (s.stallTo t).ttu = s.ttu := by
  unfold State.stallTo; split <;> rfl
@[simp] theorem stallTo_dmc (s : State) (t : Nat) : (s.stallTo t).dmc = s.dmc := by
  unfold State.stallTo; split <;> rfl
@[simp] theorem stallTo_alm (s : State) (t : Nat) : (s.stallTo t).alm = s.alm := by
  unfold State.stallTo; split <;> rfl
@[simp] theorem stallTo_cvu (s : State) (t : Nat) : (s.stallTo t).cvu = s.cvu := by
  unfold State.stallTo; split <;> rfl
@[simp] theorem stallTo_gpio (s : State) (t : Nat) : (s.stallTo t).gpio = s.gpio := by
  unfold State.stallTo; split <;> rfl
@[simp] theorem stallTo_gaps (s : State) (t : Nat) : (s.stallTo t).gaps = s.gaps := by
  unfold State.stallTo; split <;> rfl
@[simp] theorem stallTo_free (s : State) (t : Nat) : (s.stallTo t).free = s.free := by
  unfold State.stallTo; split <;> rfl
@[simp] theorem stallTo_out (s : State) (t : Nat) : (s.stallTo t).out = s.out := by
  unfold State.stallTo; split <;> rfl

/-! The training of the Chorus links changes `csp` and `out` alone. -/

@[simp] theorem trainTo_pending (s : State) (t : Nat) : (s.trainTo t).pending = s.pending := by
  unfold State.trainTo; (repeat' split) <;> (try dsimp only) <;> (repeat' split) <;> rfl
@[simp] theorem trainTo_now (s : State) (t : Nat) : (s.trainTo t).now = s.now := by
  unfold State.trainTo; (repeat' split) <;> (try dsimp only) <;> (repeat' split) <;> rfl
@[simp] theorem trainTo_frame (s : State) (t : Nat) : (s.trainTo t).frame = s.frame := by
  unfold State.trainTo; (repeat' split) <;> (try dsimp only) <;> (repeat' split) <;> rfl
@[simp] theorem trainTo_launch (s : State) (t : Nat) : (s.trainTo t).launch = s.launch := by
  unfold State.trainTo; (repeat' split) <;> (try dsimp only) <;> (repeat' split) <;> rfl
@[simp] theorem trainTo_regs (s : State) (t : Nat) : (s.trainTo t).regs = s.regs := by
  unfold State.trainTo; (repeat' split) <;> (try dsimp only) <;> (repeat' split) <;> rfl
@[simp] theorem trainTo_logs (s : State) (t : Nat) : (s.trainTo t).logs = s.logs := by
  unfold State.trainTo; (repeat' split) <;> (try dsimp only) <;> (repeat' split) <;> rfl
@[simp] theorem trainTo_otp (s : State) (t : Nat) : (s.trainTo t).otp = s.otp := by
  unfold State.trainTo; (repeat' split) <;> (try dsimp only) <;> (repeat' split) <;> rfl
@[simp] theorem trainTo_flash (s : State) (t : Nat) : (s.trainTo t).flash = s.flash := by
  unfold State.trainTo; (repeat' split) <;> (try dsimp only) <;> (repeat' split) <;> rfl
@[simp] theorem trainTo_glb (s : State) (t : Nat) : (s.trainTo t).glb = s.glb := by
  unfold State.trainTo; (repeat' split) <;> (try dsimp only) <;> (repeat' split) <;> rfl
@[simp] theorem trainTo_pmu (s : State) (t : Nat) : (s.trainTo t).pmu = s.pmu := by
  unfold State.trainTo; (repeat' split) <;> (try dsimp only) <;> (repeat' split) <;> rfl
@[simp] theorem trainTo_hif (s : State) (t : Nat) : (s.trainTo t).hif = s.hif := by
  unfold State.trainTo; (repeat' split) <;> (try dsimp only) <;> (repeat' split) <;> rfl
@[simp] theorem trainTo_pgu (s : State) (t : Nat) : (s.trainTo t).pgu = s.pgu := by
  unfold State.trainTo; (repeat' split) <;> (try dsimp only) <;> (repeat' split) <;> rfl
@[simp] theorem trainTo_afe (s : State) (t : Nat) : (s.trainTo t).afe = s.afe := by
  unfold State.trainTo; (repeat' split) <;> (try dsimp only) <;> (repeat' split) <;> rfl
@[simp] theorem trainTo_pcx (s : State) (t : Nat) : (s.trainTo t).pcx = s.pcx := by
  unfold State.trainTo; (repeat' split) <;> (try dsimp only) <;> (repeat' split) <;> rfl
@[simp] theorem trainTo_gea (s : State) (t : Nat) : (s.trainTo t).gea = s.gea := by
  unfold State.trainTo; (repeat' split) <;> (try dsimp only) <;> (repeat' split) <;> rfl
@[simp] theorem trainTo_therm (s : State) (t : Nat) : (s.trainTo t).therm = s.therm := by
  unfold State.trainTo; (repeat' split) <;> (try dsimp only) <;> (repeat' split) <;> rfl
@[simp] theorem trainTo_mrs (s : State) (t : Nat) : (s.trainTo t).mrs = s.mrs := by
  unfold State.trainTo; (repeat' split) <;> (try dsimp only) <;> (repeat' split) <;> rfl
@[simp] theorem trainTo_znt (s : State) (t : Nat) : (s.trainTo t).znt = s.znt := by
  unfold State.trainTo; (repeat' split) <;> (try dsimp only) <;> (repeat' split) <;> rfl
@[simp] theorem trainTo_stu (s : State) (t : Nat) : (s.trainTo t).stu = s.stu := by
  unfold State.trainTo; (repeat' split) <;> (try dsimp only) <;> (repeat' split) <;> rfl
@[simp] theorem trainTo_tce (s : State) (t : Nat) : (s.trainTo t).tce = s.tce := by
  unfold State.trainTo; (repeat' split) <;> (try dsimp only) <;> (repeat' split) <;> rfl
@[simp] theorem trainTo_anc (s : State) (t : Nat) : (s.trainTo t).anc = s.anc := by
  unfold State.trainTo; (repeat' split) <;> (try dsimp only) <;> (repeat' split) <;> rfl
@[simp] theorem trainTo_vpf (s : State) (t : Nat) : (s.trainTo t).vpf = s.vpf := by
  unfold State.trainTo; (repeat' split) <;> (try dsimp only) <;> (repeat' split) <;> rfl
@[simp] theorem trainTo_dlk (s : State) (t : Nat) : (s.trainTo t).dlk = s.dlk := by
  unfold State.trainTo; (repeat' split) <;> (try dsimp only) <;> (repeat' split) <;> rfl
@[simp] theorem trainTo_sil (s : State) (t : Nat) : (s.trainTo t).sil = s.sil := by
  unfold State.trainTo; (repeat' split) <;> (try dsimp only) <;> (repeat' split) <;> rfl
@[simp] theorem trainTo_ttu (s : State) (t : Nat) : (s.trainTo t).ttu = s.ttu := by
  unfold State.trainTo; (repeat' split) <;> (try dsimp only) <;> (repeat' split) <;> rfl
@[simp] theorem trainTo_dmc (s : State) (t : Nat) : (s.trainTo t).dmc = s.dmc := by
  unfold State.trainTo; (repeat' split) <;> (try dsimp only) <;> (repeat' split) <;> rfl
@[simp] theorem trainTo_alm (s : State) (t : Nat) : (s.trainTo t).alm = s.alm := by
  unfold State.trainTo; (repeat' split) <;> (try dsimp only) <;> (repeat' split) <;> rfl
@[simp] theorem trainTo_cvu (s : State) (t : Nat) : (s.trainTo t).cvu = s.cvu := by
  unfold State.trainTo; (repeat' split) <;> (try dsimp only) <;> (repeat' split) <;> rfl
@[simp] theorem trainTo_gpio (s : State) (t : Nat) : (s.trainTo t).gpio = s.gpio := by
  unfold State.trainTo; (repeat' split) <;> (try dsimp only) <;> (repeat' split) <;> rfl
@[simp] theorem trainTo_gaps (s : State) (t : Nat) : (s.trainTo t).gaps = s.gaps := by
  unfold State.trainTo; (repeat' split) <;> (try dsimp only) <;> (repeat' split) <;> rfl
@[simp] theorem trainTo_free (s : State) (t : Nat) : (s.trainTo t).free = s.free := by
  unfold State.trainTo; (repeat' split) <;> (try dsimp only) <;> (repeat' split) <;> rfl

/-! The instant of a command changes `now`, `regs`, `csp`, `out` alone. -/

@[simp] theorem at_pending (s : State) (t : Nat) : (s.at_ t).pending = s.pending := by
  unfold State.at_; simp
@[simp] theorem at_frame (s : State) (t : Nat) : (s.at_ t).frame = s.frame := by
  unfold State.at_; simp
@[simp] theorem at_launch (s : State) (t : Nat) : (s.at_ t).launch = s.launch := by
  unfold State.at_; simp
@[simp] theorem at_logs (s : State) (t : Nat) : (s.at_ t).logs = s.logs := by
  unfold State.at_; simp
@[simp] theorem at_otp (s : State) (t : Nat) : (s.at_ t).otp = s.otp := by
  unfold State.at_; simp
@[simp] theorem at_flash (s : State) (t : Nat) : (s.at_ t).flash = s.flash := by
  unfold State.at_; simp
@[simp] theorem at_glb (s : State) (t : Nat) : (s.at_ t).glb = s.glb := by
  unfold State.at_; simp
@[simp] theorem at_pmu (s : State) (t : Nat) : (s.at_ t).pmu = s.pmu := by
  unfold State.at_; simp
@[simp] theorem at_hif (s : State) (t : Nat) : (s.at_ t).hif = s.hif := by
  unfold State.at_; simp
@[simp] theorem at_pgu (s : State) (t : Nat) : (s.at_ t).pgu = s.pgu := by
  unfold State.at_; simp
@[simp] theorem at_afe (s : State) (t : Nat) : (s.at_ t).afe = s.afe := by
  unfold State.at_; simp
@[simp] theorem at_pcx (s : State) (t : Nat) : (s.at_ t).pcx = s.pcx := by
  unfold State.at_; simp
@[simp] theorem at_gea (s : State) (t : Nat) : (s.at_ t).gea = s.gea := by
  unfold State.at_; simp
@[simp] theorem at_therm (s : State) (t : Nat) : (s.at_ t).therm = s.therm := by
  unfold State.at_; simp
@[simp] theorem at_mrs (s : State) (t : Nat) : (s.at_ t).mrs = s.mrs := by
  unfold State.at_; simp
@[simp] theorem at_znt (s : State) (t : Nat) : (s.at_ t).znt = s.znt := by
  unfold State.at_; simp
@[simp] theorem at_stu (s : State) (t : Nat) : (s.at_ t).stu = s.stu := by
  unfold State.at_; simp
@[simp] theorem at_tce (s : State) (t : Nat) : (s.at_ t).tce = s.tce := by
  unfold State.at_; simp
@[simp] theorem at_anc (s : State) (t : Nat) : (s.at_ t).anc = s.anc := by
  unfold State.at_; simp
@[simp] theorem at_vpf (s : State) (t : Nat) : (s.at_ t).vpf = s.vpf := by
  unfold State.at_; simp
@[simp] theorem at_dlk (s : State) (t : Nat) : (s.at_ t).dlk = s.dlk := by
  unfold State.at_; simp
@[simp] theorem at_sil (s : State) (t : Nat) : (s.at_ t).sil = s.sil := by
  unfold State.at_; simp
@[simp] theorem at_ttu (s : State) (t : Nat) : (s.at_ t).ttu = s.ttu := by
  unfold State.at_; simp
@[simp] theorem at_dmc (s : State) (t : Nat) : (s.at_ t).dmc = s.dmc := by
  unfold State.at_; simp
@[simp] theorem at_alm (s : State) (t : Nat) : (s.at_ t).alm = s.alm := by
  unfold State.at_; simp
@[simp] theorem at_cvu (s : State) (t : Nat) : (s.at_ t).cvu = s.cvu := by
  unfold State.at_; simp
@[simp] theorem at_gpio (s : State) (t : Nat) : (s.at_ t).gpio = s.gpio := by
  unfold State.at_; simp
@[simp] theorem at_gaps (s : State) (t : Nat) : (s.at_ t).gaps = s.gaps := by
  unfold State.at_; simp
@[simp] theorem at_free (s : State) (t : Nat) : (s.at_ t).free = s.free := by
  unfold State.at_; simp

/-! Free bytes changes `free` alone. -/

@[simp] theorem freeBytes_pending (s : State) (n : Nat) : (s.freeBytes n).2.pending = s.pending := rfl
@[simp] theorem freeBytes_now (s : State) (n : Nat) : (s.freeBytes n).2.now = s.now := rfl
@[simp] theorem freeBytes_frame (s : State) (n : Nat) : (s.freeBytes n).2.frame = s.frame := rfl
@[simp] theorem freeBytes_launch (s : State) (n : Nat) : (s.freeBytes n).2.launch = s.launch := rfl
@[simp] theorem freeBytes_regs (s : State) (n : Nat) : (s.freeBytes n).2.regs = s.regs := rfl
@[simp] theorem freeBytes_logs (s : State) (n : Nat) : (s.freeBytes n).2.logs = s.logs := rfl
@[simp] theorem freeBytes_otp (s : State) (n : Nat) : (s.freeBytes n).2.otp = s.otp := rfl
@[simp] theorem freeBytes_flash (s : State) (n : Nat) : (s.freeBytes n).2.flash = s.flash := rfl
@[simp] theorem freeBytes_glb (s : State) (n : Nat) : (s.freeBytes n).2.glb = s.glb := rfl
@[simp] theorem freeBytes_pmu (s : State) (n : Nat) : (s.freeBytes n).2.pmu = s.pmu := rfl
@[simp] theorem freeBytes_hif (s : State) (n : Nat) : (s.freeBytes n).2.hif = s.hif := rfl
@[simp] theorem freeBytes_pgu (s : State) (n : Nat) : (s.freeBytes n).2.pgu = s.pgu := rfl
@[simp] theorem freeBytes_afe (s : State) (n : Nat) : (s.freeBytes n).2.afe = s.afe := rfl
@[simp] theorem freeBytes_pcx (s : State) (n : Nat) : (s.freeBytes n).2.pcx = s.pcx := rfl
@[simp] theorem freeBytes_gea (s : State) (n : Nat) : (s.freeBytes n).2.gea = s.gea := rfl
@[simp] theorem freeBytes_therm (s : State) (n : Nat) : (s.freeBytes n).2.therm = s.therm := rfl
@[simp] theorem freeBytes_mrs (s : State) (n : Nat) : (s.freeBytes n).2.mrs = s.mrs := rfl
@[simp] theorem freeBytes_znt (s : State) (n : Nat) : (s.freeBytes n).2.znt = s.znt := rfl
@[simp] theorem freeBytes_stu (s : State) (n : Nat) : (s.freeBytes n).2.stu = s.stu := rfl
@[simp] theorem freeBytes_tce (s : State) (n : Nat) : (s.freeBytes n).2.tce = s.tce := rfl
@[simp] theorem freeBytes_anc (s : State) (n : Nat) : (s.freeBytes n).2.anc = s.anc := rfl
@[simp] theorem freeBytes_vpf (s : State) (n : Nat) : (s.freeBytes n).2.vpf = s.vpf := rfl
@[simp] theorem freeBytes_dlk (s : State) (n : Nat) : (s.freeBytes n).2.dlk = s.dlk := rfl
@[simp] theorem freeBytes_csp (s : State) (n : Nat) : (s.freeBytes n).2.csp = s.csp := rfl
@[simp] theorem freeBytes_sil (s : State) (n : Nat) : (s.freeBytes n).2.sil = s.sil := rfl
@[simp] theorem freeBytes_ttu (s : State) (n : Nat) : (s.freeBytes n).2.ttu = s.ttu := rfl
@[simp] theorem freeBytes_dmc (s : State) (n : Nat) : (s.freeBytes n).2.dmc = s.dmc := rfl
@[simp] theorem freeBytes_alm (s : State) (n : Nat) : (s.freeBytes n).2.alm = s.alm := rfl
@[simp] theorem freeBytes_cvu (s : State) (n : Nat) : (s.freeBytes n).2.cvu = s.cvu := rfl
@[simp] theorem freeBytes_gpio (s : State) (n : Nat) : (s.freeBytes n).2.gpio = s.gpio := rfl
@[simp] theorem freeBytes_gaps (s : State) (n : Nat) : (s.freeBytes n).2.gaps = s.gaps := rfl
@[simp] theorem freeBytes_out (s : State) (n : Nat) : (s.freeBytes n).2.out = s.out := rfl

/-! An entry of an error log changes `logs` alone. -/

@[simp] theorem logFor_pending (s : State) (path code frame bin : Nat) : (s.logFor path code frame bin).pending = s.pending := rfl
@[simp] theorem logFor_now (s : State) (path code frame bin : Nat) : (s.logFor path code frame bin).now = s.now := rfl
@[simp] theorem logFor_frame (s : State) (path code frame bin : Nat) : (s.logFor path code frame bin).frame = s.frame := rfl
@[simp] theorem logFor_launch (s : State) (path code frame bin : Nat) : (s.logFor path code frame bin).launch = s.launch := rfl
@[simp] theorem logFor_regs (s : State) (path code frame bin : Nat) : (s.logFor path code frame bin).regs = s.regs := rfl
@[simp] theorem logFor_otp (s : State) (path code frame bin : Nat) : (s.logFor path code frame bin).otp = s.otp := rfl
@[simp] theorem logFor_flash (s : State) (path code frame bin : Nat) : (s.logFor path code frame bin).flash = s.flash := rfl
@[simp] theorem logFor_glb (s : State) (path code frame bin : Nat) : (s.logFor path code frame bin).glb = s.glb := rfl
@[simp] theorem logFor_pmu (s : State) (path code frame bin : Nat) : (s.logFor path code frame bin).pmu = s.pmu := rfl
@[simp] theorem logFor_hif (s : State) (path code frame bin : Nat) : (s.logFor path code frame bin).hif = s.hif := rfl
@[simp] theorem logFor_pgu (s : State) (path code frame bin : Nat) : (s.logFor path code frame bin).pgu = s.pgu := rfl
@[simp] theorem logFor_afe (s : State) (path code frame bin : Nat) : (s.logFor path code frame bin).afe = s.afe := rfl
@[simp] theorem logFor_pcx (s : State) (path code frame bin : Nat) : (s.logFor path code frame bin).pcx = s.pcx := rfl
@[simp] theorem logFor_gea (s : State) (path code frame bin : Nat) : (s.logFor path code frame bin).gea = s.gea := rfl
@[simp] theorem logFor_therm (s : State) (path code frame bin : Nat) : (s.logFor path code frame bin).therm = s.therm := rfl
@[simp] theorem logFor_mrs (s : State) (path code frame bin : Nat) : (s.logFor path code frame bin).mrs = s.mrs := rfl
@[simp] theorem logFor_znt (s : State) (path code frame bin : Nat) : (s.logFor path code frame bin).znt = s.znt := rfl
@[simp] theorem logFor_stu (s : State) (path code frame bin : Nat) : (s.logFor path code frame bin).stu = s.stu := rfl
@[simp] theorem logFor_tce (s : State) (path code frame bin : Nat) : (s.logFor path code frame bin).tce = s.tce := rfl
@[simp] theorem logFor_anc (s : State) (path code frame bin : Nat) : (s.logFor path code frame bin).anc = s.anc := rfl
@[simp] theorem logFor_vpf (s : State) (path code frame bin : Nat) : (s.logFor path code frame bin).vpf = s.vpf := rfl
@[simp] theorem logFor_dlk (s : State) (path code frame bin : Nat) : (s.logFor path code frame bin).dlk = s.dlk := rfl
@[simp] theorem logFor_csp (s : State) (path code frame bin : Nat) : (s.logFor path code frame bin).csp = s.csp := rfl
@[simp] theorem logFor_sil (s : State) (path code frame bin : Nat) : (s.logFor path code frame bin).sil = s.sil := rfl
@[simp] theorem logFor_ttu (s : State) (path code frame bin : Nat) : (s.logFor path code frame bin).ttu = s.ttu := rfl
@[simp] theorem logFor_dmc (s : State) (path code frame bin : Nat) : (s.logFor path code frame bin).dmc = s.dmc := rfl
@[simp] theorem logFor_alm (s : State) (path code frame bin : Nat) : (s.logFor path code frame bin).alm = s.alm := rfl
@[simp] theorem logFor_cvu (s : State) (path code frame bin : Nat) : (s.logFor path code frame bin).cvu = s.cvu := rfl
@[simp] theorem logFor_gpio (s : State) (path code frame bin : Nat) : (s.logFor path code frame bin).gpio = s.gpio := rfl
@[simp] theorem logFor_gaps (s : State) (path code frame bin : Nat) : (s.logFor path code frame bin).gaps = s.gaps := rfl
@[simp] theorem logFor_free (s : State) (path code frame bin : Nat) : (s.logFor path code frame bin).free = s.free := rfl
@[simp] theorem logFor_out (s : State) (path code frame bin : Nat) : (s.logFor path code frame bin).out = s.out := rfl

/-! An entry at the current range-time changes `logs` alone. -/

@[simp] theorem logAt_pending (s : State) (path code : Nat) : (s.logAt path code).pending = s.pending := rfl
@[simp] theorem logAt_now (s : State) (path code : Nat) : (s.logAt path code).now = s.now := rfl
@[simp] theorem logAt_frame (s : State) (path code : Nat) : (s.logAt path code).frame = s.frame := rfl
@[simp] theorem logAt_launch (s : State) (path code : Nat) : (s.logAt path code).launch = s.launch := rfl
@[simp] theorem logAt_regs (s : State) (path code : Nat) : (s.logAt path code).regs = s.regs := rfl
@[simp] theorem logAt_otp (s : State) (path code : Nat) : (s.logAt path code).otp = s.otp := rfl
@[simp] theorem logAt_flash (s : State) (path code : Nat) : (s.logAt path code).flash = s.flash := rfl
@[simp] theorem logAt_glb (s : State) (path code : Nat) : (s.logAt path code).glb = s.glb := rfl
@[simp] theorem logAt_pmu (s : State) (path code : Nat) : (s.logAt path code).pmu = s.pmu := rfl
@[simp] theorem logAt_hif (s : State) (path code : Nat) : (s.logAt path code).hif = s.hif := rfl
@[simp] theorem logAt_pgu (s : State) (path code : Nat) : (s.logAt path code).pgu = s.pgu := rfl
@[simp] theorem logAt_afe (s : State) (path code : Nat) : (s.logAt path code).afe = s.afe := rfl
@[simp] theorem logAt_pcx (s : State) (path code : Nat) : (s.logAt path code).pcx = s.pcx := rfl
@[simp] theorem logAt_gea (s : State) (path code : Nat) : (s.logAt path code).gea = s.gea := rfl
@[simp] theorem logAt_therm (s : State) (path code : Nat) : (s.logAt path code).therm = s.therm := rfl
@[simp] theorem logAt_mrs (s : State) (path code : Nat) : (s.logAt path code).mrs = s.mrs := rfl
@[simp] theorem logAt_znt (s : State) (path code : Nat) : (s.logAt path code).znt = s.znt := rfl
@[simp] theorem logAt_stu (s : State) (path code : Nat) : (s.logAt path code).stu = s.stu := rfl
@[simp] theorem logAt_tce (s : State) (path code : Nat) : (s.logAt path code).tce = s.tce := rfl
@[simp] theorem logAt_anc (s : State) (path code : Nat) : (s.logAt path code).anc = s.anc := rfl
@[simp] theorem logAt_vpf (s : State) (path code : Nat) : (s.logAt path code).vpf = s.vpf := rfl
@[simp] theorem logAt_dlk (s : State) (path code : Nat) : (s.logAt path code).dlk = s.dlk := rfl
@[simp] theorem logAt_csp (s : State) (path code : Nat) : (s.logAt path code).csp = s.csp := rfl
@[simp] theorem logAt_sil (s : State) (path code : Nat) : (s.logAt path code).sil = s.sil := rfl
@[simp] theorem logAt_ttu (s : State) (path code : Nat) : (s.logAt path code).ttu = s.ttu := rfl
@[simp] theorem logAt_dmc (s : State) (path code : Nat) : (s.logAt path code).dmc = s.dmc := rfl
@[simp] theorem logAt_alm (s : State) (path code : Nat) : (s.logAt path code).alm = s.alm := rfl
@[simp] theorem logAt_cvu (s : State) (path code : Nat) : (s.logAt path code).cvu = s.cvu := rfl
@[simp] theorem logAt_gpio (s : State) (path code : Nat) : (s.logAt path code).gpio = s.gpio := rfl
@[simp] theorem logAt_gaps (s : State) (path code : Nat) : (s.logAt path code).gaps = s.gaps := rfl
@[simp] theorem logAt_free (s : State) (path code : Nat) : (s.logAt path code).free = s.free := rfl
@[simp] theorem logAt_out (s : State) (path code : Nat) : (s.logAt path code).out = s.out := rfl

/-! A shown code changes `regs` alone. -/

@[simp] theorem show_pending (s : State) (u : Machine.Unit) (code detail : Nat) : (s.show u code detail).pending = s.pending := by
  unfold State.show; split <;> rfl
@[simp] theorem show_now (s : State) (u : Machine.Unit) (code detail : Nat) : (s.show u code detail).now = s.now := by
  unfold State.show; split <;> rfl
@[simp] theorem show_frame (s : State) (u : Machine.Unit) (code detail : Nat) : (s.show u code detail).frame = s.frame := by
  unfold State.show; split <;> rfl
@[simp] theorem show_launch (s : State) (u : Machine.Unit) (code detail : Nat) : (s.show u code detail).launch = s.launch := by
  unfold State.show; split <;> rfl
@[simp] theorem show_logs (s : State) (u : Machine.Unit) (code detail : Nat) : (s.show u code detail).logs = s.logs := by
  unfold State.show; split <;> rfl
@[simp] theorem show_otp (s : State) (u : Machine.Unit) (code detail : Nat) : (s.show u code detail).otp = s.otp := by
  unfold State.show; split <;> rfl
@[simp] theorem show_flash (s : State) (u : Machine.Unit) (code detail : Nat) : (s.show u code detail).flash = s.flash := by
  unfold State.show; split <;> rfl
@[simp] theorem show_glb (s : State) (u : Machine.Unit) (code detail : Nat) : (s.show u code detail).glb = s.glb := by
  unfold State.show; split <;> rfl
@[simp] theorem show_pmu (s : State) (u : Machine.Unit) (code detail : Nat) : (s.show u code detail).pmu = s.pmu := by
  unfold State.show; split <;> rfl
@[simp] theorem show_hif (s : State) (u : Machine.Unit) (code detail : Nat) : (s.show u code detail).hif = s.hif := by
  unfold State.show; split <;> rfl
@[simp] theorem show_pgu (s : State) (u : Machine.Unit) (code detail : Nat) : (s.show u code detail).pgu = s.pgu := by
  unfold State.show; split <;> rfl
@[simp] theorem show_afe (s : State) (u : Machine.Unit) (code detail : Nat) : (s.show u code detail).afe = s.afe := by
  unfold State.show; split <;> rfl
@[simp] theorem show_pcx (s : State) (u : Machine.Unit) (code detail : Nat) : (s.show u code detail).pcx = s.pcx := by
  unfold State.show; split <;> rfl
@[simp] theorem show_gea (s : State) (u : Machine.Unit) (code detail : Nat) : (s.show u code detail).gea = s.gea := by
  unfold State.show; split <;> rfl
@[simp] theorem show_therm (s : State) (u : Machine.Unit) (code detail : Nat) : (s.show u code detail).therm = s.therm := by
  unfold State.show; split <;> rfl
@[simp] theorem show_mrs (s : State) (u : Machine.Unit) (code detail : Nat) : (s.show u code detail).mrs = s.mrs := by
  unfold State.show; split <;> rfl
@[simp] theorem show_znt (s : State) (u : Machine.Unit) (code detail : Nat) : (s.show u code detail).znt = s.znt := by
  unfold State.show; split <;> rfl
@[simp] theorem show_stu (s : State) (u : Machine.Unit) (code detail : Nat) : (s.show u code detail).stu = s.stu := by
  unfold State.show; split <;> rfl
@[simp] theorem show_tce (s : State) (u : Machine.Unit) (code detail : Nat) : (s.show u code detail).tce = s.tce := by
  unfold State.show; split <;> rfl
@[simp] theorem show_anc (s : State) (u : Machine.Unit) (code detail : Nat) : (s.show u code detail).anc = s.anc := by
  unfold State.show; split <;> rfl
@[simp] theorem show_vpf (s : State) (u : Machine.Unit) (code detail : Nat) : (s.show u code detail).vpf = s.vpf := by
  unfold State.show; split <;> rfl
@[simp] theorem show_dlk (s : State) (u : Machine.Unit) (code detail : Nat) : (s.show u code detail).dlk = s.dlk := by
  unfold State.show; split <;> rfl
@[simp] theorem show_csp (s : State) (u : Machine.Unit) (code detail : Nat) : (s.show u code detail).csp = s.csp := by
  unfold State.show; split <;> rfl
@[simp] theorem show_sil (s : State) (u : Machine.Unit) (code detail : Nat) : (s.show u code detail).sil = s.sil := by
  unfold State.show; split <;> rfl
@[simp] theorem show_ttu (s : State) (u : Machine.Unit) (code detail : Nat) : (s.show u code detail).ttu = s.ttu := by
  unfold State.show; split <;> rfl
@[simp] theorem show_dmc (s : State) (u : Machine.Unit) (code detail : Nat) : (s.show u code detail).dmc = s.dmc := by
  unfold State.show; split <;> rfl
@[simp] theorem show_alm (s : State) (u : Machine.Unit) (code detail : Nat) : (s.show u code detail).alm = s.alm := by
  unfold State.show; split <;> rfl
@[simp] theorem show_cvu (s : State) (u : Machine.Unit) (code detail : Nat) : (s.show u code detail).cvu = s.cvu := by
  unfold State.show; split <;> rfl
@[simp] theorem show_gpio (s : State) (u : Machine.Unit) (code detail : Nat) : (s.show u code detail).gpio = s.gpio := by
  unfold State.show; split <;> rfl
@[simp] theorem show_gaps (s : State) (u : Machine.Unit) (code detail : Nat) : (s.show u code detail).gaps = s.gaps := by
  unfold State.show; split <;> rfl
@[simp] theorem show_free (s : State) (u : Machine.Unit) (code detail : Nat) : (s.show u code detail).free = s.free := by
  unfold State.show; split <;> rfl
@[simp] theorem show_out (s : State) (u : Machine.Unit) (code detail : Nat) : (s.show u code detail).out = s.out := by
  unfold State.show; split <;> rfl

/-! A reported code changes `regs` and `logs` alone. -/

@[simp] theorem post_pending (s : State) (u : Machine.Unit) (code detail : Nat) : (s.post u code detail).pending = s.pending := by
  unfold State.post; dsimp only; split <;> simp
@[simp] theorem post_now (s : State) (u : Machine.Unit) (code detail : Nat) : (s.post u code detail).now = s.now := by
  unfold State.post; dsimp only; split <;> simp
@[simp] theorem post_frame (s : State) (u : Machine.Unit) (code detail : Nat) : (s.post u code detail).frame = s.frame := by
  unfold State.post; dsimp only; split <;> simp
@[simp] theorem post_launch (s : State) (u : Machine.Unit) (code detail : Nat) : (s.post u code detail).launch = s.launch := by
  unfold State.post; dsimp only; split <;> simp
@[simp] theorem post_otp (s : State) (u : Machine.Unit) (code detail : Nat) : (s.post u code detail).otp = s.otp := by
  unfold State.post; dsimp only; split <;> simp
@[simp] theorem post_flash (s : State) (u : Machine.Unit) (code detail : Nat) : (s.post u code detail).flash = s.flash := by
  unfold State.post; dsimp only; split <;> simp
@[simp] theorem post_glb (s : State) (u : Machine.Unit) (code detail : Nat) : (s.post u code detail).glb = s.glb := by
  unfold State.post; dsimp only; split <;> simp
@[simp] theorem post_pmu (s : State) (u : Machine.Unit) (code detail : Nat) : (s.post u code detail).pmu = s.pmu := by
  unfold State.post; dsimp only; split <;> simp
@[simp] theorem post_hif (s : State) (u : Machine.Unit) (code detail : Nat) : (s.post u code detail).hif = s.hif := by
  unfold State.post; dsimp only; split <;> simp
@[simp] theorem post_pgu (s : State) (u : Machine.Unit) (code detail : Nat) : (s.post u code detail).pgu = s.pgu := by
  unfold State.post; dsimp only; split <;> simp
@[simp] theorem post_afe (s : State) (u : Machine.Unit) (code detail : Nat) : (s.post u code detail).afe = s.afe := by
  unfold State.post; dsimp only; split <;> simp
@[simp] theorem post_pcx (s : State) (u : Machine.Unit) (code detail : Nat) : (s.post u code detail).pcx = s.pcx := by
  unfold State.post; dsimp only; split <;> simp
@[simp] theorem post_gea (s : State) (u : Machine.Unit) (code detail : Nat) : (s.post u code detail).gea = s.gea := by
  unfold State.post; dsimp only; split <;> simp
@[simp] theorem post_therm (s : State) (u : Machine.Unit) (code detail : Nat) : (s.post u code detail).therm = s.therm := by
  unfold State.post; dsimp only; split <;> simp
@[simp] theorem post_mrs (s : State) (u : Machine.Unit) (code detail : Nat) : (s.post u code detail).mrs = s.mrs := by
  unfold State.post; dsimp only; split <;> simp
@[simp] theorem post_znt (s : State) (u : Machine.Unit) (code detail : Nat) : (s.post u code detail).znt = s.znt := by
  unfold State.post; dsimp only; split <;> simp
@[simp] theorem post_stu (s : State) (u : Machine.Unit) (code detail : Nat) : (s.post u code detail).stu = s.stu := by
  unfold State.post; dsimp only; split <;> simp
@[simp] theorem post_tce (s : State) (u : Machine.Unit) (code detail : Nat) : (s.post u code detail).tce = s.tce := by
  unfold State.post; dsimp only; split <;> simp
@[simp] theorem post_anc (s : State) (u : Machine.Unit) (code detail : Nat) : (s.post u code detail).anc = s.anc := by
  unfold State.post; dsimp only; split <;> simp
@[simp] theorem post_vpf (s : State) (u : Machine.Unit) (code detail : Nat) : (s.post u code detail).vpf = s.vpf := by
  unfold State.post; dsimp only; split <;> simp
@[simp] theorem post_dlk (s : State) (u : Machine.Unit) (code detail : Nat) : (s.post u code detail).dlk = s.dlk := by
  unfold State.post; dsimp only; split <;> simp
@[simp] theorem post_csp (s : State) (u : Machine.Unit) (code detail : Nat) : (s.post u code detail).csp = s.csp := by
  unfold State.post; dsimp only; split <;> simp
@[simp] theorem post_sil (s : State) (u : Machine.Unit) (code detail : Nat) : (s.post u code detail).sil = s.sil := by
  unfold State.post; dsimp only; split <;> simp
@[simp] theorem post_ttu (s : State) (u : Machine.Unit) (code detail : Nat) : (s.post u code detail).ttu = s.ttu := by
  unfold State.post; dsimp only; split <;> simp
@[simp] theorem post_dmc (s : State) (u : Machine.Unit) (code detail : Nat) : (s.post u code detail).dmc = s.dmc := by
  unfold State.post; dsimp only; split <;> simp
@[simp] theorem post_alm (s : State) (u : Machine.Unit) (code detail : Nat) : (s.post u code detail).alm = s.alm := by
  unfold State.post; dsimp only; split <;> simp
@[simp] theorem post_cvu (s : State) (u : Machine.Unit) (code detail : Nat) : (s.post u code detail).cvu = s.cvu := by
  unfold State.post; dsimp only; split <;> simp
@[simp] theorem post_gpio (s : State) (u : Machine.Unit) (code detail : Nat) : (s.post u code detail).gpio = s.gpio := by
  unfold State.post; dsimp only; split <;> simp
@[simp] theorem post_gaps (s : State) (u : Machine.Unit) (code detail : Nat) : (s.post u code detail).gaps = s.gaps := by
  unfold State.post; dsimp only; split <;> simp
@[simp] theorem post_free (s : State) (u : Machine.Unit) (code detail : Nat) : (s.post u code detail).free = s.free := by
  unfold State.post; dsimp only; split <;> simp
@[simp] theorem post_out (s : State) (u : Machine.Unit) (code detail : Nat) : (s.post u code detail).out = s.out := by
  unfold State.post; dsimp only; split <;> simp

/-! A signalled vector changes `regs` and `out` alone. -/

@[simp] theorem signal_pending (s : State) (v : Nat) : (s.signal v).pending = s.pending := by
  unfold State.signal; dsimp only; repeat' split
  all_goals rfl
@[simp] theorem signal_now (s : State) (v : Nat) : (s.signal v).now = s.now := by
  unfold State.signal; dsimp only; repeat' split
  all_goals rfl
@[simp] theorem signal_frame (s : State) (v : Nat) : (s.signal v).frame = s.frame := by
  unfold State.signal; dsimp only; repeat' split
  all_goals rfl
@[simp] theorem signal_launch (s : State) (v : Nat) : (s.signal v).launch = s.launch := by
  unfold State.signal; dsimp only; repeat' split
  all_goals rfl
@[simp] theorem signal_logs (s : State) (v : Nat) : (s.signal v).logs = s.logs := by
  unfold State.signal; dsimp only; repeat' split
  all_goals rfl
@[simp] theorem signal_otp (s : State) (v : Nat) : (s.signal v).otp = s.otp := by
  unfold State.signal; dsimp only; repeat' split
  all_goals rfl
@[simp] theorem signal_flash (s : State) (v : Nat) : (s.signal v).flash = s.flash := by
  unfold State.signal; dsimp only; repeat' split
  all_goals rfl
@[simp] theorem signal_glb (s : State) (v : Nat) : (s.signal v).glb = s.glb := by
  unfold State.signal; dsimp only; repeat' split
  all_goals rfl
@[simp] theorem signal_pmu (s : State) (v : Nat) : (s.signal v).pmu = s.pmu := by
  unfold State.signal; dsimp only; repeat' split
  all_goals rfl
@[simp] theorem signal_hif (s : State) (v : Nat) : (s.signal v).hif = s.hif := by
  unfold State.signal; dsimp only; repeat' split
  all_goals rfl
@[simp] theorem signal_pgu (s : State) (v : Nat) : (s.signal v).pgu = s.pgu := by
  unfold State.signal; dsimp only; repeat' split
  all_goals rfl
@[simp] theorem signal_afe (s : State) (v : Nat) : (s.signal v).afe = s.afe := by
  unfold State.signal; dsimp only; repeat' split
  all_goals rfl
@[simp] theorem signal_pcx (s : State) (v : Nat) : (s.signal v).pcx = s.pcx := by
  unfold State.signal; dsimp only; repeat' split
  all_goals rfl
@[simp] theorem signal_gea (s : State) (v : Nat) : (s.signal v).gea = s.gea := by
  unfold State.signal; dsimp only; repeat' split
  all_goals rfl
@[simp] theorem signal_therm (s : State) (v : Nat) : (s.signal v).therm = s.therm := by
  unfold State.signal; dsimp only; repeat' split
  all_goals rfl
@[simp] theorem signal_mrs (s : State) (v : Nat) : (s.signal v).mrs = s.mrs := by
  unfold State.signal; dsimp only; repeat' split
  all_goals rfl
@[simp] theorem signal_znt (s : State) (v : Nat) : (s.signal v).znt = s.znt := by
  unfold State.signal; dsimp only; repeat' split
  all_goals rfl
@[simp] theorem signal_stu (s : State) (v : Nat) : (s.signal v).stu = s.stu := by
  unfold State.signal; dsimp only; repeat' split
  all_goals rfl
@[simp] theorem signal_tce (s : State) (v : Nat) : (s.signal v).tce = s.tce := by
  unfold State.signal; dsimp only; repeat' split
  all_goals rfl
@[simp] theorem signal_anc (s : State) (v : Nat) : (s.signal v).anc = s.anc := by
  unfold State.signal; dsimp only; repeat' split
  all_goals rfl
@[simp] theorem signal_vpf (s : State) (v : Nat) : (s.signal v).vpf = s.vpf := by
  unfold State.signal; dsimp only; repeat' split
  all_goals rfl
@[simp] theorem signal_dlk (s : State) (v : Nat) : (s.signal v).dlk = s.dlk := by
  unfold State.signal; dsimp only; repeat' split
  all_goals rfl
@[simp] theorem signal_csp (s : State) (v : Nat) : (s.signal v).csp = s.csp := by
  unfold State.signal; dsimp only; repeat' split
  all_goals rfl
@[simp] theorem signal_sil (s : State) (v : Nat) : (s.signal v).sil = s.sil := by
  unfold State.signal; dsimp only; repeat' split
  all_goals rfl
@[simp] theorem signal_ttu (s : State) (v : Nat) : (s.signal v).ttu = s.ttu := by
  unfold State.signal; dsimp only; repeat' split
  all_goals rfl
@[simp] theorem signal_dmc (s : State) (v : Nat) : (s.signal v).dmc = s.dmc := by
  unfold State.signal; dsimp only; repeat' split
  all_goals rfl
@[simp] theorem signal_alm (s : State) (v : Nat) : (s.signal v).alm = s.alm := by
  unfold State.signal; dsimp only; repeat' split
  all_goals rfl
@[simp] theorem signal_cvu (s : State) (v : Nat) : (s.signal v).cvu = s.cvu := by
  unfold State.signal; dsimp only; repeat' split
  all_goals rfl
@[simp] theorem signal_gpio (s : State) (v : Nat) : (s.signal v).gpio = s.gpio := by
  unfold State.signal; dsimp only; repeat' split
  all_goals rfl
@[simp] theorem signal_gaps (s : State) (v : Nat) : (s.signal v).gaps = s.gaps := by
  unfold State.signal; dsimp only; repeat' split
  all_goals rfl
@[simp] theorem signal_free (s : State) (v : Nat) : (s.signal v).free = s.free := by
  unfold State.signal; dsimp only; repeat' split
  all_goals rfl

/-! A settled interrupt source changes `regs`, `out`, `hif` alone. -/

@[simp] theorem settleIrqAt_pending (s : State) (n : Nat) : (s.settleIrqAt n).pending = s.pending := by
  unfold State.settleIrqAt; dsimp only; split <;> simp
@[simp] theorem settleIrqAt_now (s : State) (n : Nat) : (s.settleIrqAt n).now = s.now := by
  unfold State.settleIrqAt; dsimp only; split <;> simp
@[simp] theorem settleIrqAt_frame (s : State) (n : Nat) : (s.settleIrqAt n).frame = s.frame := by
  unfold State.settleIrqAt; dsimp only; split <;> simp
@[simp] theorem settleIrqAt_launch (s : State) (n : Nat) : (s.settleIrqAt n).launch = s.launch := by
  unfold State.settleIrqAt; dsimp only; split <;> simp
@[simp] theorem settleIrqAt_logs (s : State) (n : Nat) : (s.settleIrqAt n).logs = s.logs := by
  unfold State.settleIrqAt; dsimp only; split <;> simp
@[simp] theorem settleIrqAt_otp (s : State) (n : Nat) : (s.settleIrqAt n).otp = s.otp := by
  unfold State.settleIrqAt; dsimp only; split <;> simp
@[simp] theorem settleIrqAt_flash (s : State) (n : Nat) : (s.settleIrqAt n).flash = s.flash := by
  unfold State.settleIrqAt; dsimp only; split <;> simp
@[simp] theorem settleIrqAt_glb (s : State) (n : Nat) : (s.settleIrqAt n).glb = s.glb := by
  unfold State.settleIrqAt; dsimp only; split <;> simp
@[simp] theorem settleIrqAt_pmu (s : State) (n : Nat) : (s.settleIrqAt n).pmu = s.pmu := by
  unfold State.settleIrqAt; dsimp only; split <;> simp
@[simp] theorem settleIrqAt_pgu (s : State) (n : Nat) : (s.settleIrqAt n).pgu = s.pgu := by
  unfold State.settleIrqAt; dsimp only; split <;> simp
@[simp] theorem settleIrqAt_afe (s : State) (n : Nat) : (s.settleIrqAt n).afe = s.afe := by
  unfold State.settleIrqAt; dsimp only; split <;> simp
@[simp] theorem settleIrqAt_pcx (s : State) (n : Nat) : (s.settleIrqAt n).pcx = s.pcx := by
  unfold State.settleIrqAt; dsimp only; split <;> simp
@[simp] theorem settleIrqAt_gea (s : State) (n : Nat) : (s.settleIrqAt n).gea = s.gea := by
  unfold State.settleIrqAt; dsimp only; split <;> simp
@[simp] theorem settleIrqAt_therm (s : State) (n : Nat) : (s.settleIrqAt n).therm = s.therm := by
  unfold State.settleIrqAt; dsimp only; split <;> simp
@[simp] theorem settleIrqAt_mrs (s : State) (n : Nat) : (s.settleIrqAt n).mrs = s.mrs := by
  unfold State.settleIrqAt; dsimp only; split <;> simp
@[simp] theorem settleIrqAt_znt (s : State) (n : Nat) : (s.settleIrqAt n).znt = s.znt := by
  unfold State.settleIrqAt; dsimp only; split <;> simp
@[simp] theorem settleIrqAt_stu (s : State) (n : Nat) : (s.settleIrqAt n).stu = s.stu := by
  unfold State.settleIrqAt; dsimp only; split <;> simp
@[simp] theorem settleIrqAt_tce (s : State) (n : Nat) : (s.settleIrqAt n).tce = s.tce := by
  unfold State.settleIrqAt; dsimp only; split <;> simp
@[simp] theorem settleIrqAt_anc (s : State) (n : Nat) : (s.settleIrqAt n).anc = s.anc := by
  unfold State.settleIrqAt; dsimp only; split <;> simp
@[simp] theorem settleIrqAt_vpf (s : State) (n : Nat) : (s.settleIrqAt n).vpf = s.vpf := by
  unfold State.settleIrqAt; dsimp only; split <;> simp
@[simp] theorem settleIrqAt_dlk (s : State) (n : Nat) : (s.settleIrqAt n).dlk = s.dlk := by
  unfold State.settleIrqAt; dsimp only; split <;> simp
@[simp] theorem settleIrqAt_csp (s : State) (n : Nat) : (s.settleIrqAt n).csp = s.csp := by
  unfold State.settleIrqAt; dsimp only; split <;> simp
@[simp] theorem settleIrqAt_sil (s : State) (n : Nat) : (s.settleIrqAt n).sil = s.sil := by
  unfold State.settleIrqAt; dsimp only; split <;> simp
@[simp] theorem settleIrqAt_ttu (s : State) (n : Nat) : (s.settleIrqAt n).ttu = s.ttu := by
  unfold State.settleIrqAt; dsimp only; split <;> simp
@[simp] theorem settleIrqAt_dmc (s : State) (n : Nat) : (s.settleIrqAt n).dmc = s.dmc := by
  unfold State.settleIrqAt; dsimp only; split <;> simp
@[simp] theorem settleIrqAt_alm (s : State) (n : Nat) : (s.settleIrqAt n).alm = s.alm := by
  unfold State.settleIrqAt; dsimp only; split <;> simp
@[simp] theorem settleIrqAt_cvu (s : State) (n : Nat) : (s.settleIrqAt n).cvu = s.cvu := by
  unfold State.settleIrqAt; dsimp only; split <;> simp
@[simp] theorem settleIrqAt_gpio (s : State) (n : Nat) : (s.settleIrqAt n).gpio = s.gpio := by
  unfold State.settleIrqAt; dsimp only; split <;> simp
@[simp] theorem settleIrqAt_gaps (s : State) (n : Nat) : (s.settleIrqAt n).gaps = s.gaps := by
  unfold State.settleIrqAt; dsimp only; split <;> simp
@[simp] theorem settleIrqAt_free (s : State) (n : Nat) : (s.settleIrqAt n).free = s.free := by
  unfold State.settleIrqAt; dsimp only; split <;> simp

/-! A raised status bit changes `regs`, `out`, `hif` alone. -/

@[simp] theorem raise_pending (s : State) (u : Machine.Unit) (f : Fld) : (s.raise u f).pending = s.pending := by
  unfold State.raise; simp
@[simp] theorem raise_now (s : State) (u : Machine.Unit) (f : Fld) : (s.raise u f).now = s.now := by
  unfold State.raise; simp
@[simp] theorem raise_frame (s : State) (u : Machine.Unit) (f : Fld) : (s.raise u f).frame = s.frame := by
  unfold State.raise; simp
@[simp] theorem raise_launch (s : State) (u : Machine.Unit) (f : Fld) : (s.raise u f).launch = s.launch := by
  unfold State.raise; simp
@[simp] theorem raise_logs (s : State) (u : Machine.Unit) (f : Fld) : (s.raise u f).logs = s.logs := by
  unfold State.raise; simp
@[simp] theorem raise_otp (s : State) (u : Machine.Unit) (f : Fld) : (s.raise u f).otp = s.otp := by
  unfold State.raise; simp
@[simp] theorem raise_flash (s : State) (u : Machine.Unit) (f : Fld) : (s.raise u f).flash = s.flash := by
  unfold State.raise; simp
@[simp] theorem raise_glb (s : State) (u : Machine.Unit) (f : Fld) : (s.raise u f).glb = s.glb := by
  unfold State.raise; simp
@[simp] theorem raise_pmu (s : State) (u : Machine.Unit) (f : Fld) : (s.raise u f).pmu = s.pmu := by
  unfold State.raise; simp
@[simp] theorem raise_pgu (s : State) (u : Machine.Unit) (f : Fld) : (s.raise u f).pgu = s.pgu := by
  unfold State.raise; simp
@[simp] theorem raise_afe (s : State) (u : Machine.Unit) (f : Fld) : (s.raise u f).afe = s.afe := by
  unfold State.raise; simp
@[simp] theorem raise_pcx (s : State) (u : Machine.Unit) (f : Fld) : (s.raise u f).pcx = s.pcx := by
  unfold State.raise; simp
@[simp] theorem raise_gea (s : State) (u : Machine.Unit) (f : Fld) : (s.raise u f).gea = s.gea := by
  unfold State.raise; simp
@[simp] theorem raise_therm (s : State) (u : Machine.Unit) (f : Fld) : (s.raise u f).therm = s.therm := by
  unfold State.raise; simp
@[simp] theorem raise_mrs (s : State) (u : Machine.Unit) (f : Fld) : (s.raise u f).mrs = s.mrs := by
  unfold State.raise; simp
@[simp] theorem raise_znt (s : State) (u : Machine.Unit) (f : Fld) : (s.raise u f).znt = s.znt := by
  unfold State.raise; simp
@[simp] theorem raise_stu (s : State) (u : Machine.Unit) (f : Fld) : (s.raise u f).stu = s.stu := by
  unfold State.raise; simp
@[simp] theorem raise_tce (s : State) (u : Machine.Unit) (f : Fld) : (s.raise u f).tce = s.tce := by
  unfold State.raise; simp
@[simp] theorem raise_anc (s : State) (u : Machine.Unit) (f : Fld) : (s.raise u f).anc = s.anc := by
  unfold State.raise; simp
@[simp] theorem raise_vpf (s : State) (u : Machine.Unit) (f : Fld) : (s.raise u f).vpf = s.vpf := by
  unfold State.raise; simp
@[simp] theorem raise_dlk (s : State) (u : Machine.Unit) (f : Fld) : (s.raise u f).dlk = s.dlk := by
  unfold State.raise; simp
@[simp] theorem raise_csp (s : State) (u : Machine.Unit) (f : Fld) : (s.raise u f).csp = s.csp := by
  unfold State.raise; simp
@[simp] theorem raise_sil (s : State) (u : Machine.Unit) (f : Fld) : (s.raise u f).sil = s.sil := by
  unfold State.raise; simp
@[simp] theorem raise_ttu (s : State) (u : Machine.Unit) (f : Fld) : (s.raise u f).ttu = s.ttu := by
  unfold State.raise; simp
@[simp] theorem raise_dmc (s : State) (u : Machine.Unit) (f : Fld) : (s.raise u f).dmc = s.dmc := by
  unfold State.raise; simp
@[simp] theorem raise_alm (s : State) (u : Machine.Unit) (f : Fld) : (s.raise u f).alm = s.alm := by
  unfold State.raise; simp
@[simp] theorem raise_cvu (s : State) (u : Machine.Unit) (f : Fld) : (s.raise u f).cvu = s.cvu := by
  unfold State.raise; simp
@[simp] theorem raise_gpio (s : State) (u : Machine.Unit) (f : Fld) : (s.raise u f).gpio = s.gpio := by
  unfold State.raise; simp
@[simp] theorem raise_gaps (s : State) (u : Machine.Unit) (f : Fld) : (s.raise u f).gaps = s.gaps := by
  unfold State.raise; simp
@[simp] theorem raise_free (s : State) (u : Machine.Unit) (f : Fld) : (s.raise u f).free = s.free := by
  unfold State.raise; simp

/-! A session changes `hif` alone. -/

@[simp] theorem setSession_pending (s : State) (n : Nat) (x : Session) : (s.setSession n x).pending = s.pending := rfl
@[simp] theorem setSession_now (s : State) (n : Nat) (x : Session) : (s.setSession n x).now = s.now := rfl
@[simp] theorem setSession_frame (s : State) (n : Nat) (x : Session) : (s.setSession n x).frame = s.frame := rfl
@[simp] theorem setSession_launch (s : State) (n : Nat) (x : Session) : (s.setSession n x).launch = s.launch := rfl
@[simp] theorem setSession_regs (s : State) (n : Nat) (x : Session) : (s.setSession n x).regs = s.regs := rfl
@[simp] theorem setSession_logs (s : State) (n : Nat) (x : Session) : (s.setSession n x).logs = s.logs := rfl
@[simp] theorem setSession_otp (s : State) (n : Nat) (x : Session) : (s.setSession n x).otp = s.otp := rfl
@[simp] theorem setSession_flash (s : State) (n : Nat) (x : Session) : (s.setSession n x).flash = s.flash := rfl
@[simp] theorem setSession_glb (s : State) (n : Nat) (x : Session) : (s.setSession n x).glb = s.glb := rfl
@[simp] theorem setSession_pmu (s : State) (n : Nat) (x : Session) : (s.setSession n x).pmu = s.pmu := rfl
@[simp] theorem setSession_pgu (s : State) (n : Nat) (x : Session) : (s.setSession n x).pgu = s.pgu := rfl
@[simp] theorem setSession_afe (s : State) (n : Nat) (x : Session) : (s.setSession n x).afe = s.afe := rfl
@[simp] theorem setSession_pcx (s : State) (n : Nat) (x : Session) : (s.setSession n x).pcx = s.pcx := rfl
@[simp] theorem setSession_gea (s : State) (n : Nat) (x : Session) : (s.setSession n x).gea = s.gea := rfl
@[simp] theorem setSession_therm (s : State) (n : Nat) (x : Session) : (s.setSession n x).therm = s.therm := rfl
@[simp] theorem setSession_mrs (s : State) (n : Nat) (x : Session) : (s.setSession n x).mrs = s.mrs := rfl
@[simp] theorem setSession_znt (s : State) (n : Nat) (x : Session) : (s.setSession n x).znt = s.znt := rfl
@[simp] theorem setSession_stu (s : State) (n : Nat) (x : Session) : (s.setSession n x).stu = s.stu := rfl
@[simp] theorem setSession_tce (s : State) (n : Nat) (x : Session) : (s.setSession n x).tce = s.tce := rfl
@[simp] theorem setSession_anc (s : State) (n : Nat) (x : Session) : (s.setSession n x).anc = s.anc := rfl
@[simp] theorem setSession_vpf (s : State) (n : Nat) (x : Session) : (s.setSession n x).vpf = s.vpf := rfl
@[simp] theorem setSession_dlk (s : State) (n : Nat) (x : Session) : (s.setSession n x).dlk = s.dlk := rfl
@[simp] theorem setSession_csp (s : State) (n : Nat) (x : Session) : (s.setSession n x).csp = s.csp := rfl
@[simp] theorem setSession_sil (s : State) (n : Nat) (x : Session) : (s.setSession n x).sil = s.sil := rfl
@[simp] theorem setSession_ttu (s : State) (n : Nat) (x : Session) : (s.setSession n x).ttu = s.ttu := rfl
@[simp] theorem setSession_dmc (s : State) (n : Nat) (x : Session) : (s.setSession n x).dmc = s.dmc := rfl
@[simp] theorem setSession_alm (s : State) (n : Nat) (x : Session) : (s.setSession n x).alm = s.alm := rfl
@[simp] theorem setSession_cvu (s : State) (n : Nat) (x : Session) : (s.setSession n x).cvu = s.cvu := rfl
@[simp] theorem setSession_gpio (s : State) (n : Nat) (x : Session) : (s.setSession n x).gpio = s.gpio := rfl
@[simp] theorem setSession_gaps (s : State) (n : Nat) (x : Session) : (s.setSession n x).gaps = s.gaps := rfl
@[simp] theorem setSession_free (s : State) (n : Nat) (x : Session) : (s.setSession n x).free = s.free := rfl
@[simp] theorem setSession_out (s : State) (n : Nat) (x : Session) : (s.setSession n x).out = s.out := rfl

/-! ### What a write leaves in the registers -/

/-- A register holds what is written to it. -/
theorem reg_setReg_self (s : State) (off : Nat) (w : Word) (h : tabWf resetWord s.regs = true) :
    (s.setReg off w).reg off = w := tabGet_tabPut_self resetWord s.regs off w none h

/-- A write leaves every other register alone. -/
theorem reg_setReg_of_ne (s : State) (off k : Nat) (w : Word) (h : k ≠ off) : (s.setReg off w).reg k = s.reg k :=
  tabGet_tabPut_ne resetWord s.regs off k w h

/-- A write keeps the registers canonical. -/
theorem regs_setReg_wf (s : State) (off : Nat) (w : Word) (h : tabWf resetWord s.regs = true) :
    tabWf resetWord (s.setReg off w).regs = true := tabWf_tabPut resetWord s.regs off w h

/-- A reset of registers keeps them canonical. -/
theorem regs_resetRegs_wf (s : State) (lo hi : Nat) (h : tabWf resetWord s.regs = true) :
    tabWf resetWord (s.resetRegs lo hi).regs = true :=
    tabWf_tabDrop resetWord (fun k => decide (lo ≤ k) && decide (k < hi)) s.regs h

/-- A field write leaves every other register alone. -/
theorem reg_setFld_of_ne (s : State) (f : Fld) (n k : Nat) (h : k ≠ f.reg) : (s.setFld f n).reg k = s.reg k :=
  reg_setReg_of_ne s f.reg k _ h

/-- A count leaves every other register alone. -/
theorem reg_count_of_ne (s : State) (f : Fld) (n k : Nat) (h : k ≠ f.reg) : (s.count f n).reg k = s.reg k :=
  reg_setReg_of_ne s f.reg k _ h

/-- A message with no accepted request does nothing. -/
theorem withRequest_none (s : State) (o : Origin) (seq : Word) (ops : List Nat) (act : State → State)
    (h : s.requestOf o seq ops = none) : s.withRequest (.msg o seq) ops act = s := by
  unfold State.withRequest; simp [h]

/-- A message with an accepted request acts. -/
theorem withRequest_some (s : State) (o : Origin) (seq : Word) (ops : List Nat) (act : State → State) (r : Req)
    (h : s.requestOf o seq ops = some r) : s.withRequest (.msg o seq) ops act = act s := by
  unfold State.withRequest; simp [h]

/-- A register request always acts. -/
@[simp] theorem withRequest_reg (s : State) (src : Src) (ops : List Nat) (act : State → State) :
    s.withRequest (.reg src) ops act = act s := rfl

/-- A request reaches a unit that is on. -/
theorem onUnit_on (s : State) (v : Via) (u : Machine.Unit) (off : Nat) (act : State → State) (h : s.unitOn u = true) :
    s.onUnit v u off act = act s := by
  unfold State.onUnit; simp [h]

/-- A register request to a unit that is off is logged and nothing else. -/
theorem onUnit_off_reg (s : State) (src : Src) (u : Machine.Unit) (off : Nat) (act : State → State) (h : s.unitOn u = false) :
    s.onUnit (.reg src) u off act = s.logOff src false true off u.domain := by
  unfold State.onUnit; simp [h]

end Sys2Proof.Laws
end

