-- ==== Sys2Proof/Tests/Slice0.lean ====
section
/-! SUPPORT. Tests: ill-formed commands that each check refuses, for every statement with conditions states and operands that
meet them clause by clause, and single steps whose results are worked out from the spec by hand. -/

namespace Sys2Proof.Tests

set_option Elab.async false

open Sys2Proof.Machine

theorem test_reset_queue : State.reset.pending = [] := rfl

/-! ### Ill-formed commands -/

theorem test_wf_refuses_samples : (Instr.frameBoundary 0 [[], [], []] [[], [], [], []] [] 0).wf = false := by decide
theorem test_wf_refuses_register : (Instr.offAccess (.bus .host) false true 2 0).wf = false := by decide
theorem test_wf_refuses_slot : (Instr.sqTailWrite 0 1 [[0]]).wf = false := by decide
theorem test_wf_refuses_channels : (Instr.adcCalibrationDone true [0, 0, 0] [] 0).wf = false := by decide
theorem test_wf_refuses_steps : (Instr.stepcalDone [(0, 0)]).wf = false := by decide
theorem test_wf_refuses_ragged : (Instr.tfEvaluation [[0], [], [0], [0]] [[], [], [], []] 0).wf = false := by decide
theorem test_wf_refuses_data : (Instr.dmcRequest 0 0 true 0 [] 1 []).wf = false := by decide
theorem test_wf_refuses_flip : (Instr.dmcRequest 0 0 false 0 [] 32 [288]).wf = false := by decide
theorem test_wf_refuses_window : (Instr.bar2Access false 0x0FFFFFFF [] 2 [] 0).wf = false := by decide
theorem test_wf_refuses_ranges : (Instr.vpfCalibrationDone [0, 0, 0] [0, 0, 0, 0] 0).wf = false ∧ (Instr.vpfCalibrationDone [0, 0, 0, 0] [0] 0).wf = false := by decide
theorem test_wf_refuses_target : (Instr.ancMount [(8, ⟨[0x2C], [(true, ⟨1, 8192, 1008, 1, 1, 64, 1, 1, 0⟩)]⟩)] 0).wf = false := by decide
theorem test_wf_refuses_frame : (Instr.chorusNak [0]).wf = false := by decide
theorem test_wf_takes_register : (Instr.offAccess (.bus .host) false true 4 0).wf = true := by decide
theorem test_wf_takes_window : (Instr.bar2Access false 0x0FFFFFFF [] 1 [] 0).wf = true := by decide

/-! ### Small states -/

/-- The reset state with power-on reset released and every domain in RUN. -/
def on : State := (List.range 12).foldl (fun a d => a.setFld (F.PMU_DOMd_STATUS.STATE (d + 1)) 0)
  { State.reset with glb := { State.reset.glb with porHeld := false } }

/-- `on` with fields set. -/
def put (l : List (Fld × Nat)) (s : State := on) : State := l.foldl (fun a x => a.setFld x.1 x.2) s

/-- A state with one accepted request of session 0 with SEQ 0. -/
def ask (op : Nat) (p : List Nat) (s : State := on) : State :=
  { s with hif := { s.hif with reqs := [⟨.session 0, 0, op, 0, p.map (BitVec.ofNat 8), false, (0, 0)⟩] } }

/-- The message of that request. -/
abbrev msg : Via := .msg (.session 0) 0

/-- Its unit takes it up. -/
def takes (op : Nat) (u : Machine.Unit) (p : List Nat := []) (s : State := on) : Bool := (ask op p s).takesUp msg [op] u

/-- An image of the given sections, and `on` with it ACTIVE. -/
def image (l : List (Nat × List Nat)) : Bytes :=
  zeros 20 ++ leBytes 2 l.length ++ zeros 42
    ++ l.flatMap (fun x => leBytes 2 x.1 ++ leBytes 2 1 ++ leBytes 4 x.2.length ++ zeros 8 ++ x.2.map (BitVec.ofNat 8)) ++ zeros 16
def with_ (l : List (Nat × List Nat)) (s : State := on) : State := { s with sil := { s.sil with active := image l } }

/-- Frame 0 of an acquisition, launched at instant 0 with one tone, with the rules in force and 256 bins. -/
def frame0 (s : State := on) : FrameRec where
  num := 0
  launch := 0
  real := true
  diag := false
  cal := false
  guardFrame := false
  lost := false
  edge := none
  missing := false
  reset := false
  track := 0
  cfg := { s.frameCfg with k := 1 }
  rules := { s.frameRules with count := 256 }
  header := []
def framed (s : State := on) : State := { s with mrs := { s.mrs with frames := [frame0 s], open_ := true } }

/-- One group of the first `n` engines, RUNNING; `w` is the word at its PC. -/
def fused (kind n w : Nat) : State :=
  (put ((List.range n).map (fun e => (F.GEA_ENGk_STATE.STATE e, Eng.running)))
    (with_ [(Sec.engineGrouping, [0, 0, 0, 0, 1, 0, 0, 0, 0, 0, 0, 0, kind, n, 0, 0, (2 ^ n - 1) % 256, (2 ^ n - 1) / 256, 0, 0, 0, 0, 0, 0])])).setEmem
    (imemBase 0) (leBytes 8 w)
abbrev engine (w : Nat) : State := fused 0 1 w

/-- The stream of engine 0 issues `w`, checked field by field. -/
def issues (s : State) (cls op w : Nat) : Bool :=
  decide (s.streamOf 0 = some 0) && s.canIssue 0 && decide ((s.fetched 0).insn 0 ((s.fetched 0).thread 0).pc = w)
    && decide (((s.fetched 0).thread 0).pc < 4096) && decide ((s.fetched 0).upsetIn (imemBase 0 + 8 * ((s.fetched 0).thread 0).pc) 8 true = [])
    && !(s.fetched 0).illegal 0 w && decide (wCls w = cls) && decide (wOp w = op)

theorem issues_sound {s : State} {cls op w : Nat} (h : issues s cls op w = true) : s.Issues 0 cls op 0 w := by
  simp only [issues, Bool.and_eq_true, decide_eq_true_eq, Bool.not_eq_true'] at h
  obtain ⟨⟨⟨⟨⟨⟨⟨a, b⟩, c⟩, d⟩, z⟩, e⟩, f⟩, g⟩ := h
  exact ⟨a, b, c, d, z, e, f, g⟩

/-- The word of an operation with every operand field 0. -/
abbrev word (cls op : Nat) : Nat := 2 ^ 60 * cls + 2 ^ 48 * op

/-! ### States and operands that meet the conditions of the statements -/

theorem witness_canonical : on.canonical := ⟨by decide +kernel, by decide +kernel, by decide +kernel⟩

theorem witness_IdleTickAndNoWords :
    (let s : State := { put [(F.DMC_STATUS.STATE, Dmc.ready)] with dmc := { State.reset.dmc with scrub := some 0 } }
     s.pending = [] ∧ s.dmc.waiting = [] ∧ ({ s with now := s.now + 1 } : State).spanReady 0 32 = true)
      ∧ on.pending = [] ∧ on.dmc.scrub = none := by decide +kernel

theorem witness_StepKeepsCanonical : ∃ t, step on = .next t := ⟨_, rfl⟩

theorem witness_ErrorLogRing :
    (on.logOf 0).entries.getLast? = none
      ∧ (((List.range 16).foldl (fun a i => a.logFor 0 (i + 1) 0 0) on).logOf 0).entries.length = 16
      ∧ ((((List.range 16).foldl (fun a i => a.logFor 0 (i + 1) 0 0) on).logOf 0).entries.getLast?).map (·.code) = some 16 := by
  decide +kernel

theorem witness_SaturatingCount : F.PGU_CLIP_COUNT.COUNT.lo ≤ F.PGU_CLIP_COUNT.COUNT.hi ∧ F.PGU_CLIP_COUNT.COUNT.hi < 32 := by decide

theorem witness_LockedFieldsKeepTheirValue :
    (famOf R.DMC_GEOM).isSome = true ∧ (famOf (R.HIF_STRc_RD 31)).isSome = true ∧ (famOf (R.PGU_TONEk_FSTART 15)).isSome = true := by decide +kernel

theorem witness_PowerTargets :
    on.domEnabled 1 = true ∧ (put [(F.PMU_ENABLE.EN, 0)]).domEnabled 12 = false ∧ (∃ c ∈ coreChildren, (put [(F.PMU_ENABLE.EN, 0x1FFF), (F.PMU_FLOOR.FLOOR, 0)]).resolved c = 0) := by decide +kernel

theorem witness_ExponentsAndRounding :
    (-(2 ^ 39 : Int) ≤ 2 ^ 39 - 1 ∧ redundant 40 (2 ^ 39 - 1) = 0 ∧ redundant 40 0 = 39 ∧ redundant 40 (-1) = 39)
      ∧ shiftAmount Bank.zero 0 = 0 ∧ 0 < shiftAmount Bank.zero (2 ^ 25) := by decide +kernel

theorem witness_RequestSequence : seqCheck 5 4 1 = some .duplicate ∧ seqCheck 5 3 1 = some .outOfWindow ∧ seqCheck 5 5 0 = none := by
  decide

theorem witness_OffBlockAccess : regDomain 0x200000 = 1 ∧ State.reset.domOn 1 = false := by decide +kernel

theorem witness_TimeScaleLatch : on.canonical := witness_canonical

theorem witness_ResetCommandsComplete :
    (State.reset.glb.porHeld = true ∧ State.reset.resetHeld = false) ∧ on.glb.pinLow = false ∧ on.glb.coreLow = false
      ∧ (let s := on.warmReset Cause.soft
        s.glb.warm = true ∧ s.glb.porHeld = false ∧ s.resetHeld = false ∧ s.glb.ended + 20 * usec ≤ (s.at_ (20 * usec)).now) := by decide +kernel

set_option maxRecDepth 100000 in
theorem witness_LinkCommandsComplete_header :
    (let b := leBytes 4 0x48535A52 ++ leBytes 2 1 ++ leBytes 2 128 ++ leBytes 1 0 ++ leBytes 1 2 ++ zeros 0x26 ++ leBytes 2 1 ++ zeros 74
     headerFault (b ++ leBytes 4 (crc32c b).toNat) = none) := by decide +kernel

theorem witness_LinkCommandsComplete :
    (let s := put [(F.GLB_STARTUP.PHASE, Phase.header)]
     s.phase = Phase.header ∧ headerFault (s.flashBytes 0 128) = some 0)
      ∧ on.hif.perst = true ∧ on.unitOn .hif = true
      ∧ (let s := put [(F.GLB_STARTUP.PHASE, Phase.done)]
        s.hif.perst = true ∧ s.phase ≠ Phase.reset ∧ s.phase ≠ Phase.header)
      ∧ (put [(F.HIF_STATUS.LINK, 2)]).fld F.HIF_STATUS.LINK = 2 ∧ (put [(F.HIF_STATUS.LINK, 3)]).fld F.HIF_STATUS.LINK = 3 := by decide +kernel

theorem witness_FrameCommandsComplete :
    (let s := put [(F.MRS_STATUS.STATE, Mrs.running), (F.MRS_PERIOD.T, 125000)] framed
     s.ownBoundary = some 125000)
      ∧ (let s := put [(F.MRS_STATUS.STATE, Mrs.running), (F.MRS_GEOM.MODE, 1)] framed
        s.slave = true ∧ s.mrs.open_ = true ∧ s.mrs.pendRefs = [] ∧ s.mrs.lastEdge = none ∧ s.launch + s.tMax ≤ 1000000000
          ∧ s.flag F.PGU_LAUNCH_CFG.IN_EDGE = false ∧ s.ttu.launchStamp = none)
      ∧ (let s := put [(F.MRS_GEOM.MODE, 1), (F.MRS_TMIN.T_MIN, 2)] { framed with mrs := { framed.mrs with pendRefs := [(7, 0)] } }
        s.mrs.pendRefs = [(7, 0)] ∧ s.slave = true ∧ 5 * 819 < s.fld F.MRS_TMIN.T_MIN * 2048 ∧ s.fld F.MRS_TMIN.T_MIN * 2048 ≤ 5 * 820)
      ∧ (let s := put [(F.MRS_STATUS.STATE, Mrs.stopping)]
        s.acq = Mrs.stopping ∧ (s.at_ 0).lastDelivered = true) := by decide +kernel

theorem witness_RangeTimePinsComplete :
    framed.mrs.frames.find? (·.num = 0) = some frame0 ∧ 0 < frame0.cfg.k ∧ on.afe.pga = 0 ∧ on.pgaAt 0 = 0 ∧ ({ on with afe := { on.afe with pga := 7 } } : State).pgaAt 0 ≠ 7
      ∧ (let c : Chirp := ⟨0, 0, 0, 8, ⟨0, 0, 0, 0, 0⟩, 0, 0, 0⟩
        ({ on with pgu := { on.pgu with chirps := [c] } } : State).pgu.chirps.find? (·.tone = 0) = some c) :=
  ⟨rfl, by decide +kernel, rfl, by decide +kernel, by decide +kernel, by decide +kernel⟩

theorem witness_SlotsComplete :
    (∀ a ∈ List.range 8, a ≠ 0 → ((framed (with_ [(Sec.schedule, [0, 0, 1, 0, 0, 0, 0, 0, 0, 0, 0, 0, 0, 0, a, 0, 0, 0, 0, 0, 0, 0, 0, 0])])).progSlot
        0 0 0 a).isSome = true)
      ∧ ∀ a ∈ List.range 8, ((framed { framed with mrs := { framed.mrs with dyn := [⟨0, 0, 0, 0, a, 0⟩] } }).dynSlot 0 0 a).isSome = true := by decide +kernel

theorem witness_DynamicSlotsAndDispatchComplete :
    framed.dynRefusal 0 125 = none ∧ framed.dynRefusal 0 124 = some MrsCode.slotPast
      ∧ (let s : State := { framed with mrs := { framed.mrs with dyn := [⟨0, 0, 0, 125, 1, 0⟩] } }
        s.mrs.dyn.find? (fun d => d.requester = 0 ∧ d.tag = 0) = some ⟨0, 0, 0, 125, 1, 0⟩ ∧ (s.slotFrame 0).map (fun f => slotInstant f 0 125) = some 125)
      ∧ (∀ src ∈ [0, 3, 1],
        let s := framed (with_ [(Sec.routing, [1, 0, 0, 0, 0, 0, 0, 0, src, 0, 0, 0, 1, 0, 0, 0])])
        (s.streams.find? (fun x => x.1 = 0)).map (fun x => (x.2.source, x.2.blockCount)) = some (src, 1)
          ∧ frame0.real = true ∧ frame0.lost = false ∧ frame0.diag = false ∧ frame0.cal = false ∧ min 256 (frame0.rules.count - 0) ≠ 0
          ∧ (s.blk 0).known 0 = false ∧ frame0.launch + frame0.cfg.bins * frame0.cfg.pitch ≤ 1000000000) := by
  decide +kernel

/-- A closed Raman record that waits for its dispatch. -/
abbrev due0 : ThermDue where
  source := 1
  first := 0
  last := 0
  close := 0
  frame := frame0
  raman := none
  partner := none
  bril := none
  params := []
  store := []
  mps := 0

theorem witness_DynamicSlotsAndDispatchComplete_record :
    ({ on with therm := { on.therm with due := [due0] } } : State).therm.due.find? (fun d => d.source == 1 && d.last == 0) = some due0 := rfl

theorem witness_MrsRequestsComplete :
    takes 0x0301 .mrs = true ∧ takes 0x0302 .mrs = true ∧ on.takesUp (.reg .host) [0x0301] .mrs = true ∧ on.acq = Mrs.noImage
      ∧ (∀ v ∈ [Mrs.stopped, Mrs.starting, Mrs.running, Mrs.stopping], (put [(F.MRS_STATUS.STATE, v)]).acq = v) ∧ on.mrs.stopAt = none := by
  decide +kernel

theorem witness_ImageLoadsComplete :
    (∀ n ∈ [(96, 0x60, 0, 0), (slotSize, 0, 0, 0x80)],
      field ((ask 0x0201 [n.2.1, n.2.2.1, n.2.2.2]).payload msg) 0 4 = n.1 % 2 ^ 24 ∧ takes 0x0201 .sil [n.2.1, n.2.2.1, n.2.2.2] = true)
      ∧ on.pendState = Pend.empty ∧ on.sil.restart = false
      ∧ (∀ v ∈ [Pend.loading, Pend.validating, Pend.ready], (put [(F.SIL_STATE.PENDING_STATE, v)]).pendState = v) ∧ on.sil.boot = false
      ∧ on.dmcState ≠ Dmc.frozen ∧ takes 0x0202 .sil = true
      ∧ (let s := put [(F.SIL_STATE.PENDING_STATE, Pend.validating)] { on with sil := { on.sil with pending := zeros 96, len := 96 } }
        s.pendingFails.isSome = true ∧ s.sil.persist = false) := by decide +kernel

theorem witness_ImageSwitchesComplete :
    takes 0x0203 .sil [0] = true ∧ (ask 0x0203 [0]).switchMode msg 0 = true ∧ (ask 0x0203 [1]).switchMode msg 1 = true
      ∧ takes 0x0204 .sil = true ∧ takes 0x0205 .sil = true ∧ takes 0x0206 .sil = true
      ∧ (∀ v ∈ [Pend.ready, Pend.armed, Pend.switching], (put [(F.SIL_STATE.PENDING_STATE, v)]).pendState = v)
      ∧ (put [(F.SIL_STATE.PENDING_STATE, Pend.switching)]).lastDelivered = true := by decide +kernel

theorem witness_BusCommandsComplete :
    on.unitOn .hif = true ∧ 0 < on.deviceTop ∧ apertureBase + apertureSize ≤ on.winBase + 2 ^ 28 ∨ on.unitOn .hif = true := by decide +kernel

theorem witness_ProbeGenerationComplete :
    takes 0x0401 .pgu = true ∧ on.unitOn .pgu = true ∧ on.domOn 6 = true ∧ on.flag F.PGU_STATUS.PLL_LOCK = false
      ∧ (put [(F.PGU_STATUS.STATE, Pgu.fault)]).pguState = Pgu.fault ∧ (put [(F.PGU_STATUS.PLL_LOCK, 1)]).flag F.PGU_STATUS.PLL_LOCK = true
      ∧ (put [(F.PGU_STATUS.STATE, Pgu.running)]).calRefusal.isSome = true := by decide +kernel

theorem witness_FrontEndsComplete :
    on.unitOn .fafe = true ∧ on.unitOn .mafe = true ∧ on.domOn 7 = true ∧ on.acq ≠ Mrs.running ∧ on.afe.stepcal = false
      ∧ ∀ v ∈ [Afe.ready, Afe.fault, Afe.calibrating], (put [(F.FAFE_STATUS.STATE, v)]).fafeState = v ∧ (put [(F.MAFE_STATUS.STATE, v)]).mafeState = v := by
  decide +kernel

theorem witness_TemplatesComplete :
    (∀ n ∈ [1, 2, 3], takes 0x0403 .pcx [n] = true ∧ field ((ask 0x0403 [n]).payload msg) 0 1 = n) ∧ takes 0x0402 .pcx = true ∧ on.unitOn .pcx = true
      ∧ (∀ v ∈ [Tf.applying, Tf.staged], (put [(F.PCX_STATUS.TF_STATE, v)]).tfState = v) ∧ on.tfState ≠ Tf.applying ∧ on.tfState ≠ Tf.staged
      ∧ (put [(F.PCX_STATUS.STATE, Pcx.fault)]).pcxState = Pcx.fault
      ∧ (let s := put [(F.ANC_STATUS.STATE, Anc.ready)]
        s.ancState = Anc.ready ∧ s.appendCount < 4 ∧ s.unitOn .alm = true) := by decide +kernel

theorem witness_GeckoControlComplete :
    (∀ op ∈ [0, 1, 2, 3, 6, 7, 9, 10, 11], issues (engine (word 0 op)) 0 op (word 0 op) = true ∧ ((engine 0).fetched 0).executing 0 (word 0 op) = [0])
      ∧ issues (engine (word 0 4 + 2 ^ 36)) 0 4 (word 0 4 + 2 ^ 36) = true ∧ issues (engine (word 0 4 + 2 ^ 44)) 0 4 (word 0 4 + 2 ^ 44) = true
      ∧ (issues (fused 2 16 (word 0 5)) 0 5 (word 0 5) = true ∧ ((fused 2 16 0).advance 0).ctrlCount 0 (word 0 5) = 1)
      ∧ (let s := engine (word 0 8)
        issues (s.setThread 0 { s.thread 0 with bank1 := true }) 0 8 (word 0 8) = true)
      ∧ ((engine 0).bankOf 0 0).active = false
      ∧ (let s := engine (word 0 1)
        issues (s.eachBank 0 (fun x => { x with active := true, lstart := 1, lend := 2 })) 0 1 (word 0 1) = true) := by decide +kernel

theorem witness_GeckoAluComplete : ∀ op ∈ List.range 26, issues (engine (word 1 op)) 1 op (word 1 op) = true := by decide +kernel

theorem witness_GeckoMacComplete : ∀ op ∈ List.range 5, issues (engine (word 2 op)) 2 op (word 2 op) = true
    ∧ ((engine 0).fetched 0).loading 0 (word 2 op) = [] := by decide +kernel

theorem witness_GeckoAccComplete : ∀ op ∈ List.range 10, issues (engine (word 3 op)) 3 op (word 3 op) = true := by decide +kernel

theorem witness_GeckoLoadsStoresComplete :
    (∀ op ∈ List.range 7, issues (engine (word 4 op)) 4 op (word 4 op) = true)
      ∧ (∀ n ∈ [(0, 4), (1, 8), (2, 2), (3, 2)], (match ((engine 0).fetched 0).loads 0 n.2 [((engine 0).fetched 0).lsAccess 0 (word 4 n.1) 0] with
        | .ok _ => true
        | .error _ => false) = true)
      ∧ (∀ n ∈ [(4, 4), (5, 8), (6, 2)], accessFaults n.2 true [((engine 0).fetched 0).lsAccess 0 (word 4 n.1) 0] = []) := by decide +kernel

theorem witness_GeckoSfuMoveXchComplete :
    (∀ op ∈ List.range 5, issues (engine (word 5 op)) 5 op (word 5 op) = true)
      ∧ (∀ op ∈ List.range 3, issues (engine (word 6 op)) 6 op (word 6 op) = true)
      ∧ (∀ op ∈ List.range 5, issues (fused 1 4 (word 7 op)) 7 op (word 7 op) = true) := by decide +kernel

theorem witness_EngineEventsComplete :
    (let s := engine 0
     s.streamOf 0 = some 0 ∧ s.engState 0 = Eng.running ∧ (s.thread 0).atPoint = true)
      ∧ (let s := (engine 0).setThread 0 { (engine 0).thread 0 with imask := 2, ipend := 2, halting := true }
        (s.ipend 0 &&& (s.thread 0).imask) ≠ 0 ∧ (s.thread 0).halting = true ∧ (s.thread 0).atPoint = true)
      ∧ (localAddr 0 0).isSome = true ∧ on.unitOn .gea = true ∧ (put [(F.SIL_STATE.ACTIVE_COPY, 1)]).flag F.SIL_STATE.ACTIVE_COPY = true
      ∧ (let s := put [(F.DMC_STATUS.STATE, Dmc.ready)]
        s.dmcCan ⟨enginePath 0, 2, true, 0, zeros 8, 8, 0⟩ = true) := by decide +kernel

theorem witness_ZonesComplete :
    takes 0x0501 .znt = true ∧ takes 0x0502 .znt = true ∧ takes 0x0503 .znt = true ∧ on.unitOn .znt = true
      ∧ on.removeRefusal 0 = some ZntCode.badZone ∧ on.addRefusal ⟨0, 0xFFFF, 0, 0xFF, 0, 1, 0, 0, 0⟩ = some ZntCode.badZone
      ∧ (let s := with_ [(Sec.archivePolicy, [])] (put [(F.PCX_COUNT.COUNT, 1)])
        let z : Zone := ⟨0, 0xFFFF, 1, 0xFF, 0, 0, 0, 0, 0⟩
        s.addRefusal z = none ∧ ({ s with znt := { s.znt with zones := [z] } } : State).removeRefusal 0 = none)
      ∧ (put [(F.ZNT_STATUS.STATE, Blk.fault)]).fld F.ZNT_STATUS.STATE = Blk.fault := by decide +kernel

theorem witness_CapturesComplete :
    (∀ op ∈ [0x0601, 0x0602, 0x0603, 0x0604, 0x0605], takes op .stu = true) ∧ on.unitOn .stu = true ∧ on.recDef 0 = none
      ∧ ((with_ [(Sec.triggerPrograms, [0, 1, 0, 0, 0, 0, 0, 0, 1, 0, 0, 0, 0, 0, 0, 0, 0, 0, 0, 0, 0, 0, 0, 0])]).recDef 0).isSome = true
      ∧ (put [(F.STU_RECr_STATE.STATE 0, Cap.triggered)]).capSt 0 = Cap.triggered
      ∧ (put [(F.STU_RECr_STATE.STATE 0, Cap.closing)]).capSt 0 = Cap.closing
      ∧ (put [(F.STU_RECr_STATE.STATE 0, Cap.closing)]).capWaiting 0 = false
      ∧ (put [(F.STU_STATUS.STATE, Blk.fault)]).fld F.STU_STATUS.STATE = Blk.fault := by decide +kernel

theorem witness_TadpoleComplete :
    on.unitOn .tce = true ∧ (put [(F.ANC_POL0.STAGING_MIB, 1), (F.DMC_STATUS.STATE, Dmc.ready)] (with_ [(Sec.archivePolicy, 1 :: List.replicate 63 0)])).stageRoom 0 = true ∧ (put [(F.TCE_STATUS.STATE, Blk.fault)]).fld F.TCE_STATUS.STATE = Blk.fault
      ∧ (let b : TadBlock := ⟨0, 0, none, [], false, false, false, 0, 0, 0, 0, 0⟩
        ({ on with tce := { on.tce with blocks := [b] } } : State).tce.blocks.find? (fun b => b.chan = 0) = some b) := by decide +kernel

theorem witness_DramCommandsComplete :
    on.unitOn .dmc = true ∧ (∀ v ∈ [Dmc.off, Dmc.ready, Dmc.frozen, Dmc.srEntry, Dmc.srExit], (put [(F.DMC_STATUS.STATE, v)]).dmcState = v)
      ∧ on.glb.warm = false ∧ takes 0x0904 .dmc = true
      ∧ (put [(F.DMC_STATUS.STATE, Dmc.ready)]).dmcServes = true ∧ (put [(F.DMC_STATUS.STATE, Dmc.ready)]).diagServes = true
      ∧ (put [(F.DMC_ECC_CFG.SCRUB_EN, 1)]).flag F.DMC_ECC_CFG.SCRUB_EN = true
      ∧ (let s := put [(F.DMC_STATUS.STATE, Dmc.ready)]
        8 ≤ s.dmcTouch.deviceTop ∧ s.dmcTouch.dmcCan ⟨0, 0, false, s.dmcTouch.deviceTop - 8, [], 8, 0⟩ = true)
      ∧ on.dmcTouch.dmcCan ⟨0, 0, false, 0, [], 8, 0⟩ = false
      ∧ (let s := put [(F.DMC_STATUS.STATE, Dmc.ready)]
        ({ s with dmc := { s.dmc with unfilled := [15] } } : State).dmc.unfilled.contains 15 = true) := by decide +kernel

theorem witness_DramRefreshComplete :
    (let s := put [(F.DMC_STATUS.STATE, Dmc.ready), (F.DMC_REF_CFG.MODE, 1)]
     s.refreshing = true ∧ 0 < s.ranks ∧ s.flag F.DMC_REF_CFG.MODE = true)
      ∧ (let s := put [(F.DMC_STATUS.STATE, Dmc.ready), (F.DMC_REF_CFG.MODE, 0)]
        s.flag F.DMC_REF_CFG.MODE = false ∧ s.owed 0 + 1 ≤ refLimit (s.rate 0) ∧ refLimit (s.rate 0) < (s.setOwed 0 (refLimit (s.rate 0))).owed 0 + 1
          ∧ (s.setOwed 0 1).dmc.lastReq = [])
      ∧ (let s := put [(F.DMC_PAGE_CFG.IDLE_CLOSE, 1)]
        s.fld F.DMC_PAGE_CFG.IDLE_CLOSE ≠ 0 ∧ ({ s with dmc := { s.dmc with rows := [(31, 0)] } } : State).dmc.rows.any (·.1 = 31) = true) := by
  decide +kernel

theorem witness_ArchiveRequestsComplete :
    (∀ op ∈ [0x0701, 0x0702, 0x0703, 0x0704, 0x0705], takes op .anc = true) ∧ on.ancState ≠ Anc.ready ∧ on.unitOn .anc = true
      ∧ (∀ v ∈ [Anc.ready, Anc.unformatted, Anc.fault], (put [(F.ANC_STATUS.STATE, v)]).ancState = v)
      ∧ field ((ask 0x0704 [0x4D, 0x52, 0x4F, 0x46]).payload msg) 0 4 = 0x464F524D
      ∧ (let s : State := { on with anc := { on.anc with recs := [⟨0, 0, 0, 0, 0, 0, 0, 0, 0⟩] } }
        s.anc.recs.find? (·.seq == 0) = some ⟨0, 0, 0, 0, 0, 0, 0, 0, 0⟩ ∧ s.oldestSeq = 0 ∧ s.anc.commitSeq = 0) := by decide +kernel

theorem witness_ArchiveWorkComplete :
    on.unitOn .anc = true ∧ (∀ v ∈ [Anc.mounting, Anc.formatting, Anc.ready, Anc.flushing], (put [(F.ANC_STATUS.STATE, v)]).ancState = v)
      ∧ (mediumFault []).isSome = true ∧ on.dmcState ≠ Dmc.frozen ∧ on.anc.halting = false ∧ on.anc.flushing = false ∧ on.anc.ckPhase = 0
      ∧ on.anc.ops = [] ∧ on.anc.job = none ∧ on.anc.wanted = false
      ∧ (let j : ArcCommit := ⟨0, [], 0, [], [], [], [], 0, [], [], 0, false⟩
        let a : AncSt := { on.anc with ops := [⟨.data, 0, []⟩], firstAt := some 0, ckPhase := 2, passed := true, job := some j }
        a.ops ≠ [] ∧ a.ops.any (·.kind == .checkpoint) = false ∧ a.job.isSome = true ∧ a.firstAt = some 0) := by decide +kernel

theorem witness_CheckValueUnitComplete :
    on.unitOn .cvu = true ∧ on.cvuBusy 7 = false ∧ (put [(F.CVU_CHn_STATUS.BUSY 7, 1)]).cvuBusy 7 = true ∧ on.cvuLen 7 = 0
      ∧ (let s := put [(F.CVU_CHn_LEN.BYTES 7, 1), (F.DMC_STATUS.STATE, Dmc.ready)]
        s.cvuLen 7 = 1 ∧ s.cvuSrc 7 + 1 ≤ s.deviceTop ∧ (match s.cvuTake 7 1 with
          | some a => a.dmcServes
          | none => false) = true) := by decide +kernel

theorem witness_TimeBaseComplete :
    (∀ n ∈ [0, 1, 2], takes 0x0303 .mrs [n] = true ∧ field ((ask 0x0303 [n]).payload msg) 0 1 = n)
      ∧ (put [(F.TTU_REF_CFG.PPS_EN, 1), (F.TTU_REF_CFG.REF_EN, 1), (F.TTU_PPS_CFG.OUT_EN, 1)]).flag F.TTU_REF_CFG.PPS_EN = true
      ∧ on.ttu.ppsLast = none ∧ on.refOk = false ∧ on.ttu.refRun + 1 < 16 ∧ on.ttu.winCount + 1 < 1000
      ∧ (let s : State := { on with ttu := { on.ttu with offset := 2560000000000 - 2048 * 7, oldOffset := 2560000000000 - 2048 * 7 } }
        s.scaleAt (2048 * 7) / 2560000000000 ≠ s.scaleAt (2048 * 6) / 2560000000000) := by decide +kernel

theorem witness_StampChannelsComplete :
    on.domOn 1 = true ∧ (on.chan 0).stuck = false ∧ (on.chan 0).calibrated = false
      ∧ (let s := put [(F.TTU_CHc_CFG.EDGE 3, 0), (F.TTU_CHc_TIMING.HOLDOFF 3, 1)] (on.modChan 3 (fun x => { x with calibrated := true, last := some 9 }))
        (s.chan 3).last = some 9 ∧ 520 < 9 + 512 * s.fld (F.TTU_CHc_TIMING.HOLDOFF 3) ∧ 9 + 512 * s.fld (F.TTU_CHc_TIMING.HOLDOFF 3) ≤ 521)
      ∧ (put [(F.TTU_CHc_TIMING.STUCK_US 0, 1)]).fld (F.TTU_CHc_TIMING.STUCK_US 0) ≠ 0
      ∧ (let s := put [(F.TTU_IUu_WINDOW.NS 0, 1)] (on.modIu 0 (fun x => { x with starts := [7] }))
        ((s.iu 0).starts.filter (fun x => decide (x + 512 * s.fld (F.TTU_IUu_WINDOW.NS 0) < 520))).length = 1) := by decide +kernel

theorem witness_VernierComplete :
    on.unitOn .vpf = true ∧ on.vpf.mainsLast = none ∧ on.vpf.res = none
      ∧ (∀ v ∈ [Vpf.off, Vpf.calibrating, Vpf.scanning, Vpf.paused, Vpf.fault], (put [(F.VPF_STATUS.STATE, v)]).vpfState = v)
      ∧ 2 ≤ (put [(F.VPF_CFG.MAINS_MODE, 2)]).fld F.VPF_CFG.MAINS_MODE ∧ (put [(F.VPF_CFG.REF_SRC, 0)]).fld F.VPF_CFG.REF_SRC = 0 := by decide +kernel

theorem witness_DriverLinkComplete :
    takes 0x0903 .dlk = true ∧ on.unitOn .dlk = true
      ∧ (∀ v ∈ [Dlk.init, Dlk.running, Dlk.safe, Dlk.fault], (put [(F.DLK_STATUS.STATE, v)]).dlkState = v)
      ∧ on.dlkCheck = none ∧ on.dlk.busy = none ∧ on.dlk.due = []
      ∧ (with_ [(Sec.driverlinkTable, [1, 0, 0, 0, 0, 0, 0, 0, 0, 0, 0, 0, 0, 0, 0, 0])]).dlkCheck.isSome = true
      ∧ (({ on with dlk := { on.dlk with devs := [(1, ⟨false, false, 0, false, false, false, false, 0, false, false, none, 0⟩)] } } : State).dlkDev 1).isSome = true
      ∧ (({ framed with mrs := { framed.mrs with frames := [{ frame0 with diag := true }] } } : State).cur.map (fun f => (f.diag, f.real))) = some (true, true) := by decide +kernel

theorem witness_PowerCommandsComplete :
    (ask 0x0304 []).requestOf (.session 0) 0 [0x0304] ≠ none ∧ ownerOf 2 ≠ 8
      ∧ (put [(F.PMU_DOMd_STATUS.BUSY 12, 1)]).flag (F.PMU_DOMd_STATUS.BUSY 12) = true ∧ on.dmc.waiting = [] ∧ on.dmc.lastReq = [] := by decide +kernel

theorem witness_SessionsComplete :
    on.unitOn .hif = true ∧ on.hif.busMaster = false ∧ takes 0x0102 .hif [0] = true ∧ takes 0x0103 .hif [255] = true ∧ takes 0x0101 .hif = true
      ∧ on.freeSession = some 1 ∧ (on.session 255).isNone = true ∧ ((on.openSession 255 0 0 0 0 0 0).session 255).isSome = true := by decide +kernel

theorem witness_HifMessagesComplete :
    (∀ op ∈ [0x0104, 0x0801, 0x0802, 0x0803, 0x0805, 0x0901, 0x0902], ((ask op []).requestOf (.session 0) 0 [op]).isSome = true)
      ∧ takes 0x0804 .alm = true ∧ takes 0x0A01 .csp = true
      ∧ regArgs ([0xFC, 0xFF, 0xFF, 0, 1, 0, 0, 0].map (BitVec.ofNat 8)) = some (0xFFFFFC, 1) ∧ (readPath 0).isSome = true ∧ (readPath 1).isNone = true := by
  decide +kernel

theorem witness_StreamsComplete :
    on.flag (F.HIF_STRc_CFG.EN 31) = false ∧ on.ringOk 31 33 = true ∧ on.ringOk 31 31 = false
      ∧ (put [(F.HIF_STRc_CFG.EN 31, 1)]).flag (F.HIF_STRc_CFG.EN 31) = true ∧ on.unitOn .hif = true ∧ on.glb.porHeld = false := by decide +kernel

theorem witness_CascadeControlComplete :
    on.unitOn .csp = true ∧ (∀ v ∈ [Csp.training, Csp.head, Csp.member], (put [(F.CSP_STATUS.STATE, v)]).cspState = v) ∧ (Csp.off ≠ Csp.head)
      ∧ (put [(F.CSP_CFG.HEAD, 1), (F.CSP_CFG.CC_PERIOD, 1)]).flag F.CSP_CFG.HEAD = true ∧ (put [(F.CSP_CFG.HEAD, 0)]).flag F.CSP_CFG.HEAD = false
      ∧ on.csp.beaten = false ∧ on.csp.ring = false ∧ on.csp.index = none ∧ on.csp.job = none
      ∧ bitAt ((put [(F.CSP_MAP.MAP, 0x8001)]).fld F.CSP_MAP.MAP) 15 = true
      ∧ on.fld (F.CSP_PORTp_STATUS.LINK 0) = 0 := by decide +kernel

theorem witness_CascadeFramesComplete :
    (let s := put [(F.CSP_STATUS.STATE, Csp.member), (F.CSP_STATUS.INDEX, 1), (F.CSP_MAP.MAP, 7), (F.CSP_DE_CFG.EN, 1)]
     let b (type dst : Nat) : Bytes := leBytes 1 type ++ leBytes 1 0 ++ leBytes 1 dst ++ zeros 5 ++ leBytes 4 0 ++ zeros 8
     Cf.type (b 3 2) = 3 ∧ Cf.dst (b 3 2) ≠ s.fld F.CSP_STATUS.INDEX ∧ bitAt (s.fld F.CSP_MAP.MAP) (Cf.dst (b 3 2)) = true
       ∧ (s.cspCheck (b 3 1)).isSome = true ∧ Cf.dst (b 6 1) = s.fld F.CSP_STATUS.INDEX ∧ s.cspCheck (b 6 1) = none
       ∧ s.flag F.CSP_DE_CFG.EN = true ∧ (s.csp.trace ++ Cf.payload (b 6 1)).length < 80) := by decide +kernel

theorem witness_AlmanacComplete :
    takes 0x0404 .alm = true ∧ takes 0x0405 .alm = true ∧ on.appendCount = 0 ∧ on.chainRec 1 = none
      ∧ on.glb.porHeld = false ∧ on.alm.minutes % 60 ≠ 59 ∧ indIssued 1 = true ∧ indIssued 63 = true
      ∧ (∀ v ∈ [Alm.ready, Alm.loading], (put [(F.ALM_STATUS.STATE, v)]).almState = v) := by decide +kernel

theorem witness_GlobalBlockComplete :
    (put [(⟨R.GLB_RESET_KEY, 31, 0⟩, 0x5A3C)]).reg R.GLB_RESET_KEY = 0x5A3C ∧ on.reg R.GLB_RESET_KEY ≠ 0x5A3C ∧ on.glb.flushCause = none
      ∧ (let s : State := { on with glb := { on.glb with wdtEnd := some 8, wdtLen := 8 } }
        s.glb.wdtEnd = some 8 ∧ 8 ≤ (s.at_ 4).now + s.glb.wdtLen / 2 ∧ 8 ≤ (s.at_ 8).now)
      ∧ on.flag F.GLB_WDT_CFG.EN = false ∧ on.glb.tjArmed = true ∧ (put [(F.ANC_STATUS.STATE, Anc.halted)]).ancState = Anc.halted := by decide +kernel

/-! ### More of the same: conditions on waiting work, room and running units -/

/-- A READY archive with one open block of 64 pages. -/
abbrev archive : State :=
  let s := put [(F.ANC_STATUS.STATE, Anc.ready), (F.ANC_GEOM0.PAGES, 64), (F.ANC_POL0.COMMIT_MIB, 1), (F.ANC_POL0.RECORD_BLOCKS, 1), (F.DMC_STATUS.STATE, Dmc.ready)]
  { s with anc := { s.anc with open_ := [8] } }

theorem witness_FrontEndsComplete_steps :
    (let s := { on with afe := { on.afe with stepcal := true } }
     s.afe.stepcal = true ∧ s.domOn 6 = true)
      ∧ (put [(F.PGU_STATUS.PLL_LOCK, 1), (F.FAFE_STATUS.STATE, Afe.fault)]).fafeState = Afe.fault
      ∧ (put [(F.MRS_STATUS.STATE, Mrs.running), (F.FAFE_STATUS.STATE, Afe.ready)]).acq = Mrs.running := by decide +kernel

theorem witness_TemplatesComplete_building :
    (let s := put [(F.ANC_STATUS.STATE, Anc.ready)] { on with pcx := { on.pcx with building := true, means := [⟨0, 0, 0, true, 0, []⟩] } }
     s.pcx.building = true ∧ (s.pcx.means.find? (·.ended)).isSome = true ∧ s.ancState = Anc.ready ∧ s.appendCount < 4 ∧ s.unitOn .alm = true ∧ s.tfState ≠ Tf.applying)
      ∧ (put [(F.PCX_STATUS.TF_STATE, Tf.applying)] { on with pcx := { on.pcx with means := [⟨0, 0, 0, true, 0, []⟩] } }).tfState = Tf.applying := by decide +kernel

theorem witness_EngineEventsComplete_dma :
    (let s := (put [(F.DMC_STATUS.STATE, Dmc.ready)]).setDma 0 ⟨0, 0, 8, true, true, false⟩
     (s.dma 0).busy = true ∧ s.dmcCan ⟨enginePath 0, 2, false, 0, s.localBytes 0 0 8, 8, s.now⟩ = true ∧ (localAddr 0 0).isSome = true)
      ∧ ((put [(F.DMC_STATUS.STATE, Dmc.ready)]).dramRead (enginePath 0) 2 0 8).2 = some (zeros 8) := by decide +kernel

theorem witness_CapturesComplete_rows :
    (let s := put [(F.STU_CFG.CAPTURE_EN, 1), (F.STU_RECr_STATE.LENGTH 0, 3)] (with_ [(Sec.triggerPrograms,
        [0, 1, 0, 0, 0, 0, 0, 0, 1, 0, 0, 0, 3, 0, 0, 0, 1, 0, 0, 1, 0, 0, 0, 0])])
     s.recDef 0 = some ⟨1, 0, 0, 3, 1, 1, 0⟩ ∧ s.capLen 0 = 3 ∧ (s.cap 0).newLen = none ∧ s.flag F.STU_CFG.CAPTURE_EN = true
       ∧ s.capSt 0 = Cap.idle ∧ s.capArgs (.reg .host) 0 = (0, none) ∧ (s.capArgs (.reg .host) 0x800).2 = some (0, 0)
       ∧ s.takesUp (.reg .host) [0x0601] .stu = true)
      ∧ (let s := put [(F.STU_RECr_STATE.STATE 0, Cap.triggered)] (with_ [(Sec.triggerPrograms,
          [0, 1, 0, 0, 0, 0, 0, 0, 1, 0, 0, 0, 3, 0, 0, 0, 1, 0, 0, 1, 0, 0, 0, 0])])
        let t := s.setCap 0 { s.cap 0 with trig := some 0, post := 0 }
        let b := t.settleCap 0
        b.capSt 0 = Cap.triggered ∧ b.capComplete 0 = true ∧ (b.recDef 0).isSome = true) := by decide +kernel

theorem witness_TadpoleComplete_intake :
    (let q : TceIn := ⟨0, some (0, 0), none, zeros 96, [], false⟩
     let s : State := { on with tce := { on.tce with queue := [q] } }
     s.tce.queue = [q] ∧ q.spans = [] ∧ s.dmcServes = false ∧ s.ruleFld 0 0 (F.TCE_CHc_CFG.GEOM 0) ≠ 1)
      ∧ (put [(F.TCE_CHc_CFG.GEOM 0, 1)]).ruleFld 0 0 (F.TCE_CHc_CFG.GEOM 0) = 1 ∧ on.stageRoom 0 = false := by decide +kernel

theorem witness_DramCommandsComplete_memory :
    (let s := put [(F.DMC_STATUS.STATE, Dmc.init)]
     s.dmcState = Dmc.init ∧ s.dmc.waiting = [] ∧ s.dmc.keepPending = false)
      ∧ (let s := put [(F.DMC_STATUS.STATE, Dmc.srEntry)]
        s.dmcState = Dmc.srEntry ∧ s.ranks = 1 ∧ ((List.range 8).filter (fun x => !s.retains x)).foldl (fun a x => a + 2 ^ x) 0 = 255)
      ∧ on.dmcCheck ≠ none ∧ (put [(F.DMC_STATUS.STATE, Dmc.frozen)]).diagServes = true ∧ on.diagServes = false
      ∧ (let s := put [(F.DMC_STATUS.STATE, Dmc.ready)]
        (s.dramRead 0 0 0 8).2 = some (zeros 8) ∧ s.dmcTouch.dmc.waiting = []) := by decide +kernel

theorem witness_DramRefreshComplete_due :
    (let s := put [(F.DMC_STATUS.STATE, Dmc.ready)]
     let u : State := { s with dmc := { s.dmc with refAt := [(0, 0)] }, now := 1000000000 }
     u.refDue 0 = true ∧ u.refreshing = true ∧ 0 < u.ranks ∧ (u.setOwed 0 8).owed 0 = 8 ∧ s.refDue 0 = false) := by decide +kernel

theorem witness_ArchiveRequestsComplete_ready :
    archive.ancTakes = true ∧ on.ancTakes = false ∧ archive.dmcState ≠ Dmc.frozen
      ∧ (put [(F.DMC_STATUS.STATE, Dmc.frozen)]).dmcState = Dmc.frozen
      ∧ (let r : ArcRec := ⟨0, 0, 0, 0, 0, 0, 0, 0, 0⟩
        let s : State := { archive with anc := { archive.anc with recs := [r] } }
        s.anc.recs.find? (·.seq == 0) = some r ∧ s.oldestSeq ≤ 0 ∧ 0 ≤ s.anc.commitSeq)
      ∧ archive.anc.recs.find? (·.seq == 7) = none ∧ archive.anc.commitSeq < 7 ∧ field ((ask 0x0702 [7] archive).payload msg) 0 8 = 7
      ∧ (let s := put [(F.ANC_STATUS.STATE, Anc.fault)] (with_ [(Sec.archivePolicy, [])])
        s.ancState = Anc.fault ∧ imgHas s.sil.active Sec.archivePolicy = true)
      ∧ (put [(⟨R.ANC_FORMAT_KEY, 31, 0⟩, 0x464F524D)]).reg R.ANC_FORMAT_KEY = 0x464F524D := by decide +kernel

theorem witness_ArchiveWorkComplete_room :
    mediumFault [(0, ⟨[0x2C], [(true, ⟨1, 8192, 1008, 1, 1, 64, 1, 1, 0⟩)]⟩)] = none ∧ archive.logRoom = 64 * 8160 ∧ (archive.makeRoom 4096).1 = true ∧ archive.anc.halting = false
      ∧ (let z : ZoneChange := ⟨none, 0, .session 0, 0, [], false, none⟩
        let s : State := { archive with znt := { archive.znt with changes := [z] } }
        s.znt.changes.findIdx? (fun c => !c.submitted) = some 0 ∧ s.znt.changes[0]? = some z ∧ (s.makeRoom (z.bytes.length + 96)).1 = true)
      ∧ (let s : State := { archive with alm := { archive.alm with buf := [[0]] } }
        s.alm.buf ≠ [] ∧ (s.makeRoom (s.alm.buf.flatten.length + 96)).1 = true)
      ∧ ({ archive with alm := { archive.alm with appends := [⟨none, [], true, []⟩] } } : State).alm.appends = [⟨none, [], true, []⟩]
      ∧ (archive.tch 0).staged = [] ∧ archive.anc.skip.contains 0 = false ∧ archive.anc.full = false ∧ archive.anc.refused = []
      ∧ (let l : List Staged := [.header 0 [], .block 0 [(0, 8)] false]
        recordEnd (archive.fld F.ANC_POL0.RECORD_BLOCKS) false l = some 2
          ∧ (State.readItems (l.take 2) archive).2.isSome = true)
      ∧ (∀ k ∈ [NandKind.data, .journal, .checkpoint, .super, .erase],
        ({ archive with anc := { archive.anc with ops := [⟨k, 0, []⟩] } } : State).anc.ops = [⟨k, 0, []⟩])
      ∧ sortBy id ((archive.blocksIn (fun x => decide (3 ≤ x ∧ x ≤ 5))).filter (fun g => decide (archive.fld F.ANC_PATROL.NEXT ≤ g))) = [] := by
  decide +kernel

theorem witness_ArchiveWorkComplete_power :
    (put [(F.PMU_CFG.PWRFAIL_EN, 1)]).flag F.PMU_CFG.PWRFAIL_EN = true ∧ (put [(F.PMU_CFG.PWRFAIL_EN, 1)]).flag F.PMU_STATUS.PWRFAIL = false
      ∧ (put [(F.PMU_CFG.PWRFAIL_EN, 0)]).flag F.PMU_CFG.PWRFAIL_EN = false
      ∧ (let s := put [(F.ANC_STATUS.STATE, Anc.halted)] (with_ [(Sec.archivePolicy, [])] { on with pmu := { on.pmu with pwrfailPin := true } })
        s.pmu.pwrfailPin = true ∧ (s.setFld F.PMU_STATUS.PWRFAIL 0).ancState = Anc.halted
          ∧ imgHas (s.setFld F.PMU_STATUS.PWRFAIL 0).sil.active Sec.archivePolicy = true)
      ∧ (let j : ArcCommit := ⟨0, [], 0, [], [], [], [], 0, [], [], 0, false⟩
        let s : State := { archive with anc := { archive.anc with job := some j, passed := true, ckPhase := 2 } }
        s.anc.job.isSome = true ∧ s.anc.passed = true ∧ s.anc.ckPhase = 2 ∧ s.anc.ops.any (·.kind == .checkpoint) = false) := by decide +kernel

theorem witness_CheckValueUnitComplete_transfer :
    (let s := put [(F.CVU_CHn_STATUS.BUSY 7, 1), (F.DMC_STATUS.STATE, Dmc.ready)] { on with cvu := [(7, 0, 8)] }
     s.cvuBusy 7 = true ∧ s.cvuJob 7 = (0, 8) ∧ min 8 (s.cvuJob 7).2 ≠ 0 ∧ min 0 (s.cvuJob 7).2 = 0 ∧ s.dmcServes = true
       ∧ (s.dramRead (fixedPath .cvu) 5 0 8).2 = some (zeros 8) ∧ ((s.dramRead (fixedPath .cvu) 5 0 8).1.cvuAbsorb 7 (zeros 8)).dmcServes = true) := by
  decide +kernel

theorem witness_TimeBaseComplete_edges :
    (let s := put [(F.TTU_REF_CFG.PPS_EN, 1), (F.TTU_REF_CFG.REF_EN, 1), (F.TTU_PPS_CFG.OUT_EN, 1)] { on with ttu := { on.ttu with ppsLast := some 0 } }
     s.flag F.TTU_REF_CFG.PPS_EN = true ∧ s.flag F.TTU_REF_CFG.PPS_EDGE = false ∧ s.ttu.ppsLast = some 0
       ∧ 0 + ppsSecond - ppsWindow ≤ ppsSecond ∧ ppsSecond ≤ 0 + ppsSecond + ppsWindow ∧ 0 < 0 + ppsSecond - ppsWindow
       ∧ s.flag F.TTU_STATUS.SET_PENDING = false ∧ s.ppsOk = false ∧ s.ttu.ppsRun + 1 < 4)
      ∧ (on.refError 10000000000000).natAbs ≤ 100000000 ∧ 100000000 < (on.refError 0).natAbs ∧ on.refOk = false
      ∧ (put [(F.TTU_STATUS.REF_OK, 1)]).refOk = true
      ∧ ({ on with ttu := { on.ttu with holdSince := some 0 } } : State).ttu.holdSince = some 0
      ∧ on.scaleAt 0 % 2560000000000 < 2048
      ∧ (ask 0x0303 [1] on).reg64 R.TTU_SET_LO R.TTU_SET_HI % 1000000000 = 0 := by decide +kernel

theorem witness_StampChannelsComplete_levels :
    (let e := (on.evLevel 3 false 520).slotSettle 3 520
     let a := (put [(F.TTU_CHc_CFG.ARM_MODE 3, 1)] (e.modChan 3 (fun x => { x with calibrated := true }))).showArmed 3 520 false
     e.domOn 1 = true ∧ (e.chan 3).stuck = false ∧ a.armedAt 3 520 false = true ∧ a.edgeTaken 3 false = true ∧ (a.chan 3).last = none)
      ∧ on.armedAt 3 520 false = false
      ∧ (let s := put [(F.TTU_CHc_TIMING.STUCK_US 0, 1), (F.TTU_CHc_STATUS.LEVEL 0, 1)]
        s.evActive 0 (s.flag (F.TTU_CHc_STATUS.LEVEL 0)) = true ∧ (s.chan 0).stuck = false
          ∧ 5 * ((s.chan 0).edgeAt + 512000 * s.fld (F.TTU_CHc_TIMING.STUCK_US 0)) < 2048 * 10000)
      ∧ ((on.modChan 0 (fun x => { x with stuck := true })).chan 0).stuck = true ∧ on.evActive 0 false = false
      ∧ min 4000 (250 * 2 ^ on.fld (F.TTU_CHc_CFG.DIV 4)) = 250 ∧ iuCfgBad 0 = true ∧ iuCfgBad 2 = false
      ∧ (on.chan 0).calFailed = false := by decide +kernel

theorem witness_VernierComplete_scan :
    (let r : VpfRes := ⟨0, 0, [], 0, 0, 5, 0, 0, 0, 100, 0, false, 0, []⟩
     let s := put [(F.VPF_STATUS.STATE, Vpf.scanning), (F.VPF_CFG.NAVG_EXP, 1)] { on with vpf := { on.vpf with res := some r } }
     s.vpfState = Vpf.scanning ∧ s.vpf.res = some r ∧ r.switchAt + (3 + s.fld F.VPF_CFG.EXTRA) * (500 * r.conv) < 100000
       ∧ s.vpfBlank (100000 - 3 * (500 * r.conv)) 100000 = false ∧ 100 * (satInt 24 1).natAbs ≤ 95 * 2 ^ 23 ∧ r.n + 1 < 2 ^ s.fld F.VPF_CFG.NAVG_EXP)
      ∧ (put [(F.VPF_CHc_CFG.EN 7, 1)]).vpfNext 0 = some 7 ∧ on.vpfNext 0 = none
      ∧ (let s : State := { on with vpf := { on.vpf with mainsLast := some 0, mains := List.replicate 15 25000000 } }
        ((25000000 - 0) :: s.vpf.mains).take 16 = List.replicate 16 25000000 ∧ s.flag F.VPF_STATUS.MAINS_LOCK = false)
      ∧ (put [(F.VPF_STATUS.MAINS_LOCK, 1)]).flag F.VPF_STATUS.MAINS_LOCK = true
      ∧ ({ on with vpf := { on.vpf with scanned := 3600 * second } } : State).vpf.scanned = 3600 * second := by decide +kernel

theorem witness_DriverLinkComplete_bus :
    (let x : DlkTx := ⟨4, 1, DlkCmd.status, [], .poll⟩
     let fr := dlkFrame 1 DlkCmd.status 0 []
     let s := put [(F.DLK_CFG.RETRIES, 1)] { on with dlk := { on.dlk with busy := some (x, fr, 0) } }
     s.dlk.busy = some (x, fr, 0) ∧ 0 < (s.count F.DLK_ERR_COUNT.TIMEOUT 1).fld F.DLK_CFG.RETRIES)
      ∧ dlkFrameOk [] = false ∧ dlkFrameOk (dlkFrame 129 DlkCmd.status 0 [0, 0]) = true ∧ field (dlkFrame 129 DlkCmd.status 0 [0, 0]) 0 1 = 128 + 1 := by
  decide +kernel

theorem witness_PowerCommandsComplete_port :
    (let s : State := { on with pmu := { on.pmu with dmcPortHold := true } }
     s.pmu.dmcPortHold = true ∧ s.dmc.waiting = []) := by decide +kernel

theorem witness_SessionsComplete_rings :
    (let s : State := (on.openSession 255 0 4096 4 5 1 0)
     (s.session 255).isSome = true ∧ (s.session 255).map (fun x => (2 ^ x.sqLog2, 2 ^ x.cqLog2)) = some (16, 32) ∧ s.unitOn .hif = true)
      ∧ ({ on with hif := { on.hif with busMaster := true } } : State).hif.busMaster = true
      ∧ sessionOk 0 4096 4 5 1 0 = true ∧ on.session 0 = none
      ∧ (put [(⟨R.MSIX_PBAi 0, 31, 0⟩, 1)] { on with hif := { on.hif with msixOn := true } }).hif.msixOn = true
      ∧ bitAt ((put [(⟨R.MSIX_PBAi 0, 31, 0⟩, 1)]).setFld (F.MSIX_TABLEv_CONTROL.MASK 0) 0 |>.reg (R.MSIX_PBAi 0)).toNat 0 = true := by decide +kernel

theorem witness_HifMessagesComplete_arguments :
    regArgs ([1, 0, 0, 0, 1, 0, 0, 0].map (BitVec.ofNat 8)) = none ∧ field ((ask 0x0801 [1]).payload msg) 0 1 = 1
      ∧ readPath (field ((ask 0x0801 [0, 0, 0, 0, 1, 0, 0, 0]).payload msg) 4 4) = none
      ∧ (on.logUnion (on.zoneKeys 0)).length = 0 := by decide +kernel

theorem witness_StreamsComplete_waiting :
    (let b : WaitBlock := ⟨31, .block, 0, zeros 16, []⟩
     let s := put [(F.HIF_STRc_CFG.EN 31, 1), (F.HIF_STRc_CFG.SIZE_LOG2 31, 16)] { on with hif := { on.hif with busMaster := true, waiting := [b] } }
     s.hif.waiting.find? (fun b => b.chan = 31) = some b ∧ s.expired b = false ∧ s.recordPad 31 b = (0, 32)
       ∧ 32 ≤ 2 ^ s.fld (F.HIF_STRc_CFG.SIZE_LOG2 31)
         - ((s.reg (R.HIF_STRc_WR 31)).toNat + 2 ^ 32 - (s.reg (R.HIF_STRc_RD 31)).toNat) % 2 ^ 32)
      ∧ (let s := put [(F.DMC_STATUS.STATE, Dmc.ready)]
        s.dmcServes = true ∧ (State.readSpans (fixedPath .stu) 1 [(0, 8)] s).2 = some (zeros 8))
      ∧ on.expired ⟨0, .engine 0 0 none, 0, [], []⟩ = false
      ∧ (∀ k ∈ [DmaKind.imageChunk 0 true, .calAppend true, .toHost [] [], .errorLog [] [] [], .vlog [] [] 0, .forward 1],
        let b : Transfer := ⟨.session 0, 0, 0, 0, 0, 0, 0, k⟩
        ({ on with hif := { on.hif with transfers := [b] } } : State).hif.transfers.find? (fun b => b.origin = .session 0 ∧ b.seq = 0) = some b)
      ∧ (on.smbusBlock 0x02).isSome = true ∧ on.smbusBlock 0 = none := by decide +kernel

theorem witness_StreamsComplete_expired :
    (let s : State := on.setGrp 0 { on.grp 0 with pushes := 48 }
     s.expired ⟨0, .engine 0 0 none, 0, [], []⟩ = true) := by decide +kernel

theorem witness_CascadeControlComplete_commit :
    (let s := put [(F.CSP_STATUS.STATE, Csp.head), (F.ANC_STATUS.STATE, Anc.ready), (F.CSP_MAP.MAP, 0x8001)]
     s.csp.job = none ∧ s.ancState = Anc.ready ∧ s.unitOn .anc = true)
      ∧ (let j : CcJob := ⟨1, 0x8001, [], false, 0⟩
        let s := put [(F.CSP_STATUS.STATE, Csp.head)] { on with csp := { on.csp with job := some j } }
        s.csp.job = some j ∧ bitAt j.map 15 = true ∧ j.replies.any (·.1 == 15) = false ∧ j.appended = false)
      ∧ (let s := put [(F.CSP_STATUS.STATE, Csp.training), (F.CSP_CFG.HEAD, 1)] { on with csp := { on.csp with last := 15 } }
        s.csp.last = 15 ∧ s.flag F.CSP_CFG.HEAD = true ∧ s.csp.beaten = false)
      ∧ ({ on with csp := { on.csp with index := some 1 } } : State).csp.index = some 1
      ∧ (put [(F.CSP_STATUS.STATE, Csp.head), (F.CSP_PORTp_STATUS.LINK 0, 0)]).cspState = Csp.head := by decide +kernel

theorem witness_CascadeFramesComplete_replies :
    (let b (type : Nat) (p : Bytes) : Bytes := leBytes 1 type ++ leBytes 1 0 ++ leBytes 1 1 ++ zeros 5 ++ leBytes 4 0 ++ zeros 8 ++ p
     let r : Req := ⟨.session 0, 0, 0, 0, [], false, (0, 0)⟩
     let s := put [(F.CSP_STATUS.STATE, Csp.member), (F.CSP_STATUS.INDEX, 1), (F.CSP_MAP.MAP, 3)] { on with hif := { on.hif with reqs := [r] } }
     Cf.type (b 4 (zeros 64)) = 4 ∧ ({ on with hif := { on.hif with reqs := [r] } } : State).hif.reqs.find? (fun r => r.origin = .session 0 ∧ r.seq = 0 ∧ r.member = 0) = some r
       ∧ s.request (.session 0) 0 = some r ∧ r.orphan = false ∧ Cf.type (b 5 []) = 5 ∧ Cf.type (b 9 []) = 9
       ∧ ({ on with csp := { on.csp with sent := [(0, 0, .session 0, 0)] } } : State).csp.sent.find? (fun x => x.1 == 0 && x.2.1 == 0) = some (0, 0, .session 0, 0)
       ∧ on.request (.session 0) 0 = none ∧ on.thermEngine = none
       ∧ 80 + 8 * field (zeros 80) 64 4 ≤ (zeros 80).length) := by decide +kernel

theorem witness_AlmanacComplete_states :
    (put [(F.ALM_STATUS.STATE, Alm.starting)]).almState = Alm.starting ∧ on.alm.runStored = none ∧ on.alm.loading = 0
      ∧ ({ on with alm := { on.alm with chain := [(1, true, [])] } } : State).chainRec 1 = some (true, [])
      ∧ ({ on with alm := { on.alm with chain := [(1, false, [])] } } : State).chainRec 1 = some (false, [])
      ∧ ({ on with alm := { on.alm with firstEvent := some 0 } } : State).alm.firstEvent.isSome = true
      ∧ (on.indRead 5).isSome = true ∧ (put [(F.ALM_STATUS.STATE, Alm.loading), (F.ANC_STATUS.STATE, Anc.ready)]).almState = Alm.loading := by
  decide +kernel

theorem witness_GlobalBlockComplete_flush :
    (put [(F.GLB_WDT_CFG.FLUSH, 1), (F.ANC_STATUS.STATE, Anc.ready)]).flag F.GLB_WDT_CFG.FLUSH = true ∧ on.flag F.GLB_WDT_CFG.FLUSH = false
      ∧ ({ on with glb := { on.glb with flushCause := some Cause.thermal } } : State).glb.flushCause = some Cause.thermal
      ∧ on.glb.porHeld = false ∧ on.glb.hot = false ∧ ({ on with glb := { on.glb with tjArmed := false } } : State).glb.tjArmed = false
      ∧ on.ancState ≠ Anc.ready := by decide +kernel

theorem witness_ProbeGenerationComplete_run :
    (put [(F.PGU_STATUS.STATE, Pgu.running), (F.MRS_PERIOD.T, 125000)]).calRefusal = none := by decide +kernel

theorem witness_BusCommandsComplete_write :
    on.regOn R.DMC_ECC_CFG = true ∧ ((famOf R.DMC_ECC_CFG).map (fun f => (on.writeAction .host ⟨0, 0, 0, []⟩ f R.DMC_ECC_CFG 1).isNone)) = some true
      ∧ inRange R.PMU_CFG R.PMU_RETAIN R.DMC_ECC_CFG = false ∧ on.imageActive = false ∧ (put [(F.SIL_STATE.ACTIVE_VALID, 1)]).imageActive = true
      ∧ famOf 0xFFFFFC = none ∧ State.reset.regOn R.PGU_CLIP_COUNT = false
      ∧ (let r : DramReq := ⟨fixedPath .hif, 4, false, 0, [], 8, 0⟩
        (put [(F.DMC_STATUS.STATE, Dmc.ready)]).dmcTouch.dmcCan r = true ∧ on.dmcTouch.dmcCan r = false)
      ∧ (put [(F.DMC_STATUS.STATE, Dmc.frozen)]).dmcState = Dmc.frozen
      ∧ apertureMapped 0 = true ∧ on.domOn (2 + 0 / 0x1000000) = true ∧ on.deviceTop < apertureBase + 8 ∧ State.reset.domOn 2 = false
      ∧ imemAt 0 = none ∧ imemAt 0x800000 = some 0 ∧ on.imemQuiet 0 = true ∧ (engine 0).imemQuiet 0 = false := by decide +kernel

/-! ### Conditions on instants and turns -/

theorem witness_SlotsComplete_turns :
    (let s := framed (with_ [(Sec.schedule, [0, 0, 1, 0, 0, 0, 0, 0, 0, 0, 0, 0, 0, 0, 1, 0, 0, 0, 0, 0, 0, 0, 0, 0])])
     let f : FrameRec := { frame0 s with launch := 9 }
     let s : State := { s with mrs := { s.mrs with frames := [f] } }
     (s.progSlot 0 0 0 1).map (s.progNext 0 0) = some true)
      ∧ (let d : DynSlot := ⟨0, 0, 0, 8, 1, 0⟩
        let s : State := { framed with mrs := { framed.mrs with dyn := [d] } }
        s.dynNext d = true) := by decide +kernel

theorem witness_DynamicSlotsAndDispatchComplete_ready :
    (framed.rayReady frame0 256).isSome = true ∧ (on.blk 0).known 0 = false
      ∧ ({ on.blk 0 with last := some 0 } : BlockSt).known 0 = true := by decide +kernel

theorem witness_EngineEventsComplete_upsets :
    (let q := ((engine 0).setThread 0 { (engine 0).thread 0 with imask := 2, ipend := 2 }).settle 0
     (q.ipend 0 &&& (q.thread 0).imask) ≠ 0 ∧ (q.thread 0).atPoint = true ∧ q.engState 0 = Eng.running)
      ∧ (on.upset []).upsetIn 0 8 true = [] ∧ (on.upset [(3, true)]).upsetIn 0 8 true = [0]
      ∧ (on.upset [(3, false), (5, false)]).upsetIn 0 8 true = [0] := by decide +kernel

theorem witness_DramCommandsComplete_times :
    (let s := put [(F.DMC_STATUS.STATE, Dmc.ready), (F.DMC_ECC_CFG.SCRUB_EN, 1), (F.DMC_ECC_CFG.PERIOD, 1)] { on with now := 3600000 * msec }
     s.dmcServes = true ∧ s.dmc.scrubAt + s.scrubPeriod ≤ s.now ∧ s.flag F.DMC_ECC_CFG.SCRUB_EN = true ∧ s.dmc.zqAt + 128 * msec ≤ s.now)
      ∧ on.now < on.dmc.scrubAt + on.scrubPeriod
      ∧ (let s := put [(F.DMC_STATUS.STATE, Dmc.ready), (F.DMC_PAGE_CFG.IDLE_CLOSE, 1)] { on with now := 1000000, dmc := { on.dmc with pollAt := [(0, 0)], rows := [(31, 0)] } }
        s.pollDue 0 = decide (s.fld F.DMC_REF_CFG.MR4_POLL * usec ≤ 1000000) ∧ s.fld F.DMC_PAGE_CFG.IDLE_CLOSE * 8 * s.tCtl ≤ (s.now - s.rowUsed 31) * 8000)
      ∧ (let s := put [(F.DMC_STATUS.STATE, Dmc.srEntry)]
        s.srMask 0 = 255 ∧ ([255] : List Nat)[0]?.getD 0 = s.srMask 0 ∧ ([7] : List Nat)[0]?.getD 0 ≠ s.srMask 0)
      ∧ (on.dmcState = Dmc.off ∧ on.dmcServes = false) := by decide +kernel

theorem witness_DramRefreshComplete_poll :
    (let s := put [(F.DMC_STATUS.STATE, Dmc.ready)] { on with now := 2 ^ 16 * usec, dmc := { on.dmc with pollAt := [(0, 0)] } }
     s.refreshing = true ∧ 0 < s.ranks ∧ s.pollDue 0 = true) := by decide +kernel

theorem witness_ArchiveWorkComplete_data :
    archive.recordCloses 0 = true ∧ archive.anc.gapSeq ≤ archive.anc.commitSeq ∧ archive.anc.spans.find? (·.chan == 0) = none
      ∧ ({ archive.anc with gapSeq := 1 } : AncSt).commitSeq < 1 ∧ archive.uncommitted = 0
      ∧ (archive.makeRoom (64 * 8160 + 1)).1 = false
      ∧ ({ archive with anc := { archive.anc with halting := true } } : State).anc.halting = true := by decide +kernel

theorem witness_VernierComplete_mains :
    (let s := put [(F.VPF_CFG.MAINS_MODE, 2)] { on with vpf := { on.vpf with mainsLast := some 0, mains := List.replicate 15 25000000 } }
     let m := s.mainsAge 25000000
     m.unitOn .vpf = true ∧ 2 ≤ m.fld F.VPF_CFG.MAINS_MODE ∧ m.vpf.mainsLast = some 0 ∧ (s.mainsAge (100 * msec)).vpf.mainsLast = none) := by decide +kernel

theorem witness_DriverLinkComplete_times :
    (let y : DlkDevSt := ⟨false, false, 0, false, false, false, false, 0, false, false, none, 0⟩
     let s : State := put [(F.DLK_STATUS.STATE, Dlk.running), (F.DLK_CFG.POLL_US, 1)] { on with dlk := { on.dlk with devs := [(1, y)] }, now := usec }
     s.dlkDev 1 = some y ∧ y.polled + s.fld F.DLK_CFG.POLL_US * usec ≤ s.now ∧ 0 < y.polled + s.fld F.DLK_CFG.POLL_US * usec)
      ∧ frame0.launch + usec ≤ usec ∧ on.dlk.driveTo + 4 * usec ≤ 4 * usec ∧ on.now < on.dlk.driveTo + 4 * usec := by decide +kernel

theorem witness_CascadeControlComplete_times :
    (let j : CcJob := ⟨1, 1, [], false, 0⟩
     let s := put [(F.CSP_CFG.CC_TIMEOUT, 1), (F.CSP_CFG.CC_PERIOD, 1)] { on with now := second, csp := { on.csp with job := some j } }
     j.begun + s.fld F.CSP_CFG.CC_TIMEOUT * msec ≤ s.now ∧ s.csp.period + s.fld F.CSP_CFG.CC_PERIOD * second ≤ s.now
       ∧ 0 < j.begun + s.fld F.CSP_CFG.CC_TIMEOUT * msec) := by decide +kernel

theorem witness_CascadeFramesComplete_place : on.spanReady 0 8 = false ∧ (put [(F.DMC_STATUS.STATE, Dmc.ready)]).spanReady 0 8 = true := by decide +kernel

theorem witness_ImageLoadsComplete_bank :
    (let s := put [(F.DMC_STATUS.STATE, Dmc.ready)]
     s.spanReady (s.bankBase s.pendBank) 96 = true ∧ s.spanReady (s.bankBase s.sil.bank) 96 = true) ∧ on.spanReady (on.bankBase on.sil.bank) 96 = false := by
  decide +kernel

/-! ### Single steps and operations, with results from the spec's tables and examples -/

/-- "123456789". -/
abbrev digits : Bytes := [0x31, 0x32, 0x33, 0x34, 0x35, 0x36, 0x37, 0x38, 0x39]

/-- Table 13-1, the check values. -/
theorem test_check_values :
    (List.range 4).map (fun p => crcOver p (crcInit p) digits ^^^ crcXor p) = [0xE3069283, 0xCBF43926, 0x29B1, 0x995DC9BBDF1939FA] := by
  decide +kernel

/-- 13, the example: "1234" by one 32-bit DATA write of a channel set to four bytes counts 4 and goes on to the whole string's result. -/
theorem test_cvu_data : (match exec (.cvuDataWrite .host 2 0x34333231) (put [(F.CVU_CHn_CFG.DATA_BYTES 2, 3), (F.CVU_CHn_STATE_LO.STATE 2, 0xFFFFFFFF)]) with
    | .next t => (t.cvuCount 2, crcOver 0 (t.cvuState 2) (digits.drop 4) ^^^ crcXor 0)
    | _ => (0, 0)) = (4, 0xE3069283) := by decide +kernel

/-- R321: an all-zero unit at device address 0 has check word 0. -/
theorem test_check_word : eccCheck 0 0 = 0 := by decide +kernel

/-- Table 7-4: an ADD that wraps carries and does not overflow; one that overflows does not carry. -/
theorem test_add : aluWide addFlags false 0xFFFFFFFF 1 = ⟨0, true, false, false⟩
    ∧ aluWide addFlags false 0x7FFFFFFF 1 = ⟨0x80000000, false, true, false⟩ := by decide +kernel

/-- R224: with RRB 1 the name 31 is register 16, and the name 15 is not rotated. -/
theorem test_rotation : drIndex 1 31 = 16 ∧ drIndex 1 15 = 15 := by decide

/-- R525: a kick with another word than 0xA5C3 is counted. -/
theorem test_bad_kick : (match exec (.wdtKick .host 1 0) on with
    | .next t => t.fld F.GLB_WDT_STATUS.BAD_KICKS
    | _ => 0) = 1 := by decide +kernel

/-- R265: a start with no image is refused NO_IMAGE and leaves the state at NO_IMAGE. -/
theorem test_start_without_image : (match exec (.acqStart (.reg .host) 0) on with
    | .next t => (t.acq, t.fld F.MRS_STATUS.CODE)
    | _ => (0, 0)) = (Mrs.noImage, MrsCode.noImage) := by decide +kernel

/-- R23: a write to a block that is off changes no register but the log's and the interrupt's. -/
theorem test_write_off : (match exec (.registerWrite .host 0x300008 15 1 ⟨0, 0, 0, []⟩) State.reset with
    | .next t => (t.reg 0x300008, t.pmu.offlog.length)
    | _ => (0, 0)) = (resetWord 0x300008, 1) := by decide +kernel
end Sys2Proof.Tests
end

/-! PROOFS. Registers and their fields: what a write and a saturating count leave (00 R19, R20). -/

section
namespace Sys2Proof.Laws

open Sys2Proof Sys2Proof.Machine

/-! ### Fields of a word -/

/-- A run of ones from bit `lo` to bit `hi`. -/
theorem testBit_onesRun {hi lo : Nat} (h : lo ≤ hi) (i : Nat) :
    (2 ^ (hi + 1) - 2 ^ lo).testBit i = decide (lo ≤ i ∧ i ≤ hi) := by
  have run : 2 ^ (hi + 1) - 2 ^ lo = (2 ^ (hi + 1 - lo) - 1) <<< lo := by
    rw [Nat.shiftLeft_eq, Nat.sub_mul, ← Nat.pow_add, Nat.one_mul]
    congr 2
    omega
  rw [run, Nat.testBit_shiftLeft, Nat.testBit_two_pow_sub_one]
  simp only [ge_iff_le, ← Bool.decide_and]
  congr 1
  apply propext
  omega

/-- Inside a field `setBits` puts the bits of the value, outside it keeps those of the word. -/
theorem getLsbD_setBits (w : Word) {hi lo : Nat} (n : Nat) {i : Nat} (h : lo ≤ hi) (hi32 : i < 32) :
    (setBits w hi lo n).getLsbD i = if lo ≤ i ∧ i ≤ hi then n.testBit (i - lo) else w.getLsbD i := by
  simp only [setBits, BitVec.getLsbD_or, BitVec.getLsbD_and, BitVec.getLsbD_not, BitVec.getLsbD_shiftLeft, BitVec.getLsbD_ofNat,
    testBit_onesRun h, Nat.testBit_mod_two_pow]
  by_cases inside : lo ≤ i ∧ i ≤ hi
  · simp [inside, hi32, show i - lo < 32 by omega, show i - lo < hi + 1 - lo by omega, show ¬i < lo by omega]
  · rcases Nat.lt_or_ge i lo with low | high
    · simp [inside, hi32, low]
    · simp [inside, hi32, show ¬i - lo < hi + 1 - lo by omega]

/-- The bits of a field, as a number. -/
theorem testBit_bitsOf (w : Word) (hi lo j : Nat) : (bitsOf w hi lo).testBit j = (decide (j < hi + 1 - lo) && w.getLsbD (lo + j)) := by
  simp [bitsOf, Nat.testBit_mod_two_pow, Nat.testBit_shiftRight, BitVec.getLsbD]

/-- A field holds what was put there, cut to its width. -/
theorem bitsOf_setBits (w : Word) {hi lo : Nat} (n : Nat) (h : lo ≤ hi) (hhi : hi < 32) :
    bitsOf (setBits w hi lo n) hi lo = n % 2 ^ (hi + 1 - lo) := by
  refine Nat.eq_of_testBit_eq fun j => ?_
  rw [testBit_bitsOf, Nat.testBit_mod_two_pow]
  by_cases hj : j < hi + 1 - lo
  · rw [getLsbD_setBits w n h (by omega), if_pos (by omega), Nat.add_sub_cancel_left]
  · simp [hj]

/-! ### A field of a register -/

theorem fld_setFld (s : State) (f : Fld) (n : Nat) (c : s.canonical) (h : f.lo ≤ f.hi) (hhi : f.hi < 32) :
    (s.setFld f n).fld f = n % 2 ^ (f.hi + 1 - f.lo) := by
  rw [State.fld, State.setFld, reg_setReg_self s _ _ c.1, bitsOf_setBits _ _ h hhi]

theorem getLsbD_reg_setFld_of_outside (s : State) (f : Fld) (n : Nat) {i : Nat} (c : s.canonical) (h : f.lo ≤ f.hi) (hi : i < 32)
    (outside : i < f.lo ∨ f.hi < i) : ((s.setFld f n).reg f.reg).getLsbD i = (s.reg f.reg).getLsbD i := by
  rw [State.setFld, reg_setReg_self s _ _ c.1, getLsbD_setBits _ _ h hi, if_neg (by omega)]


/-- Settles O6: the read laws of a sparse table, and its canonical form after a write. -/
theorem registerReadBack : Obligations.RegisterReadBack := by
  intro s off w c
  exact ⟨reg_setReg_self s off w c.1, fun r hr => reg_setReg_of_ne s off r w hr,
    (keeps_setReg off w (Keeps.refl s)).canonical c, rfl⟩

/-- Settles O9: a count is a field write of the saturated sum, which fits the field. -/
theorem saturatingCount : Obligations.SaturatingCount := by
  intro s f n c h hhi
  refine ⟨?_, fun i hi outside => getLsbD_reg_setFld_of_outside s f _ c h hi outside, fun r hr => reg_count_of_ne s f n r hr⟩
  have fits : satAdd f.top (s.fld f) n < 2 ^ (f.hi + 1 - f.lo) :=
    Nat.lt_of_le_of_lt (Nat.min_le_left _ _) (Nat.sub_one_lt (Nat.ne_of_gt (Nat.two_pow_pos _)))
  calc (s.count f n).fld f = satAdd f.top (s.fld f) n % 2 ^ (f.hi + 1 - f.lo) := fld_setFld s f _ c h hhi
    _ = min (2 ^ (f.hi + 1 - f.lo) - 1) (s.fld f + n) := Nat.mod_eq_of_lt fits

end Sys2Proof.Laws
end

/-! PROOFS. Accesses to registers of a block that is off (17 R454, R455). -/

section
namespace Sys2Proof.Laws

open Sys2Proof Sys2Proof.Machine

theorem getLast?_lastN {α : Type} {n : Nat} (hn : 0 < n) (l : List α) (x : α) : (lastN n (l ++ [x])).getLast? = some x := by
  rw [lastN, List.getLast?_drop, if_neg (by simp; omega), List.getLast?_concat]

/-- The newest entry of PMU_OFFLOG after an access to a block that is off (17 R455, Table 17-5). -/
theorem logOffBy_newest (s : State) (by_ : Nat) (aperture write : Bool) (off domain : Nat) :
    (s.logOffBy by_ aperture write off domain).pmu.offlog.getLast? = some
      [w32 (off % 2 ^ 26 + (if aperture then 2 ^ 26 else 0) + (if write then 2 ^ 27 else 0) + 2 ^ 28 * by_), w32 s.frame,
        w32 (s.frame / 2 ^ 32 % 65536 + 65536 * domain), w32 (s.bin + 2 ^ 31)] := by
  have kept : ∀ (b : Bool) (a : State), (if b then a.count F.PMU_OFFLOG_STAT.LOST 1 else a).pmu = a.pmu := by
    intro b a; cases b <;> simp
  simp only [State.logOffBy, raise_pmu, post_pmu, kept]
  exact getLast?_lastN (by decide) _ _

/-- A block outside domain 0 whose domain is not on is off. -/
theorem regOn_eq_false {s : State} {off : Nat} (h0 : regDomain off ≠ 0) (h : s.domOn (regDomain off) = false) : s.regOn off = false := by
  simp [State.regOn, h0, h]

theorem busWrite_of_off {s : State} (src : Src) (env : BusEnv) {off : Nat} (w : Word) (h : s.regOn off = false) :
    s.busWrite src env off w = s.logOff src false true off (regDomain off) := by
  simp [State.busWrite, h]

theorem busRead_of_off {s : State} (src : Src) {off : Nat} (h : s.regOn off = false) :
    s.busRead src off = (s.logOff src false false off (regDomain off), 0) := by
  simp [State.busRead, h]

/-- OFF_ACCESS of a register whose block is off. -/
theorem exec_offAccess_of_off (s : State) (src : Src) (write : Bool) (off : BitVec 26) (t : Nat) :
    let n := off.toNat % 2 ^ 24 / 4 * 4
    let u := (s.at_ t).logOff src false write n (regDomain n)
    regDomain n ≠ 0 → (s.at_ t).domOn (regDomain n) = false →
      exec (.offAccess (.bus src) false write off t) s = .next (if write then u else u.give (.readData n 0)) := by
  intro n u h0 h
  exact congrArg Host.Outcome.next (if_neg (not_or.mpr ⟨h0, ne_true_of_eq_false h⟩))

/-- Settles O18: with the block off every path ends in the logged access. -/
theorem offBlockAccess : Obligations.OffBlockAccess := by
  intro s src off t env w n u h0 h
  have offOf := regOn_eq_false h0 h
  refine ⟨exec_offAccess_of_off s src true off t h0 h, exec_offAccess_of_off s src false off t h0 h,
    busWrite_of_off src env w offOf, busRead_of_off src offOf, fun wr => ?_⟩
  exact logOffBy_newest u (srcCode src) false wr n (regDomain n)

end Sys2Proof.Laws
end

/-! PROOFS. Register writes, and accesses through the windows (18 R461, R462, 07 R236). -/

section
namespace Sys2Proof.Laws

open Sys2Proof Sys2Proof.Machine

/-! ### Writes of registers of a block that is on -/

/-- The state a register write acts on: the PGU has emitted every sample before a write of its registers (03 R99). -/
def busReady (s : State) (off : Nat) : State := if inRange 0x400000 0x4FFFFF off then s.synthTo (2 * s.now) else s

/-- What follows a write of the PMU's or the PGU's own registers. -/
def busFollows (off : Nat) (s : State) : State :=
  if inRange R.PMU_CFG R.PMU_RETAIN off then s.repower.pwrfailSample
  else if off = R.PGU_CAL_CFG ∨ off = R.PGU_IQ_OFFSET ∨ off = R.PGU_IQ_GAIN then s.pguShown else s

section
variable {s : State} {src : Src} {env : BusEnv} {off : Nat} {w : Word} {f : RegFam}

theorem busWrite_of_unmapped (on : s.regOn off = true) (h : famOf off = none) : s.busWrite src env off w = busReady s off := by
  simp only [State.busWrite, on, h]
  rfl

theorem busWrite_of_action {t : State} (on : s.regOn off = true) (hf : famOf off = some f)
    (h : (busReady s off).writeAction src env f off w = some t) : s.busWrite src env off w = t := by
  unfold busReady at h
  simp only [State.busWrite, on, hf, h]
  rfl

theorem busWrite_of_plain (on : s.regOn off = true) (hf : famOf off = some f)
    (h : (busReady s off).writeAction src env f off w = none) :
    s.busWrite src env off w = busFollows off ((busReady s off).plainWrite src f off w) := by
  unfold busReady at h
  simp only [State.busWrite, on, hf, h]
  rfl

/-- A plain write that no lock stops. -/
theorem plainWrite_of_unlocked (h : s.imageActive = false ∨ (s.reg off ^^^ w) &&& f.maskOf .rwl = 0) :
    s.plainWrite src f off w = (s.setReg off (f.applyWrite s.imageActive (s.reg off) w)).settleIrq := by
  have unlocked : (s.imageActive && ((s.reg off ^^^ w) &&& f.maskOf .rwl) != 0) = false := by
    rcases h with h | h <;> simp [h]
  simp only [State.plainWrite, unlocked]
  rfl

/-- A plain write that would change a locked field is recorded. -/
theorem plainWrite_of_locked (active : s.imageActive = true) (h : (s.reg off ^^^ w) &&& f.maskOf .rwl ≠ 0) :
    s.plainWrite src f off w
      = ((s.lockViolation src off).setReg off (f.applyWrite true ((s.lockViolation src off).reg off) w)).settleIrq := by
  have locked : (s.imageActive && ((s.reg off ^^^ w) &&& f.maskOf .rwl) != 0) = true := by
    simpa [active] using h
  simp only [State.plainWrite, locked]
  rw [active]
  rfl

end

/-! ### A request at an idle DRAM port -/

/-- One request alone is granted. -/
theorem arbPick_single (winners : List (Nat × Nat)) (r : ArbReq) : ∃ w, arbPick winners [r] = some (0, w) := by
  have tied : arbTied [r] r.rank = [(0, pathKey r.path)] := by
    simp [arbTied, sortBy, insertBy]
  have wins : ∀ last, arbWinner last [(0, pathKey r.path)] = some (0, pathKey r.path) := by
    intro last
    cases last with
    | none => rfl
    | some w =>
      simp only [arbWinner, List.head?_cons, List.getLast?_singleton]
      split
      · rw [List.find?_cons_of_neg (by simp; omega)]
        rfl
      · rfl
  exact ⟨_, by simp only [arbPick, List.map_cons, List.map_nil, List.min?_singleton, tied, wins, Option.map_some]; rfl⟩

/-- A port where nothing that waits can be served grants nothing. -/
theorem dmcGrants_of_none {k n : Nat} {s : State} (h : s.dmc.waiting.filter s.dmcCan = []) : State.dmcGrants k n s = s := by
  cases k with
  | zero => rfl
  | succ k => rw [State.dmcGrants, h]; rfl

/-- A request that waits alone and can be served is granted. -/
theorem dmcGrants_single {s : State} {r : DramReq} (alone : s.dmc.waiting = [r]) (can : s.dmcCan r = true) :
    ∃ w, State.dmcGrants 1 0 s = ({ s with dmc := { s.dmc with waiting := [], winners := w } } : State).dmcServe r := by
  obtain ⟨w, hw⟩ := arbPick_single s.dmc.winners (s.portReq 0 r)
  have ready : s.dmc.waiting.filter s.dmcCan = [r] := by simp [alone, can]
  refine ⟨w, ?_⟩
  simp only [State.dmcGrants, ready, List.map_cons, List.map_nil, hw, List.getElem?_cons_zero]
  rw [alone, List.erase_cons_head]

/-- At an idle port a request that can be served is granted at once; the grant changes the last winners alone. -/
theorem dmcEnqueue_of_can {s : State} {r : DramReq} (idle : s.dmcTouch.dmc.waiting = []) (can : s.dmcTouch.dmcCan r = true) :
    ∃ z : State, { z with dmc := { z.dmc with winners := s.dmcTouch.dmc.winners } } = s.dmcTouch ∧ s.dmcEnqueue r = z.dmcServe r := by
  unfold State.dmcEnqueue
  generalize s.dmcTouch = y at idle can ⊢
  obtain ⟨w, hw⟩ := dmcGrants_single (s := { y with dmc := { y.dmc with waiting := [r] } }) rfl can
  refine ⟨{ y with dmc := { y.dmc with waiting := [], winners := w } }, by rw [← idle], ?_⟩
  simp only [idle]
  exact hw

/-- A request that cannot be served waits. -/
theorem dmcEnqueue_of_cannot {s : State} {r : DramReq} (idle : s.dmcTouch.dmc.waiting = []) (can : s.dmcTouch.dmcCan r = false) :
    s.dmcEnqueue r = { s.dmcTouch with dmc := { s.dmcTouch.dmc with waiting := [r] } } := by
  unfold State.dmcEnqueue
  generalize s.dmcTouch = y at idle can ⊢
  simp only [idle, List.nil_append]
  exact dmcGrants_of_none (List.filter_eq_nil_iff.mpr fun x hx => by
    rw [List.mem_singleton.mp hx]
    exact ne_true_of_eq_false can)

/-- What the host window gives when the port grants its write. -/
theorem dmcServe_window_write (z : State) (a : Nat) (data : Bytes) (len since : Nat) :
    z.dmcServe ⟨fixedPath .hif, 4, true, a, data, len, since⟩
      = (let c := z.deviceWrite (fixedPath .hif) 4 a data
         if c.dmcState = Dmc.frozen then c.frozenWindow true a data.length else c) := by
  simp [State.dmcServe]

/-- What the host window gives when the port grants its read and the data is sound. -/
theorem dmcServe_window_read {z c : State} {a : Nat} {data : Bytes} {len since : Nat} {d : Bytes}
    (h : z.deviceRead (fixedPath .hif) 4 a len = (c, some d)) :
    z.dmcServe ⟨fixedPath .hif, 4, false, a, data, len, since⟩ = c.give (.readData a (leNat d)) := by
  have hif : fixedPath .hif ≠ dmcPath := by decide
  simp [State.dmcServe, hif, h]

/-- The same when the read finds no sound data. -/
theorem dmcServe_window_read_lost {z c : State} {a : Nat} {data : Bytes} {len since : Nat}
    (h : z.deviceRead (fixedPath .hif) 4 a len = (c, none)) :
    z.dmcServe ⟨fixedPath .hif, 4, false, a, data, len, since⟩ = if c.dmcState = Dmc.frozen then c.frozenWindow false a len else c := by
  simp [State.dmcServe, h]

/-! ### Window accesses -/

section
variable {s : State} {src : Src} {write : Bool} {ap a : Nat} {data : Bytes} {len : Nat}

theorem windowDram_of_frozen (h : s.dmcState = Dmc.frozen) : s.windowDram write a data len = s.frozenWindow write a len := if_pos h

theorem windowDram_of_serving (h : s.dmcState ≠ Dmc.frozen) :
    s.windowDram write a data len = s.dmcEnqueue ⟨fixedPath .hif, 4, write, a, data, len, s.now⟩ := if_neg h

theorem aperture_of_off (h : s.domOn (2 + ap / 0x1000000) = false) :
    s.aperture src true ap data len = s.logOff src true true ap (2 + ap / 0x1000000) := by
  simp [State.aperture, h]

theorem aperture_of_on (h : s.domOn (2 + ap / 0x1000000) = true) (m : apertureMapped ap = true) :
    s.aperture src write ap data len = s.apertureServe write ap data len := by
  simp [State.aperture, h, m]

theorem apertureServe_write_of_data (h : imemAt ap = none) : s.apertureServe true ap data len = s.setEmem ap data := by
  simp [State.apertureServe, h]

theorem apertureServe_write_of_quiet {e : Nat} (h : imemAt ap = some e) (q : s.imemQuiet e = true) :
    s.apertureServe true ap data len = s.setEmem ap data := by
  simp [State.apertureServe, h, q]

theorem apertureServe_write_of_busy {e : Nat} (h : imemAt ap = some e) (q : s.imemQuiet e = false) :
    s.apertureServe true ap data len = (s.logAt (enginePath e) GeaCode.imemWrite).raise .gea F.GEA_IRQ_STATUS.IMEM_WRITE := by
  simp [State.apertureServe, h, q]

end

/-- What BAR2_ACCESS does once the HIF is on. -/
theorem exec_bar2Access_of_on (s : State) (write : Bool) (off : BitVec 28) (data : Bytes) (len : Nat) (ecc : Upsets) (t : Nat)
    (on : ((s.at_ t).upset ecc).unitOn .hif = true) :
    let u := (s.at_ t).upset ecc
    let a := u.winBase + off.toNat
    let n := if write then data.length else len
    exec (.bar2Access write off data len ecc t) s = .next (if a + n ≤ u.deviceTop then u.windowDram write a data len
      else if apertureBase ≤ a ∧ a + n ≤ apertureBase + apertureSize then u.aperture .host write (a - apertureBase) data len
      else u.unmapped write a) := by
  exact congrArg Host.Outcome.next (if_neg (by rw [on]; decide))

/-- An APERTURE_ACCESS of the SIL to memory of a tile that is on. -/
theorem exec_apertureAccess_sil (s : State) (src : Src) (write : Bool) (off : BitVec 26) (data : Bytes) (len : Nat) (ecc : Upsets) (t : Nat)
    (on : ((s.at_ t).upset ecc).domOn (2 + off.toNat / 0x1000000) = true) (mapped : apertureMapped off.toNat = true) :
    exec (.apertureAccess true src write off data len ecc t) s
      = .next (if write then ((s.at_ t).upset ecc).setEmem off.toNat data else ((s.at_ t).upset ecc).outsideRead off.toNat len) :=
  congrArg Host.Outcome.next (if_neg (by simp [on, mapped]) : (if (!_) = true then _ else _) = _)

/-- An APERTURE_ACCESS of a host. -/
theorem exec_apertureAccess_host (s : State) (src : Src) (write : Bool) (off : BitVec 26) (data : Bytes) (len : Nat) (ecc : Upsets) (t : Nat) :
    exec (.apertureAccess false src write off data len ecc t) s
      = .next (((s.at_ t).upset ecc).aperture src write off.toNat data len) := rfl

/-- A REGISTER_WRITE with all byte enables. -/
theorem exec_registerWrite_whole (s : State) (src : Src) (off : BitVec 24) (w : Word) (env : BusEnv) :
    exec (.registerWrite src off 15 w env) s = .next ((s.at_ env.t).busWrite src env (off.toNat / 4 * 4) w) := rfl

/-- A REGISTER_WRITE with fewer. -/
theorem exec_registerWrite_partial (s : State) (src : Src) (off : BitVec 24) (be : Fin 16) (w : Word) (env : BusEnv) (h : be.val ≠ 15) :
    let v := s.at_ env.t
    let n := off.toNat / 4 * 4
    exec (.registerWrite src off be w env) s
      = .next ((if v.regOn n then v else v.logOff src false true n (regDomain n)).post .hif HifCode.partialWrite (n / 4)) :=
  congrArg Host.Outcome.next (if_pos h)

/-- Settles O29: the register writes by what `writeAction` answers, the window by where the access lies. -/
theorem busCommandsComplete : Obligations.BusCommandsComplete := by
  intro s src o24 o26 o28 be w env write data len t ecc off v x u a n ap bytes after request
  have whole := exec_registerWrite_whole s src o24 w env
  have partialWrite := exec_registerWrite_partial s src o24 be w env
  have window := exec_bar2Access_of_on s write o28 data len ecc t
  have host := exec_apertureAccess_host s src (off := o26) (data := data) (len := len) (ecc := ecc) (t := t)
  have sil := exec_apertureAccess_sil s src (off := o26) (data := data) (len := len) (ecc := ecc) (t := t)
  refine ⟨fun f on hf => ⟨fun plain => ⟨fun unlocked => ?_, fun active locked => ?_⟩, fun y action => ?_⟩, fun on unmapped => ?_, fun offReg => ?_,
    fun part on => ?_, fun part offReg => ?_, fun hifOn => ⟨fun inside => ⟨fun serving idle can => ?_, fun serving idle can => ?_, fun frozen => ?_⟩,
      fun beyond low high => ?_, fun beyond outside => ?_⟩,
    fun on mapped => ⟨?_, fun data => ?_, fun e imem quiet => ?_, fun e imem busy => ?_, ?_, ?_⟩, fun offTile => ?_⟩
  · rw [whole, busWrite_of_plain on hf plain, plainWrite_of_unlocked (s := busReady v off) unlocked]
    rfl
  · rw [whole, busWrite_of_plain on hf plain, plainWrite_of_locked (s := busReady v off) active locked]
    rfl
  · rw [whole, busWrite_of_action on hf action]
  · rw [whole, busWrite_of_unmapped on unmapped]
    rfl
  · rw [whole, busWrite_of_off src env w offReg]
  · exact (partialWrite part).trans (by rw [if_pos on])
  · exact (partialWrite part).trans (by rw [if_neg (ne_true_of_eq_false offReg)])
  · obtain ⟨z, hz, served⟩ := dmcEnqueue_of_can idle can
    have run : exec (.bar2Access write o28 data len ecc t) s = .next (z.dmcServe request) := by
      rw [window hifOn, if_pos inside, windowDram_of_serving serving, ← served]
    refine ⟨z, hz, fun isWrite c hc => ?_, fun c d isRead hd => ?_⟩
    · subst isWrite hc
      rw [run, dmcServe_window_write]
      rfl
    · subst isRead
      cases d with
      | some d => exact run.trans (congrArg _ (dmcServe_window_read hd))
      | none => exact run.trans (congrArg _ (dmcServe_window_read_lost hd))
  · rw [window hifOn, if_pos inside, windowDram_of_serving serving, dmcEnqueue_of_cannot idle can]
  · rw [window hifOn, if_pos inside, windowDram_of_frozen frozen]
    rfl
  · intro k on mapped
    have run : exec (.bar2Access write o28 data len ecc t) s = .next (u.apertureServe write k data len) := by
      rw [window hifOn, if_neg (Nat.not_le.mpr beyond), if_pos ⟨low, high⟩, aperture_of_on on mapped]
    refine ⟨fun isWrite imem => ?_, fun isRead => ?_⟩
    · subst isWrite
      rw [run, apertureServe_write_of_data imem]
    · subst isRead
      exact run
  · rw [window hifOn, if_neg (Nat.not_le.mpr beyond), if_neg fun inside => outside.elim (Nat.not_lt.mpr inside.1) (Nat.not_lt.mpr inside.2)]
    rfl
  · rw [sil (write := true) on mapped]
    rfl
  · rw [host, aperture_of_on on mapped, apertureServe_write_of_data data]
  · rw [host, aperture_of_on on mapped, apertureServe_write_of_quiet imem quiet]
  · rw [host, aperture_of_on on mapped, apertureServe_write_of_busy imem busy]
  · rw [sil (write := false) on mapped]
    rfl
  · rw [host, aperture_of_on on mapped]
    rfl
  · rw [host, aperture_of_off offTile]

end Sys2Proof.Laws
end

/-! PROOFS. Every command keeps the queue, the fuses and the canonical form (00 R19, 01 R56, 23 R566). -/

section
namespace Sys2Proof.Laws

open Sys2Proof Sys2Proof.Machine

/-! ### Results that hold a state -/

/-- The state an operation may give is kept. -/
def KeepsOpt (s₀ : State) (o : Option State) : Prop := ∀ t, o = some t → Keeps s₀ t

/-- The state an operation gives unless it faults is kept. -/
def KeepsOk (s₀ : State) (x : Except Faulting State) : Prop := ∀ t, x = .ok t → Keeps s₀ t

/-- A command answers a next state, and that is kept. -/
def Runs (s₀ : State) (o : Host.Outcome State Fault Refusal) : Prop := ∃ t, o = .next t ∧ Keeps s₀ t

/-- Every action of a control register's bits is kept. -/
def ActsKeep (s₀ : State) (acts : List (Nat × (State → State))) : Prop := ∀ x ∈ acts, ∀ y, Keeps s₀ y → Keeps s₀ (x.2 y)

/-- What an engine instruction does is kept unless it faults. -/
def RunKeeps (run : Run) : Prop := ∀ k w ex s₀ s, Keeps s₀ s → KeepsOk s₀ (run k w ex s)

section
variable {s₀ s t : State} {c : Prop} [Decidable c]

theorem Keeps.ite_fst {β : Type} {p q : State × β} (h : Keeps s₀ p.1) (k : Keeps s₀ q.1) : Keeps s₀ (if c then p else q).1 := by
  split <;> assumption

theorem Keeps.ite_snd {β : Type} {p q : β × State} (h : Keeps s₀ p.2) (k : Keeps s₀ q.2) : Keeps s₀ (if c then p else q).2 := by
  split <;> assumption

theorem KeepsOpt.some (h : Keeps s₀ s) : KeepsOpt s₀ (some s) := by
  rintro _ ⟨⟩
  exact h

theorem KeepsOpt.none : KeepsOpt s₀ none := by simp [KeepsOpt]

theorem KeepsOpt.ite {o q : Option State} (h : KeepsOpt s₀ o) (k : KeepsOpt s₀ q) : KeepsOpt s₀ (if c then o else q) := by
  split <;> assumption

theorem KeepsOpt.map {β : Type} {o : Option β} {f : β → State} (h : ∀ x, Keeps s₀ (f x)) : KeepsOpt s₀ (o.map f) := by
  intro t ht
  obtain ⟨x, -, rfl⟩ := Option.map_eq_some_iff.mp ht
  exact h x

theorem KeepsOpt.getD {o : Option State} (h : KeepsOpt s₀ o) (k : Keeps s₀ s) : Keeps s₀ (o.getD s) := by
  cases o with
  | none => exact k
  | some t => exact h t rfl

theorem KeepsOk.ok (h : Keeps s₀ s) : KeepsOk s₀ (.ok s) := by
  rintro _ ⟨⟩
  exact h

theorem KeepsOk.error {e : Faulting} : KeepsOk s₀ (.error e) := by simp [KeepsOk]

theorem KeepsOk.ite {x y : Except Faulting State} (h : KeepsOk s₀ x) (k : KeepsOk s₀ y) : KeepsOk s₀ (if c then x else y) := by
  split <;> assumption

theorem Runs.next (h : Keeps s₀ s) : Runs s₀ (.next s) := ⟨s, rfl, h⟩

theorem Runs.ite {x y : Host.Outcome State Fault Refusal} (h : Runs s₀ x) (k : Runs s₀ y) : Runs s₀ (if c then x else y) := by
  split <;> assumption

theorem ActsKeep.nil : ActsKeep s₀ [] := by simp [ActsKeep]

theorem ActsKeep.cons {n : Nat} {f : State → State} {l : List (Nat × (State → State))} (h : ∀ y, Keeps s₀ y → Keeps s₀ (f y))
    (k : ActsKeep s₀ l) : ActsKeep s₀ ((n, f) :: l) := List.forall_mem_cons.mpr ⟨h, k⟩

end

/-! ### The operations of the block, chapter by chapter

One lemma for each operation. Its proof follows the definition: a chain of lemmas for a chain of operations, `Keeps.ite` for a
choice, `Keeps.fold` for a fold, and `Keeps.upd` for a change outside registers, logs and memories. -/

/-! #### `Machine/Ops` -/

section
variable {s₀ s : State} {n code detail off t lo hi path domain frame bin type dst arg source by_ : Nat} {u : Machine.Unit} {f : Fld}
  {payload bytes : Bytes} {v : Via} {aperture write b : Bool} {o : Out} {w seq : Word} {x : Session} {src : Src} {ops : List Nat}
  (h : Keeps s₀ s)
include h

theorem Keeps.give : Keeps s₀ (s.give o) := h.upd rfl rfl

theorem Keeps.setReg : Keeps s₀ (s.setReg off w) := keeps_setReg _ _ h

theorem Keeps.setFld : Keeps s₀ (s.setFld f n) := h.setReg

theorem Keeps.setFlag : Keeps s₀ (s.setFlag f b) := h.setFld

theorem Keeps.count : Keeps s₀ (s.count f n) := h.setFld

theorem Keeps.setReg64 : Keeps s₀ (s.setReg64 lo hi n) := h.setReg.setReg

theorem Keeps.resetRegs : Keeps s₀ (s.resetRegs lo hi) := keeps_resetRegs _ _ h

theorem Keeps.stallTo : Keeps s₀ (s.stallTo t) := .ite h.setReg64 h

theorem Keeps.freeBytes : Keeps s₀ (s.freeBytes n).2 := h.upd rfl rfl

theorem Keeps.logFor : Keeps s₀ (s.logFor path code frame bin) := keeps_logFor _ _ _ _ h

theorem Keeps.logAt : Keeps s₀ (s.logAt path code) := h.logFor

theorem Keeps.signal {v : Nat} : Keeps s₀ (s.signal v) := .ite h <| .ite h.setReg <| .ite (h.upd rfl rfl) h

theorem Keeps.settleIrqAt : Keeps s₀ (s.settleIrqAt n) := .ite (.signal (h.upd rfl rfl)) (h.upd rfl rfl)

theorem Keeps.settleIrq : Keeps s₀ s.settleIrq := h.fold (fun _ _ => .settleIrqAt)

theorem Keeps.raise : Keeps s₀ (s.raise u f) := h.setFld.settleIrqAt

theorem Keeps.show : Keeps s₀ (s.show u code detail) := by
  unfold State.show
  split
  · exact h.setFld.setFld
  · exact h

theorem Keeps.post : Keeps s₀ (s.post u code detail) := .ite h.show h.show.logAt

theorem Keeps.chorusSend : Keeps s₀ (s.chorusSend type dst arg payload) := .give (.ite (h.upd rfl rfl) h)

theorem Keeps.trainTo : Keeps s₀ (s.trainTo t) := by
  unfold State.trainTo
  split
  · exact .ite h <| .ite (.give (h.upd rfl rfl)) (h.upd rfl rfl)
  · exact h

theorem Keeps.at_ : Keeps s₀ (s.at_ t) := h.stallTo.trainTo.upd rfl rfl

theorem Keeps.setSession : Keeps s₀ (s.setSession n x) := h.upd rfl rfl

theorem Keeps.putAnswer : Keeps s₀ (s.putAnswer n bytes) := by
  unfold State.putAnswer
  split
  · exact h
  · exact .ite h.setSession <| .signal (h.setSession.upd rfl rfl)

theorem Keeps.answer {o : Origin} : Keeps s₀ (s.answer o seq code source detail payload) := by
  unfold State.answer
  split
  · exact h
  · refine .ite (h.upd rfl rfl) ?_
    split
    · exact .putAnswer (h.upd rfl rfl)
    · exact .chorusSend (h.upd rfl rfl)

theorem Keeps.finish : Keeps s₀ (s.finish v u code detail payload) := by
  unfold State.finish
  split
  · exact h.post
  · exact h.post.answer

theorem Keeps.reply : Keeps s₀ (s.reply v u code detail payload) := by
  unfold State.reply
  split
  · exact h
  · exact h.answer

theorem Keeps.logOffBy : Keeps s₀ (s.logOffBy by_ aperture write off domain) :=
  .raise (.post (.ite (.count (h.upd rfl rfl)) (h.upd rfl rfl)))

theorem Keeps.logOff : Keeps s₀ (s.logOff src aperture write off domain) := h.logOffBy

theorem Keeps.onUnit {act : State → State} (hact : ∀ y, Keeps s₀ y → Keeps s₀ (act y)) : Keeps s₀ (s.onUnit v u off act) := by
  unfold State.onUnit
  refine .ite (hact _ h) ?_
  split
  · exact h.logOff
  · exact h.logOff.post.answer

theorem Keeps.withRequest {act : State → State} (hact : ∀ y, Keeps s₀ y → Keeps s₀ (act y)) : Keeps s₀ (s.withRequest v ops act) := by
  unfold State.withRequest
  split
  · exact hact _ h
  · split
    · exact hact _ h
    · exact h

end

/-! #### `Machine/DeadTime` -/

section
variable {s₀ s : State} {z : Nat} {x : ZoneDead} (h : Keeps s₀ s)
include h

theorem Keeps.setZdead : Keeps s₀ (s.setZdead z x) := h.upd rfl rfl

theorem Keeps.settleDead : Keeps s₀ (s.settleDead z) := .ite h h.setZdead

theorem Keeps.settleDeads : Keeps s₀ s.settleDeads := h.fold (fun _ _ => .settleDead)

end

/-! #### `Machine/EngMem` -/

section
variable {s₀ s : State} {ap lo n : Nat} {bs : Bytes} (h : Keeps s₀ s)
include h

theorem Keeps.setEmem : Keeps s₀ (s.setEmem ap bs) := h.emem (tabWf_memPut _ _ _ _)

theorem Keeps.clearEmem : Keeps s₀ (s.clearEmem lo n) := h.emem (tabWfFrom_filter _ _ _ none)

end

/-! #### `Machine/DmcBase` -/

section
variable {s₀ s : State} {cmd low cls r st dest : Nat} (h : Keeps s₀ s)
include h

theorem Keeps.dmcCmd : Keeps s₀ (s.dmcCmd cmd low cls) := h.upd rfl rfl

theorem Keeps.refStart : Keeps s₀ (s.refStart r) := h.upd rfl rfl

theorem Keeps.srxIssue : Keeps s₀ s.srxIssue := h.setFld.fold (fun _ _ hy => hy.dmcCmd.refStart)

theorem Keeps.srWake : Keeps s₀ s.srWake := .ite h.srxIssue <| .ite (h.upd rfl rfl) h

theorem Keeps.dmcKeep : Keeps s₀ s.dmcKeep := .ite h.setFld <| .ite (h.upd rfl rfl) h

theorem Keeps.dmcStep : Keeps s₀ (s.dmcStep st dest) := .ite h.dmcKeep <| .ite (.srWake (h.upd rfl rfl)) h

end

/-! #### `Machine/Votes` -/

section
variable {s₀ s : State} {d v i : Nat} {x : Voter} {ds : List Nat} (h : Keeps s₀ s)
include h

theorem Keeps.afeSleep : Keeps s₀ (s.afeSleep d) := .ite (h.upd rfl rfl) <| .ite (h.upd rfl rfl) h

theorem Keeps.afeAwake : Keeps s₀ (s.afeAwake d) := .ite (h.upd rfl rfl) h

theorem Keeps.startStep : Keeps s₀ (s.startStep d) :=
  .ite (.ite (.dmcStep (.setFld (.ite h.afeSleep h))) (.setFld (.ite h.afeSleep h))) h

theorem Keeps.startSteps : Keeps s₀ s.startSteps := h.fold (fun _ _ => .startStep)

theorem Keeps.pursue : Keeps s₀ (s.pursue d) := by
  unfold State.pursue
  extract_lets r s0 cur s1
  have h1 : Keeps s₀ s1 := .ite h.setFld.setFld.setFld h.setFld.setFld
  exact .ite h.setFld <| .ite h1.post h1

theorem Keeps.repower : Keeps s₀ s.repower := .startSteps (h.fold (fun _ _ => .pursue))

theorem Keeps.checkVote : Keeps s₀ (s.checkVote d v) := .ite h.post.raise h

theorem Keeps.castVote : Keeps s₀ (s.castVote i d v) := .ite h <| .checkVote (h.upd rfl rfl)

theorem Keeps.vote : Keeps s₀ (s.vote x d v) := h.castVote.repower

theorem Keeps.voteAll : Keeps s₀ (s.voteAll x ds v) := .repower (h.fold (fun _ _ => .castVote))

theorem Keeps.dropVotesOf : Keeps s₀ (s.dropVotesOf d) := h.upd rfl rfl

end

/-! #### `Machine/Acq` -/

section
variable {s₀ s : State} {cause j g chan block firstRun first endRun end_ v frame code detail : Nat} (h : Keeps s₀ s)
include h

theorem Keeps.setBlockGroup : Keeps s₀ (s.setBlockGroup j g) := h.setReg

theorem Keeps.noteGap : Keeps s₀ (s.noteGap cause chan block firstRun first endRun end_) := h.upd rfl rfl

theorem Keeps.meridian : Keeps s₀ (s.meridian v) := .repower (h.fold (fun _ _ => .castVote))

theorem Keeps.meridianNow : Keeps s₀ s.meridianNow := h.meridian

theorem Keeps.loseFrame : Keeps s₀ s.loseFrame := h.upd rfl rfl

theorem Keeps.openGap : Keeps s₀ (s.openGap frame cause) := .ite h (h.upd rfl rfl)

theorem Keeps.stoppedNow : Keeps s₀ s.stoppedNow := h.setFld.raise

theorem Keeps.acqFault : Keeps s₀ (s.acqFault code detail) :=
  .ite (.meridian (.show (.stoppedNow (h.upd rfl rfl)))) <| .ite (h.settleDeads.setFld.settleDeads.loseFrame.openGap.upd rfl rfl) h

end

/-! #### `Machine/Pgu` -/

section
variable {s₀ s : State} {t2 t code n path st detail frame : Nat} {real on switched cal : Bool} {src : Src} {k : Fin 16} {via : Via}
  {f : FrameRec} (h : Keeps s₀ s)
include h

theorem Keeps.logTimes : Keeps s₀ (State.logTimes path code n s) := by
  induction n generalizing s with
  | zero => exact h
  | succ n ih => exact ih h.logAt

theorem Keeps.synthTo : Keeps s₀ (s.synthTo t2) :=
  .ite (h.upd rfl rfl) <| .ite (h.upd rfl rfl) <| .raise (.count (.logTimes (.logFor (.show (h.upd rfl rfl)))))

theorem Keeps.calBegin : Keeps s₀ s.calBegin := h.setFld.setFld.upd rfl rfl

theorem Keeps.driveCalSel : Keeps s₀ (s.driveCalSel on) := .ite (.upd rfl rfl (h.upd rfl rfl)) (h.upd rfl rfl)

theorem Keeps.calAbort : Keeps s₀ s.calAbort := .ite h <| .raise (.driveCalSel (h.setFld.post.upd rfl rfl))

theorem Keeps.calAdvance : Keeps s₀ (s.calAdvance t real switched) :=
  .ite h <| .ite h.calAbort <| .ite h <| .ite (.raise (.show (h.setFld.setFld.upd rfl rfl))) (h.setFld.setFld.upd rfl rfl)

theorem Keeps.calPeriodic : Keeps s₀ (s.calPeriodic n) := by
  unfold State.calPeriodic
  refine .ite ?_ h
  split
  · exact h.calBegin
  · exact h.post.count

theorem Keeps.diagSelect : Keeps s₀ (s.diagSelect n real cal) :=
  .ite h <| .ite (h.count.upd rfl rfl) <| .ite (h.count.upd rfl rfl) h

theorem Keeps.pguIdle : Keeps s₀ s.pguIdle := .driveCalSel (h.synthTo.upd rfl rfl)

theorem Keeps.pguEnter : Keeps s₀ (s.pguEnter st) := h.setFld.calAbort.pguIdle

theorem Keeps.pguFault : Keeps s₀ (s.pguFault code detail) := .ite h.pguEnter.post.raise.acqFault h.pguEnter.post.raise

theorem Keeps.pguSettle : Keeps s₀ s.pguSettle := .ite h.pguEnter.show h

theorem Keeps.pguStop : Keeps s₀ s.pguStop := .ite (.pguSettle (h.upd rfl rfl)) h

theorem Keeps.pguGates : Keeps s₀ (s.pguGates t) := h.upd rfl rfl

theorem Keeps.pguStart : Keeps s₀ s.pguStart := .ite (h.setFld.show.upd rfl rfl) h

theorem Keeps.pguRest : Keeps s₀ s.pguRest := .driveCalSel (h.upd rfl rfl)

theorem Keeps.pguShown : Keeps s₀ s.pguShown := .ite h.driveCalSel h.pguRest

theorem Keeps.pguSwitch : Keeps s₀ s.pguSwitch := by
  unfold State.pguSwitch
  refine .ite ?_ h.pguRest
  split
  · exact h.pguFault
  · exact h.driveCalSel

theorem Keeps.pguLock : Keeps s₀ s.pguLock := .ite h.setFld.pguEnter h.setFld

theorem Keeps.pguUnlock : Keeps s₀ s.pguUnlock := .ite h.setFld.pguEnter.post <| .ite h.setFld.pguFault h.setFld

theorem Keeps.pguPowerDown : Keeps s₀ s.pguPowerDown := h.setFld.pguEnter

theorem Keeps.pguFaultClr : Keeps s₀ s.pguFaultClr := .ite h.pguEnter.show h

theorem Keeps.execCalRun : Runs s₀ (execCalRun via s) := by
  unfold Machine.execCalRun
  refine .next (h.withRequest (fun _ hy => hy.onUnit (fun _ hz => ?_)))
  split
  · exact hz.finish
  · exact hz.calBegin.finish

theorem Keeps.execPguFaultClr : Runs s₀ (execPguFaultClr src s) := .next (h.onUnit (fun _ => .pguFaultClr))

theorem Keeps.pguCountClr : Keeps s₀ s.pguCountClr := h.synthTo.setReg.setReg.setReg

theorem Keeps.execPguCountClr : Runs s₀ (execPguCountClr src s) := .next (h.onUnit (fun _ => .pguCountClr))

theorem Keeps.startChirp {k : Nat} : Keeps s₀ (s.startChirp f k) := by
  unfold State.startChirp
  split
  · exact h
  · refine .upd rfl rfl ?_
    split
    · exact h.synthTo
    · exact .raise (.count (.logFor (.show (h.synthTo.upd rfl rfl))))

theorem Keeps.execToneLaunch : Runs s₀ (execToneLaunch k frame s) := by
  unfold Machine.execToneLaunch
  refine .next ?_
  split
  · exact h
  · exact .ite h <| .ite (.startChirp (h.at_.upd rfl rfl)) (h.at_.upd rfl rfl)

theorem Keeps.execChirpEnd : Runs s₀ (execChirpEnd k s) := by
  unfold Machine.execChirpEnd
  refine .next ?_
  split
  · exact h.pguSettle
  · exact h.at_.synthTo.pguSettle

theorem Keeps.execGateEdge {n : Fin 2} : Runs s₀ (execGateEdge n t2 s) := .next (h.at_.upd rfl rfl)

theorem Keeps.execLaunchOutEdge : Runs s₀ (execLaunchOutEdge t s) := .next (h.at_.upd rfl rfl)

theorem Keeps.execCalSelChange : Runs s₀ (execCalSelChange t2 s) := .next h.at_.driveCalSel

end

/-! #### `Machine/Afe` -/

section
variable {s₀ s : State} {t d code : Nat} {src : Src} {fadc madc : List (List Int)} {old : State} {u : Machine.Unit} {count : Nat → Fld}
  {irq : Fld} {l : List Nat} {mafe level : Bool} {offsets skews : List Int} {w : Fin 2} {responses : List (Int × Int)}
  (h : Keeps s₀ s)
include h

theorem Keeps.keepProfile : Keeps s₀ (s.keepProfile old) := by
  unfold State.keepProfile
  refine .ite h ?_
  split
  · exact h.upd rfl rfl
  · exact h

theorem Keeps.fafeBadConfig : Keeps s₀ (s.fafeBadConfig d) := h.post.acqFault

theorem Keeps.setPga : Keeps s₀ (s.setPga t code) := .ite h (h.upd rfl rfl)

theorem Keeps.fafeSwitch : Keeps s₀ s.fafeSwitch := by
  unfold State.fafeSwitch
  refine .ite ?_ <| .ite h h.setPga
  split
  · exact .fafeBadConfig (.ite h h.setPga)
  · exact .ite h h.setPga

theorem Keeps.saturations : Keeps s₀ (s.saturations u count irq l) := by
  unfold State.saturations
  extract_lets s1
  have h1 : Keeps s₀ s1 := h.fold (fun _ _ => .count)
  exact .ite h1 h1.post.raise

theorem Keeps.takeFast : Keeps s₀ (s.takeFast fadc t) := .ite h.saturations (h.saturations.upd rfl rfl)

theorem Keeps.takeMed : Keeps s₀ (s.takeMed madc t) := h.saturations.upd rfl rfl

theorem Keeps.takeSamples : Keeps s₀ (s.takeSamples fadc madc t) := .ite h (h.takeFast.takeMed.upd rfl rfl)

theorem Keeps.afeBoundary : Keeps s₀ (s.afeBoundary t) := by
  unfold State.afeBoundary
  split
  · exact .ite (h.upd rfl rfl) h
  · exact h

theorem Keeps.fafeCalStart : Keeps s₀ s.fafeCalStart := h.setFld.upd rfl rfl

theorem Keeps.mafeCalStart : Keeps s₀ s.mafeCalStart := h.setFld

theorem Keeps.fafeWake : Keeps s₀ s.fafeWake := .ite h.fafeCalStart h

theorem Keeps.mafeWake : Keeps s₀ s.mafeWake := .ite h.mafeCalStart h

theorem Keeps.fafeUnlock : Keeps s₀ s.fafeUnlock :=
  .ite (.setFld (h.upd rfl rfl)) <| .ite (h.upd rfl rfl) <| .post (.setFld (h.upd rfl rfl))

theorem Keeps.adcCalDone : Keeps s₀ (s.adcCalDone mafe offsets skews) := by
  unfold State.adcCalDone
  extract_lets lim off skew bad u s1
  have h1 : Keeps s₀ s1 := h.fold (fun _ _ hy => .ite hy.setFld hy.setFld.setFld)
  split
  · exact h1.setFld.post.raise
  · exact h1.setFld.show.raise

theorem Keeps.fafeCalReq : Keeps s₀ s.fafeCalReq := .ite h <| .ite h.fafeCalStart <| .ite h.fafeCalStart h.post

theorem Keeps.mafeCalReq : Keeps s₀ s.mafeCalReq := .ite h <| .ite h.mafeCalStart <| .ite h.mafeCalStart h.post

theorem Keeps.stepcalReq : Keeps s₀ s.stepcalReq := .ite h <| .ite (h.upd rfl rfl) h.post

theorem Keeps.fafeFaultClr : Keeps s₀ s.fafeFaultClr := .ite (.ite h.fafeCalStart.show h.setFld.show) h

theorem Keeps.mafeFaultClr : Keeps s₀ s.mafeFaultClr := .ite h.mafeCalStart.show h

theorem Keeps.fafeCountClr : Keeps s₀ s.fafeCountClr := h.fold (fun _ _ => .setReg)

theorem Keeps.mafeCountClr : Keeps s₀ s.mafeCountClr := h.fold (fun _ _ => .setReg)

theorem Keeps.execPgaStep : Runs s₀ (execPgaStep t s) := .next h.at_.setPga

theorem Keeps.execBlankWindowEdge : Runs s₀ (execBlankWindowEdge w t s) := .next (h.at_.upd rfl rfl)

theorem Keeps.execBlankInChange : Runs s₀ (execBlankInChange level t s) := .next (h.at_.upd rfl rfl)

theorem Keeps.execFafeCalReq : Runs s₀ (execFafeCalReq src s) := .next (h.onUnit (fun _ => .fafeCalReq))

theorem Keeps.execMafeCalReq : Runs s₀ (execMafeCalReq src s) := .next (h.onUnit (fun _ => .mafeCalReq))

theorem Keeps.execStepcalReq : Runs s₀ (execStepcalReq src s) := .next (h.onUnit (fun _ => .stepcalReq))

theorem Keeps.execStepcalDone : Runs s₀ (execStepcalDone responses s) :=
  .next (.ite h (.raise (.show (.setFld (.upd rfl rfl (h.fold (fun _ _ hy => hy.setReg.setReg)))))))

theorem Keeps.execFafeCountClr : Runs s₀ (execFafeCountClr src s) := .next (h.onUnit (fun _ => .fafeCountClr))

theorem Keeps.execMafeCountClr : Runs s₀ (execMafeCountClr src s) := .next (h.onUnit (fun _ => .mafeCountClr))

theorem Keeps.execFafeFaultClr : Runs s₀ (execFafeFaultClr src s) := .next (h.onUnit (fun _ => .fafeFaultClr))

theorem Keeps.execMafeFaultClr : Runs s₀ (execMafeFaultClr src s) := .next (h.onUnit (fun _ => .mafeFaultClr))

end

/-! #### `Machine/Ttu` -/

section
variable {s₀ s : State} {via : Via} {t stamp st sample i code freq mode : Nat} {steer offset v e : Int} {b falling : Bool} {irq : Fld}
  (h : Keeps s₀ s)
include h

theorem Keeps.latchNow : Keeps s₀ s.latchNow := h.setReg.setReg.setReg

theorem Keeps.stepScale : Keeps s₀ (s.stepScale offset sample) := .raise (.post (.count (h.upd rfl rfl)))

theorem Keeps.lockBit : Keeps s₀ (s.lockBit i b) := h.setFld

theorem Keeps.steerTo : Keeps s₀ (s.steerTo v) := h.setReg.upd rfl rfl

theorem Keeps.setLock : Keeps s₀ (s.setLock st) :=
  .ite h <| .raise (.ite (h.setFld.steerTo.upd rfl rfl) (.ite (.steerTo (h.setFld.lockBit.upd rfl rfl)) (h.setFld.lockBit.upd rfl rfl)))

theorem Keeps.loseLock : Keeps s₀ (s.loseLock st code irq) := .ite h.setLock.post.raise h.setLock

theorem Keeps.refQualify : Keeps s₀ s.refQualify := .ite h.setFlag.setLock h.setFlag

theorem Keeps.refLose : Keeps s₀ s.refLose := by
  unfold State.refLose
  extract_lets _ s1
  have h1 : Keeps s₀ s1 := h.upd rfl rfl
  exact .ite h1 <|
    .ite (.ite h1.setFlag h1.setFlag.loseLock) <|
    .ite (.ite h1.setFlag.setLock h1.setFlag.loseLock) <|
    .ite h1.setFlag.setLock h1.setFlag

theorem Keeps.ppsQualify : Keeps s₀ s.ppsQualify := .ite h.setFlag.setLock h.setFlag

theorem Keeps.ppsLose : Keeps s₀ s.ppsLose := by
  unfold State.ppsLose
  extract_lets _ s1
  have h1 : Keeps s₀ s1 := h.upd rfl rfl
  exact .ite h1 <| .ite (.ite h1.setFlag h1.setFlag.loseLock) <| .ite h1.setFlag.setLock <| .ite h1.setFlag.loseLock h1.setFlag

theorem Keeps.lockCheck : Keeps s₀ s.lockCheck :=
  .ite (.ite h.setLock (.ite h.setLock (.ite h.setLock h))) <| .ite (.ite h.setLock h) <| .ite (.ite h.setLock h) h

theorem Keeps.lockBreak : Keeps s₀ s.lockBreak := .ite h.setLock h

theorem Keeps.endSecond : Keeps s₀ s.endSecond :=
  .ite (.lockBreak (.ite (.setFlag (.setReg (h.upd rfl rfl))) (h.upd rfl rfl))) <|
    .lockCheck (.ite (.setFlag (.setReg (h.upd rfl rfl))) (h.upd rfl rfl))

theorem Keeps.execRefclkWindow : Runs s₀ (execRefclkWindow freq steer t s) := by
  unfold Machine.execRefclkWindow
  extract_lets s0 err _ s1 s2
  have h2 : Keeps s₀ s2 := .ite (.refQualify (h.at_.upd rfl rfl)) (h.at_.upd rfl rfl)
  exact .next (.ite h.at_ (.ite h.at_.refLose (.ite h2 (.ite (.endSecond (h2.steerTo.upd rfl rfl)) (h2.steerTo.upd rfl rfl)))))

theorem Keeps.execRefclkTimeout : Runs s₀ (execRefclkTimeout t s) := .next h.at_.refLose

theorem Keeps.ppsCorrect : Keeps s₀ (s.ppsCorrect stamp e) := .ite (h.stepScale.upd rfl rfl) (h.upd rfl rfl)

theorem Keeps.ppsSet : Keeps s₀ (s.ppsSet stamp) := h.setFlag.stepScale.lockBit

theorem Keeps.ppsAccept : Keeps s₀ (s.ppsAccept stamp steer) := by
  unfold State.ppsAccept
  extract_lets run _ s1 set s2 e s3 s4 good bad _ s5 s6 s7
  have h4 : Keeps s₀ s4 := .ite (.ppsQualify (.setReg (.ite (.ppsSet (h.upd rfl rfl)) (h.upd rfl rfl)))) <|
    .setReg (.ite (.ppsSet (h.upd rfl rfl)) (h.upd rfl rfl))
  have h7 : Keeps s₀ s7 := .ite (.ppsCorrect (h4.upd rfl rfl)) <| .steerTo (.ppsCorrect (h4.upd rfl rfl))
  exact .ite (h4.upd rfl rfl) <| .ite (.lockBreak (.ite (h7.upd rfl rfl) h7)) <| .lockCheck (.ite (h7.upd rfl rfl) h7)

theorem Keeps.execPpsInEdge : Runs s₀ (execPpsInEdge stamp falling steer s) := by
  unfold Machine.execPpsInEdge
  refine .next (.ite h.at_ ?_)
  split
  · exact h.at_.ppsAccept
  · exact .ite h.at_.ppsAccept <| .count (h.at_.upd rfl rfl)

theorem Keeps.execPpsMissing : Runs s₀ (execPpsMissing t s) := by
  unfold Machine.execPpsMissing
  refine .next ?_
  split
  · exact h.at_
  · exact .ite h.at_.ppsLose h.at_

theorem Keeps.execHoldLimit : Runs s₀ (execHoldLimit t s) := by
  unfold Machine.execHoldLimit
  refine .next ?_
  split
  · exact h.at_
  · exact .ite h.at_.lockBit.post.raise h.at_

theorem Keeps.execPpsOutPulse : Runs s₀ (execPpsOutPulse t s) := .next (.ite (h.at_.upd rfl rfl) h.at_)

theorem Keeps.refsWritten : Keeps s₀ s.refsWritten := .ite (.ite h h.refLose) <| .ppsLose (.ite h h.refLose)

theorem Keeps.timeSet {act : State → State} (hact : ∀ y, Keeps s₀ y → Keeps s₀ (act y)) : Keeps s₀ (s.timeSet via mode act) := by
  unfold State.timeSet
  refine h.withRequest (fun _ hy => ?_)
  split
  · exact hact _ hy
  · exact .ite hy (hact _ (.ite hy hy.setReg64))

theorem Keeps.setNow : Keeps s₀ (s.setNow via) := h.setFlag.stepScale.lockBit.reply

theorem Keeps.setAtPps : Keeps s₀ (s.setAtPps via) := .ite h.finish h.setFlag.finish

theorem Keeps.cancelSet : Keeps s₀ (s.cancelSet via) := h.setFlag.finish

theorem Keeps.execSetNow : Runs s₀ (execSetNow via s) := .next (h.timeSet (fun _ => .setNow))

theorem Keeps.execSetAtPps : Runs s₀ (execSetAtPps via s) := .next (h.timeSet (fun _ => .setAtPps))

theorem Keeps.execCancelSet : Runs s₀ (execCancelSet via s) := .next (h.timeSet (fun _ => .cancelSet))

theorem Keeps.ttuCountClr : Keeps s₀ s.ttuCountClr :=
  .fold (h.setReg.setReg.fold (fun _ _ hy => hy.setReg.setReg.setReg.setReg)) (fun _ _ hy => hy.setFld.setReg)

theorem Keeps.execTtuCountClr {src : Src} : Runs s₀ (execTtuCountClr src s) := .next h.ttuCountClr

theorem Keeps.execTtuNowRead {src : Src} : Runs s₀ (execTtuNowRead src s) := .next h.latchNow.give

end

/-! #### `Machine/Hist` -/

section
variable {s₀ s : State} {e data : Bytes} {kind source code : Nat} (h : Keeps s₀ s)
include h

theorem Keeps.histFill : Keeps s₀ s.histFill := h.setFld

theorem Keeps.histLost : Keeps s₀ s.histLost := h.count.post.raise

theorem Keeps.histPut : Keeps s₀ (s.histPut e) := by
  unfold State.histPut
  refine .histFill (.ite (h.upd rfl rfl) ?_)
  split
  · exact .histLost (h.upd rfl rfl)
  · exact h.histLost

theorem Keeps.almEvent : Keeps s₀ (s.almEvent kind source code data) := .ite h.histPut (h.histPut.upd rfl rfl)

end

/-! #### `Machine/Pcx` -/

section
variable {s₀ s : State} {via : Via} {k t source op : Nat} {coefs : List Word} {all : Bool} {r : CalMean} {fadc madc : List (List Int)}
  {o : Origin} {seq : Word} {src : Src} {old : State} (h : Keeps s₀ s)
include h

theorem Keeps.idealTone : Keeps s₀ (s.idealTone k) := .setReg (h.fold (fun _ _ => .setReg))

theorem Keeps.unstage : Keeps s₀ (s.unstage k) := .setReg (h.fold (fun _ _ => .setReg))

theorem Keeps.clearStage : Keeps s₀ s.clearStage := .fold (.setFld (h.upd rfl rfl)) (fun _ _ => .unstage)

theorem Keeps.activateTone : Keeps s₀ (s.activateTone k source coefs) := .setReg (h.fold (fun _ _ => .setReg))

theorem Keeps.bankAt : Keeps s₀ (s.bankAt t) := .ite h <| .ite h (h.upd rfl rfl)

theorem Keeps.pcxWithdraw : Keeps s₀ s.pcxWithdraw := h.upd rfl rfl

theorem Keeps.tfApply : Keeps s₀ s.tfApply := h.setFld.upd rfl rfl

theorem Keeps.tfStaged : Keeps s₀ s.tfStaged := .ite h <| .ite h.setFld.raise.tfApply h.setFld.raise

theorem Keeps.calCollect : Keeps s₀ (s.calCollect all) := h.upd rfl rfl

theorem Keeps.tfEvaluate : Keeps s₀ (s.tfEvaluate r) :=
  .ite (.ite h h.post.count.raise) <|
    .tfStaged (.setFld (.fold (.ite h h.post.count.raise) (fun _ _ hy => .setFld (.setFld (.setReg (hy.fold (fun _ _ => .setReg)))))))

theorem Keeps.execTfEvaluation : Runs s₀ (execTfEvaluation fadc madc t s) := by
  unfold Machine.execTfEvaluation
  extract_lets s0
  have h0 : Keeps s₀ s0 := h.takeSamples.at_.calCollect
  refine .next ?_
  split
  · exact h0
  · exact .ite (.count (.post (h0.upd rfl rfl))) <| .tfEvaluate (h0.upd rfl rfl)

theorem Keeps.tfLoad : Keeps s₀ (s.tfLoad via) := .ite h.finish <| .tfStaged (.finish (h.fold (fun _ _ => .setReg)))

theorem Keeps.tfCommit : Keeps s₀ (s.tfCommit via) := .ite h.finish.tfApply h.finish

theorem Keeps.tfDiscard : Keeps s₀ (s.tfDiscard via) := .ite h.finish <| .ite h.clearStage.finish h.finish

theorem Keeps.tfControl {act : State → State} (hact : ∀ y, Keeps s₀ y → Keeps s₀ (act y)) : Keeps s₀ (s.tfControl via op act) := by
  unfold State.tfControl
  refine h.withRequest (fun _ hy => ?_)
  split
  · exact hy.onUnit hact
  · exact .ite (hy.onUnit hact) hy

theorem Keeps.execTfLoad : Runs s₀ (execTfLoad via s) := .next (h.tfControl (fun _ => .tfLoad))

theorem Keeps.execTfCommit : Runs s₀ (execTfCommit via s) := .next (h.tfControl (fun _ => .tfCommit))

theorem Keeps.execTfDiscard : Runs s₀ (execTfDiscard via s) := .next (h.tfControl (fun _ => .tfDiscard))

theorem Keeps.execTfStage : Runs s₀ (execTfStage o seq s) :=
  .next (h.withRequest (fun _ hy => hy.onUnit (fun _ hz => .ite hz.finish (.finish (hz.fold (fun _ _ h3 => h3.setReg))))))

theorem Keeps.pcxFaultClr : Keeps s₀ s.pcxFaultClr := .ite h.setFld.show h

theorem Keeps.pcxCountClr : Keeps s₀ s.pcxCountClr := h.setReg.setReg

theorem Keeps.execPcxCountClr : Runs s₀ (execPcxCountClr src s) := .next (h.onUnit (fun _ => .pcxCountClr))

theorem Keeps.pcxStart : Keeps s₀ s.pcxStart := .ite h.setFld.show h

theorem Keeps.pcxStopped : Keeps s₀ s.pcxStopped := .ite h.setFld h

theorem Keeps.pcxGeometry : Keeps s₀ s.pcxGeometry := h.setFld.setReg

theorem Keeps.pcxSwitch : Keeps s₀ (s.pcxSwitch old) := by
  unfold State.pcxSwitch
  extract_lets changed s1 tf a _ b s2
  have h1 : Keeps s₀ s1 := h.fold (fun _ _ => .idealTone)
  have ha : Keeps s₀ a := .fold (.ite h1.pcxWithdraw h1) (fun _ _ => .unstage)
  have h2 : Keeps s₀ s2 := .ite h1 <| .ite (.setFld (ha.upd rfl rfl)) <| .ite (.ite ha.setFld.tfApply ha.setFld) ha
  refine .ite ?_ h2.pcxGeometry
  split
  · exact h2.pcxGeometry.setFld.post.raise.acqFault
  · exact h2.pcxGeometry

theorem Keeps.pcxWake : Keeps s₀ s.pcxWake := .ite h.setFld h

theorem Keeps.pcxOverflow : Keeps s₀ (s.pcxOverflow t) := .ite h h.count.post.raise

end

/-! #### `Machine/AlmBase` -/

section
variable {s₀ s : State} {code detail : Nat} (h : Keeps s₀ s)
include h

theorem Keeps.showPending : Keeps s₀ s.showPending := h.setReg

theorem Keeps.pcxRefused : Keeps s₀ s.pcxRefused := h.post

theorem Keeps.appendFails : Keeps s₀ (s.appendFails code detail) := by
  unfold State.appendFails
  split
  · exact h
  · split
    · exact .answer (.post (h.upd rfl rfl))
    · exact .ite (.post (h.upd rfl rfl)) <| .setFld (.upd rfl rfl (.pcxRefused (.post (h.upd rfl rfl))))

theorem Keeps.appendDone : Keeps s₀ s.appendDone := by
  unfold State.appendDone
  extract_lets
  split
  · exact h
  · extract_lets e m s1 stand
    have h1 : Keeps s₀ s1 := .setReg (h.upd rfl rfl)
    have hstand : ∀ y, Keeps s₀ y → Keeps s₀ (stand y) := fun _ hy => .showPending (hy.upd rfl rfl)
    split
    · exact .ite (hstand _ h1) h1.show.answer
    · exact .ite (hstand _ (h1.upd rfl rfl)) h1

end

/-! #### `Machine/Phase` -/

section
variable {s₀ s : State} {code p detail : Nat} (h : Keeps s₀ s)
include h

theorem Keeps.setPhase : Keeps s₀ (s.setPhase p) := h.setFld

theorem Keeps.waitHost : Keeps s₀ s.waitHost := h.setPhase.raise

theorem Keeps.startFails : Keeps s₀ (s.startFails code detail) := h.post.waitHost

theorem Keeps.dmcFails : Keeps s₀ (s.dmcFails code) := .ite h.startFails h

end

/-! #### `Machine/Dmc` -/

section
variable {s₀ s : State} {cls path r a n t u p len addr e g cause syndrome tagDiff mr expected off c0 c1 code : Nat} {data : Bytes}
  {write forced : Bool} {src : Src} {read bits flips : List Nat} {es : List (Nat × Bytes)} {check : TrainCheck}
  {mrr : Option (Nat × Nat × Nat)} {bank : Fin 32} {via : Via} (h : Keeps s₀ s)
include h

theorem Keeps.putUnit : Keeps s₀ (s.putUnit u data) := h.dram (tabWf_memPut _ _ _ _)

omit h in
/-- A table stays in canonical form through steps that each keep it. -/
theorem tabWf_foldl {α β : Type} [DecidableEq α] {dflt : Nat → α} {f : List (Nat × α) → β → List (Nat × α)}
    (hf : ∀ m x, tabWf dflt m = true → tabWf dflt (f m x) = true) {l : List β} {m : List (Nat × α)} (hm : tabWf dflt m = true) :
    tabWf dflt (l.foldl f m) = true := by
  induction l generalizing m with
  | nil => exact hm
  | cons x l ih => exact ih (hf m x hm)

theorem Keeps.cacheBack : Keeps s₀ (s.cacheBack es) := h.dram (tabWf_foldl fun _ _ => tabWf_memPut _ _ _ _)

theorem Keeps.flipBits : Keeps s₀ (s.flipBits u bits) := h.fold (fun _ _ hy => hy.dram (tabWf_tabPut _ _ _ _))

theorem Keeps.burst : Keeps s₀ (s.burst p cls write) := by
  unfold State.burst
  refine .upd rfl rfl (.dmcCmd ?_)
  split
  · exact .ite h h.dmcCmd.dmcCmd
  · exact h.dmcCmd

theorem Keeps.cacheIn : Keeps s₀ (s.cacheIn g cls) :=
  .ite h <| .upd rfl rfl (.burst (.ite h (.burst (.cacheBack (h.upd rfl rfl)))))

theorem Keeps.frozenWindow : Keeps s₀ (s.frozenWindow write a len) := .ite h.post.raise h.post.raise.give

theorem Keeps.dropWindow : Keeps s₀ s.dropWindow := .fold (h.upd rfl rfl) (fun _ _ => .frozenWindow)

theorem Keeps.dmcFreeze {read : Nat} : Keeps s₀ (s.dmcFreeze cause cls addr path syndrome tagDiff mr expected read) :=
  .ite h <|
    .dropWindow (.dmcFails (.almEvent (.raise (.post (.upd rfl rfl (h.setFld.setFlag.setReg.setReg64.setReg.setReg.fold
        (fun _ _ hy => hy.setReg.setReg)))))))

theorem Keeps.dmcTouch : Keeps s₀ s.dmcTouch := .ite h.srWake <| .repower (h.srWake.upd rfl rfl)

theorem Keeps.readUnit : Keeps s₀ (s.readUnit path cls u).1 := by
  unfold State.readUnit
  extract_lets
  split
  · exact h.burst.cacheIn
  · exact .ite h.burst.cacheIn.count.setReg64.post.raise.burst.putUnit h.burst.cacheIn.count.setReg64.post.raise
  · exact h.burst.cacheIn.dmcFreeze

theorem Keeps.readUnits {us : List Nat} : Keeps s₀ (State.readUnits path cls us s).1 := by
  induction us generalizing s with
  | nil => exact h
  | cons u us ih =>
    unfold State.readUnits
    extract_lets
    split
    · exact h.readUnit
    · exact ih h.readUnit

theorem Keeps.deviceRead : Keeps s₀ (s.deviceRead path cls a n).1 := h.readUnits

theorem Keeps.portGrant : Keeps s₀ (s.portGrant path cls) := by
  unfold State.portGrant
  split
  · exact h.upd rfl rfl
  · exact h

theorem Keeps.dramRead : Keeps s₀ (s.dramRead path cls a n).1 := h.portGrant.deviceRead

theorem Keeps.writeUnit : Keeps s₀ (s.writeUnit path cls u off data) := by
  unfold State.writeUnit
  extract_lets
  refine .ite h.burst.cacheIn.putUnit ?_
  split
  · exact h.readUnit
  · exact h.readUnit.burst.putUnit

theorem Keeps.writeUnits {k a : Nat} {data : Bytes} : Keeps s₀ (State.writeUnits path cls k a data s) := by
  induction k generalizing s a data with
  | zero => exact h
  | succ k ih => exact .ite h (ih h.writeUnit)

theorem Keeps.deviceWrite : Keeps s₀ (s.deviceWrite path cls a data) := h.writeUnits

theorem Keeps.dramWrite : Keeps s₀ (s.dramWrite path cls a data) := h.portGrant.deviceWrite

theorem Keeps.withDram {act : State → State} (hact : ∀ y, Keeps s₀ y → Keeps s₀ (act y)) : Keeps s₀ (s.withDram a n act) :=
  .ite (hact _ h) h.dmcTouch

theorem Keeps.readSpans {spans : List (Nat × Nat)} : Keeps s₀ (State.readSpans path cls spans s).1 := by
  induction spans generalizing s with
  | nil => exact h
  | cons x rest ih =>
    unfold State.readSpans
    extract_lets
    split
    · exact h.dramRead
    · exact ih h.dramRead

theorem Keeps.writeSpans {spans : List (Nat × Nat)} {data : Bytes} : Keeps s₀ (State.writeSpans path cls spans data s) := by
  induction spans generalizing s data with
  | nil => exact h
  | cons x rest ih => exact ih h.dramWrite

theorem Keeps.dmcServe {r : DramReq} : Keeps s₀ (s.dmcServe r) := by
  unfold State.dmcServe
  extract_lets stopped a x s1
  have ha : Keeps s₀ a := h.deviceWrite
  have h1 : Keeps s₀ s1 := h.deviceRead
  refine .ite (.ite ha.frozenWindow ha) ?_
  split
  · exact .ite h1.give <| .ite (h1.upd rfl rfl) h1
  · exact .ite h1.frozenWindow h1

theorem Keeps.dmcGrants {k n : Nat} : Keeps s₀ (State.dmcGrants k n s) := by
  induction k generalizing s n with
  | zero => exact h
  | succ k ih =>
    unfold State.dmcGrants
    extract_lets
    split
    · exact h
    · split
      · exact h
      · refine ih (.dmcServe ?_)
        exact h.upd rfl rfl

theorem Keeps.dmcResume : Keeps s₀ s.dmcResume := h.dmcGrants

theorem Keeps.dmcEnqueue {r : DramReq} : Keeps s₀ (s.dmcEnqueue r) := .dmcResume (h.dmcTouch.upd rfl rfl)

theorem Keeps.execDmcRequest {path : Word} {cls : Fin 6} : Runs s₀ (execDmcRequest path cls write addr data len flips s) :=
  .next (.ite h (.ite h.flipBits.frozenWindow h.flipBits.dmcEnqueue))

theorem Keeps.dmcBegin : Keeps s₀ s.dmcBegin := .setFld (h.dram fun _ => rfl)

theorem Keeps.dmcInit : Keeps s₀ s.dmcInit := by
  unfold State.dmcInit
  refine .ite h.post ?_
  split
  · exact h.post
  · exact h.dmcBegin.show

theorem Keeps.initCmds : Keeps s₀ s.initCmds :=
  .fold (h.fold (fun _ _ hy => hy.freeBytes.dmcCmd.freeBytes.dmcCmd)) (fun _ _ => .dmcCmd)

theorem Keeps.checkFill : Keeps s₀ s.checkFill :=
  h.dram (tabWf_foldl fun _ _ => tabWf_foldl fun _ _ => tabWf_foldl fun _ _ => tabWf_memPut _ _ _ _)

theorem Keeps.dmcReady : Keeps s₀ s.dmcReady := .raise (.setFld (h.dram fun _ => rfl))

theorem Keeps.dmcTrained : Keeps s₀ (s.dmcTrained check mrr) := by
  unfold State.dmcTrained
  refine .ite h ?_
  split
  · exact .dmcFreeze (.dmcCmd (.ite h h.dmcCmd))
  · split
    · exact h.initCmds.dmcReady
    · exact h.initCmds.dmcFreeze
    · exact h.initCmds.checkFill.dmcCmd.dmcFreeze

theorem Keeps.dmcCountClr : Keeps s₀ s.dmcCountClr := h.setReg.setReg

theorem Keeps.execDmcCountClr : Runs s₀ (execDmcCountClr src s) := .next (h.onUnit (fun _ => .dmcCountClr))

theorem Keeps.scrubStart : Keeps s₀ s.scrubStart := .ite h (h.upd rfl rfl)

theorem Keeps.execScrubNow : Runs s₀ (execScrubNow src s) := .next (h.onUnit (fun _ => .scrubStart))

theorem Keeps.execScrubPeriod : Runs s₀ (execScrubPeriod t s) := .next (.ite (.scrubStart (h.at_.upd rfl rfl)) h.at_)

theorem Keeps.scrubRead : Keeps s₀ s.scrubRead := by
  unfold State.scrubRead
  split
  · exact .ite h.dmcEnqueue h
  · exact h

theorem Keeps.setOwed : Keeps s₀ (s.setOwed r n) := h.setFld

theorem Keeps.refLatch : Keeps s₀ (s.refLatch r) := .upd rfl rfl (.ite h.dmcCmd h)

theorem Keeps.refab : Keeps s₀ (s.refab r n forced) := by
  unfold State.refab
  extract_lets _ s1 s2
  have h2 : Keeps s₀ s2 := .refLatch (.fold (.dmcCmd (h.upd rfl rfl)) (fun _ _ => .dmcCmd))
  exact .ite h <| .ite h2.count h2

theorem Keeps.execRefreshInterval {r : Fin 2} : Runs s₀ (execRefreshInterval r t s) :=
  .next (.ite h.at_ (.ite h.at_.refStart.refab (.ite h.at_.refStart.refab h.at_.refStart.setOwed)))

theorem Keeps.execRefreshIssue {r : Fin 2} : Runs s₀ (execRefreshIssue r t s) := .next (.ite h.at_.setOwed.refab h.at_)

theorem Keeps.mr4Read : Keeps s₀ (s.mr4Read r c0 c1) := h.dmcCmd.dmcCmd

theorem Keeps.dqsRead : Keeps s₀ (s.dqsRead r) := h.upd rfl rfl

theorem Keeps.rateTake : Keeps s₀ (s.rateTake r code) := by
  unfold State.rateTake
  extract_lets old s1 s2
  have h2 : Keeps s₀ s2 := .ite h.setFld.refab.setOwed h.setFld
  exact .ite (.raise (.ite h2 h2.refStart)) <| .ite h2 h2.refStart

theorem Keeps.execMr4Poll {r : Fin 2} {c0 : Fin 8} {c1 : Fin 8} : Runs s₀ (execMr4Poll r c0 c1 t s) := by
  unfold Machine.execMr4Poll
  extract_lets s0 code limit _ s1 s2
  have h2 : Keeps s₀ s2 := .rateTake (.dqsRead (.mr4Read (h.at_.upd rfl rfl)))
  exact .next (.ite h.at_ (.ite h2.post.raise h2))

theorem Keeps.execZqCalibration : Runs s₀ (execZqCalibration s) := .next (.ite (.upd rfl rfl (h.fold (fun _ _ => .dmcCmd))) h)

theorem Keeps.execRowIdleClose : Runs s₀ (execRowIdleClose bank t s) := .next (.ite h.at_ (.dmcCmd (h.at_.upd rfl rfl)))

theorem Keeps.loseEighth : Keeps s₀ (s.loseEighth e) := h.dram (tabWfFrom_filter _ _ _ none)

theorem Keeps.srFlush : Keeps s₀ s.srFlush := h.cacheBack.fold (fun _ _ hy => hy.dmcCmd.refab.setOwed)

theorem Keeps.srMr17 : Keeps s₀ (s.srMr17 read r) := h.dmcCmd.dmcCmd

theorem Keeps.srDone : Keeps s₀ s.srDone := .setFld (.upd rfl rfl (.fold (h.fold (fun _ _ => .dmcCmd)) (fun _ _ => .loseEighth)))

theorem Keeps.execSrEntry : Runs s₀ (execSrEntry read s) := by
  unfold Machine.execSrEntry
  extract_lets s1 s2
  have h2 : Keeps s₀ s2 := .srDone (h.srFlush.fold (fun _ _ => .srMr17))
  refine .next (.ite h ?_)
  split
  · exact .dmcFreeze (h.srFlush.fold (fun _ _ => .srMr17))
  · exact .ite (.srxIssue (h2.upd rfl rfl)) h2

theorem Keeps.srLeave : Keeps s₀ s.srLeave := .setFld (h.upd rfl rfl)

theorem Keeps.eighthFilled : Keeps s₀ (s.eighthFilled e) := h.loseEighth.upd rfl rfl

theorem Keeps.diagCmd : Keeps s₀ (s.diagCmd p) := h.dmcCmd

theorem Keeps.dmcDiagAt : Keeps s₀ (s.dmcDiagAt p) := .setFlag (h.diagCmd.fold (fun _ _ => .setReg))

theorem Keeps.dmcDiagRefuse : Keeps s₀ s.dmcDiagRefuse := h.setFlag

theorem Keeps.dmcDiag : Keeps s₀ s.dmcDiag := .ite h.dmcDiagAt h.dmcDiagRefuse.post

theorem Keeps.execDmcDiagRead : Runs s₀ (execDmcDiagRead via s) := by
  unfold Machine.execDmcDiagRead
  refine .next (h.withRequest (fun _ hy => hy.onUnit (fun _ hz => ?_)))
  split
  · exact hz.dmcDiag
  · exact .ite hz.dmcDiagAt.finish hz.dmcDiagRefuse.finish

end

/-! #### `Machine/Messages` -/

section
variable {s₀ s : State} {n : Fin 256} {seq e : Word} {slot bytes payload : Bytes}
  {member hb code source detail w0 op tail head sq cq sql cql window vector len : Nat} {k : Nak} {o : Origin} {chorus : Bool}
  {x : Session} {r : Req} {slots : List Bytes} {kind : DmaKind} (h : Keeps s₀ s)
include h

theorem Keeps.logViolation : Keeps s₀ (s.logViolation w0 seq member chorus) :=
  .raise (.ite (.count (h.upd rfl rfl)) (h.upd rfl rfl))

theorem Keeps.violate {n : Nat} : Keeps s₀ (s.violate n k op seq member) := by
  unfold State.violate
  split
  · exact h
  · exact .ite h.setSession.logViolation.raise h.setSession.logViolation

theorem Keeps.nak {n : Nat} : Keeps s₀ (s.nak n x slot k) := h.putAnswer

theorem Keeps.forwardReq : Keeps s₀ (s.forwardReq r slot) :=
  .ite (.upd rfl rfl (h.chorusSend.upd rfl rfl)) (h.chorusSend.upd rfl rfl)

theorem Keeps.readSlot : Keeps s₀ (s.readSlot n slot) := by
  unfold State.readSlot
  split
  · exact h
  · split
    · exact h.setSession.nak
    · exact h.violate.nak
    · exact .ite (h.setSession.upd rfl rfl) <| .ite (.forwardReq (h.setSession.upd rfl rfl)) <| .answer (h.setSession.upd rfl rfl)

theorem Keeps.readSlots {slots : List Bytes} : Keeps s₀ (State.readSlots n slots s) := by
  induction slots generalizing s with
  | nil => exact h
  | cons slot rest ih =>
    unfold State.readSlots
    split
    · exact h
    · exact .ite h.setSession (ih h.setSession.readSlot)

theorem Keeps.resumeSession : Keeps s₀ (s.resumeSession n) := by
  unfold State.resumeSession
  split
  · exact h
  · exact h.setSession.readSlots

theorem Keeps.flushAnswers {n : Nat} {answers : List Bytes} : Keeps s₀ (State.flushAnswers n answers s) := by
  induction answers generalizing s with
  | nil => exact h
  | cons a rest ih => exact ih h.putAnswer

theorem Keeps.takeTail : Keeps s₀ (s.takeTail n tail slots) := by
  unfold State.takeTail
  split
  · exact h.post
  · exact .ite h.violate h.setSession.readSlots

theorem Keeps.takeHead : Keeps s₀ (s.takeHead n head) := by
  unfold State.takeHead
  split
  · exact h.post
  · exact .ite h.violate h.setSession.flushAnswers.resumeSession

theorem Keeps.openSession {n : Nat} : Keeps s₀ (s.openSession n sq cq sql cql window vector) := h.upd rfl rfl

theorem Keeps.closeSession {n : Nat} : Keeps s₀ (s.closeSession n) := h.upd rfl rfl

theorem Keeps.reopenSession : Keeps s₀ (s.reopenSession n e) := by
  unfold State.reopenSession
  split
  · exact h
  · exact h.setSession.resumeSession

theorem Keeps.transfer : Keeps s₀ (s.transfer o seq hb len code source detail kind) := h.upd rfl rfl

theorem Keeps.toHost : Keeps s₀ (s.toHost o seq hb code source detail bytes payload) := .ite h.answer h.transfer

end

/-! #### `Machine/Raman` -/

section
variable {s₀ s : State} {frame block product : Nat} {l : List Bytes} (h : Keeps s₀ s)
include h

theorem Keeps.expect : Keeps s₀ (s.expect frame block product l) := .ite h (h.upd rfl rfl)

end

/-! #### `Machine/Rayleigh` -/

section
variable {s₀ s : State} {n j : Nat} (h : Keeps s₀ s)
include h

theorem Keeps.rayTake : Keeps s₀ (s.rayTake n j) := by
  unfold State.rayTake
  split
  · exact h
  · exact .fold (h.upd rfl rfl) (fun _ _ => .expect)

theorem Keeps.rayCommit : Keeps s₀ (s.rayCommit n j) := h.upd rfl rfl

theorem Keeps.rayLose : Keeps s₀ (s.rayLose n j) := h.upd rfl rfl

end

/-! #### `Machine/Gea` -/

section
variable {s₀ s : State} {k e t i ap bit st keep off lane latency n code logCode pc bin : Nat} {g : Group} {src : Src} {es : List Nat}
  {l : Lane} {b : Bank} {data img : Bytes} {x : ProgSeg} {f : Flight} {later : List Flight} {mac uncorr : Bool} (h : Keeps s₀ s)
include h

theorem Keeps.setLane : Keeps s₀ (s.setLane e l) := h.upd rfl rfl

theorem Keeps.setThread {t : Thread} : Keeps s₀ (s.setThread k t) := h.upd rfl rfl

theorem Keeps.setBankOf : Keeps s₀ (s.setBankOf k e b) := h.setLane

theorem Keeps.setEng : Keeps s₀ (s.setEng es st) := h.fold (fun _ _ => .setFld)

theorem Keeps.loadBanks : Keeps s₀ (s.loadBanks t keep off data) := h.fold (fun _ _ hy => .ite hy hy.setEmem)

theorem Keeps.loadSeg : Keeps s₀ (s.loadSeg g x) := by
  unfold State.loadSeg
  split
  · exact h.fold (fun _ _ => .setEmem)
  · exact h.setEmem
  · exact h.fold (fun _ _ => .setEmem)
  · exact h.fold (fun _ _ => .loadBanks)

theorem Keeps.writeGroup : Keeps s₀ (s.writeGroup img i g) := by
  unfold State.writeGroup
  split
  · exact h
  · exact .upd rfl rfl (.fold (.fold (h.fold (fun _ _ hy => hy.clearEmem.setEmem)) (fun _ _ => .clearEmem)) (fun _ _ => .loadSeg))

theorem Keeps.initGroup : Keeps s₀ (s.initGroup i g) :=
  .fold (.fold (h.fold (fun _ _ => .setLane)) (fun _ _ hy => hy.setThread)) (fun _ _ hy => hy.setFld.setFld.setFld)

theorem Keeps.startGroup : Keeps s₀ (s.startGroup i g) := h.initGroup.setEng

theorem Keeps.geaUsed : Keeps s₀ s.geaUsed := h.setReg.setReg

theorem Keeps.geaWake : Keeps s₀ (s.geaWake t) := h.fold (fun _ _ hy => .ite hy.setEng hy)

theorem Keeps.geaLose {keep : Bool} : Keeps s₀ (s.geaLose t keep) := by
  unfold State.geaLose
  extract_lets b imem bits s1
  have h1 : Keeps s₀ s1 := h.fold (fun _ _ hy => .ite hy hy.clearEmem)
  exact .fold (.upd rfl rfl (.ite h1.clearEmem h1.clearEmem.clearEmem)) (fun _ _ => .setFld)

theorem Keeps.landOne : Keeps s₀ (s.landOne k f later) := by
  unfold State.landOne
  refine .ite h.setLane ?_
  split
  · exact h.setThread
  · exact h.setLane

theorem Keeps.landAll {flights : List Flight} : Keeps s₀ (State.landAll k flights s) := by
  induction flights generalizing s with
  | nil => exact h
  | cons f rest ih => exact ih h.landOne

theorem Keeps.settle : Keeps s₀ (s.settle k) := h.setThread.landAll

theorem Keeps.tickStream : Keeps s₀ (s.tickStream k) := h.setThread.settle

theorem Keeps.fly {x : Landing} : Keeps s₀ (s.fly k lane latency mac x) := h.setThread

theorem Keeps.execResultWriteback {e : Fin 64} : Runs s₀ (execResultWriteback e s) := by
  unfold Machine.execResultWriteback
  refine .next ?_
  split
  · exact h
  · exact .ite h.settle h.tickStream

theorem Keeps.showPc : Keeps s₀ (s.showPc es k) := h.fold (fun _ _ hy => hy.setFld.setFld)

theorem Keeps.haltStream : Keeps s₀ (s.haltStream k) := h.setThread.setEng.showPc

theorem Keeps.haltDone : Keeps s₀ s.haltDone := .ite h <| .ite (.raise (h.upd rfl rfl)) h

theorem Keeps.eccEvent : Keeps s₀ (s.eccEvent ap uncorr) := .ite h.setReg.raise h.setReg.count.raise

theorem Keeps.upset {l : Upsets} : Keeps s₀ (s.upset l) := h.upd rfl rfl

theorem Keeps.eccRead : Keeps s₀ (s.eccRead ap n) := h.fold (fun _ _ => .eccEvent)

theorem Keeps.faultRegs : Keeps s₀ (s.faultRegs g e k code logCode pc bin) :=
  .raise (.logFor (.setThread (.setFld (.setFld (.ite h (.fold (h.setEng.fold (fun _ _ => .showPc)) (fun _ _ => .setFld)))))))

theorem Keeps.setPend : Keeps s₀ (s.setPend k bit) := h.setThread

theorem Keeps.pendGroup : Keeps s₀ (s.pendGroup g bit) := h.fold (fun _ _ => .setPend)

theorem Keeps.pendFrame : Keeps s₀ s.pendFrame := h.fold (fun _ _ => .pendGroup)

theorem Keeps.execInterruptEntry {e : Fin 64} : Runs s₀ (execInterruptEntry e s) := by
  unfold Machine.execInterruptEntry
  refine .next ?_
  split
  · exact h
  · exact .ite (.tickStream (.tickStream (h.settle.setThread.setEng.fold (fun _ _ => .setFld)))) h.settle

theorem Keeps.execHaltComplete {e : Fin 64} : Runs s₀ (execHaltComplete e s) := by
  unfold Machine.execHaltComplete
  refine .next ?_
  split
  · exact h
  · exact .ite h.haltStream.haltDone h

theorem Keeps.haltReq : Keeps s₀ s.haltReq := by
  unfold State.haltReq
  refine .haltDone (h.fold (fun _ _ hy => ?_))
  extract_lets b
  have hb : Keeps s₀ b := hy.fold (fun _ _ hz => .ite hz.setThread (.ite hz.haltStream hz))
  exact .ite (hb.upd rfl rfl) hb

theorem Keeps.geaFaultClr : Keeps s₀ s.geaFaultClr := .ite h (h.fold (fun _ _ hy => .ite hy.setEng hy))

theorem Keeps.geaDoorbell : Keeps s₀ s.geaDoorbell := h.fold (fun _ _ => .pendGroup)

theorem Keeps.geaCountClr : Keeps s₀ s.geaCountClr := h.setReg

theorem Keeps.execHaltReq : Runs s₀ (execHaltReq src s) := .next (h.onUnit (fun _ => .haltReq))

theorem Keeps.execGeaFaultClr : Runs s₀ (execGeaFaultClr src s) := .next (h.onUnit (fun _ => .geaFaultClr))

theorem Keeps.execGeaDoorbell : Runs s₀ (execGeaDoorbell src s) := .next (h.onUnit (fun _ => .geaDoorbell))

theorem Keeps.execGeaCountClr : Runs s₀ (execGeaCountClr src s) := .next (h.onUnit (fun _ => .geaCountClr))

end

/-! #### `Machine/Therm` -/

section
variable {s₀ s : State} {n t block code detail source frame : Nat} {forward part backward reread switched : Bool} {f : FrameRec}
  {d : ThermDue} {r : RamanRec} (h : Keeps s₀ s)
include h

theorem Keeps.thermStatus : Keeps s₀ s.thermStatus := by
  unfold State.thermStatus
  split
  · exact h
  · exact h.setEmem

theorem Keeps.thermCode : Keeps s₀ (s.thermCode code detail) := by
  unfold State.thermCode
  split
  · exact .ite (h.upd rfl rfl) <| .logAt (h.upd rfl rfl)
  · exact h.upd rfl rfl

theorem Keeps.driveDir : Keeps s₀ (s.driveDir backward) := .ite (h.upd rfl rfl) h

theorem Keeps.putAvg : Keeps s₀ s.putAvg := by
  unfold State.putAvg
  split
  · exact h.setEmem
  · exact h

theorem Keeps.avgOpen : Keeps s₀ (s.avgOpen n forward) := by
  unfold State.avgOpen
  split
  · exact .upd rfl rfl (.ite h h.thermCode)
  · exact .ite (.driveDir (.putAvg (h.upd rfl rfl))) <| .putAvg (h.upd rfl rfl)

theorem Keeps.avgClose : Keeps s₀ (s.avgClose n part) := by
  unfold State.avgClose
  split
  · exact .ite (h.upd rfl rfl) (h.upd rfl rfl)
  · exact h.upd rfl rfl

theorem Keeps.avgRescale : Keeps s₀ s.avgRescale := by
  unfold State.avgRescale
  split
  · exact .ite (.putAvg (h.upd rfl rfl)) h
  · exact h

theorem Keeps.avgSkip : Keeps s₀ s.avgSkip := by
  unfold State.avgSkip
  extract_lets
  split
  · exact .upd rfl rfl (h.upd rfl rfl)
  · exact .upd rfl rfl (h.upd rfl rfl)

theorem Keeps.avgFrame : Keeps s₀ (s.avgFrame f t) := by
  unfold State.avgFrame
  extract_lets _ s
  have hs : Keeps s₀ s := by
    unfold s
    split
    · exact h.upd rfl rfl
    · exact h
  refine .ite hs ?_
  split
  · split
    · exact hs.upd rfl rfl
    · exact hs
  · refine .ite (.avgSkip (hs.upd rfl rfl)) ?_
    split
    · exact .putAvg (.upd rfl rfl (hs.upd rfl rfl))
    · exact .avgSkip (hs.upd rfl rfl)

theorem Keeps.brilFrame : Keeps s₀ (s.brilFrame f t) := by
  unfold State.brilFrame
  split
  · exact h
  · exact .ite (h.upd rfl rfl) <| .ite (h.upd rfl rfl) <| .ite (.upd rfl rfl (h.upd rfl rfl)) (h.upd rfl rfl)

theorem Keeps.brilClose : Keeps s₀ (s.brilClose n part) := by
  unfold State.brilClose
  split
  · exact .ite (h.upd rfl rfl) (h.upd rfl rfl)
  · exact h.upd rfl rfl

theorem Keeps.brilPair : Keeps s₀ (s.brilPair n) := h.upd rfl rfl

theorem Keeps.thermVerify : Keeps s₀ (s.thermVerify reread) := by
  unfold State.thermVerify
  extract_lets
  split
  · exact .thermCode (.upd rfl rfl (h.upd rfl rfl))
  · split
    · exact .thermCode (.upd rfl rfl (h.upd rfl rfl))
    · exact .upd rfl rfl (h.upd rfl rfl)

theorem Keeps.thermOpen : Keeps s₀ (s.thermOpen n forward) := .ite (.upd rfl rfl (.ite h.avgOpen h)) <| .ite h.avgOpen h

theorem Keeps.thermStart : Keeps s₀ (s.thermStart n) := .ite h <| .thermStatus (.ite h.thermVerify.thermOpen h.thermVerify)

theorem Keeps.thermClose : Keeps s₀ (s.thermClose n) := h.avgClose.brilClose.upd rfl rfl

theorem Keeps.thermStop : Keeps s₀ (s.thermStop n) := .ite h <| .thermStatus (h.thermClose.brilPair.upd rfl rfl)

theorem Keeps.thermChange : Keeps s₀ (s.thermChange n switched) := by
  unfold State.thermChange
  extract_lets s1
  have h1 : Keeps s₀ s1 := h.thermClose.brilPair
  exact .ite (h1.upd rfl rfl) <| .ite (h.upd rfl rfl) <| .thermStatus (.ite h1.thermVerify.thermOpen h1.thermVerify)

theorem Keeps.thermFrame : Keeps s₀ (s.thermFrame t) := by
  unfold State.thermFrame
  split
  · exact h
  · exact .ite h.avgFrame.brilFrame h

theorem Keeps.thermTurn : Keeps s₀ (s.thermTurn n) := by
  unfold State.thermTurn
  extract_lets p s1 a _ s2
  have h1 : Keeps s₀ s1 := by
    unfold s1
    split
    · exact .ite h.avgClose.avgOpen h.avgRescale
    · exact .ite h h.avgOpen
  have h2 : Keeps s₀ s2 := by
    unfold s2
    split
    · exact .ite (h1.brilClose.upd rfl rfl) h1
    · exact h1
  exact .ite h h2.brilPair.thermStatus

theorem Keeps.thermNewRun : Keeps s₀ s.thermNewRun :=
  .ite (.upd rfl rfl (h.upd rfl rfl)) <| .thermStatus (.thermOpen (.brilPair (h.upd rfl rfl)))

theorem Keeps.thermLost : Keeps s₀ s.thermLost := by
  unfold State.thermLost
  refine .upd rfl rfl ?_
  split
  · exact h.setEmem
  · exact h

theorem Keeps.thermTile : Keeps s₀ (s.thermTile t) := by
  unfold State.thermTile
  split
  · exact .ite h.thermLost h
  · exact h

theorem Keeps.convertRaman : Keeps s₀ (s.convertRaman block d r) := by
  unfold State.convertRaman
  extract_lets x sc tr _ s1
  have h1 : Keeps s₀ s1 := by
    unfold s1
    split
    · exact .thermCode (.ite (.expect (h.upd rfl rfl)) (h.upd rfl rfl))
    · exact h.thermCode
  exact .thermStatus (.ite h1.expect h1)

theorem Keeps.convertBril {r : BrilRec} : Keeps s₀ (s.convertBril block d r) := by
  unfold State.convertBril
  exact .thermStatus (.thermCode (.expect (h.upd rfl rfl)))

theorem Keeps.thermTake : Keeps s₀ (s.thermTake source frame block) := by
  unfold State.thermTake
  split
  · exact h
  · refine .ite (h.upd rfl rfl) ?_
    split
    · exact .convertRaman (h.upd rfl rfl)
    · exact .convertBril (h.upd rfl rfl)
    · exact h.upd rfl rfl

theorem Keeps.execBankRelease : Runs s₀ (execBankRelease s) := by
  unfold Machine.execBankRelease
  refine .next ?_
  split
  · exact h
  · exact .ite (.thermStatus (.upd rfl rfl (h.upd rfl rfl))) (h.upd rfl rfl)

end

/-! #### `Machine/Mrs` -/

section
variable {s₀ s : State}
  {g n t frame j action i instant arg e k code logCode pc group block first b ready index cycles from_ dest stamp : Nat} {d d0 : Dispatch}
  {src : Src} {requester : Fin 32} {tag : BitVec 16} {input : Bytes} {ref : SlotRef} {off : Int} {x : GroupSt} {f : FrameRec}
  {stream : Fin 8} {fadc madc : List (List Int)} {runs : List Nat} {falling : Bool} (h : Keeps s₀ s)
include h

theorem Keeps.takeLane : Keeps s₀ (s.takeLane instant) := .count (.at_ (h.upd rfl rfl))

theorem Keeps.runSlot {act : SlotRun → State → State} (hact : ∀ run y, Keeps s₀ y → Keeps s₀ (act run y)) :
    Keeps s₀ (s.runSlot ref action act) := by
  unfold State.runSlot
  split
  · split
    · exact .ite (hact _ _ (h.takeLane.upd rfl rfl)) h
    · exact h
  · split
    · exact .ite (hact _ _ (h.takeLane.upd rfl rfl)) h
    · exact h

theorem Keeps.execDynamicSlotRequest : Runs s₀ (execDynamicSlotRequest t requester frame off action arg tag s) := by
  unfold Machine.execDynamicSlotRequest
  refine .next ?_
  split
  · exact h.at_.count.post
  · exact h.at_.upd rfl rfl

theorem Keeps.dropDyn {d : DynSlot} : Keeps s₀ (s.dropDyn d) := .post (h.upd rfl rfl)

theorem Keeps.execDynamicSlotCancel : Runs s₀ (execDynamicSlotCancel t requester tag s) := by
  unfold Machine.execDynamicSlotCancel
  refine .next ?_
  split
  · exact h.at_
  · exact .ite h.at_.dropDyn h.at_

theorem Keeps.cancelDyn : Keeps s₀ (s.cancelDyn n) := h.fold (fun _ _ hy => hy.dropDyn)

theorem Keeps.setGrp : Keeps s₀ (s.setGrp g x) := h.upd rfl rfl

theorem Keeps.setBlk {x : BlockSt} : Keeps s₀ (s.setBlk j x) := h.upd rfl rfl

theorem Keeps.countBlocks : Keeps s₀ s.countBlocks := h.fold (fun _ _ => .setFld)

theorem Keeps.showHealth : Keeps s₀ (s.showHealth g) := by
  unfold State.showHealth
  exact .ite h.setFld <| .ite h h.setFld

theorem Keeps.routeBlocks : Keeps s₀ (s.routeBlocks n) :=
  .countBlocks (.fold (h.fold (fun _ _ hy => .ite hy hy.setBlockGroup)) (fun _ _ => .setGrp))

theorem Keeps.mrsReload : Keeps s₀ s.mrsReload :=
  .countBlocks (.fold (.fold (h.upd rfl rfl) (fun _ _ => .setReg)) (fun _ _ => .setBlockGroup))

theorem Keeps.markLate : Keeps s₀ (s.markLate g frame) := .ite h h.setGrp

theorem Keeps.loseBlock : Keeps s₀ (s.loseBlock d) :=
  .fold (.ite (h.count.post.raise.setBlk.markLate.rayLose.upd rfl rfl) h.count.post.raise.setBlk.markLate.rayLose) (fun _ _ => .noteGap)

theorem Keeps.ringPut : Keeps s₀ (s.ringPut d0) := h.setBlk.setEmem.setGrp

theorem Keeps.drainQueue {queue : List Dispatch} : Keeps s₀ (State.drainQueue queue s) := by
  induction queue generalizing s with
  | nil => exact h
  | cons d rest ih => exact .ite (ih (.ringPut (h.upd rfl rfl))) (ih h)

theorem Keeps.pumpQueue : Keeps s₀ s.pumpQueue := h.drainQueue

theorem Keeps.mrsGroupFault : Keeps s₀ (s.mrsGroupFault g) := .pumpQueue (.fold (h.setGrp.upd rfl rfl) (fun _ _ => .loseBlock))

theorem Keeps.engineFault : Keeps s₀ (s.engineFault e k code logCode pc) := by
  unfold State.engineFault
  split
  · exact h
  · exact h.faultRegs.mrsGroupFault.haltDone

theorem Keeps.dispatch : Keeps s₀ (s.dispatch d) := by
  unfold State.dispatch
  extract_lets
  split
  · exact h.setGrp.loseBlock
  · exact .ite h.setGrp.loseBlock <| .ite h.setGrp.ringPut <| .ite (h.setGrp.upd rfl rfl) h.setGrp.loseBlock

theorem Keeps.putInput : Keeps s₀ (s.putInput group block input) := by
  unfold State.putInput
  split
  · exact h.setEmem
  · exact h

theorem Keeps.readyBlock : Keeps s₀ (s.readyBlock d input) := .ite h h.setBlk.putInput.dispatch

theorem Keeps.mediumEnd : Keeps s₀ (s.mediumEnd t) := by
  unfold State.mediumEnd
  split
  · exact h
  · exact h.fold (fun _ _ hy => .ite hy.putInput hy)

theorem Keeps.rayReadyBlock : Keeps s₀ (s.rayReadyBlock i f j first b ready) := .readyBlock (.ite h (h.upd rfl rfl))

theorem Keeps.thermReadyBlock {d : ThermDue} : Keeps s₀ (s.thermReadyBlock i j d) := .readyBlock (h.upd rfl rfl)

theorem Keeps.execBlockDispatch : Runs s₀ (execBlockDispatch stream index frame fadc madc t s) := by
  unfold Machine.execBlockDispatch
  extract_lets s0
  have h0 : Keeps s₀ s0 := h.takeSamples.at_
  refine .next ?_
  split
  · exact h0
  · extract_lets
    refine .ite h0 ?_
    split
    · split
      · exact h0.thermReadyBlock
      · exact h0
    · split
      · exact h0
      · extract_lets
        refine .ite h0 <| .ite ?_ <| .ite h0 h0.readyBlock
        split
        · exact .ite h0 h0.rayReadyBlock
        · exact h0

theorem Keeps.judgeFrame : Keeps s₀ (s.judgeFrame g frame) :=
  .ite (.almEvent (.raise (.setFld (.showHealth (.ite h.setGrp.setFld h.setGrp.setFld))))) <|
    .showHealth (.ite h.setGrp.setFld h.setGrp.setFld)

theorem Keeps.judgeAll : Keeps s₀ (s.judgeAll n) := h.fold (fun _ _ hy => hy.fold (fun _ _ => .judgeFrame))

theorem Keeps.showLoad : Keeps s₀ (s.showLoad g) := h.setFld

theorem Keeps.loadFrame : Keeps s₀ (s.loadFrame runs cycles) := h.fold (fun _ _ hy => hy.setGrp.showLoad)

theorem Keeps.clearLoad : Keeps s₀ (s.clearLoad g) := h.setGrp.showLoad

theorem Keeps.moveBlock : Keeps s₀ (s.moveBlock j from_ dest n) := h.setBlockGroup.countBlocks.setGrp.count.raise

theorem Keeps.noMove : Keeps s₀ (s.noMove g) := h.setGrp.count.post

theorem Keeps.moveSlow : Keeps s₀ (s.moveSlow n g) := by
  unfold State.moveSlow
  extract_lets
  refine .ite h ?_
  split
  · exact h.setGrp
  · split
    · exact .ite h.noMove h.moveBlock
    · exact h.noMove

theorem Keeps.moveFaulted : Keeps s₀ (s.moveFaulted n g) := by
  unfold State.moveFaulted
  extract_lets
  split
  · refine .ite h (h.setGrp.fold (fun _ _ hy => ?_))
    extract_lets
    split
    · exact hy.moveBlock
    · exact hy
  · exact h

theorem Keeps.moveAll : Keeps s₀ (s.moveAll n) :=
  .fold (.fold (.ite (.routeBlocks (h.upd rfl rfl)) h) (fun _ _ => .moveSlow)) (fun _ _ => .moveFaulted)

theorem Keeps.mrsCountClr : Keeps s₀ s.mrsCountClr := h.fold (fun _ _ => .setReg)

theorem Keeps.mrsHealthClr : Keeps s₀ s.mrsHealthClr := h.fold (fun _ _ hy => .showHealth (.ite hy.setFld.setFld hy.setFld))

theorem Keeps.mrsRebalance : Keeps s₀ s.mrsRebalance := h.upd rfl rfl

theorem Keeps.execMrsCountClr : Runs s₀ (execMrsCountClr src s) := .next (h.onUnit (fun _ => .mrsCountClr))

theorem Keeps.execHealthClr : Runs s₀ (execHealthClr src s) := .next (h.onUnit (fun _ => .mrsHealthClr))

theorem Keeps.execRebalanceReset : Runs s₀ (execRebalanceReset src s) := .next (h.onUnit (fun _ => .mrsRebalance))

theorem Keeps.execLaunchInEdge : Runs s₀ (execLaunchInEdge stamp falling s) :=
  .next (.ite h.at_ (.ite (h.at_.upd rfl rfl) (.ite (.count (h.at_.upd rfl rfl)) (.upd rfl rfl (h.at_.upd rfl rfl)))))

end

/-! #### `Machine/Stream` -/

section
variable {s₀ s : State} {c frame n : Nat} {data : Bytes} {from_ : BlockFrom} {spans : List (Nat × Nat)} {w : Word} {src : Src}
  {x : StreamSt} {e : EntryBlock} (h : Keeps s₀ s)
include h

theorem Keeps.setStrm : Keeps s₀ (s.setStrm c x) := h.upd rfl rfl

theorem Keeps.dropBlock : Keeps s₀ (s.dropBlock c) := h.setStrm.count.raise

theorem Keeps.hostBlock : Keeps s₀ (s.hostBlock c from_ data spans) := .ite h.setStrm.dropBlock (h.setStrm.upd rfl rfl)

theorem Keeps.putRecord {w : WaitBlock} : Keeps s₀ (s.putRecord c w data) :=
  .signal (.upd rfl rfl (.give (.setStrm (.setReg (.give (.ite h h.give))))))

theorem Keeps.writeRecord : Keeps s₀ (s.writeRecord c) := by
  unfold State.writeRecord
  extract_lets
  split
  · exact h
  · extract_lets
    refine .ite h <| .ite h.putRecord <| .ite h.dmcTouch ?_
    split
    · exact h.readSpans.putRecord
    · exact h.readSpans

theorem Keeps.execStreamRecordWrite {c : Fin 32} : Runs s₀ (execStreamRecordWrite c s) := .next (.ite h.writeRecord h)

theorem Keeps.execStreamDrop {c : Fin 32} : Runs s₀ (execStreamDrop c s) := by
  unfold Machine.execStreamDrop
  refine .next ?_
  split
  · exact .dropBlock (h.upd rfl rfl)
  · exact h

theorem Keeps.disableStream : Keeps s₀ (s.disableStream c) := .fold (h.upd rfl rfl) (fun _ _ => .dropBlock)

theorem Keeps.streamCfg : Keeps s₀ (s.streamCfg c w) :=
  .ite (.ite h.setReg.setReg.setStrm h.setReg.post) <| .ite h.setReg.disableStream h.setReg

theorem Keeps.execStreamEnable {c : Fin 32} : Runs s₀ (execStreamEnable src c w s) := .next (h.onUnit (fun _ => .streamCfg))

theorem Keeps.execStreamRdWrite {c : Fin 32} : Runs s₀ (execStreamRdWrite src c w s) := .next (h.onUnit (fun _ => .setReg))

theorem Keeps.archiveDrop : Keeps s₀ (s.archiveDrop c frame) := h.count.post.raise.noteGap

theorem Keeps.setTch {x : TceChan} : Keeps s₀ (s.setTch c x) := h.upd rfl rfl

theorem Keeps.tceOffer : Keeps s₀ (s.tceOffer c from_ data spans) :=
  .ite h <| .ite h.archiveDrop.setTch <| .setTch (h.upd rfl rfl)

theorem Keeps.streamOut : Keeps s₀ (s.streamOut c from_ data spans) := by
  unfold State.streamOut
  split
  · exact h
  · exact .ite (.tceOffer (.ite h.hostBlock h)) <| .ite h.hostBlock h

theorem Keeps.entryOut : Keeps s₀ (s.entryOut e) := by
  unfold State.entryOut
  split
  · exact h.streamOut
  · exact h.upd rfl rfl

theorem Keeps.entryFlush : Keeps s₀ (s.entryFlush n) := .fold (h.upd rfl rfl) (fun _ _ => .entryOut)

end

/-! #### `Machine/Znt` -/

section
variable {s₀ s : State} {o : Origin} {seq : Word} {bin frame z fade state number t n : Nat} {src : Src} {x : ZoneStat} {k : FilterBank}
  {ru : FrameRules} {vals : List Int} {counts late rested : Bool} {cs : List BandClose} {refusal : Option Nat} {add : Option Zone}
  {c : ZoneChange} {u : Machine.Unit} {st : Fld} (h : Keeps s₀ s)
include h

theorem Keeps.zntCount : Keeps s₀ s.zntCount := h.setFld.setFld

theorem Keeps.setZstat : Keeps s₀ (s.setZstat z x) := h.upd rfl rfl

theorem Keeps.zntReset : Keeps s₀ s.zntReset := h.upd rfl rfl

theorem Keeps.setFilterBank : Keeps s₀ (s.setFilterBank bin k) := by
  unfold State.setFilterBank
  split
  · exact h.setEmem
  · exact h

theorem Keeps.zntWatch : Keeps s₀ s.zntWatch := .fold (h.upd rfl rfl) (fun _ _ hy => .setFilterBank (hy.upd rfl rfl))

theorem Keeps.zntFresh : Keeps s₀ s.zntFresh := .zntWatch (h.upd rfl rfl)

theorem Keeps.tapBin : Keeps s₀ (s.tapBin ru frame bin vals fade counts late) :=
  .ite h (h.setFilterBank.fold (fun _ _ hy => .ite hy (.ite hy.setZstat.raise hy.setZstat)))

theorem Keeps.closeZone {z : Zone} : Keeps s₀ (s.closeZone z cs frame rested state) := .setZstat (.ite h.entryOut h)

theorem Keeps.takeChange : Keeps s₀ (s.takeChange o seq number refusal add) := by
  unfold State.takeChange
  split
  · exact h.count.raise.finish
  · exact h.upd rfl rfl

theorem Keeps.execZoneAdd : Runs s₀ (execZoneAdd o seq s) := .next (h.withRequest (fun _ hy => hy.onUnit (fun _ => .takeChange)))

theorem Keeps.execZoneRemove : Runs s₀ (execZoneRemove o seq s) :=
  .next (h.withRequest (fun _ hy => hy.onUnit (fun _ => .takeChange)))

theorem Keeps.applyChange : Keeps s₀ (s.applyChange c) := .zntCount (.zntWatch (h.upd rfl rfl))

theorem Keeps.applyChanges : Keeps s₀ (s.applyChanges t n) :=
  .ite h <| .meridianNow (.fold (h.upd rfl rfl) (fun _ _ hy => hy.applyChange.count.raise.show.answer))

theorem Keeps.dropChanges : Keeps s₀ s.dropChanges := .fold (h.upd rfl rfl) (fun _ _ hy => hy.count.raise.finish)

theorem Keeps.zntLoad : Keeps s₀ s.zntLoad := .zntCount (.zntWatch (h.dropChanges.upd rfl rfl))

theorem Keeps.execZoneRead : Runs s₀ (execZoneRead o seq s) := .next (h.withRequest (fun _ hy => hy.onUnit (fun _ => .finish)))

theorem Keeps.zntStatsReset : Keeps s₀ s.zntStatsReset := h.upd rfl rfl

theorem Keeps.blkFaultClr : Keeps s₀ (s.blkFaultClr u st) := .ite h.setFld.show h

theorem Keeps.execStatsReset : Runs s₀ (execStatsReset src s) := .next (h.onUnit (fun _ => .zntStatsReset))

theorem Keeps.execZntCountClr : Runs s₀ (execZntCountClr src s) := .next (h.onUnit (fun _ => .setReg))

end

/-! #### `Machine/Stu` -/

section
variable {s₀ s : State} {r z n code rec st pos dec pre post frame at_ : Nat} {insts : List CapInst} {x : CapRec}
  {own : Option (Nat × Nat)} {timer : Bool} {cs : List BandClose} {off : Int} (h : Keeps s₀ s)
include h

theorem Keeps.setCap : Keeps s₀ (s.setCap r x) := h.upd rfl rfl

theorem Keeps.setCapSt : Keeps s₀ (s.setCapSt r st) := h.setFld

theorem Keeps.awaitFrames : Keeps s₀ (s.awaitFrames r n) := .ite h h.setCap

theorem Keeps.storeRow : Keeps s₀ (s.storeRow r pos insts) := h.dramWrite

theorem Keeps.pushRow : Keeps s₀ (s.pushRow r insts) := by
  unfold State.pushRow
  refine .ite h.storeRow.setCap ?_
  split
  · exact h.storeRow.setCap
  · exact h.storeRow.setCap.setFld.setFld.count

theorem Keeps.pushInsts {insts : List CapInst} : Keeps s₀ (State.pushInsts r dec insts s) := by
  induction insts generalizing s with
  | nil => exact h
  | cons i rest ih =>
    unfold State.pushInsts
    extract_lets x s1 y s2
    have h1 : Keeps s₀ s1 := by
      unfold s1
      split
      · exact .ite h.pushRow h
      · exact h
    have h2 : Keeps s₀ s2 := .ite h1 h1.setCap
    exact ih (.ite h2.pushRow h2)

theorem Keeps.settleRows {n : Nat} : Keeps s₀ (State.settleRows r n s) := by
  induction n generalizing s with
  | zero => exact h
  | succ n ih =>
    unfold State.settleRows
    extract_lets
    refine .ite (.ite h h.dmcTouch) ?_
    split
    · exact h
    · split
      · exact h
      · exact ih h.setCap.pushInsts

theorem Keeps.settleCap : Keeps s₀ (s.settleCap r) := h.settleRows

theorem Keeps.capFill : Keeps s₀ (s.capFill r) := h.awaitFrames.setCap.settleCap

theorem Keeps.capEmpty : Keeps s₀ (s.capEmpty r pre post) := h.setCap

theorem Keeps.capLenNow : Keeps s₀ (s.capLenNow r) := by
  unfold State.capLenNow
  split
  · exact h.setCap.setFld.setFld
  · exact h

theorem Keeps.capArm : Keeps s₀ (s.capArm r own).1 := by
  unfold State.capArm
  split
  · exact h
  · exact .ite_fst h <| .ite_fst h <| .ite_fst h <| .ite_fst h <| .ite_fst h h.capLenNow.capEmpty.setCapSt.setFld

theorem Keeps.capDisarm : Keeps s₀ (s.capDisarm r).1 := by
  unfold State.capDisarm
  split
  · exact h
  · exact .ite_fst h.setCapSt <| .ite_fst h <| .ite_fst h.setFld h

theorem Keeps.capLength : Keeps s₀ (s.capLength r n).1 := by
  unfold State.capLength
  split
  · exact h
  · exact .ite_fst h <| .ite_fst h <| .ite_fst h.setCap.setFld h.setCap.setFld

/-- A log takes a value of at most 16 entries (01 R56). -/
theorem Keeps.putLog {path : Nat} {l : UnitLog}
    (hl : s.logs.all (fun e => decide (e.2.entries.length ≤ 16)) = true → l.entries.length ≤ 16) :
    Keeps s₀ { s with logs := tabPut (fun _ => ⟨[], false⟩) s.logs path l } := by
  refine .logs (fun hs => ?_) h
  simp only [State.logsWf, Bool.and_eq_true] at hs ⊢
  obtain ⟨hwf, hlen⟩ := hs
  exact ⟨tabWf_tabPut _ _ _ _ hwf,
    all_tabPut _ (fun x : UnitLog => decide (x.entries.length ≤ 16)) _ _ _ (decide_eq_true (hl hlen)) hlen⟩

theorem Keeps.logZone : Keeps s₀ (s.logZone z code) := h.putLog (add_length _ _ <| logOf_length _ _ ·)

theorem Keeps.postZone : Keeps s₀ (s.postZone z code) := h.post.logZone

theorem Keeps.trigMissed : Keeps s₀ (s.trigMissed z) := h.setZdead.count.logZone.raise

theorem Keeps.trigDead : Keeps s₀ (s.trigDead z) := h.setZdead.count.logZone.raise

theorem Keeps.capFire : Keeps s₀ (s.capFire r z) :=
  .settleDead (.raise (.ite h.settleCap.settleDead.setCap.setCapSt.setZdead.postZone h.settleCap.settleDead.setCap.setCapSt.setZdead))

theorem Keeps.capTrigger : Keeps s₀ (s.capTrigger z rec).1 := by
  unfold State.capTrigger
  split
  · exact h.trigMissed
  · exact .ite_fst h.capFire <| .ite_fst h.setCap <| .ite_fst h.trigMissed h.trigDead

theorem Keeps.ownTrigger : Keeps s₀ (s.ownTrigger z rec) := .ite h.capTrigger h.capTrigger.post

theorem Keeps.ownArm : Keeps s₀ (s.ownArm z r) := .ite h.capArm h.capArm.postZone

theorem Keeps.setInst {x : TrigInst} : Keeps s₀ (s.setInst z x) := h.upd rfl rfl

theorem Keeps.runProgram {z : Zone} : Keeps s₀ (s.runProgram z timer cs frame off at_) := by
  unfold State.runProgram
  extract_lets
  split
  · exact h
  · split
    · exact h
    · extract_lets x1 dest s1 s2
      have h2 : Keeps s₀ s2 := .ite h.setInst.ownArm h.setInst
      exact .ite (.entryOut (.ite h2.ownTrigger h2)) <| .ite h2.ownTrigger h2

theorem Keeps.decide_ {r : SlotRun} : Keeps s₀ (s.decide_ r) := by
  unfold State.decide_
  split
  · exact h
  · exact .ite h h.runProgram.settleDeads.closeZone

theorem Keeps.tickTimers {r : SlotRun} : Keeps s₀ (s.tickTimers r) := by
  unfold State.tickTimers
  split
  · exact h
  · exact .ite h <| .ite h.setInst.runProgram.settleDeads h.setInst

end

/-! #### `Machine/Tce` -/

section
variable {s₀ s : State} {c frame g t n : Nat} {mark : Option Nat} {late reset linear cut : Bool} {flips : List Nat}
  {bytes b pay data : Bytes} {q : TceIn} {src : Src} (h : Keeps s₀ s)
include h

theorem Keeps.tceStall : Keeps s₀ s.tceStall := h.upd rfl rfl

theorem Keeps.stageBlock : Keeps s₀ (s.stageBlock c frame bytes reset) := h.writeSpans.setTch

theorem Keeps.closeLinear : Keeps s₀ (s.closeLinear c) := .ite h (h.setTch.upd rfl rfl)

theorem Keeps.addWords {words : List Int} {off : Nat} : Keeps s₀ (State.addWords c frame mark late words off s) := by
  induction words generalizing s off with
  | nil => exact h
  | cons w rest ih => exact ih (.ite h.setTch.closeLinear h.setTch)

theorem Keeps.stageMeta : Keeps s₀ (s.stageMeta c b linear) := h.setTch

theorem Keeps.addPayload : Keeps s₀ (s.addPayload c frame mark late pay) := h.addWords

theorem Keeps.workPut : Keeps s₀ (s.workPut c) := h.setEmem.setEmem

theorem Keeps.tceEnter : Keeps s₀ (s.tceEnter c data cut) := by
  unfold State.tceEnter
  extract_lets frame linear mark s1
  have h1 : Keeps s₀ s1 := .ite h.closeLinear h
  exact .ite (.workPut (.addPayload (.stageMeta (.ite h1.setTch h1)))) <| .upd rfl rfl (.stageMeta (.ite h1.setTch h1))

theorem Keeps.tceDrop : Keeps s₀ (s.tceDrop q) := by
  unfold State.tceDrop
  extract_lets
  split
  · exact h.archiveDrop.upd rfl rfl
  · exact .setTch (h.archiveDrop.upd rfl rfl)

theorem Keeps.closeOut : Keeps s₀ (s.closeOut c) := .ite h h.closeLinear.workPut

theorem Keeps.tceCloseAll : Keeps s₀ s.tceCloseAll := .tceStall (h.fold (fun _ _ => .closeOut))

theorem Keeps.tceRest : Keeps s₀ s.tceRest := .ite h <| .ite (.setFld (h.tceCloseAll.upd rfl rfl)) h.tceCloseAll

theorem Keeps.tceAge : Keeps s₀ (s.tceAge g) := .ite h <| .tceRest (h.fold (fun _ _ => .tceDrop))

theorem Keeps.tceTake : Keeps s₀ s.tceTake := by
  unfold State.tceTake
  extract_lets
  split
  · exact h
  · extract_lets
    refine .ite (.tceEnter (h.upd rfl rfl)) <| .ite h.dmcTouch ?_
    split
    · exact .tceEnter (.readSpans (h.upd rfl rfl))
    · exact .upd rfl rfl (.readSpans (h.upd rfl rfl))

theorem Keeps.execTceBlockIntake : Runs s₀ (execTceBlockIntake s) := .next (.ite h.tceTake.tceRest.tceStall h)

theorem Keeps.tceCode {b : TadBlock} : Keeps s₀ (s.tceCode b flips) := by
  unfold State.tceCode
  extract_lets c x mark reset hist rule e eff ratio tg o tag y s1
  have h1 : Keeps s₀ s1 := h.setTch.workPut.stageBlock.count
  exact .ite h1.setFld.setFld <| .ite h1.setFld.setFld.count.raise.count.post.raise h1.setFld.setFld.count.raise.show

theorem Keeps.execTceBlockCoded {c : Fin 32} : Runs s₀ (execTceBlockCoded c flips t s) := by
  unfold Machine.execTceBlockCoded
  refine .next (.ite h.at_ ?_)
  split
  · exact h.at_
  · exact .ite h.at_.tceStall <| .tceStall (.tceRest (.tceCode (h.at_.upd rfl rfl)))

theorem Keeps.tceMark : Keeps s₀ (s.tceMark n) := h.tceCloseAll.upd rfl rfl

theorem Keeps.tceStop : Keeps s₀ s.tceStop := .ite (.tceRest (h.upd rfl rfl)) h

theorem Keeps.tceLose : Keeps s₀ s.tceLose := by
  unfold State.tceLose
  refine .upd rfl rfl (h.fold (fun _ _ hy => ?_))
  split
  · exact hy
  · exact hy.noteGap

theorem Keeps.tceCountClr : Keeps s₀ s.tceCountClr := h.fold (fun _ _ => .setReg)

theorem Keeps.execTceCountClr : Runs s₀ (execTceCountClr src s) := .next (h.onUnit (fun _ => .tceCountClr))

end

/-! #### `Machine/Anc` -/

section
variable {s₀ s : State} {n c g a worst purpose pair seq : Nat} {f : AncSt → AncSt} {e bytes items : Bytes} {r : ArcRec} {old : Option Nat}
  {hd : ArcHead} {known : List (Nat × Bytes)} (h : Keeps s₀ s)
include h

theorem Keeps.onAnc : Keeps s₀ (s.onAnc f) := h.upd rfl rfl

theorem Keeps.setNblk {f : NandBlock → NandBlock} : Keeps s₀ (s.setNblk g f) := h.onAnc

theorem Keeps.countRead : Keeps s₀ (s.countRead a worst) := .ite h.setNblk.setFld h.setNblk

theorem Keeps.notePatrol : Keeps s₀ (s.notePatrol a worst) := h.onAnc

theorem Keeps.addEntry : Keeps s₀ (s.addEntry e) := h.onAnc

theorem Keeps.openBlock : Keeps s₀ (s.openBlock g purpose pair) := h.onAnc.setNblk.addEntry

theorem Keeps.openData : Keeps s₀ s.openData := by
  unfold State.openData
  split
  · exact h.openBlock.onAnc
  · exact h

theorem Keeps.wantCommit : Keeps s₀ s.wantCommit := h.onAnc

theorem Keeps.openAhead : Keeps s₀ (s.openAhead n) := by
  unfold State.openAhead
  extract_lets s1
  have h1 : Keeps s₀ s1 := h.fold (fun _ _ hy => .ite hy hy.openData)
  exact .ite h1.wantCommit h1

theorem Keeps.makeRoom : Keeps s₀ (s.makeRoom n).2 :=
  .ite_snd (.ite h h.wantCommit) <| .ite_snd h <| .ite h.openAhead h.openAhead.wantCommit

theorem Keeps.emitPage : Keeps s₀ s.emitPage := by
  unfold State.emitPage
  split
  · exact h
  · exact .ite h.onAnc h.onAnc.onAnc.setNblk.openAhead

theorem Keeps.putBytes {n : Nat} {bytes : Bytes} : Keeps s₀ (State.putBytes seq n bytes s) := by
  induction n generalizing s bytes with
  | zero => exact h
  | succ n ih => exact .ite h (ih (.ite h.onAnc.emitPage h.onAnc))

theorem Keeps.logRecord : Keeps s₀ (s.logRecord r bytes old) := by
  unfold State.logRecord
  split
  · exact h
  · exact h.onAnc.setNblk.putBytes

theorem Keeps.newRecord : Keeps s₀ (s.newRecord hd items) := h.onAnc.logRecord

theorem Keeps.gapRecord {g : GapNote} : Keeps s₀ (s.gapRecord c g) := h.newRecord

theorem Keeps.writeGaps {gaps : List GapNote} : Keeps s₀ (State.writeGaps gaps s) := by
  induction gaps generalizing s with
  | nil => exact h
  | cons g rest ih => exact .ite (h.makeRoom.upd rfl rfl) (ih (.fold (h.upd rfl rfl) fun _ _ hy => hy.gapRecord))

theorem Keeps.arcGaps : Keeps s₀ s.arcGaps := .ite h.writeGaps h

theorem Keeps.readItems {items : List Staged} : Keeps s₀ (State.readItems items s).1 := by
  induction items generalizing s with
  | nil => exact h
  | cons x rest ih =>
    unfold State.readItems
    extract_lets one
    have hone : Keeps s₀ one.1 := by
      unfold one
      split
      · exact h
      · exact h
      · exact h.readSpans
    split
    · exact hone
    · exact ih hone

theorem Keeps.keepHeaders : Keeps s₀ (s.keepHeaders c known) := by
  unfold State.keepHeaders
  exact h.onAnc

theorem Keeps.dropStaged : Keeps s₀ (s.dropStaged c n) := h.setTch

end

/-! #### `Machine/AncLog` -/

section
variable {s₀ s : State} {g code detail seq cause st : Nat} {r : ArcRec} {pages gs bad blocks : List Nat} {x : RecRead}
  (h : Keeps s₀ s)
include h

theorem Keeps.clearBlock : Keeps s₀ (s.clearBlock g) := .ite h h.onAnc

theorem Keeps.clearBad : Keeps s₀ (s.clearBad pages) := h.fold (fun _ _ => .clearBlock)

theorem Keeps.retireBlock : Keeps s₀ (s.retireBlock g) := .ite h.clearBlock <| .ite h.onAnc <| .ite h.onAnc h

theorem Keeps.checkReads : Keeps s₀ (s.checkReads gs) := h.fold (fun _ _ hy => .ite hy.retireBlock hy)

theorem Keeps.notePages {pages : List (Nat × Nat)} : Keeps s₀ (s.notePages pages bad) :=
  .checkReads (.clearBad (h.fold (fun _ _ => .countRead)))

theorem Keeps.postRecord : Keeps s₀ (s.postRecord code detail seq) := h.show.logFor

theorem Keeps.noteRead : Keeps s₀ (s.noteRead r x) := by
  unfold State.noteRead
  extract_lets s1 tell
  have htell : ∀ y, Keeps s₀ y → Keeps s₀ (tell y) := fun _ => .almEvent
  exact .ite (htell _ h.notePages.count.postRecord.raise) <| .ite (htell _ h.notePages.count.postRecord.raise) h.notePages

theorem Keeps.moveRecord : Keeps s₀ (s.moveRecord r) := h.noteRead.count.logRecord

theorem Keeps.moveRecords {records : List ArcRec} : Keeps s₀ (State.moveRecords records s).2 := by
  induction records generalizing s with
  | nil => exact h
  | cons r rest ih => exact .ite_snd (ih h.moveRecord) h.makeRoom

theorem Keeps.runMoves {blocks : List Nat} : Keeps s₀ (State.runMoves blocks s) := by
  induction blocks generalizing s with
  | nil => exact h
  | cons g rest ih => exact .ite (ih h.moveRecords.onAnc) h.moveRecords

theorem Keeps.growBad : Keeps s₀ (s.growBad g code cause) := h.setNblk.addEntry.post.raise

theorem Keeps.takeCheckpoint : Keeps s₀ s.takeCheckpoint := by
  unfold State.takeCheckpoint
  refine h.fold (fun _ _ hy => ?_)
  split
  · exact hy.openBlock.onAnc
  · exact hy

theorem Keeps.writeSuper : Keeps s₀ s.writeSuper := by
  unfold State.writeSuper
  exact h.onAnc.onAnc

theorem Keeps.rotate : Keeps s₀ (s.rotate blocks) := .onAnc (h.upd rfl rfl)

theorem Keeps.extendJournal : Keeps s₀ s.extendJournal := by
  unfold State.extendJournal
  refine .ite h ?_
  split
  · exact h.openBlock.openBlock.onAnc
  · exact h

theorem Keeps.formCommit : Keeps s₀ s.formCommit := .ite h.extendJournal h.extendJournal.onAnc

theorem Keeps.beginCommit : Keeps s₀ s.beginCommit := .ite h <| .ite (.ite h h.emitPage) <| .formCommit (.ite h h.emitPage)

theorem Keeps.seize : Keeps s₀ (s.seize g st) := by
  unfold State.seize
  exact h.onAnc.setNblk

theorem Keeps.seizeCheckpoint : Keeps s₀ (s.seizeCheckpoint).2 := by
  unfold State.seizeCheckpoint
  refine h.fold_snd (fun _ _ hy => ?_)
  split
  · exact hy.seize
  · exact hy

theorem Keeps.newPair : Keeps s₀ s.newPair := by
  unfold State.newPair
  split
  · exact h
  · extract_lets s1 ahead s2 r
    have h2 : Keeps s₀ s2 := h.seize.seize.onAnc
    have hr : Keeps s₀ r.2 := by
      unfold r
      split
      · dsimp only
        exact h2.onAnc
      · exact h2.seizeCheckpoint
    exact hr.onAnc.rotate.writeSuper

theorem Keeps.nameNext : Keeps s₀ s.nameNext := by
  unfold State.nameNext
  split
  · exact .ite h h.addEntry.addEntry
  · exact h

theorem Keeps.startCheckpoint : Keeps s₀ s.startCheckpoint :=
  .ite h.newPair <| .ite h <| .ite h.takeCheckpoint.wantCommit <| .ite h.wantCommit h.onAnc.nameNext

theorem Keeps.ancVote : Keeps s₀ s.ancVote := h.voteAll

theorem Keeps.ancStep : Keeps s₀ s.ancStep :=
  .ite h <| .ancVote (.beginCommit (.ite (.ite h.arcGaps.runMoves h.arcGaps) (.startCheckpoint (.ite h.arcGaps.runMoves h.arcGaps))))

end

/-! #### `Machine/AncRun` -/

section
variable {s₀ s : State} {c g n t a cc line next code detail page type : Nat} {o : Origin} {seq : Word} {src : Src} {fail : Bool}
  {e main b content : Bytes} {bad failed prev : List Nat} {via v : Via} {flips : List (Nat × Nat)} {dropped : List NandOp} {j : CcJob}
  {op : NandOp} {shown : List ArcRec} {es : List Bytes} {ans : List (Nat × NandAnswer)} {w : Nat → ArcWait} {kind : Fin 3} {hd : ArcHead}
  {items : List RingItem} (h : Keeps s₀ s)
include h

theorem Keeps.putPage : Keeps s₀ (s.putPage a main) := .ite h.onAnc.setNblk h.onAnc

theorem Keeps.eraseBlock : Keeps s₀ (s.eraseBlock g) := h.onAnc.setNblk

theorem Keeps.relay : Keeps s₀ (s.relay g dropped) := by
  unfold State.relay
  extract_lets back hit stay again s1
  have h1 : Keeps s₀ s1 := h.fold (fun _ _ hy => hy.setNblk)
  exact .ite h1.onAnc (h1.onAnc.openAhead.fold (fun _ _ => .logRecord))

theorem Keeps.moveSuper : Keeps s₀ (s.moveSuper g) := by
  unfold State.moveSuper
  extract_lets
  split
  · exact h
  · exact h.setNblk.onAnc.onAnc

theorem Keeps.redoCheckpoint : Keeps s₀ s.redoCheckpoint := by
  unfold State.redoCheckpoint
  exact h.seizeCheckpoint.onAnc.onAnc.writeSuper.onAnc

theorem Keeps.judgeSpace : Keeps s₀ s.judgeSpace := by
  unfold State.judgeSpace
  extract_lets low s1 b s2
  have h2 : Keeps s₀ s2 := .ite (.ite h.onAnc.raise.post h.onAnc.raise) h.onAnc
  refine .ite ?_ h2
  split
  · exact h2.onAnc.clearBlock.wantCommit
  · exact h2

theorem Keeps.levelWear : Keeps s₀ s.levelWear := by
  unfold State.levelWear
  extract_lets
  split
  · exact .ite h.clearBlock h
  · exact h

theorem Keeps.ccRecord : Keeps s₀ (s.ccRecord j) := h.newRecord.onAnc.wantCommit

theorem Keeps.ccAbort : Keeps s₀ s.ccAbort := by
  unfold State.ccAbort
  split
  · exact h
  · exact .raise (.post (h.upd rfl rfl))

theorem Keeps.ccReady : Keeps s₀ s.ccReady := by
  unfold State.ccReady
  split
  · exact h
  · exact .ite h <| .ite h.ccAbort <| .ite h.makeRoom <| .ccRecord (h.upd rfl rfl)

theorem Keeps.ccCommitted : Keeps s₀ (s.ccCommitted cc) := by
  unfold State.ccCommitted
  split
  · exact .ite h <| .ite (.raise (.show (.setReg (h.upd rfl rfl)))) <| .ccReady (h.upd rfl rfl)
  · exact .ite (.chorusSend (h.upd rfl rfl)) h

theorem Keeps.arcInform {wait : ArcWait} : Keeps s₀ (s.arcInform wait) := by
  unfold State.arcInform
  split
  · exact h.upd rfl rfl
  · exact h.appendDone
  · exact h
  · exact h.finish
  · exact h.finish
  · exact h.ccCommitted

theorem Keeps.stepJournal : Keeps s₀ (s.stepJournal n) := h.onAnc

theorem Keeps.refuseWait {wait : ArcWait} : Keeps s₀ (s.refuseWait wait) := by
  unfold State.refuseWait
  split
  · split
    · exact .finish (.raise (.count (h.upd rfl rfl)))
    · exact h
  · exact h.appendFails
  · exact h.finish
  · exact h.finish
  · exact h
  · exact .ite h.ccAbort h

theorem Keeps.refuseWaits : Keeps s₀ s.refuseWaits := h.onAnc.fold (fun _ _ hy => hy.refuseWait)

theorem Keeps.noteLost : Keeps s₀ s.noteLost := by
  unfold State.noteLost
  exact h.onAnc

theorem Keeps.loseRings : Keeps s₀ s.loseRings := .tceStall (.upd rfl rfl (h.fold (fun _ _ => .keepHeaders)))

theorem Keeps.ancHalted : Keeps s₀ s.ancHalted := .repower (h.noteLost.loseRings.setFld.onAnc.refuseWaits.raise.upd rfl rfl)

theorem Keeps.opLost : Keeps s₀ (s.opLost op) := by
  unfold State.opLost
  split
  · exact h.growBad
  · exact h.growBad.onAnc.relay
  · exact h.growBad.ancHalted.onAnc
  · exact h.growBad

theorem Keeps.opDone : Keeps s₀ (s.opDone fail) := by
  unfold State.opDone
  extract_lets keep
  have hkeep : ∀ n y, Keeps s₀ y → Keeps s₀ (keep n y) := fun _ _ => .onAnc
  split
  · exact h
  · extract_lets g s1 s2 _ dropped b
    have hb : Keeps s₀ b := .newPair (hkeep _ _ h.onAnc.growBad)
    split
    · split
      · exact h.onAnc.eraseBlock
      · exact .ite h.onAnc.putPage h.onAnc.putPage.onAnc
      · exact h.onAnc.putPage
    · refine .ite h.onAnc.opLost ?_
      split
      · exact .ite h.onAnc.growBad.moveSuper h.onAnc.growBad
      · exact .clearBlock (.relay (hkeep _ _ h.onAnc.growBad))
      · split
        · exact hb.onAnc
        · exact hb
      · exact .ite (.wantCommit (.takeCheckpoint (.onAnc (hkeep _ _ h.onAnc.growBad)))) <| .redoCheckpoint (hkeep _ _ h.onAnc.growBad)
      · exact h.onAnc.growBad.moveSuper

theorem Keeps.commitInForce : Keeps s₀ s.commitInForce := by
  unfold State.commitInForce
  split
  · exact h
  · extract_lets gone recs s1 s2 s3 s4 s5 ck s6 s7
    have h5 : Keeps s₀ s5 := .stepJournal (.fold (.fold (h.onAnc.fold (fun _ _ hy => hy.setNblk)) (fun _ _ hy => hy.setNblk.onAnc))
        (fun _ _ hy => hy.setNblk.post.raise))
    have h7 : Keeps s₀ s7 := .fold (.ite h5.onAnc.rotate.writeSuper.takeCheckpoint (.ite h5.onAnc (.ite h5.onAnc h5)))
        (fun _ _ hy => hy.arcInform)
    exact .ite h <| .ite (.ite h7 h7.ancHalted) h7.levelWear.judgeSpace.ccReady

theorem Keeps.checkpointWritten : Keeps s₀ s.checkpointWritten := .ite h h.addEntry.onAnc.wantCommit

theorem Keeps.ancDrain {n : Nat} : Keeps s₀ (State.ancDrain n s) := by
  induction n generalizing s with
  | zero => exact h
  | succ n ih =>
    exact .ite (ih h.opDone) <| .ite (ih h.commitInForce.startCheckpoint.beginCommit) <|
      .ite (ih h.checkpointWritten.beginCommit) <| .ite (ih h.beginCommit) h

theorem Keeps.ancLose : Keeps s₀ s.ancLose := h.onAnc

theorem Keeps.fillHidden : Keeps s₀ (s.fillHidden shown line next) := by
  unfold State.fillHidden
  refine h.fold (fun _ _ hy => ?_)
  refine .ite hy ?_
  split
  · exact hy
  · exact hy.onAnc

theorem Keeps.loadCheckpoint : Keeps s₀ (s.loadCheckpoint b) :=
  .fillHidden (.onAnc (.setFld (.onAnc (h.fold (fun _ _ hy => .ite hy hy.setNblk)))))

theorem Keeps.applyEntry : Keeps s₀ (s.applyEntry e) := by
  unfold State.applyEntry
  extract_lets
  split
  · exact h.setNblk.onAnc
  · exact h.onAnc.setNblk
  · exact h.setNblk
  · exact h.setNblk
  · split
    · exact .ite h.onAnc h
    · exact h
  · exact h.onAnc
  · exact h

theorem Keeps.endAfter : Keeps s₀ (s.endAfter es) := by
  unfold State.endAfter
  split
  · exact h
  · split
    · exact h
    · exact h.onAnc

omit h in
theorem Keeps.replayEntry {x : State × Replay} (h : Keeps s₀ x.1) : Keeps s₀ (replayEntry x e).1 := by
  obtain ⟨s, r⟩ := x
  exact .ite_fst h <| .ite_fst (.ite (.endAfter (.onAnc (h.fold fun _ _ => .applyEntry))) h) h

omit h in
theorem Keeps.replay {x : State × Replay} {n : Nat} (h : Keeps s₀ x.1) : Keeps s₀ (replay n x).1 := by
  induction n generalizing x with
  | zero => exact h
  | succ n ih =>
    obtain ⟨s, r⟩ := x
    unfold Machine.replay
    extract_lets a p1 p2 p y s1
    have hy : Keeps s₀ y.1 := .fold_fst h fun _ _ => .replayEntry
    have h1 : Keeps s₀ s1 := by
      refine .ite hy.onAnc ?_
      split
      · exact hy.onAnc
      · exact hy.onAnc
    exact .ite_fst h <| .ite_fst h <| .ite_fst h (ih h1)

theorem Keeps.setGeometry : Keeps s₀ (s.setGeometry ans) := by
  unfold State.setGeometry
  extract_lets
  split
  · exact h
  · exact h.onAnc.setReg.setReg.setReg

theorem Keeps.ancFault : Keeps s₀ (s.ancFault code detail) := h.setFld.post.raise

theorem Keeps.openSpans : Keeps s₀ s.openSpans := by
  unfold State.openSpans
  exact h.onAnc

theorem Keeps.askBoundary : Keeps s₀ (s.askBoundary c) := h.closeOut.setTch.tceStall

theorem Keeps.resume {next : Option (Nat × Nat)} : Keeps s₀ (s.resume next prev) := by
  unfold State.resume
  exact h.onAnc

theorem Keeps.mountTables : Keeps s₀ s.mountTables := by
  unfold State.mountTables
  split
  · exact h.setFld.post
  · extract_lets latest prev ck
    clear_value ck
    split
    · exact h.ancFault
    · extract_lets s1 r s2 s3 s4 s5 s6 s7
      have hr : Keeps s₀ r.1 := .replay (x := (s1.loadCheckpoint _, _)) h.onAnc.loadCheckpoint
      have h4 : Keeps s₀ s4 := .resume (hr.onAnc.fold fun _ _ => .eraseBlock)
      have h6 : Keeps s₀ s6 := .ancDrain (.wantCommit (.takeCheckpoint (.openAhead (.ite h4 h4.newPair))))
      have h7 : Keeps s₀ s7 := .ite h6.post.raise h6.show
      exact .raise (.setFld (.ite (h7.openSpans.fold fun _ _ => .askBoundary) h7))

theorem Keeps.startMount : Keeps s₀ s.startMount := by
  unfold State.startMount
  refine .ite h ?_
  split
  · exact h.setFld.post.ancVote
  · exact h.ancLose.setFld.ancVote

theorem Keeps.mountOrOff : Keeps s₀ s.mountOrOff := .ite h.startMount h.setFld.ancVote

theorem Keeps.formatDone : Keeps s₀ (s.formatDone bad failed) :=
  .mountOrOff (.onAnc (.ancDrain (.newPair (.onAnc (.fold (.fold (h.ancLose.onAnc.fold (fun _ _ hy => hy.setNblk))
      (fun _ _ hy => .ite hy hy.setNblk.post.raise)) (fun _ _ hy => hy.setNblk))))))

theorem Keeps.ancFlush : Keeps s₀ s.ancFlush := .ite h.setFld.onAnc.wantCommit.ancStep <| .ite h.setFld.ancVote h

theorem Keeps.ancPwrfail : Keeps s₀ s.ancPwrfail :=
  .ite h.ancLose.ancHalted <| .ite h.onAnc.beginCommit <| .repower (h.upd rfl rfl)

theorem Keeps.ancDramReset : Keeps s₀ s.ancDramReset := by
  unfold State.ancDramReset
  extract_lets st s1
  have h1 : Keeps s₀ s1 := h.noteLost.loseRings.refuseWaits.ancLose.onAnc
  exact .ite h1.startMount h1

theorem Keeps.ancPowerDown : Keeps s₀ s.ancPowerDown := h.refuseWaits.ancLose.setFld

theorem Keeps.ancWake : Keeps s₀ s.ancWake := .ite h.startMount h

theorem Keeps.ancSwitch : Keeps s₀ s.ancSwitch := by
  unfold State.ancSwitch
  refine .ite (.ite (.ite h.startMount h.ancVote) ?_) h.ancFlush.ancVote
  split
  · exact h.post
  · exact h

theorem Keeps.execPageProgramDone : Runs s₀ (execPageProgramDone fail s) := .next (.ite h h.opDone.ancStep)

theorem Keeps.execNandOpTimeout : Runs s₀ (execNandOpTimeout s) := .next (.ite h h.opDone.ancStep)

theorem Keeps.execCommitMsExpiry : Runs s₀ (execCommitMsExpiry t s) := by
  unfold Machine.execCommitMsExpiry
  refine .next ?_
  split
  · exact .ite h.at_.wantCommit.ancStep h.at_
  · exact h.at_

theorem Keeps.execCheckpointWritten : Runs s₀ (execCheckpointWritten s) := .next (.ite h.checkpointWritten.ancStep h)

theorem Keeps.execNandZqCalibration : Runs s₀ (execNandZqCalibration s) := .next h

theorem Keeps.execFormatComplete : Runs s₀ (execFormatComplete bad failed s) := .next (.ite h.formatDone h)

theorem Keeps.execFlushComplete : Runs s₀ (execFlushComplete s) :=
  .next (.ite (.ite h.ancLose.setFld.ancVote.startMount h.ancLose.setFld.ancVote) h)

theorem Keeps.pwrfailSample : Keeps s₀ s.pwrfailSample :=
  .ite (.ancPwrfail (.raise (.setFld (.repower (h.upd rfl rfl))))) <| .ite h h.setFld

theorem Keeps.execPwrfailAssert : Runs s₀ (execPwrfailAssert s) := .next (.pwrfailSample (h.upd rfl rfl))

theorem Keeps.execPwrfailRelease : Runs s₀ (execPwrfailRelease s) :=
  .next (.ite (.startMount (.setFld (h.upd rfl rfl))) (.setFld (h.upd rfl rfl)))

theorem Keeps.whenReady {act : State → State} (hact : ∀ y, Keeps s₀ y → Keeps s₀ (act y)) : Keeps s₀ (s.whenReady v act) :=
  .ite (hact _ h) h.finish

theorem Keeps.execArcCommit : Runs s₀ (execArcCommit via s) :=
  .next (h.withRequest (fun _ hy => hy.onUnit (fun _ hz => hz.whenReady (fun _ h3 => h3.onAnc.wantCommit.ancStep))))

theorem Keeps.execArcDelete : Runs s₀ (execArcDelete o seq s) :=
  .next (h.withRequest (fun _ hy => hy.onUnit (fun _ hz => hz.whenReady (fun _ h3 => .ite h3.finish h3.onAnc.wantCommit.ancStep))))

theorem Keeps.execArcRead {flips : List (List (Nat × Nat))} : Runs s₀ (execArcRead o seq flips s) := by
  unfold Machine.execArcRead
  refine .next (.ite h (h.withRequest (fun _ hy => hy.onUnit (fun _ hz => hz.whenReady (fun _ h3 => ?_)))))
  extract_lets
  split
  · exact h3.finish
  · exact .ite h3.finish (.toHost (.ite h3.noteRead.ancStep.show h3.noteRead.ancStep))

theorem Keeps.dropSuper : Keeps s₀ s.dropSuper := by
  unfold State.dropSuper
  exact h.onAnc

theorem Keeps.execArcFormat : Runs s₀ (execArcFormat via s) :=
  .next (h.withRequest (fun _ hy => hy.onUnit (fun _ hz => .ite hz.setReg.finish (.ite hz.setReg.finish (.ite hz.setReg.finish
      hz.setReg.dropSuper.setFld.finish.ancVote)))))

theorem Keeps.execArcInfo : Runs s₀ (execArcInfo o seq s) := .next (h.withRequest (fun _ hy => hy.onUnit (fun _ => .finish)))

theorem Keeps.patrolNow : Keeps s₀ s.patrolNow := h.setReg.onAnc

theorem Keeps.execPatrolNow : Runs s₀ (execPatrolNow src s) :=
  .next (h.onUnit (fun _ hy => hy.whenReady (fun _ hz => hz.patrolNow.finish)))

theorem Keeps.patrolRead : Keeps s₀ (s.patrolRead flips) := by
  unfold State.patrolRead
  extract_lets next todo
  clear_value todo
  split
  · exact h.onAnc.patrolNow
  · extract_lets pages r x s1
    have h1 : Keeps s₀ s1 := .notePages (h.fold fun _ _ => .notePatrol)
    exact .setFlag (.setFld (.ite h1.retireBlock h1))

theorem Keeps.execPatrolRead : Runs s₀ (execPatrolRead flips s) := .next (.ite h.patrolRead.ancStep h)

theorem Keeps.execNandPageReadDone {flips : List Nat} : Runs s₀ (execNandPageReadDone page flips s) :=
  .next (.ite h (.ite (.notePages (.ite h h.onAnc)) (.ancStep (.notePages (.ite h h.onAnc)))))

theorem Keeps.ancCountClr : Keeps s₀ s.ancCountClr := h.fold (fun _ _ => .setReg)

theorem Keeps.execAncCountClr : Runs s₀ (execAncCountClr src s) := .next (h.onUnit (fun _ => .ancCountClr))

theorem Keeps.ancFaultClr : Keeps s₀ s.ancFaultClr := .ite h.startMount h

theorem Keeps.execAncFaultClr : Runs s₀ (execAncFaultClr src s) := .next (h.onUnit (fun _ => .ancFaultClr))

theorem Keeps.payloadRecord : Keeps s₀ (s.payloadRecord type content w).2 :=
  .ite_snd h <| .ite_snd h.makeRoom.ancStep h.newRecord.onAnc.wantCommit

theorem Keeps.submitZone : Keeps s₀ s.submitZone := by
  unfold State.submitZone
  split
  · exact h
  · extract_lets drop
    have hdrop : ∀ y, Keeps s₀ y → Keeps s₀ (drop y) := fun _ hy => hy.upd rfl rfl
    split
    · exact h
    · exact .ite h <| .ite (.finish (hdrop _ h.count.raise)) <| .ite (.ancStep (h.payloadRecord.upd rfl rfl)) h.payloadRecord

theorem Keeps.submitCal : Keeps s₀ s.submitCal := by
  unfold State.submitCal
  split
  · exact h
  · exact .ite h <| .ite h.post.appendFails <| .ite h.appendFails <| .ite (.ancStep (h.payloadRecord.upd rfl rfl)) h.payloadRecord

theorem Keeps.submitHist : Keeps s₀ s.submitHist :=
  .ite h <| .ite h.post <| .ite (.ancStep (.histFill (h.payloadRecord.upd rfl rfl))) h.payloadRecord

theorem Keeps.execArchiveRecordSubmit : Runs s₀ (execArchiveRecordSubmit kind t s) := by
  unfold Machine.execArchiveRecordSubmit
  refine .next ?_
  split
  · exact h.at_.submitZone
  · exact h.at_.submitCal
  · exact h.at_.submitHist

theorem Keeps.skipStaged : Keeps s₀ (s.skipStaged c) := .ite h.dropStaged.keepHeaders.onAnc h.dropStaged.keepHeaders

theorem Keeps.closeSpan {g : ArcGap} : Keeps s₀ (s.closeSpan g hd) :=
  .ite h.onAnc <| .ite h.makeRoom <| .ite h.onAnc.gapRecord.wantCommit.onAnc h.onAnc.gapRecord.wantCommit

theorem Keeps.takeRecord : Keeps s₀ (s.takeRecord c n items) := by
  unfold State.takeRecord
  refine .ite (.ite h.dropStaged.keepHeaders.count h.dropStaged.keepHeaders.count.onAnc) ?_
  split
  · exact h.askBoundary.onAnc
  · split
    · exact h.closeSpan
    · exact .ite h <| .ite h.makeRoom h.newRecord.dropStaged.keepHeaders

theorem Keeps.takeData : Keeps s₀ (s.takeData c) := by
  unfold State.takeData
  extract_lets
  split
  · exact .ite h.skipStaged h
  · extract_lets it
    have hit : Keeps s₀ it.1 := .readItems (.ite h.skipStaged h)
    split
    · exact hit
    · exact hit.takeRecord

theorem Keeps.execStagedRecordProgram {c : Fin 32} : Runs s₀ (execStagedRecordProgram c s) :=
  .next (.ite h.takeData.judgeSpace.ancStep.tceStall h)

end

/-! #### `Machine/Csp` -/

section
variable {s₀ s : State} {port : Fin 2} {b : List (BitVec 8)} {src : Src} {m index last : Fin 16} {die : BitVec 128} {o : Origin}
  {seq cc : Word} {t map code type dst commit : Nat} {f : CspSt → CspSt} {gone : Nat → Bool} {head later : Bool} {up : BitVec 2}
  {made : Fin 9} {x : PairRx} {k : Nak} {d : ThermDue} {r : RamanRec} (h : Keeps s₀ s)
include h

theorem Keeps.onCsp : Keeps s₀ (s.onCsp f) := h.upd rfl rfl

theorem Keeps.cspVote : Keeps s₀ s.cspVote := h.vote

theorem Keeps.cspTrain : Keeps s₀ s.cspTrain := h.onCsp.setFld.setFld.setFld.setFld.cspVote

theorem Keeps.cspWake : Keeps s₀ s.cspWake := .ite h.cspTrain h

theorem Keeps.cspNoMember : Keeps s₀ (s.cspNoMember gone) := h.fold (fun _ _ hy => hy.answer)

theorem Keeps.cspDiscard : Keeps s₀ s.cspDiscard := h.upd rfl rfl

theorem Keeps.cspForget : Keeps s₀ s.cspForget := h.cspNoMember.cspDiscard.onCsp

theorem Keeps.ccDrop : Keeps s₀ s.ccDrop := by
  unfold State.ccDrop
  split
  · exact .ite h h.ccAbort
  · exact h

theorem Keeps.setMap : Keeps s₀ (s.setMap map) := .ite h h.setFld.setFld.raise

theorem Keeps.cspSleep : Keeps s₀ s.cspSleep := .ite h h.ccDrop.cspForget.onCsp.setFld.setFld.setFld.setMap.setFld.setFld.cspVote

theorem Keeps.cspEvent : Keeps s₀ (s.cspEvent code) := h.post.raise

theorem Keeps.execTrain : Runs s₀ (execTrain src s) := .next (h.onUnit (fun _ hy => .ite hy hy.cspTrain))

theorem Keeps.execHello {port : Fin 2} : Runs s₀ (execHello port die head s) := .next (.ite h.onCsp.cspEvent h)

theorem Keeps.execEnum : Runs s₀ (execEnum port index s) :=
  .next (.ite h (.ite (.ite h.onCsp h) (.ite h (.ite h.onCsp.cspEvent h.onCsp.give))))

theorem Keeps.execEnumTimeout : Runs s₀ (execEnumTimeout last s) := .next (.ite h.onCsp.give h)

theorem Keeps.execTrainingEnd {map : BitVec 16} : Runs s₀ (execTrainingEnd map die up s) := by
  unfold Machine.execTrainingEnd
  extract_lets s0
  have h0 : Keeps s₀ s0 := h.cspForget.fold (fun _ _ hy => hy.setFld.setFld)
  refine .next (.ite h (.ite (.cspVote (.onCsp (.setMap (h0.setFld.setFld.setFlag.fold (fun _ _ => .setReg))))) ?_))
  split
  · exact .cspVote (.setMap (h0.setFld.setFld.setFlag.fold (fun _ _ => .setReg)))
  · exact .cspVote (.ite h0.setFld.setFld.setMap h0.setFld.setFld.setMap.cspEvent)

theorem Keeps.execHelloTimer : Runs s₀ (execHelloTimer port s) := .next (.ite h.give h)

theorem Keeps.execMemberLost : Runs s₀ (execMemberLost m s) :=
  .next (.ite h (.ite h.setMap.post.raise.onCsp.cspNoMember.ccDrop (.ite h.post.raise.onCsp.cspDiscard.cspTrain h)))

theorem Keeps.cspLinkDown {port : Nat} : Keeps s₀ (s.cspLinkDown port) := .ite h <| .ite h.setFld.setFld h.setFld.setFld.cspTrain

theorem Keeps.execLinkDown : Runs s₀ (execLinkDown port later s) := .next (.ite h (.ite (.ite h.cspTrain h) h.cspLinkDown))

theorem Keeps.execHopRetransmit : Runs s₀ (execHopRetransmit port made s) := .next (.ite h (.ite h.count h.cspLinkDown))

theorem Keeps.execChorusCrcReject : Runs s₀ (execChorusCrcReject s) := .next (.ite h.count h)

theorem Keeps.cspCountClr : Keeps s₀ s.cspCountClr := h.setReg.fold (fun _ _ => .setFld)

theorem Keeps.execCspCountClr : Runs s₀ (execCspCountClr src s) := .next (h.onUnit (fun _ => .cspCountClr))

theorem Keeps.setPairRx {m : Nat} : Keeps s₀ (s.setPairRx m x) := h.onCsp

theorem Keeps.cspNak {b : Bytes} : Keeps s₀ (s.cspNak b k) := by
  unfold State.cspNak
  extract_lets m back
  have hback : ∀ y, Keeps s₀ y → Keeps s₀ (back y) := fun _ => .give
  exact .ite (hback _ h) (hback _ (.ite h.setPairRx.logViolation.count.post.raise.raise h.setPairRx.logViolation.count))

theorem Keeps.cspFrame {port : Nat} {b : Bytes} {act : State → State} (hact : ∀ y, Keeps s₀ y → Keeps s₀ (act y)) :
    Keeps s₀ (s.cspFrame port b act) := by
  unfold State.cspFrame
  refine .ite h <| .ite h.give ?_
  split
  · exact h.cspNak
  · exact hact _ h.setPairRx

theorem Keeps.execRequest : Runs s₀ (execRequest port b s) := .next (.ite (h.cspFrame (fun _ hy => hy.upd rfl rfl)) h)

theorem Keeps.execAnswer : Runs s₀ (execAnswer port b s) := by
  unfold Machine.execAnswer
  refine .next (.ite (h.cspFrame (fun _ hy => ?_)) h)
  extract_lets
  split
  · exact hy
  · exact .ite (hy.upd rfl rfl) (.putAnswer (hy.upd rfl rfl))

theorem Keeps.execData : Runs s₀ (execData port b o seq s) := by
  unfold Machine.execData
  refine .next (.ite (h.cspFrame (fun _ hy => ?_)) h)
  extract_lets got keep
  have hkeep : ∀ y, Keeps s₀ y → Keeps s₀ (keep y) := fun _ => .onCsp
  split
  · exact hy
  · exact .ite (hkeep _ hy) (.give (hkeep _ hy))

theorem Keeps.execChorusNak : Runs s₀ (execChorusNak b s) := by
  unfold Machine.execChorusNak
  refine .next (.ite ?_ h)
  split
  · exact h
  · extract_lets
    split
    · exact .ite (h.onCsp.upd rfl rfl) <| .putAnswer (h.onCsp.upd rfl rfl)
    · exact h.onCsp

theorem Keeps.cspReopen {m : Nat} : Keeps s₀ (s.cspReopen m) := h.setPairRx.show

theorem Keeps.execReopen : Runs s₀ (execReopen src m s) := .next (h.onUnit (fun _ hy => hy.cspReopen))

theorem Keeps.execCascadeInfo : Runs s₀ (execCascadeInfo o seq s) :=
  .next (h.withRequest (fun _ hy => hy.onUnit (fun _ hz => hz.answer)))

theorem Keeps.chorusBulk {n : Nat} {bytes : Bytes} : Keeps s₀ (State.chorusBulk type dst n bytes s) := by
  induction n generalizing s bytes with
  | zero => exact h
  | succ n ih => exact .ite h (ih h.chorusSend)

theorem Keeps.sendTrace : Keeps s₀ (s.sendTrace d r) := .ite h h.chorusBulk

theorem Keeps.traceStore : Keeps s₀ s.traceStore := by
  unfold State.traceStore
  extract_lets
  split
  · split
    · exact h.onCsp.dramWrite.setPend
    · exact h.onCsp.dramWrite
  · exact h.onCsp.dramWrite

theorem Keeps.execTrace : Runs s₀ (execTrace port b s) :=
  .next (.ite (h.cspFrame (fun _ hy => .ite hy (.ite (hy.onCsp.withDram (fun _ => .traceStore)) hy.onCsp))) h)

theorem Keeps.ccStart : Keeps s₀ s.ccStart := by
  unfold State.ccStart
  extract_lets cc map s1 s2
  have h2 : Keeps s₀ s2 := h.onCsp.fold (fun _ _ hy => .ite hy.chorusSend hy)
  exact .ite h.post <| .ite h2.ccAbort h2.onAnc.wantCommit.ancStep

theorem Keeps.execCcReq : Runs s₀ (execCcReq src s) := .next (h.onUnit (fun _ hy => .ite hy.ccStart hy))

theorem Keeps.execCcPeriodExpiry : Runs s₀ (execCcPeriodExpiry t s) := .next (.ite h.at_.onCsp.ccStart h.at_)

theorem Keeps.execCcTimeout : Runs s₀ (execCcTimeout t s) := by
  unfold Machine.execCcTimeout
  refine .next ?_
  split
  · exact .ite h.at_.ccDrop h.at_
  · exact h.at_

theorem Keeps.execPrepare : Runs s₀ (execPrepare cc s) := .next (.ite h.onCsp.onAnc.wantCommit.ancStep h)

theorem Keeps.execPrepared {last : Nat} : Runs s₀ (execPrepared m cc commit last s) := by
  unfold Machine.execPrepared
  refine .next ?_
  split
  · exact .ite (.ancStep (.ccReady (h.upd rfl rfl))) h
  · exact h

theorem Keeps.cspSwitch : Keeps s₀ s.cspSwitch := by
  unfold State.cspSwitch
  extract_lets bad s1
  have h1 : Keeps s₀ s1 := by
    unfold s1
    cases bad
    · exact h
    · exact h.post
  exact .ite h1.cspSleep <| .ite h1.cspWake h1

end

/-! #### `Machine/Cvu` -/

section
variable {s₀ s : State} {n code done st count i k off : Nat} {src : Src} {w : Word} {bs : Bytes} (h : Keeps s₀ s)
include h

theorem Keeps.cvuSet : Keeps s₀ (s.cvuSet n st count) := h.setReg64.setReg64.setReg64

theorem Keeps.cvuAbsorb : Keeps s₀ (s.cvuAbsorb n bs) := h.cvuSet

theorem Keeps.cvuRaise : Keeps s₀ (s.cvuRaise i) := h.setReg.settleIrqAt

theorem Keeps.cvuRefuse : Keeps s₀ (s.cvuRefuse n code) := h.setFld.count.logAt.cvuRaise

theorem Keeps.cvuIdle {act : State → State} (hact : ∀ y, Keeps s₀ y → Keeps s₀ (act y)) : Keeps s₀ (s.cvuIdle n act) :=
  .ite h.cvuRefuse (hact _ h)

theorem Keeps.cvuInit : Keeps s₀ (s.cvuInit n) := h.cvuIdle (fun _ hy => hy.cvuSet.setFld)

theorem Keeps.cvuGo : Keeps s₀ (s.cvuGo n) := h.cvuIdle (fun _ hy => .ite hy.cvuRefuse (.setFld (hy.upd rfl rfl)))

theorem Keeps.cvuTake : KeepsOpt s₀ (s.cvuTake n k) := by
  unfold State.cvuTake
  extract_lets
  refine .ite .none ?_
  split
  · exact .some h.dramRead.cvuAbsorb
  · exact .some h.dramRead

theorem Keeps.cvuEnd : Keeps s₀ (s.cvuEnd n code) :=
  .ite (.cvuRaise (.setFld (.setFld (h.upd rfl rfl)))) <| .cvuRaise (.logAt (.setFld (.setFld (h.upd rfl rfl))))

theorem Keeps.cvuAbort : Keeps s₀ (s.cvuAbort n done) := .ite h <| .cvuEnd (.ite h (h.cvuTake.getD h))

theorem Keeps.cvuData : Keeps s₀ (s.cvuData n w) := h.cvuIdle (fun _ => .cvuAbsorb)

theorem Keeps.cvuCfg : Keeps s₀ (s.cvuCfg n w) := h.cvuIdle (fun _ hy => .ite hy.setReg hy.setReg.cvuSet)

theorem Keeps.cvuContext : Keeps s₀ (s.cvuContext n off w) := h.cvuIdle (fun _ hy => hy.setReg.cvuSet)

theorem Keeps.execCvuInit {n : Fin 8} : Runs s₀ (execCvuInit src n s) := .next (h.onUnit (fun _ => .cvuInit))

theorem Keeps.execCvuGo {n : Fin 8} : Runs s₀ (execCvuGo src n s) := .next (h.onUnit (fun _ => .cvuGo))

theorem Keeps.execCvuAbort {n : Fin 8} : Runs s₀ (execCvuAbort src n done s) := .next (h.onUnit (fun _ => .cvuAbort))

theorem Keeps.execCvuDataWrite {n : Fin 8} : Runs s₀ (execCvuDataWrite src n w s) := .next (h.onUnit (fun _ => .cvuData))

theorem Keeps.execCvuCfgWrite {n : Fin 8} : Runs s₀ (execCvuCfgWrite src n w s) := .next (h.onUnit (fun _ => .cvuCfg))

theorem Keeps.execCvuCountClr : Runs s₀ (execCvuCountClr src s) := .next (h.onUnit (fun _ => .setReg))

theorem Keeps.execCvuTransferDone {n : Fin 8} : Runs s₀ (execCvuTransferDone n s) := by
  refine .next (.ite h ?_)
  split
  case h_1 => exact h
  case h_2 a ha => exact .ite (h.cvuTake a ha).cvuEnd (h.cvuTake a ha)

theorem Keeps.cvuDramReset : Keeps s₀ s.cvuDramReset := h.fold (fun _ _ hy => .ite hy.cvuEnd hy)

theorem Keeps.cvuPowerDown : Keeps s₀ s.cvuPowerDown := .resetRegs (h.upd rfl rfl)

end

/-! #### `Machine/Flash` -/

section
variable {s₀ s : State} {a n a0 a1 : Nat} {rec_ bs : Bytes} {other : Bool} (h : Keeps s₀ s)
include h

theorem Keeps.flashPut : Keeps s₀ (s.flashPut a bs) := h.flash (tabWf_memPut _ _ _ _)

theorem Keeps.flashErase : Keeps s₀ (s.flashErase a n) := h.flash (tabWf_tabDrop _ _ _)

theorem Keeps.sectorPut : Keeps s₀ (s.sectorPut a rec_) := by
  unfold State.sectorPut
  split
  · exact h.flashPut
  · exact h.flashPut

theorem Keeps.flashAppend : Keeps s₀ (s.flashAppend a0 a1 rec_ other) := .ite h.flashErase.sectorPut h.sectorPut

end

/-! #### `Machine/Alm` -/

section
variable {s₀ s : State} {o : Origin} {seq : Word} {id t e st cause fails n : Nat} {pcx report apply stored : Bool} {src : Src}
  {x : Indicator} {carry : Option Nat} {b : Bytes} (h : Keeps s₀ s)
include h

theorem Keeps.almVote : Keeps s₀ s.almVote := h.vote

theorem Keeps.almEnter : Keeps s₀ (s.almEnter st) := h.setFld.almVote

theorem Keeps.almIdentity : Keeps s₀ (s.almIdentity report) := by
  unfold State.almIdentity
  extract_lets s1 s2
  have h2 : Keeps s₀ s2 := by
    unfold s2
    split
    · exact h.setFlag.setFlag.post
    · exact h.setFlag.setFlag
  exact .ite h.setFlag.setFlag <| .ite h2 h2.post

theorem Keeps.almPowerOn : Keeps s₀ s.almPowerOn := by
  unfold State.almPowerOn
  extract_lets b s1 _ s2 s3
  have h2 : Keeps s₀ s2 := h.setReg.setReg.upd rfl rfl
  have h3 : Keeps s₀ s3 := h2.fold fun _ _ => .setReg
  exact h3.almIdentity

theorem Keeps.readChain : Keeps s₀ s.readChain := by
  unfold State.readChain
  extract_lets recs r
  have hr : Keeps s₀ r.1 := h.fold_fst (fun _ _ => .noteRead)
  split
  · exact .raise (.post (.setReg (hr.upd rfl rfl)))
  · exact .setReg (hr.upd rfl rfl)

theorem Keeps.noteHistory : Keeps s₀ s.noteHistory := h.fold (fun _ _ => .noteRead)

theorem Keeps.loadStore : Keeps s₀ (s.loadStore e pcx) := by
  unfold State.loadStore
  extract_lets rec_ _ s1 own one s2
  have hone : ∀ y k, Keeps s₀ y → Keeps s₀ (one y k) := by
    intro y k hy
    unfold one
    split
    · exact .ite hy hy.activateTone
    · exact .ite hy hy.idealTone
  have h1 : Keeps s₀ s1 := .setReg (h.upd rfl rfl)
  have h2 : Keeps s₀ s2 := h1.fold hone
  exact .ite (.raise (h2.clearStage.upd rfl rfl)) h2

theorem Keeps.takeEpoch : Keeps s₀ (s.takeEpoch e cause pcx) := by
  unfold State.takeEpoch
  extract_lets old s1 s2
  have h2 : Keeps s₀ s2 := .ite h.almEvent.submitHist.loadStore h.almEvent.submitHist.loadStore.raise
  exact .ite (h2.upd rfl rfl) (h2.upd rfl rfl)

theorem Keeps.epochLost : Keeps s₀ s.epochLost := h.post.raise.takeEpoch

theorem Keeps.setIndicator : Keeps s₀ (s.setIndicator id x) := h.upd rfl rfl

theorem Keeps.putHead : Keeps s₀ s.putHead := h.upd rfl rfl

theorem Keeps.indPredict : Keeps s₀ (s.indPredict id) := .ite h.setIndicator.post.raise.putHead h.setIndicator.putHead

theorem Keeps.indSample : Keeps s₀ (s.indSample id) := by
  unfold State.indSample
  split
  · exact h
  · extract_lets t s1 s2
    have h2 : Keeps s₀ s2 := .histPut (.indPredict h.setIndicator)
    exact .ite (h2.upd rfl rfl) <| .ite (h2.upd rfl rfl) h2

theorem Keeps.indBaseline : Keeps s₀ s.indBaseline := .fold (h.upd rfl rfl) (fun _ _ hy => .ite hy.setIndicator hy)

theorem Keeps.indReplay : Keeps s₀ s.indReplay :=
  .fold (h.noteHistory.indBaseline.fold (fun _ _ hy => .ite hy.setIndicator hy)) (fun _ _ hy => .ite hy hy.indPredict)

theorem Keeps.almLoaded : Keeps s₀ s.almLoaded := by
  unfold State.almLoaded
  refine .almEnter (.ite h.indReplay.loadStore ?_)
  split
  · exact h.indReplay.loadStore
  · exact h.indReplay.setReg.epochLost

theorem Keeps.almArchive : Keeps s₀ s.almArchive :=
  .ite (.ite h.setFlag.indBaseline.loadStore.almEnter (.ite (.almEnter (h.setFlag.readChain.upd rfl rfl)) h)) <|
    .ite h.setReg.indBaseline.epochLost.almEnter h

theorem Keeps.almMounted : Keeps s₀ s.almMounted := by
  unfold State.almMounted
  extract_lets s1
  have h1 : Keeps s₀ s1 := h.setFlag.readChain.indReplay
  refine .ite ?_ h.almArchive
  split
  · exact h1
  · split
    · exact h1
    · exact h1.epochLost

theorem Keeps.almWake : Keeps s₀ s.almWake := .ite h <| .ite h.almEnter h.almEnter.almArchive

theorem Keeps.almLose : Keeps s₀ s.almLose := h.setFld.setReg.upd rfl rfl

theorem Keeps.almRestart : Keeps s₀ s.almRestart := .ite (h.upd rfl rfl) <| .almEnter (h.upd rfl rfl)

theorem Keeps.runStart : Keeps s₀ (s.runStart fails) := by
  unfold State.runStart
  extract_lets prev s1 _ s2 s3 last
  have h3 : Keeps s₀ s3 := .ite (.post (.setFlag (h.setReg.upd rfl rfl))) <| .setFlag (.flashAppend (h.setReg.upd rfl rfl))
  have hlast : Keeps s₀ last.2 := by
    unfold last
    split
    · exact h3
    · exact h3.freeBytes
  exact .ite h hlast.almEvent.putHead.almEnter.almArchive

theorem Keeps.almBoundary : Keeps s₀ (s.almBoundary n carry) := by
  unfold State.almBoundary
  split
  · extract_lets due ps refuse _ s1 s2
    have hrefuse : ∀ y p, Keeps s₀ y → Keeps s₀ (refuse y p) := by
      intro y p hy
      unfold refuse
      split
      · exact hy.post.answer
      · exact hy.post.pcxRefused
    have h1 : Keeps s₀ s1 := .fold (h.upd rfl rfl) hrefuse
    have h2 : Keeps s₀ s2 := by
      unfold s2
      split
      · exact h1.takeEpoch
      · exact h1.post
    exact h2.showPending
  · extract_lets due ps e _ s1 tell
    have htell : ∀ y p, Keeps s₀ y → Keeps s₀ (tell y p) := by
      intro y p hy
      unfold tell
      split
      · exact hy.answer
      · exact hy
    have h1 : Keeps s₀ s1 := .show (.takeEpoch (h.upd rfl rfl))
    exact .ite h (.showPending (h1.fold htell))

theorem Keeps.execCalRecordAppend : Runs s₀ (execCalRecordAppend o seq s) :=
  .next (h.withRequest (fun _ hy => hy.onUnit (fun _ hz => .ite hz.finish (.ite hz.finish hz.transfer))))

theorem Keeps.takeSubmission : Keeps s₀ (s.takeSubmission o seq apply b) := by
  unfold State.takeSubmission
  extract_lets
  split
  · exact h.finish
  · exact h.upd rfl rfl

theorem Keeps.execCalRecordRead : Runs s₀ (execCalRecordRead o seq s) := by
  unfold Machine.execCalRecordRead
  refine .next (h.withRequest (fun _ hy => hy.onUnit (fun _ hz => ?_)))
  refine .ite hz.show.toHost ?_
  split
  · exact hz.show.toHost
  · exact hz.show.toHost
  · exact hz.finish

theorem Keeps.execTemplateBuildDone : Runs s₀ (execTemplateBuildDone s) :=
  .next (.ite h (.ite (.setFld (.upd rfl rfl (.pcxRefused (.ite h.post h)))) (h.upd rfl rfl)))

theorem Keeps.execPoweredMinute : Runs s₀ (execPoweredMinute stored t s) := by
  unfold Machine.execPoweredMinute
  extract_lets s0 tj stress s1 _ s2 s3
  have h3 : Keeps s₀ s3 := .ite (.setFlag (.flashAppend (h.at_.setReg.upd rfl rfl))) (h.at_.setReg.upd rfl rfl)
  exact .next (.ite h (.ite (h.at_.setReg.upd rfl rfl) (.ite h3.submitHist h3)))

theorem Keeps.execIndicatorSample {id : Fin 64} : Runs s₀ (execIndicatorSample id t s) := .next (.ite h.at_.indSample h.at_)

theorem Keeps.execHistorySubmit : Runs s₀ (execHistorySubmit t s) := .next (.ite h.at_.submitHist h.at_)

theorem Keeps.execFlush : Runs s₀ (execFlush src s) := .next (h.onUnit (fun _ => .submitHist))

theorem Keeps.almCountClr : Keeps s₀ s.almCountClr := h.setFld

theorem Keeps.execAlmCountClr : Runs s₀ (execAlmCountClr src s) := .next (h.onUnit (fun _ => .almCountClr))

theorem Keeps.execAlmSummary : Runs s₀ (execAlmSummary o seq s) :=
  .next (h.withRequest (fun _ hy => hy.onUnit (fun _ hz => hz.show.toHost)))

theorem Keeps.execOscOffsetReport : Runs s₀ (execOscOffsetReport s) := .next (.ite h (h.upd rfl rfl))

end

/-! #### `Machine/Hif` -/

section
variable {s₀ s : State} {n : Fin 256} {o : Origin} {seq : Word} {src : Src} {via : Via} {tail v code w : Nat} {slots : List Bytes}
  {head : Fin 4096} {msix mask : Bool} (h : Keeps s₀ s)
include h

theorem Keeps.doorbell : Keeps s₀ (s.doorbell n tail slots) := .ite h.takeTail (h.upd rfl rfl)

theorem Keeps.execSqTailWrite {tail : Fin 4096} {slots : List (List Byte)} : Runs s₀ (execSqTailWrite n tail slots s) :=
  .next (h.onUnit (fun _ => .doorbell))

theorem Keeps.execCqHeadWrite : Runs s₀ (execCqHeadWrite n head s) := .next (h.onUnit (fun _ => .takeHead))

theorem Keeps.ringDoorbells {bells : List (Nat × Nat)} {slots : List (List Bytes)} : Keeps s₀ (State.ringDoorbells bells slots s) := by
  induction bells generalizing s slots with
  | nil => exact h
  | cons d rest ih => exact ih h.takeTail

theorem Keeps.execBusMasterEnable {slots : List (List (List Byte))} : Runs s₀ (execBusMasterEnable msix mask slots s) :=
  .next (.ite h (.ringDoorbells (.ite (h.upd rfl rfl) (.fold (h.upd rfl rfl) (fun _ _ hy => .ite hy.setReg.signal hy)))))

theorem Keeps.msixUnmask : Keeps s₀ (s.msixUnmask v) := .ite h.setFld.setReg.signal h.setFld

theorem Keeps.execMsixUnmask {v : Fin 64} : Runs s₀ (execMsixUnmask v s) := .next (h.onUnit (fun _ => .msixUnmask))

theorem Keeps.execSessionOpen : Runs s₀ (execSessionOpen o seq s) := by
  unfold Machine.execSessionOpen
  refine .next (h.withRequest (fun _ hy => ?_))
  split
  · exact hy.answer
  · exact hy.openSession.answer

theorem Keeps.sessionResult {v : Via} {n : Nat} : Keeps s₀ (s.sessionResult v code n) := by
  unfold State.sessionResult
  split
  · exact h.post
  · exact h.answer

theorem Keeps.execSessionClose : Runs s₀ (execSessionClose via n s) :=
  .next (h.withRequest (fun _ hy => hy.onUnit (fun _ hz => .ite hz.sessionResult (.ite hz.sessionResult hz.closeSession.sessionResult))))

theorem Keeps.execSessionReopen : Runs s₀ (execSessionReopen via n s) :=
  .next (h.withRequest (fun _ hy => hy.onUnit (fun _ hz => .ite hz.sessionResult hz.reopenSession.sessionResult)))

theorem Keeps.session0Open {n : Nat} : Keeps s₀ (s.session0Open n) := .ite h.post <| .ite h.post h.openSession.post

theorem Keeps.execSession0Open : Runs s₀ (execSession0Open src n s) := .next (h.onUnit (fun _ hy => hy.session0Open))

theorem Keeps.execEcho : Runs s₀ (execEcho o seq s) := .next (h.withRequest (fun _ hy => hy.answer))

theorem Keeps.execUnitStatus : Runs s₀ (execUnitStatus o seq s) := by
  unfold Machine.execUnitStatus
  refine .next (h.withRequest (fun _ hy => ?_))
  refine .ite hy.answer ?_
  split
  · exact hy.answer
  · exact hy.answer

theorem Keeps.execErrorLog : Runs s₀ (execErrorLog o seq s) := by
  refine .next (h.withRequest fun _ hy => ?_)
  dsimp only
  split
  · exact hy.answer
  · exact .ite hy.answer hy.transfer

theorem Keeps.execIdentity : Runs s₀ (execIdentity o seq s) := .next (h.withRequest (fun _ hy => hy.answer))

theorem Keeps.execViolationLog : Runs s₀ (execViolationLog o seq s) := .next (h.withRequest (fun _ => .transfer))

theorem Keeps.vlogWord : Keeps s₀ (s.vlogWord w).1 := .ite_fst (.upd rfl rfl (.ite (h.upd rfl rfl) h)) <| .ite (h.upd rfl rfl) h

theorem Keeps.execVlogRead {w : Fin 4} : Runs s₀ (execVlogRead src w s) := .next (.ite h.logOff.give h.vlogWord.give)

theorem Keeps.vlogClr : Keeps s₀ s.vlogClr := .setFld (h.upd rfl rfl)

theorem Keeps.execVlogClr : Runs s₀ (execVlogClr src s) := .next (h.onUnit (fun _ => .vlogClr))

theorem Keeps.hifCountClr : Keeps s₀ s.hifCountClr := .upd rfl rfl (h.fold (fun _ _ => .setReg))

theorem Keeps.execHifCountClr : Runs s₀ (execHifCountClr src s) := .next (h.onUnit (fun _ => .hifCountClr))

end

/-! #### `Machine/StuCap` -/

section
variable {s₀ s : State} {w seq : Word} {r n : Nat} {v via : Via} {b : StrainBlock} {block : Bytes} {short again : Bool} {o : Origin}
  {src : Src} (h : Keeps s₀ s)
include h

theorem Keeps.tapCap : Keeps s₀ (s.tapCap b r) := .ite h h.awaitFrames.setCap.settleCap

theorem Keeps.tapStrain : Keeps s₀ (s.tapStrain block) := by
  unfold State.tapStrain
  split
  · exact h
  · extract_lets ru s1
    have h1 : Keeps s₀ s1 := .ite (h.fold (fun _ _ => .tapBin)) h
    exact .ite h1 <| .upd rfl rfl (h1.fold (fun _ _ => .tapCap))

theorem Keeps.capClose : Keeps s₀ (s.capClose r short) := by
  unfold State.capClose
  split
  · exact h
  · exact .streamOut (.settleDeads (.setCapSt (.setCap (.ite (.pushRow (.ite h.capFill h.settleCap)) (.ite h.capFill h.settleCap)))))

theorem Keeps.execCapturePostComplete {r : Fin 64} : Runs s₀ (execCapturePostComplete r s) :=
  .next (.ite h.settleCap.capClose h.settleCap)

theorem Keeps.execCaptureDeliveryDone {r : Fin 64} : Runs s₀ (execCaptureDeliveryDone r s) :=
  .next (.ite h h.setCap.setCapSt.raise.settleDeads)

theorem Keeps.capReturn : Keeps s₀ (s.capReturn r again) := .ite h.setCapSt.ownArm h.setCapSt

theorem Keeps.capHoldoff : Keeps s₀ (s.capHoldoff n) := .settleDeads (h.fold (fun _ _ hy => .ite hy.capReturn hy))

theorem Keeps.capLost : Keeps s₀ (s.capLost r) := .raise (.post (.count (h.upd rfl rfl)))

theorem Keeps.stuNewRun : Keeps s₀ s.stuNewRun :=
  .settleDeads (.fold (h.upd rfl rfl) (fun _ _ hy => .ite hy.capEmpty (.ite hy.capLost.capReturn (.ite hy.capReturn hy))))

theorem Keeps.stuStop : Keeps s₀ s.stuStop := .settleDeads (h.fold (fun _ _ hy => .ite hy.capClose (.ite hy.capFill hy)))

theorem Keeps.stuSwitch : Keeps s₀ s.stuSwitch := h.fold (fun _ _ hy => .ite hy.capFill hy)

theorem Keeps.stuRetire : Keeps s₀ s.stuRetire :=
  h.fold (fun _ _ hy => .ite hy.setCapSt (.ite hy.capClose.setCap (.ite hy.setCap hy)))

theorem Keeps.stuLoad : Keeps s₀ (s.stuLoad n) := .fold (h.upd rfl rfl) (fun _ _ hy => .ite hy.setCap.setFld.setFld hy.setCap)

theorem Keeps.stuArmAll : Keeps s₀ s.stuArmAll := h.fold (fun _ _ hy => .ite hy.ownArm hy)

theorem Keeps.stuFresh : Keeps s₀ s.stuFresh := h.upd rfl rfl

omit h in
theorem Keeps.capFinish {x : State × Nat} (h : Keeps s₀ x.1) : Keeps s₀ (State.capFinish v r x) :=
  h.setFld.setFld.settleDeads.finish

theorem Keeps.capArmReq : Keeps s₀ (s.capArmReq v w) := h.capArm.capFinish

theorem Keeps.capDisarmReq : Keeps s₀ (s.capDisarmReq v w) := h.capDisarm.capFinish

theorem Keeps.capTriggerReq : Keeps s₀ (s.capTriggerReq v w) := by
  unfold State.capTriggerReq
  extract_lets
  split
  · exact h.capFinish
  · exact h.capTrigger.capFinish

theorem Keeps.capLengthReq : Keeps s₀ (s.capLengthReq v w) := h.capLength.capFinish

theorem Keeps.execCapArm : Runs s₀ (execCapArm via w s) := .next (h.withRequest (fun _ hy => hy.onUnit (fun _ => .capArmReq)))

theorem Keeps.execCapDisarm : Runs s₀ (execCapDisarm via w s) :=
  .next (h.withRequest (fun _ hy => hy.onUnit (fun _ => .capDisarmReq)))

theorem Keeps.execCapTrigger : Runs s₀ (execCapTrigger via w s) :=
  .next (h.withRequest (fun _ hy => hy.onUnit (fun _ => .capTriggerReq)))

theorem Keeps.execCapSetLength : Runs s₀ (execCapSetLength via w s) :=
  .next (h.withRequest (fun _ hy => hy.onUnit (fun _ => .capLengthReq)))

theorem Keeps.execCapState : Runs s₀ (execCapState o seq s) := .next (h.withRequest (fun _ hy => hy.onUnit (fun _ => .finish)))

theorem Keeps.stuCountClr : Keeps s₀ s.stuCountClr := h.fold (fun _ _ => .setReg)

theorem Keeps.execStuCountClr : Runs s₀ (execStuCountClr src s) := .next (h.onUnit (fun _ => .stuCountClr))

end

/-! #### `Machine/Port` -/

section
variable {s₀ s : State} {e : Fin 16} (h : Keeps s₀ s)
include h

theorem Keeps.goOn {stalled : Stalled} : Keeps s₀ (s.goOn stalled) := by
  unfold State.goOn
  split
  · exact h.settleCap
  · exact h.traceStore

theorem Keeps.portGrants {k n : Nat} : Keeps s₀ (State.portGrants k n s) := by
  induction k generalizing s n with
  | zero => exact h
  | succ k ih =>
    unfold State.portGrants
    extract_lets
    split
    · exact h
    · extract_lets s1
      have h1 : Keeps s₀ s1 := h.upd rfl rfl
      split
      · refine ih (.dmcServe ?_)
        exact h1.upd rfl rfl
      · split
        · exact ih h1.goOn
        · exact h

theorem Keeps.portResume : Keeps s₀ s.portResume := .ite h.portGrants h

theorem Keeps.execSrExit : Runs s₀ (execSrExit s) := .next (.ite h.srLeave.portResume h)

theorem Keeps.execUnretainedFillDone : Runs s₀ (execUnretainedFillDone e s) := .next (.ite h.eighthFilled.portResume h)

theorem Keeps.idle : Keeps s₀ s.idle := h.scrubRead

end

/-! #### `Machine/Dlk` -/

section
variable {s₀ s : State} {a t st cmd detail : Nat} {data fr b old : Bytes} {src : Src} {x : DlkTx} {via v : Via} {f : DlkSt → DlkSt}
  {failed read : Bool} {d : Fin 32} {bytes : List (BitVec 8)} (h : Keeps s₀ s)
include h

theorem Keeps.onDlk : Keeps s₀ (s.onDlk f) := h.upd rfl rfl

theorem Keeps.dlkMod {f : DlkDevSt → DlkDevSt} : Keeps s₀ (s.dlkMod a f) := h.onDlk

theorem Keeps.dlkSend : Keeps s₀ (s.dlkSend fr) := by
  unfold State.dlkSend
  exact h.give.onDlk

theorem Keeps.dlkShow : Keeps s₀ (s.dlkShow a) := by
  unfold State.dlkShow
  extract_lets v b s1
  have h1 : Keeps s₀ s1 := .ite h <| .ite h.setFld <| .raise (.ite h.setFld h.setFld.post)
  split
  · exact h
  · exact .ite h1 <| .almEvent (.raise (.ite h1.setFlag.count h1.setFlag))

theorem Keeps.dlkShowAll : Keeps s₀ s.dlkShowAll := h.fold (fun _ _ => .dlkShow)

theorem Keeps.dlkDerate : Keeps s₀ (s.dlkDerate a) := by
  unfold State.dlkDerate
  split
  · exact h.dlkMod
  · exact h

theorem Keeps.dlkPush : Keeps s₀ (s.dlkPush x) := h.onDlk

theorem Keeps.dlkHostEnd : Keeps s₀ (s.dlkHostEnd v a failed st data) :=
  .finish (.raise (.setFld (.setFld (.setFlag (.setFlag (h.fold (fun _ _ => .setReg)))))))

theorem Keeps.dlkLower : Keeps s₀ (s.dlkLower a cmd data) := by
  unfold State.dlkLower
  split
  · exact h
  · exact .ite h.dlkMod.dlkShow h

theorem Keeps.dlkPump {n : Nat} : Keeps s₀ (State.dlkPump n s) := by
  induction n generalizing s with
  | zero => exact h
  | succ n ih =>
    unfold State.dlkPump
    split
    · refine .ite (ih ?_) h.onDlk.dlkSend.dlkLower.onDlk
      split
      · exact h.onDlk.dlkSend.dlkLower.dlkHostEnd
      · exact h.onDlk.dlkSend.dlkLower
    · exact h

theorem Keeps.dlkRun : Keeps s₀ s.dlkRun := h.dlkPump

theorem Keeps.dlkEnter : Keeps s₀ (s.dlkEnter a) := h.dlkMod.dlkPush.dlkShow

theorem Keeps.dlkVote : Keeps s₀ s.dlkVote := h.vote

theorem Keeps.dlkInit : Keeps s₀ s.dlkInit := by
  unfold State.dlkInit
  extract_lets as s1 s2
  have h2 : Keeps s₀ s2 := h.onDlk.setFld.fold (fun _ _ => .dlkEnter)
  exact .dlkRun (.dlkVote (.ite h2.setFld h2))

theorem Keeps.dlkTried : Keeps s₀ s.dlkTried := .ite h.setFld h

theorem Keeps.dlkStatus : Keeps s₀ (s.dlkStatus a data read) :=
  .ite h <| .dlkDerate (.ite (h.setFld.setFld.setFld.dlkMod.upd rfl rfl) h.setFld.setFld.setFld.dlkMod)

theorem Keeps.dlkAck : Keeps s₀ (s.dlkAck a cmd data) := by
  unfold State.dlkAck
  refine .ite ?_ <| .ite h.dlkMod h
  split
  · exact .ite h.setFld.dlkMod h.setFld
  · exact h.setFld

theorem Keeps.dlkEffect : Keeps s₀ (s.dlkEffect x st data) := by
  unfold State.dlkEffect
  extract_lets ok s1 s2
  have h2 : Keeps s₀ s2 := .ite (.dlkAck (.ite h.dlkStatus h)) <| .ite h.dlkStatus h
  split
  · exact h2.dlkHostEnd
  · split
    · exact h2
    · exact .ite h2.dlkMod <| .ite h2.dlkMod <| .dlkPush (.ite h2.dlkMod h2)
  · exact .ite h2.dlkPush h2
  · exact h2
  · exact h2

theorem Keeps.dlkReceive : Keeps s₀ (s.dlkReceive b) := by
  unfold State.dlkReceive
  split
  · exact h
  · exact .ite h.count <| .ite h <| .dlkRun (.dlkTried (.dlkShow (.ite h.onDlk.dlkMod.dlkEffect.dlkEnter h.onDlk.dlkMod.dlkEffect)))

theorem Keeps.dlkExpire : Keeps s₀ s.dlkExpire := by
  unfold State.dlkExpire
  extract_lets
  split
  · exact h
  · extract_lets entering lost s3 s4 s5
    have h3 : Keeps s₀ s3 := h.count.onDlk.dlkMod
    have h5 : Keeps s₀ s5 := by
      unfold s5
      split
      · exact .dlkHostEnd (.ite h3.count h3)
      · exact .ite h3.count h3
    exact .ite h.count.dlkSend.onDlk h5.dlkShow.dlkTried.dlkRun

theorem Keeps.dlkFault : Keeps s₀ (s.dlkFault detail) :=
  .dlkVote (.raise (.post (.setFlag (.setFld (h.onDlk.fold (fun _ _ => .finish))))))

theorem Keeps.dlkBroadcastSafe : Keeps s₀ s.dlkBroadcastSafe := h.dlkPush.dlkRun

theorem Keeps.dlkSafe : Keeps s₀ s.dlkSafe := .ite h.onDlk.setFld.dlkVote.dlkBroadcastSafe.dlkShowAll <| .ite h.dlkBroadcastSafe h

theorem Keeps.dlkNominals : Keeps s₀ s.dlkNominals := h.fold (fun _ _ hy => .ite hy hy.setFld)

theorem Keeps.dlkLeave : Keeps s₀ s.dlkLeave := by
  unfold State.dlkLeave
  extract_lets as join
  have hjoin : ∀ y, Keeps s₀ y → Keeps s₀ (join y) := fun _ hy => .ite hy hy.onDlk
  refine hjoin _ (h.fold (fun _ _ hy => ?_))
  extract_lets
  split
  · exact hy
  · exact .setReg (.setReg (.setReg (.ite hy.dlkPush hy)))

theorem Keeps.dlkStart : Keeps s₀ s.dlkStart := by
  unfold State.dlkStart
  refine .ite h ?_
  split
  · exact h.post
  · exact h.dlkInit

theorem Keeps.dlkSwitch : Keeps s₀ (s.dlkSwitch old) := by
  unfold State.dlkSwitch
  extract_lets pay changed s0
  have h0 : Keeps s₀ s0 := .ite h.dlkNominals.dlkLeave h
  refine .ite (.ite h0.dlkStart h0) ?_
  split
  · exact .ite h0.post h0.dlkFault
  · exact .ite h0.dlkInit h0.dlkShowAll

theorem Keeps.dlkWake : Keeps s₀ s.dlkWake := .ite h.dlkNominals.dlkStart h

theorem Keeps.dlkLose : Keeps s₀ s.dlkLose := .setFld (h.upd rfl rfl)

theorem Keeps.dlkBoundary : Keeps s₀ s.dlkBoundary :=
  .dlkRun (.dlkShowAll (h.fold (fun _ _ hy => hy.dlkMod.dlkPush.dlkLower.dlkShow)))

theorem Keeps.dlkHost : Keeps s₀ (s.dlkHost via) := .ite h.finish <| .ite h.finish h.setFld.dlkPush.dlkRun

theorem Keeps.execDlkTransact : Runs s₀ (execDlkTransact via s) :=
  .next (h.withRequest (fun _ hy => hy.onUnit (fun _ => .dlkHost)))

theorem Keeps.execSafe : Runs s₀ (execSafe src s) := .next (h.onUnit (fun _ => .dlkSafe))

theorem Keeps.execDlkResume : Runs s₀ (execDlkResume src s) := .next (h.onUnit (fun _ hy => .ite hy.dlkInit hy))

theorem Keeps.execDlkFaultClr : Runs s₀ (execDlkFaultClr src s) := by
  unfold Machine.execDlkFaultClr
  refine .next (h.onUnit (fun _ hy => ?_))
  refine .ite ?_ hy
  split
  · exact hy.post
  · exact hy.show.dlkInit

theorem Keeps.execDlkCountClr : Runs s₀ (execDlkCountClr src s) :=
  .next (h.onUnit (fun _ hy => hy.setReg.fold (fun _ _ hz => .ite hz hz.setReg)))

theorem Keeps.execStatusPoll : Runs s₀ (execStatusPoll d t s) :=
  .next (.ite (.ite h.at_.dlkMod h.at_.dlkMod.dlkPush.dlkRun) h.at_)

theorem Keeps.execPostDiagRead : Runs s₀ (execPostDiagRead t s) :=
  .next (.ite (.dlkRun (h.at_.fold (fun _ _ hy => hy.onDlk.dlkPush))) h.at_)

theorem Keeps.execDlkResponse : Runs s₀ (execDlkResponse bytes t s) := .next h.at_.dlkReceive

theorem Keeps.execDlkResponseTimeout : Runs s₀ (execDlkResponseTimeout t s) := .next (.ite h.at_.dlkExpire h.at_)

end

/-! #### `Machine/Sil` -/

section
variable {s₀ s : State} {via : Via} {t off next slot b n st serial op code detail : Nat} {o : Origin} {seq v : Word}
  {written final : Bool} {bs : Bytes} {f : Option Nat} {src : Src} {mine : Nat → Bool} (h : Keeps s₀ s)
include h

theorem Keeps.pendEnter : Keeps s₀ (s.pendEnter st) := h.setFld

theorem Keeps.dropPending : Keeps s₀ s.dropPending := .setFlag (.setReg (.pendEnter (h.upd rfl rfl)))

theorem Keeps.abortPending : Keeps s₀ s.abortPending := h.dropPending.post

theorem Keeps.silVote : Keeps s₀ s.silVote := h.vote

theorem Keeps.bootSlot : Keeps s₀ (s.bootSlot slot serial) := .pendEnter (h.upd rfl rfl)

theorem Keeps.bankWrite : Keeps s₀ (s.bankWrite b off bs) := h.dramWrite

theorem Keeps.bankRead : Keeps s₀ (s.bankRead b n).1 := h.dramRead

theorem Keeps.silBoot : Keeps s₀ s.silBoot := by
  unfold State.silBoot
  split
  · exact .bootSlot (.ite h h.raise)
  · exact h.startFails

theorem Keeps.imagePhase : Keeps s₀ s.imagePhase := .silBoot (.setPhase (h.upd rfl rfl))

theorem Keeps.switchReq : Keeps s₀ (s.switchReq f).1 := by
  unfold State.switchReq
  extract_lets st a
  refine .ite_fst h <| .ite_fst h ?_
  cases a
  · exact h
  · exact .ite (.setPhase (.pendEnter (h.upd rfl rfl))) (.pendEnter (h.upd rfl rfl))

omit h in
theorem Keeps.silFinish {x : State × Nat × Nat} (h : Keeps s₀ x.1) {v : Via} : Keeps s₀ (State.silFinish v x) := h.finish

theorem Keeps.onSil {act : State → State} (hact : ∀ y, Keeps s₀ y → Keeps s₀ (act y)) : Keeps s₀ (s.onSil via op act) :=
  h.withRequest (fun _ hy => hy.onUnit hact)

theorem Keeps.switchNext : Keeps s₀ (s.switchNext via) := h.switchReq.silFinish

theorem Keeps.execSwitchNext : Runs s₀ (execSwitchNext via t s) := .next (h.at_.onSil (fun _ hy => .ite hy.switchNext hy))

theorem Keeps.switchAt : Keeps s₀ (s.switchAt via) := h.switchReq.silFinish

theorem Keeps.execSwitchAt : Runs s₀ (execSwitchAt via t s) := .next (h.at_.onSil (fun _ hy => .ite hy.switchAt hy))

theorem Keeps.unarm : Keeps s₀ s.unarm := h.upd rfl rfl

theorem Keeps.disarm : Keeps s₀ (s.disarm via next) :=
  .ite (.ite h.finish (.finish (.ite h.unarm.pendEnter h.unarm))) <| .ite h.finish h.finish

theorem Keeps.execImageDisarm : Runs s₀ (execImageDisarm via next t s) := .next (h.at_.onSil (fun _ => .disarm))

theorem Keeps.imageAbort : Keeps s₀ (s.imageAbort via next) :=
  .ite h.finish <| .ite h.finish <| .ite h.unarm.abortPending.reply.startFails h.unarm.abortPending.reply

theorem Keeps.execImageAbort : Runs s₀ (execImageAbort via next t s) := .next (h.at_.onSil (fun _ => .imageAbort))

theorem Keeps.execImageState : Runs s₀ (execImageState o seq s) := .next (h.onSil (fun _ hy => hy.answer))

theorem Keeps.lockClr : Keeps s₀ s.lockClr := h.setReg

theorem Keeps.execLockClr : Runs s₀ (execLockClr src s) := .next (h.onUnit (fun _ => .lockClr))

theorem Keeps.execImageBegin : Runs s₀ (execImageBegin o seq s) :=
  .next (h.onSil (fun _ hy => .ite hy.finish (.ite hy.finish (.finish (.pendEnter (hy.dropPending.upd rfl rfl))))))

theorem Keeps.execImageChunk : Runs s₀ (execImageChunk o seq s) :=
  .next (h.onSil (fun _ hy => .ite hy.finish (.ite hy.finish hy.transfer)))

theorem Keeps.clearBank : Keeps s₀ s.clearBank := .ite (.bankWrite (h.upd rfl rfl)) h

theorem Keeps.takeChunk {b : Bytes} : Keeps s₀ (s.takeChunk off final b) :=
  .ite h <| .ite h.clearBank.bankWrite.pendEnter h.clearBank.bankWrite

theorem Keeps.chunkLost : Keeps s₀ (s.chunkLost off n) := h.freeBytes.takeChunk

theorem Keeps.execBootImageLoad : Runs s₀ (execBootImageLoad t s) :=
  .next (.ite h.at_ (h.at_.withDram (fun _ hy => .pendEnter (hy.bankWrite.upd rfl rfl))))

theorem Keeps.checksFail : Keeps s₀ (s.checksFail code detail) := by
  unfold State.checksFail
  extract_lets s1
  have h1 : Keeps s₀ s1 := .raise (.post (.dropPending (.ite h.post h)))
  exact .ite h1.silBoot h1

theorem Keeps.persistSlot : Keeps s₀ (s.persistSlot slot written) :=
  .ite (.flashPut (.flashErase (h.upd rfl rfl))) <| .flashPut (.freeBytes (.flashErase (h.upd rfl rfl)))

theorem Keeps.checksPass : Keeps s₀ (s.checksPass slot) :=
  .ite (.switchReq (.raise (.show (.setFlag (.setReg (.pendEnter (h.upd rfl rfl))))))) <|
    .raise (.show (.setFlag (.setReg (.pendEnter (h.upd rfl rfl)))))

theorem Keeps.checkPending : Keeps s₀ (s.checkPending written) := by
  unfold State.checkPending
  split
  · exact h.checksFail
  · exact .ite (.checksFail (.ite h.persistSlot h)) <| .checksPass (.ite h.persistSlot h)

theorem Keeps.execImageChecksComplete : Runs s₀ (execImageChecksComplete written t s) := by
  unfold Machine.execImageChecksComplete
  refine .next (.ite h.at_ (h.at_.withDram (fun _ hy => ?_)))
  extract_lets
  split
  · exact hy.bankRead
  · exact .checkPending (hy.bankRead.upd rfl rfl)

theorem Keeps.execPointerRecordAppend : Runs s₀ (execPointerRecordAppend s) :=
  .next (.ite h (.setFlag (h.flashAppend.upd rfl rfl)))

theorem Keeps.drainDone : Keeps s₀ s.drainDone := .fold (.setEng (.mrsReload (h.upd rfl rfl))) (fun _ _ => .setEng)

theorem Keeps.execHeavySwitchDrainDone : Runs s₀ (execHeavySwitchDrainDone t s) := .next (.ite h.at_.drainDone h.at_)

theorem Keeps.execActiveCopyRewriteDone : Runs s₀ (execActiveCopyRewriteDone s) :=
  .next (.ite h (h.withDram (fun _ hy => .silVote (.setFlag (hy.bankWrite.upd rfl rfl)))))

theorem Keeps.putRwl : Keeps s₀ (s.putRwl off v) := by
  unfold State.putRwl
  split
  · exact h.setReg
  · exact h

theorem Keeps.putSection : Keeps s₀ (s.putSection off v) := by
  unfold State.putSection
  split
  · exact h.setReg
  · exact h

theorem Keeps.restoreSections : Keeps s₀ (s.restoreSections mine) := h.fold (fun _ _ => .putSection)

theorem Keeps.silKeep : Keeps s₀ s.silKeep := .ite h.abortPending <| .ite (.pendEnter (h.upd rfl rfl)) h

end

/-! #### `Machine/TtuCh` -/

section
variable {s₀ s : State} {c u stamp t mask arg instant q off : Nat} {src : Src} {falling gap gate n ungated on ok : Bool} {v : Int}
  {w : Word} {f : TtuChan → TtuChan} {l : List Word} {e : Nat × Bool} {hd : Fin 4} {edges : List (Nat × Bool)} {old : State}
  (h : Keeps s₀ s)
include h

theorem Keeps.modChan : Keeps s₀ (s.modChan c f) := h.upd rfl rfl

theorem Keeps.modIu {f : TtuUnit → TtuUnit} : Keeps s₀ (s.modIu u f) := h.upd rfl rfl

theorem Keeps.chanFill : Keeps s₀ (s.chanFill c) := h.setFld

theorem Keeps.iuFill : Keeps s₀ (s.iuFill u) := h.setFld

theorem Keeps.latchResult : Keeps s₀ (s.latchResult u l) := .setFlag (h.fold (fun _ _ => .setReg))

theorem Keeps.iuDone : Keeps s₀ (s.iuDone u) := .raise (.ite h.modIu.modIu h.modIu.latchResult)

theorem Keeps.iuQueue : Keeps s₀ (s.iuQueue u v gap) := .ite h <| .ite h.modIu.count.post.raise h.modIu.iuFill

theorem Keeps.iuEmit : Keeps s₀ (s.iuEmit u v) := by
  unfold State.iuEmit
  extract_lets x s1 s2
  have h2 : Keeps s₀ s2 := .ite h.iuQueue.modIu.post <| .ite h.iuQueue.modIu.post h.iuQueue.modIu
  exact .ite h2.modIu <| .ite h2.modIu.modIu.iuDone h2.modIu.modIu

theorem Keeps.iuPair {k : Nat} : Keeps s₀ (State.iuPair u k s) := by
  induction k generalizing s with
  | zero => exact h
  | succ k ih =>
    unfold State.iuPair
    split
    · exact ih h.modIu.iuEmit
    · exact h

theorem Keeps.iuDisarm : Keeps s₀ (s.iuDisarm c) := h.fold (fun _ _ hy => .ite hy.modIu hy)

theorem Keeps.iuExpire : Keeps s₀ (s.iuExpire u stamp) := .ite h h.modIu.count.post

theorem Keeps.iuStamp : Keeps s₀ (s.iuStamp u c stamp gap) := by
  unfold State.iuStamp
  extract_lets start stop s1 s2 last
  have h2 : Keeps s₀ s2 := .ite h.iuExpire.modIu h.iuExpire
  refine .ite h <| .ite h.iuExpire <| .ite ?_ <| .ite h2.modIu h2.modIu.iuPair
  cases last
  · exact h2.modIu
  · exact h2.modIu.iuEmit

theorem Keeps.showArmed : Keeps s₀ (s.showArmed c stamp gate) := h.setFlag

theorem Keeps.chanQueue : Keeps s₀ (s.chanQueue c stamp falling) := .ite h <| .ite h.modChan.count.post.raise h.modChan.chanFill

theorem Keeps.chanStamp : Keeps s₀ (s.chanStamp c stamp falling) := h.modChan.setReg.chanQueue.fold (fun _ _ => .iuStamp)

theorem Keeps.chanGap : Keeps s₀ (s.chanGap c) := h.modChan

theorem Keeps.slotSettle : Keeps s₀ (s.slotSettle c stamp) := by
  unfold State.slotSettle
  split
  · exact .ite h.modChan.chanGap.iuDisarm h
  · exact h

theorem Keeps.evLevel : Keeps s₀ (s.evLevel c falling stamp) := h.setFlag.modChan

theorem Keeps.execEvEdge {c : Fin 4} : Runs s₀ (execEvEdge c falling stamp gate ungated s) := by
  unfold Machine.execEvEdge
  extract_lets s0 s1 s2
  have h0 : Keeps s₀ s0 := h.at_.evLevel.slotSettle
  have h2 : Keeps s₀ s2 := .ite h0.showArmed.chanGap.iuDisarm h0.showArmed
  refine .next (.ite h0.chanGap (.ite (.ite h0 h0.chanGap.modChan.setFlag.showArmed) (.ite h2.chanGap (.ite h2 ?_))))
  split
  · exact .ite h2.count h2.chanStamp
  · exact h2.chanStamp

theorem Keeps.execStuck {c : Fin 4} : Runs s₀ (execStuck c t s) :=
  .next (.ite h.at_ h.at_.chanGap.modChan.iuDisarm.setFlag.setFlag.count.post.raise)

theorem Keeps.hfEdge : Keeps s₀ (State.hfEdge c s e) :=
  .ite h.modChan <| .ite h.modChan.slotSettle.showArmed.chanStamp h.modChan.slotSettle.showArmed.chanGap

theorem Keeps.execHfWindow : Runs s₀ (execHfWindow hd edges t s) :=
  .next (.ite h.at_.chanGap (.ite h.at_.setReg.setFlag.modChan.chanGap.count.post.raise (h.at_.setReg.setFlag.fold (fun _ _ => .hfEdge))))

theorem Keeps.slotArm : Keeps s₀ (s.slotArm c on stamp) := .ite h.modChan.slotSettle.showArmed h.modChan.slotSettle

theorem Keeps.ttuArmWrite : Keeps s₀ (s.ttuArmWrite mask) :=
  h.fold (fun _ _ hy => .ite (.slotArm (.ite hy.slotArm hy)) (.ite hy.slotArm hy))

theorem Keeps.execTtuArm {mask : Word} : Runs s₀ (execTtuArm src mask s) := .next (h.onUnit (fun _ => .ttuArmWrite))

theorem Keeps.ttuNotify : Keeps s₀ (s.ttuNotify arg instant) := .ite h.slotArm <| .ite h.slotArm <| .ite h.modIu h.post

theorem Keeps.execTdcCalibration {c : Fin 8} : Runs s₀ (execTdcCalibration c ok s) :=
  .next (.ite h (.ite h.modChan.showArmed h.modChan.post.raise))

theorem Keeps.ttuCoreStop : Keeps s₀ s.ttuCoreStop := h.fold (fun _ _ hy => hy.chanGap.modChan.setFlag)

theorem Keeps.ttuCoreLost : Keeps s₀ s.ttuCoreLost := .fold (.fold (h.upd rfl rfl) (fun _ _ => .chanFill)) (fun _ _ => .iuFill)

theorem Keeps.queueWord {w : Nat} : Keeps s₀ (s.queueWord q w).1 := .ite_fst h.modChan.chanFill h.modIu.iuFill

theorem Keeps.execStampQueueRead {q : Fin 12} {w : Fin 3} : Runs s₀ (execStampQueueRead src q w s) :=
  .next (.ite h.logOff.give h.queueWord.give)

theorem Keeps.chanCfgWritten : Keeps s₀ (s.chanCfgWritten old c) := .showArmed (.ite h.chanGap.iuDisarm h)

theorem Keeps.iuCfgWrite : Keeps s₀ (s.iuCfgWrite u n w) := .ite h.post h.setReg.modIu

theorem Keeps.execIuCfgWrite {u : Fin 4} : Runs s₀ (execIuCfgWrite src u n w s) := .next (h.onUnit (fun _ => .iuCfgWrite))

theorem Keeps.iuMeanRead : Keeps s₀ (s.iuMeanRead u) := h.setFlag

theorem Keeps.iuCountRead : Keeps s₀ (s.iuCountRead u) := by
  unfold State.iuCountRead
  extract_lets
  split
  · exact h.setFlag.setFlag.modIu.latchResult
  · exact h.setFlag.setFlag

theorem Keeps.ttuRead {act : State → State} (hact : ∀ y, Keeps s₀ y → Keeps s₀ (act y)) : Keeps s₀ (s.ttuRead src off act) :=
  .ite h.logOff.give <| .give (hact _ h)

theorem Keeps.execIuMeanRead {u : Fin 4} : Runs s₀ (execIuMeanRead src u s) := .next (h.ttuRead (fun _ => .iuMeanRead))

theorem Keeps.execIuCountRead {u : Fin 4} : Runs s₀ (execIuCountRead src u s) := .next (h.ttuRead (fun _ => .iuCountRead))

theorem Keeps.execIuWindowExpiry {u : Fin 4} : Runs s₀ (execIuWindowExpiry u stamp s) := .next (.ite h h.iuExpire)

end

/-! #### `Machine/Vpf` -/

section
variable {s₀ s : State} {t c st detail n launch flags arg d : Nat} {src : Src} {x : VpfRes} {code : Int} {open_ b cut : Bool}
  {w raw aux : Word} {f : VpfSt → VpfSt} {header : Bytes} {value : Option Float} {offsets gains : List Int} (h : Keeps s₀ s)
include h

theorem Keeps.onVpf : Keeps s₀ (s.onVpf f) := h.upd rfl rfl

theorem Keeps.vpfVote : Keeps s₀ s.vpfVote := .repower (h.castVote.fold (fun _ _ => .castVote))

theorem Keeps.vpfEnter : Keeps s₀ (s.vpfEnter st) := h.setFld.vpfVote

theorem Keeps.vpfFault {code : Nat} : Keeps s₀ (s.vpfFault code detail) := h.vpfEnter.post.raise

theorem Keeps.setMains : Keeps s₀ (s.setMains b) := .ite h h.setFlag.raise

theorem Keeps.mainsAge : Keeps s₀ (s.mainsAge t) := by
  unfold State.mainsAge
  split
  · exact .ite h.onVpf.setMains h
  · exact h

theorem Keeps.execMainsSyncEdge : Runs s₀ (execMainsSyncEdge t s) := by
  unfold Machine.execMainsSyncEdge
  refine .next (.ite h.at_.mainsAge ?_)
  split
  · exact h.at_.mainsAge.onVpf
  · exact .ite h.at_.mainsAge.onVpf h.at_.mainsAge.onVpf.setFld.setMains

theorem Keeps.execMainsTimeout : Runs s₀ (execMainsTimeout t s) := .next h.at_.mainsAge

theorem Keeps.vpfBegin : Keeps s₀ (s.vpfBegin c t) := h.onVpf.setFld

theorem Keeps.vpfScan : Keeps s₀ (s.vpfScan t) := by
  unfold State.vpfScan
  split
  · exact h.vpfEnter.onVpf.vpfBegin
  · exact h.vpfEnter

theorem Keeps.vpfFollow : Keeps s₀ (s.vpfFollow c t) := by
  unfold State.vpfFollow
  refine .ite h.onVpf.onVpf.vpfEnter ?_
  split
  · exact h.onVpf.vpfBegin
  · refine .ite h.onVpf ?_
    split
    · exact h.onVpf.vpfBegin
    · exact h.onVpf.vpfEnter

theorem Keeps.vpfFrame : Keeps s₀ (s.vpfFrame n launch header) := by
  unfold State.vpfFrame
  exact h.onVpf

theorem Keeps.vpfDeliver : Keeps s₀ (s.vpfDeliver x flags value raw aux t) := by
  unfold State.vpfDeliver
  extract_lets c bad fl val seq st curve entry s1 s2 tile at_ n a _ s3 s4 s5
  have h2 : Keeps s₀ s2 := .ite h.onVpf h.onVpf.setReg.setReg.setReg.setReg
  have h5 : Keeps s₀ s5 := .fold (.ite (.streamOut (.ite (h2.setEmem.setEmem.upd rfl rfl) h2)) (.ite (h2.setEmem.setEmem.upd rfl rfl) h2))
      (fun _ _ hy => .ite hy.post hy)
  exact .ite h5.raise h5.raise.raise

theorem Keeps.vpfFinish : Keeps s₀ (s.vpfFinish x cut t) :=
  .vpfFollow (.ite (.ite (h.vpfDeliver.upd rfl rfl) h.vpfDeliver) (.ite h.vpfDeliver.onVpf h.vpfDeliver))

theorem Keeps.vpfDiscard : Keeps s₀ s.vpfDiscard := h.count

theorem Keeps.vpfConvert : Keeps s₀ (s.vpfConvert x code open_ t) :=
  .ite h.vpfDiscard.onVpf <| .ite h.vpfDiscard.onVpf <| .ite h.vpfDiscard.vpfFinish <| .ite h.onVpf <| .ite h.onVpf h.vpfFinish

theorem Keeps.execVpfConversion : Runs s₀ (execVpfConversion code open_ t s) := by
  unfold Machine.execVpfConversion
  refine .next (.ite h.at_ ?_)
  split
  · exact h.at_
  · exact h.at_.onVpf.vpfConvert

theorem Keeps.vpfExcWrite : Keeps s₀ (s.vpfExcWrite c w t) := by
  unfold State.vpfExcWrite
  extract_lets
  refine .ite h.post ?_
  split
  · exact .ite h.setFld.onVpf h.setFld
  · exact h.setFld

theorem Keeps.execVpfExcWrite {c : Fin 8} : Runs s₀ (execVpfExcWrite src c w t s) := .next (h.at_.onUnit (fun _ => .vpfExcWrite))

theorem Keeps.vpfRecheck : Keeps s₀ (s.vpfRecheck t) := by
  unfold State.vpfRecheck
  split
  · exact h.vpfFault
  · exact h.vpfScan

theorem Keeps.vpfPause : Keeps s₀ s.vpfPause := .ite h.onVpf h

theorem Keeps.vpfResume : Keeps s₀ s.vpfResume := .ite h.vpfScan h

theorem Keeps.vpfCalReq : Keeps s₀ s.vpfCalReq := .ite h <| .ite h.post h.vpfEnter

theorem Keeps.vpfFaultClr : Keeps s₀ s.vpfFaultClr := .ite h.post <| .ite h.vpfEnter.show h

theorem Keeps.execPause : Runs s₀ (execPause src s) := .next (h.onUnit (fun _ => .vpfPause))

theorem Keeps.execVpfResume : Runs s₀ (execVpfResume src s) := .next (h.onUnit (fun _ => .vpfResume))

theorem Keeps.execVpfCalReq : Runs s₀ (execVpfCalReq src s) := .next (h.onUnit (fun _ => .vpfCalReq))

theorem Keeps.execVpfFaultClr : Runs s₀ (execVpfFaultClr src s) := .next (h.onUnit (fun _ => .vpfFaultClr))

theorem Keeps.execVpfCountClr : Runs s₀ (execVpfCountClr src s) := .next (h.onUnit (fun _ => .setReg))

theorem Keeps.execVpfCalibrationDone : Runs s₀ (execVpfCalibrationDone offsets gains t s) :=
  .next (.ite h.at_ (.ite h.at_.raise.vpfRecheck h.at_.vpfFault))

theorem Keeps.vpfNotify : Keeps s₀ (s.vpfNotify arg t) := .ite h.onVpf h.post

theorem Keeps.vpfRingEmpty : Keeps s₀ s.vpfRingEmpty := .ite h.onVpf.setEmem h.onVpf

theorem Keeps.vpfRingWake : Keeps s₀ (s.vpfRingWake d) := .ite h.vpfRingEmpty h

theorem Keeps.vpfAbandon : Keeps s₀ s.vpfAbandon := .ite h.onVpf.vpfDiscard h

theorem Keeps.vpfSwitch : Keeps s₀ (s.vpfSwitch t) := by
  unfold State.vpfSwitch
  extract_lets s0
  have h0 : Keeps s₀ s0 := h.vpfRingEmpty.onVpf
  refine .ite h0.vpfVote ?_
  split
  · split
    · exact h0.post
    · exact h0
  · refine .ite h0.vpfAbandon.vpfRecheck <| .ite ?_ h0
    split
    · exact h0.vpfFault
    · exact h0.vpfEnter

theorem Keeps.vpfWake : Keeps s₀ s.vpfWake := .ite h.vpfEnter h

theorem Keeps.vpfSleep : Keeps s₀ s.vpfSleep := h.onVpf.setFld

theorem Keeps.vpfPowerDown : Keeps s₀ s.vpfPowerDown := h.onVpf.setFld.setFld

end

/-! #### `Machine/Slots` -/

section
variable {s₀ s : State} {ref : SlotRef} {n : Nat} {high : Bool} {r : SlotRun} (h : Keeps s₀ s)
include h

theorem Keeps.driveGpio : Keeps s₀ (s.driveGpio n high) := .ite h (h.upd rfl rfl)

theorem Keeps.notifyUnit : Keeps s₀ (s.notifyUnit r) := .ite (.ite h.ttuNotify h) <| .ite (.ite h.vpfNotify h) h

theorem Keeps.execNotify : Runs s₀ (execNotify ref s) := .next (h.runSlot (fun _ _ => .notifyUnit))

theorem Keeps.execGpioSet : Runs s₀ (execGpioSet ref s) := .next (h.runSlot (fun _ _ => .driveGpio))

theorem Keeps.execGpioClear : Runs s₀ (execGpioClear ref s) := .next (h.runSlot (fun _ _ => .driveGpio))

theorem Keeps.execDecision : Runs s₀ (execDecision ref s) := .next (h.runSlot (fun _ _ hy => hy.decide_))

theorem Keeps.execCaptureOpen : Runs s₀ (execCaptureOpen ref s) := by
  unfold Machine.execCaptureOpen
  refine .next (h.runSlot (fun _ _ hy => ?_))
  refine .ite hy ?_
  split
  · exact hy.ownTrigger
  · exact hy

theorem Keeps.execTimer : Runs s₀ (execTimer ref s) := .next (h.runSlot (fun _ _ hy => hy.tickTimers))

theorem Keeps.execSlotDoorbell : Runs s₀ (execSlotDoorbell ref s) := by
  unfold Machine.execSlotDoorbell
  refine .next (h.runSlot (fun _ _ hy => ?_))
  split
  · exact hy.pendGroup
  · exact hy

end

/-! #### `Machine/Start` -/

section
variable {s₀ s : State} {t i detail : Nat} {src : Src} {via : Via} {g : Group} {u : Machine.Unit} {old : State} {mafe : Bool}
  {offsets skews : List Int} {img : Bytes} {fails : Fin 3} {id : List (Nat × NandAnswer)} (h : Keeps s₀ s)
include h

theorem Keeps.refuseStart : Keeps s₀ (s.refuseStart u detail) := h.post.acqFault

theorem Keeps.startChecks : Keeps s₀ s.startChecks := by
  unfold State.startChecks
  split
  · exact h.upd rfl rfl
  · exact h.logAt.acqFault
  · exact h.pguFault.acqFault
  · exact h.refuseStart

theorem Keeps.tryStart : Keeps s₀ s.tryStart := by
  unfold State.tryStart
  refine .ite h ?_
  split
  · exact h.acqFault
  · exact .ite (h.upd rfl rfl) <| .ite h h.startChecks

theorem Keeps.thenStart : Keeps s₀ (s.thenStart old) := .ite h <| .ite h.tryStart <| .tryStart (h.upd rfl rfl)

theorem Keeps.acqStart : Keeps s₀ (s.acqStart via) :=
  .ite h.finish <| .ite h.finish <| .ite h.finish <| .tryStart (.meridian (h.setFld.finish.upd rfl rfl))

theorem Keeps.acqStop : Keeps s₀ (s.acqStop via) :=
  .ite (.meridian (h.finish.stoppedNow.upd rfl rfl)) <| .ite (h.finish.upd rfl rfl) h.finish

theorem Keeps.execAcqStart : Runs s₀ (execAcqStart via t s) :=
  .next (h.at_.withRequest (fun _ hy => hy.onUnit (fun _ => .acqStart)))

theorem Keeps.execAcqStop : Runs s₀ (execAcqStop via t s) := .next (h.at_.withRequest (fun _ hy => hy.onUnit (fun _ => .acqStop)))

theorem Keeps.unitsRest : Keeps s₀ s.unitsRest :=
  .tceStop (.ite (.setFld (.ite h.pcxStopped.setFld h.pcxStopped)) (.ite h.pcxStopped.setFld h.pcxStopped))

theorem Keeps.acqStopped : Keeps s₀ s.acqStopped := h.stoppedNow.unitsRest.meridian

theorem Keeps.execAcquisitionStopped : Runs s₀ (execAcquisitionStopped t s) := .next (.ite h.at_.acqStopped h.at_)

theorem Keeps.resumeGroups : Keeps s₀ s.resumeGroups := by
  unfold State.resumeGroups
  refine .thenStart (h.fold (fun _ _ hy => ?_))
  extract_lets st b
  have hb : Keeps s₀ b := .ite hy.startGroup (hy.fold (fun _ _ hz => .ite hz.setEng hz))
  exact .ite hb.clearLoad hb

theorem Keeps.execResume : Runs s₀ (execResume src s) := .next (h.onUnit (fun _ => .resumeGroups))

theorem Keeps.execPdacPllLock : Runs s₀ (execPdacPllLock t s) := .next (.ite h.at_ h.at_.pguLock.fafeWake.thenStart)

theorem Keeps.execPllUnlock : Runs s₀ (execPllUnlock t s) := .next (.ite h.at_ h.at_.pguUnlock.fafeUnlock.thenStart)

theorem Keeps.execAdcCalibrationDone : Runs s₀ (execAdcCalibrationDone mafe offsets skews t s) :=
  .next (.ite h.at_.adcCalDone.thenStart h.at_)

theorem Keeps.execPcxFaultClr : Runs s₀ (execPcxFaultClr src s) := .next (h.onUnit (fun _ hy => hy.pcxFaultClr.thenStart))

theorem Keeps.execZntFaultClr : Runs s₀ (execZntFaultClr src s) := .next (h.onUnit (fun _ hy => hy.blkFaultClr.thenStart))

theorem Keeps.execStuFaultClr : Runs s₀ (execStuFaultClr src s) := .next (h.onUnit (fun _ hy => hy.blkFaultClr.thenStart))

theorem Keeps.execTceFaultClr : Runs s₀ (execTceFaultClr src s) := .next (h.onUnit (fun _ hy => hy.blkFaultClr.thenStart))

theorem Keeps.groupLoaded : Keeps s₀ (s.groupLoaded img i g) :=
  .ite (.clearLoad (.startGroup (h.writeGroup.initGroup.setEng.upd rfl rfl))) (h.writeGroup.initGroup.setEng.upd rfl rfl)

theorem Keeps.loadGroup : Keeps s₀ (s.loadGroup i g) := by
  unfold State.loadGroup
  refine h.withDram (fun _ hy => ?_)
  extract_lets
  split
  · exact hy.bankRead
  · exact hy.bankRead.groupLoaded.thenStart

theorem Keeps.execEngineLoadComplete {g : Fin 64} : Runs s₀ (execEngineLoadComplete g t s) := by
  unfold Machine.execEngineLoadComplete
  refine .next ?_
  split
  · exact .ite h.at_.loadGroup h.at_
  · exact h.at_

theorem Keeps.execRunRecordStored : Runs s₀ (execRunRecordStored fails t s) := .next h.at_.runStart.thenStart

theorem Keeps.execEpochLoadComplete : Runs s₀ (execEpochLoadComplete t s) := .next (.ite h.at_.almLoaded.thenStart h.at_)

theorem Keeps.zoneReplay : Keeps s₀ s.zoneReplay :=
  .ite h <| .meridianNow (.upd rfl rfl (h.fold (fun _ _ hy => .ite hy.noteRead.applyChange hy.noteRead)))

theorem Keeps.execAncMount : Runs s₀ (execAncMount id t s) := by
  unfold Machine.execAncMount
  refine .next (.ite h.at_ (.thenStart (.almMounted (.zoneReplay ?_))))
  split
  · exact h.at_.ancFault
  · exact h.at_.setGeometry.mountTables

theorem Keeps.execCommitInForce : Runs s₀ (execCommitInForce t s) := .next (.ite h.at_.commitInForce.ancStep h.at_)

theorem Keeps.execReferenceComparison : Runs s₀ (execReferenceComparison t s) := .next (.ite h.at_.onVpf.vpfBegin h.at_)

end

/-! #### `Machine/PowerStep` -/

section
variable {s₀ s : State} {d t from_ l : Nat} {st : Fld} {keep : Bool} (h : Keeps s₀ s)
include h

omit h in
/-- An entry that is kept only where it differs from its reset value. -/
theorem eq_of_unlessReset {off : Nat} {v : Word} {entry : Nat × Word}
    (he : (if v = resetWord off then none else some (off, v)) = some entry) : entry.1 = off ∧ entry.2 ≠ resetWord entry.1 := by
  split at he
  · cases he
  · cases he
    exact ⟨rfl, ‹_›⟩

theorem Keeps.loseRegs : Keeps s₀ (s.loseRegs d) := by
  refine .regs (tabWf_filterMap _ _ (fun entry entry' he => ?_) _) h
  split at he
  · cases he
    exact ⟨rfl, id⟩
  · exact (eq_of_unlessReset he).imp_right fun hne _ => hne

theorem Keeps.loseDmcRegs : Keeps s₀ s.loseDmcRegs := by
  refine .regs (tabWf_filterMap _ _ (fun entry entry' he => ?_) _) h
  split at he
  · cases he
    exact ⟨rfl, id⟩
  · exact (eq_of_unlessReset he).imp_right fun hne _ => hne

/-- Logs that are dropped read as empty. -/
theorem Keeps.filterLogs {p : Nat × UnitLog → Bool} : Keeps s₀ { s with logs := s.logs.filter p } := by
  refine .logs (fun hs => ?_) h
  simp only [State.logsWf, Bool.and_eq_true] at hs ⊢
  obtain ⟨hwf, hlen⟩ := hs
  exact ⟨tabWfFrom_filter _ p _ _ hwf, List.all_eq_true.mpr fun e he => List.all_eq_true.mp hlen e (List.mem_filter.mp he).1⟩

theorem Keeps.loseLogs : Keeps s₀ (s.loseLogs d) := h.filterLogs

theorem Keeps.unitOff : Keeps s₀ (s.unitOff st) := .ite h.setFld h

theorem Keeps.geaDoze : Keeps s₀ (s.geaDoze t) := h.fold (fun _ _ hy => .ite hy hy.setEng)

theorem Keeps.dozeDomain : Keeps s₀ (s.dozeDomain d) := by
  unfold State.dozeDomain
  split
  · exact h.ttuCoreStop.unitOff.unitOff.unitOff
  · exact h.geaDoze.thermTile
  · exact h.geaDoze.thermTile
  · exact h.geaDoze.thermTile
  · exact h.geaDoze.thermTile
  · exact h.pguPowerDown.unitOff
  · exact h.thermLost
  · exact h.vpfSleep
  · exact h.cspSleep
  · exact h

theorem Keeps.loseDomain : Keeps s₀ (s.loseDomain d keep) := by
  unfold State.loseDomain
  extract_lets a _ _ _ _ _ _ s1
  have h1 : Keeps s₀ s1 := by
    unfold s1
    split
    · exact h.silKeep.ttuCoreLost.tceLose.dlkLose.cvuPowerDown.almLose.upd rfl rfl
    · exact h.geaLose.thermTile
    · exact h.geaLose.thermTile
    · exact h.geaLose.thermTile
    · exact h.geaLose.thermTile
    · exact h.pguPowerDown.pcxWithdraw.upd rfl rfl
    · exact h.thermLost
    · exact h.vpfPowerDown
    · exact .ite (h.upd rfl rfl) (h.dram fun _ => rfl)
    · exact h.ancPowerDown
    · exact h.cspSleep
    · exact h
  exact .loseLogs (.ite h1.loseDmcRegs h1.loseRegs)

theorem Keeps.pcxReload : Keeps s₀ s.pcxReload := by
  unfold State.pcxReload
  refine h.fold (fun _ _ hy => ?_)
  split
  · exact hy.activateTone
  · exact hy.idealTone

theorem Keeps.copyRead : Keeps s₀ s.copyRead := .ite h.bankRead h

theorem Keeps.restoreDomain : Keeps s₀ (s.restoreDomain d from_) := by
  unfold State.restoreDomain
  refine .ite h ?_
  split
  · exact h.copyRead.geaUsed.mrsReload.zntLoad.zntFresh.stuLoad.stuFresh.stuArmAll
  · exact h.pcxReload.pcxGeometry.pguRest
  · exact h.restoreSections
  · exact .ite h.restoreSections h
  · exact h

theorem Keeps.linkTo : Keeps s₀ (s.linkTo l) := h.setFld.raise.repower

theorem Keeps.linkTrains : Keeps s₀ s.linkTrains := .ite h h.linkTo

theorem Keeps.coreUp : Keeps s₀ s.coreUp := .ite (.ite h.waitHost.linkTrains h.setPhase) h

theorem Keeps.unitReady : Keeps s₀ (s.unitReady st) := .ite h.setFld h

theorem Keeps.wakeDomain : Keeps s₀ (s.wakeDomain d) := by
  unfold State.wakeDomain
  split
  · exact h.almWake.unitReady.unitReady.unitReady.zoneReplay.dlkWake.coreUp
  · exact h.geaWake
  · exact h.geaWake
  · exact h.geaWake
  · exact h.geaWake
  · exact h.pcxWake
  · exact h.mafeWake
  · exact h.vpfWake
  · exact h.portResume.coreUp
  · exact h.ancWake
  · exact h.cspWake
  · exact h

theorem Keeps.stepDone : Keeps s₀ (s.stepDone d) := by
  unfold State.stepDone
  extract_lets st dest s1 s2 s3 s4
  have h1 : Keeps s₀ s1 := h.setFld.setFld.count
  have h3 : Keeps s₀ s3 := .ite (.setFld (.setFld (.setFld (.ite h1.raise h1)))) <| .ite h1.raise h1
  have h4 : Keeps s₀ s4 := .ite h3.afeAwake.wakeDomain.vpfRingWake <| .ite h3.restoreDomain <| .ite h3.dozeDomain h3.loseDomain
  exact .thenStart (.repower (.ite h4.dropVotesOf h4))

theorem Keeps.execPowerStepComplete {d : Fin 13} : Runs s₀ (execPowerStepComplete d t s) := .next (.ite h.at_.stepDone h.at_)

end

/-! #### `Machine/Reset` -/

section
variable {s₀ s : State} {t bit cause : Nat} {straps : Fin 8} {src : Src} {low : Bool} {check : TrainCheck}
  {mrr : Option (Nat × Nat × Nat)} {x : Transfer} {speed width : Fin 3} (h : Keeps s₀ s)
include h

theorem Keeps.resetCause : Keeps s₀ (s.resetCause bit) := h.setReg

theorem Keeps.warmState : Keeps s₀ s.warmState := by
  unfold State.warmState
  refine ⟨h.queue, h.fuses, fun hs => ?_⟩
  obtain ⟨hregs, -, hmems⟩ := h.canonical hs
  simp only [State.memsWf, Bool.and_eq_true] at hmems
  obtain ⟨⟨hflash, -⟩, -⟩ := hmems
  refine ⟨tabWf_filterMap _ _ (fun entry entry' he => (eq_of_unlessReset he).imp_right fun hne _ => hne) _ hregs, rfl, ?_⟩
  simp only [State.memsWf, hflash]
  rfl

theorem Keeps.causeEnds : Keeps s₀ s.causeEnds := h.upd rfl rfl

theorem Keeps.warmReset : Keeps s₀ (s.warmReset cause) :=
  .ite h <| .ite h.causeEnds.resetCause h.warmState.count.count.resetCause.resetCause

theorem Keeps.startUp : Keeps s₀ (s.startUp straps) :=
  .repower (.setFlag (.setPhase (.upd rfl rfl (.ite h.almIdentity (.putHead (.almPowerOn (h.setFld.setFld.setFld.setFlag.upd rfl rfl)))))))

theorem Keeps.execPowerOnReset : Runs s₀ (execPowerOnReset s) := by
  refine .next ⟨h.queue, h.fuses, fun hs => ?_⟩
  obtain ⟨-, -, hmems⟩ := h.canonical hs
  simp only [State.memsWf, Bool.and_eq_true] at hmems
  obtain ⟨⟨hflash, -⟩, -⟩ := hmems
  refine ⟨rfl, rfl, ?_⟩
  simp only [State.memsWf, hflash]
  rfl

theorem Keeps.execPowerOnResetRelease : Runs s₀ (execPowerOnResetRelease straps t s) :=
  .next (.ite h.at_ (.ite (.upd rfl rfl (h.at_.upd rfl rfl)) (.startUp (h.at_.upd rfl rfl))))

theorem Keeps.execResetN : Runs s₀ (execResetN low t s) :=
  .next (.ite (.warmReset (h.at_.upd rfl rfl)) (.ite (h.at_.upd rfl rfl) (.causeEnds (h.at_.upd rfl rfl))))

theorem Keeps.execWarmResetRelease : Runs s₀ (execWarmResetRelease straps t s) := .next (.ite h.at_.startUp h.at_)

theorem Keeps.execCoreSupply : Runs s₀ (execCoreSupply t s) := .next (.ite h.at_ (.warmReset (h.at_.upd rfl rfl)))

theorem Keeps.execCoreSupplyRecovered : Runs s₀ (execCoreSupplyRecovered t s) := .next (.causeEnds (h.at_.upd rfl rfl))

theorem Keeps.execTrstN : Runs s₀ (execTrstN s) := .next (h.upd rfl rfl)

theorem Keeps.execHeaderRead : Runs s₀ (execHeaderRead t s) := by
  unfold Machine.execHeaderRead
  extract_lets s0 b fl _ s1 s2 put s3 s4
  have hput : ∀ y off r, Keeps s₀ y → Keeps s₀ (put y off r) := by
    intro y off r hy
    unfold put
    split
    · exact hy.setReg
    · exact hy
  have h3 : Keeps s₀ s3 := .fold (.setPhase (.setFld (.setFlag (.setFlag (.setFlag (h.at_.upd rfl rfl)))))) fun _ _ => hput _ _ _
  have h4 : Keeps s₀ s4 := h3.dmcInit.linkTrains
  refine .next (.ite h.at_ ?_)
  split
  · exact h.at_.startFails.linkTrains
  · exact .ite h4 h4.dmcFails

theorem Keeps.execDmcInit : Runs s₀ (execDmcInit src s) := .next (h.onUnit (fun _ => .dmcInit))

theorem Keeps.dmcUp : Keeps s₀ s.dmcUp := .ite h.imagePhase h

theorem Keeps.execDmcInitComplete : Runs s₀ (execDmcInitComplete check mrr t s) := .next h.at_.dmcTrained.portResume.dmcUp

theorem Keeps.mrsAbandon : Keeps s₀ s.mrsAbandon := by
  unfold State.mrsAbandon
  extract_lets again s0 s1 s2
  have h2 : Keeps s₀ s2 := .unitsRest (.settleDeads (.setFld (.ite h.settleDeads.pguEnter h.settleDeads)))
  exact .ite (.setFld (h2.upd rfl rfl)) (h2.upd rfl rfl)

theorem Keeps.silRestart : Keeps s₀ s.silRestart := by
  unfold State.silRestart
  extract_lets st chunks _ s0 s1 heavy s2
  have h1 : Keeps s₀ s1 := .fold (h.upd rfl rfl) (fun _ _ hy => hy.answer)
  have h2 : Keeps s₀ s2 := .ite h1 h1.abortPending
  exact .ite (.silVote (.ite (h2.upd rfl rfl) (.setFlag (h2.upd rfl rfl)))) <| .ite h2.setPhase h2

theorem Keeps.dmcRestart : Keeps s₀ s.dmcRestart := h.dmcBegin.dmcCountClr.setFlag.show

theorem Keeps.dramReset : Keeps s₀ s.dramReset :=
  h.count.resetCause.dmcRestart.mrsAbandon.almRestart.silRestart.cvuDramReset.ancDramReset.repower

theorem Keeps.execDramReset : Runs s₀ (execDramReset src t s) := .next (h.at_.onUnit (fun _ hy => .ite hy hy.dramReset))

theorem Keeps.transferCut : Keeps s₀ (s.transferCut x) := by
  unfold State.transferCut
  split
  · exact h.chunkLost
  · exact h

theorem Keeps.hifReset : Keeps s₀ s.hifReset :=
  .settleIrqAt (.resetRegs (.upd rfl rfl (.fold (h.fold (fun _ _ => .transferCut)) (fun _ _ hy => hy.closeSession))))

theorem Keeps.execPerstAssert : Runs s₀ (execPerstAssert t s) :=
  .next (.ite h.at_ (.repower (.resetCause (.hifReset (h.at_.upd rfl rfl)))))

theorem Keeps.execPerstDeassert : Runs s₀ (execPerstDeassert t s) :=
  .next (.ite h.at_ (.repower (.ite (h.at_.upd rfl rfl) (.linkTrains (h.at_.upd rfl rfl)))))

theorem Keeps.execLinkTrained : Runs s₀ (execLinkTrained speed width t s) :=
  .next (.ite h.at_ (.linkTo (.setFld (.setFld (h.at_.upd rfl rfl)))))

theorem Keeps.execLinkL1Entry : Runs s₀ (execLinkL1Entry t s) := .next (.ite h.at_.linkTo h.at_)

theorem Keeps.execLinkL1Exit : Runs s₀ (execLinkL1Exit t s) := .next (.ite h.at_.linkTo h.at_)

end

/-! #### `Machine/Glb` -/

section
variable {s₀ s : State} {t cause : Nat} {w : Word} {tj : Int} (h : Keeps s₀ s)
include h

theorem Keeps.wdtStart : Keeps s₀ s.wdtStart := .ite h (h.setFlag.upd rfl rfl)

theorem Keeps.execWdtEnable {src : Src} : Runs s₀ (execWdtEnable src t s) := .next h.at_.wdtStart

theorem Keeps.wdtKick : Keeps s₀ (s.wdtKick w) := by
  unfold State.wdtKick
  refine .ite h <| .ite ?_ h.count.post
  split
  · exact h.upd rfl rfl
  · exact h

theorem Keeps.execWdtKick {src : Src} : Runs s₀ (execWdtKick src w t s) := .next h.at_.wdtKick

theorem Keeps.execWdtWarn : Runs s₀ (execWdtWarn t s) := by
  unfold Machine.execWdtWarn
  refine .next ?_
  split
  · exact .ite h.at_.raise h.at_
  · exact h.at_

theorem Keeps.expiryReset : Keeps s₀ (s.expiryReset cause) := .ite h.warmReset.post h.warmReset

theorem Keeps.flushReset : Keeps s₀ (s.flushReset cause) := .ite h.expiryReset <| .ancPwrfail (.repower (h.upd rfl rfl))

theorem Keeps.execWdtExpiry : Runs s₀ (execWdtExpiry t s) := by
  unfold Machine.execWdtExpiry
  refine .next ?_
  split
  · exact .ite h.at_ <| .ite (.flushReset (h.at_.upd rfl rfl)) <| .expiryReset (h.at_.upd rfl rfl)
  · exact h.at_

theorem Keeps.execFlushResetTimeout : Runs s₀ (execFlushResetTimeout t s) := by
  unfold Machine.execFlushResetTimeout
  refine .next ?_
  split
  · exact .ite h.at_.expiryReset h.at_
  · exact h.at_

theorem Keeps.execTjSample : Runs s₀ (execTjSample tj t s) := by
  unfold Machine.execTjSample
  extract_lets s0 top s1 high trip _ _ cool s2
  have h2 : Keeps s₀ s2 := .ite (.causeEnds (h.at_.setFld.setFld.upd rfl rfl)) (h.at_.setFld.setFld.upd rfl rfl)
  exact .next (.ite h.at_ (.ite (.flushReset (.ite h2.post.raise h2)) (.ite h2.post.raise h2)))

theorem Keeps.causeClr : Keeps s₀ s.causeClr := h.setReg

theorem Keeps.execCauseClr {src : Src} : Runs s₀ (execCauseClr src s) := .next h.causeClr

theorem Keeps.glbCountClr : Keeps s₀ s.glbCountClr := h.setReg.setFld

theorem Keeps.execGlbCountClr {src : Src} : Runs s₀ (execGlbCountClr src s) := .next h.glbCountClr

theorem Keeps.warmReq : Keeps s₀ s.warmReq := .ite h.setReg.warmReset h.setReg.post

theorem Keeps.execWarmReq {src : Src} : Runs s₀ (execWarmReq src t s) := .next h.at_.warmReq

end

/-! #### `Machine/Frame` -/

section
variable {s₀ s : State} {n t cycles : Nat} {fadc madc : List (List Int)} {runs : List Nat} {x : FrameIn}
  {heavy real missing reset switched turned : Bool} {old : State} {edge check carry : Option Nat} {img : Bytes} {u : Machine.Unit}
  {st irq : Fld} (h : Keeps s₀ s)
include h

theorem Keeps.closeFrame : Keeps s₀ (s.closeFrame x t) := by
  unfold State.closeFrame
  extract_lets s0 s1
  have h1 : Keeps s₀ s1 := h.synthTo.at_.takeSamples.pcxOverflow.calCollect.afeBoundary.mediumEnd.thermFrame
  exact .ite h.synthTo.at_.takeSamples <| .ite h1.loadFrame h1

theorem Keeps.startupDone : Keeps s₀ s.startupDone := by
  unfold State.startupDone
  extract_lets _ s1 s2
  have h2 : Keeps s₀ s2 := .repower (.raise (.setPhase (.setFlag (h.upd rfl rfl))))
  exact .ite h <| .ite (.acqStart (.ite h2.wdtStart h2)) <| .ite h2.wdtStart h2

theorem Keeps.loadImage : Keeps s₀ (s.loadImage img) :=
  .fold (.fold (.fold (h.fold (fun _ _ => .putRwl)) (fun _ _ => .putSection)) (fun _ _ => .putRwl)) (fun _ _ => .putRwl)

theorem Keeps.silTake : Keeps s₀ (s.silTake n heavy) :=
  .ite (h.setReg64.upd rfl rfl) <|
    .pendEnter (.setFlag (.setReg (.ite (.setFlag (.setFlag (.setFlag (.setReg (h.setReg64.upd rfl rfl)))))
        (.setFld (.setFlag (.setFlag (.setFlag (.setFlag (.setReg (h.setReg64.upd rfl rfl))))))))))

theorem Keeps.clearDegraded : Keeps s₀ s.clearDegraded := h.fold (fun _ _ hy => .ite hy.setFld.showHealth hy)

theorem Keeps.blkSwitch : Keeps s₀ (s.blkSwitch u st irq check) := by
  unfold State.blkSwitch
  split
  · exact .ite h.setFld.post.raise.acqFault h
  · exact h

theorem Keeps.checkUnits : Keeps s₀ (s.checkUnits old) := by
  unfold State.checkUnits
  extract_lets s1 s2
  have h1 : Keeps s₀ s1 := h.pguSwitch.fafeSwitch.pcxSwitch
  have h2 : Keeps s₀ s2 := by
    unfold s2
    split
    · exact .ite h1.post.acqFault h1
    · exact h1
  exact h2.blkSwitch.blkSwitch.blkSwitch.upd rfl rfl

theorem Keeps.switchTables : Keeps s₀ (s.switchTables t n) := by
  unfold State.switchTables
  extract_lets img heavy restart old zones progs s0 s1 s2 s3 _ s4 s5 _ s6
  have h2 : Keeps s₀ s2 := .keepProfile (.loadImage (.silTake (.ite h.stuSwitch.stuRetire h.stuSwitch)))
  have h3 : Keeps s₀ s3 := .clearDegraded (.ite h2.drainDone h2)
  have h4 : Keeps s₀ s4 := .ite (.zntLoad (.ite (h3.upd rfl rfl) h3)) h3
  have h5 : Keeps s₀ s5 := .ite h4.stuLoad.stuFresh h4
  have h6 : Keeps s₀ s6 := .cspSwitch (.dlkSwitch (.checkUnits (.geaUsed (.ite h5.stuArmAll h5))))
  exact .almArchive (.ancSwitch (.ite h6.vpfSwitch h6))

theorem Keeps.newRun : Keeps s₀ s.newRun := h.stuNewRun.zntFresh.stuFresh.thermNewRun.cancelDyn.tceMark

theorem Keeps.switchBoundary : Keeps s₀ (s.switchBoundary t n) := by
  unfold State.switchBoundary
  extract_lets heavy first s0 s1 s2 s3 _ s4
  have h2 : Keeps s₀ s2 := .pwrfailSample (.repower (.silVote (.meridianNow (.ite h.switchTables.stoppedNow h.switchTables))))
  have h4 : Keeps s₀ s4 := .ite (.zoneReplay (h2.cancelDyn.tceMark.upd rfl rfl)) h2.cancelDyn.tceMark
  exact .ite (.repower (h4.upd rfl rfl)) h4.raise.startupDone

theorem Keeps.heavyComplete : Keeps s₀ (s.heavyComplete n) :=
  .startupDone (.thermChange (.repower (.raise (.ite (.fold (.upd rfl rfl (.setFld (.ite h.pendEnter h)))
      (fun _ _ hy => .ite hy.startGroup.clearLoad hy)) (.upd rfl rfl (.setFld (.ite h.pendEnter h)))))))

theorem Keeps.startEffect : Keeps s₀ (s.startEffect n) :=
  .tceMark (.thermStart (.stuArmAll (.stuFresh (.zntFresh (.fold (.fold (.ite (.pcxStart (.pguStart (h.setFld.raise.upd rfl rfl)))
      (h.setFld.raise.upd rfl rfl)) (fun _ _ => .setFld)) (fun _ _ hy => .clearLoad (.ite hy.startGroup hy)))))))

theorem Keeps.stopEffect : Keeps s₀ (s.stopEffect n) := by
  unfold State.stopEffect
  extract_lets s1
  have h1 : Keeps s₀ s1 := h.pguStop.thermStop.stuStop.tceMark
  exact .ite h1.wantCommit h1

theorem Keeps.openFrame : Keeps s₀ (s.openFrame t n real edge missing reset) := by
  unfold State.openFrame
  extract_lets q cal diag flags _ due f s1 _ _ s2
  have h2 : Keeps s₀ s2 := h.diagSelect.setFlag.setFlag.upd rfl rfl
  exact .vpfFrame (.pendFrame (.ite (.ite (h2.upd rfl rfl) h2) (.count (.ite (h2.upd rfl rfl) h2))))

theorem Keeps.trackGap : Keeps s₀ (s.trackGap n real heavy) := by
  unfold State.trackGap
  refine .ite ?_ <| .ite h.openGap h
  split
  · exact .noteGap (h.upd rfl rfl)
  · exact h

theorem Keeps.boundaryActions : Keeps s₀ (s.boundaryActions t n switched carry) := by
  unfold State.boundaryActions
  extract_lets epoch s1 s2
  have h2 : Keeps s₀ s2 := .ite h.almBoundary.tceMark h.almBoundary
  exact .moveAll (.ite (.zntReset (.applyChanges (.ite h2.thermChange h2))) (.applyChanges (.ite h2.thermChange h2)))

theorem Keeps.afterOpen : Keeps s₀ (s.afterOpen old n turned) := by
  unfold State.afterOpen
  extract_lets s s1 s2 s3
  have h1 : Keeps s₀ s1 := h.pguGates.entryFlush.judgeAll.capHoldoff
  have h3 : Keeps s₀ s3 := .fold (.ite h1 h1.thermTurn) (fun _ _ hy => by
      split
      · exact hy.sendTrace
      · exact hy)
  exact .ite (.acqStart (.upd rfl rfl (.tryStart (.ancStep (.ite h3.tfApply h3))))) <| .tryStart (.ancStep (.ite h3.tfApply h3))

theorem Keeps.boundary : Keeps s₀ (s.boundary x t edge missing) := by
  unfold State.boundary
  extract_lets roll n real sw heavy plain a stopped _ _ b held c d e starting f
  have hb : Keeps s₀ b := .ite (h.closeFrame.setFld.upd rfl rfl) h.closeFrame
  have hd : Keeps s₀ d := .ite (.switchBoundary (.ite hb.heavyComplete hb)) <| .ite hb.heavyComplete hb
  have he : Keeps s₀ e := .ite (.newRun (.ite hd.setReg hd)) hd
  have hf : Keeps s₀ f := .ite he.startEffect he
  exact .afterOpen (.openFrame (.bankAt (.dlkBoundary (.ite (.calPeriodic (.calAdvance (.boundaryActions
      (.trackGap (.ite hf.stopEffect hf))))) (.calAdvance (.boundaryActions (.trackGap (.ite hf.stopEffect hf))))))))

theorem Keeps.execFrameBoundary : Runs s₀ (execFrameBoundary t fadc madc runs cycles s) := by
  unfold Machine.execFrameBoundary
  refine .next ?_
  split
  · exact .ite h.boundary.at_ h.at_
  · exact h.at_

theorem Keeps.execSlaveLaunchReference : Runs s₀ (execSlaveLaunchReference t fadc madc runs cycles s) := by
  unfold Machine.execSlaveLaunchReference
  refine .next ?_
  split
  · exact .ite (.at_ (.boundary (h.upd rfl rfl))) h.at_
  · exact h.at_

theorem Keeps.execVirtualFrameTimeout : Runs s₀ (execVirtualFrameTimeout t fadc madc runs cycles s) :=
  .next (.ite h.boundary.at_ h.at_)

end

/-! #### `Machine/Pmu` -/

section
variable {s₀ s : State} {w t : Nat} {via : Via} {voter : Fin 96} {d : Fin 13} {v : Fin 4} (h : Keeps s₀ s)
include h

theorem Keeps.hostVote : Keeps s₀ (s.hostVote w) := .repower (h.setReg.fold (fun _ _ hy => .ite hy hy.checkVote))

theorem Keeps.execPowerVote {w : Word} : Runs s₀ (execPowerVote via w s) := by
  unfold Machine.execPowerVote
  refine .next (h.withRequest (fun _ hy => ?_))
  split
  · exact hy.hostVote
  · exact hy.hostVote.finish

theorem Keeps.execUnitVote : Runs s₀ (execUnitVote voter d v s) := .next (.ite h h.castVote.repower)

theorem Keeps.execDmcPortRelease : Runs s₀ (execDmcPortRelease t s) := .next (.ite (.repower (h.at_.upd rfl rfl)) h.at_)

theorem Keeps.offlogWord : Keeps s₀ (s.offlogWord w).1 :=
  .ite_fst (.upd rfl rfl (.ite (h.upd rfl rfl) h)) <| .ite (h.upd rfl rfl) h

theorem Keeps.execOfflogRead {src : Src} {w : Fin 4} : Runs s₀ (execOfflogRead src w s) := .next h.offlogWord.give

theorem Keeps.pmuCountClr : Keeps s₀ s.pmuCountClr := h.setFld.fold (fun _ _ => .setFld)

theorem Keeps.execPmuCountClr {src : Src} : Runs s₀ (execPmuCountClr src s) := .next h.pmuCountClr

theorem Keeps.offlogClr : Keeps s₀ s.offlogClr := h.upd rfl rfl

theorem Keeps.execOfflogClr {src : Src} : Runs s₀ (execOfflogClr src s) := .next h.offlogClr

end

/-! #### `Machine/BusRead` -/

section
variable {s₀ s : State} {off t : Nat} {src : Src} {o : Origin} {seq : Word} (h : Keeps s₀ s)
include h

theorem Keeps.readEffect : ∀ r, s.readEffect off = some r → Keeps s₀ r.1 := by
  intro r hr
  unfold State.readEffect at hr
  split at hr
  · cases hr
    exact h.synthTo
  split at hr
  · cases hr
    exact h
  split at hr
  · cases hr
    exact h.latchNow
  split at hr
  · cases hr
    exact h.offlogWord
  split at hr
  · cases hr
    exact h.vlogWord
  split at hr
  · cases hr
    exact h.queueWord
  split at hr
  · cases hr
    exact h.iuMeanRead
  split at hr
  · cases hr
    exact h.iuCountRead
  · cases hr

theorem Keeps.busRead : Keeps s₀ (s.busRead src off).1 := by
  unfold State.busRead
  refine .ite_fst h.logOff <| .ite_fst h ?_
  split
  case h_1 r hr => exact h.readEffect r hr
  case h_2 => exact h

theorem Keeps.busReads {n off : Nat} : Keeps s₀ (State.busReads src n off s).1 := by
  induction n generalizing s off with
  | zero => exact h
  | succ n ih => exact ih h.busRead

theorem Keeps.execRegRead : Runs s₀ (execRegRead o seq t s) := by
  unfold Machine.execRegRead
  refine .next (h.at_.withRequest (fun _ hy => ?_))
  split
  · exact hy.answer
  · exact hy.busReads.answer

end

/-! #### `Machine/Bus` -/

section
variable {s₀ s : State} {w seq : Word} {src : Src} {off t : Nat} {env : BusEnv} {f : RegFam} {be : Fin 16} {o : Origin}
  {aperture write : Bool} (h : Keeps s₀ s)
include h

theorem Keeps.ctrlBits {acts : List (Nat × (State → State))} (hacts : ActsKeep s₀ acts) : Keeps s₀ (s.ctrlBits w acts) := by
  unfold State.ctrlBits
  induction acts generalizing s with
  | nil => exact h
  | cons x acts ih => exact ih (.ite (hacts x List.mem_cons_self s h) h) fun y hy => hacts y (List.mem_cons_of_mem x hy)

theorem Keeps.lockViolation : Keeps s₀ (s.lockViolation src off) := h.count.setFld.setFld.setFld.setReg.setFld.raise

theorem Keeps.plainWrite : Keeps s₀ (s.plainWrite src f off w) := .settleIrq (.setReg (.ite h.lockViolation h))

theorem Keeps.writeGlb : KeepsOpt s₀ (s.writeGlb src env off w) :=
  .ite (.some (h.ctrlBits (.cons (fun _ => .causeClr) <| .cons (fun _ => .warmReq) <| .cons (fun _ => .glbCountClr) .nil))) <|
    .ite (.some (.ite h.setFld.setFld.wdtStart h.setFld.setFld)) <|
    .ite (.some h.wdtKick) <|
    .ite (.some (h.ctrlBits (.cons (fun _ => .pmuCountClr) <| .cons (fun _ => .offlogClr) .nil))) <|
    .ite (.some h.hostVote) <|
    .ite (.some (.ctrlBits (.ite h.post (h.ctrlBits (.cons (fun _ => .switchNext) <| .cons (fun _ => .switchAt) <| .cons (fun _ => .disarm)
        <| .cons (fun _ => .imageAbort) .nil))) (.cons (fun _ => .lockClr) .nil))) <|
    .ite (.some h.setReg) .none

theorem Keeps.writeMrs : KeepsOpt s₀ (s.writeMrs src off w) := by
  unfold State.writeMrs
  extract_lets via s1 cal
  have hcal : ∀ y, Keeps s₀ y → Keeps s₀ (cal y) := by
    intro y hy
    unfold cal
    split
    · exact hy.finish
    · exact hy.calBegin.finish
  exact .ite (.some (.ctrlBits (.ite h (h.ctrlBits (.cons (fun _ => .acqStart) (.cons (fun _ => .acqStop) .nil))))
      (.cons (fun _ => .mrsCountClr) (.cons (fun _ => .mrsHealthClr) (.cons (fun _ => .mrsRebalance) .nil))))) <|
    .ite (.some (h.ctrlBits (.cons hcal (.cons (fun _ => .pguFaultClr) (.cons (fun _ => .pguCountClr) .nil))))) <|
    .ite (.some (h.ctrlBits (.cons (fun _ => .fafeCalReq) (.cons (fun _ => .fafeCountClr) (.cons (fun _ => .stepcalReq)
        (.cons (fun _ => .fafeFaultClr) .nil)))))) <|
    .ite (.some (h.ctrlBits (.cons (fun _ => .mafeCalReq) (.cons (fun _ => .mafeCountClr) (.cons (fun _ => .mafeFaultClr) .nil))))) .none

theorem Keeps.writePcx : KeepsOpt s₀ (s.writePcx src off w) :=
  .ite (.some (.ctrlBits (.ite h.finish (h.ctrlBits (.cons (fun _ => .tfLoad) <| .cons (fun _ => .tfCommit) <| .cons (fun _ => .tfDiscard)
      .nil))) (.cons (fun _ => .pcxCountClr) <| .cons (fun _ hy => hy.pcxFaultClr.thenStart) .nil))) <|
    .ite (.some h) <|
    .ite (.some (.ctrlBits (.ite h (h.ctrlBits (.cons (fun _ => .haltReq) <| .cons (fun _ => .resumeGroups) .nil)))
        (.cons (fun _ => .geaFaultClr) <| .cons (fun _ => .geaDoorbell) <| .cons (fun _ => .geaCountClr) .nil))) .none

theorem Keeps.writeZnt : KeepsOpt s₀ (s.writeZnt src off w) := by
  unfold State.writeZnt
  refine .ite (.some (h.ctrlBits (.cons (fun _ => .setReg) <| .cons (fun _ hy => hy.blkFaultClr.thenStart) <| .cons
      (fun _ => .zntStatsReset) .nil))) <|
    .ite (.some (h.ctrlBits (.cons (fun _ => .stuCountClr) <| .cons (fun _ hy => hy.blkFaultClr.thenStart) .nil))) <|
    .ite (.some ?_) <|
    .ite (.some (h.ctrlBits (.cons (fun _ => .tceCountClr) <| .cons (fun _ hy => hy.blkFaultClr.thenStart) .nil))) .none
  split
  · exact h
  · exact h.capArmReq
  · exact h.capDisarmReq
  · exact h.capTriggerReq
  · exact h.capLengthReq
  · exact h.capFinish

theorem Keeps.formatReg : Keeps s₀ (s.formatReg src) :=
  .ite h.setReg.finish <| .ite h.setReg.finish <| .ite h.setReg.finish h.setReg.setFld.finish.ancVote

theorem Keeps.writeAnc : KeepsOpt s₀ (s.writeAnc src off w) :=
  .ite (.some (h.ctrlBits (.cons (fun _ => .formatReg) <| .cons (fun _ hy => hy.whenReady (fun _ hz => hz.onAnc.wantCommit.ancStep)) <|
      .cons (fun _ hy => hy.whenReady (fun _ hz => hz.patrolNow.finish)) <|
        .cons (fun _ => .ancCountClr) <|
        .cons (fun _ => .ancFaultClr) .nil))) <|
    .ite (.some (h.ctrlBits (.cons (fun _ => .dmcInit) <| .cons (fun _ hy => .ite hy hy.dramReset) <| .cons (fun _ => .dmcCountClr) <| .cons
        (fun _ => .scrubStart) .nil))) <|
    .ite (.some h) <|
    .ite (.some h.setReg) <|
    .ite (.some (.ite h.dmcDiag h)) .none

theorem Keeps.writeCvu : KeepsOpt s₀ (s.writeCvu env off w) := by
  unfold State.writeCvu
  refine .ite (.some (h.ctrlBits (.cons (fun _ => .setReg) .nil))) <| .ite .none ?_
  split
  · exact .some h.cvuCfg
  · exact .some (h.ctrlBits (.cons (fun _ => .cvuInit) <| .cons (fun _ => .cvuGo) <| .cons (fun _ => .cvuAbort) .nil))
  · exact .some h.cvuData
  · exact .some h.cvuContext
  · exact .some h.cvuContext
  · exact .some h.cvuContext
  · exact .some h.cvuContext
  · exact .none

theorem Keeps.writeTtu : KeepsOpt s₀ (s.writeTtu src f off w) := by
  unfold State.writeTtu
  refine .ite (.some (.ctrlBits (.ite h.post (h.ctrlBits (.cons (fun _ => .setNow) <| .cons (fun _ => .setAtPps) <| .cons
      (fun _ => .cancelSet) .nil))) (.cons (fun _ => .ttuCountClr) .nil))) <|
    .ite (.some h.ttuArmWrite) <|
    .ite (.some h.post) <|
    .ite (.some h.plainWrite.refsWritten) ?_
  split
  · exact .some h.iuCfgWrite
  · split
    · exact .some h.iuCfgWrite
    · split
      · exact .some h.plainWrite.chanCfgWritten
      · exact .none

theorem Keeps.writeVpf : KeepsOpt s₀ (s.writeVpf src off w) := by
  unfold State.writeVpf
  extract_lets clear counts
  have hclear : ∀ y, Keeps s₀ y → Keeps s₀ (clear y) := by
    intro y hy
    unfold clear
    refine .ite ?_ hy
    split
    · exact hy.post
    · exact hy.show.dlkInit
  have hcounts : ∀ y, Keeps s₀ y → Keeps s₀ (counts y) := fun _ hy => hy.setReg.fold (fun _ _ hz => .ite hz hz.setReg)
  exact .ite (.some (h.ctrlBits (.cons (fun _ => .vpfPause) <| .cons (fun _ => .vpfResume) <| .cons (fun _ => .setReg) <| .cons
      (fun _ => .vpfFaultClr) <| .cons (fun _ => .vpfCalReq) .nil))) <|
    .ite (.some (h.ctrlBits (.cons (fun _ => .dlkSafe) <| .cons (fun _ hy => .ite hy.dlkInit hy) <| .cons hclear <| .cons
        (fun _ => .dlkHost) <| .cons hcounts .nil))) <|
    .map (fun _ => h.vpfExcWrite)

theorem Keeps.sessCtrl : Keeps s₀ (s.sessCtrl src w) := by
  unfold State.sessCtrl
  split
  · exact h
  · exact h.session0Open
  · exact .ite h.sessionResult h.closeSession.sessionResult
  · exact .ite h.sessionResult h.reopenSession.sessionResult

theorem Keeps.writeHif : KeepsOpt s₀ (s.writeHif src env f off w) := by
  unfold State.writeHif
  refine .ite (.some (h.ctrlBits (.cons (fun _ => .hifCountClr) <| .cons (fun _ => .vlogClr) .nil))) <|
    .ite (.some h.sessCtrl) <|
    .ite (.some h.plainWrite) ?_
  split
  · exact .some h.doorbell
  · split
    · exact .some h.takeHead
    · split
      · exact .some h.streamCfg
      · split
        · exact .ite .none <| .some h.msixUnmask
        · exact .none

theorem Keeps.writeAlm : KeepsOpt s₀ (s.writeAlm off w) :=
  .ite (.some (h.ctrlBits (.cons (fun _ hy => .ite hy hy.cspTrain) <| .cons (fun _ hy => .ite hy.ccStart hy) <| .cons
      (fun _ hy => hy.cspReopen) <| .cons (fun _ => .cspCountClr) .nil))) <|
    .ite (.some (h.ctrlBits (.cons (fun _ => .almCountClr) <| .cons (fun _ => .submitHist) .nil))) <|
    .ite (.some h.setIndicator) .none

theorem Keeps.writeAction : KeepsOpt s₀ (s.writeAction src env f off w) :=
  .ite h.writeGlb <|
    .ite h.writeMrs <|
    .ite h.writePcx <|
    .ite h.writeMrs <|
    .ite h.writePcx <|
    .ite h.writeZnt <|
    .ite h.writeAnc <|
    .ite h.writeCvu <|
    .ite h.writeTtu <|
    .ite h.writeVpf <|
    .ite h.writeHif h.writeAlm

theorem Keeps.busWrite : Keeps s₀ (s.busWrite src env off w) := by
  unfold State.busWrite
  extract_lets s1
  have h1 : Keeps s₀ s1 := .ite h.synthTo h
  refine .ite h.logOff ?_
  split
  · exact h1
  · split
    case h_1 t ht => exact h1.writeAction t ht
    case h_2 => exact .ite h1.plainWrite.repower.pwrfailSample <| .ite h1.plainWrite.pguShown h1.plainWrite

theorem Keeps.busWrites {off : Nat} {words : List Word} : Keeps s₀ (State.busWrites src env off words s) := by
  induction words generalizing s off with
  | nil => exact h
  | cons w ws ih => exact ih h.busWrite

theorem Keeps.execRegisterWrite {off : BitVec 24} : Runs s₀ (execRegisterWrite src off be w env s) :=
  .next (.ite (.post (.ite h.at_ h.at_.logOff)) h.at_.busWrite)

theorem Keeps.execRegWrite : Runs s₀ (execRegWrite o seq env s) := by
  unfold Machine.execRegWrite
  refine .next (h.at_.withRequest (fun _ hy => ?_))
  extract_lets
  split
  · exact hy.answer
  · exact hy.busWrites.answer

theorem Keeps.execOffAccess {src : Accessor} {off : BitVec 26} : Runs s₀ (execOffAccess src aperture write off t s) :=
  .next (.ite h.at_ (.ite h.at_.logOffBy h.at_.logOffBy.give))

end

/-! #### `Machine/Forward` -/

section
variable {s₀ s : State} {e g frame addr k : Nat} {d : OutDesc} {place : Option (Nat × Nat)} {header out : Bytes} {y : Dispatch}
  {toLocal : Bool} {ecc : Upsets} (h : Keeps s₀ s)
include h

theorem Keeps.blockLate : Keeps s₀ (s.blockLate g frame) := h.count.raise.markLate

theorem Keeps.forward : Keeps s₀ (s.forward g d place header out) := by
  unfold State.forward
  split
  · exact .ite h.streamOut.tapStrain h.streamOut
  · exact h.streamOut

theorem Keeps.pushed : Keeps s₀ (s.pushed g e d y).1 := by
  unfold State.pushed
  refine .ite_fst h <| .ite_fst h ?_
  split
  · split
    · exact h.upd rfl rfl
    · exact h
  · exact h

theorem Keeps.outPush : Keeps s₀ (s.outPush g e addr) := by
  unfold State.outPush
  extract_lets
  split
  · exact h.setGrp.tceAge
  · extract_lets late q s2 b _ s3 s4
    have h3 : Keeps s₀ s3 := .setBlk (.ite h.setGrp.tceAge.pushed.setGrp.rayCommit h.setGrp.tceAge.pushed)
    have h4 : Keeps s₀ s4 := .ite h3.blockLate h3
    split
    · exact h4.pumpQueue
    · extract_lets out1 s5
      have h5 : Keeps s₀ s5 := by
        unfold s5
        split
        · exact h4.setEmem
        · exact h4
      exact .pumpQueue (.forward (.ite (.thermStatus (h5.upd rfl rfl)) h5))

theorem Keeps.takeBlock {d : Dispatch} : Keeps s₀ (s.takeBlock g d) := by
  unfold State.takeBlock
  split
  · exact h
  · exact .ite (.ite h.rayTake h) <| .ite h h.thermTake

theorem Keeps.dispqPop : Keeps s₀ (s.dispqPop k).1 := by
  unfold State.dispqPop
  split
  · exact h
  · dsimp only
    split
    · exact h
    · dsimp only
      exact h.setGrp.takeBlock.pumpQueue

theorem Keeps.setDma {d : Dma} : Keeps s₀ (s.setDma e d) := h.setLane

theorem Keeps.dmaStart : Keeps s₀ (s.dmaStart e toLocal) := h.setDma

theorem Keeps.dmaEnd : Keeps s₀ (s.dmaEnd e) := by
  unfold State.dmaEnd
  extract_lets
  split
  · exact h.setDma.setPend
  · exact h.setDma

theorem Keeps.dmaFault : Keeps s₀ (s.dmaFault e) := by
  unfold State.dmaFault
  exact h.setDma.engineFault

theorem Keeps.execDmaDone {e : Fin 64} : Runs s₀ (execDmaDone e ecc s) := by
  unfold Machine.execDmaDone
  extract_lets
  refine .next (.ite h.upset ?_)
  split
  · exact h.upset.dmaEnd
  · refine .ite ?_ <| .ite h.upset.dmaFault h.upset.eccRead.dramWrite.dmaEnd
    split
    · exact h.upset.dramRead.setEmem.dmaEnd
    · exact h.upset.dramRead

end

/-! #### `Machine/GeckoCore` -/

section
variable {s₀ s : State} {k lane latency cls op n name bit pc : Nat} {e : Fin 64} {v : Word} {b : Bool} (h : Keeps s₀ s)
include h

theorem Keeps.readDr : Keeps s₀ (s.readDr k lane n).2 := .ite_snd h h.freeBytes

theorem Keeps.flyDr : Keeps s₀ (s.flyDr k lane latency name v) := .ite h.fly h

theorem Keeps.flySticky : Keeps s₀ (s.flySticky k lane latency bit b) := .ite h.fly h

theorem Keeps.engineFaults {faults : Faulting} : Keeps s₀ (s.engineFaults k pc faults) := by
  unfold State.engineFaults
  split
  · exact h
  · exact h.engineFault.fold (fun _ _ hy => hy.setFld.setFld.logFor)

theorem Keeps.loopEnd : Keeps s₀ (s.loopEnd k) := by
  unfold State.loopEnd
  extract_lets s1
  have h1 : Keeps s₀ s1 := h.fold (fun _ _ => .setBankOf)
  exact .ite (h1.fold (fun _ _ => .setBankOf)) h1

theorem Keeps.advance : Keeps s₀ (s.advance k) := by
  unfold State.advance
  extract_lets th b stay atEnd s1
  have h1 : Keeps s₀ s1 := .ite h.loopEnd h
  split
  · exact h1.setThread
  · exact .ite h1.setThread <| .ite (h1.setThread.fold (fun _ _ => .setFld)) h1.setThread

theorem Keeps.fetched : Keeps s₀ (s.fetched k) := h.settle.eccRead

theorem Keeps.issueThen {run : Run} {after : Nat → Nat → List Nat → State → State} (hrun : RunKeeps run)
    (hafter : ∀ k w ex y, Keeps s₀ y → Keeps s₀ (after k w ex y)) : Keeps s₀ (s.issueThen e cls op run after) := by
  unfold State.issueThen
  split
  · exact h
  · refine .ite h <| .ite h.fetched.engineFaults <| .ite h.fetched.engineFaults <| .ite h.fetched.engineFaults <| .ite h ?_
    split
    case h_1 => exact h.fetched.engineFaults
    case h_2 t ht => exact hafter _ _ _ _ (hrun _ _ _ _ _ h.fetched t ht).advance

theorem Keeps.issue {run : Run} (hrun : RunKeeps run) : Keeps s₀ (s.issue e cls op run) := h.issueThen hrun (fun _ _ _ _ hy => hy)

end

/-! #### `Machine/GeckoCtl` -/

section
variable {s₀ s : State} {e : Fin 64} {k target w : Nat} {ex : List Nat} {rti : Bool} {f : Bank → Bank} (h : Keeps s₀ s)
include h

theorem Keeps.branch : Keeps s₀ (s.branch k target rti) := h.setThread

theorem Keeps.eachBank : Keeps s₀ (s.eachBank k f) := h.fold (fun _ _ => .setBankOf)

theorem Keeps.loopMeets : Keeps s₀ (s.loopMeets k) := h.setThread.landAll.fold (fun _ _ => .setLane)

theorem Keeps.afterRep : Keeps s₀ (afterRep k w ex s) := .ite h h.setThread

theorem Keeps.afterWait {k : Nat} {w : Nat} : Keeps s₀ (afterWait k w ex s) := .ite h h.setEng

theorem Keeps.afterHalt {w : Nat} : Keeps s₀ (afterHalt k w ex s) := .ite h h.haltStream.haltDone

omit h in
theorem RunKeeps.runNop : RunKeeps runNop := fun _ _ _ _ _ h => .ok h

omit h in
theorem RunKeeps.eachLane {act : Nat → Nat → Nat → State → State}
    (hact : ∀ {s₀ : State} k w lane y, Keeps s₀ y → Keeps s₀ (act k w lane y)) : RunKeeps (eachLane act) :=
  fun _ _ _ _ _ h => .ok (h.fold fun _ _ => hact _ _ _ _)

omit h in
theorem RunKeeps.runBr : RunKeeps runBr := fun _ _ _ _ _ h => .ok (.ite h (.branch (.ite h.eachBank h)))

omit h in
theorem RunKeeps.runCall : RunKeeps runCall := fun _ _ _ _ _ h => .ok (.ite h h.eachBank.branch)

omit h in
theorem RunKeeps.runRet : RunKeeps runRet := fun _ _ _ _ _ h => .ok (.ite h h.branch)

omit h in
theorem RunKeeps.runLoop : RunKeeps runLoop := fun _ _ _ _ _ h => .ok (.ite h (.ite h.setThread h.loopMeets.eachBank))

omit h in
theorem RunKeeps.runRti : RunKeeps runRti := fun _ _ _ _ _ h => .ok (.ite h h.branch)

omit h in
theorem RunKeeps.runTrap : RunKeeps runTrap := fun _ _ _ _ _ h => .ite (.ok h) .error

omit h in
theorem RunKeeps.runLog : RunKeeps runLog := .eachLane fun _ _ _ _ => .logFor

theorem Keeps.execNop : Runs s₀ (execNop e s) := .next (h.issue .runNop)

theorem Keeps.execBr : Runs s₀ (execBr e s) := .next (h.issue .runBr)

theorem Keeps.execCall : Runs s₀ (execCall e s) := .next (h.issue .runCall)

theorem Keeps.execRet : Runs s₀ (execRet e s) := .next (h.issue .runRet)

theorem Keeps.execLoop : Runs s₀ (execLoop e s) := .next (h.issue .runLoop)

theorem Keeps.execRep : Runs s₀ (execRep e s) := .next (h.issueThen .runNop (fun _ _ _ _ => .afterRep))

theorem Keeps.execWait : Runs s₀ (execWait e s) := .next (h.issueThen .runNop (fun _ _ _ _ hy => hy.afterWait))

theorem Keeps.execHalt : Runs s₀ (execHalt e s) := .next (h.issueThen .runNop (fun _ _ _ _ hy => hy.afterHalt))

theorem Keeps.execRti : Runs s₀ (execRti e s) := .next (h.issue .runRti)

theorem Keeps.execFence : Runs s₀ (execFence e s) := .next (h.issue .runNop)

theorem Keeps.execTrap : Runs s₀ (execTrap e s) := .next (h.issue .runTrap)

theorem Keeps.execLog : Runs s₀ (execLog e s) := .next (h.issue .runLog)

end

/-! #### `Machine/GeckoAlu` -/

section
variable {s₀ s : State} {e : Fin 64} (h : Keeps s₀ s)
include h

omit h in
theorem RunKeeps.runAlu {nzcv : Bool} {f : Word → Word → AluOut} : RunKeeps (runAlu nzcv f) :=
  .eachLane fun _ _ _ _ h => .flySticky (.ite h.flyDr.fly h.flyDr)

omit h in
theorem RunKeeps.runCmp {f : Int → Int → Bool} : RunKeeps (runCmp f) := .eachLane fun _ _ _ _ h => h.fly

theorem Keeps.execAdd : Runs s₀ (execAdd e s) := .next (h.issue .runAlu)

theorem Keeps.execSub : Runs s₀ (execSub e s) := .next (h.issue .runAlu)

theorem Keeps.execAdds : Runs s₀ (execAdds e s) := .next (h.issue .runAlu)

theorem Keeps.execSubs : Runs s₀ (execSubs e s) := .next (h.issue .runAlu)

theorem Keeps.execAdd2 : Runs s₀ (execAdd2 e s) := .next (h.issue .runAlu)

theorem Keeps.execAdds2 : Runs s₀ (execAdds2 e s) := .next (h.issue .runAlu)

theorem Keeps.execSub2 : Runs s₀ (execSub2 e s) := .next (h.issue .runAlu)

theorem Keeps.execSubs2 : Runs s₀ (execSubs2 e s) := .next (h.issue .runAlu)

theorem Keeps.execAnd : Runs s₀ (execAnd e s) := .next (h.issue .runAlu)

theorem Keeps.execOr : Runs s₀ (execOr e s) := .next (h.issue .runAlu)

theorem Keeps.execXor : Runs s₀ (execXor e s) := .next (h.issue .runAlu)

theorem Keeps.execShl : Runs s₀ (execShl e s) := .next (h.issue .runAlu)

theorem Keeps.execShr : Runs s₀ (execShr e s) := .next (h.issue .runAlu)

theorem Keeps.execShra : Runs s₀ (execShra e s) := .next (h.issue .runAlu)

theorem Keeps.execMin : Runs s₀ (execMin e s) := .next (h.issue .runAlu)

theorem Keeps.execMax : Runs s₀ (execMax e s) := .next (h.issue .runAlu)

theorem Keeps.execAbs : Runs s₀ (execAbs e s) := .next (h.issue .runAlu)

theorem Keeps.execMin2 : Runs s₀ (execMin2 e s) := .next (h.issue .runAlu)

theorem Keeps.execMax2 : Runs s₀ (execMax2 e s) := .next (h.issue .runAlu)

theorem Keeps.execShra2 : Runs s₀ (execShra2 e s) := .next (h.issue .runAlu)

theorem Keeps.execCmpeq : Runs s₀ (execCmpeq e s) := .next (h.issue .runCmp)

theorem Keeps.execCmplt : Runs s₀ (execCmplt e s) := .next (h.issue .runCmp)

theorem Keeps.execCmple : Runs s₀ (execCmple e s) := .next (h.issue .runCmp)

theorem Keeps.execExpw : Runs s₀ (execExpw e s) := .next (h.issue .runAlu)

theorem Keeps.execExph : Runs s₀ (execExph e s) := .next (h.issue .runAlu)

theorem Keeps.execConj : Runs s₀ (execConj e s) := .next (h.issue .runAlu)

end

/-! #### `Machine/GeckoLs` -/

section
variable {s₀ s : State} {e : Fin 64} {k n lane off d : Nat} {ecc : Upsets} {xs : List EngAccess} {v : Word} {x : EngAccess}
  (h : Keeps s₀ s)
include h

theorem Keeps.updateAds : Keeps s₀ (s.updateAds k xs) := h.fold (fun _ _ => .setBankOf)

theorem Keeps.ioStore : Keeps s₀ (s.ioStore lane off v) := by
  unfold State.ioStore
  split
  · exact h.setDma
  · exact h.setDma
  · exact h.setDma
  · exact h.setDma
  · exact .ite h.dmaStart h
  · exact h

theorem Keeps.ioRead : Keeps s₀ (s.ioRead n x) := .ite h.setDma h

theorem Keeps.eccReads : Keeps s₀ (s.eccReads n xs) := by
  unfold State.eccReads
  refine h.fold (fun _ _ hy => ?_)
  split
  · exact hy.eccRead
  · exact hy

theorem Keeps.loads {r : List (EngAccess × Bytes × Nat) × State} (hr : s.loads k n xs = .ok r) : Keeps s₀ r.2 := by
  unfold State.loads at hr
  split at hr
  · cases hr
  · cases hr
    exact .fold (.ite_fst h.eccReads.dispqPop h.eccReads) fun _ _ => .ioRead

theorem Keeps.stored {accesses : List EngAccess} : Keeps s₀ (s.stored k n d accesses).2 := by
  induction accesses generalizing s with
  | nil => exact h
  | cons x xs ih => exact ih (.ite_snd h.readDr.readDr h.readDr)

theorem Keeps.storeOne {x : EngAccess × Bytes} : Keeps s₀ (s.storeOne x) := by
  unfold State.storeOne
  split
  · exact .ite h.ioStore.ioStore h.ioStore
  · split
    · exact h.setEmem
    · exact h

theorem Keeps.pushOnce {xs : List (EngAccess × Bytes)} : Keeps s₀ (s.pushOnce k xs) := by
  unfold State.pushOnce
  split
  · exact h.outPush
  · exact h

omit h in
theorem RunKeeps.runLoad {f : Bytes → List Word} : RunKeeps (runLoad n f) := by
  intro k w ex s₀ s h
  unfold Machine.runLoad
  split
  case h_1 => exact .error
  case h_2 loaded s1 hs =>
    have h1 : Keeps s₀ s1 := h.loads hs
    exact .ok (.updateAds (h1.fold fun _ _ hy => hy.fold fun _ _ => .flyDr))

theorem Keeps.execLd32 : Runs s₀ (execLd32 e ecc s) := .next (h.upset.issue .runLoad)

theorem Keeps.execLd64 : Runs s₀ (execLd64 e ecc s) := .next (h.upset.issue .runLoad)

theorem Keeps.execLd16s : Runs s₀ (execLd16s e ecc s) := .next (h.upset.issue .runLoad)

theorem Keeps.execLd16u : Runs s₀ (execLd16u e ecc s) := .next (h.upset.issue .runLoad)

omit h in
theorem RunKeeps.runStore : RunKeeps (runStore n) := by
  intro k w ex s₀ s h
  unfold Machine.runStore
  extract_lets xs r
  have hr : Keeps s₀ r.2 := h.stored
  split
  · exact .error
  · split
    · exact .error
    · exact .ok (.updateAds (.pushOnce (hr.fold fun _ _ hy => hy.storeOne)))

theorem Keeps.execSt32 : Runs s₀ (execSt32 e s) := .next (h.issue .runStore)

theorem Keeps.execSt64 : Runs s₀ (execSt64 e s) := .next (h.issue .runStore)

theorem Keeps.execSt16 : Runs s₀ (execSt16 e s) := .next (h.issue .runStore)

theorem Keeps.execDispqPop : Runs s₀ (execDispqPop e s) := .next (.ite (h.issue .runLoad) h)

theorem Keeps.execOutqPush : Runs s₀ (execOutqPush e s) := .next (.ite (h.issue .runStore) h)

theorem Keeps.execDmaGo : Runs s₀ (execDmaGo e s) := .next (.ite (h.issue .runStore) h)

theorem Keeps.execDmaStatusLoad : Runs s₀ (execDmaStatusLoad e s) := .next (.ite (h.issue .runLoad) h)

end

/-! #### `Machine/GeckoMac` -/

section
variable {s₀ s : State} {e : Fin 64} {ecc : Upsets} {k lane w n : Nat} {f : MacSums} {z : Int} (h : Keeps s₀ s)
include h

theorem Keeps.macLane : Keeps s₀ (s.macLane k w f lane) := h.fold (fun _ _ hy => hy.fly)

omit h in
theorem RunKeeps.runMac {f : MacSums} : RunKeeps (runMac f) := by
  intro k w ex s₀ s h
  unfold Machine.runMac
  split
  case h_1 => exact .error
  case h_2 loaded s1 hs =>
    extract_lets d s2 s3
    have h1 : Keeps s₀ s1 := h.loads hs
    have h2 : Keeps s₀ s2 := h1.fold fun _ _ => .macLane
    have h3 : Keeps s₀ s3 := h2.fold fun _ _ hy => hy.flyDr.flyDr
    exact .ok h3.updateAds

theorem Keeps.execCmac : Runs s₀ (execCmac e ecc s) := .next (h.upset.issue .runMac)

theorem Keeps.execCmacj : Runs s₀ (execCmacj e ecc s) := .next (h.upset.issue .runMac)

theorem Keeps.execCrmac : Runs s₀ (execCrmac e ecc s) := .next (h.upset.issue .runMac)

theorem Keeps.execDmac : Runs s₀ (execDmac e ecc s) := .next (h.upset.issue .runMac)

theorem Keeps.execQmac : Runs s₀ (execQmac e ecc s) := .next (h.upset.issue .runMac)

theorem Keeps.flyAc : Keeps s₀ (s.flyAc k lane n z) := h.fly

theorem Keeps.execRnd32 : Runs s₀ (execRnd32 e s) := .next (h.issue (.eachLane (fun _ _ _ _ hy => hy.flyDr.flySticky)))

theorem Keeps.execRndl : Runs s₀ (execRndl e s) := .next (h.issue (.eachLane (fun _ _ _ _ hy => hy.fly.flySticky)))

theorem Keeps.execRndh : Runs s₀ (execRndh e s) := .next (h.issue (.eachLane (fun _ _ _ _ hy => hy.fly.flySticky)))

theorem Keeps.execExpa : Runs s₀ (execExpa e s) := .next (h.issue (.eachLane (fun _ _ _ _ => .flyDr)))

theorem Keeps.execExpb : Runs s₀ (execExpb e s) := .next (h.issue (.eachLane (fun _ _ _ _ => .flyDr)))

theorem Keeps.execNorm : Runs s₀ (execNorm e s) := .next (h.issue (.eachLane (fun _ _ _ _ => .flyAc)))

theorem Keeps.execAshr : Runs s₀ (execAshr e s) := .next (h.issue (.eachLane (fun _ _ _ _ => .flyAc)))

theorem Keeps.execAclr : Runs s₀ (execAclr e s) := .next (h.issue (.eachLane (fun _ _ _ _ hy => hy.fold (fun _ _ => .flyAc))))

theorem Keeps.execAadd : Runs s₀ (execAadd e s) := .next (h.issue (.eachLane (fun _ _ _ _ => .flyAc)))

theorem Keeps.execAmov : Runs s₀ (execAmov e s) := .next (h.issue (.eachLane (fun _ _ _ _ => .flyAc)))

end

/-! #### `Machine/GeckoSfu` -/

section
variable {s₀ s : State} {e : Fin 64} {k lane latency name : Nat} {v : Word × Word} (h : Keeps s₀ s)
include h

theorem Keeps.flyPair : Keeps s₀ (s.flyPair k lane latency name v) := h.flyDr.flyDr

theorem Keeps.execVec : Runs s₀ (execVec e s) := .next (h.issue (.eachLane (fun _ _ _ _ => .flyPair)))

theorem Keeps.execRot : Runs s₀ (execRot e s) :=
  .next (h.issue (.eachLane (fun _ _ _ _ hy => hy.readDr.readDr.flyPair.flySticky)))

theorem Keeps.execSincos : Runs s₀ (execSincos e s) := .next (h.issue (.eachLane (fun _ _ _ _ => .flyPair)))

theorem Keeps.execRecip : Runs s₀ (execRecip e s) := .next (h.issue (.eachLane (fun _ _ _ _ hy => hy.flyPair.flySticky)))

theorem Keeps.execRsqrt : Runs s₀ (execRsqrt e s) := .next (h.issue (.eachLane (fun _ _ _ _ hy => hy.flyPair.flySticky)))

theorem Keeps.execMov : Runs s₀ (execMov e s) := .next (h.issue (.eachLane (fun _ _ _ _ => .flyDr)))

theorem Keeps.execMovi : Runs s₀ (execMovi e s) := .next (h.issue (.eachLane (fun _ _ _ _ => .flyDr)))

theorem Keeps.execSrd : Runs s₀ (execSrd e s) := .next (h.issue (.eachLane (fun _ _ _ _ => .flyDr)))

omit h in
theorem RunKeeps.runSwr : RunKeeps runSwr := by
  intro k w ex s₀ s h
  unfold Machine.runSwr
  refine .ok ?_
  split
  · exact h
  · exact .ite h.fly <| .ite h.setThread <| .ite (h.fold fun _ _ hy => hy.fly) (h.fold fun _ _ => .setBankOf)

theorem Keeps.execSwr : Runs s₀ (execSwr e s) := .next (h.issue .runSwr)

omit h in
theorem RunKeeps.runXch {f : List Word → Nat → Nat → Word × Bool} : RunKeeps (runXch f) :=
  fun _ _ _ _ _ h => .ok (h.fold fun _ _ hy => hy.flyDr.flySticky)

theorem Keeps.execLrot : Runs s₀ (execLrot e s) := .next (h.issue .runXch)

theorem Keeps.execLbc : Runs s₀ (execLbc e s) := .next (h.issue .runXch)

theorem Keeps.execLsum : Runs s₀ (execLsum e s) := .next (h.issue .runXch)

theorem Keeps.execLmin : Runs s₀ (execLmin e s) := .next (h.issue .runXch)

theorem Keeps.execLmax : Runs s₀ (execLmax e s) := .next (h.issue .runXch)

end

/-! #### `Machine/HostDma` -/

section
variable {s₀ s : State} {x : Transfer} {t dst : Nat} {b data : Bytes} {paths : List Nat} {o : Origin} {seq : Word} {ok : Bool}
  {cmd : BitVec 8} (h : Keeps s₀ s)
include h

theorem Keeps.sendData {k : Nat} {bytes : Bytes} : Keeps s₀ (State.sendData dst k bytes s) := by
  induction k generalizing s bytes with
  | zero => exact h
  | succ k ih => exact .ite h (ih h.chorusSend)

theorem Keeps.toBuffer : Keeps s₀ (s.toBuffer x b) := by
  unfold State.toBuffer
  split
  · exact h.give
  · exact h.sendData

theorem Keeps.clearLogs : Keeps s₀ (s.clearLogs paths) := h.filterLogs

theorem Keeps.transferDone : Keeps s₀ (s.transferDone x data) := by
  unfold State.transferDone
  split
  · exact h.takeChunk.answer
  · exact h.takeSubmission
  · exact h.toBuffer.answer
  · exact h.toBuffer.clearLogs.answer
  · exact .answer (h.toBuffer.upd rfl rfl)
  · exact h.sendData

theorem Keeps.execHostDmaComplete {data : List (BitVec 8)} : Runs s₀ (execHostDmaComplete o seq ok data t s) := by
  unfold Machine.execHostDmaComplete
  refine .next ?_
  split
  · exact h.at_
  · refine .ite h.at_.dmcTouch <| .ite (.transferDone (h.at_.upd rfl rfl)) <| .answer (.raise (.post ?_))
    split
    · exact .chunkLost (h.at_.upd rfl rfl)
    · exact h.at_.upd rfl rfl

theorem Keeps.execSmbusBlockRead : Runs s₀ (execSmbusBlockRead cmd t s) := .next (.ite h.at_ h.at_.give)

end

/-! #### `Machine/Windows` -/

section
variable {s₀ s : State} {write sil : Bool} {len ap t addr a : Nat} {data : Bytes} {src : Src} {ecc : Upsets} {off : BitVec 26}
  (h : Keeps s₀ s)
include h

theorem Keeps.unmapped : Keeps s₀ (s.unmapped write addr) := .ite h.post.raise h.post.raise.give

theorem Keeps.outsideRead : Keeps s₀ (s.outsideRead ap len) := h.eccRead.fold (fun _ _ => .eccEvent)

theorem Keeps.apertureServe : Keeps s₀ (s.apertureServe write ap data len) := by
  unfold State.apertureServe
  refine .ite ?_ h.outsideRead.give
  split
  · exact .ite h.setEmem h.logAt.raise
  · exact h.setEmem

theorem Keeps.aperture : Keeps s₀ (s.aperture src write ap data len) :=
  .ite (.ite h.logOff h.logOff.give) <| .ite h.unmapped h.apertureServe

theorem Keeps.execApertureAccess {data : List (BitVec 8)} : Runs s₀ (execApertureAccess sil src write off data len ecc t s) :=
  .next (.ite (.ite h.at_.upset (.ite h.at_.upset.setEmem h.at_.upset.outsideRead)) h.at_.upset.aperture)

theorem Keeps.windowDram : Keeps s₀ (s.windowDram write a data len) := .ite h.frozenWindow h.dmcEnqueue

theorem Keeps.execBar2Access {off : BitVec 28} {data : List (BitVec 8)} : Runs s₀ (execBar2Access write off data len ecc t s) :=
  .next (.ite h.at_.upset (.ite h.at_.upset.windowDram (.ite h.at_.upset.aperture h.at_.upset.unmapped)))

end

/-! ### Every command, and every step -/

/-- Each command answers a next state, and that is kept. The lemmas stand in the order of the commands. -/
theorem Keeps.exec {s₀ s : State} (h : Keeps s₀ s) (c : Instr) : Runs s₀ (Machine.exec c s) := by
  unfold Machine.exec
  split
  · exact h.execPowerOnReset
  · exact h.execPowerOnResetRelease
  · exact h.execResetN
  · exact h.execWarmResetRelease
  · exact h.execCoreSupply
  · exact h.execCoreSupplyRecovered
  · exact h.execTrstN
  · exact h.execPerstAssert
  · exact h.execPerstDeassert
  · exact h.execHeaderRead
  · exact h.execLinkTrained
  · exact h.execLinkL1Entry
  · exact h.execLinkL1Exit
  · exact h.execFrameBoundary
  · exact h.execAcquisitionStopped
  · exact h.execVirtualFrameTimeout
  · exact h.execLaunchInEdge
  · exact h.execSlaveLaunchReference
  · exact h.execToneLaunch
  · exact h.execGateEdge
  · exact h.execLaunchOutEdge
  · exact h.execCalSelChange
  · exact h.execPgaStep
  · exact h.execBlankWindowEdge
  · exact h.execBlankInChange
  · exact h.execNotify
  · exact h.execGpioSet
  · exact h.execGpioClear
  · exact h.execDecision
  · exact h.execCaptureOpen
  · exact h.execTimer
  · exact h.execSlotDoorbell
  · exact h.execDynamicSlotRequest
  · exact h.execDynamicSlotCancel
  · exact h.execBlockDispatch
  · exact h.execAcqStart
  · exact h.execAcqStop
  · exact h.execMrsCountClr
  · exact h.execHealthClr
  · exact h.execRebalanceReset
  · exact h.execImageBegin
  · exact h.execImageChunk
  · exact h.execBootImageLoad
  · exact h.execImageChecksComplete
  · exact h.execSwitchNext
  · exact h.execSwitchAt
  · exact h.execImageDisarm
  · exact h.execImageAbort
  · exact h.execImageState
  · exact h.execLockClr
  · exact h.execHeavySwitchDrainDone
  · exact h.execEngineLoadComplete
  · exact h.execPointerRecordAppend
  · exact h.execRegisterWrite
  · exact h.execOffAccess
  · exact h.execCalRun
  · exact h.execPguFaultClr
  · exact h.execPguCountClr
  · exact h.execPdacPllLock
  · exact h.execPllUnlock
  · exact h.execFafeCalReq
  · exact h.execMafeCalReq
  · exact h.execAdcCalibrationDone
  · exact h.execStepcalReq
  · exact h.execStepcalDone
  · exact h.execFafeCountClr
  · exact h.execMafeCountClr
  · exact h.execFafeFaultClr
  · exact h.execMafeFaultClr
  · exact h.execTfEvaluation
  · exact h.execTfStage
  · exact h.execTfLoad
  · exact h.execTfCommit
  · exact h.execTfDiscard
  · exact h.execTemplateBuildDone
  · exact h.execPcxFaultClr
  · exact h.execPcxCountClr
  · exact h.execBankRelease
  · exact h.execNop
  · exact h.execBr
  · exact h.execCall
  · exact h.execRet
  · exact h.execLoop
  · exact h.execRep
  · exact h.execWait
  · exact h.execHalt
  · exact h.execRti
  · exact h.execFence
  · exact h.execTrap
  · exact h.execLog
  · exact h.execAdd
  · exact h.execSub
  · exact h.execAdds
  · exact h.execSubs
  · exact h.execAdd2
  · exact h.execAdds2
  · exact h.execSub2
  · exact h.execSubs2
  · exact h.execAnd
  · exact h.execOr
  · exact h.execXor
  · exact h.execShl
  · exact h.execShr
  · exact h.execShra
  · exact h.execMin
  · exact h.execMax
  · exact h.execAbs
  · exact h.execMin2
  · exact h.execMax2
  · exact h.execShra2
  · exact h.execCmpeq
  · exact h.execCmplt
  · exact h.execCmple
  · exact h.execExpw
  · exact h.execExph
  · exact h.execConj
  · exact h.execCmac
  · exact h.execCmacj
  · exact h.execCrmac
  · exact h.execDmac
  · exact h.execQmac
  · exact h.execRnd32
  · exact h.execRndl
  · exact h.execRndh
  · exact h.execExpa
  · exact h.execExpb
  · exact h.execNorm
  · exact h.execAshr
  · exact h.execAclr
  · exact h.execAadd
  · exact h.execAmov
  · exact h.execLd32
  · exact h.execLd64
  · exact h.execLd16s
  · exact h.execLd16u
  · exact h.execSt32
  · exact h.execSt64
  · exact h.execSt16
  · exact h.execVec
  · exact h.execRot
  · exact h.execSincos
  · exact h.execRecip
  · exact h.execRsqrt
  · exact h.execMov
  · exact h.execMovi
  · exact h.execSrd
  · exact h.execSwr
  · exact h.execLrot
  · exact h.execLbc
  · exact h.execLsum
  · exact h.execLmin
  · exact h.execLmax
  · exact h.execResultWriteback
  · exact h.execInterruptEntry
  · exact h.execDispqPop
  · exact h.execOutqPush
  · exact h.execDmaGo
  · exact h.execDmaDone
  · exact h.execDmaStatusLoad
  · exact h.execHaltReq
  · exact h.execHaltComplete
  · exact h.execResume
  · exact h.execGeaFaultClr
  · exact h.execGeaDoorbell
  · exact h.execGeaCountClr
  · exact h.execApertureAccess
  · exact h.execBar2Access
  · exact h.execZoneAdd
  · exact h.execZoneRemove
  · exact h.execZoneRead
  · exact h.execStatsReset
  · exact h.execZntCountClr
  · exact h.execZntFaultClr
  · exact h.execCapArm
  · exact h.execCapDisarm
  · exact h.execCapTrigger
  · exact h.execCapSetLength
  · exact h.execCapState
  · exact h.execCapturePostComplete
  · exact h.execCaptureDeliveryDone
  · exact h.execStuCountClr
  · exact h.execStuFaultClr
  · exact h.execTceBlockIntake
  · exact h.execTceBlockCoded
  · exact h.execTceCountClr
  · exact h.execTceFaultClr
  · exact h.execDmcInit
  · exact h.execDmcInitComplete
  · exact h.execDramReset
  · exact h.execDmcCountClr
  · exact h.execScrubNow
  · exact h.execScrubPeriod
  · exact h.execDmcRequest
  · exact h.execRefreshInterval
  · exact h.execRefreshIssue
  · exact h.execMr4Poll
  · exact h.execZqCalibration
  · exact h.execRowIdleClose
  · exact h.execSrEntry
  · exact h.execSrExit
  · exact h.execUnretainedFillDone
  · exact h.execDmcDiagRead
  · exact h.execArcRead
  · exact h.execArcDelete
  · exact h.execArcCommit
  · exact h.execArcFormat
  · exact h.execArcInfo
  · exact h.execPatrolNow
  · exact h.execAncCountClr
  · exact h.execAncFaultClr
  · exact h.execAncMount
  · exact h.execFormatComplete
  · exact h.execArchiveRecordSubmit
  · exact h.execStagedRecordProgram
  · exact h.execPageProgramDone
  · exact h.execNandOpTimeout
  · exact h.execCommitMsExpiry
  · exact h.execCommitInForce
  · exact h.execCheckpointWritten
  · exact h.execPatrolRead
  · exact h.execNandZqCalibration
  · exact h.execFlushComplete
  · exact h.execPwrfailAssert
  · exact h.execPwrfailRelease
  · exact h.execCvuInit
  · exact h.execCvuGo
  · exact h.execCvuAbort
  · exact h.execCvuDataWrite
  · exact h.execCvuCfgWrite
  · exact h.execCvuTransferDone
  · exact h.execCvuCountClr
  · exact h.execSetNow
  · exact h.execSetAtPps
  · exact h.execCancelSet
  · exact h.execTtuCountClr
  · exact h.execPpsInEdge
  · exact h.execPpsMissing
  · exact h.execRefclkWindow
  · exact h.execRefclkTimeout
  · exact h.execHoldLimit
  · exact h.execPpsOutPulse
  · exact h.execOscOffsetReport
  · exact h.execTtuNowRead
  · exact h.execEvEdge
  · exact h.execStuck
  · exact h.execHfWindow
  · exact h.execTtuArm
  · exact h.execStampQueueRead
  · exact h.execIuCfgWrite
  · exact h.execIuMeanRead
  · exact h.execIuCountRead
  · exact h.execIuWindowExpiry
  · exact h.execTdcCalibration
  · exact h.execVpfConversion
  · exact h.execVpfExcWrite
  · exact h.execPause
  · exact h.execVpfResume
  · exact h.execVpfCalReq
  · exact h.execVpfFaultClr
  · exact h.execVpfCountClr
  · exact h.execVpfCalibrationDone
  · exact h.execMainsSyncEdge
  · exact h.execMainsTimeout
  · exact h.execReferenceComparison
  · exact h.execDlkTransact
  · exact h.execSafe
  · exact h.execDlkResume
  · exact h.execDlkFaultClr
  · exact h.execDlkCountClr
  · exact h.execStatusPoll
  · exact h.execPostDiagRead
  · exact h.execDlkResponse
  · exact h.execDlkResponseTimeout
  · exact h.execPowerVote
  · exact h.execUnitVote
  · exact h.execPowerStepComplete
  · exact h.execDmcPortRelease
  · exact h.execOfflogRead
  · exact h.execPmuCountClr
  · exact h.execOfflogClr
  · exact h.execSqTailWrite
  · exact h.execCqHeadWrite
  · exact h.execSessionOpen
  · exact h.execSessionClose
  · exact h.execSessionReopen
  · exact h.execSession0Open
  · exact h.execEcho
  · exact h.execUnitStatus
  · exact h.execErrorLog
  · exact h.execIdentity
  · exact h.execAlmSummary
  · exact h.execViolationLog
  · exact h.execVlogRead
  · exact h.execRegRead
  · exact h.execRegWrite
  · exact h.execCascadeInfo
  · exact h.execHifCountClr
  · exact h.execVlogClr
  · exact h.execStreamEnable
  · exact h.execStreamRdWrite
  · exact h.execStreamRecordWrite
  · exact h.execStreamDrop
  · exact h.execMsixUnmask
  · exact h.execSmbusBlockRead
  · exact h.execTrain
  · exact h.execTrainingEnd
  · exact h.execCcReq
  · exact h.execCcPeriodExpiry
  · exact h.execCcTimeout
  · exact h.execReopen
  · exact h.execCspCountClr
  · exact h.execHello
  · exact h.execEnum
  · exact h.execRequest
  · exact h.execAnswer
  · exact h.execData
  · exact h.execTrace
  · exact h.execPrepare
  · exact h.execPrepared
  · exact h.execChorusNak
  · exact h.execChorusCrcReject
  · exact h.execHopRetransmit
  · exact h.execHelloTimer
  · exact h.execEnumTimeout
  · exact h.execMemberLost
  · exact h.execLinkDown
  · exact h.execCalRecordAppend
  · exact h.execCalRecordRead
  · exact h.execRunRecordStored
  · exact h.execPoweredMinute
  · exact h.execIndicatorSample
  · exact h.execHistorySubmit
  · exact h.execEpochLoadComplete
  · exact h.execFlush
  · exact h.execAlmCountClr
  · exact h.execWarmReq
  · exact h.execCauseClr
  · exact h.execGlbCountClr
  · exact h.execWdtEnable
  · exact h.execWdtKick
  · exact h.execWdtWarn
  · exact h.execWdtExpiry
  · exact h.execFlushResetTimeout
  · exact h.execTjSample
  · exact h.execChirpEnd
  · exact h.execActiveCopyRewriteDone
  · exact h.execHostDmaComplete
  · exact h.execNandPageReadDone
  · exact h.execBusMasterEnable

/-- A step that answers a next state answers one that is kept, seen from the state without the command it takes. -/
theorem step_keeps {s t : State} (ht : step s = .next t) : Keeps { s with pending := s.pending.tail } t := by
  unfold step at ht
  split at ht
  case h_1 hq =>
    cases ht
    rw [hq]
    exact .idle (.upd rfl rfl (.refl _))
  case h_2 c rest hq =>
    rw [hq]
    obtain ⟨u, hu, hk⟩ := (Keeps.refl { s with pending := rest }).exec c
    rw [ht] at hu
    cases hu
    exact hk

/-- Settles O4: each step runs one command, or one fast sample passes, and neither leaves the canonical form. -/
theorem stepKeepsCanonical : Obligations.StepKeepsCanonical := fun _ _ hs ht => (step_keeps ht).canonical hs

end Sys2Proof.Laws
end

/-! PROOFS. The ring of an error log (01 R56). -/

section
namespace Sys2Proof.Laws

open Sys2Proof Sys2Proof.Machine

theorem length_leBytes (n v : Nat) : (leBytes n v).length = n := by
  induction n generalizing v with
  | zero => rfl
  | succ n ih => exact congrArg (· + 1) (ih _)

theorem logEntry_length_bytes (e : LogEntry) : e.bytes.length = 16 := by
  simp [LogEntry.bytes, length_leBytes]

/-- A full ring drops its oldest entry for a new one. -/
theorem lastN_append_singleton {α : Type} {n : Nat} {l : List α} (hl : l.length ≤ n) (hn : 0 < n) (x : α) :
    lastN n (l ++ [x]) = (if l.length = n then l.tail else l) ++ [x] := by
  rw [lastN, List.length_append, List.length_singleton]
  split
  case isTrue full =>
    rw [full, Nat.add_sub_cancel_left, List.drop_append_of_le_length (by omega), List.drop_one]
  case isFalse room =>
    rw [Nat.sub_eq_zero_of_le (by omega), List.drop_zero]

theorem add_entries_of_new {l : UnitLog} {e : LogEntry} (hl : l.entries.length ≤ 16)
    (new : ∀ x, l.entries.getLast? = some x → ¬(x.code = e.code ∧ x.frame = e.frame)) :
    (l.add e).entries = (if l.entries.length = 16 then l.entries.tail else l.entries) ++ [e] := by
  unfold UnitLog.add
  split
  case h_1 x hx =>
    rw [if_neg (new x hx)]
    exact lastN_append_singleton hl (by decide) e
  case h_2 hnone =>
    rw [List.getLast?_eq_none_iff.mp hnone]
    rfl

theorem logOf_logFor_self {s : State} (hs : s.logsWf = true) (p code frame bin : Nat) :
    (s.logFor p code frame bin).logOf p = (s.logOf p).add ⟨frame, code, bin, 0, p⟩ :=
  tabGet_tabPut_self _ s.logs p _ none (Bool.and_eq_true_iff.mp hs).1

theorem logOf_logFor_of_ne (s : State) {p q : Nat} (hq : q ≠ p) (code frame bin : Nat) :
    (s.logFor p code frame bin).logOf q = s.logOf q :=
  tabGet_tabPut_ne _ s.logs p q _ hq

theorem length_logOf_le {s : State} (hs : s.logsWf = true) (p : Nat) : (s.logOf p).entries.length ≤ 16 :=
  logOf_length s p (Bool.and_eq_true_iff.mp hs).2

/-- Settles O8: a log takes its new entry in `UnitLog.add`, and a canonical log holds at most 16. -/
theorem errorLogRing : Obligations.ErrorLogRing := by
  refine ⟨logEntry_length_bytes, ?_⟩
  rintro s p code frame bin ⟨-, hlogs, -⟩
  have fits := length_logOf_le hlogs p
  rw [logOf_logFor_self hlogs]
  exact ⟨add_length _ _ fits, add_entries_of_new (e := ⟨frame, code, bin, 0, p⟩) fits, fun _ hq => logOf_logFor_of_ne s hq code frame bin⟩

end Sys2Proof.Laws
end

/-! PROOFS. When a boundary falls: the part's own, a launch reference, a missing edge (01 R40-R42, 08 R265, 14 R399). -/

section
namespace Sys2Proof.Laws

open Sys2Proof Sys2Proof.Machine

section
variable {s : State} {t : Nat} {fadc madc : List (List Int)} {runs : List Nat} {cycles : Nat}

theorem exec_frameBoundary_of_due {i : Nat} (own : s.ownBoundary = some i) (due : i ≤ t) :
    exec (.frameBoundary t fadc madc runs cycles) s = .next ((s.boundary ⟨fadc, madc, runs, cycles⟩ i none false).at_ t) := by
  change execFrameBoundary t fadc madc runs cycles s = _
  simp [execFrameBoundary, own, due]

theorem exec_virtualFrameTimeout_of_due (slave : s.slave = true) (opened : s.mrs.open_ = true) (noRefs : s.mrs.pendRefs = [])
    (due : s.launch + (if s.forMissing then s.fld F.MRS_PERIOD.T else s.tMax) ≤ t) :
    exec (.virtualFrameTimeout t fadc madc runs cycles) s
      = .next ((s.boundary ⟨fadc, madc, runs, cycles⟩ (s.launch + (if s.forMissing then s.fld F.MRS_PERIOD.T else s.tMax)) none true).at_ t) := by
  change execVirtualFrameTimeout t fadc madc runs cycles s = _
  simp [execVirtualFrameTimeout, slave, opened, noRefs, due]

theorem exec_slaveLaunchReference_of_due {r e : Nat} {rest : List (Nat × Nat)} (refs : s.mrs.pendRefs = (r, e) :: rest)
    (slave : s.slave = true) (opened : s.mrs.open_ = true) (due : r ≤ t) :
    exec (.slaveLaunchReference t fadc madc runs cycles) s
      = .next ((({ s with mrs := { s.mrs with pendRefs := rest } } : State).boundary ⟨fadc, madc, runs, cycles⟩
          (max r s.launch) (some e) false).at_ t) := by
  change execSlaveLaunchReference t fadc madc runs cycles s = _
  simp [execSlaveLaunchReference, refs, slave, opened, due]

theorem exec_acquisitionStopped_of_delivered (stopping : (s.at_ t).acq = Mrs.stopping) (delivered : (s.at_ t).lastDelivered = true) :
    exec (.acquisitionStopped t) s = .next (s.at_ t).acqStopped :=
  congrArg Host.Outcome.next (if_pos ⟨stopping, delivered⟩)

end

section
variable {s : State} {stamp : Nat} {falling : Bool}

theorem launchStamps_iff : s.launchStamps stamp falling = true ↔
    falling = s.flag F.PGU_LAUNCH_CFG.IN_EDGE ∧ ∀ e, s.ttu.launchStamp = some e → e + 512 ≤ stamp := by
  unfold State.launchStamps
  cases s.ttu.launchStamp <;> simp

/-- The state in which an edge has been stamped, at the instant of its stamp. -/
def launchStamped (s : State) (stamp : Nat) : State :=
  let u := s.at_ (5 * stamp / 2048)
  { u with ttu := { u.ttu with launchStamp := some stamp } }

/-- The state in which the edge is accepted: its launch reference is the first fast sample at or after stamp + L (01 R41). -/
def launchAccepted (s : State) (stamp : Nat) : State :=
  { s with mrs := { s.mrs with
    lastEdge := some stamp, pendRefs := s.mrs.pendRefs ++ [((5 * stamp + 2047) / 2048 + s.fld F.MRS_SLAVE_L.L, stamp)] } }

/-- An edge comes less than T_MIN after the last accepted one (01 R42). -/
def launchEarly (s : State) (stamp : Nat) : Bool :=
  match s.mrs.lastEdge with
  | some e => decide (5 * stamp < 5 * e + s.fld F.MRS_TMIN.T_MIN * 2048)
  | none => false

theorem launchEarly_of_lt {e : Nat} (last : s.mrs.lastEdge = some e) (h : 5 * stamp < 5 * e + s.fld F.MRS_TMIN.T_MIN * 2048) :
    launchEarly s stamp = true := by
  simp [launchEarly, last, h]

theorem launchEarly_of_forall_le (h : ∀ e, s.mrs.lastEdge = some e → 5 * e + s.fld F.MRS_TMIN.T_MIN * 2048 ≤ 5 * stamp) :
    launchEarly s stamp = false := by
  unfold launchEarly
  split
  case h_1 e last => exact decide_eq_false (Nat.not_lt.mpr (h e last))
  case h_2 => rfl

theorem exec_launchInEdge_of_not_stamps (unstamped : (s.at_ (5 * stamp / 2048)).launchStamps stamp falling = false) :
    exec (.launchInEdge stamp falling) s = .next (s.at_ (5 * stamp / 2048)) :=
  congrArg Host.Outcome.next (if_pos (by rw [unstamped]; rfl))

section
variable (stamps : (s.at_ (5 * stamp / 2048)).launchStamps stamp falling = true)
include stamps

theorem exec_launchInEdge_of_stamps : exec (.launchInEdge stamp falling) s = .next (
    let a := launchStamped s stamp
    if !(s.at_ (5 * stamp / 2048)).slave then a
    else if launchEarly a stamp then a.count F.MRS_LAUNCH_IGNORED.COUNT 1
    else launchAccepted a stamp) :=
  congrArg Host.Outcome.next (if_neg (by simp [stamps]))

theorem exec_launchInEdge_of_master (master : (s.at_ (5 * stamp / 2048)).slave = false) :
    exec (.launchInEdge stamp falling) s = .next (launchStamped s stamp) := by
  simp [exec_launchInEdge_of_stamps stamps, master]

theorem exec_launchInEdge_of_early (slave : (s.at_ (5 * stamp / 2048)).slave = true)
    (early : launchEarly (launchStamped s stamp) stamp = true) :
    exec (.launchInEdge stamp falling) s = .next ((launchStamped s stamp).count F.MRS_LAUNCH_IGNORED.COUNT 1) := by
  simp [exec_launchInEdge_of_stamps stamps, slave, early]

theorem exec_launchInEdge_of_accepted (slave : (s.at_ (5 * stamp / 2048)).slave = true)
    (late : launchEarly (launchStamped s stamp) stamp = false) :
    exec (.launchInEdge stamp falling) s = .next (launchAccepted (launchStamped s stamp) stamp) := by
  simp [exec_launchInEdge_of_stamps stamps, slave, late]

end

end

/-- Settles O22: each command under the conditions that its own `exec_` lemma names. -/
theorem frameCommandsComplete : Obligations.FrameCommandsComplete := by
  intro s t stamp fadc madc runs cycles falling u x
  refine ⟨fun i => exec_frameBoundary_of_due, ?_, fun r e rest => exec_slaveLaunchReference_of_due, ?_,
    exec_acquisitionStopped_of_delivered⟩
  · rintro i rfl slave opened refs due
    exact exec_virtualFrameTimeout_of_due slave opened refs due
  · intro v a stamped
    have stamps : v.launchStamps stamp falling = true ↔ stamped := launchStamps_iff
    refine ⟨fun h => ?_, fun h master => ?_, fun e h slave last lt => ?_, fun h slave le => ?_⟩
    · exact exec_launchInEdge_of_not_stamps (Bool.eq_false_iff.mpr (mt stamps.mp h))
    · exact exec_launchInEdge_of_master (stamps.mpr h) master
    · exact exec_launchInEdge_of_early (stamps.mpr h) slave (launchEarly_of_lt last lt)
    · exact exec_launchInEdge_of_accepted (stamps.mpr h) slave (launchEarly_of_forall_le le)

end Sys2Proof.Laws
end

/-! PROOFS. The frame in progress: only a boundary changes its number and its launch reference (01 R35, R36). -/

section
namespace Sys2Proof.Laws

open Sys2Proof Sys2Proof.Machine

/-- The frame in progress has this number and this launch reference. -/
structure InFrame (num launch : Nat) (s : State) : Prop where
  number : s.frame = num
  reference : s.launch = launch

/-! ### How the law runs through updates, branches and folds -/

section
variable {num launch : Nat} {s t : State} {c : Prop} [Decidable c]

/-- A change of fields other than the frame's number and launch reference. -/
theorem InFrame.upd {x_pending : List Instr} {x_now : Nat} {x_regs : List (Nat × Word)} {x_logs : List (Nat × UnitLog)} {x_otp : Otp} {x_flash : Mem}
    {x_glb : GlbSt} {x_pmu : PmuSt} {x_hif : HifSt} {x_pgu : PguSt} {x_afe : AfeSt} {x_pcx : PcxSt} {x_gea : GeaSt} {x_therm : ThermSt}
    {x_mrs : MrsSt} {x_znt : ZntSt} {x_stu : StuSt} {x_tce : TceSt} {x_anc : AncSt} {x_vpf : VpfSt} {x_dlk : DlkSt} {x_csp : CspSt} {x_sil : SilSt}
    {x_ttu : TtuSt} {x_dmc : DmcSt} {x_alm : AlmSt} {x_cvu : List (Nat × Nat × Nat)} {x_gpio : BitVec 16} {x_gaps : List GapNote} {x_free : Nat}
    {x_out : List Out} (h : InFrame num launch s) :
    InFrame num launch ⟨x_pending, x_now, s.frame, s.launch, x_regs, x_logs, x_otp, x_flash, x_glb, x_pmu, x_hif, x_pgu, x_afe, x_pcx, x_gea,
      x_therm, x_mrs, x_znt, x_stu, x_tce, x_anc, x_vpf, x_dlk, x_csp, x_sil, x_ttu, x_dmc, x_alm, x_cvu, x_gpio, x_gaps, x_free, x_out⟩ :=
  ⟨h.number, h.reference⟩

theorem InFrame.ite (h : InFrame num launch s) (k : InFrame num launch t) : InFrame num launch (if c then s else t) := by
  split <;> assumption

theorem InFrame.ite_fst {β : Type} {p q : State × β} (h : InFrame num launch p.1) (k : InFrame num launch q.1) :
    InFrame num launch (if c then p else q).1 := by
  split <;> assumption

theorem InFrame.ite_snd {β : Type} {p q : β × State} (h : InFrame num launch p.2) (k : InFrame num launch q.2) :
    InFrame num launch (if c then p else q).2 := by
  split <;> assumption

theorem InFrame.fold {β : Type} {f : State → β → State} {l : List β} (h : InFrame num launch s)
    (k : ∀ y x, InFrame num launch y → InFrame num launch (f y x)) : InFrame num launch (l.foldl f s) := by
  induction l generalizing s with
  | nil => exact h
  | cons x l ih => exact ih (k s x h)

theorem InFrame.fold_snd {β γ : Type} {f : γ × State → β → γ × State} {l : List β} {p : γ × State} (h : InFrame num launch p.2)
    (k : ∀ y x, InFrame num launch y.2 → InFrame num launch (f y x).2) : InFrame num launch (l.foldl f p).2 := by
  induction l generalizing p with
  | nil => exact h
  | cons x l ih => exact ih (k p x h)

end

/-! ### The operations that follow the opening of a frame, block by block

One lemma for each, along its definition: a chain of lemmas for a chain of operations, `InFrame.ite` for a choice, `InFrame.fold` for a
repetition, and `InFrame.upd` for a change of a block's own record. -/

section
variable {num launch : Nat} {s : State}

/-! #### Registers, logs, interrupts and answers -/

section
variable {n code detail off path frame bin type dst arg source v : Nat} {u : Machine.Unit} {f : Fld} {payload bytes : Bytes} {via : Via}
  {out : Out} {w seq : Word} {x : Session}
  (h : InFrame num launch s)
include h

theorem InFrame.give : InFrame num launch (s.give out) := h.upd

theorem InFrame.setReg : InFrame num launch (s.setReg off w) := h.upd

theorem InFrame.setFld : InFrame num launch (s.setFld f n) := h.setReg

theorem InFrame.count : InFrame num launch (s.count f n) := h.setFld

theorem InFrame.logFor : InFrame num launch (s.logFor path code frame bin) := h.upd

theorem InFrame.logAt : InFrame num launch (s.logAt path code) := h.logFor

theorem InFrame.signal : InFrame num launch (s.signal v) := .ite h <| .ite h.setReg <| .ite h.upd h

theorem InFrame.settleIrqAt : InFrame num launch (s.settleIrqAt n) := .ite (.signal h.upd) h.upd

theorem InFrame.raise : InFrame num launch (s.raise u f) := h.setFld.settleIrqAt

theorem InFrame.show : InFrame num launch (s.show u code detail) := by
  unfold State.show
  split
  · exact h.setFld.setFld
  · exact h

theorem InFrame.post : InFrame num launch (s.post u code detail) := .ite h.show h.show.logAt

theorem InFrame.chorusSend : InFrame num launch (s.chorusSend type dst arg payload) := .give (.ite h.upd h)

theorem InFrame.setSession : InFrame num launch (s.setSession n x) := h.upd

theorem InFrame.putAnswer : InFrame num launch (s.putAnswer n bytes) := by
  unfold State.putAnswer
  split
  · exact h
  · exact .ite h.setSession <| .signal h.setSession.upd

theorem InFrame.answer {o : Origin} : InFrame num launch (s.answer o seq code source detail payload) := by
  unfold State.answer
  split
  · exact h
  · refine .ite h.upd ?_
    split
    · exact .putAnswer h.upd
    · exact .chorusSend h.upd

theorem InFrame.finish : InFrame num launch (s.finish via u code detail payload) := by
  unfold State.finish
  split
  · exact h.post
  · exact h.post.answer

end

/-! #### Power and the DRAM controller's low-power states -/

section
variable {i v d cmd low cls r st dest : Nat} {x : Voter} {ds : List Nat}
  (h : InFrame num launch s)
include h

theorem InFrame.dmcCmd : InFrame num launch (s.dmcCmd cmd low cls) := h.upd

theorem InFrame.refStart : InFrame num launch (s.refStart r) := h.upd

theorem InFrame.srxIssue : InFrame num launch s.srxIssue := h.setFld.fold (fun _ _ hy => hy.dmcCmd.refStart)

theorem InFrame.srWake : InFrame num launch s.srWake := .ite h.srxIssue <| .ite h.upd h

theorem InFrame.dmcKeep : InFrame num launch s.dmcKeep := .ite h.setFld <| .ite h.upd h

theorem InFrame.dmcStep : InFrame num launch (s.dmcStep st dest) := .ite h.dmcKeep <| .ite (.srWake h.upd) h

theorem InFrame.afeSleep : InFrame num launch (s.afeSleep d) := .ite h.upd <| .ite h.upd h

theorem InFrame.startStep : InFrame num launch (s.startStep d) :=
  .ite (.ite (.dmcStep (.setFld (.ite h.afeSleep h))) (.setFld (.ite h.afeSleep h))) h

theorem InFrame.startSteps : InFrame num launch s.startSteps := h.fold (fun _ _ => .startStep)

theorem InFrame.pursue : InFrame num launch (s.pursue d) := by
  unfold State.pursue
  extract_lets r s0 cur s1
  have h1 : InFrame num launch s1 := .ite h.setFld.setFld.setFld h.setFld.setFld
  exact .ite h.setFld <| .ite h1.post h1

theorem InFrame.repower : InFrame num launch s.repower := .startSteps (h.fold (fun _ _ => .pursue))

theorem InFrame.checkVote : InFrame num launch (s.checkVote d v) := .ite h.post.raise h

theorem InFrame.castVote : InFrame num launch (s.castVote i d v) := .ite h <| .checkVote h.upd

theorem InFrame.voteAll : InFrame num launch (s.voteAll x ds v) := .repower (h.fold (fun _ _ => .castVote))

theorem InFrame.meridian : InFrame num launch (s.meridian v) := .repower (h.fold (fun _ _ => .castVote))

end

/-! #### Faults of acquisition, gaps and dead time -/

section
variable {code detail cause chan block firstRun first endRun end_ frame z : Nat} {x : ZoneDead}
  (h : InFrame num launch s)
include h

theorem InFrame.setZdead : InFrame num launch (s.setZdead z x) := h.upd

theorem InFrame.settleDead : InFrame num launch (s.settleDead z) := .ite h h.setZdead

theorem InFrame.settleDeads : InFrame num launch s.settleDeads := h.fold (fun _ _ => .settleDead)

theorem InFrame.noteGap : InFrame num launch (s.noteGap cause chan block firstRun first endRun end_) := h.upd

theorem InFrame.loseFrame : InFrame num launch s.loseFrame := h.upd

theorem InFrame.openGap : InFrame num launch (s.openGap frame cause) := .ite h h.upd

theorem InFrame.stoppedNow : InFrame num launch s.stoppedNow := h.setFld.raise

theorem InFrame.acqFault : InFrame num launch (s.acqFault code detail) :=
  .ite (.meridian (.show (.stoppedNow h.upd))) <| .ite h.settleDeads.setFld.settleDeads.loseFrame.openGap.upd h

end

/-! #### The probe generator -/

section
variable {n t2 st t code detail path : Nat} {on : Bool}
  (h : InFrame num launch s)
include h

theorem InFrame.logTimes : InFrame num launch (State.logTimes path code n s) := by
  induction n generalizing s with
  | zero => exact h
  | succ n ih => exact ih h.logAt

theorem InFrame.synthTo : InFrame num launch (s.synthTo t2) :=
  .ite h.upd <| .ite h.upd <| .raise (.count (.logTimes (.logFor (.show h.upd))))

theorem InFrame.driveCalSel : InFrame num launch (s.driveCalSel on) := .ite (.upd h.upd) h.upd

theorem InFrame.calAbort : InFrame num launch s.calAbort := .ite h <| .raise (.driveCalSel h.setFld.post.upd)

theorem InFrame.pguIdle : InFrame num launch s.pguIdle := .driveCalSel h.synthTo.upd

theorem InFrame.pguEnter : InFrame num launch (s.pguEnter st) := h.setFld.calAbort.pguIdle

theorem InFrame.pguFault : InFrame num launch (s.pguFault code detail) := .ite h.pguEnter.post.raise.acqFault h.pguEnter.post.raise

theorem InFrame.pguGates : InFrame num launch (s.pguGates t) := h.upd

end

/-! #### The start of acquisition -/

section
variable {detail : Nat} {u : Machine.Unit} {via : Via}
  (h : InFrame num launch s)
include h

theorem InFrame.refuseStart : InFrame num launch (s.refuseStart u detail) := h.post.acqFault

theorem InFrame.startChecks : InFrame num launch s.startChecks := by
  unfold State.startChecks
  split
  · exact h.upd
  · exact h.logAt.acqFault
  · exact h.pguFault.acqFault
  · exact h.refuseStart

theorem InFrame.tryStart : InFrame num launch s.tryStart := by
  unfold State.tryStart
  refine .ite h ?_
  split
  · exact h.acqFault
  · exact .ite h.upd <| .ite h h.startChecks

theorem InFrame.acqStart : InFrame num launch (s.acqStart via) :=
  .ite h.finish <| .ite h.finish <| .ite h.finish <| .tryStart (.meridian h.setFld.finish.upd)

end

/-! #### The history, the template build and the interval unit's frames -/

section
variable {kind source code n start : Nat} {e data header : Bytes} {f : VpfSt → VpfSt}
  (h : InFrame num launch s)
include h

theorem InFrame.histFill : InFrame num launch s.histFill := h.setFld

theorem InFrame.histLost : InFrame num launch s.histLost := h.count.post.raise

theorem InFrame.histPut : InFrame num launch (s.histPut e) := by
  unfold State.histPut
  refine .histFill (.ite h.upd ?_)
  split
  · exact .histLost h.upd
  · exact h.histLost

theorem InFrame.almEvent : InFrame num launch (s.almEvent kind source code data) := .ite h.histPut h.histPut.upd

theorem InFrame.tfApply : InFrame num launch s.tfApply := h.setFld.upd

theorem InFrame.onVpf : InFrame num launch (s.onVpf f) := h.upd

theorem InFrame.vpfFrame : InFrame num launch (s.vpfFrame n launch header) := by
  unfold State.vpfFrame
  exact h.onVpf

end

/-! #### Engines and thermal records -/

section
variable {n k bit ap code detail : Nat} {g : Group} {t : Thread} {bs : Bytes} {forward backward part : Bool}
  (h : InFrame num launch s)
include h

theorem InFrame.setEmem : InFrame num launch (s.setEmem ap bs) := h.upd

theorem InFrame.setThread : InFrame num launch (s.setThread k t) := h.upd

theorem InFrame.setPend : InFrame num launch (s.setPend k bit) := h.setThread

theorem InFrame.pendGroup : InFrame num launch (s.pendGroup g bit) := h.fold (fun _ _ => .setPend)

theorem InFrame.pendFrame : InFrame num launch s.pendFrame := h.fold (fun _ _ => .pendGroup)

theorem InFrame.thermStatus : InFrame num launch s.thermStatus := by
  unfold State.thermStatus
  split
  · exact h
  · exact h.setEmem

theorem InFrame.thermCode : InFrame num launch (s.thermCode code detail) := by
  unfold State.thermCode
  split
  · exact .ite h.upd <| .logAt h.upd
  · exact h.upd

theorem InFrame.driveDir : InFrame num launch (s.driveDir backward) := .ite h.upd h

theorem InFrame.putAvg : InFrame num launch s.putAvg := by
  unfold State.putAvg
  split
  · exact h.setEmem
  · exact h

theorem InFrame.avgOpen : InFrame num launch (s.avgOpen n forward) := by
  unfold State.avgOpen
  split
  · exact .upd (.ite h h.thermCode)
  · exact .ite (.driveDir (.putAvg h.upd)) <| .putAvg h.upd

theorem InFrame.avgClose : InFrame num launch (s.avgClose n part) := by
  unfold State.avgClose
  split
  · exact .ite h.upd h.upd
  · exact h.upd

theorem InFrame.avgRescale : InFrame num launch s.avgRescale := by
  unfold State.avgRescale
  split
  · exact .ite (.putAvg h.upd) h
  · exact h

theorem InFrame.brilClose : InFrame num launch (s.brilClose n part) := by
  unfold State.brilClose
  split
  · exact .ite h.upd h.upd
  · exact h.upd

theorem InFrame.brilPair : InFrame num launch (s.brilPair n) := h.upd

theorem InFrame.thermTurn : InFrame num launch (s.thermTurn n) := by
  unfold State.thermTurn
  extract_lets p s1 a _ s2
  have h1 : InFrame num launch s1 := by
    unfold s1
    split
    · exact .ite h.avgClose.avgOpen h.avgRescale
    · exact .ite h h.avgOpen
  have h2 : InFrame num launch s2 := by
    unfold s2
    split
    · exact .ite h1.brilClose.upd h1
    · exact h1
  exact .ite h h2.brilPair.thermStatus

end

/-! #### Groups of engines -/

section
variable {g n frame : Nat} {x : GroupSt}
  (h : InFrame num launch s)
include h

theorem InFrame.setGrp : InFrame num launch (s.setGrp g x) := h.upd

theorem InFrame.showHealth : InFrame num launch (s.showHealth g) := by
  unfold State.showHealth
  exact .ite h.setFld <| .ite h h.setFld

theorem InFrame.judgeFrame : InFrame num launch (s.judgeFrame g frame) :=
  .ite (.almEvent (.raise (.setFld (.showHealth (.ite h.setGrp.setFld h.setGrp.setFld))))) <|
    .showHealth (.ite h.setGrp.setFld h.setGrp.setFld)

theorem InFrame.judgeAll : InFrame num launch (s.judgeAll n) := h.fold (fun _ _ hy => hy.fold (fun _ _ => .judgeFrame))

end

/-! #### Streams -/

section
variable {n c frame type dst : Nat} {y : StreamSt} {x : TceChan} {e : EntryBlock} {from_ : BlockFrom} {data bytes : Bytes} {spans : List (Nat × Nat)}
  {d : ThermDue} {r : RamanRec}
  (h : InFrame num launch s)
include h

theorem InFrame.setStrm : InFrame num launch (s.setStrm c y) := h.upd

theorem InFrame.dropBlock : InFrame num launch (s.dropBlock c) := h.setStrm.count.raise

theorem InFrame.hostBlock : InFrame num launch (s.hostBlock c from_ data spans) := .ite h.setStrm.dropBlock h.setStrm.upd

theorem InFrame.archiveDrop : InFrame num launch (s.archiveDrop c frame) := h.count.post.raise.noteGap

theorem InFrame.setTch : InFrame num launch (s.setTch c x) := h.upd

theorem InFrame.tceOffer : InFrame num launch (s.tceOffer c from_ data spans) :=
  .ite h <| .ite h.archiveDrop.setTch <| .setTch h.upd

theorem InFrame.streamOut : InFrame num launch (s.streamOut c from_ data spans) := by
  unfold State.streamOut
  split
  · exact h
  · exact .ite (.tceOffer (.ite h.hostBlock h)) <| .ite h.hostBlock h

theorem InFrame.entryOut : InFrame num launch (s.entryOut e) := by
  unfold State.entryOut
  split
  · exact h.streamOut
  · exact h.upd

theorem InFrame.entryFlush : InFrame num launch (s.entryFlush n) := .fold h.upd (fun _ _ => .entryOut)

theorem InFrame.chorusBulk : InFrame num launch (State.chorusBulk type dst n bytes s) := by
  induction n generalizing s bytes with
  | zero => exact h
  | succ n ih => exact .ite h (ih h.chorusSend)

theorem InFrame.sendTrace : InFrame num launch (s.sendTrace d r) := .ite h h.chorusBulk

end

/-! #### Captures -/

section
variable {n r z st pre post code : Nat} {x : CapRec} {own : Option (Nat × Nat)} {again : Bool}
  (h : InFrame num launch s)
include h

theorem InFrame.setCap : InFrame num launch (s.setCap r x) := h.upd

theorem InFrame.setCapSt : InFrame num launch (s.setCapSt r st) := h.setFld

theorem InFrame.capEmpty : InFrame num launch (s.capEmpty r pre post) := h.setCap

theorem InFrame.capLenNow : InFrame num launch (s.capLenNow r) := by
  unfold State.capLenNow
  split
  · exact h.setCap.setFld.setFld
  · exact h

theorem InFrame.capArm : InFrame num launch (s.capArm r own).1 := by
  unfold State.capArm
  split
  · exact h
  · exact .ite_fst h <| .ite_fst h <| .ite_fst h <| .ite_fst h <| .ite_fst h h.capLenNow.capEmpty.setCapSt.setFld

theorem InFrame.logZone : InFrame num launch (s.logZone z code) := h.upd

theorem InFrame.postZone : InFrame num launch (s.postZone z code) := h.post.logZone

theorem InFrame.ownArm : InFrame num launch (s.ownArm z r) := .ite h.capArm h.capArm.postZone

theorem InFrame.capReturn : InFrame num launch (s.capReturn r again) := .ite h.setCapSt.ownArm h.setCapSt

theorem InFrame.capHoldoff : InFrame num launch (s.capHoldoff n) := .settleDeads (h.fold (fun _ _ hy => .ite hy.capReturn hy))

end

/-! #### The archive -/

section
variable {n a worst g purpose pair c seq code detail st : Nat} {f : AncSt → AncSt} {e bytes items : Bytes} {hd : ArcHead} {r : ArcRec}
  {x : RecRead} {old : Option Nat} {pages bad gs blocks : List Nat}
  (h : InFrame num launch s)
include h

theorem InFrame.onAnc : InFrame num launch (s.onAnc f) := h.upd

theorem InFrame.setNblk {f : NandBlock → NandBlock} : InFrame num launch (s.setNblk g f) := h.onAnc

theorem InFrame.countRead : InFrame num launch (s.countRead a worst) := .ite h.setNblk.setFld h.setNblk

theorem InFrame.addEntry : InFrame num launch (s.addEntry e) := h.onAnc

theorem InFrame.openBlock : InFrame num launch (s.openBlock g purpose pair) := h.onAnc.setNblk.addEntry

theorem InFrame.openData : InFrame num launch s.openData := by
  unfold State.openData
  split
  · exact h.openBlock.onAnc
  · exact h

theorem InFrame.wantCommit : InFrame num launch s.wantCommit := h.onAnc

theorem InFrame.openAhead : InFrame num launch (s.openAhead n) := by
  unfold State.openAhead
  extract_lets s1
  have h1 : InFrame num launch s1 := h.fold (fun _ _ hy => .ite hy hy.openData)
  exact .ite h1.wantCommit h1

theorem InFrame.makeRoom : InFrame num launch (s.makeRoom n).2 :=
  .ite_snd (.ite h h.wantCommit) <| .ite_snd h <| .ite h.openAhead h.openAhead.wantCommit

theorem InFrame.emitPage : InFrame num launch s.emitPage := by
  unfold State.emitPage
  split
  · exact h
  · exact .ite h.onAnc h.onAnc.onAnc.setNblk.openAhead

theorem InFrame.putBytes : InFrame num launch (State.putBytes seq n bytes s) := by
  induction n generalizing s bytes with
  | zero => exact h
  | succ n ih => exact .ite h (ih (.ite h.onAnc.emitPage h.onAnc))

theorem InFrame.logRecord : InFrame num launch (s.logRecord r bytes old) := by
  unfold State.logRecord
  split
  · exact h
  · exact h.onAnc.setNblk.putBytes

theorem InFrame.newRecord : InFrame num launch (s.newRecord hd items) := h.onAnc.logRecord

theorem InFrame.gapRecord {gap : GapNote} : InFrame num launch (s.gapRecord c gap) := h.newRecord

theorem InFrame.writeGaps {gaps : List GapNote} : InFrame num launch (State.writeGaps gaps s) := by
  induction gaps generalizing s with
  | nil => exact h
  | cons g rest ih => exact .ite h.makeRoom.upd (ih (.fold h.upd fun _ _ hy => hy.gapRecord))

theorem InFrame.arcGaps : InFrame num launch s.arcGaps := .ite h.writeGaps h

theorem InFrame.clearBlock : InFrame num launch (s.clearBlock g) := .ite h h.onAnc

theorem InFrame.clearBad : InFrame num launch (s.clearBad pages) := h.fold (fun _ _ => .clearBlock)

theorem InFrame.retireBlock : InFrame num launch (s.retireBlock g) := .ite h.clearBlock <| .ite h.onAnc <| .ite h.onAnc h

theorem InFrame.checkReads : InFrame num launch (s.checkReads gs) := h.fold (fun _ _ hy => .ite hy.retireBlock hy)

theorem InFrame.notePages {pages : List (Nat × Nat)} : InFrame num launch (s.notePages pages bad) :=
  .checkReads (.clearBad (h.fold (fun _ _ => .countRead)))

theorem InFrame.postRecord : InFrame num launch (s.postRecord code detail seq) := h.show.logFor

theorem InFrame.noteRead : InFrame num launch (s.noteRead r x) := by
  unfold State.noteRead
  extract_lets s1 tell
  have htell : ∀ y, InFrame num launch y → InFrame num launch (tell y) := fun _ => .almEvent
  exact .ite (htell _ h.notePages.count.postRecord.raise) <| .ite (htell _ h.notePages.count.postRecord.raise) h.notePages

theorem InFrame.moveRecord : InFrame num launch (s.moveRecord r) := h.noteRead.count.logRecord

theorem InFrame.moveRecords {records : List ArcRec} : InFrame num launch (State.moveRecords records s).2 := by
  induction records generalizing s with
  | nil => exact h
  | cons r rest ih => exact .ite_snd (ih h.moveRecord) h.makeRoom

theorem InFrame.runMoves : InFrame num launch (State.runMoves blocks s) := by
  induction blocks generalizing s with
  | nil => exact h
  | cons g rest ih => exact .ite (ih h.moveRecords.onAnc) h.moveRecords

theorem InFrame.takeCheckpoint : InFrame num launch s.takeCheckpoint := by
  unfold State.takeCheckpoint
  refine h.fold (fun _ _ hy => ?_)
  split
  · exact hy.openBlock.onAnc
  · exact hy

theorem InFrame.writeSuper : InFrame num launch s.writeSuper := by
  unfold State.writeSuper
  exact h.onAnc.onAnc

theorem InFrame.rotate : InFrame num launch (s.rotate blocks) := .onAnc h.upd

theorem InFrame.extendJournal : InFrame num launch s.extendJournal := by
  unfold State.extendJournal
  refine .ite h ?_
  split
  · exact h.openBlock.openBlock.onAnc
  · exact h

theorem InFrame.formCommit : InFrame num launch s.formCommit := .ite h.extendJournal h.extendJournal.onAnc

theorem InFrame.beginCommit : InFrame num launch s.beginCommit := .ite h <| .ite (.ite h h.emitPage) <| .formCommit (.ite h h.emitPage)

theorem InFrame.seize : InFrame num launch (s.seize g st) := by
  unfold State.seize
  exact h.onAnc.setNblk

theorem InFrame.seizeCheckpoint : InFrame num launch (s.seizeCheckpoint).2 := by
  unfold State.seizeCheckpoint
  refine h.fold_snd (fun _ _ hy => ?_)
  split
  · exact hy.seize
  · exact hy

theorem InFrame.newPair : InFrame num launch s.newPair := by
  unfold State.newPair
  split
  · exact h
  · extract_lets s1 ahead s2 r
    have h2 : InFrame num launch s2 := h.seize.seize.onAnc
    have hr : InFrame num launch r.2 := by
      unfold r
      split
      · dsimp only
        exact h2.onAnc
      · exact h2.seizeCheckpoint
    exact hr.onAnc.rotate.writeSuper

theorem InFrame.nameNext : InFrame num launch s.nameNext := by
  unfold State.nameNext
  split
  · exact .ite h h.addEntry.addEntry
  · exact h

theorem InFrame.startCheckpoint : InFrame num launch s.startCheckpoint :=
  .ite h.newPair <| .ite h <| .ite h.takeCheckpoint.wantCommit <| .ite h.wantCommit h.onAnc.nameNext

theorem InFrame.ancVote : InFrame num launch s.ancVote := h.voteAll

theorem InFrame.ancStep : InFrame num launch s.ancStep :=
  .ite h <| .ancVote (.beginCommit (.ite (.ite h.arcGaps.runMoves h.arcGaps) (.startCheckpoint (.ite h.arcGaps.runMoves h.arcGaps))))

end

end

/-! ### The boundary -/

section
variable {s old : State} {t n : Nat} {real missing reset turned : Bool} {edge : Option Nat}

theorem InFrame.afterOpen {num launch : Nat} (h : InFrame num launch s) : InFrame num launch (s.afterOpen old n turned) := by
  unfold State.afterOpen
  extract_lets s s1 s2 s3 s4 s5
  have h1 : InFrame num launch s1 := h.pguGates.entryFlush.judgeAll.capHoldoff
  have h3 : InFrame num launch s3 := .fold (.ite h1 h1.thermTurn) (fun _ _ hy => by
    split
    · exact hy.sendTrace
    · exact hy)
  have h5 : InFrame num launch s5 := .tryStart (.ancStep (.ite h3.tfApply h3))
  exact .ite (.acqStart h5.upd) h5

/-- The frame that opens has the number and the launch reference it is opened with. -/
theorem inFrame_openFrame : InFrame n t (s.openFrame t n real edge missing reset) := by
  unfold State.openFrame
  extract_lets _ _ _ _ _ _ _ s1 _ _ s2 _ _ s3
  have h2 : InFrame n t s2 := ⟨rfl, rfl⟩
  have h3 : InFrame n t s3 := .ite h2.upd h2
  exact .vpfFrame (.pendFrame (.ite h3 h3.count))

/-- Whatever else happens at a boundary comes before the frame opens, or leaves its number and launch reference alone. -/
theorem inFrame_boundary (x : FrameIn) :
    InFrame (if s.mrs.open_ = false ∨ 2 ^ 48 ≤ s.frame + 1 then 0 else s.frame + 1) t (s.boundary x t edge missing) := by
  have num : (if !s.mrs.open_ || decide (s.frame + 1 ≥ 2 ^ 48) then 0 else s.frame + 1)
      = if s.mrs.open_ = false ∨ 2 ^ 48 ≤ s.frame + 1 then 0 else s.frame + 1 := by simp
  rw [← num]
  unfold State.boundary
  extract_lets
  exact .afterOpen inFrame_openFrame

end

/-- Settles O11: the last step that touches frame number or launch reference at a boundary is the opening of the frame. -/
theorem frameNumberAtBoundary : Obligations.FrameNumberAtBoundary := by
  intro s x t edge missing
  have opened := inFrame_boundary (s := s) (t := t) (edge := edge) (missing := missing) x
  exact ⟨opened.number, opened.reference⟩

end Sys2Proof.Laws
end

/-! PROOFS. Every bit of a register of the map carries one access code, and a write leaves in it what that code says
(00 Table 0-4, R20, 02 R88). -/

section
namespace Sys2Proof.Laws

open Sys2Proof Sys2Proof.Machine

/-! ### The access code of a bit -/

/-- The fields of a register stand in rising order and share no bit. -/
def fieldsApart : List RegField → Bool
  | [] => true
  | x :: xs => decide (x.lo ≤ x.hi) && xs.all (fun y => decide (x.hi < y.lo)) && fieldsApart xs

/-- The access code of the field that holds bit `i`. -/
def accessAt (fields : List RegField) (i : Nat) : Option Access :=
  (fields.find? (fun x => decide (x.lo ≤ i ∧ i ≤ x.hi))).map (·.acc)

theorem accessAt_cons_of_inside {x : RegField} {i : Nat} (inside : x.lo ≤ i ∧ i ≤ x.hi) (xs : List RegField) :
    accessAt (x :: xs) i = some x.acc := by
  rw [accessAt, List.find?_cons_of_pos (by simpa using inside), Option.map_some]

theorem accessAt_cons_of_outside {x : RegField} {i : Nat} (outside : ¬(x.lo ≤ i ∧ i ≤ x.hi)) (xs : List RegField) :
    accessAt (x :: xs) i = accessAt xs i := by
  rw [accessAt, List.find?_cons_of_neg (by simpa using outside), accessAt]

theorem accessAt_of_below {fields : List RegField} {i : Nat} (below : ∀ y ∈ fields, i < y.lo) : accessAt fields i = none := by
  have none_holds : fields.find? (fun x => decide (x.lo ≤ i ∧ i ≤ x.hi)) = none :=
    List.find?_eq_none.mpr fun y hy inside => Nat.not_lt.mpr (of_decide_eq_true inside).1 (below y hy)
  rw [accessAt, none_holds, Option.map_none]

theorem getLsbD_mask {x : RegField} (h : x.lo ≤ x.hi) {i : Nat} (hi : i < 32) :
    x.mask.getLsbD i = decide (x.lo ≤ i ∧ i ≤ x.hi) := by
  simp only [RegField.mask, BitVec.getLsbD_ofNat, testBit_onesRun h, hi, decide_true, Bool.true_and]

/-- Masks of fields that share no bit add up to the bits whose access code is the given one. -/
theorem getLsbD_foldl_mask (a : Access) {i : Nat} (hi : i < 32) (fields : List RegField) (apart : fieldsApart fields = true) (m : Word) :
    (fields.foldl (fun m x => if x.acc = a then m ||| x.mask else m) m).getLsbD i = (m.getLsbD i || decide (accessAt fields i = some a)) := by
  induction fields generalizing m with
  | nil => simp [accessAt]
  | cons x xs ih =>
    simp only [fieldsApart, Bool.and_eq_true, decide_eq_true_eq, List.all_eq_true] at apart
    obtain ⟨⟨ordered, above⟩, rest⟩ := apart
    rw [List.foldl_cons, ih rest]
    by_cases inside : x.lo ≤ i ∧ i ≤ x.hi
    · rw [accessAt_cons_of_inside inside, accessAt_of_below fun y hy => Nat.lt_of_le_of_lt inside.2 (above y hy)]
      by_cases code : x.acc = a
      · simp [code, getLsbD_mask ordered hi, inside]
      · simp [code]
    · rw [accessAt_cons_of_outside inside]
      by_cases code : x.acc = a
      · simp [code, getLsbD_mask ordered hi, inside]
      · simp [code]

theorem getLsbD_maskOf {f : RegFam} (apart : fieldsApart f.fields = true) (a : Access) {i : Nat} (hi : i < 32) :
    (f.maskOf a).getLsbD i = decide (accessAt f.fields i = some a) := by
  rw [RegFam.maskOf, getLsbD_foldl_mask a hi f.fields apart]
  simp

/-! ### A written bit -/

/-- What a write leaves in a bit of an access code (00 Table 0-4). -/
def writtenBit (locked : Bool) (code : Option Access) (old w : Bool) : Bool :=
  match code with
  | some .rw | some .rws => w
  | some .rwl => if locked then old else w
  | some .w1c => old && !w
  | some .w1s => old || w
  | some .ro | some .wo | none => old

theorem getLsbD_applyWrite {f : RegFam} (apart : fieldsApart f.fields = true) (locked : Bool) (old w : Word) {i : Nat} (hi : i < 32) :
    (f.applyWrite locked old w).getLsbD i = writtenBit locked (accessAt f.fields i) (old.getLsbD i) (w.getLsbD i) := by
  have settable : (if locked then 0 else f.maskOf .rwl).getLsbD i = (!locked && decide (accessAt f.fields i = some .rwl)) := by
    cases locked with
    | false => simp [getLsbD_maskOf apart .rwl hi]
    | true => simp
  simp only [RegFam.applyWrite, BitVec.getLsbD_or, BitVec.getLsbD_and, BitVec.getLsbD_not, getLsbD_maskOf apart _ hi, settable, hi,
    decide_true, Bool.true_and]
  cases accessAt f.fields i with
  | none => simp [writtenBit]
  | some code => cases code <;> cases locked <;> simp [writtenBit]

/-! ### The register map -/

/-- Every register of a block has its fields apart. -/
def blockApart (fams : List RegFam) : Bool := fams.all (fun f => fieldsApart f.fields)

theorem blockApart_ite {c : Prop} [Decidable c] {a b : List RegFam} (ha : blockApart a = true) (hb : blockApart b = true) :
    blockApart (if c then a else b) = true := by
  split
  · exact ha
  · exact hb

theorem famsAt_apart (off : Nat) : blockApart (famsAt off) = true :=
  blockApart_ite (a := famsGLB) (by decide +kernel) <| blockApart_ite (a := famsPMU) (by decide +kernel) <|
  blockApart_ite (a := famsSIL) (by decide +kernel) <| blockApart_ite (a := famsMRS) (by decide +kernel) <|
  blockApart_ite (a := famsPGU) (by decide +kernel) <| blockApart_ite (a := famsFAFE ++ famsDDC) (by decide +kernel) <|
  blockApart_ite (a := famsPCX) (by decide +kernel) <| blockApart_ite (a := famsMAFE) (by decide +kernel) <|
  blockApart_ite (a := famsGEA) (by decide +kernel) <| blockApart_ite (a := famsZNT) (by decide +kernel) <|
  blockApart_ite (a := famsSTU) (by decide +kernel) <| blockApart_ite (a := famsTCE) (by decide +kernel) <|
  blockApart_ite (a := famsANC) (by decide +kernel) <| blockApart_ite (a := famsDMC) (by decide +kernel) <|
  blockApart_ite (a := famsCVU) (by decide +kernel) <| blockApart_ite (a := famsTTU) (by decide +kernel) <|
  blockApart_ite (a := famsVPF) (by decide +kernel) <| blockApart_ite (a := famsDLK) (by decide +kernel) <|
  blockApart_ite (a := famsHIF) (by decide +kernel) <| blockApart_ite (a := famsCSP) (by decide +kernel) <|
  blockApart_ite (a := famsALM) (by decide +kernel) rfl

theorem fieldsApart_of_famOf {off : Nat} {f : RegFam} (h : famOf off = some f) : fieldsApart f.fields = true :=
  List.all_eq_true.mp (famsAt_apart off) f (List.mem_of_find?_eq_some h)

/-- Settles O10: bit by bit, for the access code decides what a write leaves. -/
theorem lockedFieldsKeepTheirValue : Obligations.LockedFieldsKeepTheirValue := by
  intro off f locked old w h
  have apart := fieldsApart_of_famOf h
  refine ⟨BitVec.eq_of_getLsbD_eq fun i hi => ?_, BitVec.eq_of_getLsbD_eq fun i hi => ?_, BitVec.eq_of_getLsbD_eq fun i hi => ?_⟩ <;>
    simp only [BitVec.getLsbD_or, BitVec.getLsbD_and, BitVec.getLsbD_not, getLsbD_applyWrite apart _ old w hi, getLsbD_maskOf apart _ hi]
  · by_cases code : accessAt f.fields i = some .rwl
    · simp [code, writtenBit]
    · simp [code]
  · by_cases code : accessAt f.fields i = some .rw ∨ accessAt f.fields i = some .rws
    · rcases code with code | code <;> simp [code, writtenBit]
    · simp [not_or.mp code]
  · cases accessAt f.fields i with
    | none => simp [writtenBit]
    | some code => cases code <;> simp [writtenBit]

end Sys2Proof.Laws
end

/-! PROOFS. How a request reaches its unit: the instant of a command changes nothing it looks at, and a request that is taken
up acts (17 R454, 18 R473, R475, R478). -/

section
namespace Sys2Proof.Laws

open Sys2Proof Sys2Proof.Machine

/-! ### Registers at the instant of a command -/

/-- The instant of a command writes the stall count of the TCE and no other register. -/
theorem at_reg (s : State) (t : Nat) {k : Nat} (hlo : k ≠ R.TCE_STALL_CYCLES_LO) (hhi : k ≠ R.TCE_STALL_CYCLES_HI) :
    (s.at_ t).reg k = s.reg k := by
  have atRegs : (s.at_ t).regs = (s.stallTo t).regs := trainTo_regs (s.stallTo t) t
  have stallReg : (s.stallTo t).reg k = s.reg k := by
    unfold State.stallTo
    split
    · exact (reg_setReg_of_ne _ _ k _ hhi).trans (reg_setReg_of_ne s _ k _ hlo)
    · rfl
  rw [State.reg, atRegs]
  exact stallReg

theorem at_fld (s : State) (t : Nat) (f : Fld) (hlo : f.reg ≠ R.TCE_STALL_CYCLES_LO) (hhi : f.reg ≠ R.TCE_STALL_CYCLES_HI) :
    (s.at_ t).fld f = s.fld f := by
  rw [State.fld, at_reg s t hlo hhi, State.fld]

theorem at_domOn (s : State) (t : Nat) {d : Nat} (h : d < 13) : (s.at_ t).domOn d = s.domOn d := by
  have lo : R.PMU_DOMd_STATUS d ≠ R.TCE_STALL_CYCLES_LO := by simp only [R.PMU_DOMd_STATUS, R.TCE_STALL_CYCLES_LO]; omega
  have hi : R.PMU_DOMd_STATUS d ≠ R.TCE_STALL_CYCLES_HI := by simp only [R.PMU_DOMd_STATUS, R.TCE_STALL_CYCLES_HI]; omega
  simp only [State.domOn, State.domState, State.flag, at_fld s t (F.PMU_DOMd_STATUS.STATE d) lo hi,
    at_fld s t (F.PMU_DOMd_STATUS.BUSY d) lo hi]

theorem domain_lt (u : Machine.Unit) : u.domain < 13 := by cases u <;> decide

theorem at_unitOn (s : State) (t : Nat) (u : Machine.Unit) : (s.at_ t).unitOn u = s.unitOn u := at_domOn s t (domain_lt u)

theorem at_requestOf (s : State) (t : Nat) (o : Origin) (seq : Word) (ops : List Nat) :
    (s.at_ t).requestOf o seq ops = s.requestOf o seq ops := by
  simp only [State.requestOf, State.request, at_hif]

theorem at_takesUp (s : State) (t : Nat) (v : Via) (ops : List Nat) (u : Machine.Unit) :
    (s.at_ t).takesUp v ops u = s.takesUp v ops u := by
  simp only [State.takesUp, at_unitOn, at_requestOf]

theorem at_pendState (s : State) (t : Nat) : (s.at_ t).pendState = s.pendState := at_fld s t _ (by decide) (by decide)

/-! ### A request that is taken up -/

section
variable {s : State} {v : Via} {act : State → State}

theorem onUnit_of_takesUp {ops : List Nat} {u : Machine.Unit} (off : Nat) (h : s.takesUp v ops u = true) :
    s.withRequest v ops (fun s => s.onUnit v u off act) = act s := by
  obtain ⟨on, named⟩ := (Bool.and_eq_true_iff).mp h
  cases v with
  | reg src => rw [withRequest_reg, onUnit_on s _ u off act on]
  | msg o seq =>
    obtain ⟨r, hr⟩ := Option.isSome_iff_exists.mp named
    rw [withRequest_some s o seq ops _ r hr, onUnit_on s _ u off act on]

theorem onSil_of_takesUp {op : Nat} (h : s.takesUp v [op] .sil = true) : s.onSil v op act = act s := onUnit_of_takesUp R.SIL_CTRL h

/-- A request at its instant. -/
theorem onSil_at_of_takesUp {op : Nat} (t : Nat) (h : s.takesUp v [op] .sil = true) : (s.at_ t).onSil v op act = act (s.at_ t) :=
  onSil_of_takesUp ((at_takesUp s t v [op] .sil).trans h)

/-! ### A request of an on-chip unit to device memory -/

theorem withDram_of_ready {a n : Nat} (h : s.spanReady a n = true) : s.withDram a n act = act s := if_pos h

theorem withDram_of_stalled {a n : Nat} (h : s.spanReady a n = false) : s.withDram a n act = s.dmcTouch :=
  if_neg (ne_true_of_eq_false h)

end

end Sys2Proof.Laws
end

/-! PROOFS. Loading and checking a structure image, and its pointer record (02 R73, R75-R80). -/

section
namespace Sys2Proof.Laws

open Sys2Proof Sys2Proof.Machine

section
variable {s : State} {o : Origin} {seq : Word} {t : Nat}

/-! ### Begin and chunks -/

theorem exec_imageBegin_of_takesUp (h : s.takesUp (.msg o seq) [0x0201] .sil = true) :
    let v : Via := .msg o seq
    let len := field (s.payload v) 0 4
    let a := s.dropPending
    exec (.imageBegin o seq) s = .next
      (if len % 8 ≠ 0 ∨ len < 96 ∨ slotSize < len then s.finish v .sil SilCode.length 0xFFFF
       else if s.pendState ≠ Pend.empty ∧ s.pendState ≠ Pend.ready then s.finish v .sil SilCode.busy s.pendState
       else (({ a with sil := { a.sil with len := len, clear := true, persist := bitAt (field (s.payload v) 4 4) 0 } } : State).pendEnter
         Pend.loading).finish v .sil 0 0) :=
  congrArg Host.Outcome.next (onSil_of_takesUp h)

theorem exec_imageChunk_of_takesUp (h : s.takesUp (.msg o seq) [0x0202] .sil = true) :
    let p := s.payload (.msg o seq)
    exec (.imageChunk o seq) s = .next
      (if s.pendState ≠ Pend.loading ∨ s.sil.boot = true then s.finish (.msg o seq) .hif 3 0
       else if s.sil.len < field p 0 4 + s.hbLen o seq 8 then s.finish (.msg o seq) .hif 2 0
       else s.transfer o seq 8 (s.hbLen o seq 8) 0 Unit.sil.top 0 (.imageChunk (field p 0 4) (bitAt (field p 4 4) 0))) :=
  congrArg Host.Outcome.next (onSil_of_takesUp h)

/-! ### The end of a boot read -/

theorem exec_bootImageLoad_of_loading {a : State} {b : Bytes} (loading : (s.at_ t).pendState = Pend.loading)
    (boot : (s.at_ t).sil.boot = true) (slot : (s.at_ t).slotBytes (s.at_ t).sil.slot = b)
    (ready : (s.at_ t).spanReady ((s.at_ t).bankBase (s.at_ t).pendBank) b.length = true)
    (banked : (s.at_ t).bankWrite (s.at_ t).pendBank 0 b = a) :
    exec (.bootImageLoad t) s = .next (({ a with sil := { a.sil with len := b.length } } : State).pendEnter Pend.validating) := by
  have begins : ¬((s.at_ t).pendState ≠ Pend.loading ∨ (!(s.at_ t).sil.boot) = true) := by
    rw [loading, boot]
    decide
  change execBootImageLoad t s = _
  simp only [execBootImageLoad, if_neg begins, slot]
  rw [withDram_of_ready ready, banked]

/-! ### The checks -/

theorem exec_imageChecksComplete_of_read {written : Bool} {r a : State} {img : Bytes} (validating : (s.at_ t).pendState = Pend.validating)
    (ready : (s.at_ t).spanReady ((s.at_ t).bankBase (s.at_ t).pendBank) (s.at_ t).sil.len = true)
    (read : (s.at_ t).bankRead (s.at_ t).pendBank (s.at_ t).sil.len = (r, some img))
    (pending : ({ r with sil := { r.sil with pending := img } } : State) = a) :
    exec (.imageChecksComplete written t) s = .next (a.checkPending written) := by
  change execImageChecksComplete written t s = _
  simp only [execImageChecksComplete, if_neg (fun h : (s.at_ t).pendState ≠ Pend.validating => h validating)]
  rw [withDram_of_ready ready]
  simp only [read, pending]

/-- A load that is no boot load ends with its failure; LIMIT with DETAIL 125 shows at the PMU too (17 R456). -/
theorem checksFail_of_host {code detail : Nat} (host : s.sil.boot = false) (other : ¬(code = SilCode.limit ∧ detail = 125)) :
    s.checksFail code detail = (s.dropPending.post .sil code detail).raise .sil F.SIL_IRQ_STATUS.LOAD_DONE := by
  simp only [State.checksFail, if_neg other, host, Bool.false_eq_true, if_false]

/-- A load that is no boot load arms nothing. -/
theorem checksPass_of_host {slot : Nat} {x : State} {img : Bytes} (host : s.sil.boot = false) (bytes : s.sil.pending = img)
    (placed : ({ s with sil := { s.sil with slot := slot } } : State) = x) :
    s.checksPass slot = ((((x.pendEnter Pend.ready).setReg R.SIL_PENDING_SERIAL (w32 (imgSerial img))).setFlag
      F.SIL_STATE.PENDING_HEAVY (isHeavy (if x.imageActive then some x.sil.active else none) img)).show .sil 0 0).raise .sil
      F.SIL_IRQ_STATUS.LOAD_DONE := by
  subst bytes placed
  exact if_neg (by simp [State.pendEnter, host])

/-- To keep a load in its slot changes neither its bytes nor where it came from. -/
theorem sil_of_persisted {slot : Nat} {b : State} (stored : (if s.sil.persist = true then s.persistSlot slot true else s) = b) :
    b.sil.boot = s.sil.boot ∧ b.sil.pending = s.sil.pending := by
  subst stored
  split
  · exact ⟨rfl, rfl⟩
  · exact ⟨rfl, rfl⟩

theorem checkPending_of_fails {written : Bool} {c d : Nat} (h : s.pendingFails = some (c, d)) :
    s.checkPending written = s.checksFail c d := by
  simp only [State.checkPending, h]

/-- A load from the host that passes is in its slot first, where it is to be kept. -/
theorem checkPending_of_passes {written : Bool} {b : State} (host : s.sil.boot = false) (passes : s.pendingFails = none)
    (kept : s.sil.persist = false ∨ written = true) (stored : (if s.sil.persist = true then s.persistSlot s.spareSlot true else s) = b) :
    s.checkPending written = b.checksPass s.spareSlot := by
  subst stored
  simp only [State.checkPending, passes, host, Bool.false_eq_true, if_false]
  rcases kept with kept | kept <;> simp [kept]

/-! ### The pointer record -/

theorem sectorPut_sil (s : State) (a : Nat) (b : Bytes) : (s.sectorPut a b).sil = s.sil := by
  unfold State.sectorPut
  split <;> rfl

theorem flashAppend_sil (s : State) (a0 a1 : Nat) (b : Bytes) (other : Bool) : (s.flashAppend a0 a1 b other).sil = s.sil := by
  unfold State.flashAppend
  extract_lets cur next
  split
  · exact sectorPut_sil _ next b
  · exact sectorPut_sil s cur b

theorem exec_pointerRecordAppend_of_due (due : s.sil.pointerDue = true) :
    let n := match s.pointerRec (fun _ => true) with | some b => field b 0 4 + 1 | none => 1
    let b := flashRec (leBytes 4 n ++ leBytes 1 s.sil.activeSlot ++ zeros 3 ++ leBytes 4 (imgSerial s.sil.active))
    let a := s.flashAppend pointer0 pointer1 b false
    exec .pointerRecordAppend s
      = .next (({ a with sil := { a.sil with pointerDue := false } } : State).setFlag F.SIL_STATE.ACTIVE_PERSISTENT true) := by
  have appends : ¬(!s.sil.pointerDue) = true := by simp [due]
  intro n b a
  have sameSil : a.sil = s.sil := flashAppend_sil s pointer0 pointer1 b false
  rw [sameSil]
  exact congrArg Host.Outcome.next (if_neg appends)

end

/-- Settles O27: a request by its length and the state of PENDING, the checks by what they answer. -/
theorem imageLoadsComplete : Obligations.ImageLoadsComplete := by
  intro s o seq t v u p len
  refine ⟨fun up => ⟨fun bad => ?_, fun whole low high notEmpty notReady => ?_, fun whole low high free => ?_⟩,
    fun up loading host inside => ?_, fun loading boot => ?_,
    fun r img written validating ready read host => ?_, exec_pointerRecordAppend_of_due⟩
  · exact (exec_imageBegin_of_takesUp up).trans (congrArg _ (if_pos bad))
  · have good : ¬(len % 8 ≠ 0 ∨ len < 96 ∨ slotSize < len) := by omega
    exact (exec_imageBegin_of_takesUp up).trans (congrArg _ ((if_neg good).trans (if_pos ⟨notEmpty, notReady⟩)))
  · have good : ¬(len % 8 ≠ 0 ∨ len < 96 ∨ slotSize < len) := by omega
    have idle : ¬(s.pendState ≠ Pend.empty ∧ s.pendState ≠ Pend.ready) := by omega
    exact (exec_imageBegin_of_takesUp up).trans (congrArg _ ((if_neg good).trans (if_neg idle)))
  · have begun : ¬(s.pendState ≠ Pend.loading ∨ s.sil.boot = true) := by simp [loading, host]
    exact (exec_imageChunk_of_takesUp up).trans (congrArg _ ((if_neg begun).trans (if_neg (Nat.not_lt.mpr inside))))
  · intro b ready a
    exact exec_bootImageLoad_of_loading (s := s) (t := t) loading boot rfl ready rfl
  · intro a
    have run := exec_imageChecksComplete_of_read (s := s) (t := t) (written := written) (a := a) validating ready read rfl
    refine ⟨fun c d fails other => ?_, fun passes kept => ?_⟩
    · rw [run, checkPending_of_fails fails, checksFail_of_host (s := a) host other]
    · intro slot k b x heavy
      have stored : (if a.sil.persist = true then a.persistSlot slot true else a) = b := rfl
      obtain ⟨bootOf, bytesOf⟩ := sil_of_persisted stored
      rw [run, checkPending_of_passes (s := a) host passes kept stored, checksPass_of_host (x := x) (bootOf.trans host) bytesOf rfl]

end Sys2Proof.Laws
end

/-! PROOFS. Switch requests, disarm, abort and what moves a heavy switch on (02 R80-R93, Table 2-7). -/

section
namespace Sys2Proof.Laws

open Sys2Proof Sys2Proof.Machine

/-- PENDING is ARMED for a boundary (02 R81). -/
def armedAt (s : State) (x : SwitchAt) : State :=
  ({ s with sil := { s.sil with armed := some x, restart := false } } : State).pendEnter Pend.armed

/-- The frame a SWITCH_AT names: SIL_SWITCH_FRAME, or FRAME of the message. -/
def switchFrame (s : State) (v : Via) : Nat :=
  match v with
  | .reg _ => s.reg64 R.SIL_SWITCH_FRAME_LO R.SIL_SWITCH_FRAME_HI
  | .msg _ _ => field (s.payload v) 8 8

section
variable {s : State} {v : Via} {o : Origin} {seq : Word} {src : Src} {next t : Nat} {g : Fin 64}

/-! ### Switch requests of a READY image while frames run -/

/-- A READY image stands in the way of no switch request. -/
theorem not_held_of_ready (ready : s.pendState = Pend.ready) : ¬(s.pendState = Pend.armed ∨ s.pendState = Pend.switching) := by
  rw [ready]
  decide

theorem switchReq_none_of_ready (ready : s.pendState = Pend.ready) (frames : s.noImage = false)
    (started : (armedAt s (.next s.now)).phase ≠ Phase.image) : s.switchReq none = (armedAt s (.next s.now), 0, 0) := by
  unfold armedAt at started ⊢
  simp only [State.switchReq, if_neg (not_held_of_ready ready), if_neg (fun h : s.pendState ≠ Pend.ready => h ready), frames,
    Bool.false_eq_true, if_false, if_neg started]

theorem switchReq_some_of_later {n : Nat} (ready : s.pendState = Pend.ready) (frames : s.noImage = false) (later : s.frame + 1 < n)
    (started : (armedAt s (.frame n)).phase ≠ Phase.image) : s.switchReq (some n) = (armedAt s (.frame n), 0, 0) := by
  unfold armedAt at started ⊢
  simp only [State.switchReq, if_neg (not_held_of_ready ready), if_neg (fun h : s.pendState ≠ Pend.ready => h ready), frames,
    Bool.false_eq_true, if_false, gt_iff_lt, if_pos later, if_neg started]

theorem switchReq_some_of_past {n : Nat} (ready : s.pendState = Pend.ready) (frames : s.noImage = false) (past : n ≤ s.frame + 1) :
    s.switchReq (some n) = (s, SilCode.tooLate, 0) := by
  simp only [State.switchReq, if_neg (not_held_of_ready ready), if_neg (fun h : s.pendState ≠ Pend.ready => h ready), frames,
    Bool.false_eq_true, if_false, gt_iff_lt, if_neg (Nat.not_lt.mpr past)]

theorem exec_switchNext_of_takesUp (up : s.takesUp v [0x0203] .sil = true) (mode : (s.at_ t).switchMode v 0 = true) :
    exec (.switchNext v t) s = .next (State.silFinish v ((s.at_ t).switchReq none)) :=
  congrArg Host.Outcome.next ((onSil_at_of_takesUp t up).trans (if_pos mode))

theorem exec_switchAt_of_takesUp (up : s.takesUp v [0x0203] .sil = true) (mode : (s.at_ t).switchMode v 1 = true) :
    exec (.switchAt v t) s = .next (State.silFinish v ((s.at_ t).switchReq (some (switchFrame (s.at_ t) v)))) :=
  congrArg Host.Outcome.next ((onSil_at_of_takesUp t up).trans (if_pos mode))

/-! ### Disarm (R82, Table 2-7) -/

theorem exec_imageDisarm_of_takesUp (up : s.takesUp v [0x0204] .sil = true) :
    exec (.imageDisarm v next t) s = .next ((s.at_ t).disarm v next) :=
  congrArg Host.Outcome.next (onSil_at_of_takesUp t up)

theorem disarm_of_ready (ready : s.pendState = Pend.ready) (none_waits : s.sil.restart = false) :
    s.disarm v next = s.finish v .sil 0 0 := by
  have idle : ¬(s.pendState = Pend.armed ∨ s.sil.restart = true) := by
    rw [ready, none_waits]
    decide
  exact (if_neg idle).trans (if_pos ready)

theorem disarm_of_late (waits : s.pendState = Pend.armed ∨ s.sil.restart = true) (late : s.armTooLate next = true) :
    s.disarm v next = s.finish v .sil SilCode.tooLate 0 := (if_pos waits).trans (if_pos late)

theorem disarm_of_inTime (waits : s.pendState = Pend.armed ∨ s.sil.restart = true) (inTime : s.armTooLate next = false) :
    s.disarm v next = (if s.pendState = Pend.armed then s.unarm.pendEnter Pend.ready else s.unarm).finish v .sil 0 0 :=
  (if_pos waits).trans (if_neg (ne_true_of_eq_false inTime))

/-! ### Abort (R82, Table 2-7) -/

theorem exec_imageAbort_of_takesUp (up : s.takesUp v [0x0205] .sil = true) :
    exec (.imageAbort v next t) s = .next ((s.at_ t).imageAbort v next) :=
  congrArg Host.Outcome.next (onSil_at_of_takesUp t up)

theorem imageAbort_of_idle (empty : s.pendState = Pend.empty) (none_waits : s.sil.restart = false) :
    s.imageAbort v next = s.finish v .sil 0 0 :=
  if_pos ⟨empty, by simp only [none_waits, Bool.not_false]⟩

theorem imageAbort_of_late (something : s.pendState ≠ Pend.empty ∨ s.sil.restart = true)
    (late : s.pendState = Pend.switching ∨ ((s.pendState = Pend.armed ∨ s.sil.restart = true) ∧ s.armTooLate next = true)) :
    s.imageAbort v next = s.finish v .sil SilCode.tooLate 0 := by
  have begun : ¬(s.pendState = Pend.empty ∧ (!s.sil.restart) = true) := by
    rcases something with h | h <;> simp [h]
  exact (if_neg begun).trans (if_pos late)

/-- In time, and with no boot load that start-up waits for, an abort drops the image. -/
theorem imageAbort_of_inTime (something : s.pendState ≠ Pend.empty ∨ s.sil.restart = true) (before : s.pendState ≠ Pend.switching)
    (inTime : s.pendState = Pend.armed ∨ s.sil.restart = true → s.armTooLate next = false) (host : s.sil.boot = false) :
    s.imageAbort v next = s.unarm.abortPending.reply v .sil 0 0 := by
  have begun : ¬(s.pendState = Pend.empty ∧ (!s.sil.restart) = true) := by
    rcases something with h | h <;> simp [h]
  have early : ¬(s.pendState = Pend.switching ∨ ((s.pendState = Pend.armed ∨ s.sil.restart = true) ∧ s.armTooLate next = true)) := by
    rintro (h | ⟨waits, late⟩)
    · exact before h
    · exact absurd late (ne_true_of_eq_false (inTime waits))
  refine (if_neg begun).trans ((if_neg early).trans (if_neg fun h => ?_))
  exact absurd h.1 (ne_true_of_eq_false host)

/-! ### State words and the lock count -/

theorem exec_imageState_of_takesUp (up : s.takesUp (.msg o seq) [0x0206] .sil = true) :
    exec (.imageState o seq) s = .next (s.answer o seq 0 Unit.sil.top 0
      ([R.SIL_STATE, R.SIL_RESULT, R.SIL_ACTIVE_SERIAL, R.SIL_PENDING_SERIAL].flatMap (fun r => leBytes 4 (s.reg r).toNat))) :=
  congrArg Host.Outcome.next (onSil_of_takesUp up)

theorem exec_lockClr_of_on (on : s.unitOn .sil = true) : exec (.lockClr src) s = .next (s.setReg R.SIL_LOCK_COUNT 0) :=
  congrArg Host.Outcome.next (onUnit_on s _ .sil R.SIL_CTRL State.lockClr on)

/-! ### A heavy switch (R86), the bank's copy (R91) -/

theorem exec_heavySwitchDrainDone_of_delivered (switching : s.pendState = Pend.switching) (waits : s.sil.drained = false)
    (delivered : (s.at_ t).lastDelivered = true) : exec (.heavySwitchDrainDone t) s = .next (s.at_ t).drainDone := by
  refine congrArg Host.Outcome.next (if_pos ⟨(at_pendState s t).trans switching, ?_, delivered⟩)
  simp [waits]

theorem exec_engineLoadComplete_of_loading {x : Group} (group : (s.at_ t).groups[g.val]? = some x)
    (loading : (s.at_ t).groupState x = Eng.loading) (on : (s.at_ t).groupOn x = true)
    (copy : (s.at_ t).flag F.SIL_STATE.ACTIVE_COPY = true) (whole : (s.at_ t).sil.rewriting = false)
    (turn : (s.at_ t).pendState ≠ Pend.switching ∨ (s.at_ t).sil.drained = true) :
    exec (.engineLoadComplete g t) s = .next ((s.at_ t).loadGroup g.val x) := by
  have due : (s.at_ t).groupState x = Eng.loading ∧ (s.at_ t).groupOn x = true ∧ (s.at_ t).flag F.SIL_STATE.ACTIVE_COPY = true
      ∧ (!(s.at_ t).sil.rewriting) = true ∧ ((s.at_ t).pendState ≠ Pend.switching ∨ (s.at_ t).sil.drained = true) :=
    ⟨loading, on, copy, by simpa using whole, turn⟩
  change execEngineLoadComplete g t s = _
  simp only [execEngineLoadComplete, group, if_pos due]

theorem loadGroup_of_read {i : Nat} {x : Group} {r : State} {img : Bytes}
    (ready : s.spanReady (s.bankBase s.sil.bank) s.sil.active.length = true)
    (read : s.bankRead s.sil.bank s.sil.active.length = (r, some img)) : s.loadGroup i x = (r.groupLoaded img i x).thenStart s := by
  rw [State.loadGroup, withDram_of_ready ready]
  simp only [read]

theorem exec_activeCopyRewriteDone_of_ready (rewriting : s.sil.rewriting = true)
    (ready : s.spanReady (s.bankBase s.sil.bank) (s.slotBytes s.sil.activeSlot).length = true) :
    let a := s.bankWrite s.sil.bank 0 (s.slotBytes s.sil.activeSlot)
    exec .activeCopyRewriteDone s
      = .next ((({ a with sil := { a.sil with rewriting := false } } : State).setFlag F.SIL_STATE.ACTIVE_COPY true).silVote) := by
  have waits : ¬(!s.sil.rewriting) = true := by simp [rewriting]
  exact congrArg Host.Outcome.next ((if_neg waits).trans (withDram_of_ready ready))

end

/-- Settles O28: each request by the state of PENDING and whether it comes in time. -/
theorem imageSwitchesComplete : Obligations.ImageSwitchesComplete := by
  intro s v o seq src next t g u frame arm
  have frameOf : switchFrame u v = frame := by cases v <;> rfl
  refine ⟨fun up => ?_, fun up => ?_, fun up => ?_, fun up => ?_, exec_lockClr_of_on, exec_heavySwitchDrainDone_of_delivered,
    fun x group loading on copy whole turn => ?_, exec_activeCopyRewriteDone_of_ready⟩
  · have onNext := exec_switchNext_of_takesUp (t := t) up
    have onAt := exec_switchAt_of_takesUp (t := t) up
    rw [frameOf] at onAt
    refine ⟨fun ready frames => ⟨fun mode started => ?_, fun mode later started => ?_, fun mode past => ?_⟩, onNext, onAt⟩
    · rw [onNext mode, switchReq_none_of_ready ready frames started]
      rfl
    · rw [onAt mode, switchReq_some_of_later ready frames later started]
      rfl
    · rw [onAt mode, switchReq_some_of_past ready frames past]
      rfl
  · rw [exec_imageDisarm_of_takesUp up]
    refine ⟨fun ready none_waits => ?_, fun armed inTime => ?_, fun unarmed waits inTime => ?_, fun waits late => ?_⟩
    · rw [disarm_of_ready ready none_waits]
    · rw [disarm_of_inTime (.inl armed) inTime, if_pos armed]
    · rw [disarm_of_inTime (.inr waits) inTime, if_neg unarmed]
    · rw [disarm_of_late waits late]
  · rw [exec_imageAbort_of_takesUp up]
    have nonempty {p : Nat} (h : u.pendState = p) (hp : p ≠ Pend.empty) : u.pendState ≠ Pend.empty := h ▸ hp
    refine ⟨fun empty none_waits => ?_, fun switching => ?_, fun waits late => ?_, fun held none_waits host => ?_,
      fun waits inTime host => ?_⟩
    · rw [imageAbort_of_idle empty none_waits]
    · rw [imageAbort_of_late (.inl (nonempty switching (by decide))) (.inl switching)]
    · rw [imageAbort_of_late (waits.imp (fun h => nonempty h (by decide)) id) (.inr ⟨waits, late⟩)]
    · obtain ⟨notEmpty, notArmed, before⟩ : u.pendState ≠ Pend.empty ∧ u.pendState ≠ Pend.armed ∧ u.pendState ≠ Pend.switching := by
        rcases held with h | h | h <;> rw [h] <;> decide
      rw [imageAbort_of_inTime (.inl notEmpty) before (fun waits => ?_) host]
      exact absurd none_waits (ne_false_of_eq_true (waits.resolve_left notArmed))
    · have something : u.pendState ≠ Pend.empty ∨ u.sil.restart = true := waits.imp (fun h => nonempty h (by decide)) And.left
      have before : u.pendState ≠ Pend.switching := waits.elim (fun h => h ▸ by decide) And.right
      rw [imageAbort_of_inTime something before (fun _ => inTime) host]
  · exact exec_imageState_of_takesUp up
  · have run := exec_engineLoadComplete_of_loading group loading on copy whole turn
    refine ⟨fun stalled => ?_, fun r img ready read => ?_⟩
    · exact run.trans (congrArg _ (withDram_of_stalled stalled))
    · rw [run, loadGroup_of_read ready read]

end Sys2Proof.Laws
end

/-! PROOFS. Requests to the PGU, calibration runs, faults and counts, and the lock of the PDAC PLL (03 R113, R119, R120, Table 3-3). -/

section
namespace Sys2Proof.Laws

open Sys2Proof Sys2Proof.Machine

theorem at_pguState (s : State) (t : Nat) : (s.at_ t).pguState = s.pguState := at_fld s t _ (by decide) (by decide)

theorem at_pllLock (s : State) (t : Nat) : (s.at_ t).flag F.PGU_STATUS.PLL_LOCK = s.flag F.PGU_STATUS.PLL_LOCK :=
  congrArg (· != 0) (at_fld s t F.PGU_STATUS.PLL_LOCK (by decide) (by decide))

/-! ### Requests to the PGU -/

section
variable {s : State} {v : Via} {src : Src} {t : Nat}

theorem exec_calRun_of_accepted (up : s.takesUp v [0x0401] .pgu = true) (accepted : s.calRefusal = none) :
    exec (.calRun v) s = .next (s.calBegin.finish v .pgu 0 0) := by
  refine congrArg Host.Outcome.next ((onUnit_of_takesUp R.PGU_CTRL up).trans ?_)
  simp only [accepted]

theorem exec_calRun_of_refused {c : Nat} (up : s.takesUp v [0x0401] .pgu = true) (refused : s.calRefusal = some c) :
    exec (.calRun v) s = .next (s.finish v .pgu c 0) := by
  refine congrArg Host.Outcome.next ((onUnit_of_takesUp R.PGU_CTRL up).trans ?_)
  simp only [refused]

theorem exec_pguFaultClr_of_on (on : s.unitOn .pgu = true) : exec (.pguFaultClr src) s = .next s.pguFaultClr :=
  congrArg Host.Outcome.next (onUnit_on s _ .pgu R.PGU_CTRL State.pguFaultClr on)

theorem pguFaultClr_of_fault (fault : s.pguState = Pgu.fault) :
    s.pguFaultClr = (s.pguEnter (if s.flag F.PGU_STATUS.PLL_LOCK then Pgu.stopped else Pgu.off)).show .pgu 0 0 :=
  if_pos fault

theorem pguFaultClr_of_not_fault (sound : s.pguState ≠ Pgu.fault) : s.pguFaultClr = s := if_neg sound

theorem exec_pguCountClr_of_on (on : s.unitOn .pgu = true) : exec (.pguCountClr src) s = .next s.pguCountClr :=
  congrArg Host.Outcome.next (onUnit_on s _ .pgu R.PGU_CTRL State.pguCountClr on)

/-! ### The PDAC PLL -/

theorem exec_pdacPllLock_of_unlocked (on : s.domOn 6 = true) (unlocked : s.flag F.PGU_STATUS.PLL_LOCK = false) :
    exec (.pdacPllLock t) s = .next (((s.at_ t).pguLock.fafeWake).thenStart (s.at_ t)) := by
  have locks : ¬((!(s.at_ t).domOn 6) = true ∨ (s.at_ t).flag F.PGU_STATUS.PLL_LOCK = true) := by
    rw [at_domOn s t (by decide), at_pllLock, on, unlocked]
    decide
  exact congrArg Host.Outcome.next (if_neg locks)

theorem exec_pllUnlock_of_locked (locked : s.flag F.PGU_STATUS.PLL_LOCK = true) :
    exec (.pllUnlock t) s = .next (((s.at_ t).pguUnlock.fafeUnlock).thenStart (s.at_ t)) := by
  have unlocks : ¬(!(s.at_ t).flag F.PGU_STATUS.PLL_LOCK) = true := by
    rw [at_pllLock, locked]
    decide
  exact congrArg Host.Outcome.next (if_neg unlocks)

end

/-- Settles O30: each request by the check or the state that decides it, the PLL by whether it is locked. -/
theorem probeGenerationComplete : Obligations.ProbeGenerationComplete := by
  intro s v src t u
  refine ⟨fun up => ⟨exec_calRun_of_accepted up, fun c => exec_calRun_of_refused up⟩,
    fun on => ⟨fun fault => ?_, fun sound => ?_, exec_pguCountClr_of_on on⟩, exec_pdacPllLock_of_unlocked, exec_pllUnlock_of_locked⟩
  · rw [exec_pguFaultClr_of_on on, pguFaultClr_of_fault fault]
  · rw [exec_pguFaultClr_of_on on, pguFaultClr_of_not_fault sound]

end Sys2Proof.Laws
end

/-! PROOFS. Chirps, and the pins and windows that follow the frames and the registers at an instant (03 R97-R111, 04 R131-R137). -/

section
namespace Sys2Proof.Laws

open Sys2Proof Sys2Proof.Machine

/-! ### Chirps -/

section
variable {s : State} {k : Fin 16}

/-- The state in which the oscillators of a tone of a frame have started, at its launch instant (04 R144). -/
def toneStarted (s : State) (f : FrameRec) (k : Nat) : State :=
  let a := s.at_ (f.toneAt k)
  { a with afe := { a.afe with ncoStart := tabPut (fun _ => 0) a.afe.ncoStart k (f.toneAt k) } }

theorem toneStarted_pguState (s : State) (f : FrameRec) (k : Nat) : (toneStarted s f k).pguState = s.pguState :=
  at_pguState s (f.toneAt k)

/-- A chirp begins for a tone that a running PGU emits: of a real frame that is neither diagnostic nor a guard frame (R97, R110, R116). -/
theorem exec_toneLaunch_of_tone {frame : Nat} {f : FrameRec} (found : s.mrs.frames.find? (·.num = frame) = some f) (tone : k.val < f.cfg.k) :
    exec (.toneLaunch k frame) s = .next
      (if s.pguState = Pgu.running ∧ f.real = true ∧ f.diag = false ∧ f.guardFrame = false then (toneStarted s f k).startChirp f k.val
       else toneStarted s f k) := by
  have emits : ((toneStarted s f k).pguState = Pgu.running ∧ f.real = true ∧ (!f.diag) = true ∧ (!f.guardFrame) = true)
      ↔ (s.pguState = Pgu.running ∧ f.real = true ∧ f.diag = false ∧ f.guardFrame = false) := by
    simp only [toneStarted_pguState, Bool.not_eq_true']
  refine congrArg Host.Outcome.next ?_
  simp only [found]
  exact (if_neg (Nat.not_le.mpr tone)).trans (ite_congr (propext emits) (fun _ => rfl) (fun _ => rfl))

theorem exec_chirpEnd_of_chirp {c : Chirp} (active : s.pgu.chirps.find? (·.tone = k.val) = some c) :
    exec (.chirpEnd k) s = .next (((s.at_ ((c.start + c.len + 1) / 2)).synthTo (c.start + c.len)).pguSettle) := by
  refine congrArg Host.Outcome.next ?_
  simp only [active]

end

/-! ### Pins and windows at an instant -/

section
variable {s : State} {n w : Fin 2} {t t2 : Nat}

theorem exec_gateEdge : exec (.gateEdge n t2) s = .next { s.at_ (t2 / 2) with
    pgu := { (s.at_ (t2 / 2)).pgu with gates := (s.at_ (t2 / 2)).pgu.gates.set n.val ((s.at_ (t2 / 2)).gateAt n.val t2) } } := rfl

theorem exec_launchOutEdge : exec (.launchOutEdge t) s
    = .next { s.at_ t with pgu := { (s.at_ t).pgu with launchOut := (s.at_ t).markerAt t } } := rfl

theorem exec_calSelChange : exec (.calSelChange t2) s = .next ((s.at_ (t2 / 2)).driveCalSel ((s.at_ (t2 / 2)).calSelAt t2)) := rfl

theorem exec_blankWindowEdge : exec (.blankWindowEdge w t) s = .next { s.at_ t with
    afe := { (s.at_ t).afe with windows := (s.at_ t).afe.windows.set w.val ((s.at_ t).windowAt w.val t) } } := rfl

theorem exec_pgaStep : exec (.pgaStep t) s = .next ((s.at_ t).setPga t ((s.at_ t).pgaAt t)) := rfl

theorem setPga_of_eq {code : Nat} (same : code = s.afe.pga) : s.setPga t code = s := if_pos same

theorem setPga_of_ne {code : Nat} (other : code ≠ s.afe.pga) :
    s.setPga t code = { s with afe := { s.afe with pga := code, steps := (t :: s.afe.steps).take 4096 } } := if_neg other

/-- A change of BLANK_IN touches the two records that keep it and nothing else. -/
theorem exec_blankInChange {level : Bool} : exec (.blankInChange level t) s = .next { s.at_ t with
    afe := { (s.at_ t).afe with blankEdges := (t, level) :: pruneEdges (s.at_ t).afe.upTo (s.at_ t).afe.blankEdges }
    vpf := { (s.at_ t).vpf with pins := ((t, level) :: (s.at_ t).vpf.pins).take 1024 } } := rfl

end

/-- Settles O23: each pin or window takes the level of its instant, a tone and a chirp the frame and the chirp that the command names. -/
theorem rangeTimePinsComplete : Obligations.RangeTimePinsComplete := by
  intro s k n w t t2 frame level u v
  refine ⟨fun f => exec_toneLaunch_of_tone, exec_gateEdge, exec_launchOutEdge, exec_calSelChange, fun other => ?_, fun same => ?_,
    exec_blankWindowEdge, ⟨_, exec_blankInChange, rfl, rfl, rfl⟩, fun c => exec_chirpEnd_of_chirp⟩
  · rw [exec_pgaStep, setPga_of_ne other]
  · rw [exec_pgaStep, setPga_of_eq same]

end Sys2Proof.Laws
end

/-! PROOFS. Calibrations, step factors, counts and faults of the FAFE and the MAFE (04 R139-R143, R148, Table 4-5). -/

section
namespace Sys2Proof.Laws

open Sys2Proof Sys2Proof.Machine

theorem at_fafeState (s : State) (t : Nat) : (s.at_ t).fafeState = s.fafeState := at_fld s t _ (by decide) (by decide)

theorem at_mafeState (s : State) (t : Nat) : (s.at_ t).mafeState = s.mafeState := at_fld s t _ (by decide) (by decide)

/-! ### The state decides what a calibration request, a step calibration request and a fault clear do (Table 4-5, R142) -/

section
variable {s : State}

theorem fafeCalReq_of_startable (startable : s.fafeState = Afe.fault ∨ (s.fafeState = Afe.ready ∧ s.acq ≠ Mrs.running ∧ s.afe.stepcal = false)) :
    s.fafeCalReq = s.fafeCalStart := by
  rcases startable with fault | ⟨ready, stopped, idle⟩
  · rw [State.fafeCalReq, fault, if_neg (by decide), if_pos rfl]
  · rw [State.fafeCalReq, ready, if_neg (by decide), if_neg (by decide), if_pos ⟨rfl, stopped, by rw [idle]; rfl⟩]

theorem fafeCalReq_of_running (ready : s.fafeState = Afe.ready) (running : s.acq = Mrs.running) :
    s.fafeCalReq = s.post .fafe AfeCode.busy 0 := by
  rw [State.fafeCalReq, ready, if_neg (by decide), if_neg (by decide), if_neg fun h => h.2.1 running]

theorem mafeCalReq_of_startable (startable : s.mafeState = Afe.fault ∨ (s.mafeState = Afe.ready ∧ s.acq ≠ Mrs.running)) :
    s.mafeCalReq = s.mafeCalStart := by
  rcases startable with fault | ⟨ready, stopped⟩
  · rw [State.mafeCalReq, fault, if_neg (by decide), if_pos rfl]
  · rw [State.mafeCalReq, ready, if_neg (by decide), if_neg (by decide), if_pos ⟨rfl, stopped⟩]

theorem mafeCalReq_of_running (ready : s.mafeState = Afe.ready) (running : s.acq = Mrs.running) :
    s.mafeCalReq = s.post .mafe AfeCode.busy 0 := by
  rw [State.mafeCalReq, ready, if_neg (by decide), if_neg (by decide), if_neg fun h => h.2 running]

theorem stepcalReq_of_ready (ready : s.fafeState = Afe.ready) (stopped : s.acq ≠ Mrs.running) (idle : s.afe.stepcal = false) :
    s.stepcalReq = { s with afe := { s.afe with stepcal := true } } := by
  rw [State.stepcalReq, ready, if_neg (by decide), if_pos ⟨rfl, stopped, by rw [idle]; rfl⟩]

theorem fafeFaultClr_of_locked (fault : s.fafeState = Afe.fault) (locked : s.flag F.PGU_STATUS.PLL_LOCK = true) :
    s.fafeFaultClr = s.fafeCalStart.show .fafe 0 0 :=
  (if_pos fault).trans (if_pos locked)

theorem fafeFaultClr_of_unlocked (fault : s.fafeState = Afe.fault) (unlocked : s.flag F.PGU_STATUS.PLL_LOCK = false) :
    s.fafeFaultClr = (s.setFld F.FAFE_STATUS.STATE Afe.off).show .fafe 0 0 :=
  (if_pos fault).trans (if_neg (ne_true_of_eq_false unlocked))

theorem mafeFaultClr_of_fault (fault : s.mafeState = Afe.fault) : s.mafeFaultClr = s.mafeCalStart.show .mafe 0 0 := if_pos fault

end

/-! ### Commands: a request to a unit that is on acts -/

section
variable {s : State} {src : Src}

theorem exec_fafeCalReq_of_on (on : s.unitOn .fafe = true) : exec (.fafeCalReq src) s = .next s.fafeCalReq :=
  congrArg Host.Outcome.next (onUnit_on s _ .fafe R.FAFE_CTRL State.fafeCalReq on)

theorem exec_mafeCalReq_of_on (on : s.unitOn .mafe = true) : exec (.mafeCalReq src) s = .next s.mafeCalReq :=
  congrArg Host.Outcome.next (onUnit_on s _ .mafe R.MAFE_CTRL State.mafeCalReq on)

theorem exec_stepcalReq_of_on (on : s.unitOn .fafe = true) : exec (.stepcalReq src) s = .next s.stepcalReq :=
  congrArg Host.Outcome.next (onUnit_on s _ .fafe R.FAFE_CTRL State.stepcalReq on)

theorem exec_fafeCountClr_of_on (on : s.unitOn .fafe = true) : exec (.fafeCountClr src) s = .next s.fafeCountClr :=
  congrArg Host.Outcome.next (onUnit_on s _ .fafe R.FAFE_CTRL State.fafeCountClr on)

theorem exec_mafeCountClr_of_on (on : s.unitOn .mafe = true) : exec (.mafeCountClr src) s = .next s.mafeCountClr :=
  congrArg Host.Outcome.next (onUnit_on s _ .mafe R.MAFE_CTRL State.mafeCountClr on)

theorem exec_fafeFaultClr_of_on (on : s.unitOn .fafe = true) : exec (.fafeFaultClr src) s = .next s.fafeFaultClr :=
  congrArg Host.Outcome.next (onUnit_on s _ .fafe R.FAFE_CTRL State.fafeFaultClr on)

theorem exec_mafeFaultClr_of_on (on : s.unitOn .mafe = true) : exec (.mafeFaultClr src) s = .next s.mafeFaultClr :=
  congrArg Host.Outcome.next (onUnit_on s _ .mafe R.MAFE_CTRL State.mafeFaultClr on)

end

/-! ### Measurements that end (R141, R143) -/

section
variable {s : State} {t : Nat}

/-- A calibration in progress ends, of the FAFE in FAST_AFE or the MAFE in MED_AFE. -/
theorem exec_adcCalibrationDone_of_calibrating {mafe : Bool} {offs skews : List Int} (on : s.domOn (if mafe then 7 else 6) = true)
    (calibrating : (if mafe then s.mafeState else s.fafeState) = Afe.calibrating) :
    exec (.adcCalibrationDone mafe offs skews t) s = .next (((s.at_ t).adcCalDone mafe offs skews).thenStart (s.at_ t)) := by
  have domain : (if mafe then 7 else 6) < 13 := by cases mafe <;> decide
  have ends : ((s.at_ t).domOn (if mafe then 7 else 6)
      && (if mafe then (s.at_ t).mafeState else (s.at_ t).fafeState) == Afe.calibrating) = true := by
    rw [at_domOn s t domain, at_mafeState, at_fafeState, on, calibrating]
    rfl
  exact congrArg Host.Outcome.next (if_pos ends)

/-- The state in which the factors of X and Y of the eight codes stand in FAFE_STEPCAL. -/
def withStepFactors (s : State) (responses : List (Int × Int)) : State :=
  (List.range 8).foldl (fun a c => (a.setReg (R.FAFE_STEPCALc_X c) (stepFactor responses c 0)).setReg
    (R.FAFE_STEPCALc_Y c) (stepFactor responses c 1)) s

theorem exec_stepcalDone_of_measuring {responses : List (Int × Int)} (measuring : s.afe.stepcal = true) (on : s.domOn 6 = true) :
    let a := withStepFactors s responses
    exec (.stepcalDone responses) s = .next
      (((({ a with afe := { a.afe with stepcal := false } } : State).setFld F.FAFE_STATUS.STEPCAL_VALID 1).show .fafe 0 0).raise .fafe
        F.FAFE_IRQ_STATUS.STEPCAL_DONE) := by
  have ends : ¬(!s.afe.stepcal || !s.domOn 6) = true := by
    rw [measuring, on]
    decide
  exact congrArg Host.Outcome.next (if_neg ends)

/-- The factor of code 0 is 1.0 whatever was measured (R143: normalised to R_0). -/
theorem stepFactor_zero (responses : List (Int × Int)) (pol : Nat) : stepFactor responses 0 pol = 0x4000 := rfl

end

/-- Settles O31: each request by the state of its unit and of acquisition, each end of a measurement by what is in progress. -/
theorem frontEndsComplete : Obligations.FrontEndsComplete := by
  intro s src offs skews responses t
  refine ⟨fun on => ?fafe, fun on => ?mafe, exec_adcCalibrationDone_of_calibrating (mafe := false),
    exec_adcCalibrationDone_of_calibrating (mafe := true), fun measuring on =>
      ⟨stepFactor_zero responses 0, stepFactor_zero responses 1, exec_stepcalDone_of_measuring measuring on⟩⟩
  case fafe =>
    rw [exec_fafeCalReq_of_on on, exec_stepcalReq_of_on on, exec_fafeFaultClr_of_on on]
    exact ⟨fun startable => congrArg _ (fafeCalReq_of_startable startable),
      fun ready running => congrArg _ (fafeCalReq_of_running ready running),
      fun ready stopped idle => congrArg _ (stepcalReq_of_ready ready stopped idle),
      exec_fafeCountClr_of_on on,
      fun fault locked => congrArg _ (fafeFaultClr_of_locked fault locked),
      fun fault unlocked => congrArg _ (fafeFaultClr_of_unlocked fault unlocked)⟩
  case mafe =>
    rw [exec_mafeCalReq_of_on on, exec_mafeFaultClr_of_on on]
    exact ⟨fun startable => congrArg _ (mafeCalReq_of_startable startable),
      fun ready running => congrArg _ (mafeCalReq_of_running ready running),
      exec_mafeCountClr_of_on on,
      fun fault => congrArg _ (mafeFaultClr_of_fault fault)⟩

end Sys2Proof.Laws
end

/-! PROOFS. Template coefficients: evaluations, staging commands and the end of a build (05 R160-R162, Table 5-1), the clears of the
PCX (Table 5-4) and the bank of a closed record (06 R191). -/

section
namespace Sys2Proof.Laws

open Sys2Proof Sys2Proof.Machine

section
variable {s : State} {v : Via} {o : Origin} {seq : Word} {src : Src} {fadc madc : List (List Int)} {t : Nat}

/-! ### The evaluation of a run -/

/-- The state in which every frame of the ended runs is in their averages at an instant. -/
def evaluationInput (s : State) (fadc madc : List (List Int)) (t : Nat) : State := ((s.takeSamples fadc madc t).at_ t).calCollect true

/-- The measurement of a run is taken out for its evaluation. -/
def withoutMean (s : State) (r : CalMean) : State := { s with pcx := { s.pcx with means := s.pcx.means.erase r } }

theorem exec_tfEvaluation_of_none (none : (evaluationInput s fadc madc t).pcx.means.find? (·.ended) = none) :
    exec (.tfEvaluation fadc madc t) s = .next (evaluationInput s fadc madc t) := by
  refine congrArg Host.Outcome.next ?_
  unfold evaluationInput at none ⊢
  simp only [none]

/-- The state of the templates decides what an evaluation that is due does (Table 5-1). -/
theorem exec_tfEvaluation_of_some {r : CalMean} (due : (evaluationInput s fadc madc t).pcx.means.find? (·.ended) = some r) :
    let w := evaluationInput s fadc madc t
    exec (.tfEvaluation fadc madc t) s = .next
      (if w.tfState = Tf.applying then ((withoutMean w r).post .pcx PcxCode.tfBusy 0).count F.PCX_EVENT_COUNT.BUSY 1
       else (withoutMean w r).tfEvaluate r) := by
  refine congrArg Host.Outcome.next ?_
  unfold evaluationInput at due ⊢
  simp only [due]
  rfl

/-! ### Staging commands (R161, Table 5-1) -/

/-- A request with an operation of TF_CONTROL acts by register, and by message when the message carries that operation as its OP. -/
theorem tfControl_of_takesUp {op : Nat} {act : State → State} (up : s.takesUp v [0x0403] .pcx = true)
    (named : ∀ o seq, v = .msg o seq → field (s.payload v) 0 1 = op) : s.tfControl v op act = act s := by
  cases v with
  | reg src => exact onUnit_of_takesUp R.PCX_CTRL up
  | msg o seq =>
    obtain ⟨on, requested⟩ := Bool.and_eq_true_iff.mp up
    obtain ⟨r, found⟩ := Option.isSome_iff_exists.mp requested
    exact (withRequest_some s o seq _ _ r found).trans
      ((if_pos (named o seq rfl)).trans (onUnit_on s _ .pcx R.PCX_CTRL act on))

theorem tfLoad_of_not_applying (free : s.tfState ≠ Tf.applying) : s.tfLoad v =
    (((List.range (min 16 (2 ^ s.fld F.PGU_TONE_CFG.K_CODE))).foldl (fun a i =>
      a.setReg R.PCX_TF_STAGE_SRC (setBits (a.reg R.PCX_TF_STAGE_SRC) (2 * i + 1) (2 * i) 2)) s).finish v .pcx 0 0).tfStaged :=
  if_neg free

theorem tfCommit_of_staged (staged : s.tfState = Tf.staged) : s.tfCommit v = (s.finish v .pcx 0 0).tfApply := if_pos staged

theorem tfCommit_of_not_staged (other : s.tfState ≠ Tf.staged) : s.tfCommit v = s.finish v .pcx PcxCode.tfBusy 0 := if_neg other

theorem tfDiscard_of_staged (staged : s.tfState = Tf.staged) : s.tfDiscard v = s.clearStage.finish v .pcx 0 0 := by
  have free : s.tfState ≠ Tf.applying := by
    rw [staged]
    decide
  exact (if_neg free).trans (if_pos staged)

/-- The words of a TF_STAGE request stand in the staging registers of its tone. -/
def withStagedWords (s : State) (p : Bytes) : State :=
  (List.range (field p 2 1)).foldl (fun a i => a.setReg (R.PCX_TF_STAGEk_q (field p 0 1) (field p 1 1 + i)) (w32 (field p (4 + 4 * i) 4))) s

theorem exec_tfStage_of_takesUp (up : s.takesUp (.msg o seq) [0x0402] .pcx = true) :
    exec (.tfStage o seq) s = .next
      (if s.tfState = Tf.applying then s.finish (.msg o seq) .pcx PcxCode.tfBusy 0
       else (withStagedWords s (s.payload (.msg o seq))).finish (.msg o seq) .pcx 0 0) :=
  congrArg Host.Outcome.next (onUnit_of_takesUp R.PCX_CTRL up)

/-! ### The end of a template build, clears, and a released bank -/

/-- A build that ends while the ANC and the ALM can take a record is appended as an epoch (R162, R504). -/
theorem exec_templateBuildDone_of_appendable (building : s.pcx.building = true) (ready : s.ancState = Anc.ready)
    (room : s.appendCount < 4) (on : s.unitOn .alm = true) :
    exec .templateBuildDone s = .next { s with
      pcx := { s.pcx with building := false, appending := true, second := some s.stagedSet }
      alm := { s.alm with appends := s.alm.appends ++ [⟨none, s.stagedEntries.map CalEntry.bytes, true, []⟩] } } := by
  have ends : ¬(!s.pcx.building) = true := by simp [building]
  have accepted : ¬(s.ancState ≠ Anc.ready ∨ s.appendCount ≥ 4 ∨ (!s.unitOn .alm) = true) := by simp [ready, room, on]
  exact congrArg Host.Outcome.next ((if_neg ends).trans (if_neg accepted))

theorem exec_pcxFaultClr_of_on (on : s.unitOn .pcx = true) : exec (.pcxFaultClr src) s = .next (s.pcxFaultClr.thenStart s) :=
  congrArg Host.Outcome.next (onUnit_on s _ .pcx R.PCX_CTRL (fun s => s.pcxFaultClr.thenStart s) on)

theorem pcxFaultClr_of_fault (fault : s.pcxState = Pcx.fault) :
    s.pcxFaultClr = (s.setFld F.PCX_STATUS.STATE Pcx.ready).show .pcx 0 0 := if_pos fault

theorem exec_pcxCountClr_of_on (on : s.unitOn .pcx = true) : exec (.pcxCountClr src) s = .next s.pcxCountClr :=
  congrArg Host.Outcome.next (onUnit_on s _ .pcx R.PCX_CTRL State.pcxCountClr on)

theorem exec_bankRelease_of_closed {b : RamanRec} {rest : List RamanRec} (closed : s.therm.closed = b :: rest) :
    let a : State := { s with therm := { s.therm with closed := rest } }
    exec .bankRelease s = .next
      (if s.therm.avg = Therm.waiting then ({ a with therm := { a.therm with avg := Therm.accumulating } } : State).thermStatus else a) := by
  refine congrArg Host.Outcome.next ?_
  simp only [closed]

end

/-- Settles O32: an evaluation, a stage and each operation of TF_CONTROL by the state of the templates, the end of a build by what
the ALM can take. -/
theorem templatesComplete : Obligations.TemplatesComplete := by
  intro s v o seq src fadc madc t m p reaches w
  have control (op : Nat) (act : State → State) (h : reaches op) : s.tfControl v op act = act s := by
    obtain ⟨up, named⟩ := h
    refine tfControl_of_takesUp up fun o seq viaMsg => ?_
    subst viaMsg
    exact named
  refine ⟨fun r due => ⟨fun applying => ?_, fun free => ?_⟩, exec_tfEvaluation_of_none, fun up => ⟨fun applying => ?_, fun free => ?_⟩,
    fun h free => ?load, fun h staged => ?commit, fun h other => ?refused, fun h staged => ?discard,
    exec_templateBuildDone_of_appendable,
    fun on => ⟨fun fault => ?_, exec_pcxCountClr_of_on on⟩, fun b rest => exec_bankRelease_of_closed⟩
  · exact (exec_tfEvaluation_of_some due).trans (congrArg _ (if_pos applying))
  · exact (exec_tfEvaluation_of_some due).trans (congrArg _ (if_neg free))
  · exact (exec_tfStage_of_takesUp up).trans (congrArg _ (if_pos applying))
  · exact (exec_tfStage_of_takesUp up).trans (congrArg _ (if_neg free))
  case load => exact congrArg Host.Outcome.next ((control 1 _ h).trans (tfLoad_of_not_applying free))
  case commit => exact congrArg Host.Outcome.next ((control 2 _ h).trans (tfCommit_of_staged staged))
  case refused => exact congrArg Host.Outcome.next ((control 2 _ h).trans (tfCommit_of_not_staged other))
  case discard => exact congrArg Host.Outcome.next ((control 3 _ h).trans (tfDiscard_of_staged staged))
  · rw [exec_pcxFaultClr_of_on on, pcxFaultClr_of_fault fault]

end Sys2Proof.Laws
end

/-! PROOFS. Engine memory and boot flash as written (07 R232, 02 R74, 21 R520), and data registers by their rotating names (07 R224). -/

section
namespace Sys2Proof.Laws

open Sys2Proof Sys2Proof.Machine

/-! ### Memories -/

section
variable {d : Nat → Byte} {m : Mem} {a : Nat} {bs : Bytes}

/-- A run of bytes reads as the bytes found at its addresses. -/
theorem memBytes_eq_of_tabGet (h : ∀ i b, bs[i]? = some b → tabGet d m (a + i) = b) : memBytes d m a bs.length = bs := by
  induction bs generalizing a with
  | nil => rfl
  | cons b bs ih =>
    have head : tabGet d m a = b := h 0 b rfl
    have tail : memBytes d m (a + 1) bs.length = bs := ih fun i c hc => by
      rw [Nat.add_assoc, Nat.add_comm 1 i]
      exact h (i + 1) c hc
    rw [List.length_cons, memBytes, head, tail]

theorem memBytes_memPut_self (wf : tabWf d m = true) : memBytes d (memPut d m a bs) a bs.length = bs :=
  memBytes_eq_of_tabGet fun i b hi => tabGet_memPut_at d bs m a i b hi wf

theorem memBytes_one_memPut_of_lt_or_ge {x : Nat} (outside : x < a ∨ a + bs.length ≤ x) :
    memBytes d (memPut d m a bs) x 1 = memBytes d m x 1 :=
  congrArg (fun b : Byte => [b]) (tabGet_memPut_of_lt_or_ge d bs m a x outside)

end

/-- Settles O7: engine memory and boot flash are canonical sparse memories, so the laws of a memory that was written hold of both. -/
theorem memoryReadBack : Obligations.MemoryReadBack := by
  intro s a b ⟨_, _, mems⟩
  simp only [State.memsWf, Bool.and_eq_true] at mems
  obtain ⟨⟨flash, _⟩, engine⟩ := mems
  exact ⟨memBytes_memPut_self engine, fun _ => memBytes_one_memPut_of_lt_or_ge,
    memBytes_memPut_self flash, fun _ => memBytes_one_memPut_of_lt_or_ge⟩

/-! ### Names of data registers -/

theorem drIndex_of_lt {rrb n : Nat} (low : n < 16) : drIndex rrb n = n := if_pos low

theorem drIndex_of_ge {rrb n : Nat} (high : 16 ≤ n) : drIndex rrb n = 16 + (n - 16 + rrb) % 16 := if_neg (Nat.not_lt.mpr high)

theorem drIndex_lt_iff {rrb n : Nat} : drIndex rrb n < 16 ↔ n < 16 := by
  rcases Nat.lt_or_ge n 16 with low | high
  · simp only [drIndex_of_lt low]
  · simp only [drIndex_of_ge high]
    omega

/-- Two names of a bank never address one register: low names are kept, and the names above them rotate among themselves. -/
theorem drIndex_injective {rrb m n : Nat} (hm : m < 32) (hn : n < 32) (same : drIndex rrb m = drIndex rrb n) : m = n := by
  have side : m < 16 ↔ n < 16 := by rw [← drIndex_lt_iff, same, drIndex_lt_iff]
  rcases Nat.lt_or_ge m 16 with low | high
  · rwa [drIndex_of_lt low, drIndex_of_lt (side.mp low)] at same
  · have high' : 16 ≤ n := Nat.not_lt.mp fun low => Nat.not_lt.mpr high (side.mpr low)
    rw [drIndex_of_ge high, drIndex_of_ge high'] at same
    omega

/-- A result for a name of the bank flies to the physical register that the name addresses at its issue. -/
theorem flyDr_of_lt {s : State} {k lane lat name : Nat} {v : Word} (named : name < 32) :
    s.flyDr k lane lat name v = s.fly k lane lat false (.dr (drIndex (s.bankOf k lane).rrb name) v) := if_pos named

/-- Settles O14: the physical register of a name is fixed at issue, and a landing takes no account of RRB. -/
theorem dataRegisterNames : Obligations.DataRegisterNames :=
  ⟨fun _ _ => drIndex_of_lt, fun _ _ => drIndex_of_ge, fun _ _ _ => drIndex_injective, fun _ _ _ _ _ _ => flyDr_of_lt, fun _ _ _ _ => rfl⟩

end Sys2Proof.Laws
end

/-! PROOFS. Exponents and rounded read-outs: redundant sign bits of a number, and shifts that round to the nearest (07 R217, R218). -/

section
namespace Sys2Proof.Laws

open Sys2Proof Sys2Proof.Machine

/-- The bits that a number needs besides its sign. -/
def magnitudeBits (z : Int) : Nat :=
  let m := (if z < 0 then -z - 1 else z).toNat
  if m = 0 then 0 else m.log2 + 1

theorem redundant_eq_sub_magnitudeBits (k : Nat) (z : Int) : redundant k z = k - 1 - magnitudeBits z := rfl

/-- A number needs at most `n` bits besides its sign exactly when it lies in the range of n + 1 bits. -/
theorem magnitudeBits_le_iff {n : Nat} {z : Int} : magnitudeBits z ≤ n ↔ -(2 ^ n : Int) ≤ z ∧ z < 2 ^ n := by
  have bits (m : Nat) : (if m = 0 then 0 else m.log2 + 1) ≤ n ↔ m < 2 ^ n := by
    split
    case isTrue zero => exact iff_of_true (Nat.zero_le n) (zero ▸ Nat.two_pow_pos n)
    case isFalse pos => rw [Nat.succ_le_iff, Nat.log2_lt pos]
  have cast : ((2 ^ n : Nat) : Int) = 2 ^ n := Int.natCast_pow 2 n
  rw [magnitudeBits, bits]
  split <;> omega

theorem two_pow_pos (n : Nat) : (0 : Int) < 2 ^ n := Int.pow_pos (by decide)

/-- A number times 2^r lies in a range 2^r times as wide exactly when the number lies in the range. -/
theorem mul_two_pow_mem_range_iff {n r : Nat} {z : Int} :
    (-(2 ^ (n + r) : Int) ≤ z * 2 ^ r ∧ z * 2 ^ r < 2 ^ (n + r)) ↔ (-(2 ^ n : Int) ≤ z ∧ z < 2 ^ n) := by
  have pos : (0 : Int) < 2 ^ r := two_pow_pos r
  rw [Int.pow_add, ← Int.neg_mul, Int.mul_le_mul_right pos, Int.mul_lt_mul_right pos]

section
variable {k : Nat} {z : Int}

theorem redundant_le : redundant k z ≤ k - 1 := by
  rw [redundant_eq_sub_magnitudeBits]
  exact Nat.sub_le _ _

theorem magnitudeBits_add_redundant (inside : -(2 ^ (k - 1) : Int) ≤ z ∧ z < 2 ^ (k - 1)) :
    magnitudeBits z + redundant k z = k - 1 := by
  rw [redundant_eq_sub_magnitudeBits, Nat.add_sub_of_le (magnitudeBits_le_iff.mpr inside)]

/-- Shifted left by its redundant sign bits a number stays in its k bits (R217: NORM by EXPA never saturates). -/
theorem shift_redundant_mem_range (inside : -(2 ^ (k - 1) : Int) ≤ z ∧ z < 2 ^ (k - 1)) :
    -(2 ^ (k - 1) : Int) ≤ z * 2 ^ redundant k z ∧ z * 2 ^ redundant k z < 2 ^ (k - 1) := by
  rw [← magnitudeBits_add_redundant inside, mul_two_pow_mem_range_iff]
  exact magnitudeBits_le_iff.mp (Nat.le_refl _)

/-- One more shift takes a number out of its k bits, for it needs every bit that `magnitudeBits` counts. -/
theorem shift_redundant_succ_not_mem_range (inside : -(2 ^ (k - 1) : Int) ≤ z ∧ z < 2 ^ (k - 1)) (less : redundant k z < k - 1) :
    ¬(-(2 ^ (k - 1) : Int) ≤ z * 2 ^ (redundant k z + 1) ∧ z * 2 ^ (redundant k z + 1) < 2 ^ (k - 1)) := by
  have total := magnitudeBits_add_redundant inside
  have parts : k - 1 = (magnitudeBits z - 1) + (redundant k z + 1) := by omega
  have needed : ¬ magnitudeBits z ≤ magnitudeBits z - 1 := by omega
  rwa [parts, mul_two_pow_mem_range_iff, ← magnitudeBits_le_iff]

end

section
variable {v : Int} {sh : Nat}

theorem roundShift_zero : roundShift v 0 = v := if_pos rfl

/-- A rounded shift is the quotient of the value and half a unit. -/
theorem roundShift_of_pos (pos : 0 < sh) : roundShift v sh = (v + 2 ^ (sh - 1)) / 2 ^ sh := by
  simp only [roundShift, if_neg (Nat.ne_of_gt pos), Int.natCast_pow, Int.cast_ofNat_Int]

theorem roundShift_mul_le (pos : 0 < sh) : roundShift v sh * 2 ^ sh ≤ v + 2 ^ (sh - 1) := by
  rw [roundShift_of_pos pos]
  exact Int.ediv_mul_le _ (Int.ne_of_gt (two_pow_pos sh))

theorem lt_roundShift_succ_mul (pos : 0 < sh) : v + 2 ^ (sh - 1) < (roundShift v sh + 1) * 2 ^ sh := by
  rw [roundShift_of_pos pos]
  exact Int.lt_ediv_add_one_mul_self _ (two_pow_pos sh)

end

/-- Settles O15: the range of a number decides how many bits it needs, and a rounded shift is a quotient. -/
theorem exponentsAndRounding : Obligations.ExponentsAndRounding := by
  refine ⟨fun k z _ low high => ⟨redundant_le, shift_redundant_mem_range ⟨low, high⟩,
      shift_redundant_succ_not_mem_range ⟨low, high⟩⟩,
    fun b w => ⟨fun zero => ?_, fun pos => ⟨roundShift_mul_le pos, lt_roundShift_succ_mul pos⟩⟩⟩
  rw [accRounded, zero, roundShift_zero]

end Sys2Proof.Laws
end

/-! PROOFS. The sums of a MAC operation in flight to their accumulators (07 R216, R220). -/

section
namespace Sys2Proof.Laws

open Sys2Proof Sys2Proof.Machine

/-! ### Results in flight -/

section
variable {α : Type} [DecidableEq α] {d : Nat → α} {t : List (Nat × α)} {k : Nat} {v : α}

/-- A value that is not the default is read back from any table, canonical or not. -/
theorem tabGet_tabPut_self_of_ne (listed : v ≠ d k) : tabGet d (tabPut d t k v) k = v := by
  induction t with
  | nil => simp [tabPut, tabGet, listed]
  | cons e t ih =>
    obtain ⟨j, u⟩ := e
    by_cases same : k = j
    · subst same
      simp [tabPut, tabGet, listed]
    · by_cases before : k < j <;> simp [tabPut, tabGet, listed, same, before, ih]

/-- Of two writes of one key the second counts, when the first left an entry. -/
theorem tabPut_tabPut_of_ne (listed : v ≠ d k) (u : α) : tabPut d (tabPut d t k v) k u = tabPut d t k u := by
  induction t with
  | nil => simp [tabPut, listed]
  | cons e t ih =>
    obtain ⟨j, x⟩ := e
    by_cases same : k = j
    · subst same
      simp [tabPut, listed]
    · by_cases before : k < j <;> simp [tabPut, listed, same, before, ih]

end

section
variable {s : State} {k lane lat : Nat} {mac : Bool}

/-- A stream's record with results added to those in flight, all issued now with one latency. -/
def withFlights (th : Thread) (lane lat : Nat) (mac : Bool) (xs : List Landing) : Thread :=
  { th with flights := th.flights ++ xs.map (⟨th.cycle + lat - 1, lane, th.bank1, mac, ·⟩) }

theorem withFlights_ne_zero {xs : List Landing} (nonempty : xs ≠ []) (th : Thread) : withFlights th lane lat mac xs ≠ Thread.zero := by
  intro h
  have empty : (withFlights th lane lat mac xs).flights = [] := congrArg Thread.flights h
  simp [withFlights, nonempty] at empty

theorem withFlights_withFlights (th : Thread) (xs ys : List Landing) :
    withFlights (withFlights th lane lat mac xs) lane lat mac ys = withFlights th lane lat mac (xs ++ ys) := by
  simp [withFlights]

theorem fly_eq_setThread (x : Landing) : s.fly k lane lat mac x = s.setThread k (withFlights (s.thread k) lane lat mac [x]) := rfl

theorem thread_setThread_of_ne_zero {th : Thread} (h : th ≠ Thread.zero) : (s.setThread k th).thread k = th :=
  tabGet_tabPut_self_of_ne h

theorem setThread_setThread_of_ne_zero {th : Thread} (h : th ≠ Thread.zero) (u : Thread) :
    (s.setThread k th).setThread k u = s.setThread k u := by
  simp only [State.setThread, tabPut_tabPut_of_ne (d := fun _ => Thread.zero) h]

/-- Results issued one after another in one cycle change the record of their stream, and nothing else. -/
theorem foldl_fly_eq_setThread {xs : List Landing} (nonempty : xs ≠ []) :
    xs.foldl (fun a x => a.fly k lane lat mac x) s = s.setThread k (withFlights (s.thread k) lane lat mac xs) := by
  induction xs generalizing s with
  | nil => exact absurd rfl nonempty
  | cons x xs ih =>
    by_cases more : xs = []
    case pos =>
      subst more
      rfl
    case neg =>
      have issued : withFlights (s.thread k) lane lat mac [x] ≠ Thread.zero := withFlights_ne_zero (List.cons_ne_nil x []) _
      rw [List.foldl_cons, ih more, fly_eq_setThread, thread_setThread_of_ne_zero issued, setThread_setThread_of_ne_zero issued,
        withFlights_withFlights, List.singleton_append]

end

/-! ### The sums of a MAC operation -/

section
variable {s : State} {k w lane : Nat} {f : MacSums}

/-- The sums that a MAC operation forms in a lane. -/
def macSums (s : State) (k w lane : Nat) (f : MacSums) : List Int :=
  let b := s.bankOf k lane
  f (b.reg (wBits w 44 40)) (b.reg (wBits w 39 35)) (b.reg (wBits w 34 30))

/-- The accumulator ACB + n with a sum added or subtracted, before saturation (R216). -/
def macTotal (s : State) (k w lane n : Nat) (sum : Int) : Int :=
  (if bitAt w 29 then 0 else s.macAcc k lane (wBits w 47 45 + n)) + (if bitAt w 28 then -sum else sum)

/-- What lands in accumulator ACB + n. -/
def macLanding (s : State) (k w lane n : Nat) (sum : Int) : Landing :=
  let z := macTotal s k w lane n sum
  .ac (wBits w 47 45 + n) (acWord (satInt 40 z)) (decide (satInt 40 z ≠ z))

/-- What the sums of a lane land, one accumulator after another. -/
def macLandings (s : State) (k w lane : Nat) (f : MacSums) : List Landing :=
  (List.range (macSums s k w lane f).length).map (fun n => macLanding s k w lane n ((macSums s k w lane f).getD n 0))

theorem map_zip_range_eq {β : Type} (l : List Int) (g : Nat → Int → β) :
    ((List.range l.length).zip l).map (fun x => g x.1 x.2) = (List.range l.length).map (fun n => g n (l.getD n 0)) :=
  List.ext_getElem (by simp) fun n inside _ => by
    have listed : n < l.length := by simpa using inside
    simp [listed]

/-- A MAC operation issues its landings in one cycle. -/
theorem macLane_eq_foldl_fly : s.macLane k w f lane = (macLandings s k w lane f).foldl (fun a x => a.fly k lane 2 true x) s := by
  rw [macLandings, ← map_zip_range_eq _ (macLanding s k w lane), State.macLane, List.foldl_map, List.foldl_map]
  rfl

theorem macLandings_eq_nil_iff : macLandings s k w lane f = [] ↔ macSums s k w lane f = [] := by simp [macLandings]

theorem macLane_of_no_sums (none : macSums s k w lane f = []) : s.macLane k w f lane = s := by
  rw [macLane_eq_foldl_fly, macLandings_eq_nil_iff.mpr none, List.foldl_nil]

/-- A MAC operation that forms a sum changes the results in flight of its stream, and nothing else. -/
theorem macLane_of_sums (sums : macSums s k w lane f ≠ []) :
    s.macLane k w f lane = s.setThread k (withFlights (s.thread k) lane 2 true (macLandings s k w lane f)) := by
  rw [macLane_eq_foldl_fly, foldl_fly_eq_setThread (mt macLandings_eq_nil_iff.mp sums)]

theorem flights_macLane : ((s.macLane k w f lane).thread k).flights
    = (withFlights (s.thread k) lane 2 true (macLandings s k w lane f)).flights := by
  by_cases sums : macSums s k w lane f = []
  case pos => simp [macLane_of_no_sums sums, macLandings_eq_nil_iff.mpr sums, withFlights]
  case neg => rw [macLane_of_sums sums, thread_setThread_of_ne_zero (withFlights_ne_zero (mt macLandings_eq_nil_iff.mp sums) _)]

end

/-- Settles O36: a MAC operation issues its landings in one cycle, with latency 2; `macLane_of_sums` gives the frame. -/
theorem macAccumulates : Obligations.MacAccumulates := by
  intro s k w lane f b sums th
  rw [flights_macLane, withFlights, macLandings, List.map_map]
  rfl

end Sys2Proof.Laws
end

/-! PROOFS. Gecko instructions that a stream issues: control, ALU, MAC, ACC, loads and stores, special functions, moves and
exchanges (07 R213-R223, R225, R226, R229, R232-R235, R238, R239, R243, R244). -/

section
namespace Sys2Proof.Laws

open Sys2Proof Sys2Proof.Machine

/-! ### The issue of an instruction -/

section
variable {s : State} {e : Fin 64} {cls op k w : Nat} {run : Run} {after : Nat → Nat → List Nat → State → State}

/-- What follows a run of word `w` in stream `k`: its faults stop the group, or the stream advances. -/
def afterRun (s : State) (k w : Nat) (after : Nat → Nat → List Nat → State → State) : Except Faulting State → State
  | .error faults => (s.fetched k).engineFaults k ((s.fetched k).thread k).pc faults
  | .ok t => after k w ((s.fetched k).executing k w) (t.advance k)

/-- A stream that issues a sound, legal word of the operation runs it. -/
theorem issueThen_of_issues (h : s.Issues e cls op k w) :
    s.issueThen e cls op run after = afterRun s k w after (run k w ((s.fetched k).executing k w) (s.fetched k)) := by
  obtain ⟨stream, running, word, inside, sound, legal, cls_eq, op_eq⟩ := h
  subst word
  simp only [State.issueThen, stream, running, Bool.not_true, Bool.false_eq_true, if_false, if_neg (Nat.not_le.mpr inside), sound,
    List.isEmpty_nil, legal, cls_eq, op_eq, bne_self_eq_false, Bool.or_self]
  cases run k _ ((s.fetched k).executing k _) (s.fetched k) <;> rfl

/-- A command whose instruction has something to do after the advance. -/
theorem exec_of_runThen {i : Instr} {r t : State} (h : r.Issues e cls op k w) (issues : exec i s = .next (r.issueThen e cls op run after))
    (ok : run k w ((r.fetched k).executing k w) (r.fetched k) = .ok t) :
    exec i s = .next (after k w ((r.fetched k).executing k w) (t.advance k)) := by
  rw [issues, issueThen_of_issues h, ok, afterRun]

/-- A command whose instruction faults nothing gives the state before the advance. -/
theorem exec_of_run {i : Instr} {r t : State} (h : r.Issues e cls op k w) (issues : exec i s = .next (r.issue e cls op run))
    (ok : run k w ((r.fetched k).executing k w) (r.fetched k) = .ok t) : exec i s = .next (t.advance k) :=
  exec_of_runThen h issues ok

/-- A command whose instruction acts in each executing lane on its own. -/
theorem exec_of_lanes {i : Instr} {f : Nat → State → State} (h : s.Issues e cls op k w) (issues : exec i s = .next (s.issue e cls op run))
    (lanes : run k w ((s.fetched k).executing k w) (s.fetched k)
      = .ok (((s.fetched k).executing k w).foldl (fun a x => f x a) (s.fetched k))) :
    exec i s = .next (s.afterLanes k w f) := exec_of_run h issues lanes

/-- A command whose instruction acts once for its stream. -/
theorem exec_of_once {i : Instr} {f : State → State} (h : s.Issues e cls op k w) (issues : exec i s = .next (s.issue e cls op run))
    (once : run k w ((s.fetched k).executing k w) (s.fetched k)
      = .ok (if ((s.fetched k).executing k w).isEmpty then s.fetched k else f (s.fetched k))) :
    exec i s = .next (s.afterOnce k w f) := exec_of_run h issues once

/-- A command whose instruction faults. -/
theorem exec_of_faults {i : Instr} {r : State} {faults : Faulting} (h : r.Issues e cls op k w)
    (issues : exec i s = .next (r.issueThen e cls op run after))
    (error : run k w ((r.fetched k).executing k w) (r.fetched k) = .error faults) :
    exec i s = .next ((r.fetched k).engineFaults k ((r.fetched k).thread k).pc faults) := by
  rw [issues, issueThen_of_issues h, error, afterRun]

end

/-! ### Control (R223, R225, R226, R243, R244) -/

section
variable {s : State} {k w : Nat} {ex : List Nat}

/-- A branch leaves a loop that goes on as it is: one that is not active, or one that holds the target. -/
theorem runBr_of_inside (stays : (s.bankOf k k).active = false
      ∨ ((s.bankOf k k).lstart ≤ wBits w 47 36 ∧ wBits w 47 36 ≤ (s.bankOf k k).lend)) :
    runBr k w ex s = .ok (if ex.isEmpty then s else s.branch k (wBits w 47 36) false) := by
  have goesOn : ((s.bankOf k k).active && (decide (wBits w 47 36 < (s.bankOf k k).lstart) || decide ((s.bankOf k k).lend < wBits w 47 36)))
      = false := by
    rcases stays with idle | ⟨above, below⟩
    · rw [idle, Bool.false_and]
    · rw [decide_eq_false (Nat.not_lt.mpr above), decide_eq_false (Nat.not_lt.mpr below), Bool.or_self, Bool.and_false]
  simp only [runBr, goesOn, Bool.false_eq_true, if_false]

/-- A branch to a target outside the active loop ends it. -/
theorem runBr_of_outside (active : (s.bankOf k k).active = true)
    (out : wBits w 47 36 < (s.bankOf k k).lstart ∨ (s.bankOf k k).lend < wBits w 47 36) :
    runBr k w ex s = .ok (if ex.isEmpty then s
      else (s.eachBank k (fun x => { x with active := false })).branch k (wBits w 47 36) false) := by
  have ends : ((s.bankOf k k).active && (decide (wBits w 47 36 < (s.bankOf k k).lstart) || decide ((s.bankOf k k).lend < wBits w 47 36)))
      = true := by simpa [active] using out
  simp only [runBr, ends, if_true]

theorem runLoop_of_zero (zero : s.ctrlCount k w = 0) :
    runLoop k w ex s = .ok (if ex.isEmpty then s else s.setThread k { s.thread k with pc := wBits w 47 36 }) := by
  simp only [runLoop, zero, if_true]

theorem runLoop_of_pos (pos : s.ctrlCount k w ≠ 0) :
    runLoop k w ex s = .ok (if ex.isEmpty then s else (s.loopMeets k).eachBank k (fun x => { x with
      lc := s.ctrlCount k w, ec := wBits w 27 25, pd := (x.pd &&& 0x0F) ||| 0x10
      lstart := ((s.thread k).pc + 1) % 4096, lend := wBits w 47 36, active := true })) := by
  simp only [runLoop, if_neg pos]

variable (executes : ex ≠ [])
include executes

theorem not_isEmpty_of_executes : ¬ ex.isEmpty = true := mt List.isEmpty_iff.mp executes

theorem afterRep_of_pos (pos : s.ctrlCount k w ≠ 0) :
    afterRep k w ex s = s.setThread k { s.thread k with rep := some (s.ctrlCount k w) } := by
  simp only [afterRep, if_neg (not_isEmpty_of_executes executes), if_neg pos]

theorem afterWait_of_executes : afterWait k w ex s = s.setEng ex Eng.waiting := if_neg (not_isEmpty_of_executes executes)

theorem afterHalt_of_executes : afterHalt k w ex s = (s.haltStream k).haltDone := if_neg (not_isEmpty_of_executes executes)

theorem runTrap_of_executes : runTrap k w ex s = .error (ex.map (fun x => (x, GeaCode.trap, 0x0100 + wBits w 7 0))) :=
  if_neg (not_isEmpty_of_executes executes)

end

/-- Settles O33: each control instruction by the state that its run gives, the faults, or what follows the advance. -/
theorem geckoControlComplete : Obligations.GeckoControlComplete := by
  intro s e k w ex b pc tgt
  exact ⟨fun h => exec_of_run h rfl rfl,
    fun h stays => exec_of_once h rfl (runBr_of_inside stays),
    fun h active out => exec_of_once h rfl (runBr_of_outside active out),
    fun h => exec_of_once h rfl rfl,
    fun h => exec_of_once h rfl rfl,
    fun h zero => exec_of_once h rfl (runLoop_of_zero zero),
    fun h pos => exec_of_once h rfl (runLoop_of_pos pos),
    fun h executes pos => (exec_of_runThen h rfl rfl).trans (congrArg Host.Outcome.next (afterRep_of_pos executes pos)),
    fun h executes => (exec_of_runThen h rfl rfl).trans (congrArg Host.Outcome.next (afterWait_of_executes executes)),
    fun h executes => (exec_of_runThen h rfl rfl).trans (congrArg Host.Outcome.next (afterHalt_of_executes executes)),
    fun h => exec_of_once h rfl rfl,
    fun h => exec_of_run h rfl rfl,
    fun h executes => exec_of_faults h rfl (runTrap_of_executes executes),
    fun h => exec_of_lanes h rfl rfl⟩

/-! ### Arithmetic (Table 7-4, R216-R218) -/

/-- Settles O34: each row of the class is a command whose run acts in each executing lane by the row's function. -/
theorem geckoAluComplete : Obligations.GeckoAluComplete := by
  intro s e k w
  refine ⟨fun c row h => ?results, fun c row h => ?compares⟩
  case results =>
    simp only [List.mem_cons, List.not_mem_nil, or_false] at row
    rcases row with rfl | rfl | rfl | rfl | rfl | rfl | rfl | rfl | rfl | rfl | rfl | rfl | rfl | rfl | rfl | rfl | rfl | rfl | rfl | rfl | rfl | rfl | rfl <;> exact exec_of_lanes h rfl rfl
  case compares =>
    simp only [List.mem_cons, List.not_mem_nil, or_false] at row
    rcases row with rfl | rfl | rfl <;> exact exec_of_lanes h rfl rfl

/-- Settles O37: each row of the class is a command whose run acts in each executing lane by the row's function. -/
theorem geckoAccComplete : Obligations.GeckoAccComplete := by
  intro s e k w r acc c row h
  simp only [List.mem_cons, List.not_mem_nil, or_false] at row
  rcases row with rfl | rfl | rfl | rfl | rfl | rfl | rfl | rfl | rfl | rfl <;> exact exec_of_lanes h rfl rfl

section
variable {s : State} {k w : Nat} {ex : List Nat} {xs : List (EngAccess × Bytes × Nat)} {a : State}

theorem runMac_of_loads (f : MacSums) (loads : s.loads k 8 ((s.loading k w).map (s.macAccess k w)) = .ok (xs, a)) :
    runMac f k w ex s = .ok (
      let b := ex.foldl (fun y x => y.macLane k w f x) a
      let d := xs.foldl (fun y x => (y.flyDr k x.1.lane x.2.2 (wBits w 26 22) ((pairOf x.2.1).getD 0 0)).flyDr k x.1.lane x.2.2
        (wBits w 26 22 + 1) ((pairOf x.2.1).getD 1 0)) b
      d.updateAds k (xs.map (·.1))) := by
  simp only [runMac, loads]

end

/-- Settles O35: each row of the class is a command whose run adds the row's sums, once its parallel load is sound. -/
theorem geckoMacComplete : Obligations.GeckoMacComplete := by
  intro s e ecc k w u q c row h xs a loads
  simp only [List.mem_cons, List.not_mem_nil, or_false] at row
  rcases row with rfl | rfl | rfl | rfl | rfl <;> exact exec_of_run h rfl (runMac_of_loads _ loads)

/-! ### Loads and stores (R213, R220, R221, R232-R235) -/

section
variable {s : State} {k w : Nat} {ex : List Nat} {a : State} {n : Nat}

theorem runLoad_of_loads {ys : List (EngAccess × Bytes × Nat)} (conv : Bytes → List Word)
    (loads : s.loads k n (ex.map (s.lsAccess k w)) = .ok (ys, a)) :
    runLoad n conv k w ex s = .ok ((ys.foldl (fun z x => ((List.range (conv x.2.1).length).zip (conv x.2.1)).foldl (fun b v =>
      b.flyDr k x.1.lane x.2.2 (wBits w 47 43 + v.1) v.2) z) a).updateAds k (ys.map (·.1))) := by
  simp only [runLoad, loads]

theorem runStore_of_sound (aligned : accessFaults n true (ex.map (s.lsAccess k w)) = [])
    (ranges : let r := s.stored k n (wBits w 47 43) (ex.map (s.lsAccess k w)); r.2.goFaults r.1 = []) :
    runStore n k w ex s = .ok (
      let xs := ex.map (s.lsAccess k w)
      let r := s.stored k n (wBits w 47 43) xs
      (((r.1.foldl (fun a x => a.storeOne x) r.2).pushOnce k r.1).updateAds k xs)) := by
  dsimp only at ranges
  simp only [runStore, aligned, ranges]

end

/-- Settles O38: loads and stores by their runs; the commands of the I/O page run LD32 and ST32 where they point at their offset. -/
theorem geckoLoadsStoresComplete : Obligations.GeckoLoadsStoresComplete := by
  intro s e ecc k w u p q xs loaded
  refine ⟨fun c row h ys a loads => ?load, fun c row h points ys a loads => ?ioLoad,
    fun c row h aligned => ?store, fun c row h points aligned => ?ioStore⟩
  case load =>
    simp only [List.mem_cons, List.not_mem_nil, or_false] at row
    rcases row with rfl | rfl | rfl | rfl <;> exact exec_of_run h rfl (runLoad_of_loads _ loads)
  case ioLoad =>
    simp only [List.mem_cons, List.not_mem_nil, or_false] at row
    rcases row with rfl | rfl <;> exact exec_of_run h (congrArg Host.Outcome.next (if_pos points)) (runLoad_of_loads _ loads)
  case store =>
    intro r ranges
    simp only [List.mem_cons, List.not_mem_nil, or_false] at row
    rcases row with rfl | rfl | rfl <;> exact exec_of_run h rfl (runStore_of_sound aligned ranges)
  case ioStore =>
    intro r ranges
    simp only [List.mem_cons, List.not_mem_nil, or_false] at row
    rcases row with rfl | rfl <;> exact exec_of_run h (congrArg Host.Outcome.next (if_pos points)) (runStore_of_sound aligned ranges)

/-! ### Special functions, moves and exchanges (R212, R219, R238) -/

/-- Settles O39: each row is a command whose run acts in each executing lane by the row's function; SWR by what its run gives. -/
theorem geckoSfuMoveXchComplete : Obligations.GeckoSfuMoveXchComplete := by
  intro s e k w reg
  refine ⟨fun c row h => ?lanes, fun h t ok => exec_of_run h rfl ok, fun c row h => ?exchange⟩
  case lanes =>
    simp only [List.mem_cons, List.not_mem_nil, or_false] at row
    rcases row with rfl | rfl | rfl | rfl | rfl | rfl | rfl | rfl <;> exact exec_of_lanes h rfl rfl
  case exchange =>
    simp only [List.mem_cons, List.not_mem_nil, or_false] at row
    rcases row with rfl | rfl | rfl | rfl | rfl <;> exact exec_of_lanes h rfl rfl

end Sys2Proof.Laws
end

/-! PROOFS. Events of the engine array: writeback, interrupt entry, halts, the end of a DMA transfer, and the requests of GEA_CTRL
(07 R220, R227, R228, R234, R235, R243-R245, Table 7-11). -/

section
namespace Sys2Proof.Laws

open Sys2Proof Sys2Proof.Machine

/-! ### Streams -/

section
variable {s : State} {e : Fin 64} {k : Nat}

/-- What is due lands, and a running stream advances by its own instructions alone. -/
theorem exec_resultWriteback_of_running (stream : s.streamOf e.val = some k) (running : s.engState k = Eng.running) :
    exec (.resultWriteback e) s = .next (s.settle k) := by
  refine congrArg Host.Outcome.next ?_
  simp only [stream, running, beq_self_eq_true, Bool.or_true, if_true]

/-- The state in which a stream that stands at its next instruction has entered its interrupt, before the two cycles without issue (R228). -/
def interrupted (q : State) (k : Nat) : State :=
  let t := q.thread k
  let a := q.setThread k { t with epc := t.pc, pc := t.ivec, bank1 := true }
  let b := a.setEng (a.lanesOf k) Eng.running
  (b.lanesOf k).foldl (fun y x => y.setFld (F.GEA_ENGk_STATE.BANK x) 1) b

/-- An enabled interrupt that is pending at an interruptible point of a running or waiting stream is taken. -/
theorem exec_interruptEntry_of_pending (stream : s.streamOf e.val = some k)
    (state : (s.settle k).engState k = Eng.running ∨ (s.settle k).engState k = Eng.waiting)
    (point : ((s.settle k).thread k).atPoint = true) (pending : ((s.settle k).ipend k &&& ((s.settle k).thread k).imask) ≠ 0) :
    exec (.interruptEntry e) s = .next (((interrupted (s.settle k) k).tickStream k).tickStream k) := by
  have taken : (((s.settle k).engState k == Eng.running || (s.settle k).engState k == Eng.waiting) && ((s.settle k).thread k).atPoint
      && ((s.settle k).ipend k &&& ((s.settle k).thread k).imask) != 0) = true := by simp [state, point, pending]
  refine congrArg Host.Outcome.next ?_
  simp only [stream, taken, if_true]
  rfl

theorem exec_haltComplete_of_point (stream : s.streamOf e.val = some k) (running : s.engState k = Eng.running)
    (requested : (s.thread k).halting = true) (point : (s.thread k).atPoint = true) :
    exec (.haltComplete e) s = .next (s.haltStream k).haltDone := by
  refine congrArg Host.Outcome.next ?_
  simp only [stream, running, requested, point, beq_self_eq_true, Bool.and_true, if_true]

end

/-! ### The end of a DMA transfer -/

/-- The request that a transfer of an engine's channel makes of the DMC (R234). -/
def dmaRequest (u : State) (e : Nat) : DramReq :=
  ⟨enginePath e, 2, !(u.dma e).toLocal, (u.dma e).dram, u.localBytes e (u.dma e).localAddr (u.dma e).len, (u.dma e).len, u.now⟩

/-- A transfer of an engine's channel is in progress, the DMC can serve it, and its local address is mapped to an aperture offset. -/
structure Transfers (u : State) (e ap : Nat) : Prop where
  busy : (u.dma e).busy = true
  can : u.dmcCan (dmaRequest u e) = true
  mapped : localAddr e (u.dma e).localAddr = some ap

theorem Transfers.not_waits {u : State} {e ap : Nat} (h : Transfers u e ap) :
    ¬((!(u.dma e).busy) = true ∨ (!u.dmcCan (dmaRequest u e)) = true) := by simp [h.busy, h.can]

section
variable {s : State} {e : Fin 64} {ecc : Upsets} {ap : Nat}

theorem exec_dmaDone_of_data {a : State} {b : Bytes} (h : Transfers (s.upset ecc) e.val ap)
    (toLocal : ((s.upset ecc).dma e.val).toLocal = true)
    (read : (s.upset ecc).dramRead (enginePath e.val) 2 ((s.upset ecc).dma e.val).dram ((s.upset ecc).dma e.val).len = (a, some b)) :
    exec (.dmaDone e ecc) s = .next ((a.setEmem ap b).dmaEnd e.val) := by
  refine congrArg Host.Outcome.next ((if_neg h.not_waits).trans ?_)
  simp only [h.mapped, toLocal, if_true, read]

theorem exec_dmaDone_of_no_data {a : State} (h : Transfers (s.upset ecc) e.val ap) (toLocal : ((s.upset ecc).dma e.val).toLocal = true)
    (read : (s.upset ecc).dramRead (enginePath e.val) 2 ((s.upset ecc).dma e.val).dram ((s.upset ecc).dma e.val).len = (a, none)) :
    exec (.dmaDone e ecc) s = .next a := by
  refine congrArg Host.Outcome.next ((if_neg h.not_waits).trans ?_)
  simp only [h.mapped, toLocal, if_true, read]

theorem exec_dmaDone_of_sound (h : Transfers (s.upset ecc) e.val ap) (toDram : ((s.upset ecc).dma e.val).toLocal = false)
    (sound : (s.upset ecc).upsetIn ap ((s.upset ecc).dma e.val).len true = []) :
    let u := s.upset ecc
    let d := u.dma e.val
    exec (.dmaDone e ecc) s = .next (((u.eccRead ap d.len).dramWrite (enginePath e.val) 2 d.dram (u.emem ap d.len)).dmaEnd e.val) := by
  refine congrArg Host.Outcome.next ((if_neg h.not_waits).trans ?_)
  simp only [h.mapped, toDram, sound, List.isEmpty_nil, Bool.not_true, Bool.false_eq_true, if_false]

/-- A word with two upset bits that a transfer to DRAM reads faults the engine (R245). -/
theorem exec_dmaDone_of_upset (h : Transfers (s.upset ecc) e.val ap) (toDram : ((s.upset ecc).dma e.val).toLocal = false)
    (upset : (s.upset ecc).upsetIn ap ((s.upset ecc).dma e.val).len true ≠ []) :
    exec (.dmaDone e ecc) s = .next ((s.upset ecc).dmaFault e.val) := by
  refine congrArg Host.Outcome.next ((if_neg h.not_waits).trans ?_)
  simp only [h.mapped, toDram, List.isEmpty_eq_false_iff.mpr upset, Bool.not_false, Bool.false_eq_true, if_false, if_true]

end

/-! ### Requests of GEA_CTRL -/

section
variable {s : State} {src : Src}

theorem exec_haltReq_of_on (on : s.unitOn .gea = true) : exec (.haltReq src) s = .next s.haltReq :=
  congrArg Host.Outcome.next (onUnit_on s _ .gea R.GEA_CTRL State.haltReq on)

theorem exec_resume_of_on (on : s.unitOn .gea = true) : exec (.resume src) s = .next s.resumeGroups :=
  congrArg Host.Outcome.next (onUnit_on s _ .gea R.GEA_CTRL State.resumeGroups on)

theorem exec_geaFaultClr_of_on (on : s.unitOn .gea = true) : exec (.geaFaultClr src) s = .next s.geaFaultClr :=
  congrArg Host.Outcome.next (onUnit_on s _ .gea R.GEA_CTRL State.geaFaultClr on)

theorem exec_geaDoorbell_of_on (on : s.unitOn .gea = true) : exec (.geaDoorbell src) s = .next s.geaDoorbell :=
  congrArg Host.Outcome.next (onUnit_on s _ .gea R.GEA_CTRL State.geaDoorbell on)

theorem exec_geaCountClr_of_on (on : s.unitOn .gea = true) : exec (.geaCountClr src) s = .next s.geaCountClr :=
  congrArg Host.Outcome.next (onUnit_on s _ .gea R.GEA_CTRL State.geaCountClr on)

/-- Faulted groups that are selected load again from the active copy (R244). -/
theorem geaFaultClr_of_copy (copy : s.flag F.SIL_STATE.ACTIVE_COPY = true) : s.geaFaultClr = s.selected.foldl (fun a x =>
    if a.groupState x.2 = Eng.fault then a.setEng x.2.engines Eng.loading else a) s :=
  if_neg (by simp [copy])

end

/-- Settles O40: a stream's events by its state, the end of a transfer by its direction and what its read finds, requests by GEA_CTRL. -/
theorem engineEventsComplete : Obligations.EngineEventsComplete := by
  intro s e ecc src k th q tq u d can
  refine ⟨fun stream => ⟨exec_resultWriteback_of_running stream, exec_interruptEntry_of_pending stream,
      exec_haltComplete_of_point stream⟩,
    fun ap busy served mapped => ?dma,
    fun on => ⟨exec_haltReq_of_on on, exec_resume_of_on on,
      fun copy => (exec_geaFaultClr_of_on on).trans (congrArg Host.Outcome.next (geaFaultClr_of_copy copy)),
      exec_geaDoorbell_of_on on, exec_geaCountClr_of_on on⟩⟩
  case dma =>
    have h : Transfers (s.upset ecc) e.val ap := ⟨busy, served, mapped⟩
    refine ⟨fun a b toLocal read => ?_, exec_dmaDone_of_sound h, exec_dmaDone_of_upset h⟩
    cases b with
    | some b => exact exec_dmaDone_of_data h toLocal read
    | none => exact exec_dmaDone_of_no_data h toLocal read

end Sys2Proof.Laws
end

/-! PROOFS. Slots of the schedule and dynamic slots: how one that is due takes its lane and acts, and how a dynamic slot is
requested and cancelled (08 R249-R253, Table 8-1). -/

section
namespace Sys2Proof.Laws

open Sys2Proof Sys2Proof.Machine

/-! ### A slot whose turn has come -/

/-- A programmed slot has taken its lane, and its place is the last one executed (R251). -/
def progTaken (s : State) (e n k : Nat) (r : SlotRun) : State :=
  let u := s.takeLane r.instant
  { u with mrs := { u.mrs with slotKey := slotOrder r.instant false e n k } }

/-- A dynamic slot has taken its lane and has left the outstanding ones (R251, R253). -/
def dynTaken (s : State) (d : DynSlot) (r : SlotRun) : State :=
  let u := s.takeLane r.instant
  { u with mrs := { u.mrs with dyn := u.mrs.dyn.erase d } }

section
variable {s : State} {a : Nat} {act : SlotRun → State → State}

theorem runSlot_prog_of_found {e n k : Nat} {r : SlotRun} (found : s.progSlot e n k a = some r) :
    s.runSlot (.prog e n k) a act = if s.progNext e k r then act r (progTaken s e n k r) else s := by
  simp only [State.runSlot, found]
  rfl

theorem runSlot_dyn_of_found {q : Fin 32} {tag : BitVec 16} {d : DynSlot} {r : SlotRun}
    (found : s.dynSlot q.val tag.toNat a = some (d, r)) :
    s.runSlot (.dyn q tag) a act = if s.dynNext d then act r (dynTaken s d r) else s := by
  simp only [State.runSlot, found]
  rfl

/-- A command that runs the slot it names gives that slot its action once its turn has come, and does nothing before (log entry 190). -/
theorem exec_slot_of_runs {c : SlotRef → Instr} (runs : ∀ ref, exec (c ref) s = .next (s.runSlot ref a act)) (e n k : Nat) (q : Fin 32)
    (tag : BitVec 16) :
    (∀ r, s.progSlot e n k a = some r →
        exec (c (.prog e n k)) s = .next (if s.progNext e k r then act r (progTaken s e n k r) else s))
      ∧ ∀ d r, s.dynSlot q.val tag.toNat a = some (d, r) →
        exec (c (.dyn q tag)) s = .next (if s.dynNext d then act r (dynTaken s d r) else s) :=
  ⟨fun _ found => (runs _).trans (congrArg _ (runSlot_prog_of_found found)),
    fun _ _ found => (runs _).trans (congrArg _ (runSlot_dyn_of_found found))⟩

end

/-- Settles O24: each of the seven commands runs the slot it names with the action of its code in Table 8-1. -/
theorem slotsComplete : Obligations.SlotsComplete := by
  intro s e n k q tag prog
  have runs {a : Nat} {c : SlotRef → Instr} {act : SlotRun → State → State}
      (h : ∀ ref, exec (c ref) s = .next (s.runSlot ref a act)) : prog a c act := exec_slot_of_runs h e n k q tag
  -- Without its value `prog` is compared by its arguments alone, never by its body.
  clear_value prog
  refine ⟨runs fun _ => rfl, runs fun _ => rfl, runs fun _ => rfl, runs fun _ => rfl,
    runs fun ref => congrArg (fun act => Host.Outcome.next (s.runSlot ref 5 act))
      (funext fun r => funext fun a => ?captureOpen), runs fun _ => rfl,
    runs fun ref => congrArg (fun act => Host.Outcome.next (s.runSlot ref 7 act))
      (funext fun r => funext fun a => ?slotDoorbell)⟩
  case captureOpen =>
    refine ite_congr rfl (fun _ => rfl) fun _ => ?_
    cases a.recDef r.arg <;> rfl
  case slotDoorbell => cases a.groups.find? (fun g => enginePath g.lowest == r.target) <;> rfl

/-! ### Requests and cancels of dynamic slots -/

section
variable {s : State} {t frame action arg : Nat} {q : Fin 32} {off : Int} {tag : BitVec 16}

theorem exec_dynamicSlotRequest_of_accepted (accepted : (s.at_ t).dynRefusal frame off = none) :
    exec (.dynamicSlotRequest t q frame off action arg tag) s = .next { s.at_ t with mrs := { (s.at_ t).mrs with
      dyn := (s.at_ t).mrs.dyn ++ [⟨tag.toNat, q.val, frame, off, action, arg⟩] } } := by
  refine congrArg Host.Outcome.next ?_
  simp only [accepted]

theorem exec_dynamicSlotRequest_of_refused {code : Nat} (refused : (s.at_ t).dynRefusal frame off = some code) :
    exec (.dynamicSlotRequest t q frame off action arg tag) s
      = .next (((s.at_ t).count F.MRS_SLOT_SLIP.REFUSED 1).post .mrs code 0) := by
  refine congrArg Host.Outcome.next ?_
  simp only [refused]

/-- The instant of a dynamic slot as a cancel sees it: of a frame that is open or placed its slot instant, of a later one whole periods
ahead (R253). -/
def dynInstant (u : State) (d : DynSlot) : Int :=
  match u.slotFrame d.frame with
  | some f => ((slotInstant f 0 d.offset : Nat) : Int)
  | none => ((u.launch + (d.frame - u.frame) * u.fld F.MRS_PERIOD.T : Nat) : Int) + d.offset

theorem exec_dynamicSlotCancel_of_inTime {d : DynSlot}
    (found : (s.at_ t).mrs.dyn.find? (fun d => d.requester = q.val ∧ d.tag = tag.toNat) = some d)
    (inTime : ((s.at_ t).now : Int) + 125 ≤ dynInstant (s.at_ t) d) :
    exec (.dynamicSlotCancel t q tag) s = .next ((s.at_ t).dropDyn d) := by
  refine congrArg Host.Outcome.next ?_
  simp only [found]
  exact if_pos inTime

end

end Sys2Proof.Laws
end

/-! PROOFS. Dispatch of the blocks of a stream: thermal records, Rayleigh blocks and whole frames (08 R254-R257). -/

section
namespace Sys2Proof.Laws

open Sys2Proof Sys2Proof.Machine

/-- The state at the instant of a dispatch, with the converters' samples taken up to it. -/
def sampled (s : State) (fadc madc : List (List Int)) (t : Nat) : State := (s.takeSamples fadc madc t).at_ t

/-- A block's ready event in a frame is taken once. -/
theorem readyBlock_of_known {s : State} {d : Dispatch} (known : (s.blk d.block).known d.frame = true) (input : Bytes) :
    s.readyBlock d input = s := if_pos known

theorem rayReadyBlock_eq (s : State) (i : Nat) (f : FrameRec) (j first b ready : Nat) :
    s.rayReadyBlock i f j first b ready = if (s.blk j).known f.num then s else
      ({ s with mrs := { s.mrs with rayIn := s.mrs.rayIn ++ [s.rayInput f j first b] } } : State).readyBlock
        (mkDispatch i f j first b (s.deadlineField f) ready f.reset) (s.packBins f first b) := by
  unfold State.rayReadyBlock
  by_cases known : (s.blk j).known f.num = true
  · simp only [if_pos known]
    exact readyBlock_of_known known _
  · simp only [if_neg known]

section
variable {s : State} {stream : Fin 8} {index frame t i : Nat} {fadc madc : List (List Int)} {st : RStream}

/-- A record that is due goes out under its closing frame (R255). -/
theorem exec_blockDispatch_of_record {d : ThermDue}
    (found : (sampled s fadc madc t).streams.find? (fun x => x.1 = stream.val) = some (i, st)) (inside : index < st.blockCount)
    (thermal : st.source = 1 ∨ st.source = 2)
    (due : (sampled s fadc madc t).therm.due.find? (fun d => d.source == st.source && d.last == frame) = some d) :
    exec (.blockDispatch stream index frame fadc madc t) s
      = .next ((sampled s fadc madc t).thermReadyBlock i (st.firstBlock + index) d) := by
  refine congrArg Host.Outcome.next ?_
  unfold sampled at found due
  simp only [found, if_neg (Nat.not_le.mpr inside), if_pos thermal, due]
  rfl

/-- A frame that gives its Rayleigh and MADC3 blocks to their groups: opened with acquisition, neither lost nor diagnostic (R255). -/
structure Dispatches (u : State) (frame : Nat) (f : FrameRec) : Prop where
  placed : u.mrs.frames.find? (·.num = frame) = some f
  real : f.real = true
  kept : f.lost = false
  plain : f.diag = false

theorem Dispatches.not_skipped {u : State} {f : FrameRec} (h : Dispatches u frame f) :
    ¬((!f.real) = true ∨ f.lost = true ∨ f.diag = true) := by simp [h.real, h.kept, h.plain]

/-- A Rayleigh block at or after its ready instant. -/
theorem exec_blockDispatch_of_ready {f : FrameRec} {ready : Nat}
    (found : (sampled s fadc madc t).streams.find? (fun x => x.1 = stream.val) = some (i, st)) (inside : index < st.blockCount)
    (frames : Dispatches (sampled s fadc madc t) frame f) (rayleigh : st.source = 0) (calibrated : f.cal = false)
    (bins : min 256 (f.rules.count - 256 * index) ≠ 0)
    (known : (sampled s fadc madc t).rayReady f (f.rules.firstBin + 256 * index + min 256 (f.rules.count - 256 * index)) = some ready)
    (due : ready ≤ t) :
    exec (.blockDispatch stream index frame fadc madc t) s = .next ((sampled s fadc madc t).rayReadyBlock i f (st.firstBlock + index)
      (f.rules.firstBin + 256 * index) (min 256 (f.rules.count - 256 * index)) ready) := by
  have waits : ¬(f.cal = true ∨ min 256 (f.rules.count - 256 * index) = 0 ∨ t < ready) := by
    rintro (h | h | h)
    · exact absurd h (ne_true_of_eq_false calibrated)
    · exact bins h
    · exact Nat.not_lt.mpr due h
  have notThermal : ¬(st.source = 1 ∨ st.source = 2) := by rw [rayleigh]; decide
  have placed := frames.placed
  refine congrArg Host.Outcome.next ?_
  unfold sampled at found known placed
  simp only [found, if_neg (Nat.not_le.mpr inside), if_neg notThermal, placed, if_neg frames.not_skipped, if_pos rayleigh,
    known, if_neg waits]
  rfl

/-- The one block of a whole-frame stream once the frame's bins have passed. -/
theorem exec_blockDispatch_of_wholeFrame {f : FrameRec}
    (found : (sampled s fadc madc t).streams.find? (fun x => x.1 = stream.val) = some (i, st)) (inside : 0 < st.blockCount)
    (frames : Dispatches (sampled s fadc madc t) frame f) (notRayleigh : st.source ≠ 0) (notRaman : st.source ≠ 1)
    (notBrillouin : st.source ≠ 2) (due : f.launch + f.cfg.bins * f.cfg.pitch ≤ t) :
    let w := sampled s fadc madc t
    exec (.blockDispatch stream 0 frame fadc madc t) s = .next (w.readyBlock
      (mkDispatch i f st.firstBlock 0 0 (w.deadlineField f) (f.launch + f.cfg.bins * f.cfg.pitch) false) (w.packMedium f t)) := by
  have notThermal : ¬(st.source = 1 ∨ st.source = 2) := fun h => h.elim notRaman notBrillouin
  have waits : ¬(0 ≠ 0 ∨ t < f.launch + f.cfg.bins * f.cfg.pitch) := fun h => h.elim (absurd rfl) (Nat.not_lt.mpr due)
  have placed := frames.placed
  refine congrArg Host.Outcome.next ?_
  unfold sampled at found placed
  simp only [found, if_neg (Nat.not_le.mpr inside), if_neg notThermal, placed, if_neg frames.not_skipped, if_neg notRayleigh, if_neg waits]
  rfl

end

/-- Settles O25: requests and cancels by what the checks answer, a dispatch by the source of its stream. -/
theorem dynamicSlotsAndDispatchComplete : Obligations.DynamicSlotsAndDispatchComplete := by
  intro s t frame action arg index q off tag stream fadc madc u w
  refine ⟨exec_dynamicSlotRequest_of_accepted, fun code => exec_dynamicSlotRequest_of_refused, fun d => exec_dynamicSlotCancel_of_inTime,
    fun i st found inside => ⟨fun d => exec_blockDispatch_of_record found inside, fun f placed real kept plain => ?frames⟩⟩
  case frames =>
    have frames : Dispatches w frame f := ⟨placed, real, kept, plain⟩
    refine ⟨fun ready known rayleigh calibrated bins due => ?_, fun notRayleigh notRaman notBrillouin first due => ?_⟩
    · rw [exec_blockDispatch_of_ready found inside frames rayleigh calibrated bins known due, rayReadyBlock_eq]
      rfl
    · subst first
      exact exec_blockDispatch_of_wholeFrame found inside frames notRayleigh notRaman notBrillouin due

end Sys2Proof.Laws
end

/-! PROOFS. Requests to the MRS: start and stop of acquisition, and the requests of MRS_CTRL (08 R262, R263, R265, Tables 8-4, 8-8). -/

section
namespace Sys2Proof.Laws

open Sys2Proof Sys2Proof.Machine

theorem at_acq (s : State) (t : Nat) : (s.at_ t).acq = s.acq := at_fld s t _ (by decide) (by decide)

section
variable {s : State} {v : Via} {src : Src} {t : Nat}

/-! ### Start (Table 8-4) -/

theorem exec_acqStart_of_takesUp (up : s.takesUp v [0x0301] .mrs = true) : exec (.acqStart v t) s = .next ((s.at_ t).acqStart v) :=
  congrArg Host.Outcome.next (onUnit_of_takesUp R.MRS_CTRL ((at_takesUp s t v [0x0301] .mrs).trans up))

theorem acqStart_of_noImage (none_active : s.acq = Mrs.noImage) : s.acqStart v = s.finish v .mrs MrsCode.noImage 0 := if_pos none_active

theorem acqStart_of_changing (changing : s.acq = Mrs.starting ∨ s.acq = Mrs.stopping) :
    s.acqStart v = s.finish v .mrs MrsCode.busy 0 := by
  have active : s.acq ≠ Mrs.noImage := by rcases changing with h | h <;> rw [h] <;> decide
  exact (if_neg active).trans (if_pos changing)

theorem acqStart_of_running (running : s.acq = Mrs.running) : s.acqStart v = s.finish v .mrs 0 0 := by
  simp only [State.acqStart, running]
  rfl

/-- From STOPPED a start votes RUN and waits for the units, with no stop noted. -/
theorem acqStart_of_stopped (stopped : s.acq = Mrs.stopped) :
    let a := (s.setFld F.MRS_STATUS.STATE Mrs.starting).finish v .mrs 0 0
    s.acqStart v = (({ a with mrs := { a.mrs with readyAt := none, stopAt := none } } : State).meridian 0).tryStart := by
  simp only [State.acqStart, stopped]
  rfl

/-! ### Stop (Table 8-4) -/

theorem exec_acqStop_of_takesUp (up : s.takesUp v [0x0302] .mrs = true) : exec (.acqStop v t) s = .next ((s.at_ t).acqStop v) :=
  congrArg Host.Outcome.next (onUnit_of_takesUp R.MRS_CTRL ((at_takesUp s t v [0x0302] .mrs).trans up))

theorem acqStop_of_starting (starting : s.acq = Mrs.starting) :
    let b := (s.finish v .mrs 0 0).stoppedNow
    s.acqStop v = ({ b with mrs := { b.mrs with readyAt := none } } : State).meridian 1 := if_pos starting

theorem acqStop_of_running (running : s.acq = Mrs.running) (unnoted : s.mrs.stopAt = none) :
    let a := s.finish v .mrs 0 0
    s.acqStop v = { a with mrs := { a.mrs with stopAt := some s.now } } := by
  have started : s.acq ≠ Mrs.starting := by rw [running]; decide
  exact (if_neg started).trans (if_pos ⟨running, Option.isNone_iff_eq_none.mpr unnoted⟩)

theorem acqStop_of_idle (notStarting : s.acq ≠ Mrs.starting) (notRunning : s.acq ≠ Mrs.running) :
    s.acqStop v = s.finish v .mrs 0 0 := (if_neg notStarting).trans (if_neg fun h => notRunning h.1)

/-! ### Requests of MRS_CTRL -/

theorem exec_mrsCountClr_of_on (on : s.unitOn .mrs = true) : exec (.mrsCountClr src) s = .next s.mrsCountClr :=
  congrArg Host.Outcome.next (onUnit_on s _ .mrs R.MRS_CTRL State.mrsCountClr on)

theorem exec_healthClr_of_on (on : s.unitOn .mrs = true) : exec (.healthClr src) s = .next s.mrsHealthClr :=
  congrArg Host.Outcome.next (onUnit_on s _ .mrs R.MRS_CTRL State.mrsHealthClr on)

theorem exec_rebalanceReset_of_on (on : s.unitOn .mrs = true) : exec (.rebalanceReset src) s = .next s.mrsRebalance :=
  congrArg Host.Outcome.next (onUnit_on s _ .mrs R.MRS_CTRL State.mrsRebalance on)

end

/-- Settles O26: a start or stop by the state of acquisition at its instant, a request of MRS_CTRL by what it does to a unit that is on. -/
theorem mrsRequestsComplete : Obligations.MrsRequestsComplete := by
  intro s v src t u
  have acq : u.acq = s.acq := at_acq s t
  have stopAt : u.mrs.stopAt = s.mrs.stopAt := congrArg MrsSt.stopAt (at_mrs s t)
  refine ⟨fun up => ?start, fun up => ?stop,
    fun on => ⟨exec_mrsCountClr_of_on on, exec_healthClr_of_on on, exec_rebalanceReset_of_on on⟩⟩
  case start =>
    rw [exec_acqStart_of_takesUp up, ← acq]
    exact ⟨fun h => congrArg _ (acqStart_of_noImage h), fun h => congrArg _ (acqStart_of_changing h),
      fun h => congrArg _ (acqStart_of_running h), fun h => congrArg _ (acqStart_of_stopped h)⟩
  case stop =>
    intro a
    rw [exec_acqStop_of_takesUp up, ← acq, ← stopAt]
    exact ⟨fun h => congrArg _ (acqStop_of_starting h), fun h unnoted => congrArg _ (acqStop_of_running h unnoted),
      fun starting running => congrArg _ (acqStop_of_idle starting running)⟩

end Sys2Proof.Laws
end

/-! PROOFS. The zone table: run-time changes, reads and the requests of ZNT_CTRL (09 R272-R276, R297). -/

section
namespace Sys2Proof.Laws

open Sys2Proof Sys2Proof.Machine

/-! ### Faults of the units with the states of Table 5-4 -/

theorem blkFaultClr_of_fault {s : State} (u : Machine.Unit) {st : Fld} (fault : s.fld st = Blk.fault) :
    s.blkFaultClr u st = (s.setFld st Blk.ready).show u 0 0 := if_pos fault

section
variable {s : State} {o : Origin} {seq : Word} {src : Src}

/-! ### Run-time changes (R273) -/

theorem takeChange_of_refused {n code : Nat} {refusal : Option Nat} {add : Option Zone} (refused : refusal = some code) :
    s.takeChange o seq n refusal add
      = ((s.count F.ZNT_CHANGE_COUNT.REFUSED 1).raise .znt F.ZNT_IRQ_STATUS.CHANGE_REFUSED).finish (.msg o seq) .znt code n := by
  subst refused
  rfl

theorem takeChange_of_accepted {n : Nat} {refusal : Option Nat} {add : Option Zone} (accepted : refusal = none) :
    s.takeChange o seq n refusal add = { s with znt := { s.znt with
      changes := s.znt.changes ++ [⟨add, n, o, seq, s.payload (.msg o seq), false, none⟩] } } := by
  subst accepted
  rfl

/-- The zone that a ZONE_ADD message asks for (18 Table 18-4). -/
def zoneAsked (s : State) (o : Origin) (seq : Word) : Zone :=
  let p := s.payload (.msg o seq)
  readZone p 0 (field p 16 1) (field p 17 1)

theorem exec_zoneAdd_of_takesUp (up : s.takesUp (.msg o seq) [0x0501] .znt = true) :
    exec (.zoneAdd o seq) s = .next (s.takeChange o seq (zoneAsked s o seq).number (s.addRefusal (zoneAsked s o seq))
      (some (zoneAsked s o seq))) :=
  congrArg Host.Outcome.next (onUnit_of_takesUp R.ZNT_CTRL up)

theorem exec_zoneRemove_of_takesUp (up : s.takesUp (.msg o seq) [0x0502] .znt = true) :
    let n := field (s.payload (.msg o seq)) 0 2
    exec (.zoneRemove o seq) s = .next (s.takeChange o seq n (s.removeRefusal n) none) :=
  congrArg Host.Outcome.next (onUnit_of_takesUp R.ZNT_CTRL up)

/-! ### Reads, and the requests of ZNT_CTRL -/

theorem exec_zoneRead_of_takesUp (up : s.takesUp (.msg o seq) [0x0503] .znt = true) :
    let p := s.payload (.msg o seq)
    let z := field p 0 2
    let q := field p 2 1
    exec (.zoneRead o seq) s = .next (s.finish (.msg o seq) .znt 0 0 (leBytes 4 (zinfo s.znt.zones z) ++ leBytes 4 (s.zoneBg z q).toNat
      ++ leBytes 4 (s.zoneRms z q).toNat ++ leBytes 1 (s.zoneState z) ++ zeros 3)) :=
  congrArg Host.Outcome.next (onUnit_of_takesUp R.ZNT_CTRL up)

theorem exec_statsReset_of_on (on : s.unitOn .znt = true) : exec (.statsReset src) s = .next s.zntStatsReset :=
  congrArg Host.Outcome.next (onUnit_on s _ .znt R.ZNT_CTRL State.zntStatsReset on)

theorem exec_zntCountClr_of_on (on : s.unitOn .znt = true) : exec (.zntCountClr src) s = .next (s.setReg R.ZNT_CHANGE_COUNT 0) :=
  congrArg Host.Outcome.next (onUnit_on s _ .znt R.ZNT_CTRL _ on)

theorem exec_zntFaultClr_of_on (on : s.unitOn .znt = true) :
    exec (.zntFaultClr src) s = .next ((s.blkFaultClr .znt F.ZNT_STATUS.STATE).thenStart s) :=
  congrArg Host.Outcome.next (onUnit_on s _ .znt R.ZNT_CTRL _ on)

end

/-- Settles O41: a change by what its checks answer, a read or a request of ZNT_CTRL by what it does to a ZNT that is on. -/
theorem zonesComplete : Obligations.ZonesComplete := by
  intro s o seq src v p z refused taken
  refine ⟨fun up => ?add, fun up => ?remove, exec_zoneRead_of_takesUp,
    fun on => ⟨exec_statsReset_of_on on, exec_zntCountClr_of_on on, fun fault => ?faultClr⟩⟩
  case add =>
    rw [exec_zoneAdd_of_takesUp up]
    exact ⟨fun h => congrArg _ (takeChange_of_accepted h), fun c h => congrArg _ (takeChange_of_refused h)⟩
  case remove =>
    rw [exec_zoneRemove_of_takesUp up]
    exact ⟨fun h => congrArg _ (takeChange_of_accepted h), fun c h => congrArg _ (takeChange_of_refused h)⟩
  case faultClr => rw [exec_zntFaultClr_of_on on, blkFaultClr_of_fault .znt fault]

end Sys2Proof.Laws
end

/-! PROOFS. Capture records: requests to arm, disarm, trigger and change a length, and the close and delivery of a record
(09 R287-R297). -/

section
namespace Sys2Proof.Laws

open Sys2Proof Sys2Proof.Machine

/-! ### What an arm request leaves (R288) -/

section
variable {s : State} {r : Nat} {own : Option (Nat × Nat)} {d : RecDef}

theorem capArm_of_undefined (undefined : s.recDef r = none) : s.capArm r own = (s, StuCode.badArg) := by
  simp only [State.capArm, undefined]

theorem capArm_of_noPost (defined : s.recDef r = some d) (noPost : (own.map (·.2)).getD d.post = 0) :
    s.capArm r own = (s, StuCode.badArg) := by
  simp only [State.capArm, defined]
  exact if_pos noPost

theorem capArm_of_busy (defined : s.recDef r = some d) (post : (own.map (·.2)).getD d.post ≠ 0) (busy : Cap.triggered ≤ s.capSt r) :
    s.capArm r own = (s, StuCode.armBusy) := by
  simp only [State.capArm, defined]
  exact (if_neg post).trans (if_pos busy)

theorem capArm_of_armed (defined : s.recDef r = some d) (post : (own.map (·.2)).getD d.post ≠ 0) (armed : s.capSt r = Cap.armed) :
    s.capArm r own = (s, if own.isSome then StuCode.armBusy else 0) := by
  simp only [State.capArm, defined, armed]
  exact if_neg post

theorem capArm_of_tooLong (defined : s.recDef r = some d) (idle : s.capSt r = Cap.idle) (post : (own.map (·.2)).getD d.post ≠ 0)
    (tooLong : ((s.cap r).newLen).getD (s.capLen r) < (own.map (·.1)).getD d.pre + (own.map (·.2)).getD d.post) :
    s.capArm r own = (s, StuCode.armTooLong) := by
  simp only [State.capArm, defined, idle]
  exact (if_neg post).trans (if_pos tooLong)

theorem capArm_of_fits (defined : s.recDef r = some d) (idle : s.capSt r = Cap.idle) (post : (own.map (·.2)).getD d.post ≠ 0)
    (fits : (own.map (·.1)).getD d.pre + (own.map (·.2)).getD d.post ≤ ((s.cap r).newLen).getD (s.capLen r))
    (enabled : s.flag F.STU_CFG.CAPTURE_EN = true) :
    s.capArm r own = ((((s.capLenNow r).capEmpty r ((own.map (·.1)).getD d.pre) ((own.map (·.2)).getD d.post)).setCapSt r
      Cap.armed).setFld (F.STU_RECr_STATE.REARM_CANCELLED r) 0, 0) := by
  simp only [State.capArm, defined, idle, enabled]
  exact (if_neg post).trans (if_neg (Nat.not_lt.mpr fits))

/-! ### What a disarm request leaves (Table 9-9) -/

theorem capDisarm_of_undefined (undefined : s.recDef r = none) : s.capDisarm r = (s, StuCode.badArg) := by
  simp only [State.capDisarm, undefined]

theorem capDisarm_of_armed (defined : s.recDef r = some d) (armed : s.capSt r = Cap.armed) :
    s.capDisarm r = (s.setCapSt r Cap.idle, 0) := by
  simp only [State.capDisarm, defined, armed]
  rfl

theorem capDisarm_of_triggered (defined : s.recDef r = some d) (triggered : s.capSt r = Cap.triggered) :
    s.capDisarm r = (s, StuCode.armBusy) := by
  simp only [State.capDisarm, defined, triggered]
  rfl

theorem capDisarm_of_delivering (defined : s.recDef r = some d) (delivering : s.capSt r = Cap.closing ∨ s.capSt r = Cap.rearm) :
    s.capDisarm r = (s.setFld (F.STU_RECr_STATE.REARM_CANCELLED r) 1, 0) := by
  rcases delivering with st | st <;> simp only [State.capDisarm, defined, st] <;> rfl

theorem capDisarm_of_idle (defined : s.recDef r = some d) (idle : s.capSt r = Cap.idle) : s.capDisarm r = (s, 0) := by
  simp only [State.capDisarm, defined, idle]
  rfl

/-! ### What a trigger leaves (R289, R290, R292) -/

/-- A trigger that names a record goes by that record's state and zone. -/
theorem capTrigger_of_defined (z : Nat) (numbered : r < 64) (defined : s.recDef r = some d) :
    s.capTrigger z r = if s.capSt r = Cap.armed then (s.capFire r d.zone, 0)
      else if s.capSt r = Cap.triggered then (s.setCap r { s.cap r with count := satSucc 65535 (s.cap r).count }, 0)
      else if s.capSt r = Cap.idle then (s.trigMissed d.zone, StuCode.missed)
      else (s.trigDead d.zone, StuCode.dead) := by
  have named : r ≠ 0xFF := by omega
  simp only [State.capTrigger, if_neg named, defined, Option.isSome_some, if_true, Option.map_some, Option.getD_some]

theorem capTrigger_of_armed (z : Nat) (numbered : r < 64) (defined : s.recDef r = some d) (armed : s.capSt r = Cap.armed) :
    s.capTrigger z r = (s.capFire r d.zone, 0) := (capTrigger_of_defined z numbered defined).trans (if_pos armed)

theorem capTrigger_of_triggered (z : Nat) (numbered : r < 64) (defined : s.recDef r = some d) (triggered : s.capSt r = Cap.triggered) :
    s.capTrigger z r = (s.setCap r { s.cap r with count := satSucc 65535 (s.cap r).count }, 0) := by
  rw [capTrigger_of_defined z numbered defined, triggered]
  rfl

theorem capTrigger_of_idle (z : Nat) (numbered : r < 64) (defined : s.recDef r = some d) (idle : s.capSt r = Cap.idle) :
    s.capTrigger z r = (s.trigMissed d.zone, StuCode.missed) := by
  rw [capTrigger_of_defined z numbered defined, idle]
  rfl

theorem capTrigger_of_delivering (z : Nat) (numbered : r < 64) (defined : s.recDef r = some d)
    (delivering : s.capSt r = Cap.closing ∨ s.capSt r = Cap.rearm) : s.capTrigger z r = (s.trigDead d.zone, StuCode.dead) := by
  rw [capTrigger_of_defined z numbered defined]
  rcases delivering with st | st <;> rw [st] <;> rfl

/-- The record that an armed one becomes: its newest full row is the trigger row, and it takes the zone's counts (log entry 45). -/
def capFired (x : CapRec) (zone : ZoneDead) : CapRec :=
  { x with
    trig := some (x.seq - 1), dead := zone.dead, missed := zone.missed, deadUs := min (2 ^ 32 - 1) (zone.samples / usec), count := 0 }

theorem capFire_eq (z : Nat) :
    let b := (s.settleCap r).settleDead z
    let x := b.cap r
    let c := ((b.setCap r (capFired x (b.zdead z))).setCapSt r Cap.triggered).setZdead z ZoneDead.fresh
    let e := if (x.rows.filter (fun k => decide (k.seq < x.seq - 1))).length < x.pre then c.postZone z StuCode.shortPre else c
    s.capFire r z = (e.raise .stu F.STU_IRQ_STATUS.TRIGGERED).settleDead z := by
  simp only [State.capFire, decide_eq_true_eq]
  rfl

/-! ### What a length change leaves (R294) -/

variable {n : Nat}

theorem capLength_of_undefined (undefined : s.recDef r = none) : s.capLength r n = (s, StuCode.badArg) := by
  simp only [State.capLength, undefined]

theorem capLength_of_outOfRange (defined : s.recDef r = some d) (out : n = 0 ∨ d.rows < n) : s.capLength r n = (s, StuCode.bufRange) := by
  simp only [State.capLength, defined]
  exact if_pos out

theorem capLength_of_tooShort (defined : s.recDef r = some d) (inRange : ¬(n = 0 ∨ d.rows < n)) (inUse : s.capSt r ≠ Cap.idle)
    (tooShort : n < (s.cap r).pre + (s.cap r).post) : s.capLength r n = (s, StuCode.armTooLong) := by
  simp only [State.capLength, defined, if_neg inUse]
  exact (if_neg inRange).trans (if_pos tooShort)

theorem capLength_of_idle (defined : s.recDef r = some d) (inRange : ¬(n = 0 ∨ d.rows < n)) (idle : s.capSt r = Cap.idle) :
    s.capLength r n = ((s.setCap r { s.cap r with newLen := none }).setFld (F.STU_RECr_STATE.LENGTH r) n, 0) := by
  simp only [State.capLength, defined, if_pos idle]
  exact (if_neg inRange).trans (if_neg (Nat.not_lt_zero n))

theorem capLength_of_inUse (defined : s.recDef r = some d) (inRange : ¬(n = 0 ∨ d.rows < n)) (inUse : s.capSt r ≠ Cap.idle)
    (enough : (s.cap r).pre + (s.cap r).post ≤ n) :
    s.capLength r n = ((s.setCap r { s.cap r with newLen := some n }).setFld (F.STU_RECr_STATE.LEN_PENDING r) 1, 0) := by
  simp only [State.capLength, defined, if_neg inUse]
  exact (if_neg inRange).trans (if_neg (Nat.not_lt.mpr enough))

end

/-! ### Requests that the STU takes up (Table 9-15) -/

section
variable {s : State} {v : Via} {o : Origin} {seq w : Word} {src : Src} {x : State} {code : Nat}

/-- The rows that a length change asks for (Table 9-15). -/
def lenAsked (s : State) (v : Via) : Nat := match v with | .reg _ => s.fld F.STU_ARG_LEN.ROWS | .msg _ _ => field (s.payload v) 4 4

theorem exec_capArm_of_answer (up : s.takesUp v [0x0601] .stu = true)
    (answer : s.capArm (s.capArgs v w).1 (s.capArgs v w).2 = (x, code)) :
    exec (.capArm v w) s = .next (State.capFinish v (s.capArgs v w).1 (x, code)) :=
  congrArg Host.Outcome.next ((onUnit_of_takesUp R.STU_CMD up).trans (congrArg (State.capFinish v _) answer))

theorem exec_capDisarm_of_answer (up : s.takesUp v [0x0602] .stu = true) (answer : s.capDisarm (s.capArgs v w).1 = (x, code)) :
    exec (.capDisarm v w) s = .next (State.capFinish v (s.capArgs v w).1 (x, code)) :=
  congrArg Host.Outcome.next ((onUnit_of_takesUp R.STU_CMD up).trans (congrArg (State.capFinish v _) answer))

theorem exec_capTrigger_of_undefined (up : s.takesUp v [0x0603] .stu = true) (undefined : s.recDef (s.capArgs v w).1 = none) :
    exec (.capTrigger v w) s = .next (State.capFinish v (s.capArgs v w).1 (s, StuCode.badArg)) := by
  refine congrArg Host.Outcome.next ((onUnit_of_takesUp R.STU_CMD up).trans ?_)
  simp only [State.capTriggerReq, undefined]

theorem exec_capTrigger_of_answer {d : RecDef} (up : s.takesUp v [0x0603] .stu = true) (defined : s.recDef (s.capArgs v w).1 = some d)
    (answer : s.capTrigger d.zone (s.capArgs v w).1 = (x, code)) :
    exec (.capTrigger v w) s = .next (State.capFinish v (s.capArgs v w).1 (x, code)) := by
  refine congrArg Host.Outcome.next ((onUnit_of_takesUp R.STU_CMD up).trans ?_)
  simp only [State.capTriggerReq, defined, answer]

theorem exec_capSetLength_of_answer (up : s.takesUp v [0x0604] .stu = true)
    (answer : s.capLength (s.capArgs v w).1 (lenAsked s v) = (x, code)) :
    exec (.capSetLength v w) s = .next (State.capFinish v (s.capArgs v w).1 (x, code)) :=
  congrArg Host.Outcome.next ((onUnit_of_takesUp R.STU_CMD up).trans (congrArg (State.capFinish v _) answer))

theorem exec_capState_of_takesUp (up : s.takesUp (.msg o seq) [0x0605] .stu = true) :
    exec (.capState o seq) s = .next (s.finish (.msg o seq) .stu 0 0
      (leBytes 4 (s.reg (R.STU_RECr_STATE (field (s.payload (.msg o seq)) 0 1))).toNat ++ zeros 4)) :=
  congrArg Host.Outcome.next (onUnit_of_takesUp R.STU_CMD up)

theorem exec_stuCountClr_of_on (on : s.unitOn .stu = true) : exec (.stuCountClr src) s = .next s.stuCountClr :=
  congrArg Host.Outcome.next (onUnit_on s _ .stu R.STU_CTRL State.stuCountClr on)

theorem exec_stuFaultClr_of_on (on : s.unitOn .stu = true) :
    exec (.stuFaultClr src) s = .next ((s.blkFaultClr .stu F.STU_STATUS.STATE).thenStart s) :=
  congrArg Host.Outcome.next (onUnit_on s _ .stu R.STU_CTRL _ on)

end

/-! ### Close and delivery (R290, R293, R296) -/

section
variable {s : State} {r : Fin 64}

theorem capClose_of_defined {s : State} {r : Nat} {d : RecDef} (defined : s.recDef r = some d) :
    let c := s.settleCap r
    let e := ((c.setCap r { c.cap r with postShort := false }).setCapSt r Cap.closing).settleDeads
    s.capClose r false = e.streamOut (e.fld F.STU_CFG.CAPTURE_CHANNEL) .dram (e.capBlock r d) (e.capSpans r) := by
  simp only [State.capClose, defined]
  rfl

theorem exec_capturePostComplete_of_complete (triggered : (s.settleCap r.val).capSt r.val = Cap.triggered)
    (complete : (s.settleCap r.val).capComplete r.val = true) :
    exec (.capturePostComplete r) s = .next ((s.settleCap r.val).capClose r.val false) :=
  congrArg Host.Outcome.next (if_pos (by simp [triggered, complete]))

theorem exec_captureDeliveryDone_of_delivered (closing : s.capSt r.val = Cap.closing) (delivered : s.capWaiting r.val = false) :
    let x := s.cap r.val
    let b := s.setCap r.val { x with
      holdoff := some (s.frame + ((s.recDef r.val).map (·.holdoff)).getD 0), frames := [], part := [], rows := [], gone := [] }
    exec (.captureDeliveryDone r) s = .next (((b.setCapSt r.val (if x.retire then Cap.idle else Cap.rearm)).raise .stu
      F.STU_IRQ_STATUS.CAPTURE_DONE).settleDeads) :=
  congrArg Host.Outcome.next (if_neg (by simp [closing, delivered]))

end

/-- Settles O42: a request by the record's definition and state, a close by whether the rows are complete, the rest by what follows it. -/
theorem capturesComplete : Obligations.CapturesComplete := by
  intro s v o seq src w r a st old fin
  refine ⟨fun up => ⟨fun undefined => ?_, fun d defined => ?arm⟩, fun up => ⟨fun undefined => ?_, fun d defined => ?disarm⟩,
    fun up => ⟨exec_capTrigger_of_undefined up, fun d defined numbered => ?trigger⟩,
    fun up => ⟨fun undefined => ?_, fun d defined => ?length⟩,
    exec_capState_of_takesUp, fun d triggered complete defined => ?close, exec_captureDeliveryDone_of_delivered,
    fun on => ⟨exec_stuCountClr_of_on on, fun fault => ?faultClr⟩⟩
  · exact exec_capArm_of_answer up (capArm_of_undefined undefined)
  case arm =>
    exact ⟨fun idle post fits enabled => exec_capArm_of_answer up (capArm_of_fits defined idle post fits enabled),
      fun noPost => exec_capArm_of_answer up (capArm_of_noPost defined noPost),
      fun post busy => exec_capArm_of_answer up (capArm_of_busy defined post busy),
      fun post armed => exec_capArm_of_answer up (capArm_of_armed defined post armed),
      fun idle post tooLong => exec_capArm_of_answer up (capArm_of_tooLong defined idle post tooLong)⟩
  · exact exec_capDisarm_of_answer up (capDisarm_of_undefined undefined)
  case disarm =>
    exact ⟨fun armed => exec_capDisarm_of_answer up (capDisarm_of_armed defined armed),
      fun triggered => exec_capDisarm_of_answer up (capDisarm_of_triggered defined triggered),
      fun delivering => exec_capDisarm_of_answer up (capDisarm_of_delivering defined delivering),
      fun idle => exec_capDisarm_of_answer up (capDisarm_of_idle defined idle)⟩
  case trigger =>
    have answered {x : State} {code : Nat} := exec_capTrigger_of_answer (x := x) (code := code) up defined
    exact ⟨fun armed => answered ((capTrigger_of_armed d.zone numbered defined armed).trans (congrArg (·, 0) (capFire_eq d.zone))),
      fun triggered => answered (capTrigger_of_triggered d.zone numbered defined triggered),
      fun idle => answered (capTrigger_of_idle d.zone numbered defined idle),
      fun delivering => answered (capTrigger_of_delivering d.zone numbered defined delivering)⟩
  · exact exec_capSetLength_of_answer up (capLength_of_undefined undefined)
  case length =>
    have inRange {n : Nat} (some : n ≠ 0) (fits : n ≤ d.rows) : ¬(n = 0 ∨ d.rows < n) := not_or.mpr ⟨some, Nat.not_lt.mpr fits⟩
    exact ⟨fun out => exec_capSetLength_of_answer up (capLength_of_outOfRange defined out),
      fun some fits inUse tooShort =>
        exec_capSetLength_of_answer up (capLength_of_tooShort defined (inRange some fits) inUse tooShort),
      fun some fits idle => exec_capSetLength_of_answer up (capLength_of_idle defined (inRange some fits) idle),
      fun some fits inUse enough =>
        exec_capSetLength_of_answer up (capLength_of_inUse defined (inRange some fits) inUse enough)⟩
  case close => exact (exec_capturePostComplete_of_complete triggered complete).trans (congrArg _ (capClose_of_defined defined))
  case faultClr => rw [exec_stuFaultClr_of_on on, blkFaultClr_of_fault .stu fault]

end Sys2Proof.Laws
end

/-! PROOFS. Tadpole compression: the intake of stream blocks, the blocks coded and staged, and the requests of TCE_CTRL
(10 R299-R317). -/

section
namespace Sys2Proof.Laws

open Sys2Proof Sys2Proof.Machine

/-! ### Intake (R301, R302, R312) -/

/-- An open LINEAR block that spans a drop of its channel carries GAP (R312). -/
def gapped (c : Nat) (cut : Bool) (y : State) : State :=
  if cut && !(y.tch c).words.isEmpty then y.setTch c { y.tch c with gap := true } else y

section
variable {s : State} {c : Nat} {data : Bytes} {cut : Bool}

theorem tceEnter_of_planar (planar : s.ruleFld (field data 8 6) c (F.TCE_CHc_CFG.GEOM c) ≠ 1) :
    let b := (gapped c cut s).stageMeta c data false
    s.tceEnter c data cut = { b with tce := { b.tce with
      blocks := b.tce.blocks ++ planarBlocks (b.ruleFld (field data 8 6) c) c (s.markAt data) data } } := by
  have geom : (s.ruleFld (field data 8 6) c (F.TCE_CHc_CFG.GEOM c) == 1) = false := beq_false_of_ne planar
  simp only [State.tceEnter, geom]
  rfl

theorem tceEnter_of_linear (linear : s.ruleFld (field data 8 6) c (F.TCE_CHc_CFG.GEOM c) = 1) :
    let mark := s.markAt data
    let b := (gapped c cut (if mark ≠ (s.tch c).wordMark then s.closeLinear c else s)).stageMeta c data true
    s.tceEnter c data cut = (b.addPayload c (field data 8 6) mark (blockLate data)
      (data.drop (64 + descBytes (field data 64 2)))).workPut c := by
  have geom : (s.ruleFld (field data 8 6) c (F.TCE_CHc_CFG.GEOM c) == 1) = true := beq_iff_eq.mpr linear
  simp only [State.tceEnter, geom, Bool.true_and, bne_iff_ne]
  rfl

end

section
variable {s : State} {q : TceIn} {rest : List TceIn}

/-- Input whose bytes do not lie in DRAM is consumed at once. -/
theorem tceTake_of_local (queued : s.tce.queue = q :: rest) (here : q.spans = []) :
    let data := match q.place with | some (ap, n) => q.data ++ s.emem ap n | none => q.data
    s.tceTake = ({ s with tce := { s.tce with queue := rest } } : State).tceEnter q.chan data q.cut := by
  simp only [State.tceTake, queued, here]
  rfl

/-- Rows of a capture wait in DRAM while the DMC does not serve. -/
theorem tceTake_of_unserved (queued : s.tce.queue = q :: rest) (away : q.spans ≠ []) (unserved : s.dmcServes = false) :
    s.tceTake = s.dmcTouch := by
  have spans : q.spans.isEmpty = false := List.isEmpty_eq_false_iff.mpr away
  simp only [State.tceTake, queued, spans, unserved]
  rfl

theorem exec_tceBlockIntake_of_taken {x : State} (on : s.unitOn .tce = true) (taken : s.tceTake = x) :
    exec .tceBlockIntake s = .next x.tceRest.tceStall := by
  subst taken
  exact congrArg Host.Outcome.next (if_pos on)

end

/-! ### Coding and staging (R303-R314) -/

/-- The block begins with an empty history: the channel starts, a close event lies between, or a record's blocks are full (R309). -/
def codeReset (s : State) (b : TadBlock) : Bool :=
  let x := s.tch b.chan
  x.fresh || b.mark != x.mark || decide (s.fld F.ANC_POL0.RECORD_BLOCKS ≤ x.since)

/-- The history a block is coded with. -/
def codeHistory (s : State) (b : TadBlock) : List (List Int) := if codeReset s b then [] else (s.tch b.chan).history

/-- What the TCE makes of a block under the rules of its frame (R310, R311). -/
def codeResult (s : State) (b : TadBlock) (flips : List Nat) : TadResult :=
  let rule (f : Fld) : Nat := s.ruleFld b.frame b.chan f
  codeBlock b (rule (F.TCE_CHc_CFG.EFFORT b.chan)) (rule (F.TCE_CHc_CFG.RATIO b.chan)) (rule (F.TCE_CHc_BOUND.E b.chan))
    (if rule (F.TCE_CHc_CFG.GEOM b.chan) = 1 then 1024 else b.validInstants) (if codeReset s b then 0 else (s.tch b.chan).step - 2)
    (codeHistory s b) flips

/-- The block's tag (Table 10-4). -/
def codeTag (s : State) (b : TadBlock) (flips : List Nat) (rung : Nat) (raw : Bool) : Bytes :=
  let rule (f : Fld) : Nat := s.ruleFld b.frame b.chan f
  tadTag b (rule (F.TCE_CHc_CFG.RATIO b.chan)) rung raw (codeResult s b flips).refused (codeReset s b) (rule (F.TCE_CHc_BOUND.E b.chan) == 0)

/-- The block and its tag are staged, and its channel goes on from it. -/
def codeStaged (s : State) (b : TadBlock) (flips : List Nat) (tag : Bytes) : State :=
  let x := s.tch b.chan
  let rule (f : Fld) : Nat := s.ruleFld b.frame b.chan f
  let k := codeResult s b flips
  let y : TceChan := { x with
    mark := b.mark, fresh := false, since := if codeReset s b then 1 else x.since + 1
    history := (k.ys :: codeHistory s b).take (effortDepth (rule (F.TCE_CHc_CFG.EFFORT b.chan)))
    step := k.rung.getD ((ladder (rule (F.TCE_CHc_BOUND.E b.chan))).length - 1) }
  (((s.setTch b.chan y).workPut b.chan).stageBlock b.chan b.frame (k.bytes ++ tag) (codeReset s b)).count F.TCE_BLOCK_COUNT.COUNT 1

/-- TCE_CHc_STEP shows the rung and the step of the channel's newest block (R314). -/
def stepShown (s : State) (c rung step : Nat) : State := (s.setFld (F.TCE_CHc_STEP.LADDER c) rung).setFld (F.TCE_CHc_STEP.QSTEP c) step

section
variable {s : State} {b : TadBlock} {flips : List Nat}

/-- Coding in its parts: the block is staged, the channel's step shown, and a block left RAW is counted, with why. -/
theorem tceCode_eq :
    let k := codeResult s b flips
    let shown := stepShown (codeStaged s b flips (codeTag s b flips ((k.coded.map (·.1)).getD 255) k.coded.isNone)) b.chan
      ((k.coded.map (·.1)).getD 0x7F) ((k.coded.map (·.2)).getD 0)
    let z := (shown.count F.TCE_RAW_COUNT.COUNT 1).raise .tce F.TCE_IRQ_STATUS.RAW
    s.tceCode b flips = if k.coded.isSome then shown
      else if k.refused then
        ((z.count F.TCE_VERIFY_COUNT.COUNT 1).post .tce TceCode.verifyFail 0).raise .tce F.TCE_IRQ_STATUS.VERIFY_FAIL
      else z.show .tce TceCode.raw 0 := rfl

theorem tceCode_of_coded {j q : Nat} (coded : (codeResult s b flips).coded = some (j, q)) :
    s.tceCode b flips = stepShown (codeStaged s b flips (codeTag s b flips j false)) b.chan j q := by
  simp only [tceCode_eq, coded, Option.map_some, Option.getD_some, Option.isNone_some, Option.isSome_some, if_true]

theorem tceCode_of_raw (raw : (codeResult s b flips).coded = none) :
    let z := ((stepShown (codeStaged s b flips (codeTag s b flips 255 true)) b.chan 0x7F 0).count F.TCE_RAW_COUNT.COUNT 1).raise .tce
      F.TCE_IRQ_STATUS.RAW
    s.tceCode b flips = if (codeResult s b flips).refused then
      ((z.count F.TCE_VERIFY_COUNT.COUNT 1).post .tce TceCode.verifyFail 0).raise .tce F.TCE_IRQ_STATUS.VERIFY_FAIL
      else z.show .tce TceCode.raw 0 := by
  simp only [tceCode_eq, raw]
  rfl

end
section
variable {s : State} {c : Fin 32} {flips : List Nat} {t : Nat} {b : TadBlock}

theorem exec_tceBlockCoded_of_full (on : (s.at_ t).unitOn .tce = true)
    (found : (s.at_ t).tce.blocks.find? (fun b => b.chan = c.val) = some b) (full : (s.at_ t).stageRoom c.val = false) :
    exec (.tceBlockCoded c flips t) s = .next (s.at_ t).tceStall := by
  refine congrArg Host.Outcome.next ?_
  simp only [on, found, full]
  rfl

theorem exec_tceBlockCoded_of_room {x : State} (on : (s.at_ t).unitOn .tce = true)
    (found : (s.at_ t).tce.blocks.find? (fun b => b.chan = c.val) = some b) (room : (s.at_ t).stageRoom c.val = true)
    (coded : ({ s.at_ t with tce := { (s.at_ t).tce with blocks := (s.at_ t).tce.blocks.erase b } } : State).tceCode b flips = x) :
    exec (.tceBlockCoded c flips t) s = .next x.tceRest.tceStall := by
  subst coded
  refine congrArg Host.Outcome.next ?_
  simp only [on, found, room]
  rfl

end

/-! ### Requests of TCE_CTRL -/

section
variable {s : State} {src : Src}

theorem exec_tceCountClr_of_on (on : s.unitOn .tce = true) : exec (.tceCountClr src) s = .next s.tceCountClr :=
  congrArg Host.Outcome.next (onUnit_on s _ .tce R.TCE_CTRL State.tceCountClr on)

theorem exec_tceFaultClr_of_on (on : s.unitOn .tce = true) :
    exec (.tceFaultClr src) s = .next ((s.blkFaultClr .tce F.TCE_STATUS.STATE).thenStart s) :=
  congrArg Host.Outcome.next (onUnit_on s _ .tce R.TCE_CTRL _ on)

end

/-- Settles O43: an intake by where its bytes lie and the channel's geometry, a block by whether it has room and was coded, the
requests by what they do to a TCE that is on. -/
theorem tadpoleComplete : Obligations.TadpoleComplete := by
  intro s src c flips t u
  refine ⟨fun on q rest queued here => ?intake, fun on q rest queued away unserved => ?waits,
    fun on b found => ⟨exec_tceBlockCoded_of_full on found, fun room => ?coded⟩,
    fun on => ⟨exec_tceCountClr_of_on on, fun fault => ?faultClr⟩⟩
  case intake =>
    have taken := tceTake_of_local queued here
    exact ⟨fun planar => exec_tceBlockIntake_of_taken on (taken.trans (tceEnter_of_planar planar)),
      fun linear => exec_tceBlockIntake_of_taken on (taken.trans (tceEnter_of_linear linear))⟩
  case waits => exact exec_tceBlockIntake_of_taken on (tceTake_of_unserved queued away unserved)
  case coded =>
    exact ⟨fun j q coded => exec_tceBlockCoded_of_room on found room (tceCode_of_coded coded),
      fun raw => exec_tceBlockCoded_of_room on found room (tceCode_of_raw raw)⟩
  case faultClr => rw [exec_tceFaultClr_of_on on, blkFaultClr_of_fault .tce fault]

end Sys2Proof.Laws
end

/-! PROOFS. The DRAM controller: initialisation and reset, requests at an idle port, self-refresh and the diagnostic window
(11 R325-R345). -/

section
namespace Sys2Proof.Laws

open Sys2Proof Sys2Proof.Machine

/-! ### How initialisation ends (R328, R329) -/

/-- A fold over states keeps the registers when each of its steps does. -/
theorem foldl_regs {β : Type} {f : State → β → State} (keeps : ∀ a b, (f a b).regs = a.regs) (l : List β) (s : State) :
    (l.foldl f s).regs = s.regs := by
  induction l generalizing s with
  | nil => rfl
  | cons b l ih => exact (ih (f s b)).trans (keeps s b)

@[simp] theorem dmcCmd_regs (s : State) (cmd low cls : Nat) : (s.dmcCmd cmd low cls).regs = s.regs := rfl

theorem initCmds_regs (s : State) : s.initCmds.regs = s.regs := by
  unfold State.initCmds
  refine (foldl_regs (fun _ _ => dmcCmd_regs _ _ _ _) _ _).trans (foldl_regs (fun _ _ => ?_) _ s)
  simp only [dmcCmd_regs, freeBytes_regs]

theorem checkFill_regs (s : State) : s.checkFill.regs = s.regs := rfl

/-- Where a physical address lies in the history layout depends on the geometry's registers alone. -/
theorem cmdBits_congr {s t : State} (same : s.regs = t.regs) (p : Nat) : s.cmdBits p = t.cmdBits p := by
  have fields (f : Fld) : s.fld f = t.fld f := by rw [State.fld, State.reg, same, State.fld, State.reg]
  simp only [State.cmdBits, State.rankOf, State.rowOf, State.rankBytes, State.rowBits, fields]

section
variable {s : State} {check : TrainCheck}

theorem dmcTrained_of_passes (init : s.dmcState = Dmc.init) : s.dmcTrained .passes none = s.initCmds.dmcReady :=
  if_neg (not_not_intro init)

theorem dmcTrained_of_stage (init : s.dmcState = Dmc.init) :
    s.dmcTrained .stage none = s.initCmds.dmcFreeze 3 6 0 dmcPath 0 0 0 0 0 := if_neg (not_not_intro init)

theorem dmcTrained_of_mismatch (init : s.dmcState = Dmc.init) (x : Nat) :
    let a := s.initCmds.checkFill
    s.dmcTrained (.mismatch x) none
      = (a.dmcCmd 2 (a.cmdBits (unitPhys (x / 32))) 6).dmcFreeze 3 6 (x / 32 * 32) dmcPath 0 0 0 0 0 := by
  intro a
  have same : a.cmdBits (unitPhys (x / 32)) = s.cmdBits (unitPhys (x / 32)) :=
    cmdBits_congr ((checkFill_regs _).trans (initCmds_regs s)) _
  rw [same]
  exact if_neg (not_not_intro init)

theorem dmcTrained_of_misread (init : s.dmcState = Dmc.init) (mr e x : Nat) :
    s.dmcTrained check (some (mr, e, x))
      = ((if mr = 8 then s else s.dmcCmd 7 (2 ^ 9 * (e % 256) + 2 ^ 17 * mr) 6).dmcCmd 8 (2 ^ 9 * (x % 256) + 2 ^ 17 * mr) 6).dmcFreeze
          2 6 0 dmcPath 0 0 mr e x := if_neg (not_not_intro init)

end

theorem exec_dmcInitComplete_of_trained {s x : State} {check : TrainCheck} {mrr : Option (Nat × Nat × Nat)} {t : Nat}
    (trained : (s.at_ t).dmcTrained check mrr = x) : exec (.dmcInitComplete check mrr t) s = .next x.portResume.dmcUp :=
  congrArg (fun y : State => Host.Outcome.next y.portResume.dmcUp) trained

/-! ### Requests of DMC_CTRL (R327, R328, R332, R343) -/

section
variable {s : State} {src : Src}

theorem dmcInit_of_sound (off : s.dmcState = Dmc.off) (sound : s.dmcCheck = none) : s.dmcInit = s.dmcBegin.show .dmc 0 0 := by
  rw [State.dmcInit, if_neg (not_not_intro off), sound]

theorem dmcInit_of_unsound {d : Nat} (off : s.dmcState = Dmc.off) (unsound : s.dmcCheck = some d) :
    s.dmcInit = s.post .dmc DmcCode.badConfig d := by
  rw [State.dmcInit, if_neg (not_not_intro off), unsound]

theorem dmcInit_of_begun (begun : s.dmcState ≠ Dmc.off) : s.dmcInit = s.post .dmc DmcCode.busy 0 := if_pos begun

theorem exec_dmcInit_of_on (on : s.unitOn .dmc = true) : exec (.dmcInit src) s = .next s.dmcInit :=
  congrArg Host.Outcome.next (onUnit_on s _ .dmc R.DMC_CTRL State.dmcInit on)

/-- A reset of the DRAM domain is discarded only during a warm reset (21 R517). -/
theorem exec_dramReset_of_on {t : Nat} (on : s.unitOn .dmc = true) (cold : s.glb.warm = false) :
    exec (.dramReset src t) s = .next (s.at_ t).dramReset := by
  have stays : ¬(s.at_ t).glb.warm = true := by simp [cold]
  exact congrArg Host.Outcome.next ((onUnit_on (s.at_ t) _ .dmc R.DMC_CTRL _ ((at_unitOn s t .dmc).trans on)).trans (if_neg stays))

theorem exec_dmcCountClr_of_on (on : s.unitOn .dmc = true) : exec (.dmcCountClr src) s = .next s.dmcCountClr :=
  congrArg Host.Outcome.next (onUnit_on s _ .dmc R.DMC_CTRL State.dmcCountClr on)

theorem scrubStart_of_not_frozen (free : s.dmcState ≠ Dmc.frozen) :
    s.scrubStart = { s with dmc := { s.dmc with scrub := some 0 } } := if_neg free

theorem exec_scrubNow_of_on (on : s.unitOn .dmc = true) : exec (.scrubNow src) s = .next s.scrubStart :=
  congrArg Host.Outcome.next (onUnit_on s _ .dmc R.DMC_CTRL State.scrubStart on)

end

/-! ### The scrub period (R327) -/

theorem dmcState_of_serves {s : State} (serves : s.dmcServes = true) : s.dmcState = Dmc.ready :=
  beq_iff_eq.mp (Bool.and_eq_true_iff.mp serves).1

section
variable {s : State} {t : Nat}

theorem exec_scrubPeriod_of_due (enabled : (s.at_ t).flag F.DMC_ECC_CFG.SCRUB_EN = true) (serves : (s.at_ t).dmcServes = true)
    (due : (s.at_ t).dmc.scrubAt + (s.at_ t).scrubPeriod ≤ (s.at_ t).now) :
    let u := s.at_ t
    exec (.scrubPeriod t) s = .next { u with dmc := { u.dmc with scrub := some 0, scrubAt := u.now } } := by
  have free : (s.at_ t).dmcState ≠ Dmc.frozen := by rw [dmcState_of_serves serves]; decide
  refine congrArg Host.Outcome.next ((if_pos ?_).trans (scrubStart_of_not_frozen free))
  simp only [enabled, serves, due, decide_true, Bool.and_self]

theorem exec_scrubPeriod_of_early (early : (s.at_ t).now < (s.at_ t).dmc.scrubAt + (s.at_ t).scrubPeriod) :
    exec (.scrubPeriod t) s = .next (s.at_ t) := by
  refine congrArg Host.Outcome.next (if_neg ?_)
  simp only [Nat.not_le.mpr early, decide_false, Bool.and_false, Bool.false_eq_true, not_false_eq_true]

end

/-! ### A request served at the port (R322, R323, R325; 01 R59) -/

section
variable {z b : State} {path cls addr len since : Nat} {data d : Bytes}

theorem dmcServe_write (written : z.deviceWrite path cls addr data = b) :
    z.dmcServe ⟨path, cls, true, addr, data, len, since⟩
      = if cls = 4 ∧ b.dmcState = Dmc.frozen then b.frozenWindow true addr data.length else b := by
  subst written
  simp [State.dmcServe]

theorem dmcServe_read_of_data (outside : path ≠ dmcPath) (found : z.deviceRead path cls addr len = (b, some d)) :
    z.dmcServe ⟨path, cls, false, addr, data, len, since⟩ = b.give (.readData addr (leNat d)) := by
  simp [State.dmcServe, found, outside]

theorem dmcServe_read_of_no_data (lost : z.deviceRead path cls addr len = (b, none)) :
    z.dmcServe ⟨path, cls, false, addr, data, len, since⟩
      = if cls = 4 ∧ b.dmcState = Dmc.frozen then b.frozenWindow false addr len else b := by
  simp [State.dmcServe, lost]

end

/-! ### Requests as they reach the port (R325, R341, R345) -/

/-- The state that a request finds: the DRAM has lost bits of the request's first unit by then. -/
def flipped (s : State) (addr : Nat) (flips : List Nat) : State := s.flipBits (addr / 32) flips

/-- Bytes that a request covers. -/
def spanLen (write : Bool) (data : Bytes) (len : Nat) : Nat := if write then data.length else len

/-- A request of `n` bytes lies inside the installed addresses, or a DMC that is OFF does not know them yet (R345). -/
def Inside (f : State) (addr n : Nat) : Prop := f.dmcState = Dmc.off ∨ addr + n ≤ f.deviceTop

theorem Inside.not_outside {f : State} {addr n : Nat} (h : Inside f addr n) : ¬(f.dmcState ≠ Dmc.off ∧ addr + n > f.deviceTop) :=
  fun ⟨known, beyond⟩ => h.elim known (Nat.not_le.mpr beyond)

section
variable {s : State} {path : Word} {cls : Fin 6} {write : Bool} {addr len : Nat} {data : Bytes} {flips : List Nat}

theorem exec_dmcRequest_of_outside (known : (flipped s addr flips).dmcState ≠ Dmc.off)
    (outside : (flipped s addr flips).deviceTop < addr + spanLen write data len) :
    exec (.dmcRequest path cls write addr data len flips) s = .next s :=
  congrArg Host.Outcome.next (if_pos ⟨known, outside⟩)

theorem exec_dmcRequest_of_frozen (inside : Inside (flipped s addr flips) addr (spanLen write data len))
    (window : cls.val = 4) (frozen : (flipped s addr flips).dmcState = Dmc.frozen) :
    exec (.dmcRequest path cls write addr data len flips) s = .next ((flipped s addr flips).frozenWindow write addr len) :=
  congrArg Host.Outcome.next ((if_neg inside.not_outside).trans (if_pos ⟨window, frozen⟩))

theorem exec_dmcRequest_of_inside (inside : Inside (flipped s addr flips) addr (spanLen write data len))
    (open_ : ¬(cls.val = 4 ∧ (flipped s addr flips).dmcState = Dmc.frozen)) :
    exec (.dmcRequest path cls write addr data len flips) s
      = .next ((flipped s addr flips).dmcEnqueue ⟨path.toNat, cls.val, write, addr, data, len, s.now⟩) :=
  congrArg Host.Outcome.next ((if_neg inside.not_outside).trans (if_neg open_))

end

/-! ### Self-refresh (R336-R339) -/

/-- Step 4 of entry on the first ranks: each one's mask is written to MR17 and read back (R337). -/
def maskedRanks (s : State) (read : List Nat) (n : Nat) : State := (List.range n).foldl (fun a i => a.srMr17 read i) s.srFlush

section
variable {s : State} {read : List Nat}

theorem exec_srEntry_of_masked (entry : s.dmcState = Dmc.srEntry) (same : ∀ i, i < s.ranks → read[i]?.getD 0 = s.srMask i) :
    let x := (maskedRanks s read s.ranks).srDone
    exec (.srEntry read) s = .next
      (if s.dmc.exitPending then ({ x with dmc := { x.dmc with exitPending := false } } : State).srxIssue else x) := by
  have none_differs : (List.range s.ranks).find? (fun r => read[r]?.getD 0 ≠ s.srMask r) = none := by
    simpa [List.find?_eq_none] using same
  refine congrArg Host.Outcome.next ((if_neg (not_not_intro entry)).trans ?_)
  simp only [none_differs]
  rfl

theorem exec_srEntry_of_misread {i : Nat} (entry : s.dmcState = Dmc.srEntry) (installed : i < s.ranks)
    (differs : read[i]?.getD 0 ≠ s.srMask i) (before : ∀ j, j < i → read[j]?.getD 0 = s.srMask j) :
    exec (.srEntry read) s = .next
      ((maskedRanks s read (i + 1)).dmcFreeze 2 6 0 dmcPath 0 0 17 (s.srMask i) (read[i]?.getD 0 % 256)) := by
  have first : (List.range s.ranks).find? (fun r => read[r]?.getD 0 ≠ s.srMask r) = some i := by
    simpa [List.find?_range_eq_some, installed, differs] using before
  refine congrArg Host.Outcome.next ((if_neg (not_not_intro entry)).trans ?_)
  simp only [first]
  rfl

theorem exec_srExit_of_exiting (exiting : s.dmcState = Dmc.srExit) : exec .srExit s = .next s.srLeave.portResume :=
  congrArg Host.Outcome.next (if_pos exiting)

theorem exec_unretainedFillDone_of_unfilled {e : Fin 16} (unfilled : s.dmc.unfilled.contains e.val = true) (serves : s.dmcServes = true) :
    exec (.unretainedFillDone e) s = .next (s.eighthFilled e.val).portResume :=
  congrArg Host.Outcome.next (if_pos (Bool.and_eq_true_iff.mpr ⟨unfilled, serves⟩))

end

/-! ### The diagnostic window (R342) -/

section
variable {s : State} {o : Origin} {seq : Word} {src : Src}

theorem exec_dmcDiagRead_msg_of_serves (up : s.takesUp (.msg o seq) [0x0904] .dmc = true) (serves : s.diagServes = true) :
    let a := field (s.payload (.msg o seq)) 0 8
    exec (.dmcDiagRead (.msg o seq)) s = .next ((s.dmcDiagAt a).finish (.msg o seq) .dmc 0 0 (s.rawBurst a)) :=
  congrArg Host.Outcome.next ((onUnit_of_takesUp R.DMC_DIAG_CTRL up).trans (if_pos serves))

theorem exec_dmcDiagRead_msg_of_refused (up : s.takesUp (.msg o seq) [0x0904] .dmc = true) (refused : s.diagServes = false) :
    exec (.dmcDiagRead (.msg o seq)) s = .next (s.dmcDiagRefuse.finish (.msg o seq) .dmc DmcCode.busy 0) :=
  congrArg Host.Outcome.next ((onUnit_of_takesUp R.DMC_DIAG_CTRL up).trans (if_neg (ne_true_of_eq_false refused)))

theorem exec_dmcDiagRead_reg_of_serves (on : s.unitOn .dmc = true) (serves : s.diagServes = true) :
    exec (.dmcDiagRead (.reg src)) s = .next (s.dmcDiagAt (s.reg64 R.DMC_DIAG_ADDR_LO R.DMC_DIAG_ADDR_HI)) :=
  congrArg Host.Outcome.next ((onUnit_on s (.reg src) .dmc R.DMC_DIAG_CTRL State.dmcDiag on).trans (if_pos serves))

end

/-- Settles O44: the end of initialisation by what training finds, the requests of DMC_CTRL by the state they meet, a DRAM request by
whether the port can grant it, and self-refresh and the diagnostic window by their guards. -/
theorem dramCommandsComplete : Obligations.DramCommandsComplete := by
  intro s src check t path cls write addr len data flips read e u r f a
  refine ⟨fun init => ⟨exec_dmcInitComplete_of_trained (dmcTrained_of_passes init), exec_dmcInitComplete_of_trained (dmcTrained_of_stage init),
      fun x => exec_dmcInitComplete_of_trained (dmcTrained_of_mismatch init x),
      fun mr e x => exec_dmcInitComplete_of_trained (dmcTrained_of_misread init mr e x)⟩,
    fun on => ⟨fun off sound => ?sound, fun d off unsound => ?unsound, fun begun => ?begun, exec_dramReset_of_on on,
      exec_dmcCountClr_of_on on, fun free => ?scrubNow⟩,
    exec_scrubPeriod_of_due, exec_scrubPeriod_of_early, exec_dmcRequest_of_outside,
    fun inside => ⟨exec_dmcRequest_of_frozen inside, fun open_ idle => ⟨fun can => ?served, fun cannot => ?waits⟩⟩,
    fun entry => ⟨exec_srEntry_of_masked entry, fun i => exec_srEntry_of_misread entry⟩,
    exec_srExit_of_exiting, exec_unretainedFillDone_of_unfilled,
    fun o seq up => ⟨exec_dmcDiagRead_msg_of_serves up, exec_dmcDiagRead_msg_of_refused up⟩, exec_dmcDiagRead_reg_of_serves⟩
  case sound => rw [exec_dmcInit_of_on on, dmcInit_of_sound off sound]
  case unsound => rw [exec_dmcInit_of_on on, dmcInit_of_unsound off unsound]
  case begun => rw [exec_dmcInit_of_on on, dmcInit_of_begun begun]
  case scrubNow => rw [exec_scrubNow_of_on on, scrubStart_of_not_frozen free]
  case served =>
    obtain ⟨z, granted, served⟩ := dmcEnqueue_of_can idle can
    have run := (exec_dmcRequest_of_inside inside open_).trans (congrArg Host.Outcome.next served)
    refine ⟨z, granted, fun writes b written => ?write, fun b d reads outside found => ?read⟩
    case write =>
      subst writes
      exact run.trans (congrArg _ (dmcServe_write written))
    case read =>
      subst reads
      cases d with
      | some d => exact run.trans (congrArg _ (dmcServe_read_of_data outside found))
      | none => exact run.trans (congrArg _ (dmcServe_read_of_no_data found))
  case waits => exact (exec_dmcRequest_of_inside inside open_).trans (congrArg _ (dmcEnqueue_of_cannot idle cannot))

end Sys2Proof.Laws
end

/-! PROOFS. The DRAM controller: refresh intervals, owed refreshes, MR4 polls, ZQ calibration and the closing of idle rows
(11 R326, R330-R335). -/

section
namespace Sys2Proof.Laws

open Sys2Proof Sys2Proof.Machine

/-! ### Interval timers and owed refreshes (R331, R332, R334) -/

section
variable {s : State} {r : Fin 2} {t : Nat}

/-- An installed rank's interval has run out while the DMC refreshes (R331). -/
structure Expires (u : State) (r : Nat) : Prop where
  refreshing : u.refreshing = true
  installed : r < u.ranks
  due : u.refDue r = true

theorem Expires.not_skipped {u : State} {r : Nat} (h : Expires u r) : ¬((!u.refreshing) = true ∨ r ≥ u.ranks ∨ (!u.refDue r) = true) := by
  simp [h.refreshing, h.installed, h.due]

theorem exec_refreshInterval_of_fixed (expires : Expires (s.at_ t) r.val)
    (fixed : ((s.at_ t).refStart r.val).flag F.DMC_REF_CFG.MODE = true) :
    exec (.refreshInterval r t) s = .next (((s.at_ t).refStart r.val).refab r.val 1 true) :=
  congrArg Host.Outcome.next ((if_neg expires.not_skipped).trans (if_pos fixed))

theorem exec_refreshInterval_of_native (expires : Expires (s.at_ t) r.val)
    (native : ((s.at_ t).refStart r.val).flag F.DMC_REF_CFG.MODE = false) :
    let v := (s.at_ t).refStart r.val
    exec (.refreshInterval r t) s = .next
      (if v.owed r.val + 1 > refLimit (v.rate r.val) then v.refab r.val 1 true else v.setOwed r.val (v.owed r.val + 1)) :=
  congrArg Host.Outcome.next ((if_neg expires.not_skipped).trans (if_neg (ne_true_of_eq_false native)))

theorem exec_refreshInterval_of_early (early : (s.at_ t).refDue r.val = false) : exec (.refreshInterval r t) s = .next (s.at_ t) := by
  refine congrArg Host.Outcome.next (if_pos (.inr (.inr ?_)))
  simp only [early, Bool.not_false]

/-- The rank has had no granted request for 32 tCTL (R332). -/
theorem exec_refreshIssue_of_idle (refreshing : (s.at_ t).refreshing = true) (installed : r.val < (s.at_ t).ranks)
    (owed : 0 < (s.at_ t).owed r.val)
    (idle : ∀ x, ((s.at_ t).dmc.lastReq.find? (·.1 = r.val)).map (·.2) = some x → 32 * (s.at_ t).tCtl ≤ (t - x) * 8000) :
    exec (.refreshIssue r t) s = .next (((s.at_ t).setOwed r.val ((s.at_ t).owed r.val - 1)).refab r.val 1 false) := by
  refine congrArg Host.Outcome.next (if_pos ?_)
  simp only [refreshing, installed, owed, decide_true, Bool.true_and]
  split
  case h_1 x last => exact decide_eq_true (idle x last)
  case h_2 => rfl

end

/-! ### MR4 polls (R330, R331, R333) -/

/-- The rate code that a poll of both channels gives: of the shorter interval, the higher of two codes of one interval. -/
def polledCode (c0 c1 : Nat) : Nat :=
  if refQuarters c0 < refQuarters c1 then c0 else if refQuarters c1 < refQuarters c0 then c1 else max c0 c1

/-- The state in which a poll's result arrives: MR4 of both channels and the DQS interval oscillator have been read. -/
def polled (u : State) (r c0 c1 : Nat) : State :=
  (({ u with dmc := { u.dmc with pollAt := (r, u.now) :: u.dmc.pollAt.filter (·.1 ≠ r) } } : State).mr4Read r c0 c1).dqsRead r

/-- A code that raises TEMP_LIMIT has been read on either channel (Table 11-4). -/
theorem any_limit_iff (c0 c1 : Nat) :
    [c0, c1].any (fun c => c == 0 || c == 7) = true ↔ c0 = 0 ∨ c0 = 7 ∨ c1 = 0 ∨ c1 = 7 := by
  simp [or_assoc]

theorem exec_mr4Poll_of_due {s : State} {r : Fin 2} {c0 c1 : Fin 8} {t : Nat} (refreshing : (s.at_ t).refreshing = true)
    (installed : r.val < (s.at_ t).ranks) (due : (s.at_ t).pollDue r.val = true) :
    let x := (polled (s.at_ t) r.val c0.val c1.val).rateTake r.val (polledCode c0.val c1.val)
    exec (.mr4Poll r c0 c1 t) s = .next
      (if c0.val = 0 ∨ c0.val = 7 ∨ c1.val = 0 ∨ c1.val = 7 then
        (x.post .dmc DmcCode.tempLimit 0).raise .dmc F.DMC_IRQ_STATUS.TEMP_LIMIT else x) := by
  have taken : ¬((!(s.at_ t).refreshing) = true ∨ r.val ≥ (s.at_ t).ranks ∨ (!(s.at_ t).pollDue r.val) = true) := by
    simp [refreshing, installed, due]
  exact congrArg Host.Outcome.next ((if_neg taken).trans (ite_congr (propext (any_limit_iff c0.val c1.val)) (fun _ => rfl) (fun _ => rfl)))

/-! ### ZQ calibration and idle rows (R326, R330) -/

theorem exec_zqCalibration_of_due {s : State} (ready : s.dmcState = Dmc.ready) (due : s.dmc.zqAt + 128 * msec ≤ s.now) :
    let a := (List.range s.ranks).foldl (fun a r => a.dmcCmd 11 (32 * r) 6) s
    exec .zqCalibration s = .next { a with dmc := { a.dmc with zqAt := s.now, zqPend := List.range s.ranks } } :=
  congrArg Host.Outcome.next (if_pos ⟨ready, due⟩)

theorem tCtl_pos (s : State) : 0 < s.tCtl := by
  unfold State.tCtl
  split <;> decide

theorem exec_rowIdleClose_of_idle {s : State} {bank : Fin 32} {t : Nat} (enabled : (s.at_ t).fld F.DMC_PAGE_CFG.IDLE_CLOSE ≠ 0)
    (opened : (s.at_ t).dmc.rows.any (·.1 = bank.val) = true)
    (idle : (s.at_ t).fld F.DMC_PAGE_CFG.IDLE_CLOSE * 8 * (s.at_ t).tCtl ≤ ((s.at_ t).now - (s.at_ t).rowUsed bank.val) * 8000) :
    let u := s.at_ t
    exec (.rowIdleClose bank t) s = .next
      (({ u with dmc := { u.dmc with rows := u.dmc.rows.filter (·.1 ≠ bank.val) } } : State).dmcCmd 4
        (16 * (bank.val / 8 % 2) + 32 * (bank.val / 16) + 64 * (bank.val % 8)) 6) := by
  have waits : (s.at_ t).fld F.DMC_PAGE_CFG.IDLE_CLOSE * 8 * (s.at_ t).tCtl ≠ 0 :=
    Nat.mul_ne_zero (Nat.mul_ne_zero enabled (by decide)) (Nat.ne_of_gt (tCtl_pos _))
  refine congrArg Host.Outcome.next (if_neg ?_)
  simp only [waits, opened, Bool.not_true, Bool.false_eq_true, Nat.not_lt.mpr idle, or_self, not_false_eq_true]

/-- Settles O45: an interval that has run out by the refresh mode and the limit of its rate, a poll by the codes of its two channels,
and the others by the instant they are due. -/
theorem dramRefreshComplete : Obligations.DramRefreshComplete := by
  intro s r c0 c1 bank t u v
  refine ⟨fun refreshing installed => ⟨fun due => ?expires, exec_refreshInterval_of_early, exec_refreshIssue_of_idle refreshing installed,
    exec_mr4Poll_of_due refreshing installed⟩, exec_zqCalibration_of_due, exec_rowIdleClose_of_idle⟩
  case expires =>
    have expires : Expires u r.val := ⟨refreshing, installed, due⟩
    exact ⟨exec_refreshInterval_of_fixed expires,
      fun native above => (exec_refreshInterval_of_native expires native).trans (congrArg _ (if_pos above)),
      fun native within => (exec_refreshInterval_of_native expires native).trans (congrArg _ (if_neg (Nat.not_lt.mpr within)))⟩

end Sys2Proof.Laws
end

/-! PROOFS. Requests to the archive, by register and by message (12 R364-R378). -/

section
namespace Sys2Proof.Laws

open Sys2Proof Sys2Proof.Machine

/-! ### The start of a mount (R364, Table 12-9) -/

theorem startMount_of_policy {s : State} (policy : imgHas s.sil.active Sec.archivePolicy = true) (sound : ancCheck s.fld = none) :
    s.startMount = ((s.ancLose).setFld F.ANC_STATUS.STATE Anc.mounting).ancVote := by
  unfold State.startMount
  simp only [policy, sound, Bool.not_true, Bool.false_eq_true, if_false]

/-! ### A request for a READY archive (R357) -/

section
variable {s : State} {v : Via} {ops : List Nat} {act : State → State}

theorem whenReady_of_takes (takes : s.ancTakes = true) : s.whenReady v act = act s := if_pos takes

theorem whenReady_of_not_takes (closed : s.ancTakes = false) : s.whenReady v act = s.finish v .anc AncCode.notMounted 0 :=
  if_neg (ne_true_of_eq_false closed)

theorem ancRequest_of_takes (up : s.takesUp v ops .anc = true) (takes : s.ancTakes = true) :
    s.withRequest v ops (fun s => s.onUnit v .anc R.ANC_CTRL (fun s => s.whenReady v act)) = act s :=
  (onUnit_of_takesUp R.ANC_CTRL up).trans (whenReady_of_takes takes)

theorem ancRequest_of_not_takes (up : s.takesUp v ops .anc = true) (closed : s.ancTakes = false) :
    s.withRequest v ops (fun s => s.onUnit v .anc R.ANC_CTRL (fun s => s.whenReady v act)) = s.finish v .anc AncCode.notMounted 0 :=
  (onUnit_of_takesUp R.ANC_CTRL up).trans (whenReady_of_not_takes closed)

end

/-! ### Messages: read, delete, information (R367, R368, R370) -/

section
variable {s : State} {o : Origin} {seq : Word} {flips : List (List (Nat × Nat))}

theorem exec_arcRead_of_frozen (frozen : s.dmcState = Dmc.frozen) : exec (.arcRead o seq flips) s = .next s :=
  congrArg Host.Outcome.next (if_pos frozen)

theorem exec_arcRead_of_not_takes (up : s.takesUp (.msg o seq) [0x0701] .anc = true) (free : s.dmcState ≠ Dmc.frozen)
    (closed : s.ancTakes = false) : exec (.arcRead o seq flips) s = .next (s.finish (.msg o seq) .anc AncCode.notMounted 0) :=
  congrArg Host.Outcome.next ((if_neg free).trans (ancRequest_of_not_takes up closed))

theorem exec_arcRead_of_absent (up : s.takesUp (.msg o seq) [0x0701] .anc = true) (free : s.dmcState ≠ Dmc.frozen)
    (takes : s.ancTakes = true) (absent : s.anc.recs.find? (·.seq == field (s.payload (.msg o seq)) 0 8) = none
      ∨ field (s.payload (.msg o seq)) 0 8 < s.oldestSeq ∨ s.anc.commitSeq < field (s.payload (.msg o seq)) 0 8) :
    exec (.arcRead o seq flips) s = .next (s.finish (.msg o seq) .anc AncCode.badArg 0) := by
  refine congrArg Host.Outcome.next ((if_neg free).trans ((ancRequest_of_takes up takes).trans ?_))
  cases found : s.anc.recs.find? (·.seq == field (s.payload (.msg o seq)) 0 8) with
  | none => simp only [found]
  | some r =>
    simp only [found]
    exact if_pos (absent.resolve_left (by simp [found]))

/-- What a read of a record leaves: its effects on the medium, and for a record that read well the archive's status. -/
def afterRead (s : State) (r : ArcRec) (x : RecRead) : State :=
  if x.status = 0 then ((s.noteRead r x).ancStep).show .anc 0 0 else (s.noteRead r x).ancStep

theorem exec_arcRead_of_present {r : ArcRec} (up : s.takesUp (.msg o seq) [0x0701] .anc = true) (free : s.dmcState ≠ Dmc.frozen)
    (takes : s.ancTakes = true) (found : s.anc.recs.find? (·.seq == field (s.payload (.msg o seq)) 0 8) = some r)
    (kept : s.oldestSeq ≤ field (s.payload (.msg o seq)) 0 8) (committed : field (s.payload (.msg o seq)) 0 8 ≤ s.anc.commitSeq) :
    let x := s.readRecord r flips
    exec (.arcRead o seq flips) s = .next ((afterRead s r x).toHost o seq 8 x.status Unit.anc.top x.detail x.bytes
      (leBytes 4 x.bytes.length ++ zeros 4)) := by
  refine congrArg Host.Outcome.next ((if_neg free).trans ((ancRequest_of_takes up takes).trans ?_))
  simp only [found]
  exact if_neg (not_or.mpr ⟨Nat.not_lt.mpr kept, Nat.not_lt.mpr committed⟩)

theorem toHost_of_fits {hb code source detail : Nat} {bytes payload : Bytes} (fits : bytes.length ≤ s.hbLen o seq hb) :
    s.toHost o seq hb code source detail bytes payload = s.transfer o seq hb bytes.length code source detail (.toHost bytes payload) :=
  if_neg (Nat.not_lt.mpr fits)

theorem toHost_of_short {hb code source detail : Nat} {bytes payload : Bytes} (short : s.hbLen o seq hb < bytes.length) :
    s.toHost o seq hb code source detail bytes payload = s.answer o seq HifCode.shortBuffer Unit.hif.top 0 payload := if_pos short

theorem exec_arcDelete_of_not_takes (up : s.takesUp (.msg o seq) [0x0702] .anc = true) (closed : s.ancTakes = false) :
    exec (.arcDelete o seq) s = .next (s.finish (.msg o seq) .anc AncCode.notMounted 0) :=
  congrArg Host.Outcome.next (ancRequest_of_not_takes up closed)

theorem exec_arcDelete_of_takes (up : s.takesUp (.msg o seq) [0x0702] .anc = true) (takes : s.ancTakes = true) :
    let n := field (s.payload (.msg o seq)) 0 8
    exec (.arcDelete o seq) s = .next (if n > s.anc.commitSeq then s.finish (.msg o seq) .anc AncCode.badArg 0
      else ((s.onAnc (fun a => { a with deleted := addDelete a.deleted n 1, waits := a.waits ++ [.delete (.msg o seq)] })).wantCommit).ancStep) :=
  congrArg Host.Outcome.next (ancRequest_of_takes up takes)

theorem exec_arcInfo_of_takesUp (up : s.takesUp (.msg o seq) [0x0705] .anc = true) :
    exec (.arcInfo o seq) s = .next (s.finish (.msg o seq) .anc 0 0
      (leBytes 8 s.anc.nextSeq ++ leBytes 8 s.anc.commitSeq ++ leBytes 8 s.oldestSeq ++ leBytes 4 ((s.ancLive R.ANC_FREE).getD 0).toNat
        ++ leBytes 4 ((s.ancLive R.ANC_STATUS).getD 0).toNat)) :=
  congrArg Host.Outcome.next (onUnit_of_takesUp R.ANC_CTRL up)

end

/-! ### Commit and format (R360, R376) -/

section
variable {s : State} {v : Via}

theorem exec_arcCommit_of_not_takes (up : s.takesUp v [0x0703] .anc = true) (closed : s.ancTakes = false) :
    exec (.arcCommit v) s = .next (s.finish v .anc AncCode.notMounted 0) := congrArg Host.Outcome.next (ancRequest_of_not_takes up closed)

theorem exec_arcCommit_of_takes (up : s.takesUp v [0x0703] .anc = true) (takes : s.ancTakes = true) :
    exec (.arcCommit v) s = .next ((s.onAnc (fun a => { a with waits := a.waits ++ [.commit v] })).wantCommit).ancStep :=
  congrArg Host.Outcome.next (ancRequest_of_takes up takes)

/-- The key of a format request: the register's, or a message's own (R376). -/
def formatKey (s : State) : Via → Nat
  | .reg _ => (s.reg R.ANC_FORMAT_KEY).toNat
  | .msg o seq => field (s.payload (.msg o seq)) 0 4

/-- Without a readable archive on the medium, or at fault, the key alone decides. -/
theorem exec_arcFormat_of_idle (up : s.takesUp v [0x0704] .anc = true)
    (idle : (s.setReg R.ANC_FORMAT_KEY 0).ancState = Anc.unformatted ∨ (s.setReg R.ANC_FORMAT_KEY 0).ancState = Anc.fault) :
    let a := s.setReg R.ANC_FORMAT_KEY 0
    exec (.arcFormat v) s = .next (if formatKey s v ≠ 0x464F524D then a.finish v .anc AncCode.badArg 0
      else ((a.dropSuper.setFld F.ANC_STATUS.STATE Anc.formatting).finish v .anc 0 0).ancVote) := by
  have on : (s.setReg R.ANC_FORMAT_KEY 0).ancState ≠ Anc.off := by rcases idle with h | h <;> rw [h] <;> decide
  have open_ : ¬((s.setReg R.ANC_FORMAT_KEY 0).ancState ≠ Anc.unformatted ∧ (s.setReg R.ANC_FORMAT_KEY 0).ancState ≠ Anc.fault) := by
    tauto
  refine congrArg Host.Outcome.next ((onUnit_of_takesUp R.ANC_CTRL up).trans ((if_neg on).trans ((if_neg open_).trans ?_)))
  cases v <;> rfl

end

/-! ### Requests of ANC_CTRL (R374, Table 12-9) -/

section
variable {s : State} {src : Src}

theorem exec_patrolNow_of_on (on : s.unitOn .anc = true) :
    exec (.patrolNow src) s = .next (s.whenReady (.reg src) (fun s => (s.patrolNow).finish (.reg src) .anc 0 0)) :=
  congrArg Host.Outcome.next (onUnit_on s _ .anc R.ANC_CTRL _ on)

theorem exec_ancCountClr_of_on (on : s.unitOn .anc = true) : exec (.ancCountClr src) s = .next s.ancCountClr :=
  congrArg Host.Outcome.next (onUnit_on s _ .anc R.ANC_CTRL State.ancCountClr on)

theorem exec_ancFaultClr_of_on (on : s.unitOn .anc = true) : exec (.ancFaultClr src) s = .next s.ancFaultClr :=
  congrArg Host.Outcome.next (onUnit_on s _ .anc R.ANC_CTRL State.ancFaultClr on)

end

/-- The archive's time goes by no register of its patrol. -/
theorem arcTime_setReg_patrol (s : State) (w : Word) : (s.setReg R.ANC_PATROL w).arcTime = s.arcTime := by
  have lock : (s.setReg R.ANC_PATROL w).fld F.TTU_STATUS.LOCK_STATE = s.fld F.TTU_STATUS.LOCK_STATE :=
    congrArg (bitsOf · _ _) (reg_setReg_of_ne s R.ANC_PATROL F.TTU_STATUS.LOCK_STATE.reg w (by decide))
  unfold State.arcTime
  rw [lock]
  rfl

theorem patrolNow_eq (s : State) :
    let a := s.setReg R.ANC_PATROL 0
    s.patrolNow = a.onAnc (fun x => { x with passStart := a.arcTime, corrected := [] }) := by
  intro a
  rw [arcTime_setReg_patrol]
  rfl

/-- Settles O46: each request by whether the archive takes it, a read by whether its record is there and fits, a format by its key. -/
theorem archiveRequestsComplete : Obligations.ArchiveRequestsComplete := by
  intro s v o seq flips src m n
  refine ⟨fun up => ⟨exec_arcRead_of_frozen, exec_arcRead_of_not_takes up, exec_arcRead_of_absent up,
      fun r free takes found kept committed => ?read⟩,
    fun up => ⟨exec_arcDelete_of_not_takes up, fun takes above => ?refused, fun takes within => ?noted⟩,
    fun up => ⟨exec_arcCommit_of_not_takes up, exec_arcCommit_of_takes up⟩, fun up => ?format, exec_arcInfo_of_takesUp,
    fun on => ⟨fun takes => ?pass, fun closed => ?closed, exec_ancCountClr_of_on on, fun fault policy sound => ?mounts⟩⟩
  case read =>
    have read := exec_arcRead_of_present (flips := flips) up free takes found kept committed
    exact ⟨fun fits => read.trans (congrArg _ (toHost_of_fits fits)), fun short => read.trans (congrArg _ (toHost_of_short short))⟩
  case refused => exact (exec_arcDelete_of_takes up takes).trans (congrArg _ (if_pos above))
  case noted => exact (exec_arcDelete_of_takes up takes).trans (congrArg _ (if_neg (Nat.not_lt.mpr within)))
  case format =>
    intro key a idle
    have key_eq : key = formatKey s v := by cases v <;> rfl
    rw [key_eq, exec_arcFormat_of_idle up idle]
    exact ⟨fun right => congrArg _ (if_neg (not_not_intro right)), fun wrong => congrArg _ (if_pos wrong)⟩
  case pass =>
    intro a
    rw [exec_patrolNow_of_on on, whenReady_of_takes takes, patrolNow_eq]
  case closed => rw [exec_patrolNow_of_on on, whenReady_of_not_takes closed]
  case mounts => exact (exec_ancFaultClr_of_on on).trans (congrArg _ ((if_pos fault).trans (startMount_of_policy policy sound)))

end Sys2Proof.Laws
end

/-! PROOFS. The archive at work: mount, format, records, programs and erases, commits, patrol, flush and PWRFAIL_N
(12 R359-R379, 17 R457). -/

section
namespace Sys2Proof.Laws

open Sys2Proof Sys2Proof.Machine

theorem at_ancState (s : State) (t : Nat) : (s.at_ t).ancState = s.ancState := at_fld s t _ (by decide) (by decide)

/-! ### How a mount ends (R346, R364-R366) -/

section
variable {s : State} {sb : Bytes}

theorem mountTables_of_no_super (bare : s.findSuper = none) :
    s.mountTables = (s.setFld F.ANC_STATUS.STATE Anc.unformatted).post .anc AncCode.unformatted 0 := by
  rw [State.mountTables, bare]

/-- The checkpoint that a mount goes by, with its first page: the superblock's latest, or the one before where that cannot be read (R364). -/
def foundCheckpoint (s : State) (sb : Bytes) : Option ((Bytes × List Nat) × Nat) :=
  match s.readCheckpoint (field sb 0x28 4) with
  | some x => some (x, field sb 0x28 4)
  | none => (s.readCheckpoint (field sb 0x2C 4)).map (fun x => (x, field sb 0x2C 4))

theorem foundCheckpoint_of_latest {x : Bytes × List Nat} (latest : s.readCheckpoint (field sb 0x28 4) = some x) :
    foundCheckpoint s sb = some (x, field sb 0x28 4) := by
  rw [foundCheckpoint, latest]

theorem foundCheckpoint_of_not_latest (latest : s.readCheckpoint (field sb 0x28 4) = none) :
    foundCheckpoint s sb = (s.readCheckpoint (field sb 0x2C 4)).map (fun x => (x, field sb 0x2C 4)) := by
  rw [foundCheckpoint, latest]

end

section
variable {s : State} {nand : List (Nat × NandAnswer)} {t : Nat}

/-- ANC_MOUNT does not pass over a mount under way. -/
theorem not_mount_skipped (on : s.unitOn .anc = true) (mounting : s.ancState = Anc.mounting) :
    ¬(!(s.at_ t).unitOn .anc || decide ((s.at_ t).ancState ≠ Anc.mounting)) = true := by
  simp [at_unitOn, at_ancState, on, mounting]

theorem exec_ancMount_of_unsupported {d : Nat} (on : s.unitOn .anc = true) (mounting : s.ancState = Anc.mounting)
    (fault : mediumFault nand = some d) :
    exec (.ancMount nand t) s = .next (((((s.at_ t).ancFault AncCode.unsupported d).zoneReplay).almMounted).thenStart (s.at_ t)) := by
  refine congrArg Host.Outcome.next ((if_neg (not_mount_skipped on mounting)).trans ?_)
  simp only [fault]

theorem exec_ancMount_of_supported (on : s.unitOn .anc = true) (mounting : s.ancState = Anc.mounting) (sound : mediumFault nand = none) :
    exec (.ancMount nand t) s
      = .next (((((s.at_ t).setGeometry nand).mountTables.zoneReplay).almMounted).thenStart (s.at_ t)) := by
  refine congrArg Host.Outcome.next ((if_neg (not_mount_skipped on mounting)).trans ?_)
  simp only [sound]

end

/-! ### The end of a format (R376) -/

theorem mountOrOff_of_policy {s : State} (policy : imgHas s.sil.active Sec.archivePolicy = true) (sound : ancCheck s.fld = none) :
    s.mountOrOff = ((s.ancLose).setFld F.ANC_STATUS.STATE Anc.mounting).ancVote :=
  (if_pos policy).trans (startMount_of_policy policy sound)

theorem exec_formatComplete_of_formatting {s : State} {bad failed : List Nat} (on : s.unitOn .anc = true)
    (formatting : s.ancState = Anc.formatting) : exec (.formatComplete bad failed) s = .next (s.formatDone bad failed) :=
  congrArg Host.Outcome.next (if_pos (by simp [on, formatting]))

/-! ### Staged data become a record (R355, R360, R365, R369) -/

section
variable {s a : State} {c n : Nat} {items : List RingItem}

theorem takeData_of_read (begun : s.anc.skip.contains c = false)
    (ends : recordEnd (s.fld F.ANC_POL0.RECORD_BLOCKS) (s.recordCloses c) (s.tch c).staged = some n)
    (read : State.readItems ((s.tch c).staged.take n) s = (a, some items)) : s.takeData c = a.takeRecord c n items := by
  unfold State.takeData
  simp only [begun, Bool.false_eq_true, if_false, ends, read]

theorem exec_stagedRecordProgram_of_taken {c : Fin 32} (on : s.unitOn .anc = true) (ready : s.ancState = Anc.ready)
    (running : s.anc.halting = false) (serves : s.dmcServes = true) (taken : s.takeData c.val = a) :
    exec (.stagedRecordProgram c) s = .next a.judgeSpace.ancStep.tceStall := by
  subst taken
  exact congrArg Host.Outcome.next (if_pos (by simp [on, ready, running, serves]))

/-- A full archive under STOP drops the record; the span of its first loss is open already. -/
theorem takeRecord_of_full (full : a.anc.full = true) (stop : a.fld F.ANC_POL2.FULL_POLICY = 1)
    (refused : a.anc.refused.any (·.chan == c) = true) :
    a.takeRecord c n items = ((a.dropStaged c n).keepHeaders c (a.dataRecord c items).2.2).count F.ANC_DROP.COUNT 1 :=
  (if_pos (by simp [full, stop])).trans (if_pos refused)

section
variable (free : a.anc.full = false) (accepted : a.anc.refused.find? (·.chan == c) = none) (closed : a.anc.spans.find? (·.chan == c) = none)
include free accepted closed

/-- With no gap to record first, data wait for the span of R365 to be committed, then for room. -/
theorem takeRecord_of_free :
    let d := a.dataRecord c items
    let m := a.makeRoom (80 + d.2.1.length)
    a.takeRecord c n items = if a.anc.commitSeq < a.anc.gapSeq then a else if (!m.1) = true then m.2
      else ((a.newRecord d.1 d.2.1).dropStaged c n).keepHeaders c d.2.2 := by
  unfold State.takeRecord
  simp only [free, accepted, closed, Bool.false_and, Bool.false_eq_true, if_false]

theorem takeRecord_of_gap_open (waits : a.anc.commitSeq < a.anc.gapSeq) : a.takeRecord c n items = a :=
  (takeRecord_of_free free accepted closed).trans (if_pos waits)

theorem takeRecord_of_no_room (ended : a.anc.gapSeq ≤ a.anc.commitSeq) (noRoom : (a.makeRoom (80 + (a.dataRecord c items).2.1.length)).1 = false) :
    a.takeRecord c n items = (a.makeRoom (80 + (a.dataRecord c items).2.1.length)).2 :=
  (takeRecord_of_free free accepted closed).trans ((if_neg (Nat.not_lt.mpr ended)).trans (if_pos (by simp [noRoom])))

theorem takeRecord_of_room (ended : a.anc.gapSeq ≤ a.anc.commitSeq) (room : (a.makeRoom (80 + (a.dataRecord c items).2.1.length)).1 = true) :
    let d := a.dataRecord c items
    a.takeRecord c n items = ((a.newRecord d.1 d.2.1).dropStaged c n).keepHeaders c d.2.2 :=
  (takeRecord_of_free free accepted closed).trans ((if_neg (Nat.not_lt.mpr ended)).trans (if_neg (by simp [room])))

end
end

/-! ### Page reads (R373) -/

theorem exec_nandPageReadDone_of_mounted {s : State} {page : Nat} {flips : List Nat} (on : s.unitOn .anc = true)
    (mounted : s.ancState = Anc.ready ∨ s.ancState = Anc.flushing ∨ s.ancState = Anc.mounting) :
    let a := if flips.isEmpty then s else s.onAnc (fun a => { a with
      pages := tabPut (fun _ => none) a.pages page (some (s.rawPage page flips)) })
    let r := a.readPage page []
    let b := a.notePages [(page, r.worst)] (if r.clean then [] else [page])
    exec (.nandPageReadDone page flips) s = .next (if b.ancState = Anc.mounting then b else b.ancStep) := by
  refine congrArg Host.Outcome.next (if_neg ?_)
  rcases mounted with state | state | state <;> simp [on, state]

/-! ### Records of the ZNT and the ALM (R357) -/

/-- The ANC is READY and its log takes a PAYLOAD record of these bytes. -/
structure HasRoom (u : State) (content : Bytes) : Prop where
  ready : u.ancState = Anc.ready
  running : u.anc.halting = false
  room : (u.makeRoom (content.length + 96)).1 = true

/-- A PAYLOAD record is in the log, and `w` waits for its commit. -/
def withPayload (u : State) (type : Nat) (content : Bytes) (w : ArcWait) : State :=
  ((u.newRecord (u.arcHead type 0xFF) (arcItem 5 content)).onAnc (fun a => { a with waits := a.waits ++ [w] })).wantCommit

section
variable {u : State} {content : Bytes}

theorem payloadRecord_of_room (h : HasRoom u content) (type : Nat) (w : Nat → ArcWait) :
    u.payloadRecord type content w = (true, withPayload u type content (w u.anc.nextSeq)) := by
  unfold State.payloadRecord
  simp only [h.running, h.room, Bool.not_true, Bool.false_eq_true, if_false]
  rfl

theorem HasRoom.not_mounting (h : HasRoom u content) : u.ancState ≠ Anc.mounting := by rw [h.ready]; decide

theorem submitZone_of_room {i : Nat} {z : ZoneChange} (next : u.znt.changes.findIdx? (fun c => !c.submitted) = some i)
    (change : u.znt.changes[i]? = some z) (h : HasRoom u z.bytes) :
    let a := withPayload u 3 z.bytes (.zone z.number u.anc.nextSeq)
    u.submitZone = ({ a with znt := { a.znt with
      changes := modAt a.znt.changes i (fun c => { c with submitted := true }) } } : State).ancStep := by
  unfold State.submitZone
  simp only [next, change]
  rw [if_neg h.not_mounting, if_neg (not_not_intro h.ready), payloadRecord_of_room h]
  rfl

/-- The calibration record of an append: the chain's head with the entries that replace or join its own (20 R504). -/
def calRecord (u : State) (x : CalAppend) : Bytes :=
  formRecord u.chainHead (mergeEntries (recEntries u.chainHead) (x.entries.flatMap (walkEntries 1))) (imgSerial u.sil.active) u.run
    (if x.who.isSome then 1 else 2) u.frame u.timeNs (u.lockByte u.ttu.stepped)

theorem submitCal_of_room {x : CalAppend} {rest : List CalAppend} (head : u.alm.appends = x :: rest) (unformed : x.record = [])
    (size : (calRecord u x).length ≤ 65536) (h : HasRoom u (calRecord u x)) :
    let a := withPayload u 4 (calRecord u x) (.cal u.anc.nextSeq)
    u.submitCal = ({ a with alm := { a.alm with appends := { x with record := calRecord u x } :: rest } } : State).ancStep := by
  have due : ¬((!x.record.isEmpty) = true ∨ u.ancState = Anc.mounting) := by simp [unformed, h.not_mounting]
  unfold State.submitCal
  rw [head]
  refine (if_neg due).trans ((if_neg (not_not_intro h.ready)).trans ((if_neg (Nat.not_lt.mpr size)).trans ?_))
  have written := payloadRecord_of_room h 4 .cal
  unfold calRecord at written
  rw [written]
  rfl

theorem submitHist_of_room (held : u.alm.buf ≠ []) (policy : imgHas u.sil.active Sec.archivePolicy = true) (h : HasRoom u u.alm.buf.flatten) :
    let a := withPayload u 5 u.alm.buf.flatten (.history u.alm.buf.length u.anc.nextSeq)
    u.submitHist = (({ a with alm := { a.alm with buf := [], firstEvent := none } } : State).histFill).ancStep := by
  have due : ¬(u.alm.buf.isEmpty = true ∨ u.ancState = Anc.mounting ∨ (!imgHas u.sil.active Sec.archivePolicy) = true) := by
    simp [held, h.not_mounting, policy]
  refine (if_neg due).trans ((if_neg (not_not_intro h.ready)).trans ?_)
  rw [payloadRecord_of_room h]
  rfl

end

/-! ### Programs and erases that end (R359, R362, R372, R379) -/

theorem putPage_ops (s : State) (a : Nat) (main : Bytes) : (s.putPage a main).anc.ops = s.anc.ops := by
  unfold State.putPage
  split <;> rfl

/-- The oldest operation leaves the queue. -/
def withOps (s : State) (rest : List NandOp) : State := s.onAnc (fun a => { a with ops := rest })

section
variable {s : State} {op : NandOp} {rest : List NandOp} (head : s.anc.ops = op :: rest)
include head

theorem exec_pageProgramDone_of_op (fail : Bool) : exec (.pageProgramDone fail) s = .next (s.opDone fail).ancStep :=
  congrArg Host.Outcome.next (if_neg (by simp [head]))

theorem exec_nandOpTimeout_of_op : exec .nandOpTimeout s = .next (s.opDone true).ancStep :=
  congrArg Host.Outcome.next (if_neg (by simp [head]))

/-- A timeout is handled as an operation that failed (R348). -/
theorem exec_of_failed_op {x : State} (failed : s.opDone true = x) :
    exec (.pageProgramDone true) s = .next x.ancStep ∧ exec .nandOpTimeout s = .next x.ancStep := by
  rw [← failed]
  exact ⟨exec_pageProgramDone_of_op head true, exec_nandOpTimeout_of_op head⟩

theorem opDone_of_erased (erase : op.kind = .erase) : s.opDone false = (withOps s rest).eraseBlock (s.blockOf op.addr) := by
  unfold State.opDone
  simp only [head, erase, Bool.not_false, if_true]
  rfl

/-- A page programmed is on the medium, and a commit waits for the last of its journal pages (R359). -/
theorem opDone_of_programmed (program : op.kind ≠ .erase) (last : ¬(op.kind = .journal ∧ rest.any (·.kind == .journal) = false)) :
    s.opDone false = (withOps s rest).putPage op.addr op.main := by
  unfold State.opDone
  rw [head]
  obtain ⟨kind, addr, main⟩ := op
  cases kind with
  | erase => exact absurd rfl program
  | journal =>
    have more : ((withOps s rest).putPage addr main).anc.ops.any (·.kind == .journal) = true := by
      rw [putPage_ops]
      exact eq_true_of_ne_false fun ended => last ⟨rfl, ended⟩
    exact if_pos more
  | data => rfl
  | checkpoint => rfl
  | super => rfl

theorem opDone_of_journaled (journal : op.kind = .journal) (last : rest.any (·.kind == .journal) = false) :
    s.opDone false = ((withOps s rest).putPage op.addr op.main).onAnc (fun x => { x with passed := x.job.isSome }) := by
  have done : ¬((withOps s rest).putPage op.addr op.main).anc.ops.any (·.kind == .journal) = true := by
    rw [putPage_ops]
    exact ne_true_of_eq_false last
  unfold State.opDone
  rw [head]
  simp only [journal]
  exact if_neg done

theorem opDone_of_lost (halting : s.anc.halting = true) : s.opDone true = (withOps s rest).opLost op := by
  unfold State.opDone
  rw [head]
  exact if_pos halting

theorem opDone_of_data_failed (data : op.kind = .data) (running : s.anc.halting = false) :
    let g := s.blockOf op.addr
    s.opDone true = (((((withOps s rest).growBad g AncCode.programFail 1).onAnc (fun x => { x with ops := x.ops.filter (·.kind != .data) })).relay g
      (op :: rest.filter (·.kind == .data))).clearBlock g) := by
  unfold State.opDone
  rw [head]
  refine (if_neg (ne_true_of_eq_false running)).trans ?_
  simp only [data]
  rfl

theorem opDone_of_erase_failed (erase : op.kind = .erase) (running : s.anc.halting = false) :
    let g := s.blockOf op.addr
    let f := (withOps s rest).growBad g AncCode.eraseFail 2
    s.opDone true = if superBlock g then f.moveSuper g else f := by
  unfold State.opDone
  rw [head]
  refine (if_neg (ne_true_of_eq_false running)).trans ?_
  simp only [erase]
  rfl

end

/-! ### Commits and checkpoints (R359, R360, R362) -/

section
variable {s : State} {t : Nat}

theorem exec_commitMsExpiry_of_expired {a : Nat} (first : (s.at_ t).anc.firstAt = some a)
    (expired : a + msec * (s.at_ t).fld F.ANC_POL1.COMMIT_MS ≤ (s.at_ t).now) :
    exec (.commitMsExpiry t) s = .next (s.at_ t).wantCommit.ancStep := by
  refine congrArg Host.Outcome.next ?_
  simp only [first]
  exact if_pos expired

theorem exec_commitInForce_of_passed (formed : (s.at_ t).anc.job.isSome = true) (passed : (s.at_ t).anc.passed = true) :
    exec (.commitInForce t) s = .next (s.at_ t).commitInForce.ancStep :=
  congrArg Host.Outcome.next (if_pos (by simp only [formed, passed, Bool.and_self]))

theorem exec_checkpointWritten_of_written (written : s.anc.ckPhase = 2) (passed : s.anc.ops.any (·.kind == .checkpoint) = false) :
    exec .checkpointWritten s = .next (((s.addEntry (journalEntry 7 (s.pageAddr (s.anc.ckNext.headD 0) 0) s.anc.ckCommit 0 0)).onAnc
      (fun x => { x with ckPhase := 3 })).wantCommit).ancStep := by
  have due : ¬(s.anc.ckPhase ≠ 2 ∨ s.anc.ops.any (·.kind == .checkpoint) = true) := by simp only [written, passed]; decide
  exact congrArg Host.Outcome.next ((if_pos ⟨written, by simp only [passed, Bool.not_false]⟩).trans (congrArg State.ancStep (if_neg due)))

end

/-! ### The patrol (R374) -/

/-- The blocks that a pass has still to read, by their number. -/
def patrolTodo (s : State) : List Nat :=
  sortBy id ((s.blocksIn (fun x => decide (3 ≤ x ∧ x ≤ 5))).filter (fun g => decide (s.fld F.ANC_PATROL.NEXT ≤ g)))

section
variable {s : State} {flips : List (Nat × Nat)}

theorem exec_patrolRead_of_ready (ready : s.ancState = Anc.ready) (free : s.dmcState ≠ Dmc.frozen) :
    exec (.patrolRead flips) s = .next (s.patrolRead flips).ancStep := congrArg Host.Outcome.next (if_pos ⟨ready, free⟩)

theorem patrolRead_of_end (done : patrolTodo s = []) :
    s.patrolRead flips = (s.onAnc (fun a => { a with lastPass := some a.corrected })).patrolNow := by
  unfold patrolTodo at done
  simp only [State.patrolRead, done]

theorem patrolRead_of_block {g : Nat} {rest : List Nat} (todo : patrolTodo s = g :: rest) :
    let r := s.readPages ((List.range s.npages).map (s.pageAddr g)) flips
    let a := (r.pages.foldl (fun a p => a.notePatrol p.1 p.2) s).notePages r.pages r.bad
    let worn := decide (a.arcTime - (a.nblk g).time > 86400 * a.fld F.ANC_POL3.RETENTION_DAYS)
    let b := if r.pages.foldl (fun m p => max m p.2) 0 > a.fld F.ANC_POL2.REFRESH_BITS ∨ worn then a.retireBlock g else a
    let z := b.setFld F.ANC_PATROL.NEXT (g + 1)
    s.patrolRead flips = z.setFlag F.ANC_PATROL.BEHIND (decide ((g + 1) * (86400 * z.fld F.ANC_POL2.PATROL_DAYS)
      < (z.arcTime - z.anc.passStart) * z.totalBlocks)) := by
  unfold patrolTodo at todo
  simp only [State.patrolRead, todo]

end

/-! ### Flush and PWRFAIL_N (R377, R379, 17 R457) -/

theorem exec_flushComplete_of_idle {s : State} (state : s.ancState = Anc.flushing) (committed : s.anc.flushing = false)
    (written : s.anc.ckPhase = 0) (done : s.anc.ops = []) (inForce : s.anc.job = none) (unwanted : s.anc.wanted = false) :
    let z := ((s.ancLose).setFld F.ANC_STATUS.STATE Anc.off).ancVote
    exec .flushComplete s = .next (if z.unitOn .anc then z.startMount else z) :=
  congrArg Host.Outcome.next (if_pos ⟨state, by simp [committed], written, done, by simp [inForce], by simp [unwanted]⟩)

section
variable {s : State}

/-- The pin is newly asserted. -/
theorem exec_pwrfailAssert_of_enabled (enabled : s.flag F.PMU_CFG.PWRFAIL_EN = true) (fresh : s.flag F.PMU_STATUS.PWRFAIL = false) :
    let a := ({ s with pmu := { s.pmu with pwrfailPin := true, pwrfailHold := true } } : State).repower
    exec .pwrfailAssert s = .next ((a.setFld F.PMU_STATUS.PWRFAIL 1).raise .pmu F.PMU_IRQ_STATUS.PWRFAIL).ancPwrfail := by
  have newly : (true && s.flag F.PMU_CFG.PWRFAIL_EN && !s.flag F.PMU_STATUS.PWRFAIL) = true := by simp only [enabled, fresh]; decide
  exact congrArg Host.Outcome.next (if_pos newly)

theorem exec_pwrfailAssert_of_disabled (disabled : s.flag F.PMU_CFG.PWRFAIL_EN = false) :
    exec .pwrfailAssert s = .next (({ s with pmu := { s.pmu with pwrfailPin := true } } : State).setFld F.PMU_STATUS.PWRFAIL 0) := by
  have unseen : ¬(true && s.flag F.PMU_CFG.PWRFAIL_EN && !s.flag F.PMU_STATUS.PWRFAIL) = true := by simp [disabled]
  exact congrArg Host.Outcome.next ((if_neg unseen).trans (if_neg (ne_true_of_eq_false disabled)))

/-- The pin as it reads once it has been released. -/
def pwrfailReleased (s : State) : State :=
  ({ s with pmu := { s.pmu with pwrfailPin := false } } : State).setFld F.PMU_STATUS.PWRFAIL 0

theorem exec_pwrfailRelease_of_halted (pin : s.pmu.pwrfailPin = true) (halted : (pwrfailReleased s).ancState = Anc.halted) :
    exec .pwrfailRelease s = .next (pwrfailReleased s).startMount := congrArg Host.Outcome.next (if_pos ⟨halted, pin⟩)

theorem exec_pwrfailRelease_of_not_halted (state : (pwrfailReleased s).ancState ≠ Anc.halted) :
    exec .pwrfailRelease s = .next (pwrfailReleased s) := congrArg Host.Outcome.next (if_neg fun h => state h.1)

end

/-- Settles O47: a mount by what the medium holds, the others by the conditions under which each does its work. -/
theorem archiveWorkComplete : Obligations.ArchiveWorkComplete := by
  intro s nand t page bad pflips c flips u put room mount
  refine ⟨fun on => ⟨fun mounting => ⟨fun d fault => exec_ancMount_of_unsupported on mounting fault, fun sound => ?mounts⟩,
      fun formatting => ?formats,
      fun n a items ready running serves begun ends read => ?staged, exec_nandPageReadDone_of_mounted on⟩,
    fun i z next change ⟨ready, running, roomy⟩ => congrArg _ (submitZone_of_room next change ⟨ready, running, roomy⟩),
    fun x rest head unformed => ?calibration,
    fun held policy ⟨ready, running, roomy⟩ => congrArg _ (submitHist_of_room held policy ⟨ready, running, roomy⟩),
    fun op rest head => ?operation, fun a first expired => exec_commitMsExpiry_of_expired first expired, exec_commitInForce_of_passed,
    exec_checkpointWritten_of_written, fun ready free => ⟨fun done => ?passEnds, fun g rest todo => ?patrols⟩, rfl,
    exec_flushComplete_of_idle, exec_pwrfailAssert_of_enabled, exec_pwrfailAssert_of_disabled,
    fun pin => ⟨fun halted => ?remounts, exec_pwrfailRelease_of_not_halted⟩⟩
  case mounts =>
    intro g tables mounted
    have ended : g.mountTables = mounted := by
      cases super : g.findSuper with
      | none => exact (mountTables_of_no_super super).trans (by simp only [mounted, super])
      | some sb =>
        have rebuilt : g.mountTables = match foundCheckpoint g sb with
            | none => g.ancFault AncCode.metaLost 0
            | some ((b, blocks), page) => tables sb b blocks page := by
          rw [State.mountTables, super]
          rfl
        rw [rebuilt]
        cases latest : g.readCheckpoint (field sb 0x28 4) with
        | some x => simp only [foundCheckpoint_of_latest latest, mounted, super, latest]
        | none =>
          rw [foundCheckpoint_of_not_latest latest]
          cases prev : g.readCheckpoint (field sb 0x2C 4) <;> simp only [mounted, super, latest, prev, Option.map]
    exact (exec_ancMount_of_supported on mounting sound).trans
      (congrArg (fun a : State => Host.Outcome.next (a.zoneReplay.almMounted.thenStart u)) ended)
  case formats =>
    rintro a sbs z ⟨policy, sound⟩
    exact (exec_formatComplete_of_formatting on formatting).trans (congrArg _ (mountOrOff_of_policy policy sound))
  case staged =>
    intro d
    have programs {x : State} (taken : a.takeRecord c.val n items = x) := exec_stagedRecordProgram_of_taken on ready running serves
      ((takeData_of_read begun ends read).trans taken)
    exact ⟨fun full stop refused => programs (takeRecord_of_full full stop refused),
      fun free accepted closed => ⟨fun waits => programs (takeRecord_of_gap_open free accepted closed waits),
        fun ended noRoom => programs (takeRecord_of_no_room free accepted closed ended noRoom),
        fun ended roomy => programs (takeRecord_of_room free accepted closed ended roomy)⟩⟩
  case calibration =>
    rintro b a size ⟨ready, running, roomy⟩
    exact congrArg _ (submitCal_of_room head unformed size ⟨ready, running, roomy⟩)
  case operation =>
    intro g a b
    have passes {x : State} (passed : s.opDone false = x) : exec (.pageProgramDone false) s = .next x.ancStep :=
      passed ▸ exec_pageProgramDone_of_op head false
    exact ⟨fun erase => passes (opDone_of_erased head erase), fun program last => passes (opDone_of_programmed head program last),
      fun journal last => passes (opDone_of_journaled head journal last), fun halting => exec_of_failed_op head (opDone_of_lost head halting),
      fun data running => exec_of_failed_op head (opDone_of_data_failed head data running),
      fun erase running => exec_of_failed_op head (opDone_of_erase_failed head erase running)⟩
  case passEnds =>
    intro a
    rw [exec_patrolRead_of_ready ready free, patrolRead_of_end done, patrolNow_eq]
  case patrols => exact (exec_patrolRead_of_ready ready free).trans (congrArg _ (congrArg _ (patrolRead_of_block todo)))
  case remounts =>
    rintro ⟨policy, sound⟩
    exact (exec_pwrfailRelease_of_halted pin halted).trans (congrArg _ (startMount_of_policy policy sound))

end Sys2Proof.Laws
end

/-! PROOFS. The step and the reset state; an idle step and the scrubber; the pin of the interrupts (14 R389, 11 R327, 18 R464, 21 R516, 23 R566). -/

section
namespace Sys2Proof.Laws

open Sys2Proof Sys2Proof.Machine

/-- Settles O5: what a command keeps (`Keeps`) includes the queue and the fuses. -/
theorem commandsCompleteAndKeepQueueAndFuses : Obligations.CommandsCompleteAndKeepQueueAndFuses := by
  intro c s
  obtain ⟨t, ran, kept⟩ := (Keeps.refl s).exec c
  exact ⟨t, ran, kept.queue, kept.fuses⟩

/-- Settles O1: the front of the queue decides the branch of a step. -/
theorem stepRunsFront : Obligations.StepRunsFront := fun _ _ _ => rfl

/-- Settles O3: the reset state lists no register and no log, so each reads its default. -/
theorem resetState : Obligations.ResetState :=
  ⟨rfl, ⟨rfl, rfl, rfl⟩, fun _ => rfl, fun _ => rfl, rfl⟩

/-- Settles O13: the pin is the `any` over the sources. -/
theorem irqPin : Obligations.IrqPin := by
  intro s
  simp only [State.irqN, List.any_eq_true, List.mem_range, Bool.and_eq_true]

/-! ### An idle step: one sample, and the scrubber's read (11 R327) -/

/-- With nothing to read the scrubber does nothing. -/
theorem idle_of_no_scrub {s : State} (rests : s.dmc.scrub = none ∨ s.dmc.waiting ≠ [] ∨ ∀ a, s.dmc.scrub = some a → s.spanReady a 32 = false) :
    s.idle = s := by
  cases pass : s.dmc.scrub with
  | none => simp only [State.idle, State.scrubRead, pass]
  | some a =>
    have closed : ¬(s.dmc.waiting.isEmpty && s.spanReady a 32) = true := by
      rcases rests with none_ | busy | unfilled
      · simp [pass] at none_
      · simp [busy]
      · simp [unfilled a pass]
    simp only [State.idle, State.scrubRead, pass, if_neg closed]

theorem idle_of_scrub {s : State} {a : Nat} (pass : s.dmc.scrub = some a) (quiet : s.dmc.waiting = []) (filled : s.spanReady a 32 = true) :
    s.idle = s.dmcEnqueue ⟨dmcPath, 5, false, a, [], 32, s.now⟩ := by
  simp only [State.idle, State.scrubRead, pass, quiet, filled, List.isEmpty_nil, Bool.and_self, if_true]

theorem step_of_empty {s : State} (empty : s.pending = []) : step s = .next ({ s with now := s.now + 1 } : State).idle := by
  simp only [step, empty]

/-- Settles O2: an idle step is one sample and the scrubber's move; no row of the table decodes. -/
theorem idleTickAndNoWords : Obligations.IdleTickAndNoWords := by
  refine ⟨?_, fun n w s => ⟨rfl, rfl⟩⟩
  intro s empty u
  refine ⟨fun a pass quiet filled => ?_, fun rests => ?_⟩
  · exact (step_of_empty empty).trans (congrArg _ (idle_of_scrub pass quiet filled))
  · exact (step_of_empty empty).trans (congrArg _ (idle_of_no_scrub rests))

end Sys2Proof.Laws
end

/-! PROOFS. The latch of the time scale (14 R390). -/

section
namespace Sys2Proof.Laws

open Sys2Proof Sys2Proof.Machine

/-- A read of a register that always stands, has no live value and no effect on being read, returns its stored word. -/
theorem busRead_of_stored {t : State} {src : Src} {off : Nat} (ao : regDomain off = 0) (mapped : (famOf off).isNone = false)
    (silent : t.readEffect off = none) (stored : t.busPeek off = t.reg off) : t.busRead src off = (t, t.reg off) := by
  simp only [State.busRead, State.regOn, ao, mapped, silent, stored, BEq.rfl, Bool.true_or, Bool.not_true, Bool.false_eq_true, if_false]

theorem busRead_ttuNowHi (t : State) (src : Src) : t.busRead src R.TTU_NOW_HI = (t, t.reg R.TTU_NOW_HI) :=
  busRead_of_stored (by decide) (by decide) rfl rfl

theorem busRead_ttuNowFrac (t : State) (src : Src) : t.busRead src R.TTU_NOW_FRAC = (t, t.reg R.TTU_NOW_FRAC) :=
  busRead_of_stored (by decide) (by decide) rfl rfl

section
variable (s : State) (c : s.canonical)
include c

theorem latchNow_lo : s.latchNow.reg R.TTU_NOW_LO = w32 (scaleNs (s.scaleAt (2048 * s.now))) := by
  rw [State.latchNow, reg_setReg_of_ne _ _ _ _ (by decide), reg_setReg_of_ne _ _ _ _ (by decide), reg_setReg_self _ _ _ c.1]

theorem latchNow_hi : s.latchNow.reg R.TTU_NOW_HI = w32 (scaleNs (s.scaleAt (2048 * s.now)) / 2 ^ 32) := by
  rw [State.latchNow, reg_setReg_of_ne _ _ _ _ (by decide), reg_setReg_self _ _ _ (regs_setReg_wf _ _ _ c.1)]

theorem latchNow_frac : s.latchNow.reg R.TTU_NOW_FRAC = w32 (scaleFrac (s.scaleAt (2048 * s.now))) := by
  rw [State.latchNow, reg_setReg_self _ _ _ (regs_setReg_wf _ _ _ (regs_setReg_wf _ _ _ c.1))]

end

theorem latchNow_of_ne (s : State) {r : Nat} (lo : r ≠ R.TTU_NOW_LO) (hi : r ≠ R.TTU_NOW_HI) (frac : r ≠ R.TTU_NOW_FRAC) :
    s.latchNow.reg r = s.reg r := by
  rw [State.latchNow, reg_setReg_of_ne _ _ _ _ frac, reg_setReg_of_ne _ _ _ _ hi, reg_setReg_of_ne _ _ _ _ lo]

/-- Settles O19: the three registers are written together, and reads of HI and FRAC return what is stored. -/
theorem timeScaleLatch : Obligations.TimeScaleLatch := by
  intro s src c z
  have lo := latchNow_lo s c
  refine ⟨s.latchNow.give (.readData R.TTU_NOW_LO (s.latchNow.reg R.TTU_NOW_LO).toNat), rfl, lo, latchNow_hi s c, latchNow_frac s c,
    ?_, ?_, ?_, fun r => latchNow_of_ne s, rfl⟩
  · rw [lo]
    rfl
  · rw [busRead_ttuNowHi]
    exact latchNow_hi s c
  · rw [busRead_ttuNowFrac]
    exact latchNow_frac s c

end Sys2Proof.Laws
end

/-! PROOFS. Resolved targets of the power domains (17 R446-R449). -/

section
namespace Sys2Proof.Laws

open Sys2Proof Sys2Proof.Machine

/-! ### The least of a list of states -/

theorem foldl_min_le (l : List Nat) (m : Nat) : l.foldl min m ≤ m ∧ ∀ x ∈ l, l.foldl min m ≤ x := by
  induction l generalizing m with
  | nil => simp
  | cons y l ih =>
    obtain ⟨start, rest⟩ := ih (min m y)
    refine ⟨by simp only [List.foldl_cons]; omega, ?_⟩
    rintro x (_ | ⟨_, inside⟩)
    · simp only [List.foldl_cons]; omega
    · exact rest x inside

section
variable (s : State)

theorem ownTarget_of_disabled {d : Nat} (disabled : s.domEnabled d = false) : s.ownTarget d = 3 := by
  simp [State.ownTarget, disabled]

theorem ownTarget_le {d o : Nat} (enabled : s.domEnabled d = true) (owner : o < 8) :
    s.ownTarget d ≤ s.ownerVote o d ∧ s.ownTarget d ≤ domField (s.fld F.PMU_FLOOR.FLOOR) d ∧ s.ownTarget d ≤ s.holdOn d := by
  simp only [State.ownTarget, enabled, Bool.not_true, Bool.false_eq_true, if_false]
  obtain ⟨start, votes⟩ := foldl_min_le ((List.range 8).map (fun o => s.ownerVote o d))
    (min (domField (s.fld F.PMU_FLOOR.FLOOR) d) (s.holdOn d))
  exact ⟨votes _ (List.mem_map.mpr ⟨o, List.mem_range.mpr owner, rfl⟩), by omega, by omega⟩

/-- Of all domains but AO, CORE and DMC the resolved target is its own. -/
theorem resolved_of_plain {d : Nat} (ao : d ≠ 0) (core : d ≠ 1) (dmc : d ≠ 9) : s.resolved d = s.ownTarget d := by
  simp only [State.resolved, if_neg ao, if_neg core, if_neg dmc]

theorem resolved_core_of_child (child : ∃ c ∈ coreChildren, s.resolved c = 0) : s.resolved 1 = 0 := by
  obtain ⟨c, listed, runs⟩ := child
  have plain : ∀ c ∈ coreChildren, c ≠ 0 ∧ c ≠ 1 ∧ c ≠ 9 := by decide
  obtain ⟨ao, core, dmc⟩ := plain c listed
  have own : s.ownTarget c = 0 := (resolved_of_plain s ao core dmc).symm.trans runs
  have any : coreChildren.any (fun c => s.ownTarget c == 0) = true := List.any_eq_true.mpr ⟨c, listed, beq_iff_eq.mpr own⟩
  exact if_pos any

theorem resolved_dmc_le_nand : s.resolved 9 ≤ s.resolved 10 := by
  rw [resolved_of_plain s (d := 10) (by decide) (by decide) (by decide), State.resolved, if_neg (by decide), if_neg (by decide),
    if_pos rfl]
  exact Nat.min_le_right _ _

theorem resolved_le_ownTarget {d : Nat} (ao : d ≠ 0) : s.resolved d ≤ s.ownTarget d := by
  simp only [State.resolved, if_neg ao]
  split
  · rename_i core; subst core; split <;> omega
  · split
    · rename_i dmc; subst dmc; omega
    · exact Nat.le_refl _

end

/-- Settles O12: a target is the least of its owners' votes, its floor and its holds, and a domain is resolved to that or below. -/
theorem powerTargets : Obligations.PowerTargets := by
  intro s d o _ owner
  refine ⟨fun ao enabled => ?_, resolved_core_of_child s, resolved_dmc_le_nand s, fun ao core dmc disabled => ?_, rfl⟩
  · have below := resolved_le_ownTarget s ao
    obtain ⟨vote, floor, hold⟩ := ownTarget_le s enabled owner
    exact ⟨below.trans vote, below.trans floor, below.trans hold⟩
  · rw [resolved_of_plain s ao core dmc, ownTarget_of_disabled s disabled]

end Sys2Proof.Laws
end

/-! PROOFS. The sequence number of a request (18 R470). -/

section
namespace Sys2Proof.Laws

open Sys2Proof Sys2Proof.Machine

theorem sub_toInt_eq_zero_iff (e q : Word) : (q - e).toInt = 0 ↔ q = e := by
  rw [← BitVec.toInt_zero (w := 32), BitVec.toInt_inj, BitVec.sub_eq_iff_eq_add, BitVec.zero_add]

section
variable {e q : Word} {w : Nat}

theorem seqCheck_eq_none_iff : seqCheck e q w = none ↔ q = e := by
  rw [← sub_toInt_eq_zero_iff, seqCheck]
  grind

theorem seqCheck_eq_duplicate_iff : seqCheck e q w = some .duplicate ↔ -(w : Int) ≤ (q - e).toInt ∧ (q - e).toInt < 0 := by
  rw [seqCheck]
  grind

theorem seqCheck_eq_outOfWindow_iff : seqCheck e q w = some .outOfWindow ↔ (q - e).toInt < -(w : Int) ∨ 0 < (q - e).toInt := by
  rw [seqCheck]
  grind

end

/-- Going back by `i` is the difference `-i`. -/
theorem toInt_back {i : Nat} (e : Word) (pos : 0 < i) (small : i < 2 ^ 31) : (e - BitVec.ofNat 32 i - e).toInt = -(i : Int) := by
  have back : e - BitVec.ofNat 32 i - e = -BitVec.ofNat 32 i := by ring
  rw [back, BitVec.toInt_eq_toNat_cond, BitVec.toNat_neg, BitVec.toNat_ofNat]
  omega

/-- Settles O17: the three outcomes are the three ranges of the difference. -/
theorem requestSequence : Obligations.RequestSequence := by
  refine ⟨fun _ _ _ => seqCheck_eq_none_iff, fun _ _ _ => seqCheck_eq_duplicate_iff, fun _ _ _ => seqCheck_eq_outOfWindow_iff,
    fun e w i small pos le => seqCheck_eq_duplicate_iff.mpr ?_⟩
  rw [toInt_back e pos (by omega)]
  omega

end Sys2Proof.Laws
end

/-! PROOFS. Sums and differences of words: carry, overflow and saturation (07 Tables 7-2, 7-4). -/

section
namespace Sys2Proof.Laws

open Sys2Proof Sys2Proof.Machine

theorem signed_toNat (a : Word) : signed 32 a.toNat = a.toInt := by
  have := a.isLt
  simp only [signed, BitVec.toInt_eq_toNat_cond, Nat.mod_eq_of_lt this]
  omega

theorem toInt_mem_range (a : Word) : -2147483648 ≤ a.toInt ∧ a.toInt ≤ 2147483647 := by
  have := a.toInt_lt
  have := a.le_toInt
  omega

theorem toInt_not (b : Word) : (~~~b).toInt = -1 - b.toInt := by
  have := b.isLt
  rw [BitVec.toInt_eq_toNat_cond, BitVec.toInt_eq_toNat_cond, BitVec.toNat_not]
  omega

theorem w32_toNat (a : Word) : w32 a.toNat = a := (BitVec.ofNat_toNat 32 a).trans (BitVec.setWidth_eq a)

/-- A sum of two words and a carry, with its flags in the terms of words (07 Table 7-2). -/
theorem addWith_toNat (a b : Word) (c : Nat) :
    addWith 32 a.toNat b.toNat c = ((a + b + w32 c).toNat, decide (2 ^ 32 ≤ a.toNat + b.toNat + c),
      decide (a.toInt + b.toInt + c ≠ (a + b + w32 c).toInt)) := by
  have sum : (a.toNat + b.toNat + c) % 2 ^ 32 = (a + b + w32 c).toNat := by
    simp only [w32, BitVec.toNat_add, BitVec.toNat_ofNat, Nat.mod_add_mod, Nat.add_mod_mod]
  simp only [addWith, sum, signed_toNat, bne, ne_eq, decide_not, beq_eq_decide, eq_comm]

theorem addFlags_toNat (a b : Word) : addFlags 32 a.toNat b.toNat
    = ((a + b).toNat, decide (2 ^ 32 ≤ a.toNat + b.toNat), decide (a.toInt + b.toInt ≠ (a + b).toInt)) := by
  rw [addFlags, addWith_toNat, show a + b + w32 0 = a + b from BitVec.add_zero _, Int.natCast_zero, Int.add_zero, Nat.add_zero]

theorem subFlags_toNat (a b : Word) : subFlags 32 a.toNat b.toNat
    = ((a - b).toNat, decide (b.toNat ≤ a.toNat), decide (a.toInt - b.toInt ≠ (a - b).toInt)) := by
  have diff : a + ~~~b + w32 1 = a - b := by
    rw [BitVec.sub_eq_add_neg, BitVec.neg_eq_not_add, BitVec.add_assoc]
    rfl
  have noBorrow : 2 ^ 32 ≤ a.toNat + (~~~b).toNat + 1 ↔ b.toNat ≤ a.toNat := by
    have := b.isLt
    rw [BitVec.toNat_not]
    omega
  have exact_ : a.toInt + (~~~b).toInt + (1 : Nat) = a.toInt - b.toInt := by
    rw [toInt_not]
    omega
  rw [subFlags, ← BitVec.toNat_not, addWith_toNat, diff, exact_, decide_eq_decide.mpr noBorrow]

/-- A result with its overflow flag, saturated: the exact sum `z`, clamped, where it left the range on the side of `a`'s sign. -/
theorem toInt_w32_satAt {a r : Word} {z : Int} (carry : Bool) (same : (2 ^ 32 : Int) ∣ z - r.toInt)
    (low : a.toInt < 0 → z ≤ 2147483647) (high : 0 ≤ a.toInt → -2147483648 ≤ z) :
    (w32 (satAt 32 a.toNat (r.toNat, carry, decide (z ≠ r.toInt)))).toInt = max (-2147483648) (min 2147483647 z) := by
  have hr := toInt_mem_range r
  by_cases fits : z = r.toInt
  · simp only [satAt, fits, ne_eq, not_true, decide_false, Bool.false_eq_true, if_false, w32_toNat]
    omega
  · simp only [satAt, ne_eq, fits, not_false_eq_true, decide_true, if_true, signed_toNat]
    split
    case isTrue neg =>
      have := low neg
      rw [show (w32 (2 ^ (32 - 1))).toInt = -2147483648 from rfl]
      omega
    case isFalse pos =>
      have := high (Int.not_lt.mp pos)
      rw [show (w32 (2 ^ (32 - 1) - 1)).toInt = 2147483647 from rfl]
      omega

/-- Settles O16: both are a sum of two words and a carry; a saturated result leaves the range on the side of its first operand. -/
theorem aluSumsAndFlags : Obligations.AluSumsAndFlags := by
  intro a b
  have ha := toInt_mem_range a
  have hb := toInt_mem_range b
  have sum : (2 ^ 32 : Int) ∣ a.toInt + b.toInt - (a + b).toInt := by
    rw [BitVec.toInt_add]
    exact Int.dvd_self_sub_bmod
  have diff : (2 ^ 32 : Int) ∣ a.toInt - b.toInt - (a - b).toInt := by
    rw [BitVec.toInt_sub]
    exact Int.dvd_self_sub_bmod
  simp only [aluWide, addFlags_toNat, subFlags_toNat, Bool.false_eq_true, if_false, if_true, Bool.false_and, Bool.true_and, w32_toNat]
  exact ⟨trivial, trivial, toInt_w32_satAt _ sum (by omega) (by omega), toInt_w32_satAt _ diff (by omega) (by omega), trivial, trivial⟩

end Sys2Proof.Laws
end

/-! PROOFS. Fields of registers that a write does not touch (00 R19), and a message that names an accepted request (18 R473). -/

section
namespace Sys2Proof.Laws

open Sys2Proof Sys2Proof.Machine

section
variable (s : State) {f : Fld}

theorem fld_setReg_of_ne {off : Nat} (w : Word) (other : f.reg ≠ off) : (s.setReg off w).fld f = s.fld f :=
  congrArg (bitsOf · f.hi f.lo) (reg_setReg_of_ne s off f.reg w other)

theorem flag_setReg_of_ne {off : Nat} (w : Word) (other : f.reg ≠ off) : (s.setReg off w).flag f = s.flag f :=
  congrArg (· != 0) (fld_setReg_of_ne s w other)

theorem at_flag (t : Nat) (lo : f.reg ≠ R.TCE_STALL_CYCLES_LO) (hi : f.reg ≠ R.TCE_STALL_CYCLES_HI) : (s.at_ t).flag f = s.flag f :=
  congrArg (· != 0) (at_fld s t f lo hi)

end

/-- A message that names an accepted request acts. -/
theorem withRequest_of_isSome {s : State} {o : Origin} {seq : Word} {ops : List Nat} {act : State → State}
    (named : (s.requestOf o seq ops).isSome = true) : s.withRequest (.msg o seq) ops act = act s := by
  obtain ⟨r, found⟩ := Option.isSome_iff_exists.mp named
  exact withRequest_some s o seq ops act r found

end Sys2Proof.Laws
end

/-! PROOFS. The check-value unit: requests to a channel, the end of a transfer, and the clear of the refused count (13 R381-R385). -/

section
namespace Sys2Proof.Laws

open Sys2Proof Sys2Proof.Machine

section
variable {s : State} {src : Src} {n : Fin 8} {w : Word} {done : Nat} {act : State → State}

/-! ### A request to a channel by whether it is BUSY (R384) -/

theorem cvuIdle_of_idle {m : Nat} (idle : s.cvuBusy m = false) : s.cvuIdle m act = act s := if_neg (ne_true_of_eq_false idle)

theorem cvuIdle_of_busy {m : Nat} (busy : s.cvuBusy m = true) : s.cvuIdle m act = s.cvuRefuse m CvuCode.busy := if_pos busy

theorem cvuAbort_of_busy {m : Nat} (busy : s.cvuBusy m = true) :
    s.cvuAbort m done = (if min done (s.cvuJob m).2 = 0 then s else (s.cvuTake m (min done (s.cvuJob m).2)).getD s).cvuEnd m CvuCode.aborted := by
  simp only [State.cvuAbort, busy, Bool.not_true, Bool.false_eq_true, if_false]

/-- The first bytes of a transfer as DRAM gives them. -/
theorem cvuTake_of_read {m k : Nat} {a : State} {bs : Bytes} (serves : s.dmcServes = true)
    (read : s.dramRead (fixedPath .cvu) 5 (s.cvuJob m).1 k = (a, some bs)) : s.cvuTake m k = some (a.cvuAbsorb m bs) := by
  simp only [State.cvuTake, serves, read, Bool.not_true, Bool.false_eq_true, if_false]

/-! ### The commands -/

section
variable (on : s.unitOn .cvu = true)
include on

theorem exec_cvuInit : exec (.cvuInit src n) s = .next (s.cvuInit n) :=
  congrArg Host.Outcome.next (onUnit_on s _ .cvu _ (fun s => s.cvuInit n) on)

theorem exec_cvuGo : exec (.cvuGo src n) s = .next (s.cvuGo n) :=
  congrArg Host.Outcome.next (onUnit_on s _ .cvu _ (fun s => s.cvuGo n) on)

theorem exec_cvuAbort : exec (.cvuAbort src n done) s = .next (s.cvuAbort n done) :=
  congrArg Host.Outcome.next (onUnit_on s _ .cvu _ (fun s => s.cvuAbort n done) on)

theorem exec_cvuDataWrite : exec (.cvuDataWrite src n w) s = .next (s.cvuData n w) :=
  congrArg Host.Outcome.next (onUnit_on s _ .cvu _ (fun s => s.cvuData n w) on)

theorem exec_cvuCfgWrite : exec (.cvuCfgWrite src n w) s = .next (s.cvuCfg n w) :=
  congrArg Host.Outcome.next (onUnit_on s _ .cvu _ (fun s => s.cvuCfg n w) on)

theorem exec_cvuCountClr : exec (.cvuCountClr src) s = .next (s.setReg R.CVU_REFUSED 0) :=
  congrArg Host.Outcome.next (onUnit_on s _ .cvu _ (fun s => s.setReg R.CVU_REFUSED 0) on)

end

theorem exec_cvuTransferDone_of_read {a : State} {bs : Bytes} (busy : s.cvuBusy n = true) (serves : s.dmcServes = true)
    (read : s.dramRead (fixedPath .cvu) 5 (s.cvuJob n).1 (s.cvuJob n).2 = (a, some bs)) (still : (a.cvuAbsorb n bs).dmcServes = true) :
    exec (.cvuTransferDone n) s = .next ((a.cvuAbsorb n bs).cvuEnd n 0) := by
  refine congrArg Host.Outcome.next ?_
  simp only [busy, cvuTake_of_read serves read, still, Bool.not_true, Bool.false_eq_true, if_false, if_true]

end

/-- Settles O48: each request by whether its channel is BUSY, an abort and an end by the bytes that DRAM gives. -/
theorem checkValueUnitComplete : Obligations.CheckValueUnitComplete := by
  intro s src n done w on
  refine ⟨fun idle => ⟨?init, fun some_ inside => ?goes, fun bad => ?refused, ?data, ?cfg⟩, fun busy => ?busy, exec_cvuCountClr on⟩
  case init => rw [exec_cvuInit on, State.cvuInit, cvuIdle_of_idle idle]
  case goes =>
    rw [exec_cvuGo on, State.cvuGo, cvuIdle_of_idle idle]
    exact congrArg _ (if_neg (not_or.mpr ⟨some_, Nat.not_lt.mpr inside⟩))
  case refused =>
    rw [exec_cvuGo on, State.cvuGo, cvuIdle_of_idle idle]
    exact congrArg _ (if_pos bad)
  case data => rw [exec_cvuDataWrite on, State.cvuData, cvuIdle_of_idle idle]
  case cfg => rw [exec_cvuCfgWrite on, State.cvuCfg, cvuIdle_of_idle idle]
  case busy =>
    intro j ended
    refine ⟨?_, fun nothing => ?_, fun a bs some_ serves read => ?_, fun a bs serves read still => ?_⟩
    · rw [exec_cvuInit on, State.cvuInit, cvuIdle_of_busy busy]
    · rw [exec_cvuAbort on, cvuAbort_of_busy busy, if_pos nothing]
      rfl
    · rw [exec_cvuAbort on, cvuAbort_of_busy busy, if_neg some_, cvuTake_of_read serves read]
      rfl
    · exact exec_cvuTransferDone_of_read busy serves read still

end Sys2Proof.Laws
end

/-! PROOFS. The time base: sets, the edges of the PPS, the windows of REFCLK, holdover and the PPS output (14 R390-R398). -/

section
namespace Sys2Proof.Laws

open Sys2Proof Sys2Proof.Machine

/-! ### Sets of the time scale (R397) -/

section
variable {s : State} {v : Via} {act : State → State}

/-- A TIME_SET request is accepted: one through a register, or a message that names an accepted request for this chip. -/
def timeSetAccepted (s : State) : Via → Prop
  | .reg _ => True
  | .msg o seq => (s.requestOf o seq [0x0303]).isSome = true

/-- A request is of a MODE: a register's is, a message's by its payload. -/
def timeSetMode (s : State) (v : Via) (n : Nat) : Prop :=
  match v with
  | .reg _ => True
  | .msg _ _ => field (s.payload v) 0 1 = n

/-- The state with the value that a message brings in TTU_SET. -/
def withSetValue (s : State) (v : Via) : State :=
  match v with
  | .reg _ => s
  | .msg _ _ => s.setReg64 R.TTU_SET_LO R.TTU_SET_HI (field (s.payload v) 8 8)

theorem timeSet_of_mode {n : Nat} (accepted : timeSetAccepted s v) (mode : timeSetMode s v n) :
    s.timeSet v n act = act (if n = 2 then s else withSetValue s v) := by
  cases v with
  | reg src => exact congrArg act (ite_self s).symm
  | msg o seq => exact (withRequest_of_isSome accepted).trans (if_neg (not_not_intro mode))

theorem setAtPps_of_whole (whole : s.reg64 R.TTU_SET_LO R.TTU_SET_HI % 1000000000 = 0) :
    s.setAtPps v = (s.setFlag F.TTU_STATUS.SET_PENDING true).finish v .ttu 0 0 := if_neg (not_not_intro whole)

theorem setAtPps_of_not_whole (part : s.reg64 R.TTU_SET_LO R.TTU_SET_HI % 1000000000 ≠ 0) :
    s.setAtPps v = s.finish v .ttu TtuCode.badConfig 5 := if_pos part

end

/-! ### The PPS (R391, R392) -/

section
variable {s : State} {stamp t freq : Nat} {steer : Int} {falling : Bool}

/-- The state that an accepted edge is counted in. -/
def withEdge (s : State) (stamp : Nat) : State :=
  { s with ttu := { s.ttu with ppsLast := some stamp, ppsRun := min 4 (s.ttu.ppsRun + 1) } }

/-- The state with an edge's phase error judged good, bad or neither (R392). -/
def withJudged (s : State) (e : Int) : State :=
  { s with ttu := { s.ttu with
      ppsGood := if e.natAbs ≤ 20 * 512 then min 4 (s.ttu.ppsGood + 1) else 0
      ppsBad := if 100 * 512 < e.natAbs then min 3 (s.ttu.ppsBad + 1) else 0 } }

/-- An edge that qualifies nothing and serves no set leaves its phase error, judged. -/
theorem ppsAccept_of_unqualified (free : s.flag F.TTU_STATUS.SET_PENDING = false) (unqualified : s.ppsOk = false)
    (few : s.ttu.ppsRun + 1 < 4) :
    let e := (withEdge s stamp).phaseError stamp
    s.ppsAccept stamp steer = withJudged ((withEdge s stamp).setReg R.TTU_PHASE_ERR (w32 (unsigned 32 (satInt 32 e)))) e := by
  intro e
  have still : ((withEdge s stamp).setReg R.TTU_PHASE_ERR (w32 (unsigned 32 (satInt 32 e)))).ppsOk = false :=
    (flag_setReg_of_ne _ _ (by decide)).trans unqualified
  unfold State.ppsAccept
  extract_lets run _ s1 set s2 e' s3 s4 _ _ _ s5
  have unset : set = false := free
  have s2_eq : s2 = withEdge s stamp := if_neg (ne_true_of_eq_false unset)
  have e_eq : e' = e := (if_neg (ne_true_of_eq_false unset)).trans (congrArg (State.phaseError · stamp) s2_eq)
  have s3_eq : s3 = (withEdge s stamp).setReg R.TTU_PHASE_ERR (w32 (unsigned 32 (satInt 32 e))) := by simp only [s3, s2_eq, e_eq]
  have s4_eq : s4 = s3 := if_neg (fun qualifies => absurd qualifies.1 (by omega))
  have s5_eq : s5 = withJudged s3 e' := congrArg (withJudged · e') s4_eq
  have s5_unqualified : (!s5.ppsOk) = true := by
    rw [s5_eq, s3_eq]
    exact congrArg (!·) still
  rw [if_pos s5_unqualified, s5_eq, s3_eq, e_eq]

/-- An edge stamped inside the window of a second after the last accepted one, or with none accepted before it. -/
def InPpsWindow (s : State) (stamp : Nat) : Prop :=
  ∀ a, s.ttu.ppsLast = some a → a + ppsSecond - ppsWindow ≤ stamp ∧ stamp ≤ a + ppsSecond + ppsWindow

/-- An edge of the direction that PPS_EDGE selects is looked at. -/
theorem pps_looked_at (enabled : s.flag F.TTU_REF_CFG.PPS_EN = true) (direction : falling = s.flag F.TTU_REF_CFG.PPS_EDGE) :
    ¬(!s.flag F.TTU_REF_CFG.PPS_EN || falling != s.flag F.TTU_REF_CFG.PPS_EDGE) = true := by
  simp [enabled, direction]

theorem exec_ppsInEdge_of_window (enabled : (s.at_ (5 * stamp / 2048)).flag F.TTU_REF_CFG.PPS_EN = true)
    (direction : falling = (s.at_ (5 * stamp / 2048)).flag F.TTU_REF_CFG.PPS_EDGE) (inside : InPpsWindow (s.at_ (5 * stamp / 2048)) stamp) :
    exec (.ppsInEdge stamp falling steer) s = .next ((s.at_ (5 * stamp / 2048)).ppsAccept stamp steer) := by
  refine congrArg Host.Outcome.next ((if_neg (pps_looked_at enabled direction)).trans ?_)
  cases last : (s.at_ (5 * stamp / 2048)).ttu.ppsLast with
  | none => rfl
  | some a => exact if_pos (inside a last)

theorem exec_ppsInEdge_of_outside {a : Nat} (enabled : (s.at_ (5 * stamp / 2048)).flag F.TTU_REF_CFG.PPS_EN = true)
    (direction : falling = (s.at_ (5 * stamp / 2048)).flag F.TTU_REF_CFG.PPS_EDGE)
    (last : (s.at_ (5 * stamp / 2048)).ttu.ppsLast = some a) (outside : stamp < a + ppsSecond - ppsWindow ∨ a + ppsSecond + ppsWindow < stamp) :
    let p := s.at_ (5 * stamp / 2048)
    exec (.ppsInEdge stamp falling steer) s
      = .next (({ p with ttu := { p.ttu with ppsRun := 0 } } : State).count F.TTU_PPS_REJECT.COUNT 1) := by
  refine congrArg Host.Outcome.next ((if_neg (pps_looked_at enabled direction)).trans ?_)
  simp only [last]
  exact if_neg (fun inside => by omega)

theorem exec_ppsMissing_of_late {a : Nat} (last : (s.at_ t).ttu.ppsLast = some a) (late : 5 * (a + 3 * ppsSecond + ppsWindow) ≤ 2048 * t) :
    exec (.ppsMissing t) s = .next (s.at_ t).ppsLose := by
  refine congrArg Host.Outcome.next ?_
  simp only [last]
  exact if_pos late

/-! ### REFCLK (R391, R392) -/

theorem exec_refclkWindow_of_outside (enabled : (s.at_ t).flag F.TTU_REF_CFG.REF_EN = true)
    (outside : 100000000 < ((s.at_ t).refError freq).natAbs) : exec (.refclkWindow freq steer t) s = .next (s.at_ t).refLose := by
  have looked : ¬(!(s.at_ t).flag F.TTU_REF_CFG.REF_EN) = true := by simp [enabled]
  exact congrArg Host.Outcome.next ((if_neg looked).trans (if_pos outside))

/-- A window within limits that leaves REFCLK unqualified. -/
theorem exec_refclkWindow_of_unqualified (enabled : (s.at_ t).flag F.TTU_REF_CFG.REF_EN = true)
    (inside : ((s.at_ t).refError freq).natAbs ≤ 100000000) (unqualified : (s.at_ t).refOk = false) (few : (s.at_ t).ttu.refRun + 1 < 16) :
    let u := s.at_ t
    exec (.refclkWindow freq steer t) s = .next { u with ttu := { u.ttu with refRun := u.ttu.refRun + 1 } } := by
  intro u
  have looked : ¬(!u.flag F.TTU_REF_CFG.REF_EN) = true := by simp [u, enabled]
  have run : min 16 (u.ttu.refRun + 1) = u.ttu.refRun + 1 := Nat.min_eq_right (Nat.le_of_lt few)
  refine congrArg Host.Outcome.next ((if_neg looked).trans ((if_neg (Nat.not_lt.mpr inside)).trans ?_))
  extract_lets _ s1 s2 s3 now _ s4
  have s1_eq : s1 = { u with ttu := { u.ttu with refRun := u.ttu.refRun + 1 } } :=
    congrArg (fun n => ({ u with ttu := { u.ttu with refRun := n } } : State)) run
  have s2_eq : s2 = s1 := if_neg (fun qualifies => absurd qualifies.1 (by rw [s1_eq]; exact Nat.not_le.mpr few))
  have still : (!s2.refOk) = true := by
    rw [s2_eq]
    exact congrArg (!·) unqualified
  rw [if_pos still, s2_eq, s1_eq]

/-- A window of a qualified REFCLK within its second. -/
theorem exec_refclkWindow_of_qualified (enabled : (s.at_ t).flag F.TTU_REF_CFG.REF_EN = true)
    (inside : ((s.at_ t).refError freq).natAbs ≤ 100000000) (qualified : (s.at_ t).refOk = true) (few : (s.at_ t).ttu.winCount + 1 < 1000) :
    let u := s.at_ t
    let a := ({ u with ttu := { u.ttu with refRun := min 16 (u.ttu.refRun + 1) } } : State).steerTo (steer + u.ttu.slew)
    exec (.refclkWindow freq steer t) s = .next { a with ttu := { a.ttu with
      winSum := a.ttu.winSum + u.refError freq, winCount := a.ttu.winCount + 1
      steerSum := a.ttu.steerSum + signed 32 (a.reg R.TTU_FREQ_OFFSET).toNat } } := by
  intro u a
  have looked : ¬(!u.flag F.TTU_REF_CFG.REF_EN) = true := by simp [u, enabled]
  refine congrArg Host.Outcome.next ((if_neg looked).trans ((if_neg (Nat.not_lt.mpr inside)).trans ?_))
  extract_lets _ s1 s2 s3 now _ s4
  have s1_qualified : s1.refOk = true := qualified
  have s2_eq : s2 = s1 := if_neg (fun qualifies => absurd qualifies.2 (by simp [s1_qualified]))
  have s2_qualified : ¬(!s2.refOk) = true := by simp [s2_eq, s1_qualified]
  have s3_eq : s3 = a := by
    simp only [s3, s2_eq]
    rfl
  rw [if_neg s2_qualified]
  clear_value s3
  subst s3_eq
  exact if_neg (Nat.not_le.mpr few)

/-! ### Holdover, the PPS output and the oscillator's offset (R395, R396, R398) -/

theorem exec_holdLimit_of_lasted {a : Nat} (held : (s.at_ t).ttu.holdSince = some a)
    (lasted : a + 60 * 1250000000 * (s.at_ t).fld F.TTU_HOLD_CFG.LIMIT ≤ t) :
    exec (.holdLimit t) s = .next ((((s.at_ t).lockBit 5 true).post .ttu TtuCode.holdLimit 0).raise .ttu F.TTU_IRQ_STATUS.HOLD_LIMIT) := by
  refine congrArg Host.Outcome.next ?_
  simp only [held]
  exact if_pos lasted

theorem exec_ppsOutPulse_of_second (enabled : (s.at_ t).flag F.TTU_PPS_CFG.OUT_EN = true)
    (second : (s.at_ t).scaleAt (2048 * t) % 2560000000000 < 2048) :
    let u := s.at_ t
    exec (.ppsOutPulse t) s = .next { u with ttu := { u.ttu with ppsOut := some (t + 12500 * u.fld F.TTU_PPS_CFG.WIDTH) } } :=
  congrArg Host.Outcome.next (if_pos (Bool.and_eq_true_iff.mpr ⟨enabled, decide_eq_true second⟩))

theorem exec_oscOffsetReport_of_hour (hour : 3600 ≤ s.ttu.oscSecs) :
    exec .oscOffsetReport s = .next { s with
      ttu := { s.ttu with oscSecs := 0 }, alm := { s.alm with osc := some (signed 32 (s.reg R.TTU_OSC_OFFSET).toNat) } } :=
  congrArg Host.Outcome.next (if_neg (Nat.not_lt.mpr hour))

end

/-- Settles O49: a set by its mode and value, an edge by the window, a window of REFCLK by its error, the others by their instant. -/
theorem timeBaseComplete : Obligations.TimeBaseComplete := by
  intro s v src stamp t freq steer falling u p acc mode set
  refine ⟨fun accepted => ⟨fun m => ?now, fun m whole => ?armed, fun m part => ?refused, fun m => ?cancelled⟩, rfl,
    fun enabled direction => ⟨fun inside => ?accepted, fun a last outside => exec_ppsInEdge_of_outside enabled direction last outside⟩,
    fun a last late => exec_ppsMissing_of_late last late,
    fun enabled => ⟨exec_refclkWindow_of_outside enabled, exec_refclkWindow_of_unqualified enabled, exec_refclkWindow_of_qualified enabled⟩,
    rfl, fun a held lasted => exec_holdLimit_of_lasted held lasted, exec_ppsOutPulse_of_second, exec_oscOffsetReport_of_hour⟩
  case now => exact congrArg Host.Outcome.next (timeSet_of_mode accepted m)
  case armed => exact congrArg Host.Outcome.next ((timeSet_of_mode accepted m).trans (setAtPps_of_whole whole))
  case refused => exact congrArg Host.Outcome.next ((timeSet_of_mode accepted m).trans (setAtPps_of_not_whole part))
  case cancelled => exact congrArg Host.Outcome.next (timeSet_of_mode accepted m)
  case accepted =>
    intro a
    have runs := exec_ppsInEdge_of_window (steer := steer) enabled direction inside
    exact ⟨runs, fun free unqualified few => runs.trans (congrArg _ (ppsAccept_of_unqualified free unqualified few))⟩

end Sys2Proof.Laws
end

/-! PROOFS. Event channels and interval units: edges, stuck inputs, HF windows, and their registers (14 R400-R411). -/

section
namespace Sys2Proof.Laws

open Sys2Proof Sys2Proof.Machine

/-! ### Edges of an EV input (R400, R401, R403) -/

section
variable {s : State} {c : Fin 4} {falling gate ungated : Bool} {stamp t : Nat}

/-- The state in which an edge of an EV input is looked at: its level and stamp noted, and a disarm that is due in effect. -/
def atEdge (s : State) (c : Fin 4) (falling : Bool) (stamp : Nat) : State :=
  ((s.at_ (5 * stamp / 2048)).evLevel c.val falling stamp).slotSettle c.val stamp

theorem exec_evEdge_of_off (off : (atEdge s c falling stamp).domOn 1 = false) :
    exec (.evEdge c falling stamp gate ungated) s = .next ((atEdge s c falling stamp).chanGap c.val) := by
  refine congrArg Host.Outcome.next (if_pos ?_)
  exact congrArg (!·) off

/-- The edge with which a STUCK channel returns re-arms it. -/
theorem exec_evEdge_of_stuck (on : (atEdge s c falling stamp).domOn 1 = true) (stuck : ((atEdge s c falling stamp).chan c.val).stuck = true)
    (returns : (atEdge s c falling stamp).evActive c.val (!falling) = false) :
    exec (.evEdge c falling stamp gate ungated) s = .next
      (((((atEdge s c falling stamp).chanGap c.val).modChan c.val (fun x => { x with stuck := false })).setFlag
        (F.TTU_CHc_STATUS.STUCK c.val) false).showArmed c.val stamp gate) := by
  have on' : ¬(!(atEdge s c falling stamp).domOn 1) = true := by simp [on]
  exact congrArg Host.Outcome.next ((if_neg on').trans ((if_pos stuck).trans (if_neg (ne_true_of_eq_false returns))))

/-- What an edge leaves of a channel that is armed or not, in the state that shows which. -/
def atArmedEdge (a : State) (c : Nat) (falling : Bool) (stamp : Nat) : State :=
  match (a.chan c).last with
  | some p => if stamp < p + 512 * a.fld (F.TTU_CHc_TIMING.HOLDOFF c) then a.count (F.TTU_CHc_HOLDOFF_COUNT.COUNT c) 1 else a.chanStamp c stamp falling
  | none => a.chanStamp c stamp falling

theorem exec_evEdge_of_sound (on : (atEdge s c falling stamp).domOn 1 = true) (sound : ((atEdge s c falling stamp).chan c.val).stuck = false)
    (gated : ¬(((atEdge s c falling stamp).showArmed c.val stamp gate).fld (F.TTU_CHc_CFG.ARM_MODE c.val) = 2 ∧ ungated = true)) :
    let a := (atEdge s c falling stamp).showArmed c.val stamp gate
    exec (.evEdge c falling stamp gate ungated) s = .next (if !a.armedAt c.val stamp gate then a.chanGap c.val
      else if !a.edgeTaken c.val falling then a else atArmedEdge a c.val falling stamp) := by
  intro a
  have on' : ¬(!(atEdge s c falling stamp).domOn 1) = true := by simp [on]
  refine congrArg Host.Outcome.next ((if_neg on').trans ((if_neg (ne_true_of_eq_false sound)).trans ?_))
  extract_lets s1 s2 hold
  have s2_eq : s2 = a := if_neg gated
  clear_value s2
  subst s2_eq
  rfl

theorem atArmedEdge_of_held {a : State} {p : Nat} (last : (a.chan c.val).last = some p)
    (held : stamp < p + 512 * a.fld (F.TTU_CHc_TIMING.HOLDOFF c.val)) :
    atArmedEdge a c.val falling stamp = a.count (F.TTU_CHc_HOLDOFF_COUNT.COUNT c.val) 1 := by
  simp only [atArmedEdge, last, if_pos held]

theorem atArmedEdge_of_past {a : State}
    (past : ∀ p, (a.chan c.val).last = some p → p + 512 * a.fld (F.TTU_CHc_TIMING.HOLDOFF c.val) ≤ stamp) :
    atArmedEdge a c.val falling stamp = a.chanStamp c.val stamp falling := by
  unfold atArmedEdge
  split
  case h_1 p last => exact if_neg (Nat.not_lt.mpr (past p last))
  case h_2 => rfl

/-- An input that has stayed at its active level for longer than STUCK_US. -/
theorem exec_stuck_of_stays (on : (s.at_ t).domOn 1 = true) (watched : (s.at_ t).fld (F.TTU_CHc_TIMING.STUCK_US c.val) ≠ 0)
    (sound : ((s.at_ t).chan c.val).stuck = false) (active : (s.at_ t).evActive c.val ((s.at_ t).flag (F.TTU_CHc_STATUS.LEVEL c.val)) = true)
    (long : 5 * (((s.at_ t).chan c.val).edgeAt + 512000 * (s.at_ t).fld (F.TTU_CHc_TIMING.STUCK_US c.val)) < 2048 * t) :
    let u := s.at_ t
    exec (.stuck c t) s = .next (((((((u.chanGap c.val).modChan c.val (fun x => { x with stuck := true })).iuDisarm c.val).setFlag
      (F.TTU_CHc_STATUS.STUCK c.val) true).setFlag (F.TTU_CHc_STATUS.ARMED c.val) false).count
      (F.TTU_CHc_EVENT_COUNT.STUCK c.val) 1).post .ttu TtuCode.stuck c.val |>.raise .ttu F.TTU_IRQ_STATUS.STUCK) := by
  have stays : (s.at_ t).evStuck c.val t = true := by
    simp only [State.evStuck, active, long, decide_true, Bool.and_true, bne_iff_ne]
    exact watched
  refine congrArg Host.Outcome.next (if_neg ?_)
  simp [on, sound, stays]

end

/-! ### HF windows (R402) -/

section
variable {s : State} {c : Fin 4} {edges : List (Nat × Bool)} {t : Nat}

/-- The state with the frequency of an HF window stored, and whether it is over the rating shown. -/
def withHfWindow (s : State) (h n : Nat) : State :=
  let b := s.setReg (R.TTU_CHc_HF_FREQ h) (w32 (1000 * n))
  b.setFlag (F.TTU_CHc_STATUS.OVERRANGE h) (decide (min 4000 (250 * 2 ^ b.fld (F.TTU_CHc_CFG.DIV h)) < n))

theorem exec_hfWindow_of_on (on : (s.at_ t).domOn 1 = true) :
    let u := s.at_ t
    let h := 4 + c.val
    let n := edges.length
    let z := withHfWindow u h n
    exec (.hfWindow c edges t) s = .next
      (if min 4000 (250 * 2 ^ (u.setReg (R.TTU_CHc_HF_FREQ h) (w32 (1000 * n))).fld (F.TTU_CHc_CFG.DIV h)) < n then
        ((((z.modChan h (fun x => { x with div := (x.div + n) % 2 ^ z.fld (F.TTU_CHc_CFG.DIV h) })).chanGap h).count
          (F.TTU_CHc_EVENT_COUNT.OVERRANGE h) 1).post .ttu TtuCode.overrange h).raise .ttu F.TTU_IRQ_STATUS.OVERRANGE
      else edges.foldl (State.hfEdge h) z) := by
  have on' : ¬(!(s.at_ t).domOn 1) = true := by simp [on]
  exact congrArg Host.Outcome.next ((if_neg on').trans (ite_congr (propext decide_eq_true_iff) (fun _ => rfl) (fun _ => rfl)))

end

/-! ### Registers of the channels and units (R403-R407, R411) -/

section
variable {s : State} {src : Src} {c8 : Fin 8} {q : Fin 12} {w3 : Fin 3} {uu : Fin 4} {w : Word} {stamp : Nat}

theorem iuCfgWrite_of_bad (bad : iuCfgBad w = true) :
    s.iuCfgWrite uu.val false w = s.post .ttu TtuCode.badConfig ((R.TTU_IUu_CFG uu.val - 0xE00000) / 4) :=
  if_pos bad

theorem iuCfgWrite_of_sound (sound : iuCfgBad w = false) :
    s.iuCfgWrite uu.val false w = (s.setReg (R.TTU_IUu_CFG uu.val) (w &&& 0x1FF)).modIu uu.val TtuUnit.clearBlock :=
  if_neg (ne_true_of_eq_false sound)

theorem iuExpire_of_some (windowed : 512 * s.fld (F.TTU_IUu_WINDOW.NS uu.val) ≠ 0) :
    let old (x : Nat) : Bool := decide (x + 512 * s.fld (F.TTU_IUu_WINDOW.NS uu.val) < stamp)
    let gone := ((s.iu uu.val).starts.filter old).length + ((s.iu uu.val).stops.filter old).length
    gone ≠ 0 → s.iuExpire uu.val stamp = ((s.modIu uu.val (fun x => { x with
      starts := x.starts.filter (fun y => !old y), stops := x.stops.filter (fun y => !old y), gap := true })).count
      (F.TTU_IUu_EXPIRED.COUNT uu.val) gone).post .ttu TtuCode.expired uu.val :=
  fun expired => if_neg (not_or.mpr ⟨windowed, expired⟩)

section
variable (on : s.domOn 1 = true)
include on

theorem exec_ttuArm_of_on : exec (.ttuArm src w) s = .next (s.ttuArmWrite w.toNat) :=
  congrArg Host.Outcome.next (onUnit_on s _ .ttu R.TTU_ARM (fun s => s.ttuArmWrite w.toNat) on)

theorem exec_iuCfgWrite_of_on (n : Bool) : exec (.iuCfgWrite src uu n w) s = .next (s.iuCfgWrite uu.val n w) :=
  congrArg Host.Outcome.next (onUnit_on s _ .ttu _ (fun s => s.iuCfgWrite uu.val n w) on)

theorem core_on : ¬(!s.domOn 1) = true := by simp [on]

theorem exec_stampQueueRead_of_on : exec (.stampQueueRead src q w3) s
    = .next ((s.queueWord q.val w3.val).1.give (.readData (queueOff q.val w3.val) (s.queueWord q.val w3.val).2.toNat)) :=
  congrArg Host.Outcome.next (if_neg (core_on on))

theorem exec_iuMeanRead_of_on : exec (.iuMeanRead src uu) s = .next ((s.setFlag (F.TTU_IUu_STATUS.FROZEN uu.val) true).give
    (.readData (R.TTU_IUu_MEAN_LO uu.val) (s.reg (R.TTU_IUu_MEAN_LO uu.val)).toNat)) :=
  congrArg Host.Outcome.next (if_neg (core_on on))

theorem exec_iuCountRead_of_on : exec (.iuCountRead src uu) s = .next ((s.iuCountRead uu.val).give
    (.readData (R.TTU_IUu_COUNT uu.val) (s.reg (R.TTU_IUu_COUNT uu.val)).toNat)) :=
  congrArg Host.Outcome.next (if_neg (core_on on))

theorem exec_iuWindowExpiry_of_on : exec (.iuWindowExpiry uu stamp) s = .next (s.iuExpire uu.val stamp) :=
  congrArg Host.Outcome.next (if_neg (core_on on))

theorem exec_tdcCalibration_of_due (uncalibrated : (s.chan c8.val).calibrated = false) (unfailed : (s.chan c8.val).calFailed = false)
    (ok : Bool) : exec (.tdcCalibration c8 ok) s = .next (if ok then
        (s.modChan c8.val (fun x => { x with calibrated := true })).showArmed c8.val (sampleStamp s.now) false
      else ((s.modChan c8.val (fun x => { x with calFailed := true })).post .ttu TtuCode.calFail c8.val).raise .ttu
        F.TTU_IRQ_STATUS.CAL_FAIL) := by
  refine congrArg Host.Outcome.next (if_neg ?_)
  simp [on, uncalibrated, unfailed]

end

end

/-- Settles O50: an edge by whether its channel is stuck, armed and out of the hold-off, a window by its count, the registers by CORE. -/
theorem stampChannelsComplete : Obligations.StampChannelsComplete := by
  intro s src c c8 q w3 uu falling gate ungated stamp t edges w on e a u
  refine ⟨fun up => ⟨exec_evEdge_of_stuck up, fun sound gated => ?edge⟩, exec_evEdge_of_off, exec_stuck_of_stays, fun up => ?window,
    exec_ttuArm_of_on on, exec_stampQueueRead_of_on on, exec_iuCfgWrite_of_on on true, fun sound => ?sound, fun bad => ?bad,
    exec_iuMeanRead_of_on on, exec_iuCountRead_of_on on, ?expiry, fun uncalibrated unfailed =>
      ⟨exec_tdcCalibration_of_due on uncalibrated unfailed true, exec_tdcCalibration_of_due on uncalibrated unfailed false⟩⟩
  case edge =>
    have seen := exec_evEdge_of_sound up sound gated
    refine ⟨fun unarmed => ?_, fun armed => ⟨fun other => ?_, fun p taken last held => ?_, fun past taken => ?_⟩⟩
    · exact seen.trans (congrArg _ (if_pos (congrArg (!·) unarmed)))
    all_goals have armed' : ¬(!a.armedAt c.val stamp gate) = true := by simp [armed]
    · exact seen.trans (congrArg _ ((if_neg armed').trans (if_pos (congrArg (!·) other))))
    all_goals have taken' : ¬(!a.edgeTaken c.val falling) = true := by simp [taken]
    · exact seen.trans (congrArg _ ((if_neg armed').trans ((if_neg taken').trans (atArmedEdge_of_held last held))))
    · exact seen.trans (congrArg _ ((if_neg armed').trans ((if_neg taken').trans (atArmedEdge_of_past past))))
  case window =>
    intro h n b limit z
    exact ⟨fun beyond => (exec_hfWindow_of_on up).trans (congrArg _ (if_pos beyond)),
      fun within => (exec_hfWindow_of_on up).trans (congrArg _ (if_neg (Nat.not_lt.mpr within)))⟩
  case sound => exact (exec_iuCfgWrite_of_on on false).trans (congrArg _ (iuCfgWrite_of_sound sound))
  case bad => exact (exec_iuCfgWrite_of_on on false).trans (congrArg _ (iuCfgWrite_of_bad bad))
  case expiry =>
    intro win old gone windowed expired
    exact (exec_iuWindowExpiry_of_on on).trans (congrArg _ (iuExpire_of_some windowed expired))

end Sys2Proof.Laws
end

/-! PROOFS. The Vernier front end: conversions, excitation, requests and states, calibration and mains (15 R416-R428). -/

section
namespace Sys2Proof.Laws

open Sys2Proof Sys2Proof.Machine

/-! ### Conversions and excitation (R416, R418) -/

section
variable {s : State} {src : Src} {c : Fin 8} {w : Word} {code : Int} {t : Nat} {r : VpfRes}

/-- The state in which a conversion is taken. -/
def atConversion (s : State) (t : Nat) : State := s.onVpf (fun v => { v with lastConv := t, scanned := v.scanned + (t - v.lastConv) })

theorem exec_vpfConversion_of_result (scanning : (s.at_ t).vpfState = Vpf.scanning) (on : (s.at_ t).unitOn .vpf = true)
    (result : (s.at_ t).vpf.res = some r) :
    exec (.vpfConversion code false t) s = .next ((atConversion (s.at_ t) t).vpfConvert r (satInt 24 code) false t) := by
  refine congrArg Host.Outcome.next ((if_neg ?_).trans ?_)
  · simp [scanning, on]
  · simp only [result]
    rfl

theorem vpfConvert_of_settling (settling : t ≤ r.switchAt + (3 + s.fld F.VPF_CFG.EXTRA) * (500 * r.conv)) :
    s.vpfConvert r code false t = (s.count F.VPF_DISCARD.COUNT 1).onVpf (fun v => { v with res := some r }) := if_pos settling

/-- A conversion that is taken in the middle of a phase. -/
theorem vpfConvert_of_taken (settled : r.switchAt + (3 + s.fld F.VPF_CFG.EXTRA) * (500 * r.conv) < t)
    (seen : s.vpfBlank (t - 3 * (500 * r.conv)) t = false) (inside : 100 * code.natAbs ≤ 95 * 2 ^ 23)
    (more : r.n + 1 < 2 ^ s.fld F.VPF_CFG.NAVG_EXP) :
    s.vpfConvert r code false t = s.onVpf (fun v => { v with res := some { r with
      low := r.low && decide (fNat code.natAbs * vpfScale r.range < 0.8 * vpfScale (r.range + 1) * 8388608.0)
      n := r.n + 1, sum := r.sum + code } }) := by
  have inRange : decide (100 * code.natAbs > 95 * 2 ^ 23) = false := decide_eq_false (Nat.not_lt.mpr inside)
  unfold State.vpfConvert
  refine (if_neg (Nat.not_le.mpr settled)).trans ((if_neg (ne_true_of_eq_false seen)).trans ?_)
  simp only [inRange, Bool.false_and, Bool.false_eq_true, if_false]
  exact if_pos more

theorem exec_vpfExcWrite_of_on (on : (s.at_ t).unitOn .vpf = true) :
    exec (.vpfExcWrite src c w t) s = .next ((s.at_ t).vpfExcWrite c w t) :=
  congrArg Host.Outcome.next (onUnit_on _ _ .vpf _ (fun s => s.vpfExcWrite c w t) on)

theorem vpfExcWrite_of_bad (some_ : w.toNat % 2048 ≠ 0) (bad : w.toNat % 2048 < 10 ∨ 1000 < w.toNat % 2048) :
    s.vpfExcWrite c w t = s.post .vpf VpfCode.badConfig c := if_pos ⟨some_, bad⟩

section
variable (sound : w.toNat % 2048 = 0 ∨ (10 ≤ w.toNat % 2048 ∧ w.toNat % 2048 ≤ 1000))
include sound

theorem excitation_accepted : ¬(w.toNat % 2048 ≠ 0 ∧ (w.toNat % 2048 < 10 ∨ w.toNat % 2048 > 1000)) := by omega

theorem vpfExcWrite_of_idle (idle : (s.setFld (F.VPF_CHc_EXC.MICROAMP c) (w.toNat % 2048)).vpf.res = none) :
    s.vpfExcWrite c w t = s.setFld (F.VPF_CHc_EXC.MICROAMP c) (w.toNat % 2048) := by
  refine (if_neg (excitation_accepted sound)).trans ?_
  simp only [idle]

theorem vpfExcWrite_of_result (result : (s.setFld (F.VPF_CHc_EXC.MICROAMP c) (w.toNat % 2048)).vpf.res = some r) :
    let f := s.setFld (F.VPF_CHc_EXC.MICROAMP c) (w.toNat % 2048)
    s.vpfExcWrite c w t = if r.chan = c.val ∧ f.vpfState = Vpf.scanning then f.onVpf (fun v => { v with
      res := some { r with switchAt := t, n := 0, sum := 0, exc := w.toNat % 2048, flags := r.flags ||| Vf.settling } }) else f := by
  refine (if_neg (excitation_accepted sound)).trans ?_
  simp only [result]

end

end

/-! ### Requests to the VPF (R427, Table 15-5) -/

section
variable {s : State} {src : Src} {offsets gains : List Int} {t : Nat}

theorem vpfScan_of_channel {k : Nat} (next : s.vpfNext 0 = some k) :
    s.vpfScan t = ((s.vpfEnter Vpf.scanning).onVpf (fun v => { v with lastConv := t, pausing := false })).vpfBegin k t := by
  simp only [State.vpfScan, next]

theorem vpfScan_of_none (none_ : s.vpfNext 0 = none) : s.vpfScan t = s.vpfEnter Vpf.idle := by
  simp only [State.vpfScan, none_]

theorem vpfRecheck_of_sound (sound : s.vpfChecks = none) : s.vpfRecheck t = s.vpfScan t := by
  simp only [State.vpfRecheck, sound]

theorem vpfRecheck_of_unsound {d : Nat} (unsound : s.vpfChecks = some d) : s.vpfRecheck t = s.vpfFault VpfCode.badConfig d := by
  simp only [State.vpfRecheck, unsound]

theorem vpfResume_of_paused (paused : s.vpfState = Vpf.paused) : s.vpfResume = s.vpfScan s.now := if_pos paused

theorem vpfCalReq_of_busy (busy : s.vpfState = Vpf.calibrating ∨ s.vpfState = Vpf.scanning) :
    s.vpfCalReq = s.post .vpf VpfCode.busy 0 := by
  have on : s.vpfState ≠ Vpf.off := by rcases busy with h | h <;> rw [h] <;> decide
  exact (if_neg on).trans (if_pos busy)

theorem vpfCalReq_of_free (on : s.vpfState ≠ Vpf.off) (uncalibrated : s.vpfState ≠ Vpf.calibrating) (stopped : s.vpfState ≠ Vpf.scanning) :
    s.vpfCalReq = s.vpfEnter Vpf.calibrating := (if_neg on).trans (if_neg (not_or.mpr ⟨uncalibrated, stopped⟩))

theorem vpfFaultClr_of_fault (fault : s.vpfState = Vpf.fault) : s.vpfFaultClr = (s.vpfEnter Vpf.calibrating).show .vpf 0 0 :=
  (if_neg (fault ▸ by decide)).trans (if_pos fault)

section
variable (on : s.unitOn .vpf = true)
include on

theorem exec_pause_of_on : exec (.pause src) s = .next s.vpfPause :=
  congrArg Host.Outcome.next (onUnit_on s _ .vpf R.VPF_CTRL State.vpfPause on)

theorem exec_vpfResume_of_on : exec (.vpfResume src) s = .next s.vpfResume :=
  congrArg Host.Outcome.next (onUnit_on s _ .vpf R.VPF_CTRL State.vpfResume on)

theorem exec_vpfCalReq_of_on : exec (.vpfCalReq src) s = .next s.vpfCalReq :=
  congrArg Host.Outcome.next (onUnit_on s _ .vpf R.VPF_CTRL State.vpfCalReq on)

theorem exec_vpfFaultClr_of_on : exec (.vpfFaultClr src) s = .next s.vpfFaultClr :=
  congrArg Host.Outcome.next (onUnit_on s _ .vpf R.VPF_CTRL State.vpfFaultClr on)

theorem exec_vpfCountClr_of_on : exec (.vpfCountClr src) s = .next (s.setReg R.VPF_DISCARD 0) :=
  congrArg Host.Outcome.next (onUnit_on s _ .vpf R.VPF_CTRL (fun s => s.setReg R.VPF_DISCARD 0) on)

end

/-! ### The end of a calibration, and the hourly comparison (Table 15-5, R424) -/

theorem vpfCalPass_iff : vpfCalPass offsets gains = true
    ↔ (∀ z ∈ offsets, z.natAbs ≤ 1000) ∧ ∀ z ∈ gains, (z - 1000000).natAbs ≤ 10000 := by
  simp only [vpfCalPass, Bool.and_eq_true, List.all_eq_true, decide_eq_true_eq]

theorem exec_vpfCalibrationDone_of_calibrating (on : (s.at_ t).unitOn .vpf = true) (calibrating : (s.at_ t).vpfState = Vpf.calibrating) :
    exec (.vpfCalibrationDone offsets gains t) s = .next (if vpfCalPass offsets gains
      then ((s.at_ t).raise .vpf F.VPF_IRQ_STATUS.CAL_DONE).vpfRecheck t else (s.at_ t).vpfFault VpfCode.calFail 0) := by
  refine congrArg Host.Outcome.next (if_neg ?_)
  simp [calibrating, on]

theorem exec_referenceComparison_of_due (on : (s.at_ t).unitOn .vpf = true) (scanning : (s.at_ t).vpfState = Vpf.scanning)
    (between : (s.at_ t).vpf.res = none) (external : (s.at_ t).fld F.VPF_CFG.REF_SRC = 0) (hour : 3600 * second ≤ (s.at_ t).vpf.scanned) :
    exec (.referenceComparison t) s
      = .next (((s.at_ t).onVpf (fun v => { v with scanned := 0 })).vpfBegin 8 (s.at_ t).now) := by
  refine congrArg Host.Outcome.next (if_pos ?_)
  simp only [on, scanning, between, external, hour, BEq.rfl, Option.isNone_none, decide_true, Bool.and_self]

/-! ### Mains (R417) -/

theorem setMains_of_ne {b : Bool} (other : s.flag F.VPF_STATUS.MAINS_LOCK ≠ b) :
    s.setMains b = (s.setFlag F.VPF_STATUS.MAINS_LOCK b).raise .vpf F.VPF_IRQ_STATUS.MAINS_CHANGE := if_neg other

theorem setMains_of_eq {b : Bool} (same : s.flag F.VPF_STATUS.MAINS_LOCK = b) : s.setMains b = s := if_pos same

theorem mainsAge_of_lost {a : Nat} (last : s.vpf.mainsLast = some a) (lost : a + 100 * msec ≤ t) :
    s.mainsAge t = (s.onVpf (fun v => { v with mainsLast := none, mains := [] })).setMains false := by
  simp only [State.mainsAge, last]
  exact if_pos lost

theorem mainsAge_of_recent (recent : ∀ a, s.vpf.mainsLast = some a → t < a + 100 * msec) : s.mainsAge t = s := by
  unfold State.mainsAge
  split
  case h_1 a last => exact if_neg (Nat.not_le.mpr (recent a last))
  case h_2 => rfl

/-- The state in which a mains edge is measured. -/
def atMainsEdge (s : State) (t : Nat) : State := (s.at_ t).mainsAge t

section
variable (on : (atMainsEdge s t).unitOn .vpf = true) (tracking : 2 ≤ (atMainsEdge s t).fld F.VPF_CFG.MAINS_MODE)
include on tracking

theorem mains_looked_at : ¬((!(atMainsEdge s t).unitOn .vpf) = true ∨ (atMainsEdge s t).fld F.VPF_CFG.MAINS_MODE < 2) :=
  not_or.mpr ⟨by simp [on], Nat.not_lt.mpr tracking⟩

theorem exec_mainsSyncEdge_of_first (first : (atMainsEdge s t).vpf.mainsLast = none) :
    exec (.mainsSyncEdge t) s = .next ((atMainsEdge s t).onVpf (fun v => { v with mainsLast := some t })) := by
  refine congrArg Host.Outcome.next ((if_neg (mains_looked_at on tracking)).trans ?_)
  simp only [show ((s.at_ t).mainsAge t).vpf.mainsLast = none from first]
  rfl

/-- The state with a period measured. -/
def withPeriod (m : State) (a t : Nat) : State := m.onVpf (fun v => { v with mainsLast := some t, mains := ((t - a) :: v.mains).take 16 })

theorem exec_mainsSyncEdge_of_last {a : Nat} (last : (atMainsEdge s t).vpf.mainsLast = some a) :
    let b := withPeriod (atMainsEdge s t) a t
    exec (.mainsSyncEdge t) s = .next (if b.vpf.mains.length < 16 ∨ (!(b.flag F.VPF_STATUS.MAINS_LOCK || b.vpf.mains.all mainsOk)) = true
      then b else (b.setFld F.VPF_MAINS.PERIOD (roundDiv (b.vpf.mains.sum : Nat) 8000).toNat).setMains true) := by
  refine congrArg Host.Outcome.next ((if_neg (mains_looked_at on tracking)).trans ?_)
  simp only [show ((s.at_ t).mainsAge t).vpf.mainsLast = some a from last]
  rfl

end

theorem all_mainsOk_iff (l : List Nat) : l.all mainsOk = true ↔ ∀ y ∈ l, 17875000 ≤ y ∧ y ≤ 31250000 := by
  simp only [mainsOk, List.all_eq_true, Bool.and_eq_true, decide_eq_true_eq]

/-- Sixteen periods inside the limits, or a lock that stands, are followed. -/
theorem mains_followed {b : State} (full : b.vpf.mains.length = 16)
    (sound : b.flag F.VPF_STATUS.MAINS_LOCK = true ∨ ∀ y ∈ b.vpf.mains, 17875000 ≤ y ∧ y ≤ 31250000) :
    ¬(b.vpf.mains.length < 16 ∨ (!(b.flag F.VPF_STATUS.MAINS_LOCK || b.vpf.mains.all mainsOk)) = true) := by
  rw [← all_mainsOk_iff] at sound
  rcases sound with locked | inside
  · simp [full, locked]
  · simp only [inside, full, Bool.or_true, Bool.not_true]
    decide

theorem mains_not_followed {b : State} (unlocked : b.flag F.VPF_STATUS.MAINS_LOCK = false)
    (outside : ∃ y ∈ b.vpf.mains, y < 17875000 ∨ 31250000 < y) : (!(b.flag F.VPF_STATUS.MAINS_LOCK || b.vpf.mains.all mainsOk)) = true := by
  obtain ⟨y, listed, bad⟩ := outside
  have notAll : b.vpf.mains.all mainsOk = false :=
    Bool.eq_false_iff.mpr (fun all => absurd ((all_mainsOk_iff _).mp all y listed) (by omega))
  rw [unlocked, notAll]
  rfl

end

/-- Settles O51: a conversion by its settling, blanking and range, a request by the state, a calibration by its limits, a mains edge
by the periods before it. -/
theorem vernierComplete : Obligations.VernierComplete := by
  intro s src c w code offsets gains t u x f on on'
  refine ⟨fun r scanning result => ?conversion, fun some_ bad => ?refused, fun sound => ⟨fun idle => ?kept, fun r result => ?excited⟩,
    fun scanning => ?pauses, fun k paused next => ?resumes, fun busy => ?busy, fun up uncalibrated stopped => ?calibrates, fun fault => ?clears,
    exec_vpfCountClr_of_on on, fun calibrating => ?done, ?edge, fun a last lost => ?lost, fun recent => ?recent,
    exec_referenceComparison_of_due on'⟩
  case conversion =>
    intro a q
    have taken := exec_vpfConversion_of_result (code := code) scanning on' result
    exact ⟨fun settling => taken.trans (congrArg _ (vpfConvert_of_settling settling)),
      fun settled seen inside more => taken.trans (congrArg _ (vpfConvert_of_taken settled seen inside more))⟩
  case refused => exact (exec_vpfExcWrite_of_on on').trans (congrArg _ (vpfExcWrite_of_bad some_ bad))
  case kept => exact (exec_vpfExcWrite_of_on on').trans (congrArg _ (vpfExcWrite_of_idle sound idle))
  case excited =>
    have written := (exec_vpfExcWrite_of_on (src := src) on').trans (congrArg _ (vpfExcWrite_of_result sound result))
    exact ⟨fun other => written.trans (congrArg _ (if_neg other)), fun own scanning => written.trans (congrArg _ (if_pos ⟨own, scanning⟩))⟩
  case pauses => exact (exec_pause_of_on on).trans (congrArg _ (if_pos scanning))
  case resumes => exact (exec_vpfResume_of_on on).trans (congrArg _ ((vpfResume_of_paused paused).trans (vpfScan_of_channel next)))
  case busy => exact (exec_vpfCalReq_of_on on).trans (congrArg _ (vpfCalReq_of_busy busy))
  case calibrates => exact (exec_vpfCalReq_of_on on).trans (congrArg _ (vpfCalReq_of_free up uncalibrated stopped))
  case clears => exact (exec_vpfFaultClr_of_on on).trans (congrArg _ (vpfFaultClr_of_fault fault))
  case done =>
    intro a pass
    have ends := exec_vpfCalibrationDone_of_calibrating (offsets := offsets) (gains := gains) on' calibrating
    have passes (ok : pass) : exec (.vpfCalibrationDone offsets gains t) s = .next (a.vpfRecheck t) :=
      ends.trans (congrArg _ (if_pos (vpfCalPass_iff.mpr ok)))
    exact ⟨fun ok sound => ⟨fun k next => (passes ok).trans (congrArg _ ((vpfRecheck_of_sound sound).trans (vpfScan_of_channel next))),
        fun none_ => (passes ok).trans (congrArg _ ((vpfRecheck_of_sound sound).trans (vpfScan_of_none none_)))⟩,
      fun d ok unsound => (passes ok).trans (congrArg _ (vpfRecheck_of_unsound unsound)),
      fun fails => ends.trans (congrArg _ (if_neg (mt vpfCalPass_iff.mp fails)))⟩
  case edge =>
    intro m up tracking
    refine ⟨exec_mainsSyncEdge_of_first up tracking, fun a last => ?_⟩
    intro b z
    have measured := exec_mainsSyncEdge_of_last up tracking last
    refine ⟨fun few => measured.trans (congrArg _ (if_pos (Or.inl few))), fun full inside unlocked => ?_,
      fun full unlocked outside => measured.trans (congrArg _ (if_pos (Or.inr (mains_not_followed unlocked outside)))),
      fun full locked still => ?_⟩
    · exact measured.trans (congrArg _ ((if_neg (mains_followed full (Or.inr inside))).trans (setMains_of_ne (ne_true_of_eq_false unlocked))))
    · exact measured.trans (congrArg _ ((if_neg (mains_followed full (Or.inl locked))).trans (setMains_of_eq still)))
  case lost =>
    intro b
    have aged : exec (.mainsTimeout t) s = .next (b.setMains false) := congrArg Host.Outcome.next (mainsAge_of_lost last lost)
    exact ⟨fun locked => aged.trans (congrArg _ (setMains_of_ne (ne_false_of_eq_true locked))),
      fun unlocked => aged.trans (congrArg _ (setMains_of_eq unlocked))⟩
  case recent => exact congrArg Host.Outcome.next (mainsAge_of_recent recent)

end Sys2Proof.Laws
end

/-! PROOFS. DriverLink: host transactions, safety, polls and post-diagnostic reads, and the end of a transaction (16 R433-R443). -/

section
namespace Sys2Proof.Laws

open Sys2Proof Sys2Proof.Machine

/-! ### Host transactions (R437) -/

section
variable {s : State} {v : Via}

/-- A transaction is the host's. -/
def DlkTx.isHost (x : DlkTx) : Bool := match x.kind with | .host _ => true | _ => false

/-- What a host transaction asks for, from the registers or from its message: address, command, length and data. -/
def hostRequest (s : State) : Via → Nat × Nat × Nat × Bytes
  | .reg _ => (s.fld F.DLK_HOST_REQ.ADDR, s.fld F.DLK_HOST_REQ.CMD, s.fld F.DLK_HOST_REQ.LEN,
      (List.range 8).flatMap (fun i => leBytes 4 (s.reg (R.DLK_HOST_DATAi i)).toNat))
  | .msg o seq =>
      (field (s.payload (.msg o seq)) 0 1, field (s.payload (.msg o seq)) 1 1, field (s.payload (.msg o seq)) 2 1, (s.payload (.msg o seq)).drop 4)

/-- Host transactions that are queued or running. -/
def hostsHeld (s : State) : Nat :=
  (s.dlk.due.filter DlkTx.isHost).length + (match s.dlk.busy with | some (x, _) => if DlkTx.isHost x then 1 else 0 | none => 0)

theorem dlkHost_eq : s.dlkHost v =
    let r := hostRequest s v
    if 32 < r.2.2.1 ∨ s.dlkState = Dlk.fault then s.finish v .dlk DlkCode.badConfig r.1
    else if 4 ≤ hostsHeld s then s.finish v .dlk DlkCode.busy r.1
    else ((s.setFld F.DLK_HOST_RESULT.BUSY 1).dlkPush ⟨5, r.1, r.2.1, fitBytes r.2.2.1 r.2.2.2, .host v⟩).dlkRun := by
  cases v <;> rfl

theorem exec_dlkTransact_of_takesUp (up : s.takesUp v [0x0903] .dlk = true) : exec (.dlkTransact v) s = .next (s.dlkHost v) :=
  congrArg Host.Outcome.next (onUnit_of_takesUp R.DLK_CTRL up)

end

/-! ### Requests of DLK_CTRL (R442) -/

section
variable {s : State} {src : Src}

theorem dlkSafe_of_fault (fault : s.dlkState = Dlk.fault) : s.dlkSafe = (s.dlkPush ⟨1, 0, DlkCmd.safe, [], .own⟩).dlkRun := by
  have idle : ¬(s.dlkState = Dlk.init ∨ s.dlkState = Dlk.running) := by rw [fault]; decide
  exact (if_neg idle).trans (if_pos fault)

section
variable (on : s.unitOn .dlk = true)
include on

theorem exec_safe_of_on : exec (.safe src) s = .next s.dlkSafe :=
  congrArg Host.Outcome.next (onUnit_on s _ .dlk R.DLK_CTRL State.dlkSafe on)

theorem exec_dlkResume_of_safe (safe : s.dlkState = Dlk.safe) : exec (.dlkResume src) s = .next s.dlkInit :=
  congrArg Host.Outcome.next ((onUnit_on s _ .dlk R.DLK_CTRL _ on).trans (if_pos safe))

theorem exec_dlkFaultClr_of_sound (fault : s.dlkState = Dlk.fault) (sound : s.dlkCheck = none) :
    exec (.dlkFaultClr src) s = .next ((s.show .dlk 0 0).dlkInit) := by
  refine congrArg Host.Outcome.next ((onUnit_on s _ .dlk R.DLK_CTRL _ on).trans ((if_pos fault).trans ?_))
  simp only [sound]

theorem exec_dlkFaultClr_of_unsound {d : Nat} (fault : s.dlkState = Dlk.fault) (unsound : s.dlkCheck = some d) :
    exec (.dlkFaultClr src) s = .next (s.post .dlk DlkCode.badConfig d) := by
  refine congrArg Host.Outcome.next ((onUnit_on s _ .dlk R.DLK_CTRL _ on).trans ((if_pos fault).trans ?_))
  simp only [unsound]

theorem exec_dlkCountClr_of_on : exec (.dlkCountClr src) s
    = .next ((List.range 32).foldl (fun b a => if a = 0 then b else b.setReg (R.DLK_DEVd_COUNT a) 0) (s.setReg R.DLK_ERR_COUNT 0)) :=
  congrArg Host.Outcome.next (onUnit_on s _ .dlk R.DLK_CTRL _ on)

end

end

/-! ### Polls and post-diagnostic reads (R436, R440) -/

section
variable {s : State} {d : Fin 32} {t : Nat}

section
variable {y : DlkDevSt} (known : (s.at_ t).dlkDev d = some y)
include known

/-- A poll that is due, with nothing on the bus and nothing queued for its device. -/
theorem exec_statusPoll_of_due (serves : (s.at_ t).dlkState = Dlk.init ∨ (s.at_ t).dlkState = Dlk.running)
    (alone : ∀ x ∈ (s.at_ t).dlk.due, x.addr ≠ d.val) (free : (s.at_ t).dlk.busy = none)
    (due : y.polled + (s.at_ t).fld F.DLK_CFG.POLL_US * usec ≤ (s.at_ t).now) :
    let u := s.at_ t
    exec (.statusPoll d t) s
      = .next (((u.dlkMod d (fun x => { x with polled := u.now })).dlkPush ⟨4, d, DlkCmd.status, [], .poll⟩).dlkRun) := by
  have quiet (p : DlkTx → Bool) : (s.at_ t).dlk.due.any (fun x => x.addr == d.val && p x) = false := by
    refine List.any_eq_false.mpr fun x queued => ?_
    simp [alone x queued]
  refine congrArg Host.Outcome.next ((if_pos ⟨serves, ?entering, ?due⟩).trans ?queued)
  case entering => simp only [free, quiet, Bool.or_false, Bool.not_false]
  case due =>
    rw [known]
    exact decide_eq_true due
  case queued => simp only [free, quiet, Bool.or_false, Bool.false_eq_true, if_false]

theorem exec_statusPoll_of_early (early : (s.at_ t).now < y.polled + (s.at_ t).fld F.DLK_CFG.POLL_US * usec) :
    exec (.statusPoll d t) s = .next (s.at_ t) := by
  refine congrArg Host.Outcome.next (if_neg fun ⟨_, _, due⟩ => ?_)
  rw [known] at due
  exact absurd (of_decide_eq_true due) (Nat.not_le.mpr early)

end

theorem exec_postDiagRead_of_due {f : FrameRec} (serves : (s.at_ t).dlkState = Dlk.init ∨ (s.at_ t).dlkState = Dlk.running)
    (frame : (s.at_ t).cur = some f) (diag : f.diag = true) (real : f.real = true) (due : f.launch + usec ≤ (s.at_ t).now) :
    let u := s.at_ t
    let short (x : Nat × DlkDevSt) : Bool := match u.dlkEntry x.1 with
      | some d => x.2.inService && d.gate != 0xFF && decide (u.fld (F.PGU_GATEn_WIDTH.WIDTH d.gate) < 125) && u.dlkDiag x.1
      | none => false
    exec (.postDiagRead t) s = .next ((((u.dlk.devs.filter short).map (·.1)).foldl (fun b a => (b.onDlk (fun d => { d with
      due := d.due.filter (fun x => !(x.addr == a && x.kind == .poll)) })).dlkPush ⟨3, a, DlkCmd.status, [], .diag⟩) u).dlkRun) := by
  intro u short
  refine congrArg Host.Outcome.next (if_pos ⟨serves, ?_⟩)
  simp only [frame, diag, real, due, decide_true, Bool.and_self]

end

/-! ### The end of a transaction (R433, R434) -/

section
variable {s : State} {x : DlkTx} {fr : Bytes} {k t : Nat} {bytes : List (BitVec 8)}

section
variable (running : s.dlk.busy = some (x, fr, k))
include running

theorem dlkReceive_of_bad (bad : dlkFrameOk bytes = false) : s.dlkReceive bytes = s.count F.DLK_ERR_COUNT.CRC 1 := by
  simp only [State.dlkReceive, running, bad, Bool.not_false, if_true]

theorem dlkReceive_of_accepted (sound : dlkFrameOk bytes = true) (sender : field bytes 0 1 = 128 + x.addr)
    (number : field bytes 2 1 = field fr 2 1) :
    let back := match s.dlkDev x.addr with | some y => !y.mismatch && (y.noResp || (!y.inService && y.tried)) | none => false
    let entering := match x.kind with | .entry _ => true | _ => false
    let e := ((s.onDlk (fun d => { d with busy := none, free := s.now + 250 })).dlkMod x.addr (fun y => { y with fails := 0, noResp := false })).dlkEffect
      x (field bytes 1 1) ((bytes.drop 4).take (field bytes 3 1))
    s.dlkReceive bytes = (((if back && !entering && s.dlkServes then e.dlkEnter x.addr else e).dlkShow x.addr).dlkTried).dlkRun := by
  intro back entering e
  have own : ¬(field bytes 0 1 ≠ 128 + x.addr ∨ field bytes 2 1 ≠ field fr 2 1) := by simp [sender, number]
  simp only [State.dlkReceive, running, sound, own, Bool.not_true, Bool.false_eq_true, if_false]
  rfl

theorem dlkExpire_of_repeated (more : k < s.fld F.DLK_CFG.RETRIES) (sound : s.dlkState ≠ Dlk.fault) :
    s.dlkExpire = ((s.count F.DLK_ERR_COUNT.TIMEOUT 1).dlkSend fr).onDlk (fun d => { d with busy := some (x, fr, k + 1) }) := by
  simp only [State.dlkExpire, running]
  exact if_pos ⟨more, sound⟩

end

theorem exec_dlkResponseTimeout_of_late (late : (s.at_ t).dlk.driveTo + 4 * usec ≤ (s.at_ t).now) :
    exec (.dlkResponseTimeout t) s = .next (s.at_ t).dlkExpire := congrArg Host.Outcome.next (if_pos (decide_eq_true late))

theorem exec_dlkResponseTimeout_of_early (early : (s.at_ t).now < (s.at_ t).dlk.driveTo + 4 * usec) :
    exec (.dlkResponseTimeout t) s = .next (s.at_ t) :=
  congrArg Host.Outcome.next (if_neg (fun late => absurd (of_decide_eq_true late) (Nat.not_le.mpr early)))

end

/-- Settles O52: a host transaction by its length and those held, a request by the state, a poll by its instant, a transaction by its response. -/
theorem driverLinkComplete : Obligations.DriverLinkComplete := by
  intro s v src d t bytes u own reg a cmd len data held
  have request : hostRequest s v = (a, cmd, len, data) := by cases v <;> rfl
  refine ⟨fun up => ?host, fun on => ⟨fun fault => ?broadcast, fun serves => ?safe, exec_dlkResume_of_safe on, exec_dlkFaultClr_of_sound on,
      fun x => exec_dlkFaultClr_of_unsound on, exec_dlkCountClr_of_on on⟩,
    fun serves y known alone free => ⟨exec_statusPoll_of_due known serves alone free, exec_statusPoll_of_early known⟩,
    fun f serves frame diag real due => exec_postDiagRead_of_due serves frame diag real due, fun x fr k running => ?transaction⟩
  case host =>
    have asked := exec_dlkTransact_of_takesUp up
    rw [dlkHost_eq, request] at asked
    exact ⟨fun fits sound few => asked.trans (congrArg _ ((if_neg (not_or.mpr ⟨Nat.not_lt.mpr fits, sound⟩)).trans (if_neg (Nat.not_le.mpr few)))),
      fun bad => asked.trans (congrArg _ (if_pos bad)),
      fun fits sound many => asked.trans (congrArg _ ((if_neg (not_or.mpr ⟨Nat.not_lt.mpr fits, sound⟩)).trans (if_pos many)))⟩
  case broadcast => exact (exec_safe_of_on on).trans (congrArg _ (dlkSafe_of_fault fault))
  case safe => exact (exec_safe_of_on on).trans (congrArg _ (if_pos serves))
  case transaction =>
    intro back entering e
    exact ⟨fun bad => congrArg Host.Outcome.next (dlkReceive_of_bad running bad),
      fun sound sender number => congrArg Host.Outcome.next (dlkReceive_of_accepted running sound sender number),
      fun late more sound => (exec_dlkResponseTimeout_of_late late).trans (congrArg _ (dlkExpire_of_repeated running more sound)),
      exec_dlkResponseTimeout_of_early⟩

end Sys2Proof.Laws
end

/-! PROOFS. Power management: votes, the end of a step, the hold of the DMC port, and the off-access log (17 R448-R457). -/

section
namespace Sys2Proof.Laws

open Sys2Proof Sys2Proof.Machine

section
variable {s : State} {o : Origin} {seq w : Word} {src : Src} {voter : Fin 96} {d : Fin 13} {t : Nat}

theorem exec_powerVote_of_message (named : (s.requestOf o seq [0x0304]).isSome = true) :
    let p := s.payload (.msg o seq)
    let a := s.hostVote (mergeVote (s.fld F.PMU_HOST_VOTE.VOTE) (field p 0 4) (field p 4 4))
    exec (.powerVote (.msg o seq) w) s = .next (a.finish (.msg o seq) .pmu 0 0 (leBytes 4 (a.voteWord 0).toNat ++ zeros 4)) :=
  congrArg Host.Outcome.next (withRequest_of_isSome named)

theorem exec_unitVote_of_owned {v : Fin 4} (below : d.val ≠ 0) (owned : ownerOf voter.val ≠ 8) :
    exec (.unitVote voter d v) s = .next (s.castVote voter.val d.val v.val).repower :=
  congrArg Host.Outcome.next (if_neg (not_or.mpr ⟨below, owned⟩))

/-- A step of a domain below AO that is in progress ends. -/
theorem exec_powerStepComplete_of_busy (below : d.val ≠ 0) (busy : (s.at_ t).flag (F.PMU_DOMd_STATUS.BUSY d.val) = true) :
    exec (.powerStepComplete d t) s = .next ((s.at_ t).stepDone d.val) :=
  congrArg Host.Outcome.next (if_pos ⟨below, busy⟩)

theorem exec_dmcPortRelease_of_quiet (held : (s.at_ t).pmu.dmcPortHold = true) (empty : (s.at_ t).dmc.waiting = [])
    (idle : ∀ x ∈ (s.at_ t).dmc.lastReq, x.2 + (s.at_ t).fld F.PMU_CFG.DMC_IDLE_US * usec ≤ (s.at_ t).now) :
    let u := s.at_ t
    exec (.dmcPortRelease t) s = .next ({ u with pmu := { u.pmu with dmcPortHold := false } } : State).repower := by
  have quiet : (s.at_ t).dmc.lastReq.all (fun x => decide (x.2 + (s.at_ t).fld F.PMU_CFG.DMC_IDLE_US * usec ≤ (s.at_ t).now)) = true :=
    List.all_eq_true.mpr fun x asked => decide_eq_true (idle x asked)
  refine congrArg Host.Outcome.next (if_pos ?_)
  simp only [held, empty, quiet, List.isEmpty_nil, Bool.and_self]

end

/-- Settles O53: a vote by how it comes, a step and the port by whether they are in progress, the log as it is read. -/
theorem powerCommandsComplete : Obligations.PowerCommandsComplete := fun _ _ _ _ _ _ _ _ _ _ =>
  ⟨rfl, exec_powerVote_of_message, exec_unitVote_of_owned, exec_powerStepComplete_of_busy, exec_dmcPortRelease_of_quiet, rfl, rfl, rfl⟩

end Sys2Proof.Laws
end

/-! PROOFS. Resets and their releases, PERST_N, the link, and the boot-flash header (21 R516-R527, R538, 18 R483). -/

section
namespace Sys2Proof.Laws

open Sys2Proof Sys2Proof.Machine

/-! ### Power-on and warm reset (R516, R517, R521, R527) -/

theorem at_resetHeld (s : State) (t : Nat) : (s.at_ t).resetHeld = s.resetHeld := by simp only [State.resetHeld, at_glb]

section
variable {s : State} {straps : Fin 8} {t : Nat}

/-- The state after a release of the power-on reset: the time base is FREE and holds the factory trim (14 R395). -/
def released (s : State) (t : Nat) : State :=
  { s.at_ t with
    glb := { (s.at_ t).glb with porHeld := false }, ttu := { (s.at_ t).ttu with steerGoal := (s.at_ t).trim, steerAt := (s.at_ t).now } }

theorem exec_powerOnResetRelease_of_held (held : s.glb.porHeld = true) :
    exec (.powerOnResetRelease straps t) s = .next (if s.resetHeld
      then { released s t with glb := { (released s t).glb with warm := true } } else (released s t).startUp straps) := by
  have asserted : ¬(!(s.at_ t).glb.porHeld) = true := by simp [held]
  have same : (released s t).resetHeld = s.resetHeld := at_resetHeld s t
  rw [← same]
  exact congrArg Host.Outcome.next (if_neg asserted)

theorem exec_resetN_of_falling (high : s.glb.pinLow = false) :
    let u := s.at_ t
    exec (.resetN true t) s = .next (({ u with glb := { u.glb with pinLow := true } }).warmReset Cause.pin) :=
  congrArg Host.Outcome.next (if_pos ⟨rfl, by rw [at_glb, high]; rfl⟩)

theorem exec_warmResetRelease_of_ended (warm : s.glb.warm = true) (powered : s.glb.porHeld = false) (free : s.resetHeld = false)
    (ended : s.glb.ended + 20 * usec ≤ (s.at_ t).now) : exec (.warmResetRelease straps t) s = .next ((s.at_ t).startUp straps) := by
  refine congrArg Host.Outcome.next (if_pos ?_)
  simp only [at_resetHeld, at_glb, warm, powered, free, ended, decide_true, Bool.not_false, Bool.and_self]

theorem exec_coreSupply_of_first (inRange : s.glb.coreLow = false) :
    let u := s.at_ t
    exec (.coreSupply t) s = .next (({ u with glb := { u.glb with coreLow := true } }).warmReset Cause.coreSupply) :=
  congrArg Host.Outcome.next (if_neg (by rw [at_glb, inRange]; decide))

end

/-- Settles O20: a release and a cause by what holds the reset at its instant. -/
theorem resetCommandsComplete : Obligations.ResetCommandsComplete := by
  intro s straps t u
  refine ⟨rfl, fun held free => ?_, fun held warm => ?_, exec_resetN_of_falling, rfl, exec_warmResetRelease_of_ended,
    exec_coreSupply_of_first, rfl, rfl⟩
  · exact (exec_powerOnResetRelease_of_held held).trans (congrArg _ (if_neg (ne_true_of_eq_false free)))
  · exact (exec_powerOnResetRelease_of_held held).trans (congrArg _ (if_pos warm))

/-! ### PERST_N and the link (R483, R524) -/

theorem at_phase (s : State) (t : Nat) : (s.at_ t).phase = s.phase := at_fld s t _ (by decide) (by decide)

theorem at_link (s : State) (t : Nat) : (s.at_ t).fld F.HIF_STATUS.LINK = s.fld F.HIF_STATUS.LINK := at_fld s t _ (by decide) (by decide)

section
variable {s : State} {speed width : Fin 3} {t : Nat}

theorem exec_perstAssert_of_released (high : s.hif.perst = false) :
    let u := s.at_ t
    exec (.perstAssert t) s
      = .next (((({ u with hif := { u.hif with perst := true } } : State).hifReset).resetCause Cause.perst).repower) :=
  congrArg Host.Outcome.next (if_neg (by rw [at_hif, high]; decide))

theorem exec_perstDeassert_of_asserted (low : s.hif.perst = true) (started : s.phase ≠ Phase.reset) (known : s.phase ≠ Phase.header) :
    let u := s.at_ t
    exec (.perstDeassert t) s = .next ((({ u with hif := { u.hif with perst := false } } : State).linkTrains).repower) := by
  have asserted : ¬(!(s.at_ t).hif.perst) = true := by simp [low]
  have past : ¬((s.at_ t).phase = Phase.reset ∨ (s.at_ t).phase = Phase.header) := by
    rw [at_phase]
    exact not_or.mpr ⟨started, known⟩
  exact congrArg Host.Outcome.next ((if_neg asserted).trans (congrArg State.repower (if_neg past)))

theorem exec_linkTrained_of_up (high : s.hif.perst = false) (on : s.unitOn .hif = true) (started : s.phase ≠ Phase.reset)
    (known : s.phase ≠ Phase.header) :
    let u := s.at_ t
    exec (.linkTrained speed width t) s = .next
      (((({ u with hif := { u.hif with retry := false } } : State).setFld F.HIF_STATUS.SPEED (speed.val + 1)).setFld
        F.HIF_STATUS.WIDTH (width.val + 1)).linkTo 2) := by
  refine congrArg Host.Outcome.next (if_neg ?_)
  simp only [at_hif, at_unitOn, at_phase, high, on, started, known]
  decide

theorem exec_linkL1Entry_of_up (up : s.fld F.HIF_STATUS.LINK = 2) : exec (.linkL1Entry t) s = .next ((s.at_ t).linkTo 3) :=
  congrArg Host.Outcome.next (if_pos ((at_link s t).trans up))

theorem exec_linkL1Exit_of_l1 (idle : s.fld F.HIF_STATUS.LINK = 3) : exec (.linkL1Exit t) s = .next ((s.at_ t).linkTo 2) :=
  congrArg Host.Outcome.next (if_pos ((at_link s t).trans idle))

/-! ### The start-up header (R519, R522) -/

theorem at_flashBytes (a n : Nat) : (s.at_ t).flashBytes a n = s.flashBytes a n := by
  simp only [State.flashBytes, at_flash]

/-- A configuration word of the header, at an offset, goes into a register of the DMC. -/
def withHeaderWord (b : Bytes) (s : State) (x : Nat × Nat) : State :=
  match famOf x.2 with
  | some f => s.setReg x.2 (f.applyWrite false (s.reg x.2) (w32 (field b x.1 4)))
  | none => s

/-- The state with what an accepted header sets, before the DMC starts. -/
def withHeader (s : State) (b : Bytes) : State :=
  [(0x10, R.DMC_GEOM), (0x14, R.DMC_TIMING0), (0x18, R.DMC_TIMING1), (0x1C, R.DMC_TIMING2), (0x20, R.DMC_TIMING3),
    (0x24, R.DMC_REF_CFG), (0x28, R.DMC_PAGE_CFG), (0x2C, R.DMC_ECC_CFG)].foldl (withHeaderWord b)
    ((((({ s with glb := { s.glb with header := b } } : State).setFlag F.GLB_STARTUP.HEADER_VALID true).setFlag
      F.GLB_STARTUP.AUTO_START (bitAt (field b 0xB 1) 0)).setFlag F.GLB_WDT_CFG.FLUSH (bitAt (field b 0xB 1) 2)).setFld
      F.GLB_WDT_CFG.TIMEOUT_MS (field b 0x30 2) |>.setPhase Phase.dmcInit)

section
variable (header : s.phase = Phase.header)
include header

theorem not_header_skipped : ¬(s.at_ t).phase ≠ Phase.header := not_not_intro ((at_phase s t).trans header)

theorem exec_headerRead_of_bad {d : Nat} (bad : headerFault (s.flashBytes 0 128) = some d) :
    exec (.headerRead t) s = .next (((s.at_ t).startFails GlbCode.headerBad d).linkTrains) := by
  refine congrArg Host.Outcome.next ((if_neg (not_header_skipped header)).trans ?_)
  simp only [at_flashBytes, bad]

theorem exec_headerRead_of_good (good : headerFault (s.flashBytes 0 128) = none) :
    let z := (withHeader (s.at_ t) (s.flashBytes 0 128)).dmcInit.linkTrains
    exec (.headerRead t) s = .next (if z.dmcState = Dmc.init then z else z.dmcFails DmcCode.badConfig) := by
  refine congrArg Host.Outcome.next ((if_neg (not_header_skipped header)).trans ?_)
  simp only [at_flashBytes, good]
  rfl

end

end

/-- Settles O21: pin and link by the phase and the link's state, a header by its first failing field. -/
theorem linkCommandsComplete : Obligations.LinkCommandsComplete := by
  intro s speed width t u
  exact ⟨exec_perstAssert_of_released, exec_perstDeassert_of_asserted, exec_linkTrained_of_up, exec_linkL1Entry_of_up, exec_linkL1Exit_of_l1,
    fun d header bad => exec_headerRead_of_bad header bad, exec_headerRead_of_good⟩

end Sys2Proof.Laws
end

/-! PROOFS. The watchdog, the requests of the GLB, and the junction temperature (21 R517, R525-R528). -/

section
namespace Sys2Proof.Laws

open Sys2Proof Sys2Proof.Machine

/-! ### Requests and the watchdog (R517, R525, R526) -/

section
variable {s : State} {src : Src} {w : Word} {t : Nat}

theorem exec_wdtEnable_of_disabled (disabled : (s.at_ t).flag F.GLB_WDT_CFG.EN = false) :
    let a := (s.at_ t).setFlag F.GLB_WDT_CFG.EN true
    exec (.wdtEnable src t) s = .next { a with glb := { a.glb with wdtEnd := some (a.now + a.wdtTimeout), wdtLen := a.wdtTimeout } } :=
  congrArg Host.Outcome.next (if_neg (ne_true_of_eq_false disabled))

section
variable (running : (s.at_ t).glb.flushCause = none)
include running

theorem not_flushing : ¬(s.at_ t).glb.flushCause.isSome = true := by rw [running]; decide

theorem exec_wdtKick_of_key {e : Nat} (counts : (s.at_ t).glb.wdtEnd = some e) :
    let u := s.at_ t
    exec (.wdtKick src 0xA5C3 t) s = .next { u with glb := { u.glb with wdtEnd := some (u.now + u.wdtTimeout), wdtLen := u.wdtTimeout } } := by
  refine congrArg Host.Outcome.next ((if_neg (not_flushing running)).trans ((if_pos rfl).trans ?_))
  simp only [counts]

theorem exec_wdtKick_of_other (other : w ≠ 0xA5C3) :
    exec (.wdtKick src w t) s = .next (((s.at_ t).count F.GLB_WDT_STATUS.BAD_KICKS 1).post .glb GlbCode.badKick 0) :=
  congrArg Host.Outcome.next ((if_neg (not_flushing running)).trans (if_neg other))

end

section
variable {e : Nat} (counts : (s.at_ t).glb.wdtEnd = some e)
include counts

theorem exec_wdtWarn_of_half (half : e ≤ (s.at_ t).now + (s.at_ t).glb.wdtLen / 2) :
    exec (.wdtWarn t) s = .next ((s.at_ t).raise .glb F.GLB_IRQ_STATUS.WDT_WARN) := by
  refine congrArg Host.Outcome.next ?_
  simp only [counts]
  exact if_pos half

/-- The state in which the watchdog has expired. -/
def expired (s : State) : State := { s with glb := { s.glb with wdtEnd := none } }

theorem exec_wdtExpiry_of_zero (zero : e ≤ (s.at_ t).now) :
    exec (.wdtExpiry t) s = .next (if (expired (s.at_ t)).flag F.GLB_WDT_CFG.FLUSH
      then (expired (s.at_ t)).flushReset Cause.wdt else (expired (s.at_ t)).expiryReset Cause.wdt) := by
  refine congrArg Host.Outcome.next ?_
  simp only [counts]
  exact if_neg (Nat.not_lt.mpr zero)

end

theorem expiryReset_of_other {c : Nat} (other : c ≠ Cause.thermal) : s.expiryReset c = s.warmReset c := if_neg other

theorem expiryReset_thermal : s.expiryReset Cause.thermal = (s.warmReset Cause.thermal).post .glb GlbCode.thermalTrip 0 := by
  simp only [State.expiryReset, if_true]

theorem flushReset_of_not_ready {c : Nat} (closed : s.ancState ≠ Anc.ready) : s.flushReset c = s.expiryReset c := if_pos closed

theorem flushReset_of_ready {c : Nat} (ready : s.ancState = Anc.ready) :
    s.flushReset c = (({ s with
      glb := { s.glb with flushCause := some c, flushAt := s.now, wdtEnd := none }
      pmu := { s.pmu with pwrfailHold := true } } : State).repower).ancPwrfail := if_neg (not_not_intro ready)

theorem exec_flushResetTimeout_of_ended {c : Nat} (flushing : (s.at_ t).glb.flushCause = some c)
    (ended : (s.at_ t).ancState = Anc.halted ∨ (s.at_ t).glb.flushAt + 2 * msec ≤ (s.at_ t).now) :
    exec (.flushResetTimeout t) s = .next ((s.at_ t).expiryReset c) := by
  refine congrArg Host.Outcome.next ?_
  simp only [flushing]
  exact if_pos ended

end

/-! ### Temperature samples (R528) -/

section
variable {s : State} {tj : Int} {t : Nat}

/-- The state with a sample stored, and the highest of them. -/
def withSample (s : State) (tj : Int) : State :=
  (s.setFld F.GLB_TJ.TJ (unsigned 16 tj)).setFld F.GLB_TJ.TJ_MAX
    (unsigned 16 (if s.glb.tjTaken then max tj (s.fldInt F.GLB_TJ.TJ_MAX) else tj))

/-- A sample arms TJ_HIGH or disarms it, and ends or begins being hot. -/
def withHeat (s : State) (tj : Int) (high trip : Bool) : State :=
  { s with glb := { s.glb with
      tjTaken := true, tjArmed := if high then false else s.glb.tjArmed || decide (tj < 105 * 16)
      hot := if trip then true else s.glb.hot && decide (tj ≥ 100 * 16) } }

/-- A sample by whether it raises TJ_HIGH and whether it trips. -/
theorem exec_tjSample_of_powered (powered : (s.at_ t).glb.porHeld = false) {high trip : Bool}
    (isHigh : (decide (tj > 110 * 16) && (withSample (s.at_ t) tj).glb.tjArmed) = high)
    (isTrip : (decide (tj ≥ 125 * 16) && !(withSample (s.at_ t) tj).glb.hot && (withSample (s.at_ t) tj).glb.flushCause.isNone) = trip) :
    let a := withHeat (withSample (s.at_ t) tj) tj high trip
    let b := if (s.at_ t).glb.hot && !a.glb.hot then a.causeEnds else a
    let c := if high then (b.post .glb GlbCode.tjHigh 0).raise .glb F.GLB_IRQ_STATUS.TJ_HIGH else b
    exec (.tjSample tj t) s = .next (if trip then c.flushReset Cause.thermal else c) := by
  subst isHigh isTrip
  exact congrArg Host.Outcome.next (if_neg (ne_true_of_eq_false powered))

end

/-- A sample below 100 C ends being hot. -/
theorem cools_iff (hot : Bool) (tj : Int) : (hot && !(hot && decide (tj ≥ 100 * 16))) = (hot && decide (tj < 100 * 16)) := by
  cases hot
  · rfl
  · simp only [Bool.true_and, ← decide_not, Int.not_le]

/-- Settles O60: the watchdog by its end, a flush by the archive, a sample by its limits. -/
theorem globalBlockComplete : Obligations.GlobalBlockComplete := by
  intro s src w t tj u z
  refine ⟨fun key => ?requested, fun other => ?refused, rfl, rfl, exec_wdtEnable_of_disabled,
    fun running => ⟨fun e counts => exec_wdtKick_of_key running counts, exec_wdtKick_of_other running⟩,
    fun e counts => ⟨exec_wdtWarn_of_half counts, fun zero => ?expiry⟩, fun c flushing ended => ⟨fun other => ?other, fun thermal => ?thermal⟩,
    fun powered => ?sample⟩
  case requested => exact congrArg Host.Outcome.next (if_pos key)
  case refused => exact congrArg Host.Outcome.next (if_neg other)
  case expiry =>
    intro a
    have ends := exec_wdtExpiry_of_zero counts zero
    refine ⟨fun closed => ?_, fun flush ready => ?_⟩
    · refine ends.trans (congrArg _ ?_)
      split
      case isTrue flush =>
        have notReady : a.ancState ≠ Anc.ready := closed.resolve_left (ne_false_of_eq_true flush)
        exact (flushReset_of_not_ready notReady).trans (expiryReset_of_other (by decide))
      case isFalse => exact expiryReset_of_other (by decide)
    · exact ends.trans (congrArg _ ((if_pos flush).trans (flushReset_of_ready ready)))
  case other => exact (exec_flushResetTimeout_of_ended flushing ended).trans (congrArg _ (expiryReset_of_other other))
  case thermal =>
    subst thermal
    exact (exec_flushResetTimeout_of_ended flushing ended).trans (congrArg _ expiryReset_thermal)
  case sample =>
    intro top a
    have hot_eq : a.glb.hot = u.glb.hot := rfl
    refine ⟨fun cool => ?cool, fun warm below armed => ?high, fun above unarmed cold idle closed => ?trip⟩
    case cool =>
      have low : decide (tj > 110 * 16) = false := decide_eq_false (by omega)
      have under : decide (tj ≥ 125 * 16) = false := decide_eq_false (by omega)
      refine (exec_tjSample_of_powered (high := false) (trip := false) powered (by rw [low]; rfl) (by rw [under]; rfl)).trans (congrArg _ ?_)
      have cooled : (u.glb.hot && !(withHeat a tj false false).glb.hot) = (a.glb.hot && decide (tj < 100 * 16)) := cools_iff _ _
      change (if (u.glb.hot && !(withHeat a tj false false).glb.hot) = true then (withHeat a tj false false).causeEnds
        else withHeat a tj false false) = _
      rw [cooled]
      cases a.glb.hot && decide (tj < 100 * 16) <;> rfl
    case high =>
      have above : decide (tj > 110 * 16) = true := decide_eq_true (by omega)
      have under : decide (tj ≥ 125 * 16) = false := decide_eq_false (by omega)
      refine (exec_tjSample_of_powered (high := true) (trip := false) powered (by rw [above]; exact armed) (by rw [under]; rfl)).trans
        (congrArg _ ?_)
      have heat : withHeat a tj true false = { a with glb := { a.glb with tjTaken := true, tjArmed := false } } := by
        have stays : (a.glb.hot && decide (tj ≥ 100 * 16)) = a.glb.hot := by rw [decide_eq_true (by omega), Bool.and_true]
        simp only [withHeat, stays, if_true, Bool.false_eq_true, if_false]
      have keeps : ¬(u.glb.hot && !(withHeat a tj true false).glb.hot) = true := by
        rw [heat]
        simp [hot_eq]
      exact congrArg (fun b : State => (b.post .glb GlbCode.tjHigh 0).raise .glb F.GLB_IRQ_STATUS.TJ_HIGH) ((if_neg keeps).trans heat)
    case trip =>
      have hottest : decide (tj ≥ 125 * 16) = true := decide_eq_true above
      refine (exec_tjSample_of_powered (high := false) (trip := true) powered ?_ ?_).trans (congrArg _ ?_)
      · rw [show (withSample (s.at_ t) tj).glb.tjArmed = false from unarmed, Bool.and_false]
      · rw [hottest, show (withSample (s.at_ t) tj).glb.hot = false from cold, show (withSample (s.at_ t) tj).glb.flushCause = none from idle]
        rfl
      · have heat : withHeat a tj false true = { a with glb := { a.glb with tjTaken := true, hot := true } } := by
          have stays : (a.glb.tjArmed || decide (tj < 105 * 16)) = a.glb.tjArmed := by rw [decide_eq_false (by omega), Bool.or_false]
          simp only [withHeat, stays, if_true, Bool.false_eq_true, if_false]
        have keeps : ¬(u.glb.hot && !(withHeat a tj false true).glb.hot) = true := by
          simp [← hot_eq, cold]
        have closed' : (withHeat a tj false true).ancState ≠ Anc.ready := closed
        have trips := (flushReset_of_not_ready (c := Cause.thermal) closed').trans expiryReset_thermal
        rw [heat] at trips
        exact (congrArg (State.flushReset · Cause.thermal) ((if_neg keeps).trans heat)).trans trips

end Sys2Proof.Laws
end

/-! PROOFS. Rings and sessions of the HIF: the tail and the head of a session, its opening, closing and reopening, and MSI-X
(18 R460-R471). -/

section
namespace Sys2Proof.Laws

open Sys2Proof Sys2Proof.Machine

/-! ### The rings of an open session -/

section
variable {s : State} {n : Fin 256} {x : Session} (isOpen : s.session n.val = some x)
include isOpen

theorem takeTail_of_inside {tail : Nat} (slots : List (List Byte)) (inside : tail < 2 ^ x.sqLog2) :
    let k := (tail + 2 ^ x.sqLog2 - x.sqTail) % 2 ^ x.sqLog2
    let new := ((slots ++ List.replicate k (zeros 64)).take k).map (fitBytes 64)
    s.takeTail n tail slots = State.readSlots n (x.unread ++ new) (s.setSession n { x with sqTail := tail, unread := [] }) := by
  simp only [State.takeTail, isOpen, if_neg (Nat.not_le.mpr inside)]

theorem takeTail_of_outside {tail : Nat} (slots : List (List Byte)) (outside : 2 ^ x.sqLog2 ≤ tail) :
    s.takeTail n tail slots = s.violate n .malformed 0 x.expect 0 := by
  simp only [State.takeTail, isOpen, if_pos outside]

theorem takeHead_of_inside {head : Nat} (inside : head < 2 ^ x.cqLog2) :
    let size := 2 ^ x.cqLog2
    s.takeHead n head = (State.flushAnswers n x.heldAnswers (s.setSession n { x with
      cqUsed := (x.cqTail + size - head) % size, heldAnswers := [] })).resumeSession n := by
  simp only [State.takeHead, isOpen, if_neg (Nat.not_le.mpr inside)]

theorem takeHead_of_outside {head : Nat} (outside : 2 ^ x.cqLog2 ≤ head) : s.takeHead n head = s.violate n .malformed 0 x.expect 0 := by
  simp only [State.takeHead, isOpen, if_pos outside]

theorem reopenSession_of_open (e : Word) :
    s.reopenSession n e = (s.setSession n { x with expect := e, hist := [], quarantined := false }).resumeSession n := by
  simp only [State.reopenSession, isOpen]

theorem session_isNone_eq_false : (s.session n.val).isNone = false := by simp only [isOpen, Option.isNone_some]

end

/-! ### Requests by the registers of the HIF -/

section
variable {s : State} {src : Src} {n : Fin 256} {tail head : Fin 4096} (on : s.unitOn .hif = true)
include on

/-- A tail write rings the session's doorbell. -/
theorem exec_sqTailWrite_of_on (slots : List (List Byte)) : exec (.sqTailWrite n tail slots) s = .next (s.doorbell n tail.val slots) :=
  congrArg Host.Outcome.next (onUnit_on s (.reg .host) .hif _ _ on)

theorem exec_sqTailWrite_of_busMaster (slots : List (List Byte)) (master : s.hif.busMaster = true) :
    exec (.sqTailWrite n tail slots) s = .next (s.takeTail n tail.val slots) :=
  (exec_sqTailWrite_of_on on slots).trans (congrArg Host.Outcome.next (if_pos master))

theorem exec_sqTailWrite_of_not_busMaster (slots : List (List Byte)) (master : s.hif.busMaster = false) :
    exec (.sqTailWrite n tail slots) s = .next { s with hif := { s.hif with
      doorbells := s.hif.doorbells.filter (fun d => d.1 != n.val) ++ [(n.val, tail.val)] } } :=
  (exec_sqTailWrite_of_on on slots).trans (congrArg Host.Outcome.next (if_neg (Bool.eq_false_iff.mp master)))

theorem exec_cqHeadWrite_of_on : exec (.cqHeadWrite n head) s = .next (s.takeHead n head.val) :=
  congrArg Host.Outcome.next (onUnit_on s (.reg .host) .hif _ _ on)

/-- A write of HIF_SESS_CTRL acts where the HIF is on. -/
theorem sessCtrl_takesUp (ops : List Nat) : s.takesUp (.reg src) ops .hif = true := Bool.and_eq_true_iff.mpr ⟨on, rfl⟩

theorem exec_sessionClose_reg_of_open (isOpen : (s.session n.val).isSome = true) :
    exec (.sessionClose (.reg src) n) s = .next ((s.closeSession n.val).post .hif 0 n.val) :=
  congrArg Host.Outcome.next ((onUnit_of_takesUp R.HIF_SESS_CTRL (sessCtrl_takesUp on [0x0102])).trans ((if_neg Bool.false_ne_true).trans
    (if_neg (Bool.eq_false_iff.mp (Option.isNone_eq_false_iff.mpr isOpen)))))

theorem exec_sessionClose_reg_of_closed (closed : (s.session n.val).isNone = true) :
    exec (.sessionClose (.reg src) n) s = .next (s.post .hif HifCode.badState n.val) :=
  congrArg Host.Outcome.next ((onUnit_of_takesUp R.HIF_SESS_CTRL (sessCtrl_takesUp on [0x0102])).trans ((if_neg Bool.false_ne_true).trans
    (if_pos closed)))

theorem exec_sessionReopen_reg_of_closed (closed : (s.session n.val).isNone = true) :
    exec (.sessionReopen (.reg src) n) s = .next (s.post .hif HifCode.badState n.val) :=
  congrArg Host.Outcome.next ((onUnit_of_takesUp R.HIF_SESS_CTRL (sessCtrl_takesUp on [0x0103])).trans (if_pos closed))

theorem exec_sessionReopen_reg_of_open {x : Session} (isOpen : s.session n.val = some x) :
    exec (.sessionReopen (.reg src) n) s = .next (((s.setSession n { x with
      expect := s.reg R.HIF_SESS_NEXT, hist := [], quarantined := false }).resumeSession n).post .hif 0 n.val) :=
  congrArg Host.Outcome.next ((onUnit_of_takesUp R.HIF_SESS_CTRL (sessCtrl_takesUp on [0x0103])).trans
    ((if_neg (Bool.eq_false_iff.mp (session_isNone_eq_false isOpen))).trans
      (congrArg (State.sessionResult · (.reg src) 0 n.val) (reopenSession_of_open isOpen _))))

theorem exec_session0Open_of_on : exec (.session0Open src n) s = .next (s.session0Open n.val) :=
  congrArg Host.Outcome.next (onUnit_on s (.reg src) .hif _ _ on)

/-- No session but 0 opens from the registers. -/
theorem exec_session0Open_of_ne (other : n ≠ 0) : exec (.session0Open src n) s = .next (s.post .hif HifCode.badArg n.val) :=
  (exec_session0Open_of_on on).trans
    (congrArg Host.Outcome.next (if_pos (Or.inl fun zero => other (Fin.ext zero))))

end

/-- Session 0's parameters in the registers HIF_S0_*. -/
def session0Ok (s : State) : Bool :=
  let f := s.fld
  sessionOk (s.reg64 R.HIF_S0_SQ_LO R.HIF_S0_SQ_HI) (s.reg64 R.HIF_S0_CQ_LO R.HIF_S0_CQ_HI) (f F.HIF_S0_CFG.SQ_LOG2)
    (f F.HIF_S0_CFG.CQ_LOG2) (f F.HIF_S0_CFG.WINDOW) (f F.HIF_S0_CFG.VECTOR)

/-- Session 0 opens with the parameters of its registers. -/
def openSession0 (s : State) : State :=
  let f := s.fld
  s.openSession 0 (s.reg64 R.HIF_S0_SQ_LO R.HIF_S0_SQ_HI) (s.reg64 R.HIF_S0_CQ_LO R.HIF_S0_CQ_HI) (f F.HIF_S0_CFG.SQ_LOG2)
    (f F.HIF_S0_CFG.CQ_LOG2) (f F.HIF_S0_CFG.WINDOW) (f F.HIF_S0_CFG.VECTOR)

/-- What SESSION0_OPEN does for session 0 once its parameters are in range. -/
theorem session0Open_of_ok {s : State} (ok : session0Ok s = true) :
    s.session0Open 0 = if (s.session 0).isSome then s.post .hif HifCode.badState 0 else (openSession0 s).post .hif 0 0 := by
  refine if_neg (not_or.mpr ⟨fun ne => ne rfl, ?_⟩)
  exact fun bad => Bool.eq_false_iff.mp ((Bool.not_eq_true' _).mp bad) ok

theorem exec_session0Open_of_closed {s : State} {src : Src} (on : s.unitOn .hif = true) (ok : session0Ok s = true)
    (closed : s.session 0 = none) : exec (.session0Open src 0) s = .next ((openSession0 s).post .hif 0 0) := by
  refine (exec_session0Open_of_on on).trans (congrArg Host.Outcome.next ((session0Open_of_ok ok).trans (if_neg ?_)))
  rw [closed]; decide

theorem exec_session0Open_of_open {s : State} {src : Src} (on : s.unitOn .hif = true) (ok : session0Ok s = true)
    (isOpen : (s.session 0).isSome = true) : exec (.session0Open src 0) s = .next (s.post .hif HifCode.badState 0) :=
  (exec_session0Open_of_on on).trans (congrArg Host.Outcome.next ((session0Open_of_ok ok).trans (if_pos isOpen)))

/-! ### MSI-X -/

/-- Bus Master Enable is set, MSI-X Enable and Function Mask as the host gives them; no doorbell is kept. -/
def busMasterOn (s : State) (msix mask : Bool) : State :=
  { s with hif := { s.hif with busMaster := true, msixOn := msix, msixMask := mask, doorbells := [] } }

/-- Every pending vector that its own mask leaves free is sent. -/
def deliverPending (s : State) : State :=
  (List.range 64).foldl (fun (b : State) i =>
    if bitAt (b.reg (R.MSIX_PBAi (i / 32))).toNat (i % 32) && !b.flag (F.MSIX_TABLEv_CONTROL.MASK i) then
      (b.setReg (R.MSIX_PBAi (i / 32)) (b.reg (R.MSIX_PBAi (i / 32)) &&& ~~~((1 : Word) <<< (i % 32)))).signal i
    else b) s

section
variable {s : State} (on : s.unitOn .hif = true)
include on

theorem exec_busMasterEnable_of_on (msix mask : Bool) (slots : List (List (List Byte))) :
    exec (.busMasterEnable msix mask slots) s = .next (State.ringDoorbells s.hif.doorbells slots
      (if !msix || mask then busMasterOn s msix mask else deliverPending (busMasterOn s msix mask))) :=
  congrArg Host.Outcome.next (if_neg (by rw [on]; decide))

theorem exec_busMasterEnable_of_masked {msix mask : Bool} (slots : List (List (List Byte))) (masked : msix = false ∨ mask = true) :
    exec (.busMasterEnable msix mask slots) s = .next (State.ringDoorbells s.hif.doorbells slots (busMasterOn s msix mask)) := by
  have held : (!msix || mask) = true := by rcases masked with rfl | rfl <;> simp
  rw [exec_busMasterEnable_of_on on, if_pos held]

theorem exec_busMasterEnable_of_unmasked (slots : List (List (List Byte))) :
    exec (.busMasterEnable true false slots) s
      = .next (State.ringDoorbells s.hif.doorbells slots (deliverPending (busMasterOn s true false))) :=
  exec_busMasterEnable_of_on on true false slots

/-- Unmasking a vector sends its pending message where MSI-X is on and the function is not masked. -/
theorem exec_msixUnmask_of_on (v : Fin 64) :
    let a := s.setFld (F.MSIX_TABLEv_CONTROL.MASK v.val) 0
    let r := R.MSIX_PBAi (v.val / 32)
    exec (.msixUnmask v) s = .next (if bitAt (a.reg r).toNat (v.val % 32) && a.hif.msixOn && !a.hif.msixMask then
      (a.setReg r (a.reg r &&& ~~~((1 : Word) <<< (v.val % 32)))).signal v.val else a) :=
  congrArg Host.Outcome.next (onUnit_on s (.reg .host) .hif _ _ on)

end

/-! ### Requests by message -/

section
variable {s : State} {o : Origin} {seq : Word}

theorem exec_sessionClose_msg_of_zero {n : Fin 256} (up : s.takesUp (.msg o seq) [0x0102] .hif = true)
    (zero : field (s.payload (.msg o seq)) 0 1 = 0) : exec (.sessionClose (.msg o seq) n) s
      = .next (s.answer o seq HifCode.badArg Unit.hif.top (field (s.payload (.msg o seq)) 0 1) []) :=
  congrArg Host.Outcome.next ((onUnit_of_takesUp R.HIF_SESS_CTRL up).trans (if_pos (beq_iff_eq.mpr zero)))

theorem exec_sessionClose_msg_of_open {n : Fin 256} (up : s.takesUp (.msg o seq) [0x0102] .hif = true)
    (other : field (s.payload (.msg o seq)) 0 1 ≠ 0) (isOpen : (s.session (field (s.payload (.msg o seq)) 0 1)).isSome = true) :
    exec (.sessionClose (.msg o seq) n) s = .next ((s.closeSession (field (s.payload (.msg o seq)) 0 1)).answer o seq 0
      Unit.hif.top (field (s.payload (.msg o seq)) 0 1) []) :=
  congrArg Host.Outcome.next ((onUnit_of_takesUp R.HIF_SESS_CTRL up).trans ((if_neg (fun zero => other (beq_iff_eq.mp zero))).trans
    (if_neg (Bool.eq_false_iff.mp (Option.isNone_eq_false_iff.mpr isOpen)))))

theorem exec_sessionReopen_msg_of_open {n : Fin 256} {x : Session} (up : s.takesUp (.msg o seq) [0x0103] .hif = true)
    (isOpen : s.session (field (s.payload (.msg o seq)) 0 1) = some x) (below : field (s.payload (.msg o seq)) 0 1 < 256) :
    let p := s.payload (.msg o seq)
    let k := field p 0 1
    exec (.sessionReopen (.msg o seq) n) s = .next (((s.setSession k { x with
      expect := w32 (field p 4 4), hist := [], quarantined := false }).resumeSession (Fin.ofNat 256 k)).answer o seq 0
        Unit.hif.top k []) := by
  have number : (Fin.ofNat 256 (field (s.payload (.msg o seq)) 0 1)).val = field (s.payload (.msg o seq)) 0 1 := Nat.mod_eq_of_lt below
  have named : s.session (Fin.ofNat 256 (field (s.payload (.msg o seq)) 0 1)).val = some x := by rw [number]; exact isOpen
  refine congrArg Host.Outcome.next ((onUnit_of_takesUp R.HIF_SESS_CTRL up).trans ((if_neg ?_).trans ?_))
  · exact Bool.eq_false_iff.mp (session_isNone_eq_false named)
  · simp only [reopenSession_of_open named, State.sessionResult, number]

theorem exec_sessionOpen_of_full (named : (s.requestOf o seq [0x0101]).isSome = true) (full : s.freeSession = none) :
    exec (.sessionOpen o seq) s = .next (s.answer o seq HifCode.capacity Unit.hif.top 0 []) := by
  refine congrArg Host.Outcome.next ((withRequest_of_isSome named).trans ?_)
  simp only [full]

theorem exec_sessionOpen_of_free {i : Nat} (named : (s.requestOf o seq [0x0101]).isSome = true) (free : s.freeSession = some i) :
    let p := s.payload (.msg o seq)
    exec (.sessionOpen o seq) s = .next
      ((s.openSession i (field p 0 8) (field p 8 8) (field p 16 1) (field p 17 1) (field p 18 1) (field p 19 1)).answer o seq 0
        Unit.hif.top 0 (leBytes 1 i ++ zeros 7)) := by
  refine congrArg Host.Outcome.next ((withRequest_of_isSome named).trans ?_)
  simp only [free]

end

/-- Settles O54: with the HIF on by what the host writes and whether the session is open; by message by the opcode. -/
theorem sessionsComplete : Obligations.SessionsComplete := by
  intro s o seq src n tail head slots many v m p k
  refine ⟨fun on => ⟨fun x isOpen => ?openRing, ?kept, ?zero, exec_session0Open_of_ne on, exec_sessionClose_reg_of_open on,
    fun closed => ⟨exec_sessionClose_reg_of_closed on closed, exec_sessionReopen_reg_of_closed on closed⟩, ?master, ?unmask⟩,
    fun up => ⟨exec_sessionClose_msg_of_zero up, exec_sessionClose_msg_of_open up⟩,
    fun x up isOpen below => exec_sessionReopen_msg_of_open up isOpen below,
    fun named => ⟨exec_sessionOpen_of_full named, fun i free => exec_sessionOpen_of_free named free⟩⟩
  case openRing =>
    intro size k new
    exact ⟨
      fun master inside => (exec_sqTailWrite_of_busMaster on slots master).trans
        (congrArg Host.Outcome.next (takeTail_of_inside isOpen slots inside)),
      fun master outside => (exec_sqTailWrite_of_busMaster on slots master).trans
        (congrArg Host.Outcome.next (takeTail_of_outside isOpen slots outside)),
      fun inside => (exec_cqHeadWrite_of_on on).trans (congrArg Host.Outcome.next (takeHead_of_inside isOpen inside)),
      fun outside => (exec_cqHeadWrite_of_on on).trans (congrArg Host.Outcome.next (takeHead_of_outside isOpen outside)),
      exec_sessionReopen_reg_of_open on isOpen⟩
  case kept => exact exec_sqTailWrite_of_not_busMaster on slots
  case zero => exact fun ok => ⟨exec_session0Open_of_closed on ok, exec_session0Open_of_open on ok⟩
  case master => exact ⟨fun msix mask masked => exec_busMasterEnable_of_masked on many masked, exec_busMasterEnable_of_unmasked on many⟩
  case unmask =>
    exact ⟨fun due => (exec_msixUnmask_of_on on v).trans (congrArg Host.Outcome.next (if_pos due)),
      fun held => (exec_msixUnmask_of_on on v).trans (congrArg Host.Outcome.next (if_neg (Bool.eq_false_iff.mp held)))⟩

end Sys2Proof.Laws
end

/-! PROOFS. Messages that the HIF answers, and its logs and counts (18 R472-R478). -/

section
namespace Sys2Proof.Laws

open Sys2Proof Sys2Proof.Machine

section
variable {s : State} {o : Origin} {seq : Word}

/-! ### Status words and error logs of units -/

/-- UNIT_STATUS for a path. -/
theorem exec_unitStatus_of_path {q : PathOf} (named : (s.requestOf o seq [0x0801]).isSome = true)
    (path : field (s.payload (.msg o seq)) 0 1 ≠ 1) (issued : readPath (field (s.payload (.msg o seq)) 4 4) = some q) :
    exec (.unitStatus o seq) s = .next (s.answer o seq 0 Unit.hif.top 0 (leBytes 4 (s.pathWord q).toNat ++ zeros 4)) := by
  refine congrArg Host.Outcome.next ((withRequest_of_isSome named).trans ((if_neg path).trans ?_))
  simp only [issued]

theorem exec_unitStatus_of_no_path (named : (s.requestOf o seq [0x0801]).isSome = true)
    (path : field (s.payload (.msg o seq)) 0 1 ≠ 1) (noPath : readPath (field (s.payload (.msg o seq)) 4 4) = none) :
    exec (.unitStatus o seq) s = .next (s.answer o seq HifCode.badArg Unit.hif.top 0 []) := by
  refine congrArg Host.Outcome.next ((withRequest_of_isSome named).trans ((if_neg path).trans ?_))
  simp only [noPath]

/-- The logs an ERROR_LOG request names: a zone's, or a path's. -/
def errorLogKeys (s : State) (p : List Byte) : Option (List Nat) :=
  if field p 0 1 = 1 then some (s.zoneKeys (field p 2 2)) else (readPath (field p 4 4)).map PathOf.paths

/-- The bytes of the entries of several logs. -/
def errorLogBytes (s : State) (keys : List Nat) : List Byte := (s.logUnion keys).flatMap LogEntry.bytes

/-- The payload of ERROR_LOG's answer. -/
def errorLogPayload (s : State) (keys : List Nat) : List Byte := leBytes 4 (s.logUnion keys).length ++ zeros 4

section
variable {keys : List Nat} (named : (s.requestOf o seq [0x0802]).isSome = true)
  (asked : errorLogKeys s (s.payload (.msg o seq)) = some keys)
include named asked

theorem exec_errorLog_of_keys : exec (.errorLog o seq) s = .next (if (errorLogBytes s keys).length > s.hbLen o seq 16 then
      s.answer o seq HifCode.shortBuffer Unit.hif.top 0 (errorLogPayload s keys)
    else s.transfer o seq 16 (errorLogBytes s keys).length 0 Unit.hif.top 0 (.errorLog (errorLogBytes s keys) (errorLogPayload s keys)
      (if field (s.payload (.msg o seq)) 8 4 % 2 = 1 then keys else []))) := by
  refine congrArg Host.Outcome.next ((withRequest_of_isSome named).trans ?_)
  rw [errorLogKeys] at asked
  simp only [asked]
  rfl

theorem exec_errorLog_of_short (short : s.hbLen o seq 16 < (errorLogBytes s keys).length) :
    exec (.errorLog o seq) s = .next (s.answer o seq HifCode.shortBuffer Unit.hif.top 0 (errorLogPayload s keys)) :=
  (exec_errorLog_of_keys named asked).trans (congrArg Host.Outcome.next (if_pos short))

theorem exec_errorLog_of_fits (fits : (errorLogBytes s keys).length ≤ s.hbLen o seq 16) :
    exec (.errorLog o seq) s = .next (s.transfer o seq 16 (errorLogBytes s keys).length 0 Unit.hif.top 0
      (.errorLog (errorLogBytes s keys) (errorLogPayload s keys) (if field (s.payload (.msg o seq)) 8 4 % 2 = 1 then keys else []))) :=
  (exec_errorLog_of_keys named asked).trans (congrArg Host.Outcome.next (if_neg (Nat.not_lt.mpr fits)))

end

theorem exec_errorLog_of_no_path (named : (s.requestOf o seq [0x0802]).isSome = true)
    (asked : errorLogKeys s (s.payload (.msg o seq)) = none) :
    exec (.errorLog o seq) s = .next (s.answer o seq HifCode.badArg Unit.hif.top 0 []) := by
  refine congrArg Host.Outcome.next ((withRequest_of_isSome named).trans ?_)
  rw [errorLogKeys] at asked
  simp only [asked]

theorem errorLogKeys_of_zone {p : List Byte} (zone : field p 0 1 = 1) : errorLogKeys s p = some (s.zoneKeys (field p 2 2)) := if_pos zone

theorem errorLogKeys_of_path {p : List Byte} {q : Option PathOf} (path : field p 0 1 ≠ 1) (read : readPath (field p 4 4) = q) :
    errorLogKeys s p = q.map PathOf.paths := (if_neg path).trans (congrArg (Option.map PathOf.paths) read)

/-! ### The almanac's summary -/

/-- The bytes of the summary: its head and the entries of the indicators that have been sampled. -/
def summaryBytes (s : State) : List Byte :=
  s.almHead ++ (s.alm.indicators.filter (fun x => x.2.n ≠ 0)).flatMap (fun x => indBytes x.1 x.2)

theorem exec_almSummary_of_takesUp (up : s.takesUp (.msg o seq) [0x0804] .alm = true) :
    exec (.almSummary o seq) s = .next ((s.show .alm 0 0).toHost o seq 0 0 Unit.alm.top 0 (summaryBytes s)
      (leBytes 4 (summaryBytes s).length ++ zeros 4)) :=
  congrArg Host.Outcome.next (onUnit_of_takesUp R.ALM_CTRL up)

/-! ### Registers by message -/

section
variable {t : Nat} {env : BusEnv}

theorem exec_regRead_of_args {off n : Nat} (named : ((s.at_ t).requestOf o seq [0x0901]).isSome = true)
    (args : regArgs ((s.at_ t).payload (.msg o seq)) = some (off, n)) :
    let r := State.busReads (originSrc o) n off (s.at_ t)
    exec (.regRead o seq t) s = .next (r.1.answer o seq 0 Unit.hif.top 0 (r.2.flatMap (fun w => leBytes 4 w.toNat))) := by
  refine congrArg Host.Outcome.next ((withRequest_of_isSome named).trans ?_)
  simp only [args]

theorem exec_regRead_of_bad (named : ((s.at_ t).requestOf o seq [0x0901]).isSome = true)
    (bad : regArgs ((s.at_ t).payload (.msg o seq)) = none) :
    exec (.regRead o seq t) s = .next ((s.at_ t).answer o seq HifCode.badArg Unit.hif.top 0 []) := by
  refine congrArg Host.Outcome.next ((withRequest_of_isSome named).trans ?_)
  simp only [bad]

theorem exec_regWrite_of_args {off n : Nat} (named : ((s.at_ env.t).requestOf o seq [0x0902]).isSome = true)
    (args : regArgs ((s.at_ env.t).payload (.msg o seq)) = some (off, n)) :
    exec (.regWrite o seq env) s = .next ((State.busWrites (originSrc o) env off
      ((List.range n).map (fun i => w32 (field ((s.at_ env.t).payload (.msg o seq)) (8 + 4 * i) 4))) (s.at_ env.t)).answer o seq 0
        Unit.hif.top 0 []) := by
  refine congrArg Host.Outcome.next ((withRequest_of_isSome named).trans ?_)
  simp only [args]

theorem exec_regWrite_of_bad (named : ((s.at_ env.t).requestOf o seq [0x0902]).isSome = true)
    (bad : regArgs ((s.at_ env.t).payload (.msg o seq)) = none) :
    exec (.regWrite o seq env) s = .next ((s.at_ env.t).answer o seq HifCode.badArg Unit.hif.top 0 []) := by
  refine congrArg Host.Outcome.next ((withRequest_of_isSome named).trans ?_)
  simp only [bad]

end

end

/-! ### The violation log -/

section
variable {s : State} {src : Src} (on : s.unitOn .hif = true)
include on

theorem exec_vlogRead_of_on (w : Fin 4) :
    exec (.vlogRead src w) s = .next ((s.vlogWord w.val).1.give (.readData (R.HIF_VLOG_W0 + 4 * w.val) (s.vlogWord w.val).2.toNat)) :=
  congrArg Host.Outcome.next (if_neg (by rw [on]; decide))

theorem exec_hifCountClr_of_on : exec (.hifCountClr src) s = .next s.hifCountClr :=
  congrArg Host.Outcome.next (onUnit_on s (.reg src) .hif _ _ on)

theorem exec_vlogClr_of_on : exec (.vlogClr src) s = .next s.vlogClr :=
  congrArg Host.Outcome.next (onUnit_on s (.reg src) .hif _ _ on)

end

/-- Settles O55: a message by its opcode and what its payload names, the violation log and the counts with the HIF on. -/
theorem hifMessagesComplete : Obligations.HifMessagesComplete := by
  intro s o seq src w t env m p has
  refine ⟨fun named => congrArg Host.Outcome.next (withRequest_of_isSome named),
    fun named => ⟨?zoneStatus, fun q path issued => exec_unitStatus_of_path named path issued, exec_unitStatus_of_no_path named⟩,
    fun named => ⟨?zoneLog, ?pathLog, ?noLog⟩,
    fun named => congrArg Host.Outcome.next (withRequest_of_isSome named),
    fun up => ⟨?summary, ?noSummary⟩,
    fun named => congrArg Host.Outcome.next (withRequest_of_isSome named),
    fun off n named args => exec_regRead_of_args named args, exec_regRead_of_bad, exec_regWrite_of_bad,
    fun off n named args => exec_regWrite_of_args named args,
    fun up => congrArg Host.Outcome.next (onUnit_of_takesUp R.CSP_CTRL up),
    fun on => ⟨exec_vlogRead_of_on on w, exec_hifCountClr_of_on on, exec_vlogClr_of_on on⟩⟩
  case zoneStatus => exact fun zone => congrArg Host.Outcome.next ((withRequest_of_isSome named).trans (if_pos zone))
  case zoneLog =>
    exact fun zone => ⟨exec_errorLog_of_short named (errorLogKeys_of_zone zone), exec_errorLog_of_fits named (errorLogKeys_of_zone zone)⟩
  case pathLog =>
    exact fun q path issued =>
      ⟨exec_errorLog_of_short named (errorLogKeys_of_path path issued), exec_errorLog_of_fits named (errorLogKeys_of_path path issued)⟩
  case noLog => exact fun path noPath => exec_errorLog_of_no_path named (errorLogKeys_of_path path noPath)
  case summary => exact fun fits => (exec_almSummary_of_takesUp up).trans (congrArg Host.Outcome.next (toHost_of_fits fits))
  case noSummary => exact fun short => (exec_almSummary_of_takesUp up).trans (congrArg Host.Outcome.next (toHost_of_short short))

end Sys2Proof.Laws
end

/-! PROOFS. Stream rings, the ends of host-buffer transfers, and SMBus (18 R474, R479-R482). -/

section
namespace Sys2Proof.Laws

open Sys2Proof Sys2Proof.Machine

/-! ### A channel's configuration -/

section
variable {s : State} {src : Src} {c : Fin 32} {w : Word} (on : s.unitOn .hif = true)
include on

theorem exec_streamEnable_of_on : exec (.streamEnable src c w) s = .next (s.streamCfg c.val w) :=
  congrArg Host.Outcome.next (onUnit_on s (.reg src) .hif _ _ on)

/-- Setting EN of a disabled channel goes by its ring. -/
theorem exec_streamEnable_of_set (was : s.flag (F.HIF_STRc_CFG.EN c.val) = false) (set : bitAt (w &&& 0xFFF).toNat 0 = true) :
    let x := w &&& 0xFFF
    exec (.streamEnable src c w) s = .next (if s.ringOk c.val x then
        ((s.setReg (R.HIF_STRc_CFG c.val) x).setReg (R.HIF_STRc_WR c.val) (s.reg (R.HIF_STRc_RD c.val))).setStrm c.val ⟨0, false⟩
      else (s.setReg (R.HIF_STRc_CFG c.val) (x &&& ~~~1)).post .hif 2 c.val) :=
  (exec_streamEnable_of_on on).trans (congrArg Host.Outcome.next (if_pos (by rw [was, set]; rfl)))

theorem exec_streamEnable_of_clear (was : s.flag (F.HIF_STRc_CFG.EN c.val) = true) (clear : bitAt (w &&& 0xFFF).toNat 0 = false) :
    exec (.streamEnable src c w) s = .next ((s.setReg (R.HIF_STRc_CFG c.val) (w &&& 0xFFF)).disableStream c.val) :=
  (exec_streamEnable_of_on on).trans (congrArg Host.Outcome.next ((if_neg (by rw [was, clear]; decide)).trans
    (if_pos (by rw [was, clear]; rfl))))

theorem exec_streamRdWrite_of_on : exec (.streamRdWrite src c w) s = .next (s.setReg (R.HIF_STRc_RD c.val) w) :=
  congrArg Host.Outcome.next (onUnit_on s (.reg src) .hif _ _ on)

end

/-! ### A waiting block -/

/-- Bytes of a channel's ring that the host has freed. -/
def ringFree (s : State) (c : Nat) : Nat :=
  2 ^ s.fld (F.HIF_STRc_CFG.SIZE_LOG2 c) - ((s.reg (R.HIF_STRc_WR c)).toNat + 2 ^ 32 - (s.reg (R.HIF_STRc_RD c)).toNat) % 2 ^ 32

/-- Bytes of a channel's ring that a block takes, with the PAD before it. -/
def ringNeed (s : State) (c : Nat) (b : WaitBlock) : Nat := (s.recordPad c b).1 + (s.recordPad c b).2

theorem exec_streamRecordWrite_of_enabled {s : State} {c : Fin 32} (on : s.unitOn .hif = true) (master : s.hif.busMaster = true)
    (enabled : s.flag (F.HIF_STRc_CFG.EN c.val) = true) : exec (.streamRecordWrite c) s = .next (s.writeRecord c.val) :=
  congrArg Host.Outcome.next (if_pos (by rw [on, master, enabled]; rfl))

section
variable {s : State} {c : Nat} {b : WaitBlock} (first : s.hif.waiting.find? (fun b => b.chan = c) = some b)
include first

theorem writeRecord_of_full (full : ringFree s c < ringNeed s c b) : s.writeRecord c = s := by
  simp only [State.writeRecord, first]
  exact if_pos (Or.inr full)

/-- What becomes of a block whose record fits. -/
theorem writeRecord_of_fits (fresh : s.expired b = false) (fits : ringNeed s c b ≤ ringFree s c) :
    s.writeRecord c = if b.spans.isEmpty then s.putRecord c b b.data
      else if !s.dmcServes then s.dmcTouch
      else match (State.readSpans (fixedPath .stu) 1 b.spans s).2 with
        | some d => (State.readSpans (fixedPath .stu) 1 b.spans s).1.putRecord c b (b.data ++ d)
        | none => (State.readSpans (fixedPath .stu) 1 b.spans s).1 := by
  simp only [State.writeRecord, first]
  exact (if_neg (not_or.mpr ⟨Bool.eq_false_iff.mp fresh, Nat.not_lt.mpr fits⟩)).trans rfl

section
variable (fresh : s.expired b = false) (fits : ringNeed s c b ≤ ringFree s c)
include fresh fits

theorem writeRecord_of_data (inHand : b.spans = []) : s.writeRecord c = s.putRecord c b b.data :=
  (writeRecord_of_fits first fresh fits).trans (if_pos (List.isEmpty_iff.mpr inHand))

theorem writeRecord_of_not_serves (inDram : b.spans ≠ []) (serves : s.dmcServes = false) : s.writeRecord c = s.dmcTouch :=
  (writeRecord_of_fits first fresh fits).trans ((if_neg (fun empty => inDram (List.isEmpty_iff.mp empty))).trans
    (if_pos (by rw [serves]; rfl)))

theorem writeRecord_of_read {a : State} {d : List Byte} (inDram : b.spans ≠ []) (serves : s.dmcServes = true)
    (read : State.readSpans (fixedPath .stu) 1 b.spans s = (a, some d)) : s.writeRecord c = a.putRecord c b (b.data ++ d) := by
  refine (writeRecord_of_fits first fresh fits).trans ((if_neg (fun empty => inDram (List.isEmpty_iff.mp empty))).trans
    ((if_neg (by rw [serves]; decide)).trans ?_))
  simp only [read]

end

end

theorem exec_streamDrop_of_expired {s : State} {c : Fin 32} {b : WaitBlock}
    (late : s.hif.waiting.find? (fun b => b.chan = c.val ∧ s.expired b) = some b) :
    exec (.streamDrop c) s = .next (({ s with hif := { s.hif with waiting := s.hif.waiting.erase b } } : State).dropBlock c.val) := by
  refine congrArg Host.Outcome.next ?_
  simp only [late]

/-! ### The end of a host-buffer transfer -/

/-- A transfer that brings a chunk of an image to DRAM. -/
def bringsChunk : DmaKind → Bool
  | .imageChunk _ _ => true
  | _ => false

/-- A transfer is in progress no more. -/
def endTransfer (u : State) (b : Transfer) : State := { u with hif := { u.hif with transfers := u.hif.transfers.erase b } }

/-- A failed transfer's range, where it brought a chunk. -/
def lostRange (a : State) (b : Transfer) : State :=
  match b.kind with
  | .imageChunk off _ => a.chunkLost off b.len
  | _ => a

/-- A failed transfer is reported, raises HOST_DMA and answers so. -/
def transferFailed (z : State) (o : Origin) (seq : Word) : State :=
  ((z.post .hif HifCode.hostDma (match o with
    | .session n => n.val
    | .chorus _ => 0)).raise .hif F.HIF_IRQ_STATUS.HOST_DMA).answer o seq HifCode.hostDma Unit.hif.top 0 []

section
variable {s : State} {o : Origin} {seq : Word} {data : List (BitVec 8)} {t : Nat} {b : Transfer}
  (found : (s.at_ t).hif.transfers.find? (fun b => b.origin = o ∧ b.seq = seq) = some b)
include found

theorem exec_hostDmaComplete_of_found (ok : Bool) :
    exec (.hostDmaComplete o seq ok data t) s = .next (if bringsChunk b.kind && !(s.at_ t).dmcServes then (s.at_ t).dmcTouch
      else if ok then (endTransfer (s.at_ t) b).transferDone b data
      else transferFailed (lostRange (endTransfer (s.at_ t) b) b) o seq) := by
  refine congrArg Host.Outcome.next ?_
  simp only [found]
  rfl

/-- A chunk waits while the DMC does not serve. -/
theorem exec_hostDmaComplete_of_waits (ok : Bool) (chunk : bringsChunk b.kind = true) (serves : (s.at_ t).dmcServes = false) :
    exec (.hostDmaComplete o seq ok data t) s = .next (s.at_ t).dmcTouch :=
  (exec_hostDmaComplete_of_found found ok).trans (congrArg Host.Outcome.next (if_pos (by rw [chunk, serves]; rfl)))

theorem exec_hostDmaComplete_of_ends (ok : Bool) (free : bringsChunk b.kind = false ∨ (s.at_ t).dmcServes = true) :
    exec (.hostDmaComplete o seq ok data t) s = .next (if ok then (endTransfer (s.at_ t) b).transferDone b data
      else transferFailed (lostRange (endTransfer (s.at_ t) b) b) o seq) := by
  refine (exec_hostDmaComplete_of_found found ok).trans (congrArg Host.Outcome.next (if_neg ?_))
  rcases free with plain | serves
  · rw [plain]; exact Bool.false_ne_true
  · rw [serves, Bool.not_true, Bool.and_false]; exact Bool.false_ne_true

/-- A transfer that brings no chunk ends well. -/
theorem exec_hostDmaComplete_of_done {z : State} (plain : bringsChunk b.kind = false)
    (done : (endTransfer (s.at_ t) b).transferDone b data = z) : exec (.hostDmaComplete o seq true data t) s = .next z :=
  (exec_hostDmaComplete_of_ends found true (Or.inl plain)).trans (congrArg Host.Outcome.next done)

/-- A failed transfer that brings no chunk changes nothing else. -/
theorem exec_hostDmaComplete_of_failed (plain : ∀ off f, b.kind ≠ .imageChunk off f) :
    exec (.hostDmaComplete o seq false data t) s = .next (transferFailed (endTransfer (s.at_ t) b) o seq) := by
  have notChunk : bringsChunk b.kind = false ∧ lostRange (endTransfer (s.at_ t) b) b = endTransfer (s.at_ t) b := by
    unfold lostRange
    cases kind : b.kind with
    | imageChunk off f => exact absurd kind (plain off f)
    | calAppend | toHost | errorLog | vlog | forward => exact ⟨rfl, rfl⟩
  refine (exec_hostDmaComplete_of_ends found false (Or.inl notChunk.1)).trans (congrArg Host.Outcome.next ?_)
  exact congrArg (transferFailed · o seq) notChunk.2

theorem exec_hostDmaComplete_of_chunk_failed {off : Nat} {f : Bool} (kind : b.kind = .imageChunk off f)
    (serves : (s.at_ t).dmcServes = true) :
    exec (.hostDmaComplete o seq false data t) s = .next (transferFailed ((endTransfer (s.at_ t) b).chunkLost off b.len) o seq) := by
  refine (exec_hostDmaComplete_of_ends found false (Or.inr serves)).trans (congrArg Host.Outcome.next ?_)
  exact congrArg (transferFailed · o seq) (by simp only [lostRange, kind])

end

theorem smbusBlockRead_eq_of_running {s : State} {t : Nat} (cmd : BitVec 8) (running : (s.at_ t).glb.porHeld = false) :
    exec (.smbusBlockRead cmd t) s = .next ((s.at_ t).give (.smbus (match (s.at_ t).smbusBlock cmd.toNat with
      | some b => (s.at_ t).smbusFrame cmd b
      | none => []))) :=
  congrArg Host.Outcome.next (if_neg (Bool.eq_false_iff.mp running))

/-- Settles O56: a channel by its ring and its waiting block, a transfer by what it was for and how it ended, SMBus by its command. -/
theorem streamsComplete : Obligations.StreamsComplete := by
  intro s src c w cmd t o seq data x u
  refine ⟨fun on => ⟨fun was set => ?enable, exec_streamEnable_of_clear on, exec_streamRdWrite_of_on on,
      fun b master enabled first fresh => ?record⟩,
    fun b late => exec_streamDrop_of_expired late, fun b found => ?transfer, fun running => ?smbus⟩
  case enable =>
    exact ⟨fun ok => (exec_streamEnable_of_set on was set).trans (congrArg Host.Outcome.next (if_pos ok)),
      fun bad => (exec_streamEnable_of_set on was set).trans (congrArg Host.Outcome.next (if_neg (Bool.eq_false_iff.mp bad)))⟩
  case record =>
    have run : exec (.streamRecordWrite c) s = .next (s.writeRecord c.val) := exec_streamRecordWrite_of_enabled on master enabled
    exact ⟨fun full => run.trans (congrArg Host.Outcome.next (writeRecord_of_full first full)),
      fun fits => ⟨
        fun inHand => run.trans (congrArg Host.Outcome.next (writeRecord_of_data first fresh fits inHand)),
        fun a d inDram serves read => run.trans (congrArg Host.Outcome.next (writeRecord_of_read first fresh fits inDram serves read)),
        fun inDram serves => run.trans (congrArg Host.Outcome.next (writeRecord_of_not_serves first fresh fits inDram serves))⟩⟩
  case transfer =>
    intro a ends done
    refine ⟨?toHost, ?errorLog, ?vlog, ?forward, ?chunk, ?cal, ?waits, ?plainFails, ?chunkFails⟩
    case toHost =>
      exact fun d p kind => exec_hostDmaComplete_of_done found (congrArg bringsChunk kind) (by simp only [State.transferDone, kind]; rfl)
    case errorLog =>
      exact fun d p keys kind => exec_hostDmaComplete_of_done found (congrArg bringsChunk kind) (by simp only [State.transferDone, kind]; rfl)
    case vlog =>
      exact fun d p n kind => exec_hostDmaComplete_of_done found (congrArg bringsChunk kind) (by simp only [State.transferDone, kind]; rfl)
    case forward =>
      exact fun n kind => exec_hostDmaComplete_of_done found (congrArg bringsChunk kind) (by simp only [State.transferDone, kind]; rfl)
    case chunk =>
      exact fun off f kind serves => (exec_hostDmaComplete_of_ends found true (Or.inr serves)).trans
        (congrArg Host.Outcome.next (show (endTransfer u b).transferDone b data = _ by simp only [State.transferDone, kind]; rfl))
    case cal =>
      exact fun x kind => exec_hostDmaComplete_of_done found (congrArg bringsChunk kind) (by simp only [State.transferDone, kind]; rfl)
    case waits =>
      exact fun off f kind serves => ⟨exec_hostDmaComplete_of_waits found true (congrArg bringsChunk kind) serves,
        exec_hostDmaComplete_of_waits found false (congrArg bringsChunk kind) serves⟩
    case plainFails => exact exec_hostDmaComplete_of_failed found
    case chunkFails => exact fun off f kind serves => exec_hostDmaComplete_of_chunk_failed found kind serves
  case smbus =>
    have run := smbusBlockRead_eq_of_running cmd running
    exact ⟨fun b answered => run.trans (by simp only [show (s.at_ t).smbusBlock cmd.toNat = some b from answered]; rfl),
      fun unknown => run.trans (by simp only [show (s.at_ t).smbusBlock cmd.toNat = none from unknown]; rfl)⟩

end Sys2Proof.Laws
end

/-! PROOFS. The cascade: training, loss of links and members, and cascade-wide commits (19 R486-R495). -/

section
namespace Sys2Proof.Laws

open Sys2Proof Sys2Proof.Machine

/-! ### Training -/

/-- A candidate that no neighbour has beaten is the head. -/
theorem head_stands {s : State} (cand : s.flag F.CSP_CFG.HEAD = true) (unbeaten : s.csp.beaten = false) :
    (s.flag F.CSP_CFG.HEAD && !s.csp.beaten) = true := by rw [cand, unbeaten]; rfl

theorem not_head_stands {s : State} (noCand : s.flag F.CSP_CFG.HEAD = false) : ¬ (s.flag F.CSP_CFG.HEAD && !s.csp.beaten) = true := by
  rw [noCand]; exact Bool.false_ne_true

section
variable {s : State} (on : s.unitOn .csp = true)
include on

theorem exec_train_of_not_off {src : Src} (up : s.cspState ≠ Csp.off) : exec (.train src) s = .next s.cspTrain :=
  congrArg Host.Outcome.next ((onUnit_on s (.reg src) .csp _ _ on).trans (if_neg up))

section
variable (training : s.cspState = Csp.training)
include training

/-- The guard of the training commands. -/
theorem not_apart_of_training : ¬ (!s.unitOn .csp || s.cspState != Csp.training) = true := by rw [on, training]; decide

section
variable (cand : s.flag F.CSP_CFG.HEAD = true) (unbeaten : s.csp.beaten = false)
include cand unbeaten

theorem exec_hello_of_lower {port : Fin 2} {die : BitVec 128} (lower : die.toNat < s.dieId) :
    exec (.hello port die true) s = .next ((s.onCsp (fun c => { c with beaten := true })).cspEvent CspCode.headConflict) :=
  congrArg Host.Outcome.next (if_pos (by rw [on, training, cand, unbeaten, decide_eq_true lower]; rfl))

/-- The token comes back to a head that has not numbered on. -/
theorem exec_enum_of_closed_ring {i : Fin 16} (last : s.csp.last = 15) :
    exec (.enum 1 i) s = .next (s.onCsp (fun c => { c with ring := true })) :=
  congrArg Host.Outcome.next ((if_neg (not_apart_of_training on training)).trans ((if_pos (head_stands cand unbeaten)).trans
    (if_pos ⟨rfl, last⟩)))

theorem exec_enumTimeout_of_open_ring {i : Fin 16} (noRing : s.csp.ring = false) :
    exec (.enumTimeout i) s = .next ((s.onCsp (fun c => { c with last := i.val })).give (.chorus 1 (chorusFrame 2 i.val 0 0 0 []))) :=
  congrArg Host.Outcome.next (if_pos (by rw [on, training, cand, unbeaten, noRing]; rfl))

end

section
variable {port : Fin 2} {i : Fin 16} (noCand : s.flag F.CSP_CFG.HEAD = false) (noIndex : s.csp.index = none)
include noCand noIndex

/-- What the token does at a chip that has no index yet. -/
theorem exec_enum_of_unnumbered : exec (.enum port i) s = .next (if i.val = 15 then
      (s.onCsp (fun c => { c with full := true })).cspEvent CspCode.full
    else (s.onCsp (fun c => { c with index := some (i.val + 1), up := port.val })).give
      (.chorus (1 - port.val) (chorusFrame 2 (i.val + 1) 0 0 0 []))) :=
  congrArg Host.Outcome.next ((if_neg (not_apart_of_training on training)).trans ((if_neg (not_head_stands noCand)).trans
    (if_neg (by rw [noIndex]; decide))))

end

/-- The ports as training leaves them, in a cascade that holds nothing of an earlier one. -/
def trainedPorts (s : State) (up : BitVec 2) : State :=
  (List.range 2).foldl (fun (a : State) p =>
    (a.setFld (F.CSP_PORTp_STATUS.LINK p) (if up.getLsbD p then 2 else 0)).setFld (F.CSP_PORTp_STATUS.LANES p)
      (if up.getLsbD p then 15 else 0)) s.cspForget

/-- The identity of the group: its head's die identity. -/
def groupIdentity (a : State) (d : Nat) : State := (List.range 4).foldl (fun b i => b.setReg (R.CSP_GROUP_IDi i) (w32 (d / 2 ^ (32 * i)))) a

/-- A chip takes its place in the cascade. -/
def joinCascade (a : State) (st n : Nat) : State :=
  ((a.setFld F.CSP_STATUS.STATE st).setFld F.CSP_STATUS.INDEX n).setFlag F.CSP_STATUS.RING a.csp.ring

section
variable {map : BitVec 16} {die : BitVec 128} {up : BitVec 2}

theorem exec_trainingEnd_of_head (cand : s.flag F.CSP_CFG.HEAD = true) (unbeaten : s.csp.beaten = false) :
    exec (.trainingEnd map die up) s = .next (((groupIdentity (joinCascade (trainedPorts s up) Csp.head 0) s.dieId).setMap
      (map.toNat ||| 1)).onCsp (fun c => { c with period := s.now })).cspVote :=
  congrArg Host.Outcome.next ((if_neg (not_apart_of_training on training)).trans (if_pos (head_stands cand unbeaten)))

theorem exec_trainingEnd_of_member {n : Nat} (noCand : s.flag F.CSP_CFG.HEAD = false) (given : s.csp.index = some n) :
    exec (.trainingEnd map die up) s = .next
      ((groupIdentity (joinCascade (trainedPorts s up) Csp.member n) die.toNat).setMap (map.toNat ||| 1 ||| 2 ^ n)).cspVote := by
  refine congrArg Host.Outcome.next ((if_neg (not_apart_of_training on training)).trans ((if_neg (not_head_stands noCand)).trans ?_))
  simp only [given]
  rfl

/-- A chip with no index stands alone. -/
theorem exec_trainingEnd_of_no_index (noCand : s.flag F.CSP_CFG.HEAD = false) (given : s.csp.index = none) :
    let b := (((trainedPorts s up).setFld F.CSP_STATUS.STATE Csp.standalone).setFld F.CSP_STATUS.INDEX 0).setMap 0
    exec (.trainingEnd map die up) s = .next (if s.csp.full then b else b.cspEvent CspCode.noHead).cspVote := by
  refine congrArg Host.Outcome.next ((if_neg (not_apart_of_training on training)).trans ((if_neg (not_head_stands noCand)).trans ?_))
  simp only [given]
  rfl

end

end

end

/-! ### Loss -/

section
variable {s : State} {port : Fin 2} (on : s.unitOn .csp = true)
include on

theorem unit_not_apart : ¬ (!s.unitOn .csp) = true := by rw [on]; decide

theorem exec_memberLost_of_head {m : Fin 16} (head : s.cspState = Csp.head) (other : m.val ≠ 0)
    (inMap : bitAt (s.fld F.CSP_MAP.MAP) m.val = true) : exec (.memberLost m) s = .next
      ((((((s.setMap (s.fld F.CSP_MAP.MAP - 2 ^ m.val)).post .csp CspCode.memberLost m.val).raise .csp F.CSP_IRQ_STATUS.MEMBER_LOST).onCsp
        (fun c => { c with sent := c.sent.filter (fun x => x.1 != m.val) })).cspNoMember (· == m.val)).ccDrop) :=
  congrArg Host.Outcome.next ((if_neg (unit_not_apart on)).trans (if_pos ⟨head, other, inMap⟩))

theorem exec_memberLost_of_member (member : s.cspState = Csp.member) :
    exec (.memberLost 0) s = .next ((((s.post .csp CspCode.headLost 0).raise .csp F.CSP_IRQ_STATUS.MEMBER_LOST).onCsp
      (fun c => { c with prepare := none })).cspDiscard.cspTrain) := by
  refine congrArg Host.Outcome.next ((if_neg (unit_not_apart on)).trans ((if_neg ?_).trans (if_pos ?_)))
  · exact fun lost => lost.2.1 rfl
  · exact ⟨member, rfl⟩

/-- A head whose link has stayed down trains anew. -/
theorem exec_linkDown_of_later (head : s.cspState = Csp.head) (isDown : s.fld (F.CSP_PORTp_STATUS.LINK port.val) = 0) :
    exec (.linkDown port true) s = .next s.cspTrain := by
  refine congrArg Host.Outcome.next ((if_neg (unit_not_apart on)).trans ((if_pos rfl).trans (if_pos ?_)))
  exact ⟨Or.inl head, isDown⟩

theorem exec_linkDown_now : exec (.linkDown port false) s = .next (s.cspLinkDown port.val) :=
  congrArg Host.Outcome.next (if_neg (unit_not_apart on))

end

/-- A port shows its link down. -/
def portDown (s : State) (port : Nat) : State :=
  (s.setFld (F.CSP_PORTp_STATUS.LINK port) 0).setFld (F.CSP_PORTp_STATUS.LANES port) 0

section
variable {s : State} {port : Nat} (up : s.cspState ≠ Csp.off)
include up

/-- A head or a member waits for the link to come back. -/
theorem cspLinkDown_of_member (inCascade : (portDown s port).cspState = Csp.head ∨ (portDown s port).cspState = Csp.member) :
    s.cspLinkDown port = portDown s port := (if_neg up).trans (if_pos inCascade)

theorem cspLinkDown_of_not_member (notHead : (portDown s port).cspState ≠ Csp.head) (notMember : (portDown s port).cspState ≠ Csp.member) :
    s.cspLinkDown port = (portDown s port).cspTrain := (if_neg up).trans (if_neg (not_or.mpr ⟨notHead, notMember⟩))

end

/-! ### Cascade-wide commits -/

/-- The head's commit begins: its job, and a PREPARE to every member of the map. -/
def ccBegun (a : State) : State :=
  (List.range 16).foldl (fun x k => if k ≠ 0 ∧ bitAt (a.fld F.CSP_MAP.MAP) k then x.chorusSend 7 k ((a.csp.number + 1) % 2 ^ 32) [] else x)
    (a.onCsp (fun c => { c with number := (a.csp.number + 1) % 2 ^ 32
                                job := some ⟨(a.csp.number + 1) % 2 ^ 32, a.fld F.CSP_MAP.MAP, [], false, a.now⟩ }))

theorem ccStart_of_ready {a : State} (free : a.csp.job = none) (ready : (ccBegun a).ancState = Anc.ready) (anc : (ccBegun a).unitOn .anc = true) :
    a.ccStart = (((ccBegun a).onAnc (fun x => { x with waits := x.waits ++ [.cascade ((a.csp.number + 1) % 2 ^ 32)] })).wantCommit).ancStep := by
  refine (if_neg (by rw [free]; decide)).trans (if_neg (not_or.mpr ⟨fun late => late ready, ?_⟩))
  show ¬ (!(ccBegun a).unitOn .anc) = true
  rw [anc]; decide

theorem exec_ccReq_of_head {s : State} {src : Src} (on : s.unitOn .csp = true) (head : s.cspState = Csp.head) :
    exec (.ccReq src) s = .next s.ccStart :=
  congrArg Host.Outcome.next ((onUnit_on s (.reg src) .csp _ _ on).trans (if_pos head))

theorem exec_prepared_of_awaited {s : State} {m : Fin 16} {cc : Word} {commit last : Nat} {j : CcJob} (on : s.unitOn .csp = true)
    (head : s.cspState = Csp.head) (job : s.csp.job = some j) (number : j.cc = cc.toNat) (inMap : bitAt j.map m.val = true)
    (first : j.replies.any (·.1 == m.val) = false) : exec (.prepared m cc commit last) s = .next ((({ s with csp := { s.csp with
      job := some { j with replies := j.replies ++ [(m.val, commit % 2 ^ 64, last % 2 ^ 64)] } } } : State).ccReady).ancStep) := by
  refine congrArg Host.Outcome.next ?_
  simp only [job]
  exact if_pos (by rw [on, head, number, inMap, first, beq_self_eq_true, beq_self_eq_true]; rfl)

theorem exec_prepare_of_member {s : State} {cc : Word} (on : s.unitOn .csp = true) (member : s.cspState = Csp.member)
    (anc : s.unitOn .anc = true) (ready : s.ancState = Anc.ready) : exec (.prepare cc) s = .next
      ((((s.onCsp (fun c => { c with prepare := some cc.toNat })).onAnc (fun a => { a with waits := a.waits ++ [.cascade cc.toNat] })).wantCommit).ancStep) :=
  congrArg Host.Outcome.next (if_pos (by rw [on, member, anc, ready]; rfl))

section
variable {s : State} {t : Nat}

theorem exec_ccPeriodExpiry_of_due (on : (s.at_ t).unitOn .csp = true) (head : (s.at_ t).cspState = Csp.head)
    (periodic : (s.at_ t).fld F.CSP_CFG.CC_PERIOD ≠ 0)
    (due : (s.at_ t).csp.period + (s.at_ t).fld F.CSP_CFG.CC_PERIOD * second ≤ (s.at_ t).now) :
    exec (.ccPeriodExpiry t) s = .next ((s.at_ t).onCsp (fun c => { c with period := (s.at_ t).now })).ccStart :=
  congrArg Host.Outcome.next (if_pos (by rw [on, head, bne_iff_ne.mpr periodic, decide_eq_true due]; rfl))

section
variable {j : CcJob} (job : (s.at_ t).csp.job = some j)
include job

/-- A commit is late where its time has passed. -/
theorem exec_ccTimeout_of_job : exec (.ccTimeout t) s
    = .next (if j.begun + (s.at_ t).fld F.CSP_CFG.CC_TIMEOUT * msec ≤ (s.at_ t).now then (s.at_ t).ccDrop else s.at_ t) := by
  refine congrArg Host.Outcome.next ?_
  simp only [job]

theorem ccDrop_of_appended (appended : j.appended = true) : (s.at_ t).ccDrop = s.at_ t := by
  simp only [State.ccDrop, job, appended, if_true]

theorem ccDrop_of_open (waits : j.appended = false) : (s.at_ t).ccDrop
    = (({ s.at_ t with csp := { (s.at_ t).csp with job := none } } : State).post .csp 8 0).raise .csp F.CSP_IRQ_STATUS.CC_ABORTED := by
  simp only [State.ccDrop, job, waits, State.ccAbort, Bool.false_eq_true, if_false]

theorem exec_ccTimeout_of_kept
    (kept : (s.at_ t).now < j.begun + (s.at_ t).fld F.CSP_CFG.CC_TIMEOUT * msec ∨ j.appended = true) :
    exec (.ccTimeout t) s = .next (s.at_ t) := by
  refine (exec_ccTimeout_of_job job).trans (congrArg Host.Outcome.next ?_)
  rcases kept with early | appended
  · exact if_neg (Nat.not_le.mpr early)
  · rw [ccDrop_of_appended job appended, ite_self]

theorem exec_ccTimeout_of_late (waits : j.appended = false)
    (late : j.begun + (s.at_ t).fld F.CSP_CFG.CC_TIMEOUT * msec ≤ (s.at_ t).now) : exec (.ccTimeout t) s
      = .next ((({ s.at_ t with csp := { (s.at_ t).csp with job := none } } : State).post .csp 8 0).raise .csp F.CSP_IRQ_STATUS.CC_ABORTED) :=
  (exec_ccTimeout_of_job job).trans (congrArg Host.Outcome.next ((if_pos late).trans (ccDrop_of_open job waits)))

end

end

/-- Settles O57: by the state of the cascade and the place of this chip in it. -/
theorem cascadeControlComplete : Obligations.CascadeControlComplete := by
  intro s src map die up port m i cc commit last t on u start down
  refine ⟨exec_train_of_not_off on, fun training => ⟨?asHead, ?asMember, ?trained⟩, fun head => ⟨?begin, ?busy, ?replies, ?lost, ?later⟩,
    ?period, fun j job kept => exec_ccTimeout_of_kept job kept, fun j job waits late => exec_ccTimeout_of_late job waits late,
    fun member => ⟨exec_prepare_of_member on member, exec_memberLost_of_member on member⟩, ?linkDown,
    congrArg Host.Outcome.next (onUnit_on s (.reg src) .csp _ _ on), congrArg Host.Outcome.next (onUnit_on s (.reg src) .csp _ _ on)⟩
  case asHead =>
    exact fun cand unbeaten => ⟨exec_hello_of_lower on training cand unbeaten, exec_enum_of_closed_ring on training cand unbeaten,
      exec_enumTimeout_of_open_ring on training cand unbeaten⟩
  case asMember =>
    exact fun noCand noIndex =>
      ⟨fun full => (exec_enum_of_unnumbered on training noCand noIndex).trans (congrArg Host.Outcome.next (if_pos full)),
        fun room => (exec_enum_of_unnumbered on training noCand noIndex).trans (congrArg Host.Outcome.next (if_neg room))⟩
  case trained =>
    exact ⟨exec_trainingEnd_of_head on training, fun n noCand given => exec_trainingEnd_of_member on training noCand given,
      exec_trainingEnd_of_no_index on training⟩
  case begin =>
    exact fun free ready anc => (exec_ccReq_of_head on head).trans (congrArg Host.Outcome.next (ccStart_of_ready free ready anc))
  case busy => exact fun running => (exec_ccReq_of_head on head).trans (congrArg Host.Outcome.next (if_pos running))
  case replies => exact fun j job number inMap first => exec_prepared_of_awaited on head job number inMap first
  case lost => exact exec_memberLost_of_head on head
  case later => exact exec_linkDown_of_later on head
  case period =>
    exact fun upOn head periodic due free ready anc => (exec_ccPeriodExpiry_of_due upOn head periodic due).trans
      (congrArg Host.Outcome.next (ccStart_of_ready free ready anc))
  case linkDown =>
    exact fun running =>
      ⟨fun inCascade => (exec_linkDown_now on).trans (congrArg Host.Outcome.next (cspLinkDown_of_member running inCascade)),
        fun notHead notMember => (exec_linkDown_now on).trans (congrArg Host.Outcome.next (cspLinkDown_of_not_member running notHead notMember))⟩

end Sys2Proof.Laws
end

/-! PROOFS. Chorus frames: their way and their checks, what each does here, and retransmissions (19 R484-R492). -/

section
namespace Sys2Proof.Laws

open Sys2Proof Sys2Proof.Machine

/-! ### The way of a frame -/

/-- A frame that its checks pass advances the expected sequence of its pair. -/
def frameTaken (s : State) (b : List Byte) : State := s.setPairRx (Cf.src b) { s.pairRx (Cf.src b) with expect := (s.pairRx (Cf.src b)).expect + 1 }

section
variable {s : State} {port : Nat} {b : List Byte} (act : State → State) (on : s.unitOn .csp = true)
  (up : s.cspState = Csp.head ∨ s.cspState = Csp.member)
include on up

/-- Frames reach a head or a member. -/
theorem frame_reaches : ¬ (!s.unitOn .csp || !(s.cspState == Csp.head || s.cspState == Csp.member)) = true := by
  rcases up with head | member
  · rw [on, head]; decide
  · rw [on, member]; decide

theorem cspFrame_of_away (away : Cf.dst b ≠ s.fld F.CSP_STATUS.INDEX ∧ bitAt (s.fld F.CSP_MAP.MAP) (Cf.dst b) = true) :
    s.cspFrame port b act = s.give (.chorus (1 - port) b) := (if_neg (frame_reaches on up)).trans (if_pos away)

section
variable (here : ¬ (Cf.dst b ≠ s.fld F.CSP_STATUS.INDEX ∧ bitAt (s.fld F.CSP_MAP.MAP) (Cf.dst b) = true))
include here

theorem cspFrame_of_bad {k : Nak} (bad : s.cspCheck b = some k) : s.cspFrame port b act = s.cspNak b k := by
  refine (if_neg (frame_reaches on up)).trans ((if_neg here).trans ?_)
  simp only [bad]

theorem cspFrame_of_good (good : s.cspCheck b = none) : s.cspFrame port b act = act (frameTaken s b) := by
  refine (if_neg (frame_reaches on up)).trans ((if_neg here).trans ?_)
  simp only [good]
  rfl

end

end

/-! ### What a frame does -/

/-- A forwarded request becomes an accepted request. -/
def requestJoined (a : State) (b : List Byte) : State :=
  let p := Cf.payload b
  { a with hif := { a.hif with reqs := a.hif.reqs ++ [⟨.chorus (Fin.ofNat 16 (Cf.src b)), Cf.seq b, field p 2 2, field p 5 1,
    (p.take (field p 0 2)).drop 16, false, (field p 4 1, w32 (field p 8 4))⟩] } }

theorem exec_request_of_type {s : State} {port : Fin 2} {b : List Byte} (type : Cf.type b = 3) :
    exec (.request port b) s = .next (s.cspFrame port.val b (requestJoined · b)) := congrArg Host.Outcome.next (if_pos (Or.inl type))

/-- The request that an ANSWER ends, with what was kept for it. -/
def answerTaken (a : State) (r : Req) (seq : Word) : State :=
  { a with
    hif := { a.hif with reqs := a.hif.reqs.erase r }
    csp := { a.csp with
      sent := a.csp.sent.filter (fun x => !(x.2.2.1 == r.origin && x.2.2.2 == seq))
      data := a.csp.data.filter (fun d => !(d.1 == r.origin && d.2.1 == seq)) } }

/-- What an ANSWER does. -/
def answerActs (b : List Byte) (a : State) : State :=
  let p := Cf.payload b
  match a.hif.reqs.find? (fun r => r.origin = .session (Fin.ofNat 256 (field p 4 1)) ∧ r.seq = w32 (field p 8 4) ∧ r.member = Cf.src b) with
  | none => a
  | some r =>
    let z := answerTaken a r (w32 (field p 8 4))
    if r.orphan then z else z.putAnswer (field p 4 1) (modAt (fitBytes 64 p) 7 (· &&& 0x7F))

theorem exec_answer_of_type {s : State} {port : Fin 2} {b : List Byte} (type : Cf.type b = 4) :
    exec (.answer port b) s = .next (s.cspFrame port.val b (answerActs b)) := congrArg Host.Outcome.next (if_pos type)

theorem answerActs_of_waiting {a : State} {b : List Byte} {r : Req}
    (waiting : a.hif.reqs.find? (fun r => r.origin = .session (Fin.ofNat 256 (field (Cf.payload b) 4 1))
      ∧ r.seq = w32 (field (Cf.payload b) 8 4) ∧ r.member = Cf.src b) = some r) (awaited : r.orphan = false) :
    let p := Cf.payload b
    answerActs b a = (answerTaken a r (w32 (field p 8 4))).putAnswer (field p 4 1) (modAt (fitBytes 64 p) 7 (· &&& 0x7F)) := by
  simp only [answerActs, waiting]
  exact if_neg (Bool.eq_false_iff.mp awaited)

/-- The bytes gathered for a request. -/
def gathered (a : State) (o : Origin) (seq : Word) : List Byte :=
  match a.csp.data.find? (fun d => d.1 == o && d.2.1 == seq) with
  | some d => d.2.2
  | none => []

/-- The bytes gathered for a request with those of one frame more. -/
def dataKept (a : State) (o : Origin) (seq : Word) (b : List Byte) : State :=
  a.onCsp (fun c => { c with data := c.data.filter (fun d => !(d.1 == o && d.2.1 == seq)) ++ [(o, seq, gathered a o seq ++ Cf.payload b)] })

/-- What DATA does. -/
def dataActs (b : List Byte) (o : Origin) (seq : Word) (a : State) : State :=
  match a.request o seq with
  | none => a
  | some r => if r.here then dataKept a o seq b
    else (dataKept a o seq b).give (.hostWrite (field r.payload (hbOffset r.opcode) 8 + (gathered a o seq).length) (Cf.payload b))

theorem exec_data_of_type {s : State} {port : Fin 2} {b : List Byte} {o : Origin} {seq : Word} (type : Cf.type b = 5) :
    exec (.data port b o seq) s = .next (s.cspFrame port.val b (dataActs b o seq)) := congrArg Host.Outcome.next (if_pos type)

theorem dataActs_of_request {a : State} {b : List Byte} {o : Origin} {seq : Word} {r : Req} (named : a.request o seq = some r) :
    dataActs b o seq a = if r.here then dataKept a o seq b
      else (dataKept a o seq b).give (.hostWrite (field r.payload (hbOffset r.opcode) 8 + (gathered a o seq).length) (Cf.payload b)) := by
  simp only [dataActs, named]

/-! ### Partner traces -/

/-- The bytes of a partner's record with those of one frame more. -/
def traceGathered (a : State) (b : List Byte) : State := a.onCsp (fun c => { c with trace := c.trace ++ Cf.payload b })

/-- What TRACE does. -/
def traceActs (b : List Byte) (a : State) : State :=
  if !a.flag F.CSP_DE_CFG.EN then a
  else
    let g := traceGathered a b
    if g.traceWhole then g.withDram g.traceSlot (min (2 ^ 21) g.csp.trace.length) State.traceStore else g

theorem exec_trace_of_type {s : State} {port : Fin 2} {b : List Byte} (type : Cf.type b = 6) :
    exec (.trace port b) s = .next (s.cspFrame port.val b (traceActs b)) := congrArg Host.Outcome.next (if_pos type)

section
variable {a : State} {b : List Byte} (enabled : a.flag F.CSP_DE_CFG.EN = true)
include enabled

theorem traceActs_of_part (part : (traceGathered a b).csp.trace.length < 80
      ∨ (traceGathered a b).csp.trace.length < 80 + 8 * field (traceGathered a b).csp.trace 64 4) :
    traceActs b a = traceGathered a b := by
  refine (if_neg (by rw [enabled]; decide)).trans (if_neg ?_)
  rw [State.traceWhole, Bool.and_eq_true, decide_eq_true_eq, decide_eq_true_eq]
  omega

theorem traceActs_of_whole (header : 80 ≤ (traceGathered a b).csp.trace.length)
    (whole : 80 + 8 * field (traceGathered a b).csp.trace 64 4 ≤ (traceGathered a b).csp.trace.length) :
    let g := traceGathered a b
    traceActs b a = g.withDram g.traceSlot (min (2 ^ 21) g.csp.trace.length) State.traceStore := by
  refine (if_neg (by rw [enabled]; decide)).trans (if_pos ?_)
  rw [State.traceWhole, Bool.and_eq_true, decide_eq_true_eq, decide_eq_true_eq]
  exact ⟨header, whole⟩

end

/-- The oldest record leaves the buffer for its slot. -/
def traceMoved (g : State) : State :=
  let n := 80 + 8 * field g.csp.trace 64 4
  (g.onCsp (fun c => { c with trace := c.trace.drop n, slot := 1 - c.slot })).dramWrite (fixedPath .csp) 2 g.traceSlot
    (g.csp.trace.take (min n (2 ^ 21)))

/-- The thermal group's lowest member is rung, where there is one. -/
def ringThermal (z : State) : State :=
  match z.thermEngine with
  | some e => match z.streamOf e with
    | some st => z.setPend st 2
    | none => z
  | none => z

theorem traceStore_eq (g : State) : g.traceStore = ringThermal (traceMoved g) := by
  unfold State.traceStore
  extract_lets n z
  have moved : z = traceMoved g := rfl
  refine Eq.trans ?_ (congrArg ringThermal moved)
  clear moved
  clear_value z
  unfold ringThermal
  -- `dsimp` closes the second case itself where both sides share one matcher, as in the single text.
  cases z.thermEngine with
  | none => rfl
  | some e => dsimp only <;> cases z.streamOf e <;> rfl

theorem ringThermal_of_no_engine {z : State} (noEngine : z.thermEngine = none) : ringThermal z = z := by
  unfold ringThermal
  rw [noEngine]

theorem ringThermal_of_engine {z : State} {e st : Nat} (engine : z.thermEngine = some e) (stream : z.streamOf e = some st) :
    ringThermal z = z.setPend st 2 := by
  unfold ringThermal
  rw [engine]
  dsimp only
  rw [stream]

/-! ### NAKs -/

/-- A request leaves the accepted requests. -/
def requestGone (z : State) (r : Req) : State := { z with hif := { z.hif with reqs := z.hif.reqs.erase r } }

/-- The SEQ that a session expects; 0 where it is closed. -/
def expectedSeq (d : State) (n : Nat) : Word :=
  match d.session n with
  | some x => x.expect
  | none => 0

theorem expectedSeq_toNat (d : State) (n : Nat) : (expectedSeq d n).toNat = ((d.session n).map (fun x => x.expect.toNat) |>.getD 0) := by
  unfold expectedSeq
  cases d.session n <;> rfl

/-- A request of session `n` ends with the NAK in frame `b`, where its session still waits. -/
def requestNaked (z : State) (b : List Byte) (r : Req) (n : Nat) : State :=
  let d := requestGone z r
  if r.orphan then d
  else d.putAnswer n (answerSlot r true false (field (Cf.payload b) 0 1) 18 0
    (leBytes 4 (expectedSeq d n).toNat ++ leBytes 2 r.opcode ++ [0, 0]))

theorem requestNaked_of_awaited {z : State} {b : List Byte} {r : Req} {n : Nat} (awaited : r.orphan = false) :
    let d := requestGone z r
    requestNaked z b r n = d.putAnswer n (answerSlot r true false (field (Cf.payload b) 0 1) 18 0
      (leBytes 4 ((d.session n).map (fun x => x.expect.toNat) |>.getD 0) ++ leBytes 2 r.opcode ++ [0, 0])) := by
  intro d
  rw [← expectedSeq_toNat]
  exact if_neg (Bool.eq_false_iff.mp awaited)

/-- A frame that this chip sent is no more on its way. -/
def frameNaked (s : State) (y : Nat × Nat × Origin × Word) : State := s.onCsp (fun c => { c with sent := c.sent.erase y })

section
variable {s : State} {b : List Byte} {y : Nat × Nat × Origin × Word} (on : s.unitOn .csp = true) (type : Cf.type b = 9)
  (sent : s.csp.sent.find? (fun x => x.1 == Cf.src b && x.2.1 == (Cf.seq b).toNat) = some y)
include on type sent

theorem exec_chorusNak_of_answered (answered : (frameNaked s y).request y.2.2.1 y.2.2.2 = none) :
    exec (.chorusNak b) s = .next (frameNaked s y) := by
  refine congrArg Host.Outcome.next ((if_pos (by rw [on, type]; rfl)).trans ?_)
  rw [frameNaked] at *
  simp only [sent, answered]

theorem exec_chorusNak_of_waiting {r : Req} {n : Fin 256} (waiting : (frameNaked s y).request y.2.2.1 y.2.2.2 = some r)
    (ofSession : y.2.2.1 = .session n) : exec (.chorusNak b) s = .next (requestNaked (frameNaked s y) b r n.val) := by
  refine congrArg Host.Outcome.next ((if_pos (by rw [on, type]; rfl)).trans ?_)
  rw [ofSession] at waiting
  rw [frameNaked] at *
  simp only [sent, ofSession, waiting]
  rfl

end

/-! ### Retransmissions -/

section
variable {s : State} {port : Fin 2} {made : Fin 9} (on : s.unitOn .csp = true) (running : s.cspState ≠ Csp.off)
include on running

theorem not_silent : ¬ (!s.unitOn .csp || s.cspState == Csp.off) = true := by rw [on, beq_false_of_ne running]; decide

theorem exec_hopRetransmit_of_more (more : made.val < 8) :
    exec (.hopRetransmit port made) s = .next (s.count (F.CSP_PORTp_STATUS.RETRY port.val) 1) :=
  congrArg Host.Outcome.next ((if_neg (not_silent on running)).trans (if_pos more))

/-- The ninth failure takes the link down. -/
theorem exec_hopRetransmit_of_last (last : made.val = 8) : exec (.hopRetransmit port made) s = .next (s.cspLinkDown port.val) := by
  refine congrArg Host.Outcome.next ((if_neg (not_silent on running)).trans (if_neg ?_))
  rw [last]; decide

theorem exec_helloTimer_of_running : exec (.helloTimer port) s = .next (s.give (.chorus port.val
    (chorusFrame 1 (s.fld F.CSP_STATUS.INDEX) 0 0 0 (leBytes 16 s.dieId ++ leBytes 1 (s.fld F.CSP_CFG.HEAD))))) :=
  congrArg Host.Outcome.next (if_pos (by rw [on, bne_iff_ne.mpr running]; rfl))

end

/-- Settles O58: a frame by where it goes and by its type, a NAK by the request it names, a link by its failures. -/
theorem cascadeFramesComplete : Obligations.CascadeFramesComplete := by
  intro s port b o seq made on x a p up away
  refine ⟨fun isUp isAway type => ?passes, fun isUp here type k bad => ?refused, fun isUp here good => ?acts, fun y type sent => ?nak,
    congrArg Host.Outcome.next (if_pos on), fun running => ⟨exec_hopRetransmit_of_more on running, fun last => ?ninth,
      exec_helloTimer_of_running on running⟩⟩
  case passes => exact (exec_request_of_type type).trans (congrArg Host.Outcome.next (cspFrame_of_away _ on isUp isAway))
  case refused => exact (exec_request_of_type type).trans (congrArg Host.Outcome.next (cspFrame_of_bad _ on isUp here bad))
  case acts =>
    have taken (act : State → State) : s.cspFrame port.val b act = act a := cspFrame_of_good act on isUp here good
    refine ⟨fun type => ?request, fun r type waiting awaited => ?answer, fun r type named => ?data, fun type enabled part => ?part,
      fun type enabled header whole => ?whole⟩
    case request => exact (exec_request_of_type type).trans (congrArg Host.Outcome.next (taken _))
    case answer =>
      exact (exec_answer_of_type type).trans (congrArg Host.Outcome.next ((taken _).trans (answerActs_of_waiting waiting awaited)))
    case data => exact (exec_data_of_type type).trans (congrArg Host.Outcome.next ((taken _).trans (dataActs_of_request named)))
    case part =>
      exact (exec_trace_of_type type).trans (congrArg Host.Outcome.next ((taken _).trans (traceActs_of_part enabled part)))
    case whole =>
      have run : exec (.trace port b) s = _ := (exec_trace_of_type type).trans
        (congrArg Host.Outcome.next ((taken _).trans (traceActs_of_whole enabled header whole)))
      exact ⟨fun stalled => run.trans (congrArg Host.Outcome.next (withDram_of_stalled stalled)),
        fun ready => ⟨fun noEngine => run.trans (congrArg Host.Outcome.next ((withDram_of_ready ready).trans ((traceStore_eq _).trans
            (ringThermal_of_no_engine noEngine)))),
          fun e st engine stream => run.trans
            (congrArg Host.Outcome.next ((withDram_of_ready ready).trans ((traceStore_eq _).trans (ringThermal_of_engine engine stream))))⟩⟩
  case nak =>
    exact ⟨exec_chorusNak_of_answered on type sent, fun r n waiting ofSession awaited =>
      (exec_chorusNak_of_waiting on type sent waiting ofSession).trans
        (congrArg Host.Outcome.next (requestNaked_of_awaited awaited))⟩
  case ninth =>
    have run : exec (.hopRetransmit port made) s = .next (s.cspLinkDown port.val) := exec_hopRetransmit_of_last on running last
    exact ⟨fun inCascade => run.trans (congrArg Host.Outcome.next (cspLinkDown_of_member running inCascade)),
      fun notHead notMember => run.trans (congrArg Host.Outcome.next (cspLinkDown_of_not_member running notHead notMember))⟩

end Sys2Proof.Laws
end

/-! PROOFS. The Almanac: calibration records, runs and powered time, indicators and histories (20 R496-R515). -/

section
namespace Sys2Proof.Laws

open Sys2Proof Sys2Proof.Machine

/-! ### Calibration records by message -/

section
variable {s : State} {o : Origin} {seq : Word}

section
variable (up : s.takesUp (.msg o seq) [0x0404] .alm = true)
include up

theorem exec_calRecordAppend_of_not_ready (closed : s.ancState ≠ Anc.ready) :
    exec (.calRecordAppend o seq) s = .next (s.finish (.msg o seq) .alm AlmCode.notMounted 0 (zeros 16)) :=
  congrArg Host.Outcome.next ((onUnit_of_takesUp R.ALM_CTRL up).trans (if_pos closed))

theorem exec_calRecordAppend_of_full (ready : s.ancState = Anc.ready) (full : 4 ≤ s.appendCount) :
    exec (.calRecordAppend o seq) s = .next (s.finish (.msg o seq) .alm AlmCode.busy 0 (zeros 16)) :=
  congrArg Host.Outcome.next ((onUnit_of_takesUp R.ALM_CTRL up).trans ((if_neg (not_not_intro ready)).trans (if_pos full)))

theorem exec_calRecordAppend_of_room (ready : s.ancState = Anc.ready) (room : s.appendCount < 4) :
    exec (.calRecordAppend o seq) s = .next (s.transfer o seq 8 (s.hbLen o seq 8) 0 Unit.alm.top 0
      (.calAppend (bitAt (field (s.payload (.msg o seq)) 0 4) 0))) :=
  congrArg Host.Outcome.next ((onUnit_of_takesUp R.ALM_CTRL up).trans ((if_neg (not_not_intro ready)).trans
    (if_neg (Nat.not_le.mpr room))))

end

/-- A record on its way to the host, with the code of its answer. -/
def sendRecord (s : State) (o : Origin) (seq : Word) (code : Nat) (b : List Byte) : State :=
  (s.show .alm code 0).toHost o seq 8 code Unit.alm.top 0 b (leBytes 4 b.length ++ zeros 4)

/-- A record that is sent is transferred where it fits its buffer, and else answers SHORT_BUFFER. -/
theorem sendRecord_cases {code : Nat} {b : List Byte} (run : exec (.calRecordRead o seq) s = .next (sendRecord s o seq code b)) :
    let a := s.show .alm code 0
    let pay := leBytes 4 b.length ++ zeros 4
    (b.length ≤ a.hbLen o seq 8 → exec (.calRecordRead o seq) s
      = .next (a.transfer o seq 8 b.length code Unit.alm.top 0 (.toHost b pay)))
    ∧ (a.hbLen o seq 8 < b.length → exec (.calRecordRead o seq) s = .next (a.answer o seq HifCode.shortBuffer Unit.hif.top 0 pay)) :=
  ⟨fun fits => run.trans (congrArg Host.Outcome.next (toHost_of_fits fits)),
    fun short => run.trans (congrArg Host.Outcome.next (toHost_of_short short))⟩

section
variable (up : s.takesUp (.msg o seq) [0x0405] .alm = true)
include up

theorem exec_calRecordRead_of_factory (zero : field (s.payload (.msg o seq)) 0 4 = 0) :
    exec (.calRecordRead o seq) s = .next (sendRecord s o seq 0 s.otp.factory) :=
  congrArg Host.Outcome.next ((onUnit_of_takesUp R.ALM_CTRL up).trans (if_pos zero))

section
variable (chained : field (s.payload (.msg o seq)) 0 4 ≠ 0)
include chained

theorem exec_calRecordRead_of_valid {b : List Byte} (found : s.chainRec (field (s.payload (.msg o seq)) 0 4) = some (true, b)) :
    exec (.calRecordRead o seq) s = .next (sendRecord s o seq 0 b) := by
  refine congrArg Host.Outcome.next ((onUnit_of_takesUp R.ALM_CTRL up).trans ((if_neg chained).trans ?_))
  simp only [found]
  rfl

theorem exec_calRecordRead_of_lost {b : List Byte} (found : s.chainRec (field (s.payload (.msg o seq)) 0 4) = some (false, b)) :
    exec (.calRecordRead o seq) s = .next (sendRecord s o seq AlmCode.epochLost b) := by
  refine congrArg Host.Outcome.next ((onUnit_of_takesUp R.ALM_CTRL up).trans ((if_neg chained).trans ?_))
  simp only [found]
  rfl

theorem exec_calRecordRead_of_unknown (unknown : s.chainRec (field (s.payload (.msg o seq)) 0 4) = none) :
    exec (.calRecordRead o seq) s = .next (s.finish (.msg o seq) .alm AlmCode.epochUnknown
      (field (s.payload (.msg o seq)) 0 4 % 65536) (zeros 8)) := by
  refine congrArg Host.Outcome.next ((onUnit_of_takesUp R.ALM_CTRL up).trans ((if_neg chained).trans ?_))
  simp only [unknown]

end

end

end

/-! ### Runs and powered time -/

/-- The next run is numbered, and its record counts as stored from now. -/
def runNumbered (u : State) : State :=
  let z := u.setReg R.ALM_RUN (w32 (max (field u.newestRun 0 4) u.run + 1))
  { z with alm := { z.alm with runStored := some z.now } }

/-- A run record of the counts stands in a run sector; in the second where `other` says that the first failed. -/
def runRecorded (a : State) (other : Bool) : State :=
  (a.flashAppend runSector0 runSector1 a.runRecord other).setFlag F.ALM_STATUS.RUN_UNSTORED false

/-- The end of the run before, as the history of a run's start gives it, with the state in which it was taken. -/
def lastRunEnd (u b : State) : List Byte × State :=
  match u.alm.lastFrame with
  | some f => (leBytes 8 (f % 2 ^ 48), b)
  | none => b.freeBytes 8

/-- A run begins once its record stands in one of the two sectors. -/
theorem runStart_of_stored {u : State} {fails : Nat} (starting : u.almState = Alm.starting) (unstored : u.alm.runStored = none)
    (kept : fails < 2) :
    let l := lastRunEnd u (runRecorded (runNumbered u) (fails == 1))
    u.runStart fails = ((l.2.almEvent Hist.runStart Unit.alm.top 0
      (leBytes 4 u.run ++ l.1 ++ leBytes 1 0)).putHead.almEnter Alm.waitArchive).almArchive := by
  have due : ¬ (u.almState ≠ Alm.starting ∨ u.alm.runStored.isSome = true) := by
    rw [starting, unstored]; decide
  have inSector : ¬ fails ≥ 2 := Nat.not_le.mpr kept
  refine (if_neg due).trans ?_
  simp only [if_neg inSector]
  rfl

/-- The minute that a powered minute adds, in ALM_POWERED and in the hour, with the stress of its temperature. -/
def minutePowered (u : State) : State :=
  let tj := fInt (signed 16 (u.fld F.GLB_TJ.TJ)) / 16.0
  let z := u.setReg R.ALM_POWERED (u.reg R.ALM_POWERED + 1)
  { z with alm := { z.alm with
    stress := toF64 (f64 u.alm.stress + (8123.5 * (1.0 / 378.15 - 1.0 / (tj + 273.15))).exp), minutes := (z.alm.minutes + 1) % 60 } }

section
variable {s : State} {t : Nat} (running : s.glb.porHeld = false)
include running

theorem exec_poweredMinute_of_minute (stored : Bool) (within : (minutePowered (s.at_ t)).alm.minutes ≠ 0) :
    exec (.poweredMinute stored t) s = .next (minutePowered (s.at_ t)) :=
  congrArg Host.Outcome.next ((if_neg (Bool.eq_false_iff.mp running)).trans (if_pos within))

/-- The hour stores a run record. -/
theorem exec_poweredMinute_of_hour (full : (minutePowered (s.at_ t)).alm.minutes = 0)
    (off : (runRecorded (minutePowered (s.at_ t)) false).unitOn .alm = false) :
    exec (.poweredMinute true t) s = .next (runRecorded (minutePowered (s.at_ t)) false) :=
  congrArg Host.Outcome.next ((if_neg (Bool.eq_false_iff.mp running)).trans ((if_neg (not_not_intro full)).trans
    (if_neg (Bool.eq_false_iff.mp off))))

end

/-! ### Indicators and histories -/

/-- An indicator that reads a value takes it into its sums and the history. -/
def indicatorSampled (u : State) (id : Nat) (y : Float) : State :=
  let a := (u.setIndicator id ((u.indicator id).add id u.indNow y)).indPredict id
  a.histPut (a.histEntry Hist.indicator Unit.alm.top 0 (leBytes 2 id ++ zeros 2 ++ leBytes 4 u.indNow.floor.toUInt64.toNat
    ++ leBytes 8 (toF64 y)))

theorem indSample_of_read {u : State} {id : Nat} {y : Float} (read : u.indRead id = some y) :
    let b := indicatorSampled u id y
    u.indSample id = if id = 6 then { b with alm := { b.alm with corrAt := b.fld F.DMC_ECC_CORR.COUNT } }
      else if inRange 33 63 id then { b with alm := { b.alm with
        currents := tabPut (fun _ => (toF64 0.0, 0)) b.alm.currents (id - 32) (toF64 0.0, 0) } }
      else b := by
  simp only [State.indSample, read]
  rfl

theorem exec_indicatorSample_of_ready {s : State} {id : Fin 64} {t : Nat} (on : (s.at_ t).unitOn .alm = true)
    (ready : (s.at_ t).almState = Alm.ready) (issued : indIssued id = true) :
    exec (.indicatorSample id t) s = .next ((s.at_ t).indSample id) :=
  congrArg Host.Outcome.next (if_pos (by rw [on, ready, issued]; rfl))

/-- The histories of a state are a record of the archive. -/
def historySubmitted (a : State) : State :=
  let q := withPayload a 5 a.alm.buf.flatten (.history a.alm.buf.length a.anc.nextSeq)
  (({ q with alm := { q.alm with buf := [], firstEvent := none } } : State).histFill).ancStep

/-- What a command that submits the histories does where the archive takes them. -/
theorem exec_of_submitHist {c : Instr} {s a : State} (run : exec c s = .next a.submitHist) (held : a.alm.buf ≠ [])
    (policy : imgHas a.sil.active Sec.archivePolicy = true) (ready : a.ancState = Anc.ready) (open_ : a.anc.halting = false)
    (room : (a.makeRoom (a.alm.buf.flatten.length + 96)).1 = true) : exec c s = .next (historySubmitted a) :=
  run.trans (congrArg Host.Outcome.next (submitHist_of_room held policy ⟨ready, open_, room⟩))

/-! ### The epoch's load -/

theorem exec_epochLoadComplete_of_ready {s : State} {t : Nat} (loading : (s.at_ t).almState = Alm.loading)
    (ready : (s.at_ t).ancState = Anc.ready) : exec (.epochLoadComplete t) s = .next ((s.at_ t).almLoaded.thenStart (s.at_ t)) :=
  congrArg Host.Outcome.next (if_pos ⟨loading, ready⟩)

theorem almLoaded_of_factory {u : State} (zero : u.alm.loading = 0) :
    u.almLoaded = (u.indReplay.loadStore 0 false).almEnter Alm.ready := congrArg (State.almEnter · Alm.ready) (if_pos zero)

theorem almLoaded_of_valid {u : State} {b : List Byte} (chained : u.alm.loading ≠ 0)
    (found : u.indReplay.chainRec u.alm.loading = some (true, b)) :
    u.almLoaded = (u.indReplay.loadStore u.alm.loading false).almEnter Alm.ready := by
  refine congrArg (State.almEnter · Alm.ready) ((if_neg chained).trans ?_)
  simp only [found]

/-- Settles O59: a request by the archive and the epoch it names, a minute by the hour, the histories where the archive takes them. -/
theorem almanacComplete : Obligations.AlmanacComplete := by
  intro s o seq src fails stored id t m u e submit
  refine ⟨fun up => ⟨exec_calRecordAppend_of_not_ready up, exec_calRecordAppend_of_full up, exec_calRecordAppend_of_room up⟩,
    fun up => ⟨?factory, ?valid, ?lost, exec_calRecordRead_of_unknown up⟩, ?run,
    fun running => ⟨exec_poweredMinute_of_minute running stored, exec_poweredMinute_of_hour running⟩, ?sample,
    fun due => exec_of_submitHist (congrArg Host.Outcome.next (if_pos due)), fun loading ready => ⟨?noEpoch, ?epoch⟩,
    fun on => ⟨exec_of_submitHist (congrArg Host.Outcome.next (onUnit_on s (.reg src) .alm _ _ on)),
      congrArg Host.Outcome.next (onUnit_on s (.reg src) .alm _ _ on)⟩⟩
  case factory => exact fun zero => sendRecord_cases (exec_calRecordRead_of_factory up zero)
  case valid => exact fun b chained found => sendRecord_cases (exec_calRecordRead_of_valid up chained found)
  case lost => exact fun b chained found => sendRecord_cases (exec_calRecordRead_of_lost up chained found)
  case run =>
    exact fun starting unstored kept =>
      congrArg (fun a : State => Host.Outcome.next (a.thenStart u)) (runStart_of_stored starting unstored kept)
  case sample =>
    exact fun y on ready issued read => (exec_indicatorSample_of_ready on ready issued).trans
      (congrArg Host.Outcome.next (indSample_of_read read))
  case noEpoch =>
    exact fun zero => (exec_epochLoadComplete_of_ready loading ready).trans
      (congrArg (fun a : State => Host.Outcome.next (a.thenStart u)) (almLoaded_of_factory zero))
  case epoch =>
    exact fun b chained found => (exec_epochLoadComplete_of_ready loading ready).trans
      (congrArg (fun a : State => Host.Outcome.next (a.thenStart u)) (almLoaded_of_valid chained found))

end Sys2Proof.Laws
end
